-- ==== Sys2Proof/Word.lean ====
section
/-! DEFINITION. The word types of the block and their plainest arithmetic. -/

namespace Sys2Proof

/-- A register, 32 bits (R6). -/
abbrev Word := BitVec 32

/-- One byte of a packet, frame or image. -/
abbrev Byte := BitVec 8

/-- A 48-bit station address. -/
abbrev Mac := BitVec 48

end Sys2Proof
end

