-- ==== Sys2Proof/Syntax.lean ====
section
/-! DEFINITION. The commands of the block: one constructor of `Instr` for each row of the table of
    operations and events, with what its sender supplies.  A row that the host requests over
    Jarvas carries the request it answers (`Req`); a row that is an event on a pin, a fibre or in
    an analogue part carries the facts the block observes there. -/

namespace Sys2Proof

/-- The three Jarvas transports' connectors (R54, R57). -/
inductive JPort where
  | stnA | stnB | svc
  deriving DecidableEq, Repr

/-- The two station ports. -/
inductive Stn where
  | a | b
  deriving DecidableEq, Repr

/-- The three transceiver cages (R449). -/
inductive Cage where
  | pair | stnA | stnB
  deriving DecidableEq, Repr

/-- Where a command came from: its port, source station address, UDP source when it came by UDP,
    and VLAN tag when it carried one (R54, R55). -/
structure Src where
  port : JPort
  mac : Mac
  udp : Option (BitVec 32 × BitVec 16)
  vlan : Option (BitVec 12)
  deriving DecidableEq, Repr

/-- The request a command answers: its source and sequence number (R59, R62). -/
structure Req where
  src : Src
  seq : BitVec 32
  deriving DecidableEq, Repr

/-- What the UDP and IP headers of a datagram say (R55). -/
structure UdpHdr where
  srcIp : BitVec 32
  srcPort : BitVec 16
  dstIp : BitVec 32
  dstPort : BitVec 16
  fragmented : Bool
  sumOk : Bool
  deriving DecidableEq, Repr

/-- A frame or packet received on a Jarvas transport.  `fcsOk` is the Ethernet or HDLC check,
    `toUs` says that the frame names the receiving port's station address, `prpDup` that the PRP
    layer has already delivered it (R56). -/
structure RxPacket where
  port : JPort
  mac : Mac
  toUs : Bool
  fcsOk : Bool
  prpDup : Bool
  vlan : Option (BitVec 12)
  etherType : BitVec 16
  udp : Option UdpHdr
  bytes : List Byte
  deriving DecidableEq, Repr

/-- One range of a stream descriptor (R75). -/
structure StreamRange where
  off : BitVec 32
  len : BitVec 16
  deriving DecidableEq, Repr

/-- The stream descriptor of STREAM_OPEN (R75). -/
structure StreamDesc where
  id : BitVec 8
  route : BitVec 8
  dec : BitVec 16
  mac : Mac
  ip : BitVec 32
  udpPort : BitVec 16
  ranges : List StreamRange
  deriving DecidableEq, Repr, Inhabited

/-- The kinds of PTP message the block acts on (R317). -/
inductive PtpKind where
  | sync | followUp | announce | pdelayReq | pdelayResp | pdelayRespFollowUp | other
  deriving DecidableEq, Repr

/-- A received PTP message: its port, domain, sequence, source identity, and of its content the
    timestamp it carries in ns (`origin`), its correction in 2^-16 ns, the two-step flag, the log
    message interval, and for Announce its dataset as one number ordered as IEEE 1588 compares
    them, smaller better.  `inProfile` says the frame keeps the limits of R317; `fcsOk` its check. -/
structure PtpMsg where
  port : Stn
  kind : PtpKind
  domain : BitVec 8
  seq : BitVec 16
  source : BitVec 64
  grandmaster : BitVec 64
  origin : BitVec 64
  correction : Int
  twoStep : Bool
  logInterval : Int
  dataset : Nat
  inProfile : Bool
  fcsOk : Bool
  deriving DecidableEq, Repr

/-- The transceiver types of R449; `unlisted` is any other. -/
inductive XcvrType where
  | base100Sr4 | base100Cr4 | base10Sr | base10Lr | base1Sx | base1Lx | unlisted
  deriving DecidableEq, Repr

/-- The PLLs (R329). -/
inductive Pll where
  | core | mgmt | pair | stn
  | lane (e : Fin 16)
  deriving DecidableEq, Repr

/-- The clock monitors (R333). -/
inductive Monitor where
  | ref | core | mgmt | pair | stn
  | lane (e : Fin 16)
  deriving DecidableEq, Repr

/-- The units that can be fenced and re-admitted (R347, R352). -/
inductive FUnit where
  | slot (s : Fin 192)
  | leg (l : Fin 24)
  | port (p : Fin 8)
  | ctx (c : Fin 256)
  deriving DecidableEq, Repr

/-- The image types (R86). -/
inductive ImgType where
  | firmware | option | maquette
  deriving DecidableEq, Repr

/-- The two rails SUPPLY_SAG watches (R393). -/
inductive Rail where
  | aux24 | core
  deriving DecidableEq, Repr

/-- The SRAM regions an uncorrectable error may lie in (R400). -/
inductive SramRegion where
  | management | configInForce | maquette | imageFilling | imageFrozen | armature | edgeFrame
  | dmaTelemetry | eventStaging
  deriving DecidableEq, Repr

/-- One thermal sensor reading: a temperature in 1/16 °C, or a broken diode (R382). -/
inductive SensorReading where
  | temp (t : Int)
  | open
  | short
  deriving DecidableEq, Repr

/-- A safety contact: pairs A and B, contacts 1 and 2 (R369). -/
inductive Contact where
  | a1 | a2 | b1 | b2
  deriving DecidableEq, Repr

/-- The two things gate removal reads back (R366). -/
inductive Readback where
  | supplyA | supplyB | out1 | out2
  deriving DecidableEq, Repr

/-- What a calibration finds for one range: offset o in codes, gain correction G in 2^-20, and gain error in
    ppm (R295). -/
structure CalRange where
  o : Int
  g : Int
  ppm : Int
  deriving DecidableEq, Repr, Inhabited

/-- The commands of the block, one for each row of the table of operations and events. -/
inductive Instr where
  /-- JARVAS_PACKET_RX (R63). -/
  | jarvasPacketRx (p : RxPacket)
  /-- ARP_REQUEST_RX (R55). -/
  | arpRequestRx (port : Stn) (target : BitVec 32) (senderIp : BitVec 32) (senderMac : Mac)
  /-- PING (R69). -/
  | ping (rq : Req) (payload : List Byte)
  /-- IDENT (R91). -/
  | ident (rq : Req)
  /-- REG_READ (R71). -/
  | regRead (rq : Req) (addr : Word)
  /-- REG_WRITE (R72). -/
  | regWrite (rq : Req) (addr v : Word)
  /-- REG_READ_BLOCK (R70). -/
  | regReadBlock (rq : Req) (start : Word) (n : BitVec 16)
  /-- REG_WRITE_BLOCK (R72). -/
  | regWriteBlock (rq : Req) (start : Word) (vals : List Word)
  /-- CAST (R48). -/
  | cast (rq : Req)
  /-- CAST_AT (R47). -/
  | castAt (rq : Req) (t : BitVec 64)
  /-- MAQUETTE_DISCARD (R44). -/
  | maquetteDiscard (rq : Req)
  /-- IMAGE_READ (R73). -/
  | imageRead (rq : Req) (off : Word) (len : BitVec 16)
  /-- STREAM_OPEN (R76). -/
  | streamOpen (rq : Req) (desc : StreamDesc)
  /-- STREAM_CLOSE (R79). -/
  | streamClose (rq : Req) (id : BitVec 8)
  /-- CONVERTER_START (R123). -/
  | converterStart (rq : Req)
  /-- CONVERTER_STOP (R80). -/
  | converterStop (rq : Req)
  /-- SAFE_STOP (R81). -/
  | safeStop (rq : Req)
  /-- CELL_FENCE (R80). -/
  | cellFence (rq : Req) (slot : BitVec 16)
  /-- CELL_RESEAT (R80). -/
  | cellReseat (rq : Req) (slot : BitVec 16)
  /-- EVENT_READ (R82). -/
  | eventRead (rq : Req) (first : BitVec 32) (m : BitVec 16)
  /-- EVENT_ACK (R82). -/
  | eventAck (rq : Req) (n : BitVec 32)
  /-- FAULT_CLEAR (R83). -/
  | faultClear (rq : Req) (unit : BitVec 8) (idx : BitVec 16)
  /-- INJECT (R355). -/
  | inject (rq : Req) (checker : BitVec 8) (idx n : BitVec 16)
  /-- LATENCY_TOL (R389). -/
  | latencyTol (rq : Req) (tol : BitVec 32)
  /-- IMAGE_WRITE (R86). -/
  | imageWrite (rq : Req) (type : BitVec 8) (off : Word) (data : List Byte)
  /-- IMAGE_VERIFY (R413). -/
  | imageVerify (rq : Req) (type : BitVec 8)
  /-- IMAGE_ACTIVATE (R415). -/
  | imageActivate (rq : Req) (type : BitVec 8)
  /-- ATTEST (R419). -/
  | attest (rq : Req) (nonce : List Byte)
  /-- QUERY_LAST (R68). -/
  | queryLast (rq : Req)
  /-- RESET (R89). -/
  | reset (rq : Req) (level : BitVec 8) (key : BitVec 24)
  /-- PLINTH_EXIT (R90). -/
  | plinthExit (rq : Req) (key : BitVec 32)
  /-- MAQUETTE_WRITE (R42). -/
  | maquetteWrite (rq : Req) (addr v : Word)
  /-- REG_FIELD_WRITE (R8). -/
  | regFieldWrite (rq : Req) (addr v : Word)
  /-- TIME_INC_INT_WRITE (R313). -/
  | timeIncIntWrite (rq : Req) (v : Word)
  /-- TIME_INC_FRAC_WRITE (R313). -/
  | timeIncFracWrite (rq : Req) (v : Word)
  /-- TIME_ADJ_DELTA_WRITE (R313). -/
  | timeAdjDeltaWrite (rq : Req) (v : Word)
  /-- TIME_ADJ_CNT_WRITE (R314). -/
  | timeAdjCntWrite (rq : Req) (v : Word)
  /-- ADJ_STOP (R314). -/
  | adjStop (rq : Req)
  /-- TIME_STEP_REQUEST (R315). -/
  | timeStepRequest (rq : Req)
  /-- TIME_NOW_READ (R336). -/
  | timeNowRead (rq : Req)
  /-- TS_POP (R328). -/
  | tsPop (rq : Req) (k : Fin 16)
  /-- PWM_LEG_FORCE_WRITE (R252). -/
  | pwmLegForceWrite (rq : Req) (l : Fin 24) (v : Word)
  /-- ADC_SCAN_SELECT (R300). -/
  | adcScanSelect (rq : Req) (on : Bool)
  /-- ADC_CAPTURE_HALT (R301). -/
  | adcCaptureHalt (rq : Req) (on : Bool)
  /-- ADC_ROT_HOLD (R296). -/
  | adcRotHold (rq : Req) (on : Bool)
  /-- ADC_HOST_TAKE (R302). -/
  | adcHostTake (rq : Req) (mask : BitVec 8)
  /-- ADC_SCAN_MASK_WRITE (R300). -/
  | adcScanMaskWrite (rq : Req) (high : Bool) (v : Word)
  /-- ADC_DATA_READ (R302). -/
  | adcDataRead (rq : Req) (k : Fin 8)
  /-- LINK_TEST_START (R204). -/
  | linkTestStart (rq : Req) (l : Fin 192)
  /-- LINK_TEST_STOP (R204). -/
  | linkTestStop (rq : Req) (l : Fin 192)
  /-- PWM_DIAG_START (R263). -/
  | pwmDiagStart (rq : Req) (mask : BitVec 12)
  /-- PAIR_HANDOVER (R150). -/
  | pairHandover (rq : Req)
  /-- LEDGER_COMMIT_REQUEST (R230). -/
  | ledgerCommitRequest (rq : Req)
  /-- FALLBACK_RESUME (R287). -/
  | fallbackResume (rq : Req)
  /-- DMA_CH_LOAD (R427). -/
  | dmaChLoad (rq : Req) (ch : Fin 32)
  /-- DMA_CH_STOP (R429). -/
  | dmaChStop (rq : Req) (ch : Fin 32)
  /-- DMA_RESTART (R432). -/
  | dmaRestart (rq : Req)
  /-- STROKE_TICK (R27). -/
  | strokeTick
  /-- REPORT_WINDOW_CLOSE (R34). -/
  | reportWindowClose
  /-- CHISEL_COMPILE (R154). -/
  | chiselCompile
  /-- MAQUETTE_RESYNC_END (R50). -/
  | maquetteResyncEnd
  /-- IMAGE_FREEZE (R37). -/
  | imageFreeze
  /-- STROKE_CHANNEL_RUN (R423). -/
  | strokeChannelRun (k : Fin 8)
  /-- HOST_CHANNEL_TRANSFER_DONE (R430). -/
  | hostChannelTransferDone (ch : Fin 32)
  /-- DMA_BUS_ERROR (R431). -/
  | dmaBusError (ch : Fin 32) (kind : BitVec 2) (addr : Word)
  /-- TIMING_RESTORED (R52). -/
  | timingRestored
  /-- TIMING_LOST (R125). -/
  | timingLost
  /-- PRECHARGE_COMPLETE (R121). -/
  | prechargeComplete
  /-- SYNC_COMPLETE (R121). -/
  | syncComplete
  /-- STOP_COMPLETE (R121). -/
  | stopComplete
  /-- PRECHARGE_TIMEOUT (R126). -/
  | prechargeTimeout
  /-- SYNC_TIMEOUT (R126). -/
  | syncTimeout
  /-- GRID_TRACKER_LOCK (R128). -/
  | gridTrackerLock
  /-- GRID_LOST (R128). -/
  | gridLost
  /-- HEADROOM_CHANGE (R141). -/
  | headroomChange
  /-- CTX_SOURCE_LOST (R116). -/
  | ctxSourceLost (c : Fin 256)
  /-- PAIR_FRAME_RX (R147). -/
  | pairFrameRx (bytes : List Byte)
  /-- PAIR_LOST (R126). -/
  | pairLost
  /-- PAIR_WAIT_TIMEOUT (R145). -/
  | pairWaitTimeout
  /-- BEACON_BURST_SEND (R184). -/
  | beaconBurstSend (l : Fin 192)
  /-- BEACON_ANSWER_RX (R184). -/
  | beaconAnswerRx (l : Fin 192)
  /-- LIGHT_LOSS (R183). -/
  | lightLoss (l : Fin 192)
  /-- BLOCK_LOCK_GAIN (R185). -/
  | blockLockGain (l : Fin 192)
  /-- BLOCK_LOCK_LOSS (R185). -/
  | blockLockLoss (l : Fin 192)
  /-- MARKER_RX (R185). -/
  | markerRx (l : Fin 192) (farLock : Bool)
  /-- TRAIN_LOCKED (R185). -/
  | trainLocked (l : Fin 192)
  /-- TRAIN_TIMEOUT (R183). -/
  | trainTimeout (l : Fin 192)
  /-- ECHO_RSP_RX (R186). -/
  | echoRspRx (l : Fin 192) (num : BitVec 8) (loop : BitVec 32)
  /-- ECHO_TIMEOUT (R186). -/
  | echoTimeout (l : Fin 192)
  /-- CAPABILITY_FRAME_RX (R187). -/
  | capabilityFrameRx (l : Fin 192) (bytes : List Byte)
  /-- CAPEX_TIMEOUT (R183). -/
  | capexTimeout (l : Fin 192)
  /-- REPORT_FRAME_RX (R192). -/
  | reportFrameRx (l : Fin 192) (bytes : List Byte)
  /-- TEST_PATTERN_START (R204). -/
  | testPatternStart (l : Fin 192)
  /-- TEST_END (R203): the errors the module's checker counted beside those that cost it its sync. -/
  | testEnd (l : Fin 192) (errs : BitVec 32)
  /-- TEST_DARK_END (R204). -/
  | testDarkEnd (l : Fin 192)
  /-- TEST_RESULT_TIMEOUT (R203). -/
  | testResultTimeout (l : Fin 192)
  /-- EYE_SCAN (R436). -/
  | eyeScan (l : Fin 192) (height width : BitVec 8)
  /-- BLOCK_DECISION (R36). -/
  | blockDecision
  /-- PROBE_STEP_TIMEOUT (R214). -/
  | probeStepTimeout (s : Fin 192)
  /-- CHARGE_HOLD_MET (R215). -/
  | chargeHoldMet (s : Fin 192)
  /-- JOINING_COMPLETE (R216). -/
  | joiningComplete (s : Fin 192)
  /-- CHARGING_TIMEOUT (R210). -/
  | chargingTimeout (s : Fin 192)
  /-- SPARE_ROTATION (R225). -/
  | spareRotation (arm : Fin 3)
  /-- AUTO_READMIT (R352). -/
  | autoReadmit (u : FUnit)
  /-- WEAR_INDEX_COMPUTE (R229). -/
  | wearIndexCompute
  /-- LEDGER_COMMIT (R230). -/
  | ledgerCommit
  /-- LEDGER_COMMIT_DONE (R230). -/
  | ledgerCommitDone (ok : Bool)
  /-- PWM_UPDATE_POINT (R243). -/
  | pwmUpdatePoint (l : Fin 24)
  /-- LEG_EDGE (R243). -/
  | legEdge (l : Fin 24)
  /-- BOOTSTRAP_REFRESH (R250). -/
  | bootstrapRefresh (l : Fin 24)
  /-- INTERLOCK_ACT (R251). -/
  | interlockAct (l : Fin 24)
  /-- INTERLOCK_PERSIST (R251). -/
  | interlockPersist (l : Fin 24)
  /-- DESAT_DETECT (R253). -/
  | desatDetect (l : Fin 24) (upper : Bool)
  /-- FAST_CURRENT_TRIP (R254). -/
  | fastCurrentTrip (l : Fin 24)
  /-- GATE_STUCK (R257). -/
  | gateStuck (p : Fin 8)
  /-- STATIC_SHORT (R255). -/
  | staticShort (p : Fin 8)
  /-- TRIP_INPUT (R258). -/
  | tripInput (k : Fin 16) (level : Bool)
  /-- GATE_UVLO (R267). -/
  | gateUvlo (ch : Fin 56) (low : Bool)
  /-- DIAG_PHASE_END (R261). -/
  | diagPhaseEnd (group : Fin 12) (meanMv : Int)
  /-- BRAKE_ON (R264). -/
  | brakeOn
  /-- BRAKE_OFF (R264). -/
  | brakeOff
  /-- BRAKE_LONG (R264). -/
  | brakeLong
  /-- PORT_CLOSE_SETTLED (R275). -/
  | portCloseSettled (p : Fin 8)
  /-- PORT_CLOSE_FAIL (R275). -/
  | portCloseFail (p : Fin 8)
  /-- COT_COMPARATOR_FIRE (R280). -/
  | cotComparatorFire (p : Fin 8)
  /-- ON_TIME_END (R280). -/
  | onTimeEnd (p : Fin 8) (second : Bool)
  /-- DIODE_EMULATION_END (R280). -/
  | diodeEmulationEnd (p : Fin 8) (second : Bool)
  /-- FAST_LIMIT_TRIP (R282). -/
  | fastLimitTrip (p : Fin 8) (second : Bool)
  /-- HICCUP_CONDITION (R284). -/
  | hiccupCondition (p : Fin 8)
  /-- SOFT_START_CHECK (R281). -/
  | softStartCheck (p : Fin 8)
  /-- HICCUP_OFF_END (R284). -/
  | hiccupOffEnd (p : Fin 8)
  /-- PORT_STOP_COMPLETE (R278). -/
  | portStopComplete (p : Fin 8)
  /-- PORT_RETRY_RESET (R275). -/
  | portRetryReset (p : Fin 8)
  /-- FALLBACK_HOST_LOSS (R287). -/
  | fallbackHostLoss
  /-- FALLBACK_PIN (R287). -/
  | fallbackPin (low : Bool)
  /-- VSEL_SAMPLE (R287). -/
  | vselSample (v : BitVec 3)
  /-- ADC_SLOT_CONVERSION (R294). -/
  | adcSlotConversion (k : Fin 8) (raw : BitVec 16)
  /-- ADC_HANDOVER (R296). -/
  | adcHandover
  /-- ADC_CAL_COMPLETE (R295): what the calibration found, per range. -/
  | adcCalComplete (conv : Fin 9) (cal : List CalRange)
  /-- ADJUSTMENT_END (R314). -/
  | adjustmentEnd
  /-- PTP_MESSAGE_RX (R317). -/
  | ptpMessageRx (m : PtpMsg)
  /-- PDELAY_REQ_SEND (R317). -/
  | pdelayReqSend (port : Stn)
  /-- PTP_DOMAIN_LOST (R320). -/
  | ptpDomainLost (dom : Fin 2)
  /-- TS_EDGE (R328). -/
  | tsEdge (k : Fin 16) (rising : Bool)
  /-- PLL_HOLDOVER (R331). -/
  | pllHoldover (pll : Pll)
  /-- PLL_RELOCK (R331). -/
  | pllRelock (pll : Pll)
  /-- PLL_BAND_FAIL (R332). -/
  | pllBandFail (pll : Pll)
  /-- CLOCK_MONITOR_FAIL (R333). -/
  | clockMonitorFail (mon : Monitor)
  /-- CLOCK_MONITOR_PASS (R333). -/
  | clockMonitorPass (mon : Monitor)
  /-- TRANSCEIVER_INSERT (R449): the declared type, and the power of the declared class in mW. -/
  | transceiverInsert (cage : Cage) (type : XcvrType) (power : Nat)
  /-- EVENT_NUMBERING (R348). -/
  | eventNumbering
  /-- EVENT_COMMIT (R351). -/
  | eventCommit
  /-- CONTACT_PAIR_OPEN (R369). -/
  | contactPairOpen (c : Contact)
  /-- TEST_PULSE_END (R370). -/
  | testPulseEnd (tp2 : Bool) (stuck : List Contact)
  /-- DISCREPANCY_TIME (R370). -/
  | discrepancyTime (pairB : Bool)
  /-- SAFE_RESET_EDGE (R374). -/
  | safeResetEdge
  /-- SAFE_FRAME_RX (R373). -/
  | safeFrameRx (port : Stn) (bytes : List Byte)
  /-- SAFE_COPY_WINDOW_EXPIRY (R373). -/
  | safeCopyWindowExpiry
  /-- SAFE_FRAME_WATCH (R373). -/
  | safeFrameWatch
  /-- SAFE_RAMP_TIMEOUT (R365). -/
  | safeRampTimeout
  /-- GATE_REMOVAL (R366). -/
  | gateRemoval
  /-- REMOVAL_READBACK_FAIL (R366). -/
  | removalReadbackFail (which : Readback)
  /-- SAFE_CHANNEL_MISMATCH (R376). -/
  | safeChannelMismatch
  /-- SAFE_AUTO_START (R375). -/
  | safeAutoStart
  /-- THERMAL_READ (R382). -/
  | thermalRead (readings : List SensorReading)
  /-- SENSOR_DISAGREE (R382). -/
  | sensorDisagree (h : Fin 10) (on : Bool)
  /-- POWER_STATE_MOVE_DONE (R389). -/
  | powerStateMoveDone
  /-- WAKE_N (R392). -/
  | wakeN
  /-- SUPPLY_SAG (R393). -/
  | supplySag (rail : Rail)
  /-- SAG_LEVEL2 (R393). -/
  | sagLevel2
  /-- SAG_RECOVER (R393). -/
  | sagRecover
  /-- BROWNOUT (R393). -/
  | brownout
  /-- POWER_ON_RESET (R396). -/
  | powerOnReset
  /-- RESET_N_PIN (R397). -/
  | resetNPin
  /-- SYSTEM_RESET_PREP (R398). -/
  | systemResetPrep
  /-- WATCHDOG_EXPIRY (R399). -/
  | watchdogExpiry
  /-- LOCKSTEP_MISMATCH (R14). -/
  | lockstepMismatch
  /-- SRAM_UNCORR (R400). -/
  | sramUncorr (region : SramRegion) (addr : Word)
  /-- REG_PARITY (R444). -/
  | regParity (addr : Word)
  /-- SRAM_SCRUB_PASS (R435): the words corrected, and where its next reads lie, should injected checks fall on
      them (R355). -/
  | sramScrubPass (corrected : Nat) (reads : List (SramRegion × Word))
  /-- WEAR_LEVEL_MOVE (R437): the errors that the flash check corrected as the block was read. -/
  | wearLevelMove (corrected : Nat)
  /-- CORE_RESET_RESTART (R401). -/
  | coreResetRestart
  /-- STROKE_WATCH_EXPIRY (R399). -/
  | strokeWatchExpiry
  /-- DOMAIN_RELEASE (R404). -/
  | domainRelease (d : Fin 8)
  /-- START_CONFIG_LOAD (R407). -/
  | startConfigLoad
  /-- START_COMPLETE (R408). -/
  | startComplete
  /-- START_TIMEOUT (R399). -/
  | startTimeout
  /-- CONTACT_PAIR_CLOSE (R370). -/
  | contactPairClose (c : Contact)
  /-- TEST_PULSE_START (R370). -/
  | testPulseStart (tp2 : Bool)
  /-- GATE_OFF_CONFIRMED (R257). -/
  | gateOffConfirmed (p : Fin 8)
  /-- GATE24_CHANGE (R452). -/
  | gate24Change (ok : Bool)
  /-- PRBS_SYNC_GAIN (R203). -/
  | prbsSyncGain (l : Fin 192)
  /-- PRBS_SYNC_LOSS (R203). -/
  | prbsSyncLoss (l : Fin 192)
  /-- BIT_LOCK_CHANGE (R185). -/
  | bitLockChange (l : Fin 192) (on : Bool)
  /-- LIGHT_RETURN (R183). -/
  | lightReturn (l : Fin 192)
  /-- STREAM_BUFFER_DRAINED (R423). -/
  | streamBufferDrained (port : Stn)
  /-- TRANSCEIVER_REMOVE (R449). -/
  | transceiverRemove (cage : Cage)
  /-- STATION_LINK_CHANGE (R423). -/
  | stationLinkChange (port : Stn) (up : Bool)
  /-- IMAGE_PROGRAM_DONE (R86). -/
  | imageProgramDone (type : ImgType)
  /-- IMAGE_WRITE_TIMEOUT (R86). -/
  | imageWriteTimeout (type : ImgType)
  /-- IMAGE_VERIFY_DONE (R87). -/
  | imageVerifyDone (type : ImgType)
  /-- SAFE_RESTORE_READBACK_FAIL (R374). -/
  | safeRestoreReadbackFail
  /-- DEBUG_OVERRIDE (R409). -/
  | debugOverride (mask : BitVec 8)
  deriving DecidableEq, Repr

end Sys2Proof
end

