-- ==== Sys2Proof/Decode.lean ====
section
/-! DEFINITION. Words of commands.  The table of operations gives no row any bits: a command is what a
    port, a pin or an engine presents, never a word that is decoded (R439). -/

namespace Sys2Proof

/-- The command a table word spells: none, as no row of the table has bits. -/
def decodeTableWord (_nbits _w : Nat) : Option Instr := none

end Sys2Proof
end

