-- ==== Sys2Proof/Config.lean ====
section
/-! DEFINITION. What one module fixes, and the values the manual leaves open.  Every constant
    named opaque is so: nothing can be proved of its value. -/

namespace Sys2Proof.Config

/-- The n-th free value: a value the manual does not fix (log entry 3). -/
opaque freeValue : Nat → BitVec 64

/-- The grid tracker in one stroke (R128), whose loop the manual does not give: from the free value's number, the bandwidth
    and the three phase voltages it makes, each in 32 bits, the angle, the frequency, the amplitude and the quadrature
    voltage (log entry 3). -/
opaque gridTracker : Nat → Nat → List Int → BitVec 128

/-- How much of the difference between the increment and the domain's rate the servo's rate loop takes up at one offset
    measurement, in 2^-16 of it: the manual does not give the loop (R322).  From the free value's number and the
    bandwidth BW (log entry 3). -/
opaque servoLoop : Nat → Nat → BitVec 16

/-- The 512-bit output of SHAKE256 over a message (R413, R419). -/
opaque shake256 : List Byte → BitVec 512

/-- The module's identity public key, 57 bytes (R418). -/
opaque identityKey : BitVec 456

/-- The identity key's signature over a report, 114 bytes (R419). -/
opaque identitySign : List Byte → BitVec 912

/-- Does a signature (Ed448) over a message verify under a key that is not the module's own? -/
opaque ed448Other : List Byte → List Byte → List Byte → Bool

/-- The number that bytes spell, the most significant first. -/
def number (bs : List Byte) : Nat := bs.foldl (fun a x => 256 * a + x.toNat) 0

/-- Does a signature (Ed448, 114 bytes) over a message verify under a key (57 bytes)?  What the identity key signs verifies
    under its public key. (R413, R414, R418, R419) -/
def ed448Verify (key msg sig : List Byte) : Bool :=
  (number key == identityKey.toNat && number sig == (identitySign msg).toNat) || ed448Other key msg sig

/-- The certificate of the identity key in DER but for its subject's serial number and its public key: how many bytes stand
    before the one, between the two and after them, and which (R418). -/
opaque certPart : Fin 3 → Fin 651
opaque certByte : Fin 3 → Nat → Byte

/-- The level of the SAFE_RESET input at an uptime in ps after an edge: no command of the block says when it falls
    (R371, R380; log entry 137). -/
opaque safeResetLevel : Nat → Bool

/-- Serial number in ASCII, 16 bytes (R91). -/
opaque serial : BitVec 128

/-- Station addresses of STN-A and STN-B (R91). -/
opaque macA : Mac
opaque macB : Mac

/-- Digest of the Nymgen root key set at manufacture (R413). -/
opaque rootDigest : BitVec 512

/-- The scale words V_LSB (0) and I_LSB (1) of the factory's option image, less 1: every option image sets them, to 1 to
    1,000,000 (R380). -/
opaque factoryScale : Nat → Fin 1000000

/-- Image digests of the factory's firmware (0) and option (1) images (R412). -/
opaque factoryDigest : Nat → BitVec 512

end Sys2Proof.Config
end

