-- ==== Sys2Proof/Machine/RegMap.lean ====
section
/-! DEFINITION. Every field of every register of the Register map (R440 to R445), one constant
    a field, with its address, bits, access code (R8), reset value (R9), Kept by entry (R10) and the
    range its description gives.  A register that is an array takes its index; an index of a second
    dimension follows.  Where the Reset column has a dash, `reset` is the default the description
    gives (the value of a configuration or option image that does not set it); NV contents the
    manual gives no default for read 0 (log entry 4). -/

namespace Sys2Proof.Machine

/-- The access codes of R8. -/
inductive Access where
  | ro | rw | wo | w1c | rc | cr
  deriving DecidableEq, Repr

/-- The Kept by entries of R10 that the register tables use. -/
inductive Kept where
  /-- a dash: survives no reset -/
  | none
  /-- C -/
  | c
  /-- C, P3 -/
  | cP3
  /-- C, S, P3 -/
  | cSP3
  /-- C, S, P3, P4 -/
  | cSP3P4
  /-- NV: lives in flash -/
  | nv
  deriving DecidableEq, Repr

/-- The range a field's description gives for the values a cast accepts (R46). -/
inductive Lim where
  | any
  | within (lo hi : Nat)
  | zeroOr (lo hi : Nat)
  | signed (lo hi : Int)
  deriving DecidableEq, Repr

/-- One field of one register. -/
structure Field where
  addr : Nat
  lo : Nat
  width : Nat
  acc : Access
  reset : Nat
  kept : Kept
  lim : Lim
  deriving DecidableEq, Repr

/-- A field's place in the whole register space: the address of its lowest bit, in bits. -/
def Field.key (f : Field) : Nat := f.addr * 8 + f.lo

/-- The default class of source `k` (R340); 0 for reserved sources. -/
def evtDefaultClass (k : Nat) : Nat :=
  if [163, 232, 235].contains k then 4
  else if [130, 131, 133, 162].contains k then 3
  else if [41, 132, 134].contains k then 2
  else if [96, 97, 160, 161, 166, 167, 168, 193, 194, 196].contains k then 1
  else 0

/-- The sources whose class is fixed (R340). -/
def evtFixedSources : List Nat := [12, 13, 32, 33, 34, 35, 37, 38, 66, 224, 225, 226, 227, 228, 229, 230, 231, 232, 235]

/-- Is source `k` of a fixed class (R340)? -/
def evtFixed (k : Nat) : Bool := evtFixedSources.contains k

/-- The sources R340 lists; every other is reserved (R339). -/
def evtListed : List Nat :=
  [0, 1, 2, 3, 4, 5, 6, 7, 8, 9, 10, 11, 12, 13, 32, 33, 34, 35, 36, 37, 38, 39, 40, 41]
  ++ [42, 43, 44, 45, 46, 64, 65, 66, 67, 68, 96, 97, 98, 99, 100, 101, 102, 103, 104, 105, 128, 129, 130, 131]
  ++ [132, 133, 134, 135, 136, 137, 138, 139, 160, 161, 162, 163, 164, 165, 166, 167, 168, 169, 192, 193, 194, 195, 196, 224]
  ++ [225, 226, 227, 228, 229, 230, 231, 232, 233, 234, 235, 236]

namespace Reg

/-! ### SYS: stroke, cast, Jarvas, converter, pair, campus and power state -/

/-- `SYS_STROKE_CFG.UPDATE` (R53). -/
def SYS_STROKE_CFG_UPDATE : Field :=
  { addr := 0x100, lo := 0, width := 1, acc := .cr, reset := 0, kept := .cP3, lim := .any }
/-- `SYS_STROKE_NS.PERIOD` (R53). -/
def SYS_STROKE_NS_PERIOD : Field :=
  { addr := 0x104, lo := 0, width := 17, acc := .cr, reset := 25000, kept := .cP3, lim := .within 10000 100000 }
/-- `SYS_STROKE_EPOCH_LO.EPOCH` (R53). -/
def SYS_STROKE_EPOCH_LO_EPOCH : Field :=
  { addr := 0x108, lo := 0, width := 32, acc := .cr, reset := 0, kept := .cP3, lim := .any }
/-- `SYS_STROKE_EPOCH_HI.EPOCH` (R53). -/
def SYS_STROKE_EPOCH_HI_EPOCH : Field :=
  { addr := 0x10C, lo := 0, width := 32, acc := .cr, reset := 0, kept := .cP3, lim := .any }
/-- `SYS_STROKE_NUM_LO.NUM` (R53). -/
def SYS_STROKE_NUM_LO_NUM : Field :=
  { addr := 0x110, lo := 0, width := 32, acc := .ro, reset := 0, kept := .cP3, lim := .any }
/-- `SYS_STROKE_NUM_HI.NUM` (R53). -/
def SYS_STROKE_NUM_HI_NUM : Field :=
  { addr := 0x114, lo := 0, width := 32, acc := .ro, reset := 0, kept := .cP3, lim := .any }
/-- `SYS_STROKE_STAT.UNTIMED` (R53). -/
def SYS_STROKE_STAT_UNTIMED : Field :=
  { addr := 0x118, lo := 0, width := 1, acc := .ro, reset := 0, kept := .cP3, lim := .any }
/-- `SYS_STROKE_STAT.DMA_OVR` (R53). -/
def SYS_STROKE_STAT_DMA_OVR : Field :=
  { addr := 0x118, lo := 1, width := 1, acc := .ro, reset := 0, kept := .cP3, lim := .any }
/-- `SYS_STROKE_STAT.REPORT_MISS` (R53). -/
def SYS_STROKE_STAT_REPORT_MISS : Field :=
  { addr := 0x118, lo := 2, width := 1, acc := .ro, reset := 0, kept := .cP3, lim := .any }
/-- `SYS_STROKE_STAT.CAST` (R53). -/
def SYS_STROKE_STAT_CAST : Field :=
  { addr := 0x118, lo := 3, width := 1, acc := .ro, reset := 0, kept := .cP3, lim := .any }
/-- `SYS_STROKE_STAT.CARRIER` (R53). -/
def SYS_STROKE_STAT_CARRIER : Field :=
  { addr := 0x118, lo := 4, width := 1, acc := .ro, reset := 1, kept := .cP3, lim := .any }
/-- `SYS_STROKE_STAT.MISS_COUNT` (R53). -/
def SYS_STROKE_STAT_MISS_COUNT : Field :=
  { addr := 0x118, lo := 8, width := 8, acc := .ro, reset := 0, kept := .cP3, lim := .any }
/-- `SYS_LATE_RPT_CNT.COUNT` (R53). -/
def SYS_LATE_RPT_CNT_COUNT : Field :=
  { addr := 0x11C, lo := 0, width := 32, acc := .rc, reset := 0, kept := .cP3, lim := .any }
/-- `SYS_OVERRUN_CNT.COUNT` (R53). -/
def SYS_OVERRUN_CNT_COUNT : Field :=
  { addr := 0x120, lo := 0, width := 32, acc := .rc, reset := 0, kept := .cP3, lim := .any }
/-- `SYS_CAST_STAT.STATE` (R53). -/
def SYS_CAST_STAT_STATE : Field :=
  { addr := 0x130, lo := 0, width := 3, acc := .ro, reset := 0, kept := .cP3, lim := .any }
/-- `SYS_CAST_STAT.ERR` (R53). -/
def SYS_CAST_STAT_ERR : Field :=
  { addr := 0x130, lo := 8, width := 8, acc := .ro, reset := 0, kept := .cP3, lim := .any }
/-- `SYS_CAST_TARGET_LO.BOUNDARY` (R53). -/
def SYS_CAST_TARGET_LO_BOUNDARY : Field :=
  { addr := 0x134, lo := 0, width := 32, acc := .ro, reset := 0, kept := .cP3, lim := .any }
/-- `SYS_CAST_TARGET_HI.BOUNDARY` (R53). -/
def SYS_CAST_TARGET_HI_BOUNDARY : Field :=
  { addr := 0x138, lo := 0, width := 32, acc := .ro, reset := 0, kept := .cP3, lim := .any }
/-- `SYS_CAST_LAST_LO.STROKE` (R53). -/
def SYS_CAST_LAST_LO_STROKE : Field :=
  { addr := 0x13C, lo := 0, width := 32, acc := .ro, reset := 0, kept := .cP3, lim := .any }
/-- `SYS_CAST_LAST_HI.STROKE` (R53). -/
def SYS_CAST_LAST_HI_STROKE : Field :=
  { addr := 0x140, lo := 0, width := 32, acc := .ro, reset := 0, kept := .cP3, lim := .any }
/-- `SYS_CAST_COUNT.COUNT` (R53). -/
def SYS_CAST_COUNT_COUNT : Field :=
  { addr := 0x144, lo := 0, width := 32, acc := .ro, reset := 0, kept := .cP3, lim := .any }
/-- `SYS_MAQ_STAT.DIRTY_WORDS` (R53). -/
def SYS_MAQ_STAT_DIRTY_WORDS : Field :=
  { addr := 0x148, lo := 0, width := 20, acc := .ro, reset := 0, kept := .cP3, lim := .any }
/-- `SYS_MAQ_STAT.LOCKED` (R53). -/
def SYS_MAQ_STAT_LOCKED : Field :=
  { addr := 0x148, lo := 31, width := 1, acc := .ro, reset := 0, kept := .cP3, lim := .any }
/-- `SYS_CAST_ERR_ADDR.ADDR` (R53). -/
def SYS_CAST_ERR_ADDR_ADDR : Field :=
  { addr := 0x14C, lo := 0, width := 32, acc := .ro, reset := 0, kept := .cP3, lim := .any }
/-- `SYS_JARVAS_CFG.ETHERTYPE` (R94). -/
def SYS_JARVAS_CFG_ETHERTYPE : Field :=
  { addr := 0x200, lo := 0, width := 16, acc := .ro, reset := 34997, kept := .nv, lim := .any }
/-- `SYS_JARVAS_CFG.UDP_EN` (R94). -/
def SYS_JARVAS_CFG_UDP_EN : Field :=
  { addr := 0x200, lo := 16, width := 1, acc := .ro, reset := 0, kept := .nv, lim := .any }
/-- `SYS_JARVAS_CFG.UART_EN` (R94). -/
def SYS_JARVAS_CFG_UART_EN : Field :=
  { addr := 0x200, lo := 17, width := 1, acc := .ro, reset := 1, kept := .nv, lim := .any }
/-- `SYS_JARVAS_CFG.UART_BAUD` (R94). -/
def SYS_JARVAS_CFG_UART_BAUD : Field :=
  { addr := 0x200, lo := 18, width := 1, acc := .ro, reset := 0, kept := .nv, lim := .any }
/-- `SYS_JARVAS_CFG.PRP_EN` (R94). -/
def SYS_JARVAS_CFG_PRP_EN : Field :=
  { addr := 0x200, lo := 19, width := 1, acc := .ro, reset := 0, kept := .nv, lim := .any }
/-- `SYS_JARVAS_VLAN.VID` (R94). -/
def SYS_JARVAS_VLAN_VID : Field :=
  { addr := 0x204, lo := 0, width := 12, acc := .ro, reset := 0, kept := .nv, lim := .any }
/-- `SYS_JARVAS_VLAN.VLAN_EN` (R94). -/
def SYS_JARVAS_VLAN_VLAN_EN : Field :=
  { addr := 0x204, lo := 12, width := 1, acc := .ro, reset := 0, kept := .nv, lim := .any }
/-- `SYS_JARVAS_IP.IPV4` (R94). -/
def SYS_JARVAS_IP_IPV4 : Field :=
  { addr := 0x208, lo := 0, width := 32, acc := .ro, reset := 0, kept := .nv, lim := .any }
/-- `SYS_SEQ_LAST.SEQ` (R94). -/
def SYS_SEQ_LAST_SEQ : Field :=
  { addr := 0x210, lo := 0, width := 32, acc := .ro, reset := 0, kept := .cSP3P4, lim := .any }
/-- `SYS_SEQ_ACCEPTED.SEQ` (R94). -/
def SYS_SEQ_ACCEPTED_SEQ : Field :=
  { addr := 0x214, lo := 0, width := 32, acc := .ro, reset := 0, kept := .none, lim := .any }
/-- `SYS_CMD_STAT.QUEUED` (R94). -/
def SYS_CMD_STAT_QUEUED : Field :=
  { addr := 0x218, lo := 0, width := 6, acc := .ro, reset := 0, kept := .none, lim := .any }
/-- `SYS_CMD_STAT.SEQ_VALID` (R94). -/
def SYS_CMD_STAT_SEQ_VALID : Field :=
  { addr := 0x218, lo := 8, width := 1, acc := .ro, reset := 0, kept := .cSP3P4, lim := .any }
/-- `SYS_CMD_STAT.RESTARTED` (R94). -/
def SYS_CMD_STAT_RESTARTED : Field :=
  { addr := 0x218, lo := 9, width := 1, acc := .ro, reset := 0, kept := .none, lim := .any }
/-- `SYS_CMD_STAT.PLINTH` (R94). -/
def SYS_CMD_STAT_PLINTH : Field :=
  { addr := 0x218, lo := 10, width := 1, acc := .ro, reset := 0, kept := .none, lim := .any }
/-- `SYS_HOST_RX_LO.TIME` (R94). -/
def SYS_HOST_RX_LO_TIME : Field :=
  { addr := 0x220, lo := 0, width := 32, acc := .ro, reset := 0, kept := .cP3, lim := .any }
/-- `SYS_HOST_RX_HI.TIME` (R94). -/
def SYS_HOST_RX_HI_TIME : Field :=
  { addr := 0x224, lo := 0, width := 32, acc := .ro, reset := 0, kept := .cP3, lim := .any }
/-- `SYS_CMD_DROP.COUNT` (R94). -/
def SYS_CMD_DROP_COUNT : Field :=
  { addr := 0x228, lo := 0, width := 32, acc := .rc, reset := 0, kept := .cP3, lim := .any }
/-- `SYS_CMD_REFUSED.COUNT` (R94). -/
def SYS_CMD_REFUSED_COUNT : Field :=
  { addr := 0x22C, lo := 0, width := 32, acc := .rc, reset := 0, kept := .cP3, lim := .any }
/-- `SYS_STREAM_STAT.OPEN` (R94). -/
def SYS_STREAM_STAT_OPEN : Field :=
  { addr := 0x230, lo := 0, width := 8, acc := .ro, reset := 0, kept := .c, lim := .any }
/-- `SYS_STREAM_STAT.GAP` (R94). -/
def SYS_STREAM_STAT_GAP : Field :=
  { addr := 0x230, lo := 8, width := 8, acc := .w1c, reset := 0, kept := .c, lim := .any }
/-- `SYS_CONV_STAT.STATE` (R151). -/
def SYS_CONV_STAT_STATE : Field :=
  { addr := 0x400, lo := 0, width := 3, acc := .ro, reset := 0, kept := .cP3, lim := .any }
/-- `SYS_CONV_STAT.SAFE_STOP` (R151). -/
def SYS_CONV_STAT_SAFE_STOP : Field :=
  { addr := 0x400, lo := 3, width := 1, acc := .ro, reset := 0, kept := .cP3, lim := .any }
/-- `SYS_CONV_STAT.HEADROOM` (R151). -/
def SYS_CONV_STAT_HEADROOM : Field :=
  { addr := 0x400, lo := 4, width := 1, acc := .ro, reset := 0, kept := .cP3, lim := .any }
/-- `SYS_CONV_STAT.CAUSE` (R151). -/
def SYS_CONV_STAT_CAUSE : Field :=
  { addr := 0x400, lo := 8, width := 8, acc := .ro, reset := 0, kept := .cP3, lim := .any }
/-- `SYS_CONV_STAT.START_ERR` (R151). -/
def SYS_CONV_STAT_START_ERR : Field :=
  { addr := 0x400, lo := 16, width := 8, acc := .ro, reset := 0, kept := .cP3, lim := .any }
/-- `SYS_CONV_STAT.UNTIMED` (R151). -/
def SYS_CONV_STAT_UNTIMED : Field :=
  { addr := 0x400, lo := 24, width := 8, acc := .ro, reset := 0, kept := .cP3, lim := .any }
/-- `SYS_CONV_POP.NPOP` (R151). -/
def SYS_CONV_POP_NPOP : Field :=
  { addr := 0x404, lo := 0, width := 7, acc := .cr, reset := 64, kept := .cP3, lim := .within 4 64 }
/-- `SYS_CONV_POP.NACT` (R151). -/
def SYS_CONV_POP_NACT : Field :=
  { addr := 0x404, lo := 8, width := 7, acc := .cr, reset := 64, kept := .cP3, lim := .within 1 64 }
/-- `SYS_CONV_POP.NMIN` (R151). -/
def SYS_CONV_POP_NMIN : Field :=
  { addr := 0x404, lo := 16, width := 7, acc := .cr, reset := 4, kept := .cP3, lim := .within 1 64 }
/-- `SYS_CONV_MOD.MODE` (R151). -/
def SYS_CONV_MOD_MODE : Field :=
  { addr := 0x408, lo := 0, width := 1, acc := .cr, reset := 0, kept := .cP3, lim := .any }
/-- `SYS_CONV_MOD.VFF` (R151). -/
def SYS_CONV_MOD_VFF : Field :=
  { addr := 0x408, lo := 1, width := 1, acc := .cr, reset := 0, kept := .cP3, lim := .any }
/-- `SYS_CONV_MODMAX.MODMAX` (R151). -/
def SYS_CONV_MODMAX_MODMAX : Field :=
  { addr := 0x40C, lo := 0, width := 32, acc := .cr, reset := 15938355, kept := .cP3, lim := .within 0x00800000 0x01000000 }
/-- `SYS_CONV_VFF_GAIN.GAIN` (R151). -/
def SYS_CONV_VFF_GAIN_GAIN : Field :=
  { addr := 0x410, lo := 0, width := 32, acc := .cr, reset := 0, kept := .cP3, lim := .within 0 0x40000000 }
/-- `SYS_CONV_BAL.KBAL` (R151). -/
def SYS_CONV_BAL_KBAL : Field :=
  { addr := 0x414, lo := 0, width := 16, acc := .cr, reset := 1024, kept := .cP3, lim := .any }
/-- `SYS_CONV_BAL_IDB.IDB` (R151). -/
def SYS_CONV_BAL_IDB_IDB : Field :=
  { addr := 0x418, lo := 0, width := 31, acc := .cr, reset := 335544, kept := .cP3, lim := .any }
/-- `SYS_CONV_BAL_DMAX.DMAX` (R151). -/
def SYS_CONV_BAL_DMAX_DMAX : Field :=
  { addr := 0x41C, lo := 0, width := 31, acc := .cr, reset := 1677722, kept := .cP3, lim := .any }
/-- `SYS_CONV_GRID.VA` (R151). -/
def SYS_CONV_GRID_VA : Field :=
  { addr := 0x420, lo := 0, width := 6, acc := .cr, reset := 0, kept := .cP3, lim := .any }
/-- `SYS_CONV_GRID.VB` (R151). -/
def SYS_CONV_GRID_VB : Field :=
  { addr := 0x420, lo := 8, width := 6, acc := .cr, reset := 1, kept := .cP3, lim := .any }
/-- `SYS_CONV_GRID.VC` (R151). -/
def SYS_CONV_GRID_VC : Field :=
  { addr := 0x420, lo := 16, width := 6, acc := .cr, reset := 2, kept := .cP3, lim := .any }
/-- `SYS_CONV_GRID.FNOM` (R151). -/
def SYS_CONV_GRID_FNOM : Field :=
  { addr := 0x420, lo := 24, width := 1, acc := .cr, reset := 0, kept := .cP3, lim := .any }
/-- `SYS_CONV_GRID.BW` (R151). -/
def SYS_CONV_GRID_BW : Field :=
  { addr := 0x420, lo := 25, width := 2, acc := .cr, reset := 1, kept := .cP3, lim := .any }
/-- `SYS_CONV_SRC.FF_SRC` (R151). -/
def SYS_CONV_SRC_FF_SRC : Field :=
  { addr := 0x424, lo := 0, width := 16, acc := .cr, reset := 0, kept := .cP3, lim := .any }
/-- `SYS_CONV_SRC.Q_SRC` (R151). -/
def SYS_CONV_SRC_Q_SRC : Field :=
  { addr := 0x424, lo := 16, width := 16, acc := .cr, reset := 0, kept := .cP3, lim := .any }
/-- `SYS_CONV_ILIM.ILIM` (R151). -/
def SYS_CONV_ILIM_ILIM : Field :=
  { addr := 0x428, lo := 0, width := 31, acc := .cr, reset := 16777216, kept := .cP3, lim := .any }
/-- `SYS_CONV_RATING.ARM_KW` (R151). -/
def SYS_CONV_RATING_ARM_KW : Field :=
  { addr := 0x42C, lo := 0, width := 13, acc := .cr, reset := 5000, kept := .cP3, lim := .within 1 5000 }
/-- `SYS_CONV_RATING.CELL_KW` (R151). -/
def SYS_CONV_RATING_CELL_KW : Field :=
  { addr := 0x42C, lo := 16, width := 7, acc := .cr, reset := 80, kept := .cP3, lim := .within 1 80 }
/-- `SYS_CONV_PRECHG_V.V` (R151). -/
def SYS_CONV_PRECHG_V_V : Field :=
  { addr := 0x430, lo := 0, width := 31, acc := .cr, reset := 12582912, kept := .cP3, lim := .any }
/-- `SYS_CONV_SYNC_TOL.TOL` (R151). -/
def SYS_CONV_SYNC_TOL_TOL : Field :=
  { addr := 0x434, lo := 0, width := 31, acc := .cr, reset := 335544, kept := .cP3, lim := .any }
/-- `SYS_CONV_TIMEOUT.PRECHG_MS` (R151). -/
def SYS_CONV_TIMEOUT_PRECHG_MS : Field :=
  { addr := 0x438, lo := 0, width := 16, acc := .cr, reset := 5000, kept := .cP3, lim := .within 1 60000 }
/-- `SYS_CONV_TIMEOUT.SYNC_MS` (R151). -/
def SYS_CONV_TIMEOUT_SYNC_MS : Field :=
  { addr := 0x438, lo := 16, width := 16, acc := .cr, reset := 2000, kept := .cP3, lim := .within 1 60000 }
/-- `SYS_CONV_STOP.T_STOP_MS` (R151). -/
def SYS_CONV_STOP_T_STOP_MS : Field :=
  { addr := 0x43C, lo := 0, width := 14, acc := .cr, reset := 500, kept := .cP3, lim := .within 1 10000 }
/-- `SYS_CONV_STOP.UNTIMED_LIM` (R151). -/
def SYS_CONV_STOP_UNTIMED_LIM : Field :=
  { addr := 0x43C, lo := 16, width := 8, acc := .cr, reset := 8, kept := .cP3, lim := .within 1 255 }
/-- `SYS_CONV_STOP.SYNC_PCT` (R151). -/
def SYS_CONV_STOP_SYNC_PCT : Field :=
  { addr := 0x43C, lo := 24, width := 7, acc := .cr, reset := 10, kept := .cP3, lim := .within 1 100 }
/-- `SYS_CONV_ALIM.ALIM` (R151). -/
def SYS_CONV_ALIM_ALIM : Field :=
  { addr := 0x440, lo := 0, width := 32, acc := .ro, reset := 0, kept := .cP3, lim := .any }
/-- `SYS_CONV_KSTOP.KSTOP` (R151). -/
def SYS_CONV_KSTOP_KSTOP : Field :=
  { addr := 0x444, lo := 0, width := 32, acc := .ro, reset := 16777216, kept := .cP3, lim := .any }
/-- `SYS_CONV_GRID_STAT.LOCKED` (R151). -/
def SYS_CONV_GRID_STAT_LOCKED : Field :=
  { addr := 0x448, lo := 0, width := 1, acc := .ro, reset := 0, kept := .cP3, lim := .any }
/-- `SYS_CONV_GRID_STAT.FREQ` (R151). -/
def SYS_CONV_GRID_STAT_FREQ : Field :=
  { addr := 0x448, lo := 16, width := 16, acc := .ro, reset := 0, kept := .cP3, lim := .any }
/-- `SYS_CONV_LVB.BASE_V` (R151). -/
def SYS_CONV_LVB_BASE_V : Field :=
  { addr := 0x44C, lo := 0, width := 11, acc := .cr, reset := 1000, kept := .cP3, lim := .within 500 2047 }
/-- `SYS_PAIR_CFG.EN` (R151). -/
def SYS_PAIR_CFG_EN : Field :=
  { addr := 0x480, lo := 0, width := 1, acc := .cr, reset := 0, kept := .cP3, lim := .any }
/-- `SYS_PAIR_CFG.ROLE` (R151). -/
def SYS_PAIR_CFG_ROLE : Field :=
  { addr := 0x480, lo := 1, width := 1, acc := .cr, reset := 0, kept := .cP3, lim := .any }
/-- `SYS_PAIR_CFG.LOSS` (R151). -/
def SYS_PAIR_CFG_LOSS : Field :=
  { addr := 0x480, lo := 2, width := 3, acc := .cr, reset := 1, kept := .cP3, lim := .within 1 7 }
/-- `SYS_PAIR_CFG.WAIT` (R151). -/
def SYS_PAIR_CFG_WAIT : Field :=
  { addr := 0x480, lo := 8, width := 8, acc := .cr, reset := 20, kept := .cP3, lim := .within 1 255 }
/-- `SYS_PAIR_STAT.TOKEN` (R151). -/
def SYS_PAIR_STAT_TOKEN : Field :=
  { addr := 0x484, lo := 0, width := 1, acc := .ro, reset := 0, kept := .c, lim := .any }
/-- `SYS_PAIR_STAT.PEER` (R151). -/
def SYS_PAIR_STAT_PEER : Field :=
  { addr := 0x484, lo := 1, width := 1, acc := .ro, reset := 0, kept := .c, lim := .any }
/-- `SYS_PAIR_STAT.ALIGNED` (R151). -/
def SYS_PAIR_STAT_ALIGNED : Field :=
  { addr := 0x484, lo := 2, width := 1, acc := .ro, reset := 0, kept := .c, lim := .any }
/-- `SYS_PAIR_STAT.CFG_MATCH` (R151). -/
def SYS_PAIR_STAT_CFG_MATCH : Field :=
  { addr := 0x484, lo := 3, width := 1, acc := .ro, reset := 0, kept := .c, lim := .any }
/-- `SYS_PAIR_STAT.PEER_READY` (R151). -/
def SYS_PAIR_STAT_PEER_READY : Field :=
  { addr := 0x484, lo := 4, width := 1, acc := .ro, reset := 0, kept := .c, lim := .any }
/-- `SYS_PAIR_STAT.PEER_STATE` (R151). -/
def SYS_PAIR_STAT_PEER_STATE : Field :=
  { addr := 0x484, lo := 8, width := 3, acc := .ro, reset := 0, kept := .c, lim := .any }
/-- `SYS_PAIR_GEN.GEN` (R151). -/
def SYS_PAIR_GEN_GEN : Field :=
  { addr := 0x488, lo := 0, width := 32, acc := .ro, reset := 0, kept := .c, lim := .any }
/-- `SYS_PAIR_CTRL.HANDOVER` (R151). -/
def SYS_PAIR_CTRL_HANDOVER : Field :=
  { addr := 0x48C, lo := 0, width := 1, acc := .wo, reset := 0, kept := .none, lim := .any }
/-- `SYS_PAIR_TAKEOVERS.COUNT` (R151). -/
def SYS_PAIR_TAKEOVERS_COUNT : Field :=
  { addr := 0x490, lo := 0, width := 32, acc := .ro, reset := 0, kept := .c, lim := .any }
/-- `SYS_PAIR_MISS.COUNT` (R151). -/
def SYS_PAIR_MISS_COUNT : Field :=
  { addr := 0x494, lo := 0, width := 32, acc := .rc, reset := 0, kept := .cP3, lim := .any }
/-- `SYS_CAMPUS.INDEX` (R151). -/
def SYS_CAMPUS_INDEX : Field :=
  { addr := 0x4C0, lo := 0, width := 10, acc := .cr, reset := 0, kept := .cP3, lim := .any }
/-- `SYS_CAMPUS.COUNT` (R151). -/
def SYS_CAMPUS_COUNT : Field :=
  { addr := 0x4C0, lo := 16, width := 11, acc := .cr, reset := 1, kept := .cP3, lim := .within 1 1024 }
/-- `SYS_CAMPUS_PHASE.PHASE` (R151). -/
def SYS_CAMPUS_PHASE_PHASE : Field :=
  { addr := 0x4C4, lo := 0, width := 32, acc := .ro, reset := 0, kept := .cP3, lim := .any }
/-- `SYS_PWR_STAT.STATE` (R395). -/
def SYS_PWR_STAT_STATE : Field :=
  { addr := 0x600, lo := 0, width := 3, acc := .ro, reset := 0, kept := .cP3, lim := .any }
/-- `SYS_PWR_STAT.MOVING` (R395). -/
def SYS_PWR_STAT_MOVING : Field :=
  { addr := 0x600, lo := 3, width := 1, acc := .ro, reset := 0, kept := .cP3, lim := .any }
/-- `SYS_PWR_STAT.SAG` (R395). -/
def SYS_PWR_STAT_SAG : Field :=
  { addr := 0x600, lo := 4, width := 2, acc := .ro, reset := 0, kept := .none, lim := .any }
/-- `SYS_PWR_TOL.TOL_US` (R395). -/
def SYS_PWR_TOL_TOL_US : Field :=
  { addr := 0x604, lo := 0, width := 32, acc := .ro, reset := 0, kept := .cP3, lim := .any }
/-- `SYS_PWR_EXIT.US` (R395). -/
def SYS_PWR_EXIT_US : Field :=
  { addr := 0x608, lo := 0, width := 32, acc := .ro, reset := 0, kept := .cP3, lim := .any }
/-- `SYS_PWR_SAG_CNT.COUNT` (R395). -/
def SYS_PWR_SAG_CNT_COUNT : Field :=
  { addr := 0x60C, lo := 0, width := 32, acc := .rc, reset := 0, kept := .cP3, lim := .any }

/-! ### RST: reset and start -/

/-- `RST_CAUSE.POR` (R420). -/
def RST_CAUSE_POR : Field :=
  { addr := 0x10000, lo := 0, width := 1, acc := .ro, reset := 1, kept := .cSP3P4, lim := .any }
/-- `RST_CAUSE.BROWNOUT` (R420). -/
def RST_CAUSE_BROWNOUT : Field :=
  { addr := 0x10000, lo := 1, width := 1, acc := .ro, reset := 0, kept := .cSP3P4, lim := .any }
/-- `RST_CAUSE.PIN` (R420). -/
def RST_CAUSE_PIN : Field :=
  { addr := 0x10000, lo := 2, width := 1, acc := .ro, reset := 0, kept := .cSP3P4, lim := .any }
/-- `RST_CAUSE.WATCHDOG` (R420). -/
def RST_CAUSE_WATCHDOG : Field :=
  { addr := 0x10000, lo := 3, width := 1, acc := .ro, reset := 0, kept := .cSP3P4, lim := .any }
/-- `RST_CAUSE.COMMAND` (R420). -/
def RST_CAUSE_COMMAND : Field :=
  { addr := 0x10000, lo := 4, width := 1, acc := .ro, reset := 0, kept := .cSP3P4, lim := .any }
/-- `RST_CAUSE.PLINTH_EXIT` (R420). -/
def RST_CAUSE_PLINTH_EXIT : Field :=
  { addr := 0x10000, lo := 5, width := 1, acc := .ro, reset := 0, kept := .cSP3P4, lim := .any }
/-- `RST_CAUSE.STROKE_WATCH` (R420). -/
def RST_CAUSE_STROKE_WATCH : Field :=
  { addr := 0x10000, lo := 6, width := 1, acc := .ro, reset := 0, kept := .cSP3P4, lim := .any }
/-- `RST_CAUSE.ECC` (R420). -/
def RST_CAUSE_ECC : Field :=
  { addr := 0x10000, lo := 7, width := 1, acc := .ro, reset := 0, kept := .cSP3P4, lim := .any }
/-- `RST_CAUSE.PARITY` (R420). -/
def RST_CAUSE_PARITY : Field :=
  { addr := 0x10000, lo := 8, width := 1, acc := .ro, reset := 0, kept := .cSP3P4, lim := .any }
/-- `RST_CAUSE.CORE_STORM` (R420). -/
def RST_CAUSE_CORE_STORM : Field :=
  { addr := 0x10000, lo := 9, width := 1, acc := .ro, reset := 0, kept := .cSP3P4, lim := .any }
/-- `RST_CAUSE.START_TIMEOUT` (R420). -/
def RST_CAUSE_START_TIMEOUT : Field :=
  { addr := 0x10000, lo := 10, width := 1, acc := .ro, reset := 0, kept := .cSP3P4, lim := .any }
/-- `RST_CAUSE.WAKE` (R420). -/
def RST_CAUSE_WAKE : Field :=
  { addr := 0x10000, lo := 11, width := 1, acc := .ro, reset := 0, kept := .cSP3P4, lim := .any }
/-- `RST_CAUSE.PLINTH` (R420). -/
def RST_CAUSE_PLINTH : Field :=
  { addr := 0x10000, lo := 16, width := 1, acc := .ro, reset := 0, kept := .cSP3P4, lim := .any }
/-- `RST_CAUSE.FALLBACK` (R420). -/
def RST_CAUSE_FALLBACK : Field :=
  { addr := 0x10000, lo := 17, width := 1, acc := .ro, reset := 0, kept := .cSP3P4, lim := .any }
/-- `RST_CAUSE.OPT_FALLBACK` (R420). -/
def RST_CAUSE_OPT_FALLBACK : Field :=
  { addr := 0x10000, lo := 18, width := 1, acc := .ro, reset := 0, kept := .cSP3P4, lim := .any }
/-- `RST_CAUSE.CFG_DEFAULT` (R420). -/
def RST_CAUSE_CFG_DEFAULT : Field :=
  { addr := 0x10000, lo := 19, width := 1, acc := .ro, reset := 0, kept := .cSP3P4, lim := .any }
/-- `RST_CORE_CAUSE.CAUSE` (R420). -/
def RST_CORE_CAUSE_CAUSE : Field :=
  { addr := 0x10004, lo := 0, width := 4, acc := .ro, reset := 0, kept := .cSP3P4, lim := .any }
/-- `RST_COUNT.STARTS` (R420). -/
def RST_COUNT_STARTS : Field :=
  { addr := 0x10008, lo := 0, width := 16, acc := .ro, reset := 0, kept := .cSP3P4, lim := .any }
/-- `RST_COUNT.CORE` (R420). -/
def RST_COUNT_CORE : Field :=
  { addr := 0x10008, lo := 16, width := 16, acc := .ro, reset := 0, kept := .cSP3P4, lim := .any }
/-- `RST_BOOT.FAILS` (R420). -/
def RST_BOOT_FAILS : Field :=
  { addr := 0x1000C, lo := 0, width := 2, acc := .ro, reset := 0, kept := .nv, lim := .any }
/-- `RST_BOOT.ACTIVE` (R420). -/
def RST_BOOT_ACTIVE : Field :=
  { addr := 0x1000C, lo := 2, width := 1, acc := .ro, reset := 0, kept := .nv, lim := .any }
/-- `RST_BOOT.RUNNING` (R420). -/
def RST_BOOT_RUNNING : Field :=
  { addr := 0x1000C, lo := 3, width := 1, acc := .ro, reset := 0, kept := .cP3, lim := .any }
/-- `RST_BOOT.OPT_COPY` (R420). -/
def RST_BOOT_OPT_COPY : Field :=
  { addr := 0x1000C, lo := 4, width := 1, acc := .ro, reset := 0, kept := .nv, lim := .any }
/-- `RST_BOOT.CFG_HALF` (R420). -/
def RST_BOOT_CFG_HALF : Field :=
  { addr := 0x1000C, lo := 5, width := 1, acc := .ro, reset := 0, kept := .nv, lim := .any }
/-- `RST_BOOT.DONE` (R420). -/
def RST_BOOT_DONE : Field :=
  { addr := 0x1000C, lo := 6, width := 1, acc := .ro, reset := 0, kept := .cP3, lim := .any }
/-- `RST_STAGE.RELEASED` (R420). -/
def RST_STAGE_RELEASED : Field :=
  { addr := 0x10010, lo := 0, width := 8, acc := .ro, reset := 0, kept := .cP3, lim := .any }
/-- `RST_STAGE.WAIT` (R420). -/
def RST_STAGE_WAIT : Field :=
  { addr := 0x10010, lo := 8, width := 4, acc := .ro, reset := 0, kept := .cP3, lim := .any }
/-- `RST_OPT.GAP` (R420). -/
def RST_OPT_GAP : Field :=
  { addr := 0x10100, lo := 0, width := 16, acc := .ro, reset := 512, kept := .nv, lim := .any }
/-- `RST_DBG.OVERRIDE` (R420). -/
def RST_DBG_OVERRIDE : Field :=
  { addr := 0x10104, lo := 0, width := 8, acc := .ro, reset := 0, kept := .cSP3, lim := .any }
/-- `RST_DBG.DBG_EN` (R420). -/
def RST_DBG_DBG_EN : Field :=
  { addr := 0x10104, lo := 8, width := 1, acc := .ro, reset := 0, kept := .none, lim := .any }

/-! ### CLK: clocks -/

/-- `CLK_STAT.REF_OK` (R337). -/
def CLK_STAT_REF_OK : Field :=
  { addr := 0x20000, lo := 0, width := 1, acc := .ro, reset := 0, kept := .none, lim := .any }
/-- `CLK_STAT.CORE_LOCK` (R337). -/
def CLK_STAT_CORE_LOCK : Field :=
  { addr := 0x20000, lo := 1, width := 1, acc := .ro, reset := 0, kept := .none, lim := .any }
/-- `CLK_STAT.CORE_HOLD` (R337). -/
def CLK_STAT_CORE_HOLD : Field :=
  { addr := 0x20000, lo := 2, width := 1, acc := .ro, reset := 0, kept := .none, lim := .any }
/-- `CLK_STAT.MGMT_LOCK` (R337). -/
def CLK_STAT_MGMT_LOCK : Field :=
  { addr := 0x20000, lo := 3, width := 1, acc := .ro, reset := 0, kept := .none, lim := .any }
/-- `CLK_STAT.MGMT_RATE` (R337). -/
def CLK_STAT_MGMT_RATE : Field :=
  { addr := 0x20000, lo := 4, width := 2, acc := .ro, reset := 0, kept := .none, lim := .any }
/-- `CLK_STAT.PAIR_LOCK` (R337). -/
def CLK_STAT_PAIR_LOCK : Field :=
  { addr := 0x20000, lo := 6, width := 1, acc := .ro, reset := 0, kept := .none, lim := .any }
/-- `CLK_STAT.STN_LOCK` (R337). -/
def CLK_STAT_STN_LOCK : Field :=
  { addr := 0x20000, lo := 7, width := 1, acc := .ro, reset := 0, kept := .none, lim := .any }
/-- `CLK_STAT.LANE_LOCK` (R337). -/
def CLK_STAT_LANE_LOCK : Field :=
  { addr := 0x20000, lo := 16, width := 16, acc := .ro, reset := 0, kept := .none, lim := .any }
/-- `CLK_MON_FAIL.REF` (R337). -/
def CLK_MON_FAIL_REF : Field :=
  { addr := 0x20004, lo := 0, width := 1, acc := .w1c, reset := 0, kept := .cP3, lim := .any }
/-- `CLK_MON_FAIL.CORE` (R337). -/
def CLK_MON_FAIL_CORE : Field :=
  { addr := 0x20004, lo := 1, width := 1, acc := .w1c, reset := 0, kept := .cP3, lim := .any }
/-- `CLK_MON_FAIL.MGMT` (R337). -/
def CLK_MON_FAIL_MGMT : Field :=
  { addr := 0x20004, lo := 2, width := 1, acc := .w1c, reset := 0, kept := .cP3, lim := .any }
/-- `CLK_MON_FAIL.PAIR` (R337). -/
def CLK_MON_FAIL_PAIR : Field :=
  { addr := 0x20004, lo := 3, width := 1, acc := .w1c, reset := 0, kept := .cP3, lim := .any }
/-- `CLK_MON_FAIL.STN` (R337). -/
def CLK_MON_FAIL_STN : Field :=
  { addr := 0x20004, lo := 4, width := 1, acc := .w1c, reset := 0, kept := .cP3, lim := .any }
/-- `CLK_MON_FAIL.LANE` (R337). -/
def CLK_MON_FAIL_LANE : Field :=
  { addr := 0x20004, lo := 16, width := 16, acc := .w1c, reset := 0, kept := .cP3, lim := .any }
/-- `CLK_CORE_CV.CV` (R337). -/
def CLK_CORE_CV_CV : Field :=
  { addr := 0x20008, lo := 0, width := 16, acc := .ro, reset := 0, kept := .none, lim := .any }
/-- `CLK_HOLD_CNT.COUNT` (R337). -/
def CLK_HOLD_CNT_COUNT : Field :=
  { addr := 0x2000C, lo := 0, width := 32, acc := .rc, reset := 0, kept := .cP3, lim := .any }
/-- `CLK_EARLY.DOMAINS` (R337). -/
def CLK_EARLY_DOMAINS : Field :=
  { addr := 0x20010, lo := 0, width := 8, acc := .ro, reset := 0, kept := .cP3, lim := .any }
/-- `CLK_BANDk.PLL` (R337). -/
def CLK_BANDk_PLL (k : Nat) : Field :=
  { addr := 0x20040 + 0x4 * k, lo := 0, width := 4, acc := .ro, reset := 0, kept := .nv, lim := .any }
/-- `CLK_BANDk.BAND` (R337). -/
def CLK_BANDk_BAND (k : Nat) : Field :=
  { addr := 0x20040 + 0x4 * k, lo := 4, width := 6, acc := .ro, reset := 0, kept := .nv, lim := .any }
/-- `CLK_BANDk.CV0` (R337). -/
def CLK_BANDk_CV0 (k : Nat) : Field :=
  { addr := 0x20040 + 0x4 * k, lo := 12, width := 12, acc := .ro, reset := 0, kept := .nv, lim := .any }

/-! ### TIME: time base -/

/-- `TIME_NOW_LO.NS` (R336). -/
def TIME_NOW_LO_NS : Field :=
  { addr := 0x30000, lo := 0, width := 32, acc := .ro, reset := 0, kept := .cP3, lim := .any }
/-- `TIME_NOW_HI.NS` (R336). -/
def TIME_NOW_HI_NS : Field :=
  { addr := 0x30004, lo := 0, width := 32, acc := .ro, reset := 0, kept := .cP3, lim := .any }
/-- `TIME_NOW_FRAC.FRAC` (R336). -/
def TIME_NOW_FRAC_FRAC : Field :=
  { addr := 0x30008, lo := 0, width := 32, acc := .ro, reset := 0, kept := .cP3, lim := .any }
/-- `TIME_INC_INT.INT` (R336). -/
def TIME_INC_INT_INT : Field :=
  { addr := 0x30010, lo := 0, width := 8, acc := .rw, reset := 1, kept := .cP3, lim := .any }
/-- `TIME_INC_FRAC.FRAC` (R336). -/
def TIME_INC_FRAC_FRAC : Field :=
  { addr := 0x30014, lo := 0, width := 32, acc := .rw, reset := 1073741824, kept := .cP3, lim := .any }
/-- `TIME_ADJ_DELTA.DELTA` (R336). -/
def TIME_ADJ_DELTA_DELTA : Field :=
  { addr := 0x30018, lo := 0, width := 32, acc := .rw, reset := 0, kept := .cP3, lim := .any }
/-- `TIME_ADJ_CNT.CNT` (R336). -/
def TIME_ADJ_CNT_CNT : Field :=
  { addr := 0x3001C, lo := 0, width := 32, acc := .rw, reset := 0, kept := .cP3, lim := .any }
/-- `TIME_STEP_LO.STEP` (R336). -/
def TIME_STEP_LO_STEP : Field :=
  { addr := 0x30020, lo := 0, width := 32, acc := .rw, reset := 0, kept := .cP3, lim := .any }
/-- `TIME_STEP_HI.STEP` (R336). -/
def TIME_STEP_HI_STEP : Field :=
  { addr := 0x30024, lo := 0, width := 32, acc := .rw, reset := 0, kept := .cP3, lim := .any }
/-- `TIME_CTRL.STEP` (R336). -/
def TIME_CTRL_STEP : Field :=
  { addr := 0x30028, lo := 0, width := 1, acc := .wo, reset := 0, kept := .none, lim := .any }
/-- `TIME_CTRL.ADJ_STOP` (R336). -/
def TIME_CTRL_ADJ_STOP : Field :=
  { addr := 0x30028, lo := 1, width := 1, acc := .wo, reset := 0, kept := .none, lim := .any }
/-- `TIME_STAT.STEP_PEND` (R336). -/
def TIME_STAT_STEP_PEND : Field :=
  { addr := 0x3002C, lo := 0, width := 1, acc := .ro, reset := 0, kept := .cP3, lim := .any }
/-- `TIME_STAT.ADJ_BUSY` (R336). -/
def TIME_STAT_ADJ_BUSY : Field :=
  { addr := 0x3002C, lo := 1, width := 1, acc := .ro, reset := 0, kept := .cP3, lim := .any }
/-- `TIME_STAT.DOM_SYNC` (R336). -/
def TIME_STAT_DOM_SYNC : Field :=
  { addr := 0x3002C, lo := 2, width := 1, acc := .ro, reset := 0, kept := .none, lim := .any }
/-- `TIME_STAT.SEL_IN_USE` (R336). -/
def TIME_STAT_SEL_IN_USE : Field :=
  { addr := 0x3002C, lo := 3, width := 1, acc := .ro, reset := 0, kept := .none, lim := .any }
/-- `TIME_STAT.SERVO_ACTIVE` (R336). -/
def TIME_STAT_SERVO_ACTIVE : Field :=
  { addr := 0x3002C, lo := 4, width := 1, acc := .ro, reset := 0, kept := .none, lim := .any }
/-- `TIME_SERVO.MODE` (R336). -/
def TIME_SERVO_MODE : Field :=
  { addr := 0x30040, lo := 0, width := 1, acc := .cr, reset := 0, kept := .cP3, lim := .any }
/-- `TIME_SERVO.SEL` (R336). -/
def TIME_SERVO_SEL : Field :=
  { addr := 0x30040, lo := 1, width := 1, acc := .cr, reset := 0, kept := .cP3, lim := .any }
/-- `TIME_SERVO.AUTO_SW` (R336). -/
def TIME_SERVO_AUTO_SW : Field :=
  { addr := 0x30040, lo := 2, width := 1, acc := .cr, reset := 1, kept := .cP3, lim := .any }
/-- `TIME_SERVO.SLEW_PPM` (R336). -/
def TIME_SERVO_SLEW_PPM : Field :=
  { addr := 0x30040, lo := 8, width := 8, acc := .cr, reset := 50, kept := .cP3, lim := .within 1 200 }
/-- `TIME_SERVO.BW` (R336). -/
def TIME_SERVO_BW : Field :=
  { addr := 0x30040, lo := 16, width := 2, acc := .cr, reset := 1, kept := .cP3, lim := .any }
/-- `TIME_SERVO_TH.STEP_TH_US` (R336). -/
def TIME_SERVO_TH_STEP_TH_US : Field :=
  { addr := 0x30044, lo := 0, width := 16, acc := .cr, reset := 10, kept := .cP3, lim := .within 1 65535 }
/-- `TIME_SERVO_TH.SYNC_TH_NS` (R336). -/
def TIME_SERVO_TH_SYNC_TH_NS : Field :=
  { addr := 0x30044, lo := 16, width := 16, acc := .cr, reset := 250, kept := .cP3, lim := .within 10 65535 }
/-- `TIME_PORT_LATp.RX_LAT` (R336). -/
def TIME_PORT_LATp_RX_LAT (p : Nat) : Field :=
  { addr := 0x30060 + 0x4 * p, lo := 0, width := 16, acc := .cr, reset := 0, kept := .cP3, lim := .any }
/-- `TIME_PORT_LATp.TX_LAT` (R336). -/
def TIME_PORT_LATp_TX_LAT (p : Nat) : Field :=
  { addr := 0x30060 + 0x4 * p, lo := 16, width := 16, acc := .cr, reset := 0, kept := .cP3, lim := .any }
/-- `TIME_DOM_CFG.DOMAIN` (R336). -/
def TIME_DOM_CFG_DOMAIN (x : Nat) : Field :=
  { addr := 0x30080 + 0x40 * x, lo := 0, width := 8, acc := .cr, reset := 0, kept := .cP3, lim := .any }
/-- `TIME_DOM_CFG.PORT` (R336). -/
def TIME_DOM_CFG_PORT (x : Nat) : Field :=
  { addr := 0x30080 + 0x40 * x, lo := 8, width := 1, acc := .cr, reset := x, kept := .cP3, lim := .any }
/-- `TIME_DOM_CFG.EN` (R336). -/
def TIME_DOM_CFG_EN (x : Nat) : Field :=
  { addr := 0x30080 + 0x40 * x, lo := 9, width := 1, acc := .cr, reset := 0, kept := .cP3, lim := .any }
/-- `TIME_DOM_STAT.STATE` (R336). -/
def TIME_DOM_STAT_STATE (x : Nat) : Field :=
  { addr := 0x30084 + 0x40 * x, lo := 0, width := 3, acc := .ro, reset := 0, kept := .none, lim := .any }
/-- `TIME_DOM_STAT.IN_LIMIT` (R336). -/
def TIME_DOM_STAT_IN_LIMIT (x : Nat) : Field :=
  { addr := 0x30084 + 0x40 * x, lo := 3, width := 1, acc := .ro, reset := 0, kept := .none, lim := .any }
/-- `TIME_DOM_OFFS_LO.OFFS` (R336). -/
def TIME_DOM_OFFS_LO_OFFS (x : Nat) : Field :=
  { addr := 0x30088 + 0x40 * x, lo := 0, width := 32, acc := .ro, reset := 0, kept := .none, lim := .any }
/-- `TIME_DOM_OFFS_HI.OFFS` (R336). -/
def TIME_DOM_OFFS_HI_OFFS (x : Nat) : Field :=
  { addr := 0x3008C + 0x40 * x, lo := 0, width := 32, acc := .ro, reset := 0, kept := .none, lim := .any }
/-- `TIME_DOM_DELAY.DELAY` (R336). -/
def TIME_DOM_DELAY_DELAY (x : Nat) : Field :=
  { addr := 0x30090 + 0x40 * x, lo := 0, width := 32, acc := .ro, reset := 0, kept := .none, lim := .any }
/-- `TIME_DOM_RATE.RATE` (R336). -/
def TIME_DOM_RATE_RATE (x : Nat) : Field :=
  { addr := 0x30094 + 0x40 * x, lo := 0, width := 32, acc := .ro, reset := 0, kept := .none, lim := .any }
/-- `TIME_DOM_GM_LO.ID` (R336). -/
def TIME_DOM_GM_LO_ID (x : Nat) : Field :=
  { addr := 0x30098 + 0x40 * x, lo := 0, width := 32, acc := .ro, reset := 0, kept := .none, lim := .any }
/-- `TIME_DOM_GM_HI.ID` (R336). -/
def TIME_DOM_GM_HI_ID (x : Nat) : Field :=
  { addr := 0x3009C + 0x40 * x, lo := 0, width := 32, acc := .ro, reset := 0, kept := .none, lim := .any }
/-- `TIME_DOM_AGE.AGE_MS` (R336). -/
def TIME_DOM_AGE_AGE_MS (x : Nat) : Field :=
  { addr := 0x300A0 + 0x40 * x, lo := 0, width := 16, acc := .ro, reset := 65535, kept := .none, lim := .any }
/-- `TIME_TS_CFGk.EDGE` (R336). -/
def TIME_TS_CFGk_EDGE (k : Nat) : Field :=
  { addr := 0x30200 + 0x4 * k, lo := 0, width := 2, acc := .cr, reset := 0, kept := .cP3, lim := .any }
/-- `TIME_TS_STATk.COUNT` (R336). -/
def TIME_TS_STATk_COUNT (k : Nat) : Field :=
  { addr := 0x30400 + 0x20 * k, lo := 0, width := 5, acc := .ro, reset := 0, kept := .cP3, lim := .any }
/-- `TIME_TS_STATk.EDGE` (R336). -/
def TIME_TS_STATk_EDGE (k : Nat) : Field :=
  { addr := 0x30400 + 0x20 * k, lo := 8, width := 1, acc := .ro, reset := 0, kept := .cP3, lim := .any }
/-- `TIME_TS_STATk.OVF` (R336). -/
def TIME_TS_STATk_OVF (k : Nat) : Field :=
  { addr := 0x30400 + 0x20 * k, lo := 9, width := 1, acc := .w1c, reset := 0, kept := .cP3, lim := .any }
/-- `TIME_TS_LOk.NS` (R336). -/
def TIME_TS_LOk_NS (k : Nat) : Field :=
  { addr := 0x30404 + 0x20 * k, lo := 0, width := 32, acc := .ro, reset := 0, kept := .cP3, lim := .any }
/-- `TIME_TS_HIk.NS` (R336). -/
def TIME_TS_HIk_NS (k : Nat) : Field :=
  { addr := 0x30408 + 0x20 * k, lo := 0, width := 32, acc := .ro, reset := 0, kept := .cP3, lim := .any }
/-- `TIME_TS_FRACk.FRAC` (R336). -/
def TIME_TS_FRACk_FRAC (k : Nat) : Field :=
  { addr := 0x3040C + 0x20 * k, lo := 0, width := 32, acc := .ro, reset := 0, kept := .cP3, lim := .any }
/-- `TIME_TS_POPk.POP` (R336). -/
def TIME_TS_POPk_POP (k : Nat) : Field :=
  { addr := 0x30410 + 0x20 * k, lo := 0, width := 1, acc := .wo, reset := 0, kept := .none, lim := .any }

/-! ### LINK: Yalak link -/

/-- `LINK_STAT.STATE` (R206). -/
def LINK_STAT_STATE (l : Nat) : Field :=
  { addr := 0x100000 + 0x400 * l, lo := 0, width := 3, acc := .ro, reset := 0, kept := .c, lim := .any }
/-- `LINK_STAT.LOS` (R206). -/
def LINK_STAT_LOS (l : Nat) : Field :=
  { addr := 0x100000 + 0x400 * l, lo := 3, width := 1, acc := .ro, reset := 1, kept := .c, lim := .any }
/-- `LINK_STAT.BIT_LOCK` (R206). -/
def LINK_STAT_BIT_LOCK (l : Nat) : Field :=
  { addr := 0x100000 + 0x400 * l, lo := 4, width := 1, acc := .ro, reset := 0, kept := .c, lim := .any }
/-- `LINK_STAT.BLOCK_LOCK` (R206). -/
def LINK_STAT_BLOCK_LOCK (l : Nat) : Field :=
  { addr := 0x100000 + 0x400 * l, lo := 5, width := 1, acc := .ro, reset := 0, kept := .c, lim := .any }
/-- `LINK_STAT.FAR_LOCK` (R206). -/
def LINK_STAT_FAR_LOCK (l : Nat) : Field :=
  { addr := 0x100000 + 0x400 * l, lo := 6, width := 1, acc := .ro, reset := 0, kept := .c, lim := .any }
/-- `LINK_STAT.PORT` (R206). -/
def LINK_STAT_PORT (l : Nat) : Field :=
  { addr := 0x100000 + 0x400 * l, lo := 7, width := 1, acc := .ro, reset := 0, kept := .c, lim := .any }
/-- `LINK_STAT.REJECT` (R206). -/
def LINK_STAT_REJECT (l : Nat) : Field :=
  { addr := 0x100000 + 0x400 * l, lo := 8, width := 4, acc := .ro, reset := 0, kept := .c, lim := .any }
/-- `LINK_STAT.MISS_RUN` (R206). -/
def LINK_STAT_MISS_RUN (l : Nat) : Field :=
  { addr := 0x100000 + 0x400 * l, lo := 16, width := 4, acc := .ro, reset := 0, kept := .c, lim := .any }
/-- `LINK_CAP_ID.VENDOR` (R206). -/
def LINK_CAP_ID_VENDOR (l : Nat) : Field :=
  { addr := 0x100010 + 0x400 * l, lo := 0, width := 16, acc := .ro, reset := 0, kept := .c, lim := .any }
/-- `LINK_CAP_ID.TYPE` (R206). -/
def LINK_CAP_ID_TYPE (l : Nat) : Field :=
  { addr := 0x100010 + 0x400 * l, lo := 16, width := 16, acc := .ro, reset := 0, kept := .c, lim := .any }
/-- `LINK_CAP_FW.FW` (R206). -/
def LINK_CAP_FW_FW (l : Nat) : Field :=
  { addr := 0x100014 + 0x400 * l, lo := 0, width := 32, acc := .ro, reset := 0, kept := .c, lim := .any }
/-- `LINK_CAP_SN_LO.SN` (R206). -/
def LINK_CAP_SN_LO_SN (l : Nat) : Field :=
  { addr := 0x100018 + 0x400 * l, lo := 0, width := 32, acc := .ro, reset := 0, kept := .c, lim := .any }
/-- `LINK_CAP_SN_HI.SN` (R206). -/
def LINK_CAP_SN_HI_SN (l : Nat) : Field :=
  { addr := 0x10001C + 0x400 * l, lo := 0, width := 32, acc := .ro, reset := 0, kept := .c, lim := .any }
/-- `LINK_CAP_TIMING.DT` (R206). -/
def LINK_CAP_TIMING_DT (l : Nat) : Field :=
  { addr := 0x100020 + 0x400 * l, lo := 0, width := 16, acc := .ro, reset := 0, kept := .c, lim := .any }
/-- `LINK_CAP_TIMING.MINP` (R206). -/
def LINK_CAP_TIMING_MINP (l : Nat) : Field :=
  { addr := 0x100020 + 0x400 * l, lo := 16, width := 16, acc := .ro, reset := 0, kept := .c, lim := .any }
/-- `LINK_CAP_DAB.DAB_MIN` (R206). -/
def LINK_CAP_DAB_DAB_MIN (l : Nat) : Field :=
  { addr := 0x100024 + 0x400 * l, lo := 0, width := 16, acc := .ro, reset := 0, kept := .c, lim := .any }
/-- `LINK_CAP_DAB.DAB_MAX` (R206). -/
def LINK_CAP_DAB_DAB_MAX (l : Nat) : Field :=
  { addr := 0x100024 + 0x400 * l, lo := 16, width := 16, acc := .ro, reset := 0, kept := .c, lim := .any }
/-- `LINK_CAP_FLAGS.FLAGS` (R206). -/
def LINK_CAP_FLAGS_FLAGS (l : Nat) : Field :=
  { addr := 0x100028 + 0x400 * l, lo := 0, width := 2, acc := .ro, reset := 0, kept := .c, lim := .any }
/-- `LINK_CAP_MEASq.TYPE` (R206). -/
def LINK_CAP_MEASq_TYPE (l q : Nat) : Field :=
  { addr := 0x100030 + 0x400 * l + 0x4 * q, lo := 0, width := 8, acc := .ro, reset := 0, kept := .c, lim := .any }
/-- `LINK_CAP_MEASq.EXP` (R206). -/
def LINK_CAP_MEASq_EXP (l q : Nat) : Field :=
  { addr := 0x100030 + 0x400 * l + 0x4 * q, lo := 8, width := 8, acc := .ro, reset := 0, kept := .c, lim := .any }
/-- `LINK_CAP_MEASq.MANT` (R206). -/
def LINK_CAP_MEASq_MANT (l q : Nat) : Field :=
  { addr := 0x100030 + 0x400 * l + 0x4 * q, lo := 16, width := 16, acc := .ro, reset := 0, kept := .c, lim := .any }
/-- `LINK_DELAY.DELAY` (R206). -/
def LINK_DELAY_DELAY (l : Nat) : Field :=
  { addr := 0x100050 + 0x400 * l, lo := 0, width := 12, acc := .ro, reset := 0, kept := .c, lim := .any }
/-- `LINK_DELAY.SPREAD` (R206). -/
def LINK_DELAY_SPREAD (l : Nat) : Field :=
  { addr := 0x100050 + 0x400 * l, lo := 12, width := 4, acc := .ro, reset := 0, kept := .c, lim := .any }
/-- `LINK_DELAY.TURN` (R206). -/
def LINK_DELAY_TURN (l : Nat) : Field :=
  { addr := 0x100050 + 0x400 * l, lo := 16, width := 16, acc := .ro, reset := 0, kept := .c, lim := .any }
/-- `LINK_RPT_STAT.STATUS` (R206). -/
def LINK_RPT_STAT_STATUS (l : Nat) : Field :=
  { addr := 0x100060 + 0x400 * l, lo := 0, width := 32, acc := .ro, reset := 0, kept := .c, lim := .any }
/-- `LINK_RPT_RX.RX` (R206). -/
def LINK_RPT_RX_RX (l : Nat) : Field :=
  { addr := 0x100064 + 0x400 * l, lo := 0, width := 32, acc := .ro, reset := 0, kept := .c, lim := .any }
/-- `LINK_RPT_FAULT.FAULT` (R206). -/
def LINK_RPT_FAULT_FAULT (l : Nat) : Field :=
  { addr := 0x100068 + 0x400 * l, lo := 0, width := 8, acc := .ro, reset := 0, kept := .c, lim := .any }
/-- `LINK_RPT_FAULT.DETAIL` (R206). -/
def LINK_RPT_FAULT_DETAIL (l : Nat) : Field :=
  { addr := 0x100068 + 0x400 * l, lo := 16, width := 16, acc := .ro, reset := 0, kept := .c, lim := .any }
/-- `LINK_RPT_TJ0.TJ_FE` (R206). -/
def LINK_RPT_TJ0_TJ_FE (l : Nat) : Field :=
  { addr := 0x10006C + 0x400 * l, lo := 0, width := 16, acc := .ro, reset := 0, kept := .c, lim := .any }
/-- `LINK_RPT_TJ0.TJ_DP` (R206). -/
def LINK_RPT_TJ0_TJ_DP (l : Nat) : Field :=
  { addr := 0x10006C + 0x400 * l, lo := 16, width := 16, acc := .ro, reset := 0, kept := .c, lim := .any }
/-- `LINK_RPT_TJ1.TJ_DS` (R206). -/
def LINK_RPT_TJ1_TJ_DS (l : Nat) : Field :=
  { addr := 0x100070 + 0x400 * l, lo := 0, width := 16, acc := .ro, reset := 0, kept := .c, lim := .any }
/-- `LINK_CRC_CNT.COUNT` (R206). -/
def LINK_CRC_CNT_COUNT (l : Nat) : Field :=
  { addr := 0x100080 + 0x400 * l, lo := 0, width := 32, acc := .rc, reset := 0, kept := .c, lim := .any }
/-- `LINK_MISS_CNT.COUNT` (R206). -/
def LINK_MISS_CNT_COUNT (l : Nat) : Field :=
  { addr := 0x100084 + 0x400 * l, lo := 0, width := 32, acc := .rc, reset := 0, kept := .c, lim := .any }
/-- `LINK_HDR_CNT.COUNT` (R206). -/
def LINK_HDR_CNT_COUNT (l : Nat) : Field :=
  { addr := 0x100088 + 0x400 * l, lo := 0, width := 32, acc := .rc, reset := 0, kept := .c, lim := .any }
/-- `LINK_RETRAIN_CNT.COUNT` (R206). -/
def LINK_RETRAIN_CNT_COUNT (l : Nat) : Field :=
  { addr := 0x10008C + 0x400 * l, lo := 0, width := 32, acc := .rc, reset := 0, kept := .c, lim := .any }
/-- `LINK_TEST_CTRL.PATTERN` (R206). -/
def LINK_TEST_CTRL_PATTERN (l : Nat) : Field :=
  { addr := 0x1000A0 + 0x400 * l, lo := 0, width := 2, acc := .rw, reset := 2, kept := .c, lim := .any }
/-- `LINK_TEST_CTRL.LEN` (R206). -/
def LINK_TEST_CTRL_LEN (l : Nat) : Field :=
  { addr := 0x1000A0 + 0x400 * l, lo := 8, width := 6, acc := .rw, reset := 31, kept := .c, lim := .any }
/-- `LINK_TEST_CTRL.START` (R206). -/
def LINK_TEST_CTRL_START (l : Nat) : Field :=
  { addr := 0x1000A0 + 0x400 * l, lo := 16, width := 1, acc := .wo, reset := 0, kept := .none, lim := .any }
/-- `LINK_TEST_CTRL.STOP` (R206). -/
def LINK_TEST_CTRL_STOP (l : Nat) : Field :=
  { addr := 0x1000A0 + 0x400 * l, lo := 17, width := 1, acc := .wo, reset := 0, kept := .none, lim := .any }
/-- `LINK_TEST_STAT.RUNNING` (R206). -/
def LINK_TEST_STAT_RUNNING (l : Nat) : Field :=
  { addr := 0x1000A4 + 0x400 * l, lo := 0, width := 1, acc := .ro, reset := 0, kept := .c, lim := .any }
/-- `LINK_TEST_STAT.SYNC` (R206). -/
def LINK_TEST_STAT_SYNC (l : Nat) : Field :=
  { addr := 0x1000A4 + 0x400 * l, lo := 1, width := 1, acc := .ro, reset := 0, kept := .c, lim := .any }
/-- `LINK_TEST_STAT.SYNC_LOST` (R206). -/
def LINK_TEST_STAT_SYNC_LOST (l : Nat) : Field :=
  { addr := 0x1000A4 + 0x400 * l, lo := 2, width := 1, acc := .ro, reset := 0, kept := .c, lim := .any }
/-- `LINK_TEST_STAT.DONE` (R206). -/
def LINK_TEST_STAT_DONE (l : Nat) : Field :=
  { addr := 0x1000A4 + 0x400 * l, lo := 3, width := 1, acc := .ro, reset := 0, kept := .c, lim := .any }
/-- `LINK_TEST_STAT.PASS` (R206). -/
def LINK_TEST_STAT_PASS (l : Nat) : Field :=
  { addr := 0x1000A4 + 0x400 * l, lo := 4, width := 1, acc := .ro, reset := 0, kept := .c, lim := .any }
/-- `LINK_PRBS_ERR.COUNT` (R206). -/
def LINK_PRBS_ERR_COUNT (l : Nat) : Field :=
  { addr := 0x1000A8 + 0x400 * l, lo := 0, width := 32, acc := .ro, reset := 0, kept := .c, lim := .any }
/-- `LINK_PRBS_FAR.COUNT` (R206). -/
def LINK_PRBS_FAR_COUNT (l : Nat) : Field :=
  { addr := 0x1000AC + 0x400 * l, lo := 0, width := 32, acc := .ro, reset := 4294967295, kept := .c, lim := .any }
/-- `LINK_PRBS_BITS_LO.BITS` (R206). -/
def LINK_PRBS_BITS_LO_BITS (l : Nat) : Field :=
  { addr := 0x1000B0 + 0x400 * l, lo := 0, width := 32, acc := .ro, reset := 0, kept := .c, lim := .any }
/-- `LINK_PRBS_BITS_HI.BITS` (R206). -/
def LINK_PRBS_BITS_HI_BITS (l : Nat) : Field :=
  { addr := 0x1000B4 + 0x400 * l, lo := 0, width := 32, acc := .ro, reset := 0, kept := .c, lim := .any }
/-- `LINK_TX_EQ.PRE` (R206). -/
def LINK_TX_EQ_PRE (l : Nat) : Field :=
  { addr := 0x100100 + 0x400 * l, lo := 0, width := 4, acc := .cr, reset := 0, kept := .cP3, lim := .any }
/-- `LINK_TX_EQ.MAIN` (R206). -/
def LINK_TX_EQ_MAIN (l : Nat) : Field :=
  { addr := 0x100100 + 0x400 * l, lo := 4, width := 6, acc := .cr, reset := 56, kept := .cP3, lim := .within 24 63 }
/-- `LINK_TX_EQ.POST` (R206). -/
def LINK_TX_EQ_POST (l : Nat) : Field :=
  { addr := 0x100100 + 0x400 * l, lo := 10, width := 5, acc := .cr, reset := 7, kept := .cP3, lim := .any }
/-- `LINK_EYE.HEIGHT` (R206). -/
def LINK_EYE_HEIGHT (l : Nat) : Field :=
  { addr := 0x100110 + 0x400 * l, lo := 0, width := 8, acc := .ro, reset := 0, kept := .c, lim := .any }
/-- `LINK_EYE.WIDTH` (R206). -/
def LINK_EYE_WIDTH (l : Nat) : Field :=
  { addr := 0x100110 + 0x400 * l, lo := 8, width := 8, acc := .ro, reset := 0, kept := .c, lim := .any }
/-- `LINK_GCFG.TIMEOUT_N` (R207). -/
def LINK_GCFG_TIMEOUT_N : Field :=
  { addr := 0x130000, lo := 0, width := 3, acc := .cr, reset := 2, kept := .cP3, lim := .within 1 4 }
/-- `LINK_GCFG.MISS_LIM` (R207). -/
def LINK_GCFG_MISS_LIM : Field :=
  { addr := 0x130000, lo := 4, width := 4, acc := .cr, reset := 3, kept := .cP3, lim := .within 1 15 }
/-- `LINK_GCFG.EYE_MIN` (R207). -/
def LINK_GCFG_EYE_MIN : Field :=
  { addr := 0x130000, lo := 8, width := 8, acc := .cr, reset := 16, kept := .cP3, lim := .within 1 63 }
/-- `LINK_ACTIVEk.ACTIVE` (R207). -/
def LINK_ACTIVEk_ACTIVE (k : Nat) : Field :=
  { addr := 0x130010 + 0x4 * k, lo := 0, width := 32, acc := .ro, reset := 0, kept := .c, lim := .any }
/-- `LINK_REJECTk.REJECT` (R207). -/
def LINK_REJECTk_REJECT (k : Nat) : Field :=
  { addr := 0x130030 + 0x4 * k, lo := 0, width := 32, acc := .ro, reset := 0, kept := .c, lim := .any }
/-- `LINK_BLOCKEDk.BLOCKED` (R207). -/
def LINK_BLOCKEDk_BLOCKED (k : Nat) : Field :=
  { addr := 0x130050 + 0x4 * k, lo := 0, width := 32, acc := .ro, reset := 0, kept := .c, lim := .any }
/-- `LINK_ENGINES.ON` (R207). -/
def LINK_ENGINES_ON : Field :=
  { addr := 0x130070, lo := 0, width := 16, acc := .ro, reset := 0, kept := .c, lim := .any }

/-! ### ARM: armature -/

/-- `ARM_CTX_CFG.ENABLE` (R117). -/
def ARM_CTX_CFG_ENABLE (c : Nat) : Field :=
  { addr := 0x200000 + 0x100 * c, lo := 0, width := 1, acc := .cr, reset := 0, kept := .cP3, lim := .any }
/-- `ARM_CTX_CFG.ORDER` (R117). -/
def ARM_CTX_CFG_ORDER (c : Nat) : Field :=
  { addr := 0x200000 + 0x100 * c, lo := 1, width := 1, acc := .cr, reset := 0, kept := .cP3, lim := .any }
/-- `ARM_CTX_CFG.NREG_M1` (R117). -/
def ARM_CTX_CFG_NREG_M1 (c : Nat) : Field :=
  { addr := 0x200000 + 0x100 * c, lo := 2, width := 3, acc := .cr, reset := 0, kept := .cP3, lim := .any }
/-- `ARM_CTX_CFG.SOFT` (R117). -/
def ARM_CTX_CFG_SOFT (c : Nat) : Field :=
  { addr := 0x200000 + 0x100 * c, lo := 5, width := 1, acc := .cr, reset := 0, kept := .cP3, lim := .any }
/-- `ARM_CTX_CFG.INVERT` (R117). -/
def ARM_CTX_CFG_INVERT (c : Nat) : Field :=
  { addr := 0x200000 + 0x100 * c, lo := 6, width := 1, acc := .cr, reset := 0, kept := .cP3, lim := .any }
/-- `ARM_CTX_CFG.FORCE_EN` (R117). -/
def ARM_CTX_CFG_FORCE_EN (c : Nat) : Field :=
  { addr := 0x200000 + 0x100 * c, lo := 7, width := 1, acc := .cr, reset := 0, kept := .cP3, lim := .any }
/-- `ARM_CTX_CFG.FORCE_REG` (R117). -/
def ARM_CTX_CFG_FORCE_REG (c : Nat) : Field :=
  { addr := 0x200000 + 0x100 * c, lo := 8, width := 3, acc := .cr, reset := 0, kept := .cP3, lim := .any }
/-- `ARM_CTX_CFG.BLEED` (R117). -/
def ARM_CTX_CFG_BLEED (c : Nat) : Field :=
  { addr := 0x200000 + 0x100 * c, lo := 12, width := 4, acc := .cr, reset := 6, kept := .cP3, lim := .any }
/-- `ARM_CTX_CFG.PASS` (R117). -/
def ARM_CTX_CFG_PASS (c : Nat) : Field :=
  { addr := 0x200000 + 0x100 * c, lo := 16, width := 2, acc := .cr, reset := 0, kept := .cP3, lim := .any }
/-- `ARM_CTX_CFG.STATES` (R117). -/
def ARM_CTX_CFG_STATES (c : Nat) : Field :=
  { addr := 0x200000 + 0x100 * c, lo := 18, width := 5, acc := .cr, reset := 0, kept := .cP3, lim := .any }
/-- `ARM_CTX_SRC.FB_SRC` (R117). -/
def ARM_CTX_SRC_FB_SRC (c : Nat) : Field :=
  { addr := 0x200004 + 0x100 * c, lo := 0, width := 16, acc := .cr, reset := 0, kept := .cP3, lim := .any }
/-- `ARM_CTX_SRC.REF_SRC` (R117). -/
def ARM_CTX_SRC_REF_SRC (c : Nat) : Field :=
  { addr := 0x200004 + 0x100 * c, lo := 16, width := 16, acc := .cr, reset := 61440, kept := .cP3, lim := .any }
/-- `ARM_CTX_SCHED.SCHED_SRC` (R117). -/
def ARM_CTX_SCHED_SCHED_SRC (c : Nat) : Field :=
  { addr := 0x200008 + 0x100 * c, lo := 0, width := 16, acc := .cr, reset := 0, kept := .cP3, lim := .any }
/-- `ARM_CTX_HYST.HYST` (R117). -/
def ARM_CTX_HYST_HYST (c : Nat) : Field :=
  { addr := 0x20000C + 0x100 * c, lo := 0, width := 31, acc := .cr, reset := 0, kept := .cP3, lim := .any }
/-- `ARM_CTX_THRk.THR` (R117). -/
def ARM_CTX_THRk_THR (c k : Nat) : Field :=
  { addr := 0x200010 + 0x100 * c + 0x4 * (k - 1), lo := 0, width := 32, acc := .cr, reset := 0, kept := .cP3, lim := .any }
/-- `ARM_CTX_UMAX.UMAX` (R117). -/
def ARM_CTX_UMAX_UMAX (c : Nat) : Field :=
  { addr := 0x20002C + 0x100 * c, lo := 0, width := 32, acc := .cr, reset := 0, kept := .cP3, lim := .signed (-0x40000000) 0x40000000 }
/-- `ARM_CTX_UMIN.UMIN` (R117). -/
def ARM_CTX_UMIN_UMIN (c : Nat) : Field :=
  { addr := 0x200030 + 0x100 * c, lo := 0, width := 32, acc := .cr, reset := 0, kept := .cP3, lim := .signed (-0x40000000) 0x40000000 }
/-- `ARM_CTX_REF.REF` (R117). -/
def ARM_CTX_REF_REF (c : Nat) : Field :=
  { addr := 0x200034 + 0x100 * c, lo := 0, width := 32, acc := .cr, reset := 0, kept := .cP3, lim := .any }
/-- `ARM_CTX_RAMP.RAMP` (R117). -/
def ARM_CTX_RAMP_RAMP (c : Nat) : Field :=
  { addr := 0x200038 + 0x100 * c, lo := 0, width := 31, acc := .cr, reset := 0, kept := .cP3, lim := .any }
/-- `ARM_CTX_INIT.INIT` (R117). -/
def ARM_CTX_INIT_INIT (c : Nat) : Field :=
  { addr := 0x20003C + 0x100 * c, lo := 0, width := 32, acc := .cr, reset := 0, kept := .cP3, lim := .any }
/-- `ARM_CTX_STAT.REGION` (R117). -/
def ARM_CTX_STAT_REGION (c : Nat) : Field :=
  { addr := 0x200040 + 0x100 * c, lo := 0, width := 3, acc := .ro, reset := 0, kept := .cP3, lim := .any }
/-- `ARM_CTX_STAT.ACTIVE` (R117). -/
def ARM_CTX_STAT_ACTIVE (c : Nat) : Field :=
  { addr := 0x200040 + 0x100 * c, lo := 3, width := 1, acc := .ro, reset := 0, kept := .cP3, lim := .any }
/-- `ARM_CTX_STAT.RAMPING` (R117). -/
def ARM_CTX_STAT_RAMPING (c : Nat) : Field :=
  { addr := 0x200040 + 0x100 * c, lo := 4, width := 1, acc := .ro, reset := 0, kept := .cP3, lim := .any }
/-- `ARM_CTX_STAT.SAT_HI` (R117). -/
def ARM_CTX_STAT_SAT_HI (c : Nat) : Field :=
  { addr := 0x200040 + 0x100 * c, lo := 5, width := 1, acc := .ro, reset := 0, kept := .cP3, lim := .any }
/-- `ARM_CTX_STAT.SAT_LO` (R117). -/
def ARM_CTX_STAT_SAT_LO (c : Nat) : Field :=
  { addr := 0x200040 + 0x100 * c, lo := 6, width := 1, acc := .ro, reset := 0, kept := .cP3, lim := .any }
/-- `ARM_CTX_STAT.TRANSFER` (R117). -/
def ARM_CTX_STAT_TRANSFER (c : Nat) : Field :=
  { addr := 0x200040 + 0x100 * c, lo := 7, width := 1, acc := .ro, reset := 0, kept := .cP3, lim := .any }
/-- `ARM_CTX_STAT.ACC_SAT` (R117). -/
def ARM_CTX_STAT_ACC_SAT (c : Nat) : Field :=
  { addr := 0x200040 + 0x100 * c, lo := 8, width := 1, acc := .ro, reset := 0, kept := .cP3, lim := .any }
/-- `ARM_CTX_STAT.OVF` (R117). -/
def ARM_CTX_STAT_OVF (c : Nat) : Field :=
  { addr := 0x200040 + 0x100 * c, lo := 9, width := 1, acc := .ro, reset := 0, kept := .cP3, lim := .any }
/-- `ARM_CTX_STAT.FENCED` (R117). -/
def ARM_CTX_STAT_FENCED (c : Nat) : Field :=
  { addr := 0x200040 + 0x100 * c, lo := 10, width := 1, acc := .ro, reset := 0, kept := .cP3, lim := .any }
/-- `ARM_CTX_STAT.STALE` (R117). -/
def ARM_CTX_STAT_STALE (c : Nat) : Field :=
  { addr := 0x200040 + 0x100 * c, lo := 11, width := 1, acc := .ro, reset := 0, kept := .cP3, lim := .any }
/-- `ARM_CTX_FB.FB` (R117). -/
def ARM_CTX_FB_FB (c : Nat) : Field :=
  { addr := 0x200044 + 0x100 * c, lo := 0, width := 32, acc := .ro, reset := 0, kept := .cP3, lim := .any }
/-- `ARM_CTX_RNOW.R` (R117). -/
def ARM_CTX_RNOW_R (c : Nat) : Field :=
  { addr := 0x200048 + 0x100 * c, lo := 0, width := 32, acc := .ro, reset := 0, kept := .cP3, lim := .any }
/-- `ARM_CTX_ERR.E` (R117). -/
def ARM_CTX_ERR_E (c : Nat) : Field :=
  { addr := 0x20004C + 0x100 * c, lo := 0, width := 32, acc := .ro, reset := 0, kept := .cP3, lim := .any }
/-- `ARM_CTX_OUT.U` (R117). -/
def ARM_CTX_OUT_U (c : Nat) : Field :=
  { addr := 0x200050 + 0x100 * c, lo := 0, width := 32, acc := .ro, reset := 0, kept := .cP3, lim := .any }
/-- `ARM_CTX_D.D` (R117). -/
def ARM_CTX_D_D (c : Nat) : Field :=
  { addr := 0x200054 + 0x100 * c, lo := 0, width := 32, acc := .ro, reset := 0, kept := .cP3, lim := .any }
/-- `ARM_CTX_V.V` (R117). -/
def ARM_CTX_V_V (c : Nat) : Field :=
  { addr := 0x200058 + 0x100 * c, lo := 0, width := 32, acc := .ro, reset := 0, kept := .cP3, lim := .any }
/-- `ARM_CTX_Ek.E` (R117). -/
def ARM_CTX_Ek_E (c k : Nat) : Field :=
  { addr := 0x20005C + 0x100 * c + 0x4 * (k - 1), lo := 0, width := 32, acc := .ro, reset := 0, kept := .cP3, lim := .any }
/-- `ARM_CTX_Yk.Y` (R117). -/
def ARM_CTX_Yk_Y (c k : Nat) : Field :=
  { addr := 0x200068 + 0x100 * c + 0x4 * (k - 1), lo := 0, width := 32, acc := .ro, reset := 0, kept := .cP3, lim := .any }
/-- `ARM_CTX_SWITCHES.COUNT` (R117). -/
def ARM_CTX_SWITCHES_COUNT (c : Nat) : Field :=
  { addr := 0x200074 + 0x100 * c, lo := 0, width := 32, acc := .ro, reset := 0, kept := .cP3, lim := .any }
/-- `ARM_WIN_STAT.CYCLES` (R119). -/
def ARM_WIN_STAT_CYCLES : Field :=
  { addr := 0x210000, lo := 0, width := 9, acc := .ro, reset := 0, kept := .cP3, lim := .any }
/-- `ARM_WIN_STAT.TRANSFERS` (R119). -/
def ARM_WIN_STAT_TRANSFERS : Field :=
  { addr := 0x210000, lo := 16, width := 9, acc := .ro, reset := 0, kept := .cP3, lim := .any }
/-- `ARM_MAP0.DAB_BASE` (R119). -/
def ARM_MAP0_DAB_BASE : Field :=
  { addr := 0x210010, lo := 0, width := 8, acc := .cr, reset := 0, kept := .cP3, lim := .within 0 64 }
/-- `ARM_MAP0.ARMI_BASE` (R119). -/
def ARM_MAP0_ARMI_BASE : Field :=
  { addr := 0x210010, lo := 8, width := 8, acc := .cr, reset := 192, kept := .cP3, lim := .any }
/-- `ARM_MAP0.ARME_BASE` (R119). -/
def ARM_MAP0_ARME_BASE : Field :=
  { addr := 0x210010, lo := 16, width := 8, acc := .cr, reset := 195, kept := .cP3, lim := .any }
/-- `ARM_MAP0.LVBUS` (R119). -/
def ARM_MAP0_LVBUS : Field :=
  { addr := 0x210010, lo := 24, width := 8, acc := .cr, reset := 198, kept := .cP3, lim := .any }
/-- `ARM_MAP1.PORT_BASE` (R119). -/
def ARM_MAP1_PORT_BASE : Field :=
  { addr := 0x210014, lo := 0, width := 8, acc := .cr, reset := 199, kept := .cP3, lim := .any }
/-- `ARM_MAP1.INV_BASE` (R119). -/
def ARM_MAP1_INV_BASE : Field :=
  { addr := 0x210014, lo := 8, width := 8, acc := .cr, reset := 207, kept := .cP3, lim := .any }
/-- `ARM_STALE_LIM.LIMIT` (R119). -/
def ARM_STALE_LIM_LIMIT : Field :=
  { addr := 0x210018, lo := 0, width := 8, acc := .cr, reset := 4, kept := .cP3, lim := .within 1 255 }
/-- `ARM_ACTIVEk.ACTIVE` (R119). -/
def ARM_ACTIVEk_ACTIVE (k : Nat) : Field :=
  { addr := 0x210020 + 0x4 * k, lo := 0, width := 32, acc := .ro, reset := 0, kept := .cP3, lim := .any }
/-- `ARM_FENCEDk.FENCED` (R119). -/
def ARM_FENCEDk_FENCED (k : Nat) : Field :=
  { addr := 0x210040 + 0x4 * k, lo := 0, width := 32, acc := .ro, reset := 0, kept := .cP3, lim := .any }
/-- `ARM_HOSTSIGk.VALUE` (R119). -/
def ARM_HOSTSIGk_VALUE (k : Nat) : Field :=
  { addr := 0x210100 + 0x4 * k, lo := 0, width := 32, acc := .cr, reset := 0, kept := .cP3, lim := .any }
/-- `ARM_COEF_B0.RAW` (R118). -/
def ARM_COEF_B0_RAW (c g : Nat) : Field :=
  { addr := 0x220000 + 0x400 * c + 0x80 * g, lo := 0, width := 32, acc := .cr, reset := 0, kept := .cP3, lim := .any }
/-- `ARM_COEF_B1.RAW` (R118). -/
def ARM_COEF_B1_RAW (c g : Nat) : Field :=
  { addr := 0x220004 + 0x400 * c + 0x80 * g, lo := 0, width := 32, acc := .cr, reset := 0, kept := .cP3, lim := .any }
/-- `ARM_COEF_B2.RAW` (R118). -/
def ARM_COEF_B2_RAW (c g : Nat) : Field :=
  { addr := 0x220008 + 0x400 * c + 0x80 * g, lo := 0, width := 32, acc := .cr, reset := 0, kept := .cP3, lim := .any }
/-- `ARM_COEF_B3.RAW` (R118). -/
def ARM_COEF_B3_RAW (c g : Nat) : Field :=
  { addr := 0x22000C + 0x400 * c + 0x80 * g, lo := 0, width := 32, acc := .cr, reset := 0, kept := .cP3, lim := .any }
/-- `ARM_COEF_A1.RAW` (R118). -/
def ARM_COEF_A1_RAW (c g : Nat) : Field :=
  { addr := 0x220010 + 0x400 * c + 0x80 * g, lo := 0, width := 32, acc := .cr, reset := 0, kept := .cP3, lim := .any }
/-- `ARM_COEF_A2.RAW` (R118). -/
def ARM_COEF_A2_RAW (c g : Nat) : Field :=
  { addr := 0x220014 + 0x400 * c + 0x80 * g, lo := 0, width := 32, acc := .cr, reset := 0, kept := .cP3, lim := .any }
/-- `ARM_COEF_A3.RAW` (R118). -/
def ARM_COEF_A3_RAW (c g : Nat) : Field :=
  { addr := 0x220018 + 0x400 * c + 0x80 * g, lo := 0, width := 32, acc := .cr, reset := 0, kept := .cP3, lim := .any }
/-- `ARM_COEF_SHIFT0.SB0` (R118). -/
def ARM_COEF_SHIFT0_SB0 (c g : Nat) : Field :=
  { addr := 0x22001C + 0x400 * c + 0x80 * g, lo := 0, width := 5, acc := .cr, reset := 0, kept := .cP3, lim := .any }
/-- `ARM_COEF_SHIFT0.SB1` (R118). -/
def ARM_COEF_SHIFT0_SB1 (c g : Nat) : Field :=
  { addr := 0x22001C + 0x400 * c + 0x80 * g, lo := 8, width := 5, acc := .cr, reset := 0, kept := .cP3, lim := .any }
/-- `ARM_COEF_SHIFT0.SB2` (R118). -/
def ARM_COEF_SHIFT0_SB2 (c g : Nat) : Field :=
  { addr := 0x22001C + 0x400 * c + 0x80 * g, lo := 16, width := 5, acc := .cr, reset := 0, kept := .cP3, lim := .any }
/-- `ARM_COEF_SHIFT0.SB3` (R118). -/
def ARM_COEF_SHIFT0_SB3 (c g : Nat) : Field :=
  { addr := 0x22001C + 0x400 * c + 0x80 * g, lo := 24, width := 5, acc := .cr, reset := 0, kept := .cP3, lim := .any }
/-- `ARM_COEF_SHIFT1.SA1` (R118). -/
def ARM_COEF_SHIFT1_SA1 (c g : Nat) : Field :=
  { addr := 0x220020 + 0x400 * c + 0x80 * g, lo := 0, width := 5, acc := .cr, reset := 0, kept := .cP3, lim := .any }
/-- `ARM_COEF_SHIFT1.SA2` (R118). -/
def ARM_COEF_SHIFT1_SA2 (c g : Nat) : Field :=
  { addr := 0x220020 + 0x400 * c + 0x80 * g, lo := 8, width := 5, acc := .cr, reset := 0, kept := .cP3, lim := .any }
/-- `ARM_COEF_SHIFT1.SA3` (R118). -/
def ARM_COEF_SHIFT1_SA3 (c g : Nat) : Field :=
  { addr := 0x220020 + 0x400 * c + 0x80 * g, lo := 16, width := 5, acc := .cr, reset := 0, kept := .cP3, lim := .any }

/-! ### CHSL: chisel -/

/-- `CHSL_CFG.SHORT_POL` (R176). -/
def CHSL_CFG_SHORT_POL : Field :=
  { addr := 0x300000, lo := 0, width := 3, acc := .cr, reset := 0, kept := .cP3, lim := .any }
/-- `CHSL_CFG.DAB_SPREAD` (R176). -/
def CHSL_CFG_DAB_SPREAD : Field :=
  { addr := 0x300000, lo := 3, width := 1, acc := .cr, reset := 1, kept := .cP3, lim := .any }
/-- `CHSL_DAB_PERIOD.PERIOD` (R176). -/
def CHSL_DAB_PERIOD_PERIOD : Field :=
  { addr := 0x300004, lo := 0, width := 21, acc := .cr, reset := 512000, kept := .cP3, lim := .within 256000 1280000 }
/-- `CHSL_DAB_STEP.STEP_MAX` (R176). -/
def CHSL_DAB_STEP_STEP_MAX : Field :=
  { addr := 0x300008, lo := 0, width := 15, acc := .cr, reset := 2048, kept := .cP3, lim := .within 1 16384 }
/-- `CHSL_MINP_FLOOR.FLOOR` (R176). -/
def CHSL_MINP_FLOOR_FLOOR : Field :=
  { addr := 0x30000C, lo := 0, width := 13, acc := .cr, reset := 200, kept := .cP3, lim := .within 50 5000 }
/-- `CHSL_STAT.FRAMES` (R176). -/
def CHSL_STAT_FRAMES : Field :=
  { addr := 0x300010, lo := 0, width := 8, acc := .ro, reset := 0, kept := .cP3, lim := .any }
/-- `CHSL_STAT.SWALLOWS` (R176). -/
def CHSL_STAT_SWALLOWS : Field :=
  { addr := 0x300010, lo := 8, width := 8, acc := .ro, reset := 0, kept := .cP3, lim := .any }
/-- `CHSL_STAT.STRETCHES` (R176). -/
def CHSL_STAT_STRETCHES : Field :=
  { addr := 0x300010, lo := 16, width := 8, acc := .ro, reset := 0, kept := .cP3, lim := .any }
/-- `CHSL_STAT.PHI_LIMITED` (R176). -/
def CHSL_STAT_PHI_LIMITED : Field :=
  { addr := 0x300010, lo := 24, width := 1, acc := .ro, reset := 0, kept := .cP3, lim := .any }
/-- `CHSL_CAP_SEL.SLOT` (R176). -/
def CHSL_CAP_SEL_SLOT : Field :=
  { addr := 0x300020, lo := 0, width := 8, acc := .rw, reset := 0, kept := .cP3, lim := .any }
/-- `CHSL_CAP_SEL.EN` (R176). -/
def CHSL_CAP_SEL_EN : Field :=
  { addr := 0x300020, lo := 8, width := 1, acc := .rw, reset := 0, kept := .cP3, lim := .any }
/-- `CHSL_CAP_Wk.WORD` (R176). -/
def CHSL_CAP_Wk_WORD (k : Nat) : Field :=
  { addr := 0x300040 + 0x4 * k, lo := 0, width := 32, acc := .ro, reset := 0, kept := .cP3, lim := .any }
/-- `CHSL_CELL_MODE.MODE` (R177). -/
def CHSL_CELL_MODE_MODE (s : Nat) : Field :=
  { addr := 0x301000 + 0x20 * s, lo := 0, width := 2, acc := .ro, reset := 0, kept := .cP3, lim := .any }
/-- `CHSL_CELL_MODE.SPARE` (R177). -/
def CHSL_CELL_MODE_SPARE (s : Nat) : Field :=
  { addr := 0x301000 + 0x20 * s, lo := 2, width := 1, acc := .ro, reset := 0, kept := .cP3, lim := .any }
/-- `CHSL_CELL_MODE.CHARGE_ONLY` (R177). -/
def CHSL_CELL_MODE_CHARGE_ONLY (s : Nat) : Field :=
  { addr := 0x301000 + 0x20 * s, lo := 3, width := 1, acc := .ro, reset := 0, kept := .cP3, lim := .any }
/-- `CHSL_CELL_MODE.POSITION` (R177). -/
def CHSL_CELL_MODE_POSITION (s : Nat) : Field :=
  { addr := 0x301000 + 0x20 * s, lo := 8, width := 6, acc := .ro, reset := 0, kept := .cP3, lim := .any }
/-- `CHSL_CELL_PHASE.PHASE` (R177). -/
def CHSL_CELL_PHASE_PHASE (s : Nat) : Field :=
  { addr := 0x301004 + 0x20 * s, lo := 0, width := 32, acc := .ro, reset := 0, kept := .cP3, lim := .any }
/-- `CHSL_CELL_M.M` (R177). -/
def CHSL_CELL_M_M (s : Nat) : Field :=
  { addr := 0x301008 + 0x20 * s, lo := 0, width := 32, acc := .ro, reset := 0, kept := .cP3, lim := .any }
/-- `CHSL_CELL_PHI.PHI` (R177). -/
def CHSL_CELL_PHI_PHI (s : Nat) : Field :=
  { addr := 0x30100C + 0x20 * s, lo := 0, width := 16, acc := .ro, reset := 0, kept := .cP3, lim := .any }
/-- `CHSL_CELL_PHI.EN` (R177). -/
def CHSL_CELL_PHI_EN (s : Nat) : Field :=
  { addr := 0x30100C + 0x20 * s, lo := 16, width := 1, acc := .ro, reset := 0, kept := .cP3, lim := .any }
/-- `CHSL_CELL_PHI.LIMITED` (R177). -/
def CHSL_CELL_PHI_LIMITED (s : Nat) : Field :=
  { addr := 0x30100C + 0x20 * s, lo := 17, width := 1, acc := .ro, reset := 0, kept := .cP3, lim := .any }
/-- `CHSL_CELL_EDGES.LEG_A` (R177). -/
def CHSL_CELL_EDGES_LEG_A (s : Nat) : Field :=
  { addr := 0x301010 + 0x20 * s, lo := 0, width := 3, acc := .ro, reset := 0, kept := .cP3, lim := .any }
/-- `CHSL_CELL_EDGES.LEG_B` (R177). -/
def CHSL_CELL_EDGES_LEG_B (s : Nat) : Field :=
  { addr := 0x301010 + 0x20 * s, lo := 4, width := 3, acc := .ro, reset := 0, kept := .cP3, lim := .any }
/-- `CHSL_CELL_TMIN.TMIN` (R177). -/
def CHSL_CELL_TMIN_TMIN (s : Nat) : Field :=
  { addr := 0x301014 + 0x20 * s, lo := 0, width := 21, acc := .ro, reset := 0, kept := .cP3, lim := .any }
/-- `CHSL_CELL_CNT.SWALLOW` (R177). -/
def CHSL_CELL_CNT_SWALLOW (s : Nat) : Field :=
  { addr := 0x301018 + 0x20 * s, lo := 0, width := 16, acc := .rc, reset := 0, kept := .cP3, lim := .any }
/-- `CHSL_CELL_CNT.STRETCH` (R177). -/
def CHSL_CELL_CNT_STRETCH (s : Nat) : Field :=
  { addr := 0x301018 + 0x20 * s, lo := 16, width := 16, acc := .rc, reset := 0, kept := .cP3, lim := .any }

/-! ### CELL: cell service and ledger -/

/-- `CELL_SLOT_STAT.STATE` (R233). -/
def CELL_SLOT_STAT_STATE (s : Nat) : Field :=
  { addr := 0x340000 + 0x20 * s, lo := 0, width := 3, acc := .ro, reset := 0, kept := .c, lim := .any }
/-- `CELL_SLOT_STAT.SPARE` (R233). -/
def CELL_SLOT_STAT_SPARE (s : Nat) : Field :=
  { addr := 0x340000 + 0x20 * s, lo := 3, width := 1, acc := .ro, reset := 0, kept := .c, lim := .any }
/-- `CELL_SLOT_STAT.INSERTED` (R233). -/
def CELL_SLOT_STAT_INSERTED (s : Nat) : Field :=
  { addr := 0x340000 + 0x20 * s, lo := 4, width := 1, acc := .ro, reset := 0, kept := .c, lim := .any }
/-- `CELL_SLOT_STAT.LOCKOUT` (R233). -/
def CELL_SLOT_STAT_LOCKOUT (s : Nat) : Field :=
  { addr := 0x340000 + 0x20 * s, lo := 5, width := 1, acc := .ro, reset := 0, kept := .c, lim := .any }
/-- `CELL_SLOT_STAT.HOST_FENCE` (R233). -/
def CELL_SLOT_STAT_HOST_FENCE (s : Nat) : Field :=
  { addr := 0x340000 + 0x20 * s, lo := 6, width := 1, acc := .ro, reset := 0, kept := .c, lim := .any }
/-- `CELL_SLOT_STAT.FENCE_CAUSE` (R233). -/
def CELL_SLOT_STAT_FENCE_CAUSE (s : Nat) : Field :=
  { addr := 0x340000 + 0x20 * s, lo := 8, width := 8, acc := .ro, reset := 0, kept := .c, lim := .any }
/-- `CELL_SLOT_STAT.JOIN_CNT` (R233). -/
def CELL_SLOT_STAT_JOIN_CNT (s : Nat) : Field :=
  { addr := 0x340000 + 0x20 * s, lo := 16, width := 7, acc := .ro, reset := 0, kept := .c, lim := .any }
/-- `CELL_SLOT_FAULT.CODE` (R233). -/
def CELL_SLOT_FAULT_CODE (s : Nat) : Field :=
  { addr := 0x340004 + 0x20 * s, lo := 0, width := 8, acc := .ro, reset := 0, kept := .c, lim := .any }
/-- `CELL_SLOT_FAULT.PRESENT` (R233). -/
def CELL_SLOT_FAULT_PRESENT (s : Nat) : Field :=
  { addr := 0x340004 + 0x20 * s, lo := 8, width := 1, acc := .ro, reset := 0, kept := .c, lim := .any }
/-- `CELL_SLOT_FAULT.RECOVER` (R233). -/
def CELL_SLOT_FAULT_RECOVER (s : Nat) : Field :=
  { addr := 0x340004 + 0x20 * s, lo := 16, width := 4, acc := .ro, reset := 0, kept := .c, lim := .any }
/-- `CELL_SLOT_CFG.AUTO` (R233). -/
def CELL_SLOT_CFG_AUTO (s : Nat) : Field :=
  { addr := 0x340008 + 0x20 * s, lo := 0, width := 1, acc := .cr, reset := 1, kept := .cP3, lim := .any }
/-- `CELL_WI.WI` (R233). -/
def CELL_WI_WI (s : Nat) : Field :=
  { addr := 0x34000C + 0x20 * s, lo := 0, width := 32, acc := .ro, reset := 0, kept := .nv, lim := .any }
/-- `CELL_CYCLES.COUNT` (R233). -/
def CELL_CYCLES_COUNT (s : Nat) : Field :=
  { addr := 0x340010 + 0x20 * s, lo := 0, width := 32, acc := .ro, reset := 0, kept := .nv, lim := .any }
/-- `CELL_SN_LO.SN` (R233). -/
def CELL_SN_LO_SN (s : Nat) : Field :=
  { addr := 0x340014 + 0x20 * s, lo := 0, width := 32, acc := .ro, reset := 0, kept := .nv, lim := .any }
/-- `CELL_SN_HI.SN` (R233). -/
def CELL_SN_HI_SN (s : Nat) : Field :=
  { addr := 0x340018 + 0x20 * s, lo := 0, width := 32, acc := .ro, reset := 0, kept := .nv, lim := .any }
/-- `CELL_ARM_STAT.IN_SERVICE` (R234). -/
def CELL_ARM_STAT_IN_SERVICE (k : Nat) : Field :=
  { addr := 0x342000 + 0x10 * k, lo := 0, width := 7, acc := .ro, reset := 0, kept := .c, lim := .any }
/-- `CELL_ARM_STAT.ACTIVE` (R234). -/
def CELL_ARM_STAT_ACTIVE (k : Nat) : Field :=
  { addr := 0x342000 + 0x10 * k, lo := 8, width := 7, acc := .ro, reset := 0, kept := .c, lim := .any }
/-- `CELL_ARM_STAT.SPARES` (R234). -/
def CELL_ARM_STAT_SPARES (k : Nat) : Field :=
  { addr := 0x342000 + 0x10 * k, lo := 16, width := 7, acc := .ro, reset := 0, kept := .c, lim := .any }
/-- `CELL_ARM_STAT.INSERTED` (R234). -/
def CELL_ARM_STAT_INSERTED (k : Nat) : Field :=
  { addr := 0x342000 + 0x10 * k, lo := 24, width := 7, acc := .ro, reset := 0, kept := .c, lim := .any }
/-- `CELL_ARM_SWAP.IN_SLOT` (R234). -/
def CELL_ARM_SWAP_IN_SLOT (k : Nat) : Field :=
  { addr := 0x342004 + 0x10 * k, lo := 0, width := 8, acc := .ro, reset := 255, kept := .c, lim := .any }
/-- `CELL_ARM_SWAP.OUT_SLOT` (R234). -/
def CELL_ARM_SWAP_OUT_SLOT (k : Nat) : Field :=
  { addr := 0x342004 + 0x10 * k, lo := 8, width := 8, acc := .ro, reset := 255, kept := .c, lim := .any }
/-- `CELL_ARM_SWAP.ACTIVE` (R234). -/
def CELL_ARM_SWAP_ACTIVE (k : Nat) : Field :=
  { addr := 0x342004 + 0x10 * k, lo := 16, width := 1, acc := .ro, reset := 0, kept := .c, lim := .any }
/-- `CELL_GCFG.W_CHG` (R235). -/
def CELL_GCFG_W_CHG : Field :=
  { addr := 0x343000, lo := 0, width := 12, acc := .cr, reset := 512, kept := .cP3, lim := .within 256 2048 }
/-- `CELL_GCFG.START_PROBE` (R235). -/
def CELL_GCFG_START_PROBE : Field :=
  { addr := 0x343000, lo := 12, width := 1, acc := .cr, reset := 1, kept := .cP3, lim := .any }
/-- `CELL_GCFG.HOLD` (R235). -/
def CELL_GCFG_HOLD : Field :=
  { addr := 0x343000, lo := 16, width := 8, acc := .cr, reset := 64, kept := .cP3, lim := .within 1 255 }
/-- `CELL_TIMEOUT.LINK_MS` (R235). -/
def CELL_TIMEOUT_LINK_MS : Field :=
  { addr := 0x343004, lo := 0, width := 16, acc := .cr, reset := 2000, kept := .cP3, lim := .within 100 60000 }
/-- `CELL_TIMEOUT.CHG_MS` (R235). -/
def CELL_TIMEOUT_CHG_MS : Field :=
  { addr := 0x343004, lo := 16, width := 16, acc := .cr, reset := 2000, kept := .cP3, lim := .within 10 60000 }
/-- `CELL_SPARE_CFG.ROT_MIN` (R235). -/
def CELL_SPARE_CFG_ROT_MIN : Field :=
  { addr := 0x343008, lo := 0, width := 12, acc := .cr, reset := 60, kept := .cP3, lim := .any }
/-- `CELL_SPARE_CFG.MARGIN` (R235). -/
def CELL_SPARE_CFG_MARGIN : Field :=
  { addr := 0x343008, lo := 16, width := 4, acc := .cr, reset := 5, kept := .cP3, lim := .any }
/-- `CELL_SPARE_CFG.SAG_PCT` (R235). -/
def CELL_SPARE_CFG_SAG_PCT : Field :=
  { addr := 0x343008, lo := 24, width := 4, acc := .cr, reset := 5, kept := .cP3, lim := .within 1 15 }
/-- `CELL_FAULT_CLASS0.CLASS` (R235). -/
def CELL_FAULT_CLASS0_CLASS (n : Nat) : Field :=
  { addr := 0x343010, lo := 4 * n, width := 4, acc := .cr, reset := if n = 6 then 2 else 1, kept := .cP3, lim := .within 0 4 }
/-- `CELL_FAULT_CLASS1.CLASS9` (R235). -/
def CELL_FAULT_CLASS1_CLASS9 : Field :=
  { addr := 0x343014, lo := 0, width := 4, acc := .cr, reset := 1, kept := .cP3, lim := .within 0 4 }
/-- `CELL_FAULT_CLASS1.CLASS10` (R235). -/
def CELL_FAULT_CLASS1_CLASS10 : Field :=
  { addr := 0x343014, lo := 4, width := 4, acc := .cr, reset := 1, kept := .cP3, lim := .within 0 4 }
/-- `CELL_PATINA_CFG.BETA` (R235). -/
def CELL_PATINA_CFG_BETA : Field :=
  { addr := 0x343018, lo := 0, width := 8, acc := .cr, reset := 80, kept := .cP3, lim := .within 16 160 }
/-- `CELL_PATINA_CFG.DT_REF` (R235). -/
def CELL_PATINA_CFG_DT_REF : Field :=
  { addr := 0x343018, lo := 8, width := 8, acc := .cr, reset := 40, kept := .cP3, lim := .within 10 100 }
/-- `CELL_PATINA_CFG.TM_REF` (R235). -/
def CELL_PATINA_CFG_TM_REF : Field :=
  { addr := 0x343018, lo := 16, width := 8, acc := .cr, reset := 80, kept := .cP3, lim := .within 0 150 }
/-- `CELL_PATINA_CFG.TM_HALF` (R235). -/
def CELL_PATINA_CFG_TM_HALF : Field :=
  { addr := 0x343018, lo := 24, width := 8, acc := .cr, reset := 20, kept := .cP3, lim := .within 5 60 }
/-- `CELL_LDG_CTRL.COMMIT` (R235). -/
def CELL_LDG_CTRL_COMMIT : Field :=
  { addr := 0x34301C, lo := 0, width := 1, acc := .wo, reset := 0, kept := .none, lim := .any }
/-- `CELL_LDG_STAT.AGE_MIN` (R235). -/
def CELL_LDG_STAT_AGE_MIN : Field :=
  { addr := 0x343020, lo := 0, width := 16, acc := .ro, reset := 0, kept := .c, lim := .any }
/-- `CELL_LDG_STAT.FAIL` (R235). -/
def CELL_LDG_STAT_FAIL : Field :=
  { addr := 0x343020, lo := 16, width := 1, acc := .ro, reset := 0, kept := .c, lim := .any }
/-- `CELL_LEG_SRCk.AIN` (R235). -/
def CELL_LEG_SRCk_AIN (k j : Nat) : Field :=
  { addr := 0x343030 + 0x4 * k, lo := 8 * j, width := 6, acc := .cr, reset := 0, kept := .cP3, lim := .any }
/-- `CELL_LEG_SRCk.EN` (R235). -/
def CELL_LEG_SRCk_EN (k j : Nat) : Field :=
  { addr := 0x343030 + 0x4 * k, lo := 8 * j + 7, width := 1, acc := .cr, reset := 0, kept := .cP3, lim := .any }
/-- `CELL_LEG_WIr.WI` (R235). -/
def CELL_LEG_WIr_WI (r : Nat) : Field :=
  { addr := 0x343080 + 0x4 * r, lo := 0, width := 32, acc := .ro, reset := 0, kept := .nv, lim := .any }
/-- `CELL_LDG_SEL.RECORD` (R235). -/
def CELL_LDG_SEL_RECORD : Field :=
  { addr := 0x3430F0, lo := 0, width := 8, acc := .rw, reset := 0, kept := .cP3, lim := .any }
/-- `CELL_LDG_SEL.GROUP` (R235). -/
def CELL_LDG_SEL_GROUP : Field :=
  { addr := 0x3430F0, lo := 8, width := 2, acc := .rw, reset := 0, kept := .cP3, lim := .any }
/-- `CELL_LDG_BINk.COUNT` (R235). -/
def CELL_LDG_BINk_COUNT (k : Nat) : Field :=
  { addr := 0x343100 + 0x4 * k, lo := 0, width := 32, acc := .ro, reset := 0, kept := .nv, lim := .any }

/-! ### PWM: local legs -/

/-- `PWM_LEG_CFG.SRC` (R268). -/
def PWM_LEG_CFG_SRC (l : Nat) : Field :=
  { addr := 0x400000 + 0x40 * l, lo := 0, width := 3, acc := .cr, reset := 0, kept := .cP3, lim := .any }
/-- `PWM_LEG_CFG.MODE` (R268). -/
def PWM_LEG_CFG_MODE (l : Nat) : Field :=
  { addr := 0x400000 + 0x40 * l, lo := 3, width := 1, acc := .cr, reset := 0, kept := .cP3, lim := .any }
/-- `PWM_LEG_CFG.UPD` (R268). -/
def PWM_LEG_CFG_UPD (l : Nat) : Field :=
  { addr := 0x400000 + 0x40 * l, lo := 4, width := 1, acc := .cr, reset := 0, kept := .cP3, lim := .any }
/-- `PWM_LEG_CFG.SHORT_POL` (R268). -/
def PWM_LEG_CFG_SHORT_POL (l : Nat) : Field :=
  { addr := 0x400000 + 0x40 * l, lo := 5, width := 1, acc := .cr, reset := 0, kept := .cP3, lim := .any }
/-- `PWM_LEG_CFG.AUTO` (R268). -/
def PWM_LEG_CFG_AUTO (l : Nat) : Field :=
  { addr := 0x400000 + 0x40 * l, lo := 6, width := 1, acc := .cr, reset := 1, kept := .cP3, lim := .any }
/-- `PWM_LEG_PERIOD.PERIOD` (R268). -/
def PWM_LEG_PERIOD_PERIOD (l : Nat) : Field :=
  { addr := 0x400004 + 0x40 * l, lo := 0, width := 24, acc := .cr, reset := 640000, kept := .cP3, lim := .within 6400 12800000 }
/-- `PWM_LEG_OFFS.OFFS` (R268). -/
def PWM_LEG_OFFS_OFFS (l : Nat) : Field :=
  { addr := 0x400008 + 0x40 * l, lo := 0, width := 24, acc := .cr, reset := 0, kept := .cP3, lim := .any }
/-- `PWM_LEG_CMP_ON.CMP` (R268). -/
def PWM_LEG_CMP_ON_CMP (l : Nat) : Field :=
  { addr := 0x40000C + 0x40 * l, lo := 0, width := 32, acc := .cr, reset := 0, kept := .cP3, lim := .any }
/-- `PWM_LEG_CMP_OFF.CMP` (R268). -/
def PWM_LEG_CMP_OFF_CMP (l : Nat) : Field :=
  { addr := 0x400010 + 0x40 * l, lo := 0, width := 32, acc := .cr, reset := 0, kept := .cP3, lim := .any }
/-- `PWM_LEG_TIMING.DT` (R268). -/
def PWM_LEG_TIMING_DT (l : Nat) : Field :=
  { addr := 0x400014 + 0x40 * l, lo := 0, width := 13, acc := .cr, reset := 500, kept := .cP3, lim := .within 20 5000 }
/-- `PWM_LEG_TIMING.MINP` (R268). -/
def PWM_LEG_TIMING_MINP (l : Nat) : Field :=
  { addr := 0x400014 + 0x40 * l, lo := 16, width := 13, acc := .cr, reset := 200, kept := .cP3, lim := .within 50 5000 }
/-- `PWM_LEG_BS.TMAX` (R268). -/
def PWM_LEG_BS_TMAX (l : Nat) : Field :=
  { addr := 0x400018 + 0x40 * l, lo := 0, width := 14, acc := .cr, reset := 5000, kept := .cP3, lim := .within 10 10000 }
/-- `PWM_LEG_BS.INT` (R268). -/
def PWM_LEG_BS_INT (l : Nat) : Field :=
  { addr := 0x400018 + 0x40 * l, lo := 16, width := 14, acc := .cr, reset := 1000, kept := .cP3, lim := .within 10 10000 }
/-- `PWM_LEG_BSW.PULSE` (R268). -/
def PWM_LEG_BSW_PULSE (l : Nat) : Field :=
  { addr := 0x40001C + 0x40 * l, lo := 0, width := 13, acc := .cr, reset := 500, kept := .cP3, lim := .within 200 5000 }
/-- `PWM_LEG_FORCE.EN` (R268). -/
def PWM_LEG_FORCE_EN (l : Nat) : Field :=
  { addr := 0x400020 + 0x40 * l, lo := 0, width := 1, acc := .rw, reset := 0, kept := .c, lim := .any }
/-- `PWM_LEG_FORCE.UPPER` (R268). -/
def PWM_LEG_FORCE_UPPER (l : Nat) : Field :=
  { addr := 0x400020 + 0x40 * l, lo := 1, width := 1, acc := .rw, reset := 0, kept := .c, lim := .any }
/-- `PWM_LEG_FORCE.LOWER` (R268). -/
def PWM_LEG_FORCE_LOWER (l : Nat) : Field :=
  { addr := 0x400020 + 0x40 * l, lo := 2, width := 1, acc := .rw, reset := 0, kept := .c, lim := .any }
/-- `PWM_LEG_STAT.STATE` (R268). -/
def PWM_LEG_STAT_STATE (l : Nat) : Field :=
  { addr := 0x400024 + 0x40 * l, lo := 0, width := 2, acc := .ro, reset := 0, kept := .c, lim := .any }
/-- `PWM_LEG_STAT.FENCED` (R268). -/
def PWM_LEG_STAT_FENCED (l : Nat) : Field :=
  { addr := 0x400024 + 0x40 * l, lo := 2, width := 1, acc := .ro, reset := 0, kept := .c, lim := .any }
/-- `PWM_LEG_STAT.LATCHED` (R268). -/
def PWM_LEG_STAT_LATCHED (l : Nat) : Field :=
  { addr := 0x400024 + 0x40 * l, lo := 3, width := 1, acc := .ro, reset := 0, kept := .c, lim := .any }
/-- `PWM_LEG_STAT.ANCHORED` (R268). -/
def PWM_LEG_STAT_ANCHORED (l : Nat) : Field :=
  { addr := 0x400024 + 0x40 * l, lo := 4, width := 1, acc := .ro, reset := 0, kept := .c, lim := .any }
/-- `PWM_LEG_STAT.CLAMP` (R268). -/
def PWM_LEG_STAT_CLAMP (l : Nat) : Field :=
  { addr := 0x400024 + 0x40 * l, lo := 5, width := 1, acc := .ro, reset := 0, kept := .c, lim := .any }
/-- `PWM_LEG_STAT.CAUSE` (R268). -/
def PWM_LEG_STAT_CAUSE (l : Nat) : Field :=
  { addr := 0x400024 + 0x40 * l, lo := 8, width := 4, acc := .ro, reset := 0, kept := .c, lim := .any }
/-- `PWM_LEG_TON.TICK` (R268). -/
def PWM_LEG_TON_TICK (l : Nat) : Field :=
  { addr := 0x400028 + 0x40 * l, lo := 0, width := 24, acc := .ro, reset := 0, kept := .c, lim := .any }
/-- `PWM_LEG_TOFF.TICK` (R268). -/
def PWM_LEG_TOFF_TICK (l : Nat) : Field :=
  { addr := 0x40002C + 0x40 * l, lo := 0, width := 24, acc := .ro, reset := 0, kept := .c, lim := .any }
/-- `PWM_LEG_CNT.SWALLOW` (R268). -/
def PWM_LEG_CNT_SWALLOW (l : Nat) : Field :=
  { addr := 0x400030 + 0x40 * l, lo := 0, width := 16, acc := .rc, reset := 0, kept := .cP3, lim := .any }
/-- `PWM_LEG_CNT.STRETCH` (R268). -/
def PWM_LEG_CNT_STRETCH (l : Nat) : Field :=
  { addr := 0x400030 + 0x40 * l, lo := 16, width := 16, acc := .rc, reset := 0, kept := .cP3, lim := .any }
/-- `PWM_LEG_ICNT.SHOOT` (R268). -/
def PWM_LEG_ICNT_SHOOT (l : Nat) : Field :=
  { addr := 0x400034 + 0x40 * l, lo := 0, width := 16, acc := .rc, reset := 0, kept := .cP3, lim := .any }
/-- `PWM_LEG_ICNT.REFRESH` (R268). -/
def PWM_LEG_ICNT_REFRESH (l : Nat) : Field :=
  { addr := 0x400034 + 0x40 * l, lo := 16, width := 16, acc := .rc, reset := 0, kept := .cP3, lim := .any }
/-- `PWM_STAT.MULTI` (R269). -/
def PWM_STAT_MULTI : Field :=
  { addr := 0x400800, lo := 0, width := 1, acc := .ro, reset := 0, kept := .cP3, lim := .any }
/-- `PWM_FENCED.LEGS` (R269). -/
def PWM_FENCED_LEGS : Field :=
  { addr := 0x400804, lo := 0, width := 24, acc := .ro, reset := 0, kept := .c, lim := .any }
/-- `PWM_TRIPk.LEG` (R269). -/
def PWM_TRIPk_LEG (k : Nat) : Field :=
  { addr := 0x400900 + 0x4 * k, lo := 0, width := 5, acc := .cr, reset := 0, kept := .cP3, lim := .within 0 23 }
/-- `PWM_TRIPk.ACTION` (R269). -/
def PWM_TRIPk_ACTION (k : Nat) : Field :=
  { addr := 0x400900 + 0x4 * k, lo := 5, width := 2, acc := .cr, reset := 0, kept := .cP3, lim := .within 0 2 }
/-- `PWM_TRIPk.POL` (R269). -/
def PWM_TRIPk_POL (k : Nat) : Field :=
  { addr := 0x400900 + 0x4 * k, lo := 7, width := 1, acc := .cr, reset := 0, kept := .cP3, lim := .any }
/-- `PWM_TRIPk.BLANK` (R269). -/
def PWM_TRIPk_BLANK (k : Nat) : Field :=
  { addr := 0x400900 + 0x4 * k, lo := 8, width := 8, acc := .cr, reset := 0, kept := .cP3, lim := .within 0 200 }
/-- `PWM_TRIP_STAT.LEVEL` (R269). -/
def PWM_TRIP_STAT_LEVEL : Field :=
  { addr := 0x400940, lo := 0, width := 16, acc := .ro, reset := 0, kept := .none, lim := .any }
/-- `PWM_TRIP_STAT.LATCH` (R269). -/
def PWM_TRIP_STAT_LATCH : Field :=
  { addr := 0x400940, lo := 16, width := 16, acc := .w1c, reset := 0, kept := .cP3, lim := .any }
/-- `PWM_BRK_CFG.TMAX_MS` (R269). -/
def PWM_BRK_CFG_TMAX_MS : Field :=
  { addr := 0x400A00, lo := 16, width := 16, acc := .cr, reset := 2000, kept := .cP3, lim := .within 1 60000 }
/-- `PWM_BRK_OPT.VON` (R269). -/
def PWM_BRK_OPT_VON : Field :=
  { addr := 0x400A04, lo := 0, width := 11, acc := .ro, reset := 1150, kept := .nv, lim := .any }
/-- `PWM_BRK_OPT.VOFF` (R269). -/
def PWM_BRK_OPT_VOFF : Field :=
  { addr := 0x400A04, lo := 16, width := 11, acc := .ro, reset := 1120, kept := .nv, lim := .any }
/-- `PWM_BRK_OPT.RST_EN` (R269). -/
def PWM_BRK_OPT_RST_EN : Field :=
  { addr := 0x400A04, lo := 31, width := 1, acc := .ro, reset := 0, kept := .nv, lim := .any }
/-- `PWM_BRK_STAT.ON` (R269). -/
def PWM_BRK_STAT_ON : Field :=
  { addr := 0x400A08, lo := 0, width := 1, acc := .ro, reset := 0, kept := .none, lim := .any }
/-- `PWM_BRK_STAT.ARMED` (R269). -/
def PWM_BRK_STAT_ARMED : Field :=
  { addr := 0x400A08, lo := 1, width := 1, acc := .ro, reset := 0, kept := .none, lim := .any }
/-- `PWM_BRK_CNT.COUNT` (R269). -/
def PWM_BRK_CNT_COUNT : Field :=
  { addr := 0x400A0C, lo := 0, width := 32, acc := .rc, reset := 0, kept := .cP3, lim := .any }
/-- `PWM_DIAG_CTRL.START` (R269). -/
def PWM_DIAG_CTRL_START : Field :=
  { addr := 0x400B00, lo := 0, width := 12, acc := .wo, reset := 0, kept := .none, lim := .any }
/-- `PWM_DIAG_CFG.STEP_MS` (R269). -/
def PWM_DIAG_CFG_STEP_MS : Field :=
  { addr := 0x400B04, lo := 0, width := 13, acc := .cr, reset := 100, kept := .cP3, lim := .within 10 5000 }
/-- `PWM_DIAG_STAT.BUSY` (R269). -/
def PWM_DIAG_STAT_BUSY : Field :=
  { addr := 0x400B08, lo := 0, width := 12, acc := .ro, reset := 0, kept := .c, lim := .any }
/-- `PWM_DIAG_STAT.PASS` (R269). -/
def PWM_DIAG_STAT_PASS : Field :=
  { addr := 0x400B08, lo := 16, width := 12, acc := .ro, reset := 0, kept := .c, lim := .any }
/-- `PWM_DIAG_NODEn.AIN` (R269). -/
def PWM_DIAG_NODEn_AIN (n : Nat) : Field :=
  { addr := 0x400C00 + 0x4 * n, lo := 0, width := 6, acc := .cr, reset := 0, kept := .cP3, lim := .any }
/-- `PWM_DIAG_NODEn.OPEN_EN` (R269). -/
def PWM_DIAG_NODEn_OPEN_EN (n : Nat) : Field :=
  { addr := 0x400C00 + 0x4 * n, lo := 7, width := 1, acc := .cr, reset := if n < 24 then 1 else 0, kept := .cP3, lim := .any }
/-- `PWM_DIAG_RESn.CLASS` (R269). -/
def PWM_DIAG_RESn_CLASS (n : Nat) : Field :=
  { addr := 0x400D00 + 0x8 * n, lo := 0, width := 3, acc := .ro, reset := 0, kept := .c, lim := .any }
/-- `PWM_DIAG_RESn.V0` (R269). -/
def PWM_DIAG_RESn_V0 (n : Nat) : Field :=
  { addr := 0x400D00 + 0x8 * n, lo := 16, width := 16, acc := .ro, reset := 0, kept := .c, lim := .any }
/-- `PWM_DIAG_Vn.V1` (R269). -/
def PWM_DIAG_Vn_V1 (n : Nat) : Field :=
  { addr := 0x400D04 + 0x8 * n, lo := 0, width := 16, acc := .ro, reset := 0, kept := .c, lim := .any }
/-- `PWM_DIAG_Vn.V2` (R269). -/
def PWM_DIAG_Vn_V2 (n : Nat) : Field :=
  { addr := 0x400D04 + 0x8 * n, lo := 16, width := 16, acc := .ro, reset := 0, kept := .c, lim := .any }

/-! ### GATE: gate drive -/

/-- `GATE_CH_DRIVE.ION` (R270). -/
def GATE_CH_DRIVE_ION (ch : Nat) : Field :=
  { addr := 0x410000 + 0x20 * ch, lo := 0, width := 5, acc := .cr, reset := 7, kept := .cP3, lim := .any }
/-- `GATE_CH_DRIVE.IOFF` (R270). -/
def GATE_CH_DRIVE_IOFF (ch : Nat) : Field :=
  { addr := 0x410000 + 0x20 * ch, lo := 8, width := 5, acc := .cr, reset := 11, kept := .cP3, lim := .any }
/-- `GATE_CH_DRIVE.ISOFT` (R270). -/
def GATE_CH_DRIVE_ISOFT (ch : Nat) : Field :=
  { addr := 0x410000 + 0x20 * ch, lo := 16, width := 5, acc := .cr, reset := 1, kept := .cP3, lim := .any }
/-- `GATE_CH_DRIVE.VPOS` (R270). -/
def GATE_CH_DRIVE_VPOS (ch : Nat) : Field :=
  { addr := 0x410000 + 0x20 * ch, lo := 24, width := 4, acc := .cr, reset := 6, kept := .cP3, lim := .within 0 10 }
/-- `GATE_CH_PROT.VNEG` (R270). -/
def GATE_CH_PROT_VNEG (ch : Nat) : Field :=
  { addr := 0x410004 + 0x20 * ch, lo := 0, width := 3, acc := .cr, reset := 4, kept := .cP3, lim := .within 0 6 }
/-- `GATE_CH_PROT.MILLER` (R270). -/
def GATE_CH_PROT_MILLER (ch : Nat) : Field :=
  { addr := 0x410004 + 0x20 * ch, lo := 3, width := 1, acc := .cr, reset := 1, kept := .cP3, lim := .any }
/-- `GATE_CH_PROT.DESAT_EN` (R270). -/
def GATE_CH_PROT_DESAT_EN (ch : Nat) : Field :=
  { addr := 0x410004 + 0x20 * ch, lo := 4, width := 1, acc := .cr, reset := 1, kept := .cP3, lim := .any }
/-- `GATE_CH_PROT.DESAT_TH` (R270). -/
def GATE_CH_PROT_DESAT_TH (ch : Nat) : Field :=
  { addr := 0x410004 + 0x20 * ch, lo := 8, width := 4, acc := .cr, reset := 6, kept := .cP3, lim := .within 0 11 }
/-- `GATE_CH_PROT.BLANK` (R270). -/
def GATE_CH_PROT_BLANK (ch : Nat) : Field :=
  { addr := 0x410004 + 0x20 * ch, lo := 16, width := 7, acc := .cr, reset := 24, kept := .cP3, lim := .within 4 80 }
/-- `GATE_CH_STAT.POWERED` (R270). -/
def GATE_CH_STAT_POWERED (ch : Nat) : Field :=
  { addr := 0x410008 + 0x20 * ch, lo := 0, width := 1, acc := .ro, reset := 0, kept := .c, lim := .any }
/-- `GATE_CH_STAT.UVLO` (R270). -/
def GATE_CH_STAT_UVLO (ch : Nat) : Field :=
  { addr := 0x410008 + 0x20 * ch, lo := 1, width := 1, acc := .ro, reset := 0, kept := .c, lim := .any }
/-- `GATE_CH_STAT.GATE_OFF` (R270). -/
def GATE_CH_STAT_GATE_OFF (ch : Nat) : Field :=
  { addr := 0x410008 + 0x20 * ch, lo := 2, width := 1, acc := .ro, reset := 0, kept := .c, lim := .any }
/-- `GATE_CH_STAT.DESAT` (R270). -/
def GATE_CH_STAT_DESAT (ch : Nat) : Field :=
  { addr := 0x410008 + 0x20 * ch, lo := 3, width := 1, acc := .ro, reset := 0, kept := .cP3, lim := .any }
/-- `GATE_LEG_OC.AIN` (R271). -/
def GATE_LEG_OC_AIN (l : Nat) : Field :=
  { addr := 0x410800 + 0x4 * l, lo := 0, width := 6, acc := .cr, reset := 0, kept := .cP3, lim := .any }
/-- `GATE_LEG_OC.EN` (R271). -/
def GATE_LEG_OC_EN (l : Nat) : Field :=
  { addr := 0x410800 + 0x4 * l, lo := 7, width := 1, acc := .cr, reset := 0, kept := .cP3, lim := .any }
/-- `GATE_LEG_OC.TH` (R271). -/
def GATE_LEG_OC_TH (l : Nat) : Field :=
  { addr := 0x410800 + 0x4 * l, lo := 8, width := 12, acc := .cr, reset := 4095, kept := .cP3, lim := .any }
/-- `GATE_STAT.GATE24_OK` (R271). -/
def GATE_STAT_GATE24_OK : Field :=
  { addr := 0x410900, lo := 0, width := 1, acc := .ro, reset := 0, kept := .none, lim := .any }
/-- `GATE_STAT.SUPPLY_A` (R271). -/
def GATE_STAT_SUPPLY_A : Field :=
  { addr := 0x410900, lo := 1, width := 1, acc := .ro, reset := 0, kept := .none, lim := .any }
/-- `GATE_STAT.SUPPLY_B` (R271). -/
def GATE_STAT_SUPPLY_B : Field :=
  { addr := 0x410900, lo := 2, width := 1, acc := .ro, reset := 0, kept := .none, lim := .any }
/-- `GATE_STAT.STUCK` (R271). -/
def GATE_STAT_STUCK : Field :=
  { addr := 0x410900, lo := 4, width := 8, acc := .ro, reset := 0, kept := .cP3, lim := .any }
/-- `GATE_SHORT.LEGS` (R271). -/
def GATE_SHORT_LEGS : Field :=
  { addr := 0x410904, lo := 0, width := 24, acc := .ro, reset := 0, kept := .cP3, lim := .any }
/-- `GATE_SS_STAT.CLOSED` (R271). -/
def GATE_SS_STAT_CLOSED : Field :=
  { addr := 0x410908, lo := 0, width := 8, acc := .ro, reset := 0, kept := .c, lim := .any }

/-! ### PORT: DC ports -/

/-- `PORT_STAT.STATE` (R290). -/
def PORT_STAT_STATE (p : Nat) : Field :=
  { addr := 0x420000 + 0x20 * p, lo := 0, width := 4, acc := .ro, reset := 0, kept := .c, lim := .any }
/-- `PORT_STAT.FALLBACK` (R290). -/
def PORT_STAT_FALLBACK (p : Nat) : Field :=
  { addr := 0x420000 + 0x20 * p, lo := 4, width := 1, acc := .ro, reset := 0, kept := .c, lim := .any }
/-- `PORT_STAT.LIMITING` (R290). -/
def PORT_STAT_LIMITING (p : Nat) : Field :=
  { addr := 0x420000 + 0x20 * p, lo := 5, width := 1, acc := .ro, reset := 0, kept := .c, lim := .any }
/-- `PORT_STAT.RETRIES` (R290). -/
def PORT_STAT_RETRIES (p : Nat) : Field :=
  { addr := 0x420000 + 0x20 * p, lo := 6, width := 2, acc := .ro, reset := 0, kept := .c, lim := .any }
/-- `PORT_STAT.CAUSE` (R290). -/
def PORT_STAT_CAUSE (p : Nat) : Field :=
  { addr := 0x420000 + 0x20 * p, lo := 8, width := 4, acc := .ro, reset := 0, kept := .c, lim := .any }
/-- `PORT_VREF.R` (R290). -/
def PORT_VREF_R (p : Nat) : Field :=
  { addr := 0x420004 + 0x20 * p, lo := 0, width := 20, acc := .ro, reset := 0, kept := .c, lim := .any }
/-- `PORT_VOUT.V` (R290). -/
def PORT_VOUT_V (p : Nat) : Field :=
  { addr := 0x420008 + 0x20 * p, lo := 0, width := 20, acc := .ro, reset := 0, kept := .c, lim := .any }
/-- `PORT_IPH.IA` (R290). -/
def PORT_IPH_IA (p : Nat) : Field :=
  { addr := 0x42000C + 0x20 * p, lo := 0, width := 16, acc := .ro, reset := 0, kept := .c, lim := .any }
/-- `PORT_IPH.IB` (R290). -/
def PORT_IPH_IB (p : Nat) : Field :=
  { addr := 0x42000C + 0x20 * p, lo := 16, width := 16, acc := .ro, reset := 0, kept := .c, lim := .any }
/-- `PORT_TON.TON` (R290). -/
def PORT_TON_TON (p : Nat) : Field :=
  { addr := 0x420010 + 0x20 * p, lo := 0, width := 24, acc := .ro, reset := 0, kept := .c, lim := .any }
/-- `PORT_THETA.THETA` (R290). -/
def PORT_THETA_THETA (p : Nat) : Field :=
  { addr := 0x420014 + 0x20 * p, lo := 0, width := 32, acc := .ro, reset := 0, kept := .c, lim := .any }
/-- `PORT_LIM_CNT.COUNT` (R290). -/
def PORT_LIM_CNT_COUNT (p : Nat) : Field :=
  { addr := 0x420018 + 0x20 * p, lo := 0, width := 32, acc := .rc, reset := 0, kept := .cP3, lim := .any }
/-- `PORT_HIC_CNT.COUNT` (R290). -/
def PORT_HIC_CNT_COUNT (p : Nat) : Field :=
  { addr := 0x42001C + 0x20 * p, lo := 0, width := 32, acc := .rc, reset := 0, kept := .cP3, lim := .any }
/-- `PORT_CFG.RUN` (R290). -/
def PORT_CFG_RUN (p : Nat) : Field :=
  { addr := 0x420400 + 0x80 * p, lo := 0, width := 1, acc := .cr, reset := 0, kept := .cP3, lim := .any }
/-- `PORT_CFG.AUTO` (R290). -/
def PORT_CFG_AUTO (p : Nat) : Field :=
  { addr := 0x420400 + 0x80 * p, lo := 1, width := 1, acc := .cr, reset := 1, kept := .cP3, lim := .any }
/-- `PORT_CFG.FB_START` (R290). -/
def PORT_CFG_FB_START (p : Nat) : Field :=
  { addr := 0x420400 + 0x80 * p, lo := 2, width := 1, acc := .cr, reset := 0, kept := .cP3, lim := .any }
/-- `PORT_VCMD.V` (R290). -/
def PORT_VCMD_V (p : Nat) : Field :=
  { addr := 0x420404 + 0x80 * p, lo := 0, width := 17, acc := .cr, reset := 15000, kept := .cP3, lim := .within 15000 95000 }
/-- `PORT_SLEW.RATE` (R290). -/
def PORT_SLEW_RATE (p : Nat) : Field :=
  { addr := 0x420408 + 0x80 * p, lo := 0, width := 10, acc := .cr, reset := 100, kept := .cP3, lim := .within 1 1000 }
/-- `PORT_SLEW.SS_MS` (R290). -/
def PORT_SLEW_SS_MS (p : Nat) : Field :=
  { addr := 0x420408 + 0x80 * p, lo := 16, width := 14, acc := .cr, reset := 100, kept := .cP3, lim := .within 1 10000 }
/-- `PORT_TSW.TSW` (R290). -/
def PORT_TSW_TSW (p : Nat) : Field :=
  { addr := 0x42040C + 0x80 * p, lo := 0, width := 24, acc := .cr, reset := 256000, kept := .cP3, lim := .within 64000 1280000 }
/-- `PORT_TLIM.TOFF_MIN` (R290). -/
def PORT_TLIM_TOFF_MIN (p : Nat) : Field :=
  { addr := 0x420410 + 0x80 * p, lo := 0, width := 13, acc := .cr, reset := 400, kept := .cP3, lim := .within 100 5000 }
/-- `PORT_SNS.VOUT_AIN` (R290). -/
def PORT_SNS_VOUT_AIN (p : Nat) : Field :=
  { addr := 0x420414 + 0x80 * p, lo := 0, width := 6, acc := .cr, reset := 0, kept := .cP3, lim := .any }
/-- `PORT_SNS.IA_AIN` (R290). -/
def PORT_SNS_IA_AIN (p : Nat) : Field :=
  { addr := 0x420414 + 0x80 * p, lo := 8, width := 6, acc := .cr, reset := 0, kept := .cP3, lim := .any }
/-- `PORT_SNS.IB_AIN` (R290). -/
def PORT_SNS_IB_AIN (p : Nat) : Field :=
  { addr := 0x420414 + 0x80 * p, lo := 16, width := 6, acc := .cr, reset := 0, kept := .cP3, lim := .any }
/-- `PORT_ILIM.FAST` (R290). -/
def PORT_ILIM_FAST (p : Nat) : Field :=
  { addr := 0x420418 + 0x80 * p, lo := 0, width := 12, acc := .cr, reset := 3072, kept := .cP3, lim := .within 1 4094 }
/-- `PORT_OVL.I_OVL` (R290). -/
def PORT_OVL_I_OVL (p : Nat) : Field :=
  { addr := 0x42041C + 0x80 * p, lo := 0, width := 16, acc := .cr, reset := 4000, kept := .cP3, lim := .within 1 65535 }
/-- `PORT_OVL.TAU_MS` (R290). -/
def PORT_OVL_TAU_MS (p : Nat) : Field :=
  { addr := 0x42041C + 0x80 * p, lo := 16, width := 14, acc := .cr, reset := 1000, kept := .cP3, lim := .within 1 10000 }
/-- `PORT_RIPPLE.KRIP` (R290). -/
def PORT_RIPPLE_KRIP (p : Nat) : Field :=
  { addr := 0x420420 + 0x80 * p, lo := 0, width := 12, acc := .cr, reset := 64, kept := .cP3, lim := .within 1 4095 }
/-- `PORT_SEQ.T_CLOSE_MS` (R290). -/
def PORT_SEQ_T_CLOSE_MS (p : Nat) : Field :=
  { addr := 0x420424 + 0x80 * p, lo := 0, width := 8, acc := .cr, reset := 2, kept := .cP3, lim := .within 1 255 }
/-- `PORT_HIC.OFF_MS` (R290). -/
def PORT_HIC_OFF_MS (p : Nat) : Field :=
  { addr := 0x420428 + 0x80 * p, lo := 0, width := 16, acc := .cr, reset := 500, kept := .cP3, lim := .within 10 60000 }
/-- `PORT_FB_VSELk.V` (R290). -/
def PORT_FB_VSELk_V (p k : Nat) : Field :=
  { addr := 0x420440 + 0x80 * p + 0x4 * k, lo := 0, width := 17, acc := .cr, reset := 0, kept := .cP3, lim := .zeroOr 15000 95000 }
/-- `PORT_FB_CFG.TIMEOUT_MS` (R290). -/
def PORT_FB_CFG_TIMEOUT_MS : Field :=
  { addr := 0x420800, lo := 0, width := 16, acc := .cr, reset := 0, kept := .cP3, lim := .zeroOr 100 60000 }
/-- `PORT_FB_CFG.PIN_EN` (R290). -/
def PORT_FB_CFG_PIN_EN : Field :=
  { addr := 0x420800, lo := 16, width := 1, acc := .cr, reset := 0, kept := .cP3, lim := .any }
/-- `PORT_FB_STAT.ACTIVE` (R290). -/
def PORT_FB_STAT_ACTIVE : Field :=
  { addr := 0x420804, lo := 0, width := 1, acc := .ro, reset := 0, kept := .c, lim := .any }
/-- `PORT_FB_STAT.HOST` (R290). -/
def PORT_FB_STAT_HOST : Field :=
  { addr := 0x420804, lo := 1, width := 1, acc := .ro, reset := 0, kept := .c, lim := .any }
/-- `PORT_FB_STAT.PIN` (R290). -/
def PORT_FB_STAT_PIN : Field :=
  { addr := 0x420804, lo := 2, width := 1, acc := .ro, reset := 0, kept := .c, lim := .any }
/-- `PORT_FB_STAT.VSEL` (R290). -/
def PORT_FB_STAT_VSEL : Field :=
  { addr := 0x420804, lo := 4, width := 3, acc := .ro, reset := 0, kept := .c, lim := .any }
/-- `PORT_FB_CTRL.RESUME` (R290). -/
def PORT_FB_CTRL_RESUME : Field :=
  { addr := 0x420808, lo := 0, width := 1, acc := .wo, reset := 0, kept := .none, lim := .any }

/-! ### ADC: measurement -/

/-- `ADC_CTRL.SCAN` (R308). -/
def ADC_CTRL_SCAN : Field :=
  { addr := 0x500000, lo := 0, width := 1, acc := .rw, reset := 0, kept := .c, lim := .any }
/-- `ADC_CTRL.CAPTURE_HALT` (R308). -/
def ADC_CTRL_CAPTURE_HALT : Field :=
  { addr := 0x500000, lo := 1, width := 1, acc := .rw, reset := 0, kept := .c, lim := .any }
/-- `ADC_CTRL.ROT_HOLD` (R308). -/
def ADC_CTRL_ROT_HOLD : Field :=
  { addr := 0x500000, lo := 2, width := 1, acc := .rw, reset := 0, kept := .c, lim := .any }
/-- `ADC_CTRL.HOST` (R308). -/
def ADC_CTRL_HOST : Field :=
  { addr := 0x500000, lo := 8, width := 8, acc := .rw, reset := 0, kept := .c, lim := .any }
/-- `ADC_CTRL.SCAN_DELAY` (R308). -/
def ADC_CTRL_SCAN_DELAY : Field :=
  { addr := 0x500000, lo := 16, width := 8, acc := .rw, reset := 2, kept := .c, lim := .any }
/-- `ADC_STAT.OVR` (R308). -/
def ADC_STAT_OVR : Field :=
  { addr := 0x500004, lo := 0, width := 8, acc := .w1c, reset := 0, kept := .c, lim := .any }
/-- `ADC_STAT.NOCONV` (R308). -/
def ADC_STAT_NOCONV : Field :=
  { addr := 0x500004, lo := 8, width := 8, acc := .ro, reset := 0, kept := .c, lim := .any }
/-- `ADC_STAT.NOROT` (R308). -/
def ADC_STAT_NOROT : Field :=
  { addr := 0x500004, lo := 16, width := 1, acc := .ro, reset := 0, kept := .c, lim := .any }
/-- `ADC_SCAN_MASK0.MASK` (R308). -/
def ADC_SCAN_MASK0_MASK : Field :=
  { addr := 0x500008, lo := 0, width := 32, acc := .rw, reset := 4294967295, kept := .c, lim := .any }
/-- `ADC_SCAN_MASK1.MASK` (R308). -/
def ADC_SCAN_MASK1_MASK : Field :=
  { addr := 0x50000C, lo := 0, width := 32, acc := .rw, reset := 4294967295, kept := .c, lim := .any }
/-- `ADC_CONVk.STATE` (R308). -/
def ADC_CONVk_STATE (k : Nat) : Field :=
  { addr := 0x500020 + 0x4 * k, lo := 0, width := 2, acc := .ro, reset := 0, kept := .c, lim := .any }
/-- `ADC_CONVk.SEQ` (R308). -/
def ADC_CONVk_SEQ (k : Nat) : Field :=
  { addr := 0x500020 + 0x4 * k, lo := 2, width := 3, acc := .ro, reset := 0, kept := .c, lim := .any }
/-- `ADC_CONVk.FULL` (R308). -/
def ADC_CONVk_FULL (k : Nat) : Field :=
  { addr := 0x500020 + 0x4 * k, lo := 5, width := 1, acc := .ro, reset := 0, kept := .c, lim := .any }
/-- `ADC_CONVk.OFFS` (R308). -/
def ADC_CONVk_OFFS (k : Nat) : Field :=
  { addr := 0x500020 + 0x4 * k, lo := 8, width := 8, acc := .ro, reset := 0, kept := .c, lim := .any }
/-- `ADC_CONVk.GAINERR` (R308). -/
def ADC_CONVk_GAINERR (k : Nat) : Field :=
  { addr := 0x500020 + 0x4 * k, lo := 16, width := 16, acc := .ro, reset := 0, kept := .c, lim := .any }
/-- `ADC_SEQ_CFGk.LEN` (R308). -/
def ADC_SEQ_CFGk_LEN (k : Nat) : Field :=
  { addr := 0x500100 + 0x4 * k, lo := 0, width := 6, acc := .cr, reset := 1, kept := .cP3, lim := .within 1 32 }
/-- `ADC_SEQ_CFGk.SYNC` (R308). -/
def ADC_SEQ_CFGk_SYNC (k : Nat) : Field :=
  { addr := 0x500100 + 0x4 * k, lo := 6, width := 1, acc := .cr, reset := 1, kept := .cP3, lim := .any }
/-- `ADC_SEQ_CFGk.EN` (R308). -/
def ADC_SEQ_CFGk_EN (k : Nat) : Field :=
  { addr := 0x500100 + 0x4 * k, lo := 7, width := 1, acc := .cr, reset := 0, kept := .cP3, lim := .any }
/-- `ADC_DATAk.CODE` (R308). -/
def ADC_DATAk_CODE (k : Nat) : Field :=
  { addr := 0x500120 + 0x4 * k, lo := 0, width := 16, acc := .ro, reset := 0, kept := .none, lim := .any }
/-- `ADC_DATAk.AIN` (R308). -/
def ADC_DATAk_AIN (k : Nat) : Field :=
  { addr := 0x500120 + 0x4 * k, lo := 16, width := 6, acc := .ro, reset := 0, kept := .none, lim := .any }
/-- `ADC_DATAk.VALID` (R308). -/
def ADC_DATAk_VALID (k : Nat) : Field :=
  { addr := 0x500120 + 0x4 * k, lo := 29, width := 1, acc := .rc, reset := 0, kept := .none, lim := .any }
/-- `ADC_SEQk_Ej.AIN` (R309). -/
def ADC_SEQk_Ej_AIN (k j : Nat) : Field :=
  { addr := 0x501000 + 0x80 * k + 0x4 * j, lo := 0, width := 6, acc := .cr, reset := 0, kept := .cP3, lim := .any }
/-- `ADC_SEQk_Ej.AVG` (R309). -/
def ADC_SEQk_Ej_AVG (k j : Nat) : Field :=
  { addr := 0x501000 + 0x80 * k + 0x4 * j, lo := 7, width := 1, acc := .cr, reset := 0, kept := .cP3, lim := .any }
/-- `ADC_SEQk_Ej.REPEAT` (R309). -/
def ADC_SEQk_Ej_REPEAT (k j : Nat) : Field :=
  { addr := 0x501000 + 0x80 * k + 0x4 * j, lo := 8, width := 8, acc := .cr, reset := 0, kept := .cP3, lim := .any }
/-- `ADC_SEQk_Ej.DELAY` (R309). -/
def ADC_SEQk_Ej_DELAY (k j : Nat) : Field :=
  { addr := 0x501000 + 0x80 * k + 0x4 * j, lo := 16, width := 8, acc := .cr, reset := 1, kept := .cP3, lim := .any }
/-- `ADC_IN_CFGi.RANGE` (R310). -/
def ADC_IN_CFGi_RANGE (i : Nat) : Field :=
  { addr := 0x502000 + 0x20 * i, lo := 0, width := 2, acc := .cr, reset := 0, kept := .cP3, lim := .any }
/-- `ADC_IN_CFGi.OW` (R310). -/
def ADC_IN_CFGi_OW (i : Nat) : Field :=
  { addr := 0x502000 + 0x20 * i, lo := 2, width := 3, acc := .cr, reset := 0, kept := .cP3, lim := .within 0 4 }
/-- `ADC_IN_GAINi.GAIN` (R310). -/
def ADC_IN_GAINi_GAIN (i : Nat) : Field :=
  { addr := 0x502004 + 0x20 * i, lo := 0, width := 32, acc := .cr, reset := 16777216, kept := .cP3, lim := .any }
/-- `ADC_IN_SCALEi.SHIFT` (R310). -/
def ADC_IN_SCALEi_SHIFT (i : Nat) : Field :=
  { addr := 0x502008 + 0x20 * i, lo := 0, width := 5, acc := .cr, reset := 15, kept := .cP3, lim := .any }
/-- `ADC_IN_SCALEi.OFFS` (R310). -/
def ADC_IN_SCALEi_OFFS (i : Nat) : Field :=
  { addr := 0x502008 + 0x20 * i, lo := 16, width := 16, acc := .cr, reset := 0, kept := .cP3, lim := .any }
/-- `ADC_IN_BASEi.BASE` (R310). -/
def ADC_IN_BASEi_BASE (i : Nat) : Field :=
  { addr := 0x50200C + 0x20 * i, lo := 0, width := 16, acc := .cr, reset := 100, kept := .cP3, lim := .within 1 65535 }
/-- `ADC_IN_BASEi.UNIT` (R310). -/
def ADC_IN_BASEi_UNIT (i : Nat) : Field :=
  { addr := 0x50200C + 0x20 * i, lo := 16, width := 2, acc := .cr, reset := 0, kept := .cP3, lim := .any }
/-- `ADC_IN_VALi.X` (R310). -/
def ADC_IN_VALi_X (i : Nat) : Field :=
  { addr := 0x502010 + 0x20 * i, lo := 0, width := 32, acc := .ro, reset := 0, kept := .c, lim := .any }
/-- `ADC_IN_STATi.CODE` (R310). -/
def ADC_IN_STATi_CODE (i : Nat) : Field :=
  { addr := 0x502014 + 0x20 * i, lo := 0, width := 16, acc := .ro, reset := 0, kept := .c, lim := .any }
/-- `ADC_IN_STATi.STALE` (R310). -/
def ADC_IN_STATi_STALE (i : Nat) : Field :=
  { addr := 0x502014 + 0x20 * i, lo := 16, width := 1, acc := .ro, reset := 1, kept := .c, lim := .any }
/-- `ADC_IN_STATi.OPEN` (R310). -/
def ADC_IN_STATi_OPEN (i : Nat) : Field :=
  { addr := 0x502014 + 0x20 * i, lo := 17, width := 1, acc := .ro, reset := 0, kept := .c, lim := .any }
/-- `ADC_IN_STATi.OVERRANGE` (R310). -/
def ADC_IN_STATi_OVERRANGE (i : Nat) : Field :=
  { addr := 0x502014 + 0x20 * i, lo := 18, width := 1, acc := .ro, reset := 0, kept := .c, lim := .any }
/-- `ADC_IN_STATi.AGE` (R310). -/
def ADC_IN_STATi_AGE (i : Nat) : Field :=
  { addr := 0x502014 + 0x20 * i, lo := 20, width := 12, acc := .ro, reset := 0, kept := .c, lim := .any }

/-! ### DMA: DMA and background -/

/-- Channels 0 to 15 are not the host's: every field of theirs is RO (R438). -/
def hostAcc (n : Nat) (a : Access) : Access := if n < 16 then .ro else a

/-- A field that resets to 1; in the registers of the unused channels 12 to 15 every field reads 0 (R422). -/
def hostOne (n : Nat) : Nat := if 12 ≤ n ∧ n < 16 then 0 else 1

/-- `DMA_CH_SRC.SRC` (R438). -/
def DMA_CH_SRC_SRC (n : Nat) : Field :=
  { addr := 0x600000 + 0x40 * n, lo := 0, width := 32, acc := hostAcc n .rw, reset := 0, kept := .c, lim := .any }
/-- `DMA_CH_LEN.LEN` (R438). -/
def DMA_CH_LEN_LEN (n : Nat) : Field :=
  { addr := 0x600004 + 0x40 * n, lo := 0, width := 16, acc := hostAcc n .rw, reset := 0, kept := .c, lim := .any }
/-- `DMA_CH_CTRL.SWAP` (R438). -/
def DMA_CH_CTRL_SWAP (n : Nat) : Field :=
  { addr := 0x600008 + 0x40 * n, lo := 0, width := 2, acc := hostAcc n .rw, reset := 0, kept := .c, lim := .any }
/-- `DMA_CH_CTRL.PRIO` (R438). -/
def DMA_CH_CTRL_PRIO (n : Nat) : Field :=
  { addr := 0x600008 + 0x40 * n, lo := 2, width := 2, acc := hostAcc n .rw, reset := 0, kept := .c, lim := .any }
/-- `DMA_CH_CTRL.TRIG` (R438). -/
def DMA_CH_CTRL_TRIG (n : Nat) : Field :=
  { addr := 0x600008 + 0x40 * n, lo := 4, width := 1, acc := hostAcc n .rw, reset := 0, kept := .c, lim := .any }
/-- `DMA_CH_CTRL.DEC` (R438). -/
def DMA_CH_CTRL_DEC (n : Nat) : Field :=
  { addr := 0x600008 + 0x40 * n, lo := 16, width := 16, acc := hostAcc n .rw, reset := hostOne n, kept := .c, lim := .any }
/-- `DMA_CH_RING_BASE.BASE` (R438). -/
def DMA_CH_RING_BASE_BASE (n : Nat) : Field :=
  { addr := 0x60000C + 0x40 * n, lo := 0, width := 19, acc := hostAcc n .rw, reset := 0, kept := .c, lim := .any }
/-- `DMA_CH_RING_SIZE.SIZE` (R438). -/
def DMA_CH_RING_SIZE_SIZE (n : Nat) : Field :=
  { addr := 0x600010 + 0x40 * n, lo := 0, width := 20, acc := hostAcc n .rw, reset := 0, kept := .c, lim := .any }
/-- `DMA_CH_LOAD.LOAD` (R438). -/
def DMA_CH_LOAD_LOAD (n : Nat) : Field :=
  { addr := 0x600014 + 0x40 * n, lo := 0, width := 1, acc := hostAcc n .wo, reset := 0, kept := .none, lim := .any }
/-- `DMA_CH_LOAD.STOP` (R438). -/
def DMA_CH_LOAD_STOP (n : Nat) : Field :=
  { addr := 0x600014 + 0x40 * n, lo := 1, width := 1, acc := hostAcc n .wo, reset := 0, kept := .none, lim := .any }
/-- `DMA_CH_STAT.BUSY` (R438). -/
def DMA_CH_STAT_BUSY (n : Nat) : Field :=
  { addr := 0x600018 + 0x40 * n, lo := 0, width := 1, acc := .ro, reset := 0, kept := .c, lim := .any }
/-- `DMA_CH_STAT.SHADOW` (R438). -/
def DMA_CH_STAT_SHADOW (n : Nat) : Field :=
  { addr := 0x600018 + 0x40 * n, lo := 1, width := 1, acc := .ro, reset := 0, kept := .c, lim := .any }
/-- `DMA_CH_STAT.BAD` (R438). -/
def DMA_CH_STAT_BAD (n : Nat) : Field :=
  { addr := 0x600018 + 0x40 * n, lo := 2, width := 1, acc := hostAcc n .w1c, reset := 0, kept := .c, lim := .any }
/-- `DMA_CH_STAT.STOPPED` (R438). -/
def DMA_CH_STAT_STOPPED (n : Nat) : Field :=
  { addr := 0x600018 + 0x40 * n, lo := 3, width := 1, acc := .ro, reset := hostOne n, kept := .c, lim := .any }
/-- `DMA_CH_STAT.TORN` (R438). -/
def DMA_CH_STAT_TORN (n : Nat) : Field :=
  { addr := 0x600018 + 0x40 * n, lo := 4, width := 1, acc := hostAcc n .w1c, reset := 0, kept := .c, lim := .any }
/-- `DMA_CH_STAT.MISSED` (R438). -/
def DMA_CH_STAT_MISSED (n : Nat) : Field :=
  { addr := 0x600018 + 0x40 * n, lo := 5, width := 1, acc := hostAcc n .w1c, reset := 0, kept := .c, lim := .any }
/-- `DMA_CH_STAT.LAP` (R438). -/
def DMA_CH_STAT_LAP (n : Nat) : Field :=
  { addr := 0x600018 + 0x40 * n, lo := 16, width := 16, acc := .ro, reset := 0, kept := .c, lim := .any }
/-- `DMA_CH_WPTR.WPTR` (R438). -/
def DMA_CH_WPTR_WPTR (n : Nat) : Field :=
  { addr := 0x60001C + 0x40 * n, lo := 0, width := 20, acc := .ro, reset := 0, kept := .c, lim := .any }
/-- `DMA_CH_CNT.COUNT` (R438). -/
def DMA_CH_CNT_COUNT (n : Nat) : Field :=
  { addr := 0x600020 + 0x40 * n, lo := 0, width := 32, acc := .ro, reset := 0, kept := .c, lim := .any }
/-- `DMA_CH_GAPS.COUNT` (R438). -/
def DMA_CH_GAPS_COUNT (n : Nat) : Field :=
  { addr := 0x600024 + 0x40 * n, lo := 0, width := 32, acc := hostAcc n .rc, reset := 0, kept := .c, lim := .any }
/-- `DMA_STAT.HALTED` (R439). -/
def DMA_STAT_HALTED : Field :=
  { addr := 0x600800, lo := 0, width := 1, acc := .ro, reset := 0, kept := .c, lim := .any }
/-- `DMA_STAT.ERR_CH` (R439). -/
def DMA_STAT_ERR_CH : Field :=
  { addr := 0x600800, lo := 8, width := 5, acc := .ro, reset := 0, kept := .c, lim := .any }
/-- `DMA_STAT.ERR_KIND` (R439). -/
def DMA_STAT_ERR_KIND : Field :=
  { addr := 0x600800, lo := 16, width := 2, acc := .ro, reset := 0, kept := .c, lim := .any }
/-- `DMA_ERR_ADDR.ADDR` (R439). -/
def DMA_ERR_ADDR_ADDR : Field :=
  { addr := 0x600804, lo := 0, width := 32, acc := .ro, reset := 0, kept := .c, lim := .any }
/-- `DMA_CTRL.RESTART` (R439). -/
def DMA_CTRL_RESTART : Field :=
  { addr := 0x600808, lo := 0, width := 1, acc := .wo, reset := 0, kept := .none, lim := .any }
/-- `DMA_OPT.ERR_MODE` (R439). -/
def DMA_OPT_ERR_MODE : Field :=
  { addr := 0x60080C, lo := 0, width := 1, acc := .ro, reset := 1, kept := .nv, lim := .any }
/-- `DMA_BG_SCRUB.PASS_MS` (R439). -/
def DMA_BG_SCRUB_PASS_MS : Field :=
  { addr := 0x600900, lo := 0, width := 16, acc := .ro, reset := 0, kept := .c, lim := .any }
/-- `DMA_BG_SCRUB.PASSES` (R439). -/
def DMA_BG_SCRUB_PASSES : Field :=
  { addr := 0x600900, lo := 16, width := 16, acc := .ro, reset := 0, kept := .c, lim := .any }
/-- `DMA_BG_CORR.COUNT` (R439). -/
def DMA_BG_CORR_COUNT : Field :=
  { addr := 0x600904, lo := 0, width := 32, acc := .rc, reset := 0, kept := .c, lim := .any }
/-- `DMA_BG_EYE.LANE` (R439). -/
def DMA_BG_EYE_LANE : Field :=
  { addr := 0x600908, lo := 0, width := 8, acc := .ro, reset := 0, kept := .c, lim := .any }
/-- `DMA_BG_EYE.SWEEP_MS` (R439). -/
def DMA_BG_EYE_SWEEP_MS : Field :=
  { addr := 0x600908, lo := 16, width := 16, acc := .ro, reset := 0, kept := .c, lim := .any }
/-- `DMA_BG_WEAR.MAX_ERASE` (R439). -/
def DMA_BG_WEAR_MAX_ERASE : Field :=
  { addr := 0x60090C, lo := 0, width := 24, acc := .ro, reset := 0, kept := .nv, lim := .any }
/-- `DMA_BG_MOVES.COUNT` (R439). -/
def DMA_BG_MOVES_COUNT : Field :=
  { addr := 0x600910, lo := 0, width := 32, acc := .rc, reset := 0, kept := .c, lim := .any }
/-- `DMA_BUFw.DATA` (R439). -/
def DMA_BUFw_DATA (w : Nat) : Field :=
  { addr := 0x680000 + 0x4 * w, lo := 0, width := 32, acc := .ro, reset := 0, kept := .c, lim := .any }

/-! ### EVT: events -/

/-- `EVT_STAT.LATCHED` (R357). -/
def EVT_STAT_LATCHED : Field :=
  { addr := 0x700000, lo := 0, width := 1, acc := .ro, reset := 0, kept := .cP3, lim := .any }
/-- `EVT_STAT.LOSS` (R357). -/
def EVT_STAT_LOSS : Field :=
  { addr := 0x700000, lo := 1, width := 1, acc := .w1c, reset := 0, kept := .cP3, lim := .any }
/-- `EVT_STAT.STAGED` (R357). -/
def EVT_STAT_STAGED : Field :=
  { addr := 0x700000, lo := 16, width := 16, acc := .ro, reset := 0, kept := .cP3, lim := .any }
/-- `EVT_NEXT.NUM` (R357). -/
def EVT_NEXT_NUM : Field :=
  { addr := 0x700004, lo := 0, width := 32, acc := .ro, reset := 0, kept := .nv, lim := .any }
/-- `EVT_OLDEST.NUM` (R357). -/
def EVT_OLDEST_NUM : Field :=
  { addr := 0x700008, lo := 0, width := 32, acc := .ro, reset := 0, kept := .nv, lim := .any }
/-- `EVT_ACKED.NUM` (R357). -/
def EVT_ACKED_NUM : Field :=
  { addr := 0x70000C, lo := 0, width := 32, acc := .ro, reset := 0xFFFFFFFF, kept := .nv, lim := .any }
/-- `EVT_UNACK.COUNT` (R357). -/
def EVT_UNACK_COUNT : Field :=
  { addr := 0x700010, lo := 0, width := 32, acc := .ro, reset := 0, kept := .nv, lim := .any }
/-- `EVT_LOST_CNT.COUNT` (R357). -/
def EVT_LOST_CNT_COUNT : Field :=
  { addr := 0x700014, lo := 0, width := 32, acc := .rc, reset := 0, kept := .cP3, lim := .any }
/-- `EVT_SUPP_CNT.COUNT` (R357). -/
def EVT_SUPP_CNT_COUNT : Field :=
  { addr := 0x700018, lo := 0, width := 32, acc := .rc, reset := 0, kept := .cP3, lim := .any }
/-- `EVT_GCFG.HOLDOFF_MS` (R357). -/
def EVT_GCFG_HOLDOFF_MS : Field :=
  { addr := 0x700020, lo := 0, width := 14, acc := .cr, reset := 100, kept := .cP3, lim := .within 0 10000 }
/-- `EVT_RECOV_CFG.QUIET_S` (R357). -/
def EVT_RECOV_CFG_QUIET_S : Field :=
  { addr := 0x700024, lo := 0, width := 12, acc := .cr, reset := 10, kept := .cP3, lim := .within 1 3600 }
/-- `EVT_RECOV_CFG.MAX_RECOVER` (R357). -/
def EVT_RECOV_CFG_MAX_RECOVER : Field :=
  { addr := 0x700024, lo := 12, width := 4, acc := .cr, reset := 3, kept := .cP3, lim := .any }
/-- `EVT_RECOV_CFG.CTX_AUTO` (R357). -/
def EVT_RECOV_CFG_CTX_AUTO : Field :=
  { addr := 0x700024, lo := 16, width := 1, acc := .cr, reset := 1, kept := .cP3, lim := .any }
/-- `EVT_HALT.SOURCE` (R357). -/
def EVT_HALT_SOURCE : Field :=
  { addr := 0x700030, lo := 0, width := 8, acc := .ro, reset := 0, kept := .cSP3P4, lim := .any }
/-- `EVT_HALT.HALTED` (R357). -/
def EVT_HALT_HALTED : Field :=
  { addr := 0x700030, lo := 8, width := 1, acc := .ro, reset := 0, kept := .cSP3P4, lim := .any }
/-- `EVT_INJk.REMAIN` (R357). -/
def EVT_INJk_REMAIN (k : Nat) : Field :=
  { addr := 0x700040 + 0x4 * k, lo := 0, width := 16, acc := .ro, reset := 0, kept := .none, lim := .any }
/-- `EVT_INJk.INDEX` (R357). -/
def EVT_INJk_INDEX (k : Nat) : Field :=
  { addr := 0x700040 + 0x4 * k, lo := 16, width := 8, acc := .ro, reset := 0, kept := .none, lim := .any }
/-- `EVT_LATCHk.LATCHED` (R357). -/
def EVT_LATCHk_LATCHED (k : Nat) : Field :=
  { addr := 0x700080 + 0x4 * k, lo := 0, width := 32, acc := .ro, reset := 0, kept := .cP3, lim := .any }
/-- `EVT_SRCk.CLASS` (R358). -/
def EVT_SRCk_CLASS (k : Nat) : Field :=
  { addr := 0x701000 + 0x4 * k, lo := 0, width := 3, acc := .cr, reset := evtDefaultClass k, kept := .cP3, lim := .within 0 4 }
/-- `EVT_SRCk.FIXED` (R358). -/
def EVT_SRCk_FIXED (k : Nat) : Field :=
  { addr := 0x701000 + 0x4 * k, lo := 3, width := 1, acc := .ro, reset := if evtFixed k then 1 else 0, kept := .cSP3P4, lim := .any }
/-- `EVT_SRCk.LATCHED` (R358). -/
def EVT_SRCk_LATCHED (k : Nat) : Field :=
  { addr := 0x701000 + 0x4 * k, lo := 8, width := 1, acc := .ro, reset := 0, kept := .cP3, lim := .any }
/-- `EVT_SRCk.COUNT` (R358). -/
def EVT_SRCk_COUNT (k : Nat) : Field :=
  { addr := 0x701000 + 0x4 * k, lo := 16, width := 16, acc := .ro, reset := 0, kept := .cP3, lim := .any }
/-- `EVT_RCV_SLOTs.RECOVER` (R359). -/
def EVT_RCV_SLOTs_RECOVER (s : Nat) : Field :=
  { addr := 0x702000 + 0x4 * s, lo := 0, width := 4, acc := .ro, reset := 0, kept := .cP3, lim := .any }
/-- `EVT_RCV_SLOTs.LOCKOUT` (R359). -/
def EVT_RCV_SLOTs_LOCKOUT (s : Nat) : Field :=
  { addr := 0x702000 + 0x4 * s, lo := 4, width := 1, acc := .ro, reset := 0, kept := .cP3, lim := .any }
/-- `EVT_RCV_SLOTs.QUIET` (R359). -/
def EVT_RCV_SLOTs_QUIET (s : Nat) : Field :=
  { addr := 0x702000 + 0x4 * s, lo := 5, width := 1, acc := .ro, reset := 0, kept := .cP3, lim := .any }
/-- `EVT_RCV_SLOTs.QUIET_LEFT` (R359). -/
def EVT_RCV_SLOTs_QUIET_LEFT (s : Nat) : Field :=
  { addr := 0x702000 + 0x4 * s, lo := 16, width := 12, acc := .ro, reset := 0, kept := .cP3, lim := .any }
/-- `EVT_RCV_LEGl.RECOVER` (R359). -/
def EVT_RCV_LEGl_RECOVER (l : Nat) : Field :=
  { addr := 0x702400 + 0x4 * l, lo := 0, width := 4, acc := .ro, reset := 0, kept := .cP3, lim := .any }
/-- `EVT_RCV_LEGl.LOCKOUT` (R359). -/
def EVT_RCV_LEGl_LOCKOUT (l : Nat) : Field :=
  { addr := 0x702400 + 0x4 * l, lo := 4, width := 1, acc := .ro, reset := 0, kept := .cP3, lim := .any }
/-- `EVT_RCV_LEGl.QUIET` (R359). -/
def EVT_RCV_LEGl_QUIET (l : Nat) : Field :=
  { addr := 0x702400 + 0x4 * l, lo := 5, width := 1, acc := .ro, reset := 0, kept := .cP3, lim := .any }
/-- `EVT_RCV_LEGl.QUIET_LEFT` (R359). -/
def EVT_RCV_LEGl_QUIET_LEFT (l : Nat) : Field :=
  { addr := 0x702400 + 0x4 * l, lo := 16, width := 12, acc := .ro, reset := 0, kept := .cP3, lim := .any }
/-- `EVT_RCV_PORTp.RECOVER` (R359). -/
def EVT_RCV_PORTp_RECOVER (p : Nat) : Field :=
  { addr := 0x702480 + 0x4 * p, lo := 0, width := 4, acc := .ro, reset := 0, kept := .cP3, lim := .any }
/-- `EVT_RCV_PORTp.LOCKOUT` (R359). -/
def EVT_RCV_PORTp_LOCKOUT (p : Nat) : Field :=
  { addr := 0x702480 + 0x4 * p, lo := 4, width := 1, acc := .ro, reset := 0, kept := .cP3, lim := .any }
/-- `EVT_RCV_PORTp.QUIET` (R359). -/
def EVT_RCV_PORTp_QUIET (p : Nat) : Field :=
  { addr := 0x702480 + 0x4 * p, lo := 5, width := 1, acc := .ro, reset := 0, kept := .cP3, lim := .any }
/-- `EVT_RCV_PORTp.QUIET_LEFT` (R359). -/
def EVT_RCV_PORTp_QUIET_LEFT (p : Nat) : Field :=
  { addr := 0x702480 + 0x4 * p, lo := 16, width := 12, acc := .ro, reset := 0, kept := .cP3, lim := .any }
/-- `EVT_RCV_CTXc.RECOVER` (R359). -/
def EVT_RCV_CTXc_RECOVER (c : Nat) : Field :=
  { addr := 0x702500 + 0x4 * c, lo := 0, width := 4, acc := .ro, reset := 0, kept := .cP3, lim := .any }
/-- `EVT_RCV_CTXc.LOCKOUT` (R359). -/
def EVT_RCV_CTXc_LOCKOUT (c : Nat) : Field :=
  { addr := 0x702500 + 0x4 * c, lo := 4, width := 1, acc := .ro, reset := 0, kept := .cP3, lim := .any }
/-- `EVT_RCV_CTXc.QUIET` (R359). -/
def EVT_RCV_CTXc_QUIET (c : Nat) : Field :=
  { addr := 0x702500 + 0x4 * c, lo := 5, width := 1, acc := .ro, reset := 0, kept := .cP3, lim := .any }
/-- `EVT_RCV_CTXc.QUIET_LEFT` (R359). -/
def EVT_RCV_CTXc_QUIET_LEFT (c : Nat) : Field :=
  { addr := 0x702500 + 0x4 * c, lo := 16, width := 12, acc := .ro, reset := 0, kept := .cP3, lim := .any }

/-! ### SAFE: safety monitor -/

/-- `SAFE_STAT.STATE` (R380). -/
def SAFE_STAT_STATE : Field :=
  { addr := 0x710000, lo := 0, width := 2, acc := .ro, reset := 2, kept := .cSP3P4, lim := .any }
/-- `SAFE_STAT.DEMAND` (R380). -/
def SAFE_STAT_DEMAND : Field :=
  { addr := 0x710000, lo := 2, width := 1, acc := .ro, reset := 0, kept := .none, lim := .any }
/-- `SAFE_STAT.DISCREP` (R380). -/
def SAFE_STAT_DISCREP : Field :=
  { addr := 0x710000, lo := 3, width := 1, acc := .ro, reset := 0, kept := .cSP3P4, lim := .any }
/-- `SAFE_STAT.PARTIAL` (R380). -/
def SAFE_STAT_PARTIAL : Field :=
  { addr := 0x710000, lo := 4, width := 1, acc := .ro, reset := 0, kept := .cSP3P4, lim := .any }
/-- `SAFE_STAT.OUT1` (R380). -/
def SAFE_STAT_OUT1 : Field :=
  { addr := 0x710000, lo := 5, width := 1, acc := .ro, reset := 0, kept := .none, lim := .any }
/-- `SAFE_STAT.OUT2` (R380). -/
def SAFE_STAT_OUT2 : Field :=
  { addr := 0x710000, lo := 6, width := 1, acc := .ro, reset := 0, kept := .none, lim := .any }
/-- `SAFE_STAT.CAUSE` (R380). -/
def SAFE_STAT_CAUSE : Field :=
  { addr := 0x710000, lo := 8, width := 8, acc := .ro, reset := 1, kept := .cSP3P4, lim := .any }
/-- `SAFE_IN.CONTACTS` (R380). -/
def SAFE_IN_CONTACTS : Field :=
  { addr := 0x710004, lo := 0, width := 4, acc := .ro, reset := 0, kept := .none, lim := .any }
/-- `SAFE_IN.RESET` (R380). -/
def SAFE_IN_RESET : Field :=
  { addr := 0x710004, lo := 4, width := 1, acc := .ro, reset := 0, kept := .none, lim := .any }
/-- `SAFE_RAMP_P0.P0` (R380). -/
def SAFE_RAMP_P0_P0 : Field :=
  { addr := 0x710008, lo := 0, width := 32, acc := .ro, reset := 0, kept := .cP3, lim := .any }
/-- `SAFE_RAMP_T.T_MS` (R380). -/
def SAFE_RAMP_T_T_MS : Field :=
  { addr := 0x71000C, lo := 0, width := 16, acc := .ro, reset := 0, kept := .cP3, lim := .any }
/-- `SAFE_RAMP_T.ENV_KW` (R380). -/
def SAFE_RAMP_T_ENV_KW : Field :=
  { addr := 0x71000C, lo := 16, width := 16, acc := .ro, reset := 0, kept := .cP3, lim := .any }
/-- `SAFE_P.P` (R380). -/
def SAFE_P_P : Field :=
  { addr := 0x710010, lo := 0, width := 32, acc := .ro, reset := 0, kept := .none, lim := .any }
/-- `SAFE_SF_SEQ.SEQ` (R380). -/
def SAFE_SF_SEQ_SEQ : Field :=
  { addr := 0x710018, lo := 0, width := 32, acc := .ro, reset := 0, kept := .cP3, lim := .any }
/-- `SAFE_SF_ERR.MISMATCH` (R380). -/
def SAFE_SF_ERR_MISMATCH : Field :=
  { addr := 0x71001C, lo := 0, width := 16, acc := .rc, reset := 0, kept := .cP3, lim := .any }
/-- `SAFE_SF_ERR.CRC` (R380). -/
def SAFE_SF_ERR_CRC : Field :=
  { addr := 0x71001C, lo := 16, width := 16, acc := .rc, reset := 0, kept := .cP3, lim := .any }
/-- `SAFE_DEMAND_CNT.COUNT` (R380). -/
def SAFE_DEMAND_CNT_COUNT : Field :=
  { addr := 0x710020, lo := 0, width := 32, acc := .rc, reset := 0, kept := .cP3, lim := .any }
/-- `SAFE_OPT0.A_FUNC` (R380). -/
def SAFE_OPT0_A_FUNC : Field :=
  { addr := 0x710100, lo := 0, width := 1, acc := .ro, reset := 0, kept := .nv, lim := .any }
/-- `SAFE_OPT0.B_FUNC` (R380). -/
def SAFE_OPT0_B_FUNC : Field :=
  { addr := 0x710100, lo := 1, width := 1, acc := .ro, reset := 1, kept := .nv, lim := .any }
/-- `SAFE_OPT0.SF_EN` (R380). -/
def SAFE_OPT0_SF_EN : Field :=
  { addr := 0x710100, lo := 2, width := 1, acc := .ro, reset := 0, kept := .nv, lim := .any }
/-- `SAFE_OPT0.SF_RST_EN` (R380). -/
def SAFE_OPT0_SF_RST_EN : Field :=
  { addr := 0x710100, lo := 3, width := 1, acc := .ro, reset := 0, kept := .nv, lim := .any }
/-- `SAFE_OPT0.AUTO_START` (R380). -/
def SAFE_OPT0_AUTO_START : Field :=
  { addr := 0x710100, lo := 4, width := 1, acc := .ro, reset := 0, kept := .nv, lim := .any }
/-- `SAFE_OPT0.TP_EN` (R380). -/
def SAFE_OPT0_TP_EN : Field :=
  { addr := 0x710100, lo := 5, width := 1, acc := .ro, reset := 1, kept := .nv, lim := .any }
/-- `SAFE_OPT0.DISC_MS` (R380). -/
def SAFE_OPT0_DISC_MS : Field :=
  { addr := 0x710100, lo := 16, width := 9, acc := .ro, reset := 50, kept := .nv, lim := .any }
/-- `SAFE_OPT1.T_RAMP_MS` (R380). -/
def SAFE_OPT1_T_RAMP_MS : Field :=
  { addr := 0x710104, lo := 0, width := 14, acc := .ro, reset := 200, kept := .nv, lim := .any }
/-- `SAFE_OPT1.P_MARGIN_KW` (R380). -/
def SAFE_OPT1_P_MARGIN_KW : Field :=
  { addr := 0x710104, lo := 16, width := 16, acc := .ro, reset := 500, kept := .nv, lim := .any }
/-- `SAFE_OPT2.V_AIN` (R380). -/
def SAFE_OPT2_V_AIN : Field :=
  { addr := 0x710108, lo := 0, width := 6, acc := .ro, reset := 3, kept := .nv, lim := .any }
/-- `SAFE_OPT2.I_AIN` (R380). -/
def SAFE_OPT2_I_AIN : Field :=
  { addr := 0x710108, lo := 8, width := 6, acc := .ro, reset := 4, kept := .nv, lim := .any }
/-- `SAFE_OPT3.V_LSB` (R380). -/
def SAFE_OPT3_V_LSB : Field :=
  { addr := 0x71010C, lo := 0, width := 20, acc := .ro, reset := 0, kept := .nv, lim := .any }
/-- `SAFE_OPT4.I_LSB` (R380). -/
def SAFE_OPT4_I_LSB : Field :=
  { addr := 0x710110, lo := 0, width := 20, acc := .ro, reset := 0, kept := .nv, lim := .any }
/-- `SAFE_OPT5.ETHERTYPE` (R380). -/
def SAFE_OPT5_ETHERTYPE : Field :=
  { addr := 0x710114, lo := 0, width := 16, acc := .ro, reset := 34998, kept := .nv, lim := .any }
/-- `SAFE_OPT6.CONN_ID` (R380). -/
def SAFE_OPT6_CONN_ID : Field :=
  { addr := 0x710118, lo := 0, width := 32, acc := .ro, reset := 0, kept := .nv, lim := .any }
/-- `SAFE_OPT7.WD_MS` (R380). -/
def SAFE_OPT7_WD_MS : Field :=
  { addr := 0x71011C, lo := 0, width := 16, acc := .ro, reset := 30, kept := .nv, lim := .any }
/-- `SAFE_OPT7.WIN_MS` (R380). -/
def SAFE_OPT7_WIN_MS : Field :=
  { addr := 0x71011C, lo := 16, width := 8, acc := .ro, reset := 2, kept := .nv, lim := .any }

/-! ### THRM: temperature -/

/-- `THRM_SENSk.TEMP` (R394). -/
def THRM_SENSk_TEMP (k : Nat) : Field :=
  { addr := 0x720000 + 0x4 * k, lo := 0, width := 16, acc := .ro, reset := 0, kept := .cSP3P4, lim := .any }
/-- `THRM_SENSk.OPEN` (R394). -/
def THRM_SENSk_OPEN (k : Nat) : Field :=
  { addr := 0x720000 + 0x4 * k, lo := 16, width := 1, acc := .ro, reset := 0, kept := .cSP3P4, lim := .any }
/-- `THRM_SENSk.SHORT` (R394). -/
def THRM_SENSk_SHORT (k : Nat) : Field :=
  { addr := 0x720000 + 0x4 * k, lo := 17, width := 1, acc := .ro, reset := 0, kept := .cSP3P4, lim := .any }
/-- `THRM_SPOTh.TEMP` (R394). -/
def THRM_SPOTh_TEMP (h : Nat) : Field :=
  { addr := 0x720060 + 0x4 * h, lo := 0, width := 16, acc := .ro, reset := 0, kept := .cSP3P4, lim := .any }
/-- `THRM_SPOTh.WARN` (R394). -/
def THRM_SPOTh_WARN (h : Nat) : Field :=
  { addr := 0x720060 + 0x4 * h, lo := 16, width := 1, acc := .ro, reset := 0, kept := .cSP3P4, lim := .any }
/-- `THRM_SPOTh.THROTTLE` (R394). -/
def THRM_SPOTh_THROTTLE (h : Nat) : Field :=
  { addr := 0x720060 + 0x4 * h, lo := 17, width := 1, acc := .ro, reset := 0, kept := .cSP3P4, lim := .any }
/-- `THRM_SPOTh.SHUTDOWN` (R394). -/
def THRM_SPOTh_SHUTDOWN (h : Nat) : Field :=
  { addr := 0x720060 + 0x4 * h, lo := 18, width := 1, acc := .ro, reset := 0, kept := .cSP3P4, lim := .any }
/-- `THRM_SPOTh.DISAGREE` (R394). -/
def THRM_SPOTh_DISAGREE (h : Nat) : Field :=
  { addr := 0x720060 + 0x4 * h, lo := 19, width := 1, acc := .ro, reset := 0, kept := .cSP3P4, lim := .any }
/-- `THRM_STAT.HOTTEST` (R394). -/
def THRM_STAT_HOTTEST : Field :=
  { addr := 0x720100, lo := 0, width := 4, acc := .ro, reset := 0, kept := .cSP3P4, lim := .any }
/-- `THRM_STAT.WARN` (R394). -/
def THRM_STAT_WARN : Field :=
  { addr := 0x720100, lo := 4, width := 1, acc := .ro, reset := 0, kept := .cSP3P4, lim := .any }
/-- `THRM_STAT.THROTTLE` (R394). -/
def THRM_STAT_THROTTLE : Field :=
  { addr := 0x720100, lo := 5, width := 1, acc := .ro, reset := 0, kept := .cSP3P4, lim := .any }
/-- `THRM_STAT.SHUTDOWN` (R394). -/
def THRM_STAT_SHUTDOWN : Field :=
  { addr := 0x720100, lo := 6, width := 1, acc := .ro, reset := 0, kept := .cSP3P4, lim := .any }
/-- `THRM_STAT.TMAX` (R394). -/
def THRM_STAT_TMAX : Field :=
  { addr := 0x720100, lo := 16, width := 16, acc := .ro, reset := 0, kept := .cSP3P4, lim := .any }
/-- `THRM_DERATE.T` (R394). -/
def THRM_DERATE_T : Field :=
  { addr := 0x720104, lo := 0, width := 32, acc := .ro, reset := 16777216, kept := .cP3, lim := .any }
/-- `THRM_FAIL_CNT.COUNT` (R394). -/
def THRM_FAIL_CNT_COUNT : Field :=
  { addr := 0x720108, lo := 0, width := 32, acc := .rc, reset := 0, kept := .cP3, lim := .any }
/-- `THRM_OPT.WARN_C` (R394). -/
def THRM_OPT_WARN_C : Field :=
  { addr := 0x720200, lo := 0, width := 8, acc := .ro, reset := 125, kept := .nv, lim := .any }
/-- `THRM_OPT.THROTTLE_C` (R394). -/
def THRM_OPT_THROTTLE_C : Field :=
  { addr := 0x720200, lo := 8, width := 8, acc := .ro, reset := 135, kept := .nv, lim := .any }
/-- `THRM_OPT.SHUTDOWN_C` (R394). -/
def THRM_OPT_SHUTDOWN_C : Field :=
  { addr := 0x720200, lo := 16, width := 8, acc := .ro, reset := 145, kept := .nv, lim := .any }

/-! ### NVM: images and identity -/

/-- `NVM_SLOTk_STAT.PRESENT` (R421). -/
def NVM_SLOTk_STAT_PRESENT (k : Nat) : Field :=
  { addr := 0x800000 + 0x10 * k, lo := 0, width := 1, acc := .ro, reset := 0, kept := .nv, lim := .any }
/-- `NVM_SLOTk_STAT.VALID` (R421). -/
def NVM_SLOTk_STAT_VALID (k : Nat) : Field :=
  { addr := 0x800000 + 0x10 * k, lo := 1, width := 1, acc := .ro, reset := 0, kept := .nv, lim := .any }
/-- `NVM_SLOTk_STAT.KEY` (R421). -/
def NVM_SLOTk_STAT_KEY (k : Nat) : Field :=
  { addr := 0x800000 + 0x10 * k, lo := 8, width := 8, acc := .ro, reset := 0xFF, kept := .nv, lim := .any }
/-- `NVM_SLOTk_VER.VER` (R421). -/
def NVM_SLOTk_VER_VER (k : Nat) : Field :=
  { addr := 0x800004 + 0x10 * k, lo := 0, width := 32, acc := .ro, reset := 0, kept := .nv, lim := .any }
/-- `NVM_SLOTk_LEN.LEN` (R421). -/
def NVM_SLOTk_LEN_LEN (k : Nat) : Field :=
  { addr := 0x800008 + 0x10 * k, lo := 0, width := 32, acc := .ro, reset := 0, kept := .nv, lim := .any }
/-- `NVM_STAGEt.BYTES` (R421). -/
def NVM_STAGEt_BYTES (t : Nat) : Field :=
  { addr := 0x800040 + 0x4 * t, lo := 0, width := 27, acc := .ro, reset := 0, kept := .none, lim := .any }
/-- `NVM_STAGEt.VERIFIED` (R421). -/
def NVM_STAGEt_VERIFIED (t : Nat) : Field :=
  { addr := 0x800040 + 0x4 * t, lo := 27, width := 1, acc := .ro, reset := 0, kept := .none, lim := .any }
/-- `NVM_KEY_STAT.PROGRAMMED` (R421). -/
def NVM_KEY_STAT_PROGRAMMED : Field :=
  { addr := 0x800050, lo := 0, width := 4, acc := .ro, reset := 0, kept := .nv, lim := .any }
/-- `NVM_KEY_STAT.REVOKED` (R421). -/
def NVM_KEY_STAT_REVOKED : Field :=
  { addr := 0x800050, lo := 4, width := 4, acc := .ro, reset := 0, kept := .nv, lim := .any }
/-- `NVM_KEY_STAT.BURN_FAIL` (R421). -/
def NVM_KEY_STAT_BURN_FAIL : Field :=
  { addr := 0x800050, lo := 8, width := 4, acc := .ro, reset := 0, kept := .cP3, lim := .any }
/-- `NVM_KEYk_Dj.DIGEST` (R421). -/
def NVM_KEYk_Dj_DIGEST (k j : Nat) : Field :=
  { addr := 0x800080 + 0x40 * k + 0x4 * j, lo := 0, width := 32, acc := .ro, reset := 0, kept := .nv, lim := .any }
/-- `NVM_DIG_FWj.DIGEST` (R421). -/
def NVM_DIG_FWj_DIGEST (j : Nat) : Field :=
  { addr := 0x800180 + 0x4 * j, lo := 0, width := 32, acc := .ro, reset := 0, kept := .cP3, lim := .any }
/-- `NVM_DIG_OPTj.DIGEST` (R421). -/
def NVM_DIG_OPTj_DIGEST (j : Nat) : Field :=
  { addr := 0x8001C0 + 0x4 * j, lo := 0, width := 32, acc := .ro, reset := 0, kept := .cP3, lim := .any }
/-- `NVM_DIG_CFGj.DIGEST` (R421). -/
def NVM_DIG_CFGj_DIGEST (j : Nat) : Field :=
  { addr := 0x800200 + 0x4 * j, lo := 0, width := 32, acc := .ro, reset := 0, kept := .cP3, lim := .any }
/-- `NVM_ID_PUBj.KEY` (R421). -/
def NVM_ID_PUBj_KEY (j : Nat) : Field :=
  { addr := 0x800240 + 0x4 * j, lo := 0, width := 32, acc := .ro, reset := 0, kept := .nv, lim := .any }
/-- `NVM_ID_CERT_LEN.LEN` (R421). -/
def NVM_ID_CERT_LEN_LEN : Field :=
  { addr := 0x800280, lo := 0, width := 12, acc := .ro, reset := 0, kept := .nv, lim := .any }
/-- `NVM_OPT_KEYOP.ENROL` (R421). -/
def NVM_OPT_KEYOP_ENROL : Field :=
  { addr := 0x800300, lo := 0, width := 4, acc := .ro, reset := 0, kept := .nv, lim := .any }
/-- `NVM_OPT_KEYOP.REVOKE` (R421). -/
def NVM_OPT_KEYOP_REVOKE : Field :=
  { addr := 0x800300, lo := 4, width := 4, acc := .ro, reset := 0, kept := .nv, lim := .any }
/-- `NVM_OPT_ENROLk_Dj.DIGEST` (R421). -/
def NVM_OPT_ENROLk_Dj_DIGEST (k j : Nat) : Field :=
  { addr := 0x800400 + 0x40 * k + 0x4 * j, lo := 0, width := 32, acc := .ro, reset := 0, kept := .nv, lim := .any }
/-- `NVM_ID_CERTj.DER` (R421). -/
def NVM_ID_CERTj_DER (j : Nat) : Field :=
  { addr := 0x801000 + 0x4 * j, lo := 0, width := 32, acc := .ro, reset := 0, kept := .nv, lim := .any }

/-! ### IMG: image header -/

/-- `IMG_HDR_STROKE_LO.STROKE` (R41). -/
def IMG_HDR_STROKE_LO_STROKE : Field :=
  { addr := 0x1FF0000, lo := 0, width := 32, acc := .ro, reset := 0, kept := .cP3, lim := .any }
/-- `IMG_HDR_STROKE_HI.STROKE` (R41). -/
def IMG_HDR_STROKE_HI_STROKE : Field :=
  { addr := 0x1FF0004, lo := 0, width := 32, acc := .ro, reset := 0, kept := .cP3, lim := .any }
/-- `IMG_HDR_TIME_LO.BOUNDARY` (R41). -/
def IMG_HDR_TIME_LO_BOUNDARY : Field :=
  { addr := 0x1FF0008, lo := 0, width := 32, acc := .ro, reset := 0, kept := .cP3, lim := .any }
/-- `IMG_HDR_TIME_HI.BOUNDARY` (R41). -/
def IMG_HDR_TIME_HI_BOUNDARY : Field :=
  { addr := 0x1FF000C, lo := 0, width := 32, acc := .ro, reset := 0, kept := .cP3, lim := .any }
/-- `IMG_HDR_FLAGS.UNTIMED` (R41). -/
def IMG_HDR_FLAGS_UNTIMED : Field :=
  { addr := 0x1FF0010, lo := 0, width := 1, acc := .ro, reset := 0, kept := .cP3, lim := .any }
/-- `IMG_HDR_FLAGS.CAST` (R41). -/
def IMG_HDR_FLAGS_CAST : Field :=
  { addr := 0x1FF0010, lo := 1, width := 1, acc := .ro, reset := 0, kept := .cP3, lim := .any }
/-- `IMG_HDR_FLAGS.CARRIER` (R41). -/
def IMG_HDR_FLAGS_CARRIER : Field :=
  { addr := 0x1FF0010, lo := 2, width := 1, acc := .ro, reset := 1, kept := .cP3, lim := .any }

end Reg
end Sys2Proof.Machine
end

