-- ==== Sys2Proof/Machine/RegTable.lean ====
section
/-! DEFINITION. The register map (R445) as a table: for each register its base address, its array
    dimensions (count and stride) and its fields.  An address that no row produces is not a
    register (R6). -/

namespace Sys2Proof.Machine
open Reg

/-- One row of the register map: a register or an array of registers. -/
structure RegRow where
  base : Nat
  /-- count and stride of each dimension, outermost first -/
  dims : List (Nat × Nat)
  /-- the fields at indices `i` (outer) and `j` (inner) -/
  fields : Nat → Nat → List Field

/-- Rows of the SYS registers. -/
def rowsSYS1 : List RegRow := [
    -- SYS_STROKE_CFG
    { base := 0x100, dims := [], fields := fun _ _ => [SYS_STROKE_CFG_UPDATE] },
    -- SYS_STROKE_NS
    { base := 0x104, dims := [], fields := fun _ _ => [SYS_STROKE_NS_PERIOD] },
    -- SYS_STROKE_EPOCH_LO
    { base := 0x108, dims := [], fields := fun _ _ => [SYS_STROKE_EPOCH_LO_EPOCH] },
    -- SYS_STROKE_EPOCH_HI
    { base := 0x10C, dims := [], fields := fun _ _ => [SYS_STROKE_EPOCH_HI_EPOCH] },
    -- SYS_STROKE_NUM_LO
    { base := 0x110, dims := [], fields := fun _ _ => [SYS_STROKE_NUM_LO_NUM] },
    -- SYS_STROKE_NUM_HI
    { base := 0x114, dims := [], fields := fun _ _ => [SYS_STROKE_NUM_HI_NUM] },
    -- SYS_STROKE_STAT
    { base := 0x118, dims := [], fields := fun _ _ => [SYS_STROKE_STAT_UNTIMED, SYS_STROKE_STAT_DMA_OVR, SYS_STROKE_STAT_REPORT_MISS, SYS_STROKE_STAT_CAST, SYS_STROKE_STAT_CARRIER, SYS_STROKE_STAT_MISS_COUNT] },
    -- SYS_LATE_RPT_CNT
    { base := 0x11C, dims := [], fields := fun _ _ => [SYS_LATE_RPT_CNT_COUNT] },
    -- SYS_OVERRUN_CNT
    { base := 0x120, dims := [], fields := fun _ _ => [SYS_OVERRUN_CNT_COUNT] },
    -- SYS_CAST_STAT
    { base := 0x130, dims := [], fields := fun _ _ => [SYS_CAST_STAT_STATE, SYS_CAST_STAT_ERR] },
    -- SYS_CAST_TARGET_LO
    { base := 0x134, dims := [], fields := fun _ _ => [SYS_CAST_TARGET_LO_BOUNDARY] },
    -- SYS_CAST_TARGET_HI
    { base := 0x138, dims := [], fields := fun _ _ => [SYS_CAST_TARGET_HI_BOUNDARY] },
    -- SYS_CAST_LAST_LO
    { base := 0x13C, dims := [], fields := fun _ _ => [SYS_CAST_LAST_LO_STROKE] },
    -- SYS_CAST_LAST_HI
    { base := 0x140, dims := [], fields := fun _ _ => [SYS_CAST_LAST_HI_STROKE] },
    -- SYS_CAST_COUNT
    { base := 0x144, dims := [], fields := fun _ _ => [SYS_CAST_COUNT_COUNT] },
    -- SYS_MAQ_STAT
    { base := 0x148, dims := [], fields := fun _ _ => [SYS_MAQ_STAT_DIRTY_WORDS, SYS_MAQ_STAT_LOCKED] },
    -- SYS_CAST_ERR_ADDR
    { base := 0x14C, dims := [], fields := fun _ _ => [SYS_CAST_ERR_ADDR_ADDR] },
    -- SYS_JARVAS_CFG
    { base := 0x200, dims := [], fields := fun _ _ => [SYS_JARVAS_CFG_ETHERTYPE, SYS_JARVAS_CFG_UDP_EN, SYS_JARVAS_CFG_UART_EN, SYS_JARVAS_CFG_UART_BAUD, SYS_JARVAS_CFG_PRP_EN] },
    -- SYS_JARVAS_VLAN
    { base := 0x204, dims := [], fields := fun _ _ => [SYS_JARVAS_VLAN_VID, SYS_JARVAS_VLAN_VLAN_EN] },
    -- SYS_JARVAS_IP
    { base := 0x208, dims := [], fields := fun _ _ => [SYS_JARVAS_IP_IPV4] },
    -- SYS_SEQ_LAST
    { base := 0x210, dims := [], fields := fun _ _ => [SYS_SEQ_LAST_SEQ] },
    -- SYS_SEQ_ACCEPTED
    { base := 0x214, dims := [], fields := fun _ _ => [SYS_SEQ_ACCEPTED_SEQ] },
    -- SYS_CMD_STAT
    { base := 0x218, dims := [], fields := fun _ _ => [SYS_CMD_STAT_QUEUED, SYS_CMD_STAT_SEQ_VALID, SYS_CMD_STAT_RESTARTED, SYS_CMD_STAT_PLINTH] },
    -- SYS_HOST_RX_LO
    { base := 0x220, dims := [], fields := fun _ _ => [SYS_HOST_RX_LO_TIME] },
    -- SYS_HOST_RX_HI
    { base := 0x224, dims := [], fields := fun _ _ => [SYS_HOST_RX_HI_TIME] },
    -- SYS_CMD_DROP
    { base := 0x228, dims := [], fields := fun _ _ => [SYS_CMD_DROP_COUNT] },
    -- SYS_CMD_REFUSED
    { base := 0x22C, dims := [], fields := fun _ _ => [SYS_CMD_REFUSED_COUNT] },
    -- SYS_STREAM_STAT
    { base := 0x230, dims := [], fields := fun _ _ => [SYS_STREAM_STAT_OPEN, SYS_STREAM_STAT_GAP] },
    -- SYS_CONV_STAT
    { base := 0x400, dims := [], fields := fun _ _ => [SYS_CONV_STAT_STATE, SYS_CONV_STAT_SAFE_STOP, SYS_CONV_STAT_HEADROOM, SYS_CONV_STAT_CAUSE, SYS_CONV_STAT_START_ERR, SYS_CONV_STAT_UNTIMED] },
    -- SYS_CONV_POP
    { base := 0x404, dims := [], fields := fun _ _ => [SYS_CONV_POP_NPOP, SYS_CONV_POP_NACT, SYS_CONV_POP_NMIN] }]

/-- Rows of the SYS registers. -/
def rowsSYS2 : List RegRow := [
    -- SYS_CONV_MOD
    { base := 0x408, dims := [], fields := fun _ _ => [SYS_CONV_MOD_MODE, SYS_CONV_MOD_VFF] },
    -- SYS_CONV_MODMAX
    { base := 0x40C, dims := [], fields := fun _ _ => [SYS_CONV_MODMAX_MODMAX] },
    -- SYS_CONV_VFF_GAIN
    { base := 0x410, dims := [], fields := fun _ _ => [SYS_CONV_VFF_GAIN_GAIN] },
    -- SYS_CONV_BAL
    { base := 0x414, dims := [], fields := fun _ _ => [SYS_CONV_BAL_KBAL] },
    -- SYS_CONV_BAL_IDB
    { base := 0x418, dims := [], fields := fun _ _ => [SYS_CONV_BAL_IDB_IDB] },
    -- SYS_CONV_BAL_DMAX
    { base := 0x41C, dims := [], fields := fun _ _ => [SYS_CONV_BAL_DMAX_DMAX] },
    -- SYS_CONV_GRID
    { base := 0x420, dims := [], fields := fun _ _ => [SYS_CONV_GRID_VA, SYS_CONV_GRID_VB, SYS_CONV_GRID_VC, SYS_CONV_GRID_FNOM, SYS_CONV_GRID_BW] },
    -- SYS_CONV_SRC
    { base := 0x424, dims := [], fields := fun _ _ => [SYS_CONV_SRC_FF_SRC, SYS_CONV_SRC_Q_SRC] },
    -- SYS_CONV_ILIM
    { base := 0x428, dims := [], fields := fun _ _ => [SYS_CONV_ILIM_ILIM] },
    -- SYS_CONV_RATING
    { base := 0x42C, dims := [], fields := fun _ _ => [SYS_CONV_RATING_ARM_KW, SYS_CONV_RATING_CELL_KW] },
    -- SYS_CONV_PRECHG_V
    { base := 0x430, dims := [], fields := fun _ _ => [SYS_CONV_PRECHG_V_V] },
    -- SYS_CONV_SYNC_TOL
    { base := 0x434, dims := [], fields := fun _ _ => [SYS_CONV_SYNC_TOL_TOL] },
    -- SYS_CONV_TIMEOUT
    { base := 0x438, dims := [], fields := fun _ _ => [SYS_CONV_TIMEOUT_PRECHG_MS, SYS_CONV_TIMEOUT_SYNC_MS] },
    -- SYS_CONV_STOP
    { base := 0x43C, dims := [], fields := fun _ _ => [SYS_CONV_STOP_T_STOP_MS, SYS_CONV_STOP_UNTIMED_LIM, SYS_CONV_STOP_SYNC_PCT] },
    -- SYS_CONV_ALIM
    { base := 0x440, dims := [], fields := fun _ _ => [SYS_CONV_ALIM_ALIM] },
    -- SYS_CONV_KSTOP
    { base := 0x444, dims := [], fields := fun _ _ => [SYS_CONV_KSTOP_KSTOP] },
    -- SYS_CONV_GRID_STAT
    { base := 0x448, dims := [], fields := fun _ _ => [SYS_CONV_GRID_STAT_LOCKED, SYS_CONV_GRID_STAT_FREQ] },
    -- SYS_CONV_LVB
    { base := 0x44C, dims := [], fields := fun _ _ => [SYS_CONV_LVB_BASE_V] },
    -- SYS_PAIR_CFG
    { base := 0x480, dims := [], fields := fun _ _ => [SYS_PAIR_CFG_EN, SYS_PAIR_CFG_ROLE, SYS_PAIR_CFG_LOSS, SYS_PAIR_CFG_WAIT] },
    -- SYS_PAIR_STAT
    { base := 0x484, dims := [], fields := fun _ _ => [SYS_PAIR_STAT_TOKEN, SYS_PAIR_STAT_PEER, SYS_PAIR_STAT_ALIGNED, SYS_PAIR_STAT_CFG_MATCH, SYS_PAIR_STAT_PEER_READY, SYS_PAIR_STAT_PEER_STATE] },
    -- SYS_PAIR_GEN
    { base := 0x488, dims := [], fields := fun _ _ => [SYS_PAIR_GEN_GEN] },
    -- SYS_PAIR_CTRL
    { base := 0x48C, dims := [], fields := fun _ _ => [SYS_PAIR_CTRL_HANDOVER] },
    -- SYS_PAIR_TAKEOVERS
    { base := 0x490, dims := [], fields := fun _ _ => [SYS_PAIR_TAKEOVERS_COUNT] },
    -- SYS_PAIR_MISS
    { base := 0x494, dims := [], fields := fun _ _ => [SYS_PAIR_MISS_COUNT] },
    -- SYS_CAMPUS
    { base := 0x4C0, dims := [], fields := fun _ _ => [SYS_CAMPUS_INDEX, SYS_CAMPUS_COUNT] },
    -- SYS_CAMPUS_PHASE
    { base := 0x4C4, dims := [], fields := fun _ _ => [SYS_CAMPUS_PHASE_PHASE] },
    -- SYS_PWR_STAT
    { base := 0x600, dims := [], fields := fun _ _ => [SYS_PWR_STAT_STATE, SYS_PWR_STAT_MOVING, SYS_PWR_STAT_SAG] },
    -- SYS_PWR_TOL
    { base := 0x604, dims := [], fields := fun _ _ => [SYS_PWR_TOL_TOL_US] },
    -- SYS_PWR_EXIT
    { base := 0x608, dims := [], fields := fun _ _ => [SYS_PWR_EXIT_US] },
    -- SYS_PWR_SAG_CNT
    { base := 0x60C, dims := [], fields := fun _ _ => [SYS_PWR_SAG_CNT_COUNT] }]

/-- Rows of the RST registers. -/
def rowsRST : List RegRow := [
    -- RST_CAUSE
    { base := 0x10000, dims := [], fields := fun _ _ => [RST_CAUSE_POR, RST_CAUSE_BROWNOUT, RST_CAUSE_PIN, RST_CAUSE_WATCHDOG, RST_CAUSE_COMMAND, RST_CAUSE_PLINTH_EXIT, RST_CAUSE_STROKE_WATCH, RST_CAUSE_ECC, RST_CAUSE_PARITY, RST_CAUSE_CORE_STORM, RST_CAUSE_START_TIMEOUT, RST_CAUSE_WAKE, RST_CAUSE_PLINTH, RST_CAUSE_FALLBACK, RST_CAUSE_OPT_FALLBACK, RST_CAUSE_CFG_DEFAULT] },
    -- RST_CORE_CAUSE
    { base := 0x10004, dims := [], fields := fun _ _ => [RST_CORE_CAUSE_CAUSE] },
    -- RST_COUNT
    { base := 0x10008, dims := [], fields := fun _ _ => [RST_COUNT_STARTS, RST_COUNT_CORE] },
    -- RST_BOOT
    { base := 0x1000C, dims := [], fields := fun _ _ => [RST_BOOT_FAILS, RST_BOOT_ACTIVE, RST_BOOT_RUNNING, RST_BOOT_OPT_COPY, RST_BOOT_CFG_HALF, RST_BOOT_DONE] },
    -- RST_STAGE
    { base := 0x10010, dims := [], fields := fun _ _ => [RST_STAGE_RELEASED, RST_STAGE_WAIT] },
    -- RST_OPT
    { base := 0x10100, dims := [], fields := fun _ _ => [RST_OPT_GAP] },
    -- RST_DBG
    { base := 0x10104, dims := [], fields := fun _ _ => [RST_DBG_OVERRIDE, RST_DBG_DBG_EN] }]

/-- Rows of the CLK registers. -/
def rowsCLK : List RegRow := [
    -- CLK_STAT
    { base := 0x20000, dims := [], fields := fun _ _ => [CLK_STAT_REF_OK, CLK_STAT_CORE_LOCK, CLK_STAT_CORE_HOLD, CLK_STAT_MGMT_LOCK, CLK_STAT_MGMT_RATE, CLK_STAT_PAIR_LOCK, CLK_STAT_STN_LOCK, CLK_STAT_LANE_LOCK] },
    -- CLK_MON_FAIL
    { base := 0x20004, dims := [], fields := fun _ _ => [CLK_MON_FAIL_REF, CLK_MON_FAIL_CORE, CLK_MON_FAIL_MGMT, CLK_MON_FAIL_PAIR, CLK_MON_FAIL_STN, CLK_MON_FAIL_LANE] },
    -- CLK_CORE_CV
    { base := 0x20008, dims := [], fields := fun _ _ => [CLK_CORE_CV_CV] },
    -- CLK_HOLD_CNT
    { base := 0x2000C, dims := [], fields := fun _ _ => [CLK_HOLD_CNT_COUNT] },
    -- CLK_EARLY
    { base := 0x20010, dims := [], fields := fun _ _ => [CLK_EARLY_DOMAINS] },
    -- CLK_BANDk
    { base := 0x20040, dims := [(16, 0x4)], fields := fun i _ => [CLK_BANDk_PLL i, CLK_BANDk_BAND i, CLK_BANDk_CV0 i] }]

/-- Rows of the TIME registers. -/
def rowsTIME : List RegRow := [
    -- TIME_NOW_LO
    { base := 0x30000, dims := [], fields := fun _ _ => [TIME_NOW_LO_NS] },
    -- TIME_NOW_HI
    { base := 0x30004, dims := [], fields := fun _ _ => [TIME_NOW_HI_NS] },
    -- TIME_NOW_FRAC
    { base := 0x30008, dims := [], fields := fun _ _ => [TIME_NOW_FRAC_FRAC] },
    -- TIME_INC_INT
    { base := 0x30010, dims := [], fields := fun _ _ => [TIME_INC_INT_INT] },
    -- TIME_INC_FRAC
    { base := 0x30014, dims := [], fields := fun _ _ => [TIME_INC_FRAC_FRAC] },
    -- TIME_ADJ_DELTA
    { base := 0x30018, dims := [], fields := fun _ _ => [TIME_ADJ_DELTA_DELTA] },
    -- TIME_ADJ_CNT
    { base := 0x3001C, dims := [], fields := fun _ _ => [TIME_ADJ_CNT_CNT] },
    -- TIME_STEP_LO
    { base := 0x30020, dims := [], fields := fun _ _ => [TIME_STEP_LO_STEP] },
    -- TIME_STEP_HI
    { base := 0x30024, dims := [], fields := fun _ _ => [TIME_STEP_HI_STEP] },
    -- TIME_CTRL
    { base := 0x30028, dims := [], fields := fun _ _ => [TIME_CTRL_STEP, TIME_CTRL_ADJ_STOP] },
    -- TIME_STAT
    { base := 0x3002C, dims := [], fields := fun _ _ => [TIME_STAT_STEP_PEND, TIME_STAT_ADJ_BUSY, TIME_STAT_DOM_SYNC, TIME_STAT_SEL_IN_USE, TIME_STAT_SERVO_ACTIVE] },
    -- TIME_SERVO
    { base := 0x30040, dims := [], fields := fun _ _ => [TIME_SERVO_MODE, TIME_SERVO_SEL, TIME_SERVO_AUTO_SW, TIME_SERVO_SLEW_PPM, TIME_SERVO_BW] },
    -- TIME_SERVO_TH
    { base := 0x30044, dims := [], fields := fun _ _ => [TIME_SERVO_TH_STEP_TH_US, TIME_SERVO_TH_SYNC_TH_NS] },
    -- TIME_PORT_LATp
    { base := 0x30060, dims := [(2, 0x4)], fields := fun i _ => [TIME_PORT_LATp_RX_LAT i, TIME_PORT_LATp_TX_LAT i] },
    -- TIME_DOM_CFG
    { base := 0x30080, dims := [(2, 0x40)], fields := fun i _ => [TIME_DOM_CFG_DOMAIN i, TIME_DOM_CFG_PORT i, TIME_DOM_CFG_EN i] },
    -- TIME_DOM_STAT
    { base := 0x30084, dims := [(2, 0x40)], fields := fun i _ => [TIME_DOM_STAT_STATE i, TIME_DOM_STAT_IN_LIMIT i] },
    -- TIME_DOM_OFFS_LO
    { base := 0x30088, dims := [(2, 0x40)], fields := fun i _ => [TIME_DOM_OFFS_LO_OFFS i] },
    -- TIME_DOM_OFFS_HI
    { base := 0x3008C, dims := [(2, 0x40)], fields := fun i _ => [TIME_DOM_OFFS_HI_OFFS i] },
    -- TIME_DOM_DELAY
    { base := 0x30090, dims := [(2, 0x40)], fields := fun i _ => [TIME_DOM_DELAY_DELAY i] },
    -- TIME_DOM_RATE
    { base := 0x30094, dims := [(2, 0x40)], fields := fun i _ => [TIME_DOM_RATE_RATE i] },
    -- TIME_DOM_GM_LO
    { base := 0x30098, dims := [(2, 0x40)], fields := fun i _ => [TIME_DOM_GM_LO_ID i] },
    -- TIME_DOM_GM_HI
    { base := 0x3009C, dims := [(2, 0x40)], fields := fun i _ => [TIME_DOM_GM_HI_ID i] },
    -- TIME_DOM_AGE
    { base := 0x300A0, dims := [(2, 0x40)], fields := fun i _ => [TIME_DOM_AGE_AGE_MS i] },
    -- TIME_TS_CFGk
    { base := 0x30200, dims := [(16, 0x4)], fields := fun i _ => [TIME_TS_CFGk_EDGE i] },
    -- TIME_TS_STATk
    { base := 0x30400, dims := [(16, 0x20)], fields := fun i _ => [TIME_TS_STATk_COUNT i, TIME_TS_STATk_EDGE i, TIME_TS_STATk_OVF i] },
    -- TIME_TS_LOk
    { base := 0x30404, dims := [(16, 0x20)], fields := fun i _ => [TIME_TS_LOk_NS i] },
    -- TIME_TS_HIk
    { base := 0x30408, dims := [(16, 0x20)], fields := fun i _ => [TIME_TS_HIk_NS i] },
    -- TIME_TS_FRACk
    { base := 0x3040C, dims := [(16, 0x20)], fields := fun i _ => [TIME_TS_FRACk_FRAC i] },
    -- TIME_TS_POPk
    { base := 0x30410, dims := [(16, 0x20)], fields := fun i _ => [TIME_TS_POPk_POP i] }]

/-- Rows of the LINK registers. -/
def rowsLINK1 : List RegRow := [
    -- LINK_STAT
    { base := 0x100000, dims := [(192, 0x400)], fields := fun i _ => [LINK_STAT_STATE i, LINK_STAT_LOS i, LINK_STAT_BIT_LOCK i, LINK_STAT_BLOCK_LOCK i, LINK_STAT_FAR_LOCK i, LINK_STAT_PORT i, LINK_STAT_REJECT i, LINK_STAT_MISS_RUN i] },
    -- LINK_CAP_ID
    { base := 0x100010, dims := [(192, 0x400)], fields := fun i _ => [LINK_CAP_ID_VENDOR i, LINK_CAP_ID_TYPE i] },
    -- LINK_CAP_FW
    { base := 0x100014, dims := [(192, 0x400)], fields := fun i _ => [LINK_CAP_FW_FW i] },
    -- LINK_CAP_SN_LO
    { base := 0x100018, dims := [(192, 0x400)], fields := fun i _ => [LINK_CAP_SN_LO_SN i] },
    -- LINK_CAP_SN_HI
    { base := 0x10001C, dims := [(192, 0x400)], fields := fun i _ => [LINK_CAP_SN_HI_SN i] },
    -- LINK_CAP_TIMING
    { base := 0x100020, dims := [(192, 0x400)], fields := fun i _ => [LINK_CAP_TIMING_DT i, LINK_CAP_TIMING_MINP i] },
    -- LINK_CAP_DAB
    { base := 0x100024, dims := [(192, 0x400)], fields := fun i _ => [LINK_CAP_DAB_DAB_MIN i, LINK_CAP_DAB_DAB_MAX i] },
    -- LINK_CAP_FLAGS
    { base := 0x100028, dims := [(192, 0x400)], fields := fun i _ => [LINK_CAP_FLAGS_FLAGS i] },
    -- LINK_CAP_MEASq
    { base := 0x100030, dims := [(192, 0x400), (8, 0x4)], fields := fun i j => [LINK_CAP_MEASq_TYPE i j, LINK_CAP_MEASq_EXP i j, LINK_CAP_MEASq_MANT i j] },
    -- LINK_DELAY
    { base := 0x100050, dims := [(192, 0x400)], fields := fun i _ => [LINK_DELAY_DELAY i, LINK_DELAY_SPREAD i, LINK_DELAY_TURN i] },
    -- LINK_RPT_STAT
    { base := 0x100060, dims := [(192, 0x400)], fields := fun i _ => [LINK_RPT_STAT_STATUS i] },
    -- LINK_RPT_RX
    { base := 0x100064, dims := [(192, 0x400)], fields := fun i _ => [LINK_RPT_RX_RX i] },
    -- LINK_RPT_FAULT
    { base := 0x100068, dims := [(192, 0x400)], fields := fun i _ => [LINK_RPT_FAULT_FAULT i, LINK_RPT_FAULT_DETAIL i] },
    -- LINK_RPT_TJ0
    { base := 0x10006C, dims := [(192, 0x400)], fields := fun i _ => [LINK_RPT_TJ0_TJ_FE i, LINK_RPT_TJ0_TJ_DP i] },
    -- LINK_RPT_TJ1
    { base := 0x100070, dims := [(192, 0x400)], fields := fun i _ => [LINK_RPT_TJ1_TJ_DS i] },
    -- LINK_CRC_CNT
    { base := 0x100080, dims := [(192, 0x400)], fields := fun i _ => [LINK_CRC_CNT_COUNT i] },
    -- LINK_MISS_CNT
    { base := 0x100084, dims := [(192, 0x400)], fields := fun i _ => [LINK_MISS_CNT_COUNT i] },
    -- LINK_HDR_CNT
    { base := 0x100088, dims := [(192, 0x400)], fields := fun i _ => [LINK_HDR_CNT_COUNT i] },
    -- LINK_RETRAIN_CNT
    { base := 0x10008C, dims := [(192, 0x400)], fields := fun i _ => [LINK_RETRAIN_CNT_COUNT i] },
    -- LINK_TEST_CTRL
    { base := 0x1000A0, dims := [(192, 0x400)], fields := fun i _ => [LINK_TEST_CTRL_PATTERN i, LINK_TEST_CTRL_LEN i, LINK_TEST_CTRL_START i, LINK_TEST_CTRL_STOP i] },
    -- LINK_TEST_STAT
    { base := 0x1000A4, dims := [(192, 0x400)], fields := fun i _ => [LINK_TEST_STAT_RUNNING i, LINK_TEST_STAT_SYNC i, LINK_TEST_STAT_SYNC_LOST i, LINK_TEST_STAT_DONE i, LINK_TEST_STAT_PASS i] },
    -- LINK_PRBS_ERR
    { base := 0x1000A8, dims := [(192, 0x400)], fields := fun i _ => [LINK_PRBS_ERR_COUNT i] },
    -- LINK_PRBS_FAR
    { base := 0x1000AC, dims := [(192, 0x400)], fields := fun i _ => [LINK_PRBS_FAR_COUNT i] },
    -- LINK_PRBS_BITS_LO
    { base := 0x1000B0, dims := [(192, 0x400)], fields := fun i _ => [LINK_PRBS_BITS_LO_BITS i] },
    -- LINK_PRBS_BITS_HI
    { base := 0x1000B4, dims := [(192, 0x400)], fields := fun i _ => [LINK_PRBS_BITS_HI_BITS i] },
    -- LINK_TX_EQ
    { base := 0x100100, dims := [(192, 0x400)], fields := fun i _ => [LINK_TX_EQ_PRE i, LINK_TX_EQ_MAIN i, LINK_TX_EQ_POST i] },
    -- LINK_EYE
    { base := 0x100110, dims := [(192, 0x400)], fields := fun i _ => [LINK_EYE_HEIGHT i, LINK_EYE_WIDTH i] },
    -- LINK_GCFG
    { base := 0x130000, dims := [], fields := fun _ _ => [LINK_GCFG_TIMEOUT_N, LINK_GCFG_MISS_LIM, LINK_GCFG_EYE_MIN] },
    -- LINK_ACTIVEk
    { base := 0x130010, dims := [(6, 0x4)], fields := fun i _ => [LINK_ACTIVEk_ACTIVE i] },
    -- LINK_REJECTk
    { base := 0x130030, dims := [(6, 0x4)], fields := fun i _ => [LINK_REJECTk_REJECT i] }]

/-- Rows of the LINK registers. -/
def rowsLINK2 : List RegRow := [
    -- LINK_BLOCKEDk
    { base := 0x130050, dims := [(6, 0x4)], fields := fun i _ => [LINK_BLOCKEDk_BLOCKED i] },
    -- LINK_ENGINES
    { base := 0x130070, dims := [], fields := fun _ _ => [LINK_ENGINES_ON] }]

/-- Rows of the ARM registers. -/
def rowsARM1 : List RegRow := [
    -- ARM_CTX_CFG
    { base := 0x200000, dims := [(256, 0x100)], fields := fun i _ => [ARM_CTX_CFG_ENABLE i, ARM_CTX_CFG_ORDER i, ARM_CTX_CFG_NREG_M1 i, ARM_CTX_CFG_SOFT i, ARM_CTX_CFG_INVERT i, ARM_CTX_CFG_FORCE_EN i, ARM_CTX_CFG_FORCE_REG i, ARM_CTX_CFG_BLEED i, ARM_CTX_CFG_PASS i, ARM_CTX_CFG_STATES i] },
    -- ARM_CTX_SRC
    { base := 0x200004, dims := [(256, 0x100)], fields := fun i _ => [ARM_CTX_SRC_FB_SRC i, ARM_CTX_SRC_REF_SRC i] },
    -- ARM_CTX_SCHED
    { base := 0x200008, dims := [(256, 0x100)], fields := fun i _ => [ARM_CTX_SCHED_SCHED_SRC i] },
    -- ARM_CTX_HYST
    { base := 0x20000C, dims := [(256, 0x100)], fields := fun i _ => [ARM_CTX_HYST_HYST i] },
    -- ARM_CTX_THRk
    { base := 0x200010, dims := [(256, 0x100), (7, 0x4)], fields := fun i j => [ARM_CTX_THRk_THR i (j + 1)] },
    -- ARM_CTX_UMAX
    { base := 0x20002C, dims := [(256, 0x100)], fields := fun i _ => [ARM_CTX_UMAX_UMAX i] },
    -- ARM_CTX_UMIN
    { base := 0x200030, dims := [(256, 0x100)], fields := fun i _ => [ARM_CTX_UMIN_UMIN i] },
    -- ARM_CTX_REF
    { base := 0x200034, dims := [(256, 0x100)], fields := fun i _ => [ARM_CTX_REF_REF i] },
    -- ARM_CTX_RAMP
    { base := 0x200038, dims := [(256, 0x100)], fields := fun i _ => [ARM_CTX_RAMP_RAMP i] },
    -- ARM_CTX_INIT
    { base := 0x20003C, dims := [(256, 0x100)], fields := fun i _ => [ARM_CTX_INIT_INIT i] },
    -- ARM_CTX_STAT
    { base := 0x200040, dims := [(256, 0x100)], fields := fun i _ => [ARM_CTX_STAT_REGION i, ARM_CTX_STAT_ACTIVE i, ARM_CTX_STAT_RAMPING i, ARM_CTX_STAT_SAT_HI i, ARM_CTX_STAT_SAT_LO i, ARM_CTX_STAT_TRANSFER i, ARM_CTX_STAT_ACC_SAT i, ARM_CTX_STAT_OVF i, ARM_CTX_STAT_FENCED i, ARM_CTX_STAT_STALE i] },
    -- ARM_CTX_FB
    { base := 0x200044, dims := [(256, 0x100)], fields := fun i _ => [ARM_CTX_FB_FB i] },
    -- ARM_CTX_RNOW
    { base := 0x200048, dims := [(256, 0x100)], fields := fun i _ => [ARM_CTX_RNOW_R i] },
    -- ARM_CTX_ERR
    { base := 0x20004C, dims := [(256, 0x100)], fields := fun i _ => [ARM_CTX_ERR_E i] },
    -- ARM_CTX_OUT
    { base := 0x200050, dims := [(256, 0x100)], fields := fun i _ => [ARM_CTX_OUT_U i] },
    -- ARM_CTX_D
    { base := 0x200054, dims := [(256, 0x100)], fields := fun i _ => [ARM_CTX_D_D i] },
    -- ARM_CTX_V
    { base := 0x200058, dims := [(256, 0x100)], fields := fun i _ => [ARM_CTX_V_V i] },
    -- ARM_CTX_Ek
    { base := 0x20005C, dims := [(256, 0x100), (3, 0x4)], fields := fun i j => [ARM_CTX_Ek_E i (j + 1)] },
    -- ARM_CTX_Yk
    { base := 0x200068, dims := [(256, 0x100), (3, 0x4)], fields := fun i j => [ARM_CTX_Yk_Y i (j + 1)] },
    -- ARM_CTX_SWITCHES
    { base := 0x200074, dims := [(256, 0x100)], fields := fun i _ => [ARM_CTX_SWITCHES_COUNT i] },
    -- ARM_WIN_STAT
    { base := 0x210000, dims := [], fields := fun _ _ => [ARM_WIN_STAT_CYCLES, ARM_WIN_STAT_TRANSFERS] },
    -- ARM_MAP0
    { base := 0x210010, dims := [], fields := fun _ _ => [ARM_MAP0_DAB_BASE, ARM_MAP0_ARMI_BASE, ARM_MAP0_ARME_BASE, ARM_MAP0_LVBUS] },
    -- ARM_MAP1
    { base := 0x210014, dims := [], fields := fun _ _ => [ARM_MAP1_PORT_BASE, ARM_MAP1_INV_BASE] },
    -- ARM_STALE_LIM
    { base := 0x210018, dims := [], fields := fun _ _ => [ARM_STALE_LIM_LIMIT] },
    -- ARM_ACTIVEk
    { base := 0x210020, dims := [(8, 0x4)], fields := fun i _ => [ARM_ACTIVEk_ACTIVE i] },
    -- ARM_FENCEDk
    { base := 0x210040, dims := [(8, 0x4)], fields := fun i _ => [ARM_FENCEDk_FENCED i] },
    -- ARM_HOSTSIGk
    { base := 0x210100, dims := [(64, 0x4)], fields := fun i _ => [ARM_HOSTSIGk_VALUE i] },
    -- ARM_COEF_B0
    { base := 0x220000, dims := [(256, 0x400), (8, 0x80)], fields := fun i j => [ARM_COEF_B0_RAW i j] },
    -- ARM_COEF_B1
    { base := 0x220004, dims := [(256, 0x400), (8, 0x80)], fields := fun i j => [ARM_COEF_B1_RAW i j] },
    -- ARM_COEF_B2
    { base := 0x220008, dims := [(256, 0x400), (8, 0x80)], fields := fun i j => [ARM_COEF_B2_RAW i j] }]

/-- Rows of the ARM registers. -/
def rowsARM2 : List RegRow := [
    -- ARM_COEF_B3
    { base := 0x22000C, dims := [(256, 0x400), (8, 0x80)], fields := fun i j => [ARM_COEF_B3_RAW i j] },
    -- ARM_COEF_A1
    { base := 0x220010, dims := [(256, 0x400), (8, 0x80)], fields := fun i j => [ARM_COEF_A1_RAW i j] },
    -- ARM_COEF_A2
    { base := 0x220014, dims := [(256, 0x400), (8, 0x80)], fields := fun i j => [ARM_COEF_A2_RAW i j] },
    -- ARM_COEF_A3
    { base := 0x220018, dims := [(256, 0x400), (8, 0x80)], fields := fun i j => [ARM_COEF_A3_RAW i j] },
    -- ARM_COEF_SHIFT0
    { base := 0x22001C, dims := [(256, 0x400), (8, 0x80)], fields := fun i j => [ARM_COEF_SHIFT0_SB0 i j, ARM_COEF_SHIFT0_SB1 i j, ARM_COEF_SHIFT0_SB2 i j, ARM_COEF_SHIFT0_SB3 i j] },
    -- ARM_COEF_SHIFT1
    { base := 0x220020, dims := [(256, 0x400), (8, 0x80)], fields := fun i j => [ARM_COEF_SHIFT1_SA1 i j, ARM_COEF_SHIFT1_SA2 i j, ARM_COEF_SHIFT1_SA3 i j] }]

/-- Rows of the CHSL registers. -/
def rowsCHSL : List RegRow := [
    -- CHSL_CFG
    { base := 0x300000, dims := [], fields := fun _ _ => [CHSL_CFG_SHORT_POL, CHSL_CFG_DAB_SPREAD] },
    -- CHSL_DAB_PERIOD
    { base := 0x300004, dims := [], fields := fun _ _ => [CHSL_DAB_PERIOD_PERIOD] },
    -- CHSL_DAB_STEP
    { base := 0x300008, dims := [], fields := fun _ _ => [CHSL_DAB_STEP_STEP_MAX] },
    -- CHSL_MINP_FLOOR
    { base := 0x30000C, dims := [], fields := fun _ _ => [CHSL_MINP_FLOOR_FLOOR] },
    -- CHSL_STAT
    { base := 0x300010, dims := [], fields := fun _ _ => [CHSL_STAT_FRAMES, CHSL_STAT_SWALLOWS, CHSL_STAT_STRETCHES, CHSL_STAT_PHI_LIMITED] },
    -- CHSL_CAP_SEL
    { base := 0x300020, dims := [], fields := fun _ _ => [CHSL_CAP_SEL_SLOT, CHSL_CAP_SEL_EN] },
    -- CHSL_CAP_Wk
    { base := 0x300040, dims := [(12, 0x4)], fields := fun i _ => [CHSL_CAP_Wk_WORD i] },
    -- CHSL_CELL_MODE
    { base := 0x301000, dims := [(192, 0x20)], fields := fun i _ => [CHSL_CELL_MODE_MODE i, CHSL_CELL_MODE_SPARE i, CHSL_CELL_MODE_CHARGE_ONLY i, CHSL_CELL_MODE_POSITION i] },
    -- CHSL_CELL_PHASE
    { base := 0x301004, dims := [(192, 0x20)], fields := fun i _ => [CHSL_CELL_PHASE_PHASE i] },
    -- CHSL_CELL_M
    { base := 0x301008, dims := [(192, 0x20)], fields := fun i _ => [CHSL_CELL_M_M i] },
    -- CHSL_CELL_PHI
    { base := 0x30100C, dims := [(192, 0x20)], fields := fun i _ => [CHSL_CELL_PHI_PHI i, CHSL_CELL_PHI_EN i, CHSL_CELL_PHI_LIMITED i] },
    -- CHSL_CELL_EDGES
    { base := 0x301010, dims := [(192, 0x20)], fields := fun i _ => [CHSL_CELL_EDGES_LEG_A i, CHSL_CELL_EDGES_LEG_B i] },
    -- CHSL_CELL_TMIN
    { base := 0x301014, dims := [(192, 0x20)], fields := fun i _ => [CHSL_CELL_TMIN_TMIN i] },
    -- CHSL_CELL_CNT
    { base := 0x301018, dims := [(192, 0x20)], fields := fun i _ => [CHSL_CELL_CNT_SWALLOW i, CHSL_CELL_CNT_STRETCH i] }]

/-- Rows of the CELL registers. -/
def rowsCELL : List RegRow := [
    -- CELL_SLOT_STAT
    { base := 0x340000, dims := [(192, 0x20)], fields := fun i _ => [CELL_SLOT_STAT_STATE i, CELL_SLOT_STAT_SPARE i, CELL_SLOT_STAT_INSERTED i, CELL_SLOT_STAT_LOCKOUT i, CELL_SLOT_STAT_HOST_FENCE i, CELL_SLOT_STAT_FENCE_CAUSE i, CELL_SLOT_STAT_JOIN_CNT i] },
    -- CELL_SLOT_FAULT
    { base := 0x340004, dims := [(192, 0x20)], fields := fun i _ => [CELL_SLOT_FAULT_CODE i, CELL_SLOT_FAULT_PRESENT i, CELL_SLOT_FAULT_RECOVER i] },
    -- CELL_SLOT_CFG
    { base := 0x340008, dims := [(192, 0x20)], fields := fun i _ => [CELL_SLOT_CFG_AUTO i] },
    -- CELL_WI
    { base := 0x34000C, dims := [(192, 0x20)], fields := fun i _ => [CELL_WI_WI i] },
    -- CELL_CYCLES
    { base := 0x340010, dims := [(192, 0x20)], fields := fun i _ => [CELL_CYCLES_COUNT i] },
    -- CELL_SN_LO
    { base := 0x340014, dims := [(192, 0x20)], fields := fun i _ => [CELL_SN_LO_SN i] },
    -- CELL_SN_HI
    { base := 0x340018, dims := [(192, 0x20)], fields := fun i _ => [CELL_SN_HI_SN i] },
    -- CELL_ARM_STAT
    { base := 0x342000, dims := [(3, 0x10)], fields := fun i _ => [CELL_ARM_STAT_IN_SERVICE i, CELL_ARM_STAT_ACTIVE i, CELL_ARM_STAT_SPARES i, CELL_ARM_STAT_INSERTED i] },
    -- CELL_ARM_SWAP
    { base := 0x342004, dims := [(3, 0x10)], fields := fun i _ => [CELL_ARM_SWAP_IN_SLOT i, CELL_ARM_SWAP_OUT_SLOT i, CELL_ARM_SWAP_ACTIVE i] },
    -- CELL_GCFG
    { base := 0x343000, dims := [], fields := fun _ _ => [CELL_GCFG_W_CHG, CELL_GCFG_START_PROBE, CELL_GCFG_HOLD] },
    -- CELL_TIMEOUT
    { base := 0x343004, dims := [], fields := fun _ _ => [CELL_TIMEOUT_LINK_MS, CELL_TIMEOUT_CHG_MS] },
    -- CELL_SPARE_CFG
    { base := 0x343008, dims := [], fields := fun _ _ => [CELL_SPARE_CFG_ROT_MIN, CELL_SPARE_CFG_MARGIN, CELL_SPARE_CFG_SAG_PCT] },
    -- CELL_FAULT_CLASS0
    { base := 0x343010, dims := [], fields := fun _ _ => (List.range 8).map CELL_FAULT_CLASS0_CLASS },
    -- CELL_FAULT_CLASS1
    { base := 0x343014, dims := [], fields := fun _ _ => [CELL_FAULT_CLASS1_CLASS9, CELL_FAULT_CLASS1_CLASS10] },
    -- CELL_PATINA_CFG
    { base := 0x343018, dims := [], fields := fun _ _ => [CELL_PATINA_CFG_BETA, CELL_PATINA_CFG_DT_REF, CELL_PATINA_CFG_TM_REF, CELL_PATINA_CFG_TM_HALF] },
    -- CELL_LDG_CTRL
    { base := 0x34301C, dims := [], fields := fun _ _ => [CELL_LDG_CTRL_COMMIT] },
    -- CELL_LDG_STAT
    { base := 0x343020, dims := [], fields := fun _ _ => [CELL_LDG_STAT_AGE_MIN, CELL_LDG_STAT_FAIL] },
    -- CELL_LEG_SRCk
    { base := 0x343030, dims := [(6, 0x4)], fields := fun i _ => (List.range 4).map (CELL_LEG_SRCk_AIN i) ++ (List.range 4).map (CELL_LEG_SRCk_EN i) },
    -- CELL_LEG_WIr
    { base := 0x343080, dims := [(26, 0x4)], fields := fun i _ => [CELL_LEG_WIr_WI i] },
    -- CELL_LDG_SEL
    { base := 0x3430F0, dims := [], fields := fun _ _ => [CELL_LDG_SEL_RECORD, CELL_LDG_SEL_GROUP] },
    -- CELL_LDG_BINk
    { base := 0x343100, dims := [(128, 0x4)], fields := fun i _ => [CELL_LDG_BINk_COUNT i] }]

/-- Rows of the PWM registers. -/
def rowsPWM : List RegRow := [
    -- PWM_LEG_CFG
    { base := 0x400000, dims := [(24, 0x40)], fields := fun i _ => [PWM_LEG_CFG_SRC i, PWM_LEG_CFG_MODE i, PWM_LEG_CFG_UPD i, PWM_LEG_CFG_SHORT_POL i, PWM_LEG_CFG_AUTO i] },
    -- PWM_LEG_PERIOD
    { base := 0x400004, dims := [(24, 0x40)], fields := fun i _ => [PWM_LEG_PERIOD_PERIOD i] },
    -- PWM_LEG_OFFS
    { base := 0x400008, dims := [(24, 0x40)], fields := fun i _ => [PWM_LEG_OFFS_OFFS i] },
    -- PWM_LEG_CMP_ON
    { base := 0x40000C, dims := [(24, 0x40)], fields := fun i _ => [PWM_LEG_CMP_ON_CMP i] },
    -- PWM_LEG_CMP_OFF
    { base := 0x400010, dims := [(24, 0x40)], fields := fun i _ => [PWM_LEG_CMP_OFF_CMP i] },
    -- PWM_LEG_TIMING
    { base := 0x400014, dims := [(24, 0x40)], fields := fun i _ => [PWM_LEG_TIMING_DT i, PWM_LEG_TIMING_MINP i] },
    -- PWM_LEG_BS
    { base := 0x400018, dims := [(24, 0x40)], fields := fun i _ => [PWM_LEG_BS_TMAX i, PWM_LEG_BS_INT i] },
    -- PWM_LEG_BSW
    { base := 0x40001C, dims := [(24, 0x40)], fields := fun i _ => [PWM_LEG_BSW_PULSE i] },
    -- PWM_LEG_FORCE
    { base := 0x400020, dims := [(24, 0x40)], fields := fun i _ => [PWM_LEG_FORCE_EN i, PWM_LEG_FORCE_UPPER i, PWM_LEG_FORCE_LOWER i] },
    -- PWM_LEG_STAT
    { base := 0x400024, dims := [(24, 0x40)], fields := fun i _ => [PWM_LEG_STAT_STATE i, PWM_LEG_STAT_FENCED i, PWM_LEG_STAT_LATCHED i, PWM_LEG_STAT_ANCHORED i, PWM_LEG_STAT_CLAMP i, PWM_LEG_STAT_CAUSE i] },
    -- PWM_LEG_TON
    { base := 0x400028, dims := [(24, 0x40)], fields := fun i _ => [PWM_LEG_TON_TICK i] },
    -- PWM_LEG_TOFF
    { base := 0x40002C, dims := [(24, 0x40)], fields := fun i _ => [PWM_LEG_TOFF_TICK i] },
    -- PWM_LEG_CNT
    { base := 0x400030, dims := [(24, 0x40)], fields := fun i _ => [PWM_LEG_CNT_SWALLOW i, PWM_LEG_CNT_STRETCH i] },
    -- PWM_LEG_ICNT
    { base := 0x400034, dims := [(24, 0x40)], fields := fun i _ => [PWM_LEG_ICNT_SHOOT i, PWM_LEG_ICNT_REFRESH i] },
    -- PWM_STAT
    { base := 0x400800, dims := [], fields := fun _ _ => [PWM_STAT_MULTI] },
    -- PWM_FENCED
    { base := 0x400804, dims := [], fields := fun _ _ => [PWM_FENCED_LEGS] },
    -- PWM_TRIPk
    { base := 0x400900, dims := [(16, 0x4)], fields := fun i _ => [PWM_TRIPk_LEG i, PWM_TRIPk_ACTION i, PWM_TRIPk_POL i, PWM_TRIPk_BLANK i] },
    -- PWM_TRIP_STAT
    { base := 0x400940, dims := [], fields := fun _ _ => [PWM_TRIP_STAT_LEVEL, PWM_TRIP_STAT_LATCH] },
    -- PWM_BRK_CFG
    { base := 0x400A00, dims := [], fields := fun _ _ => [PWM_BRK_CFG_TMAX_MS] },
    -- PWM_BRK_OPT
    { base := 0x400A04, dims := [], fields := fun _ _ => [PWM_BRK_OPT_VON, PWM_BRK_OPT_VOFF, PWM_BRK_OPT_RST_EN] },
    -- PWM_BRK_STAT
    { base := 0x400A08, dims := [], fields := fun _ _ => [PWM_BRK_STAT_ON, PWM_BRK_STAT_ARMED] },
    -- PWM_BRK_CNT
    { base := 0x400A0C, dims := [], fields := fun _ _ => [PWM_BRK_CNT_COUNT] },
    -- PWM_DIAG_CTRL
    { base := 0x400B00, dims := [], fields := fun _ _ => [PWM_DIAG_CTRL_START] },
    -- PWM_DIAG_CFG
    { base := 0x400B04, dims := [], fields := fun _ _ => [PWM_DIAG_CFG_STEP_MS] },
    -- PWM_DIAG_STAT
    { base := 0x400B08, dims := [], fields := fun _ _ => [PWM_DIAG_STAT_BUSY, PWM_DIAG_STAT_PASS] },
    -- PWM_DIAG_NODEn
    { base := 0x400C00, dims := [(32, 0x4)], fields := fun i _ => [PWM_DIAG_NODEn_AIN i, PWM_DIAG_NODEn_OPEN_EN i] },
    -- PWM_DIAG_RESn
    { base := 0x400D00, dims := [(32, 0x8)], fields := fun i _ => [PWM_DIAG_RESn_CLASS i, PWM_DIAG_RESn_V0 i] },
    -- PWM_DIAG_Vn
    { base := 0x400D04, dims := [(32, 0x8)], fields := fun i _ => [PWM_DIAG_Vn_V1 i, PWM_DIAG_Vn_V2 i] }]

/-- Rows of the GATE registers. -/
def rowsGATE : List RegRow := [
    -- GATE_CH_DRIVE
    { base := 0x410000, dims := [(56, 0x20)], fields := fun i _ => [GATE_CH_DRIVE_ION i, GATE_CH_DRIVE_IOFF i, GATE_CH_DRIVE_ISOFT i, GATE_CH_DRIVE_VPOS i] },
    -- GATE_CH_PROT
    { base := 0x410004, dims := [(56, 0x20)], fields := fun i _ => [GATE_CH_PROT_VNEG i, GATE_CH_PROT_MILLER i, GATE_CH_PROT_DESAT_EN i, GATE_CH_PROT_DESAT_TH i, GATE_CH_PROT_BLANK i] },
    -- GATE_CH_STAT
    { base := 0x410008, dims := [(56, 0x20)], fields := fun i _ => [GATE_CH_STAT_POWERED i, GATE_CH_STAT_UVLO i, GATE_CH_STAT_GATE_OFF i, GATE_CH_STAT_DESAT i] },
    -- GATE_LEG_OC
    { base := 0x410800, dims := [(24, 0x4)], fields := fun i _ => [GATE_LEG_OC_AIN i, GATE_LEG_OC_EN i, GATE_LEG_OC_TH i] },
    -- GATE_STAT
    { base := 0x410900, dims := [], fields := fun _ _ => [GATE_STAT_GATE24_OK, GATE_STAT_SUPPLY_A, GATE_STAT_SUPPLY_B, GATE_STAT_STUCK] },
    -- GATE_SHORT
    { base := 0x410904, dims := [], fields := fun _ _ => [GATE_SHORT_LEGS] },
    -- GATE_SS_STAT
    { base := 0x410908, dims := [], fields := fun _ _ => [GATE_SS_STAT_CLOSED] }]

/-- Rows of the PORT registers. -/
def rowsPORT : List RegRow := [
    -- PORT_STAT
    { base := 0x420000, dims := [(8, 0x20)], fields := fun i _ => [PORT_STAT_STATE i, PORT_STAT_FALLBACK i, PORT_STAT_LIMITING i, PORT_STAT_RETRIES i, PORT_STAT_CAUSE i] },
    -- PORT_VREF
    { base := 0x420004, dims := [(8, 0x20)], fields := fun i _ => [PORT_VREF_R i] },
    -- PORT_VOUT
    { base := 0x420008, dims := [(8, 0x20)], fields := fun i _ => [PORT_VOUT_V i] },
    -- PORT_IPH
    { base := 0x42000C, dims := [(8, 0x20)], fields := fun i _ => [PORT_IPH_IA i, PORT_IPH_IB i] },
    -- PORT_TON
    { base := 0x420010, dims := [(8, 0x20)], fields := fun i _ => [PORT_TON_TON i] },
    -- PORT_THETA
    { base := 0x420014, dims := [(8, 0x20)], fields := fun i _ => [PORT_THETA_THETA i] },
    -- PORT_LIM_CNT
    { base := 0x420018, dims := [(8, 0x20)], fields := fun i _ => [PORT_LIM_CNT_COUNT i] },
    -- PORT_HIC_CNT
    { base := 0x42001C, dims := [(8, 0x20)], fields := fun i _ => [PORT_HIC_CNT_COUNT i] },
    -- PORT_CFG
    { base := 0x420400, dims := [(8, 0x80)], fields := fun i _ => [PORT_CFG_RUN i, PORT_CFG_AUTO i, PORT_CFG_FB_START i] },
    -- PORT_VCMD
    { base := 0x420404, dims := [(8, 0x80)], fields := fun i _ => [PORT_VCMD_V i] },
    -- PORT_SLEW
    { base := 0x420408, dims := [(8, 0x80)], fields := fun i _ => [PORT_SLEW_RATE i, PORT_SLEW_SS_MS i] },
    -- PORT_TSW
    { base := 0x42040C, dims := [(8, 0x80)], fields := fun i _ => [PORT_TSW_TSW i] },
    -- PORT_TLIM
    { base := 0x420410, dims := [(8, 0x80)], fields := fun i _ => [PORT_TLIM_TOFF_MIN i] },
    -- PORT_SNS
    { base := 0x420414, dims := [(8, 0x80)], fields := fun i _ => [PORT_SNS_VOUT_AIN i, PORT_SNS_IA_AIN i, PORT_SNS_IB_AIN i] },
    -- PORT_ILIM
    { base := 0x420418, dims := [(8, 0x80)], fields := fun i _ => [PORT_ILIM_FAST i] },
    -- PORT_OVL
    { base := 0x42041C, dims := [(8, 0x80)], fields := fun i _ => [PORT_OVL_I_OVL i, PORT_OVL_TAU_MS i] },
    -- PORT_RIPPLE
    { base := 0x420420, dims := [(8, 0x80)], fields := fun i _ => [PORT_RIPPLE_KRIP i] },
    -- PORT_SEQ
    { base := 0x420424, dims := [(8, 0x80)], fields := fun i _ => [PORT_SEQ_T_CLOSE_MS i] },
    -- PORT_HIC
    { base := 0x420428, dims := [(8, 0x80)], fields := fun i _ => [PORT_HIC_OFF_MS i] },
    -- PORT_FB_VSELk
    { base := 0x420440, dims := [(8, 0x80), (8, 0x4)], fields := fun i j => [PORT_FB_VSELk_V i j] },
    -- PORT_FB_CFG
    { base := 0x420800, dims := [], fields := fun _ _ => [PORT_FB_CFG_TIMEOUT_MS, PORT_FB_CFG_PIN_EN] },
    -- PORT_FB_STAT
    { base := 0x420804, dims := [], fields := fun _ _ => [PORT_FB_STAT_ACTIVE, PORT_FB_STAT_HOST, PORT_FB_STAT_PIN, PORT_FB_STAT_VSEL] },
    -- PORT_FB_CTRL
    { base := 0x420808, dims := [], fields := fun _ _ => [PORT_FB_CTRL_RESUME] }]

/-- Rows of the ADC registers. -/
def rowsADC : List RegRow := [
    -- ADC_CTRL
    { base := 0x500000, dims := [], fields := fun _ _ => [ADC_CTRL_SCAN, ADC_CTRL_CAPTURE_HALT, ADC_CTRL_ROT_HOLD, ADC_CTRL_HOST, ADC_CTRL_SCAN_DELAY] },
    -- ADC_STAT
    { base := 0x500004, dims := [], fields := fun _ _ => [ADC_STAT_OVR, ADC_STAT_NOCONV, ADC_STAT_NOROT] },
    -- ADC_SCAN_MASK0
    { base := 0x500008, dims := [], fields := fun _ _ => [ADC_SCAN_MASK0_MASK] },
    -- ADC_SCAN_MASK1
    { base := 0x50000C, dims := [], fields := fun _ _ => [ADC_SCAN_MASK1_MASK] },
    -- ADC_CONVk
    { base := 0x500020, dims := [(9, 0x4)], fields := fun i _ => [ADC_CONVk_STATE i, ADC_CONVk_SEQ i, ADC_CONVk_FULL i, ADC_CONVk_OFFS i, ADC_CONVk_GAINERR i] },
    -- ADC_SEQ_CFGk
    { base := 0x500100, dims := [(8, 0x4)], fields := fun i _ => [ADC_SEQ_CFGk_LEN i, ADC_SEQ_CFGk_SYNC i, ADC_SEQ_CFGk_EN i] },
    -- ADC_DATAk
    { base := 0x500120, dims := [(8, 0x4)], fields := fun i _ => [ADC_DATAk_CODE i, ADC_DATAk_AIN i, ADC_DATAk_VALID i] },
    -- ADC_SEQk_Ej
    { base := 0x501000, dims := [(8, 0x80), (32, 0x4)], fields := fun i j => [ADC_SEQk_Ej_AIN i j, ADC_SEQk_Ej_AVG i j, ADC_SEQk_Ej_REPEAT i j, ADC_SEQk_Ej_DELAY i j] },
    -- ADC_IN_CFGi
    { base := 0x502000, dims := [(64, 0x20)], fields := fun i _ => [ADC_IN_CFGi_RANGE i, ADC_IN_CFGi_OW i] },
    -- ADC_IN_GAINi
    { base := 0x502004, dims := [(64, 0x20)], fields := fun i _ => [ADC_IN_GAINi_GAIN i] },
    -- ADC_IN_SCALEi
    { base := 0x502008, dims := [(64, 0x20)], fields := fun i _ => [ADC_IN_SCALEi_SHIFT i, ADC_IN_SCALEi_OFFS i] },
    -- ADC_IN_BASEi
    { base := 0x50200C, dims := [(64, 0x20)], fields := fun i _ => [ADC_IN_BASEi_BASE i, ADC_IN_BASEi_UNIT i] },
    -- ADC_IN_VALi
    { base := 0x502010, dims := [(64, 0x20)], fields := fun i _ => [ADC_IN_VALi_X i] },
    -- ADC_IN_STATi
    { base := 0x502014, dims := [(64, 0x20)], fields := fun i _ => [ADC_IN_STATi_CODE i, ADC_IN_STATi_STALE i, ADC_IN_STATi_OPEN i, ADC_IN_STATi_OVERRANGE i, ADC_IN_STATi_AGE i] }]

/-- Rows of the DMA registers. -/
def rowsDMA : List RegRow := [
    -- DMA_CH_SRC
    { base := 0x600000, dims := [(32, 0x40)], fields := fun i _ => [DMA_CH_SRC_SRC i] },
    -- DMA_CH_LEN
    { base := 0x600004, dims := [(32, 0x40)], fields := fun i _ => [DMA_CH_LEN_LEN i] },
    -- DMA_CH_CTRL
    { base := 0x600008, dims := [(32, 0x40)], fields := fun i _ => [DMA_CH_CTRL_SWAP i, DMA_CH_CTRL_PRIO i, DMA_CH_CTRL_TRIG i, DMA_CH_CTRL_DEC i] },
    -- DMA_CH_RING_BASE
    { base := 0x60000C, dims := [(32, 0x40)], fields := fun i _ => [DMA_CH_RING_BASE_BASE i] },
    -- DMA_CH_RING_SIZE
    { base := 0x600010, dims := [(32, 0x40)], fields := fun i _ => [DMA_CH_RING_SIZE_SIZE i] },
    -- DMA_CH_LOAD
    { base := 0x600014, dims := [(32, 0x40)], fields := fun i _ => [DMA_CH_LOAD_LOAD i, DMA_CH_LOAD_STOP i] },
    -- DMA_CH_STAT
    { base := 0x600018, dims := [(32, 0x40)], fields := fun i _ => [DMA_CH_STAT_BUSY i, DMA_CH_STAT_SHADOW i, DMA_CH_STAT_BAD i, DMA_CH_STAT_STOPPED i, DMA_CH_STAT_TORN i, DMA_CH_STAT_MISSED i, DMA_CH_STAT_LAP i] },
    -- DMA_CH_WPTR
    { base := 0x60001C, dims := [(32, 0x40)], fields := fun i _ => [DMA_CH_WPTR_WPTR i] },
    -- DMA_CH_CNT
    { base := 0x600020, dims := [(32, 0x40)], fields := fun i _ => [DMA_CH_CNT_COUNT i] },
    -- DMA_CH_GAPS
    { base := 0x600024, dims := [(32, 0x40)], fields := fun i _ => [DMA_CH_GAPS_COUNT i] },
    -- DMA_STAT
    { base := 0x600800, dims := [], fields := fun _ _ => [DMA_STAT_HALTED, DMA_STAT_ERR_CH, DMA_STAT_ERR_KIND] },
    -- DMA_ERR_ADDR
    { base := 0x600804, dims := [], fields := fun _ _ => [DMA_ERR_ADDR_ADDR] },
    -- DMA_CTRL
    { base := 0x600808, dims := [], fields := fun _ _ => [DMA_CTRL_RESTART] },
    -- DMA_OPT
    { base := 0x60080C, dims := [], fields := fun _ _ => [DMA_OPT_ERR_MODE] },
    -- DMA_BG_SCRUB
    { base := 0x600900, dims := [], fields := fun _ _ => [DMA_BG_SCRUB_PASS_MS, DMA_BG_SCRUB_PASSES] },
    -- DMA_BG_CORR
    { base := 0x600904, dims := [], fields := fun _ _ => [DMA_BG_CORR_COUNT] },
    -- DMA_BG_EYE
    { base := 0x600908, dims := [], fields := fun _ _ => [DMA_BG_EYE_LANE, DMA_BG_EYE_SWEEP_MS] },
    -- DMA_BG_WEAR
    { base := 0x60090C, dims := [], fields := fun _ _ => [DMA_BG_WEAR_MAX_ERASE] },
    -- DMA_BG_MOVES
    { base := 0x600910, dims := [], fields := fun _ _ => [DMA_BG_MOVES_COUNT] },
    -- DMA_BUFw
    { base := 0x680000, dims := [(131072, 0x4)], fields := fun i _ => [DMA_BUFw_DATA i] }]

/-- Rows of the EVT registers. -/
def rowsEVT : List RegRow := [
    -- EVT_STAT
    { base := 0x700000, dims := [], fields := fun _ _ => [EVT_STAT_LATCHED, EVT_STAT_LOSS, EVT_STAT_STAGED] },
    -- EVT_NEXT
    { base := 0x700004, dims := [], fields := fun _ _ => [EVT_NEXT_NUM] },
    -- EVT_OLDEST
    { base := 0x700008, dims := [], fields := fun _ _ => [EVT_OLDEST_NUM] },
    -- EVT_ACKED
    { base := 0x70000C, dims := [], fields := fun _ _ => [EVT_ACKED_NUM] },
    -- EVT_UNACK
    { base := 0x700010, dims := [], fields := fun _ _ => [EVT_UNACK_COUNT] },
    -- EVT_LOST_CNT
    { base := 0x700014, dims := [], fields := fun _ _ => [EVT_LOST_CNT_COUNT] },
    -- EVT_SUPP_CNT
    { base := 0x700018, dims := [], fields := fun _ _ => [EVT_SUPP_CNT_COUNT] },
    -- EVT_GCFG
    { base := 0x700020, dims := [], fields := fun _ _ => [EVT_GCFG_HOLDOFF_MS] },
    -- EVT_RECOV_CFG
    { base := 0x700024, dims := [], fields := fun _ _ => [EVT_RECOV_CFG_QUIET_S, EVT_RECOV_CFG_MAX_RECOVER, EVT_RECOV_CFG_CTX_AUTO] },
    -- EVT_HALT
    { base := 0x700030, dims := [], fields := fun _ _ => [EVT_HALT_SOURCE, EVT_HALT_HALTED] },
    -- EVT_INJk
    { base := 0x700040, dims := [(5, 0x4)], fields := fun i _ => [EVT_INJk_REMAIN i, EVT_INJk_INDEX i] },
    -- EVT_LATCHk
    { base := 0x700080, dims := [(8, 0x4)], fields := fun i _ => [EVT_LATCHk_LATCHED i] },
    -- EVT_SRCk
    { base := 0x701000, dims := [(256, 0x4)], fields := fun i _ => [EVT_SRCk_CLASS i, EVT_SRCk_FIXED i, EVT_SRCk_LATCHED i, EVT_SRCk_COUNT i] },
    -- EVT_RCV_SLOTs
    { base := 0x702000, dims := [(192, 0x4)], fields := fun i _ => [EVT_RCV_SLOTs_RECOVER i, EVT_RCV_SLOTs_LOCKOUT i, EVT_RCV_SLOTs_QUIET i, EVT_RCV_SLOTs_QUIET_LEFT i] },
    -- EVT_RCV_LEGl
    { base := 0x702400, dims := [(24, 0x4)], fields := fun i _ => [EVT_RCV_LEGl_RECOVER i, EVT_RCV_LEGl_LOCKOUT i, EVT_RCV_LEGl_QUIET i, EVT_RCV_LEGl_QUIET_LEFT i] },
    -- EVT_RCV_PORTp
    { base := 0x702480, dims := [(8, 0x4)], fields := fun i _ => [EVT_RCV_PORTp_RECOVER i, EVT_RCV_PORTp_LOCKOUT i, EVT_RCV_PORTp_QUIET i, EVT_RCV_PORTp_QUIET_LEFT i] },
    -- EVT_RCV_CTXc
    { base := 0x702500, dims := [(256, 0x4)], fields := fun i _ => [EVT_RCV_CTXc_RECOVER i, EVT_RCV_CTXc_LOCKOUT i, EVT_RCV_CTXc_QUIET i, EVT_RCV_CTXc_QUIET_LEFT i] }]

/-- Rows of the SAFE registers. -/
def rowsSAFE : List RegRow := [
    -- SAFE_STAT
    { base := 0x710000, dims := [], fields := fun _ _ => [SAFE_STAT_STATE, SAFE_STAT_DEMAND, SAFE_STAT_DISCREP, SAFE_STAT_PARTIAL, SAFE_STAT_OUT1, SAFE_STAT_OUT2, SAFE_STAT_CAUSE] },
    -- SAFE_IN
    { base := 0x710004, dims := [], fields := fun _ _ => [SAFE_IN_CONTACTS, SAFE_IN_RESET] },
    -- SAFE_RAMP_P0
    { base := 0x710008, dims := [], fields := fun _ _ => [SAFE_RAMP_P0_P0] },
    -- SAFE_RAMP_T
    { base := 0x71000C, dims := [], fields := fun _ _ => [SAFE_RAMP_T_T_MS, SAFE_RAMP_T_ENV_KW] },
    -- SAFE_P
    { base := 0x710010, dims := [], fields := fun _ _ => [SAFE_P_P] },
    -- SAFE_SF_SEQ
    { base := 0x710018, dims := [], fields := fun _ _ => [SAFE_SF_SEQ_SEQ] },
    -- SAFE_SF_ERR
    { base := 0x71001C, dims := [], fields := fun _ _ => [SAFE_SF_ERR_MISMATCH, SAFE_SF_ERR_CRC] },
    -- SAFE_DEMAND_CNT
    { base := 0x710020, dims := [], fields := fun _ _ => [SAFE_DEMAND_CNT_COUNT] },
    -- SAFE_OPT0
    { base := 0x710100, dims := [], fields := fun _ _ => [SAFE_OPT0_A_FUNC, SAFE_OPT0_B_FUNC, SAFE_OPT0_SF_EN, SAFE_OPT0_SF_RST_EN, SAFE_OPT0_AUTO_START, SAFE_OPT0_TP_EN, SAFE_OPT0_DISC_MS] },
    -- SAFE_OPT1
    { base := 0x710104, dims := [], fields := fun _ _ => [SAFE_OPT1_T_RAMP_MS, SAFE_OPT1_P_MARGIN_KW] },
    -- SAFE_OPT2
    { base := 0x710108, dims := [], fields := fun _ _ => [SAFE_OPT2_V_AIN, SAFE_OPT2_I_AIN] },
    -- SAFE_OPT3
    { base := 0x71010C, dims := [], fields := fun _ _ => [SAFE_OPT3_V_LSB] },
    -- SAFE_OPT4
    { base := 0x710110, dims := [], fields := fun _ _ => [SAFE_OPT4_I_LSB] },
    -- SAFE_OPT5
    { base := 0x710114, dims := [], fields := fun _ _ => [SAFE_OPT5_ETHERTYPE] },
    -- SAFE_OPT6
    { base := 0x710118, dims := [], fields := fun _ _ => [SAFE_OPT6_CONN_ID] },
    -- SAFE_OPT7
    { base := 0x71011C, dims := [], fields := fun _ _ => [SAFE_OPT7_WD_MS, SAFE_OPT7_WIN_MS] }]

/-- Rows of the THRM registers. -/
def rowsTHRM : List RegRow := [
    -- THRM_SENSk
    { base := 0x720000, dims := [(20, 0x4)], fields := fun i _ => [THRM_SENSk_TEMP i, THRM_SENSk_OPEN i, THRM_SENSk_SHORT i] },
    -- THRM_SPOTh
    { base := 0x720060, dims := [(10, 0x4)], fields := fun i _ => [THRM_SPOTh_TEMP i, THRM_SPOTh_WARN i, THRM_SPOTh_THROTTLE i, THRM_SPOTh_SHUTDOWN i, THRM_SPOTh_DISAGREE i] },
    -- THRM_STAT
    { base := 0x720100, dims := [], fields := fun _ _ => [THRM_STAT_HOTTEST, THRM_STAT_WARN, THRM_STAT_THROTTLE, THRM_STAT_SHUTDOWN, THRM_STAT_TMAX] },
    -- THRM_DERATE
    { base := 0x720104, dims := [], fields := fun _ _ => [THRM_DERATE_T] },
    -- THRM_FAIL_CNT
    { base := 0x720108, dims := [], fields := fun _ _ => [THRM_FAIL_CNT_COUNT] },
    -- THRM_OPT
    { base := 0x720200, dims := [], fields := fun _ _ => [THRM_OPT_WARN_C, THRM_OPT_THROTTLE_C, THRM_OPT_SHUTDOWN_C] }]

/-- Rows of the NVM registers. -/
def rowsNVM : List RegRow := [
    -- NVM_SLOTk_STAT
    { base := 0x800000, dims := [(2, 0x10)], fields := fun i _ => [NVM_SLOTk_STAT_PRESENT i, NVM_SLOTk_STAT_VALID i, NVM_SLOTk_STAT_KEY i] },
    -- NVM_SLOTk_VER
    { base := 0x800004, dims := [(2, 0x10)], fields := fun i _ => [NVM_SLOTk_VER_VER i] },
    -- NVM_SLOTk_LEN
    { base := 0x800008, dims := [(2, 0x10)], fields := fun i _ => [NVM_SLOTk_LEN_LEN i] },
    -- NVM_STAGEt
    { base := 0x800040, dims := [(3, 0x4)], fields := fun i _ => [NVM_STAGEt_BYTES i, NVM_STAGEt_VERIFIED i] },
    -- NVM_KEY_STAT
    { base := 0x800050, dims := [], fields := fun _ _ => [NVM_KEY_STAT_PROGRAMMED, NVM_KEY_STAT_REVOKED, NVM_KEY_STAT_BURN_FAIL] },
    -- NVM_KEYk_Dj
    { base := 0x800080, dims := [(4, 0x40), (16, 0x4)], fields := fun i j => [NVM_KEYk_Dj_DIGEST i j] },
    -- NVM_DIG_FWj
    { base := 0x800180, dims := [(16, 0x4)], fields := fun i _ => [NVM_DIG_FWj_DIGEST i] },
    -- NVM_DIG_OPTj
    { base := 0x8001C0, dims := [(16, 0x4)], fields := fun i _ => [NVM_DIG_OPTj_DIGEST i] },
    -- NVM_DIG_CFGj
    { base := 0x800200, dims := [(16, 0x4)], fields := fun i _ => [NVM_DIG_CFGj_DIGEST i] },
    -- NVM_ID_PUBj
    { base := 0x800240, dims := [(15, 0x4)], fields := fun i _ => [NVM_ID_PUBj_KEY i] },
    -- NVM_ID_CERT_LEN
    { base := 0x800280, dims := [], fields := fun _ _ => [NVM_ID_CERT_LEN_LEN] },
    -- NVM_OPT_KEYOP
    { base := 0x800300, dims := [], fields := fun _ _ => [NVM_OPT_KEYOP_ENROL, NVM_OPT_KEYOP_REVOKE] },
    -- NVM_OPT_ENROLk_Dj
    { base := 0x800400, dims := [(4, 0x40), (16, 0x4)], fields := fun i j => [NVM_OPT_ENROLk_Dj_DIGEST i j] },
    -- NVM_ID_CERTj
    { base := 0x801000, dims := [(512, 0x4)], fields := fun i _ => [NVM_ID_CERTj_DER i] }]

/-- Rows of the IMG registers. -/
def rowsIMG : List RegRow := [
    -- IMG_HDR_STROKE_LO
    { base := 0x1FF0000, dims := [], fields := fun _ _ => [IMG_HDR_STROKE_LO_STROKE] },
    -- IMG_HDR_STROKE_HI
    { base := 0x1FF0004, dims := [], fields := fun _ _ => [IMG_HDR_STROKE_HI_STROKE] },
    -- IMG_HDR_TIME_LO
    { base := 0x1FF0008, dims := [], fields := fun _ _ => [IMG_HDR_TIME_LO_BOUNDARY] },
    -- IMG_HDR_TIME_HI
    { base := 0x1FF000C, dims := [], fields := fun _ _ => [IMG_HDR_TIME_HI_BOUNDARY] },
    -- IMG_HDR_FLAGS
    { base := 0x1FF0010, dims := [], fields := fun _ _ => [IMG_HDR_FLAGS_UNTIMED, IMG_HDR_FLAGS_CAST, IMG_HDR_FLAGS_CARRIER] }]

/-- The whole register map (R445). -/
def regTable : List RegRow :=
  rowsSYS1 ++ rowsSYS2 ++ rowsRST ++ rowsCLK ++ rowsTIME ++ rowsLINK1 ++ rowsLINK2 ++ rowsARM1 ++ rowsARM2 ++ rowsCHSL ++ rowsCELL ++
  rowsPWM ++ rowsGATE ++ rowsPORT ++ rowsADC ++ rowsDMA ++
  rowsEVT ++ rowsSAFE ++ rowsTHRM ++ rowsNVM ++ rowsIMG

/-- The index of `off` in a dimension, and what is left. -/
def dimIndex (d : Nat × Nat) (off : Nat) : Option (Nat × Nat) :=
  if off / d.2 < d.1 then some (off / d.2, off % d.2) else none

/-- The fields of the register a row has at address `a`, if it has one there. -/
def RegRow.at (r : RegRow) (a : Nat) : Option (List Field) :=
  if a < r.base then none else
  match r.dims with
  | [] => if a = r.base then some (r.fields 0 0) else none
  | [d] =>
    match dimIndex d (a - r.base) with
    | some (i, 0) => some (r.fields i 0)
    | _ => none
  | d :: e :: _ =>
    match dimIndex d (a - r.base) with
    | some (i, o) =>
      match dimIndex e o with
      | some (j, 0) => some (r.fields i j)
      | _ => none
    | none => none

/-- The fields of the register at address `a`; none where nothing is mapped (R6, R440). -/
def fieldsAt (a : Nat) : Option (List Field) := regTable.findSome? (·.at a)

/-- The field whose lowest bit has the bit address `key`. -/
def fieldOfKey (key : Nat) : Option Field :=
  match fieldsAt (key / 32 * 4) with
  | some fs => fs.find? (fun f => f.key == key)
  | none => none

end Sys2Proof.Machine
end

