-- ==== Sys2Proof/Machine/State.lean ====
section
/-! DEFINITION. The state of the block, as plain data: the register banks (one entry for each field
    that differs from its reset value), the state the rules give each engine beyond its registers,
    the outputs the block has sent, and the queue of waiting commands. -/

namespace Sys2Proof.Machine

/-- A sparse collection of values by key: keys strictly rising, and no entry equal to what an
    unlisted key reads as. -/
abbrev SMap (α : Type) := List (Nat × α)

/-- Register fields by the bit address of their lowest bit (`Field.key`). -/
abbrev Bank := SMap Nat

/-- Why the block stops.  No command of the manual stops the block: every row of the table has an
    effect, so no constructor is needed. -/
inductive Fault where
  deriving DecidableEq, Repr

/-- Why a command has no meaning. -/
inductive Refusal where
  /-- The instruction is not modelled yet: raised by its arm of `exec`.  Safe: nothing is said. -/
  | notModelled (mnemonic : String)
  deriving DecidableEq, Repr

/-! ### Jarvas -/

/-- A Jarvas reply, refusals at acceptance included (R59, R61). -/
structure Reply where
  src : Src
  /-- it leaves on both station ports (R56) -/
  both : Bool
  op : BitVec 8
  seq : BitVec 32
  status : BitVec 8
  detail : BitVec 8
  plinth : Bool
  restarted : Bool
  payload : List Byte
  deriving DecidableEq, Repr

/-- What a command that is being executed waits for (the Reply sent column of R69). -/
inductive Wait where
  /-- not begun: the command waits for its turn -/
  | turn
  /-- CAST: its cast is armed (R48, R74) -/
  | cast
  /-- CAST surviving a core reset: no reply is owed (R67) -/
  | castOrphan
  /-- CONVERTER_START and CONVERTER_STOP: the next boundary (R80) -/
  | convStart
  | convStop
  /-- CELL_FENCE and CELL_RESEAT of a slot: the boundary at which it takes effect (R80) -/
  | fence (slot : Nat)
  | reseat (slot : Nat)
  /-- STREAM_CLOSE: the last packet (R79) -/
  | streamClose (k : Nat)
  /-- LATENCY_TOL: the power state (R85) -/
  | power
  /-- IMAGE_WRITE: flash programming (R86) -/
  | program (type : ImgType)
  /-- IMAGE_ACTIVATE: the write of the boot record (R87, R415) -/
  | activate (type : ImgType)
  /-- IMAGE_VERIFY: the checks (R87) -/
  | verify (type : ImgType)
  deriving DecidableEq, Repr

/-- A command accepted and not yet executed (R63, R64). -/
structure QCmd where
  req : Req
  op : BitVec 8
  wait : Wait
  /-- it disarmed a cast when it was accepted (R45) -/
  disarmed : Bool
  deriving DecidableEq, Repr

/-- The Jarvas engine: the queue, oldest first, and the reply cache, newest first (R63 to R67). -/
structure JarvasSt where
  queue : List QCmd
  cache : List Reply
  deriving DecidableEq, Repr

/-! ### Outputs -/

/-- What the block sends, besides the levels its registers show. -/
inductive Output where
  /-- a Jarvas reply: whom it answers, whether it leaves on both station ports (R56), and the packet (R59) -/
  | reply (dst : Src) (both : Bool) (packet : List Byte)
  /-- ARP reply on a station port (R55): target address, then the asker's addresses -/
  | arp (port : Stn) (ip : BitVec 32) (toIp : BitVec 32) (toMac : Mac)
  /-- a stream packet of stream `k` on a port, to where its descriptor sends it, and its VLAN tag (R77) -/
  | stream (port : Stn) (k : Nat) (mac : Mac) (udp : Option (BitVec 32 × BitVec 16)) (vlan : Option Nat)
      (bytes : List Byte)
  /-- a downlink frame on a lane (R190) -/
  | downlink (lane : Nat) (bytes : List Byte)
  /-- 32 BLOCK control blocks on a lane (R197) -/
  | block (lane : Nat)
  /-- a beacon burst on a lane (R184) -/
  | beacon (lane : Nat)
  /-- 64 TEST control blocks on a lane, with the pattern and exponent (R204) -/
  | testBlocks (lane pattern exponent : Nat)
  /-- an ECHO_REQ block on a lane (R186) -/
  | echo (lane num : Nat)
  /-- a Pdelay_Req on a station port (R317) -/
  | pdelayReq (port : Stn) (seq : Nat)
  /-- a Pdelay_Resp: sequence, asker, responseOriginTimestamp in ns, and what is added to the correctionField, the
      residence time in 2^-16 ns (R318) -/
  | pdelayResp (port : Stn) (seq : BitVec 16) (asker : BitVec 64) (originNs residence : Int)
  /-- a safety status frame on a station port (R373) -/
  | safety (port : Stn) (bytes : List Byte)
  /-- a pair frame (R147) -/
  | pair (bytes : List Byte)
  /-- a leg is turned off and held, with its ISOFT or its normal sink current (R255, R279, R341) -/
  | legOff (leg : Nat) (soft : Bool)
  /-- the static switch of a port closes or opens (R249, R275, R279) -/
  | staticSwitch (p : Nat) (closed soft : Bool)
  /-- the brake chopper's switch turns on or off (R264) -/
  | brake (on : Bool)
  /-- an edge of a local leg (R243): one switch turns off, the other (`upper` or lower) turns on after the dead time;
      both instants in 1/64 ns -/
  | edge (leg : Nat) (off on : Int) (upper : Bool)
  /-- a leg of a port rests with both switches off (R280) -/
  | rest (leg : Nat)
  deriving DecidableEq, Repr

/-! ### Time and strokes -/

/-- The time base and the always-on uptime (R312 to R315). -/
structure TimeBase where
  /-- TIME_NS and its fraction: nanoseconds times 2^32 -/
  now : BitVec 96
  /-- the time base counts: D3 is released (R312) -/
  run : Bool
  /-- the increment in force, in 2^-32 ns, without any adjustment (R313) -/
  inc : Nat
  /-- the addition of the adjustment in progress, in 2^-32 ns (R314) -/
  delta : Int
  /-- a pending step: its value, and the earliest boundary at which it applies, in ns (R315) -/
  step : Option (Int × Nat)
  /-- uptime of the always-on domain since D0 was released, in ps -/
  up : Nat
  deriving DecidableEq, Repr

/-- How far the stroke in progress has come (R32). -/
inductive Phase where
  | begun | reported | compiled | frozen
  deriving DecidableEq, Repr

/-- The stroke grid (R26 to R32). -/
structure StrokeSt where
  /-- the stroke domain is released and a configuration is in force: ticks occur -/
  ticking : Bool
  /-- the stroke number -/
  num : Nat
  /-- the boundary of the stroke in progress, in ns -/
  b : Nat
  /-- the next boundary -/
  next : Nat
  phase : Phase
  /-- the stroke in progress is untimed (R52) -/
  untimed : Bool
  /-- its boundary is a carrier boundary (R31) -/
  carrier : Bool
  /-- a cast took effect at its boundary -/
  castHere : Bool
  /-- timing failed: CORE PLL in holdover or its monitor out of limit, not yet restored (R52) -/
  timingBad : Bool
  /-- uptime in ps of the last tick, and the period in ns in force before the most recent cast or step, until one
      full stroke of the new grid has run (R399) -/
  watchFrom : Nat
  watchP : Nat
  deriving DecidableEq, Repr

/-- An armed cast (R45 to R50). -/
structure Armed where
  /-- the chosen boundary, in ns -/
  b : Nat
  /-- requested by CAST_AT -/
  timed : Bool
  /-- TIME_NS when it was armed -/
  at_ : Nat
  /-- CAST_DEFERRED has been raised for it -/
  deferred : Bool
  deriving DecidableEq, Repr

/-- The maquette and the casts (R42 to R51). -/
structure CastSt where
  /-- the pending configuration: every CR field of the maquette -/
  maq : Bank
  /-- the words written since the last cast, ascending (R43) -/
  dirty : List Nat
  armed : Option Armed
  /-- the dirty words of the last cast still to be copied, and the time their copy ends (R50) -/
  resync : Option Nat
  /-- the boundary of the last cast, in ns (R242) -/
  lastB : Nat
  resyncWords : List Nat
  deriving DecidableEq, Repr

/-! ### Events -/

/-- One occurrence of an event, before or after it has its record number (R346). -/
structure Rec where
  num : Nat
  time : Nat
  source : Nat
  cls : Nat
  injected : Bool
  recurrence : Bool
  lockout : Bool
  loss : Bool
  unitType : Nat
  repeats : Nat
  idx : Nat
  code : Nat
  /-- the twelve data bytes as one number -/
  data : Nat
  /-- uptime in ps at which it was raised or numbered -/
  at_ : Nat
  deriving DecidableEq, Repr

/-- The last record of one source and unit, for the holdoff (R350). -/
structure Logged where
  /-- a record has been logged -/
  seen : Bool
  /-- uptime in ps of its last record -/
  at_ : Nat
  /-- occurrences not logged since -/
  repeats : Nat
  deriving DecidableEq, Repr, Inhabited

/-- Automatic recovery of one fenceable unit (R353). -/
structure Recov where
  /-- uptimes, in s, of its automatic re-admissions -/
  hist : List Nat
  fenced : Bool
  lockout : Bool
  manual : Bool
  /-- uptime in ps at which its quiet period ends -/
  quietEnd : Nat
  /-- it is on its way back: its path has begun -/
  returning : Bool
  /-- the way back was begun by the quiet period's end -/
  auto : Bool
  /-- an occurrence of class HALT has named it (R83) -/
  halt : Bool
  deriving DecidableEq, Repr, Inhabited

/-- The event unit (R339 to R355). -/
structure EvtSt where
  /-- occurrences held before they are numbered, oldest first (R348) -/
  held : List Rec
  /-- records staged in SRAM, oldest first (R351) -/
  staged : List Rec
  /-- records in the flash ring, oldest first (R351) -/
  ring : List Rec
  /-- by source, unit type and index (`Occ.key`) -/
  logged : SMap Logged
  /-- the reserved mark in flash (R349) -/
  mark : Nat
  /-- records were dropped since the last record logged -/
  loss : Bool
  /-- the class of each latched source (R344) -/
  latchCls : SMap Nat
  /-- a decision to block the cells is still to be carried out (R36, R343) -/
  blockDue : Bool
  /-- where injected checks have dropped a frame since the last good one: safety copies on STN-A 0 and STN-B 1, PTP on
      STN-A 2 and STN-B 3, pair frames 4 (R355) -/
  injDrops : List Nat
  recov : SMap Recov
  deriving DecidableEq, Repr

/-! ### Local stage -/

/-- The fields of one trip input (R258). -/
structure TripCfg where
  leg : Nat
  action : Nat
  pol : Bool
  blank : Nat
  deriving DecidableEq, Repr, Inhabited

/-- The configuration fields of a leg that take effect at its update points (R242); the compares are those of
    SRC 2. -/
structure LegCfg where
  period : Nat
  offs : Nat
  upd : Bool
  count : Bool
  stretch : Bool
  dt : Nat
  minp : Nat
  cmpOn : Nat
  cmpOff : Nat
  /-- bootstrap limits TMAX and INT in µs, and PULSE in ns (R250) -/
  tmax : Nat
  intv : Nat
  pulse : Nat
  /-- re-admission and the protections of the leg (R253, R254, R260): AUTO, the fast path, desaturation of the upper and the
      lower switch and, for an even leg of a port, of its static switch -/
  auto : Bool
  ocEn : Bool
  desatUp : Bool
  desatLo : Bool
  desatSs : Bool
  /-- the trip inputs as they apply from the leg's last update point, TRIP0 first (R258, R272) -/
  trips : List TripCfg
  deriving DecidableEq, Repr, Inhabited

/-- One local leg beyond its registers (R239 to R251). -/
structure Leg extends LegCfg where
  /-- it has left held -/
  switching : Bool
  /-- tick of the carrier boundary the grid counts from -/
  grid : Int
  /-- the next update point, in ticks; it is a carrier boundary -/
  nextU : Int
  carrier : Bool
  /-- compares formed and not yet in force: on, off, and the tick from which they apply (R241) -/
  formed : Option (Nat × Nat × Int)
  /-- edges issued and still to happen: tick and state, ascending -/
  edges : List (Int × Bool)
  /-- tick of the last edge issued; none after leaving held (R244) -/
  last : Option Int
  /-- the state after the last edge issued: none before the leg's first state -/
  gen : Option Bool
  /-- uptime in ps since which upper has conducted, and of the last lower conduction (R250) -/
  upperSince : Nat
  lowerLast : Nat
  /-- uptime in ps since which the interlock acts (R251) -/
  lockSince : Option Nat
  /-- SHOOT_REQ has been raised in this stroke -/
  shot : Bool
  /-- tick of the last edge at the leg, for trip blanking (R258) -/
  lastEdge : Option Int
  /-- the turn-on that waits for its dead time: its instant in 1/64 ns, and whether it is the upper switch's (R243) -/
  dead : Option (Int × Bool)
  /-- the end of the latest bootstrap refresh (R250); of a lower pulse after which the leg rests again -/
  refreshEnd : Option Int
  restAt : Option Int
  /-- its switches follow PWM_LEG_FORCE (R252) -/
  forced : Bool
  deriving DecidableEq, Repr, Inhabited

/-- One DC port beyond its registers (R274 to R288). -/
structure PortSt where
  /-- the reference r in µV, and the soft-start step (R276) -/
  r : Nat
  ssStep : Nat
  /-- uptime in ps at entry into the present state -/
  entered : Nat
  /-- t_on in ticks and v_cmp in force, and those formed with the tick from which they apply (R281) -/
  ton : Nat
  vcmp : Int
  formed : Option (Nat × Int × Int)
  /-- whose turn it is: false leg 2p, true leg 2p + 1; an on-time waits for that phase (R280) -/
  turn : Bool
  waiting : Bool
  /-- on-times in progress: the tick at which each ends -/
  onA : Option Int
  onB : Option Int
  /-- ticks at which the phases' last on-times ended -/
  offA : Option Int
  offB : Option Int
  /-- consecutive truncated on-times (R281) -/
  trunc : Nat
  /-- the legs rest with both switches off -/
  restA : Bool
  restB : Bool
  /-- the static switch waits to open until the gates are confirmed off (R279) -/
  opening : Bool
  /-- the static switch has been commanded closed and is not yet confirmed (R275) -/
  closing : Bool
  /-- the port was stopped at once, and its static switch opens only once the gates are confirmed off (R279) -/
  atOnce : Bool
  /-- uptime in ps of the hold that GSp's opening waits for -/
  heldAt : Nat
  /-- the close was not confirmed within 1 ms: the port is fenced at the next boundary (R275) -/
  closeFail : Bool
  /-- the emulated inductor ripples of the phases before their means are removed (R280): breakpoints, the latest first, instant
      in 1/64 ns and value in 2^-40 / 64,000 pu -/
  ripA : List (Int × Int)
  ripB : List (Int × Int)
  /-- PORT_FALLBACK has been raised for the fallback in progress: its detail -/
  fallback : Option Nat
  deriving DecidableEq, Repr, Inhabited

/-- Off-state diagnostics of one group (R261 to R263). -/
structure DiagSt where
  /-- the group has not passed since a fence of its leg or port (R286) -/
  owed : Bool
  /-- the node under test, and the phase of its test: 0 rest, 1 source, 2 sink, 3 rest -/
  node : Nat
  phase : Nat
  /-- the means V0, V1, V2 of the node in mV -/
  v0 : Int
  v1 : Int
  v2 : Int
  /-- uptime in ps at which the phase ends -/
  until_ : Nat
  /-- every node so far was NORMAL -/
  ok : Bool
  deriving DecidableEq, Repr, Inhabited

/-- The local stage (R237 to R289). -/
structure LvSt where
  legs : SMap Leg
  ports : SMap PortSt
  diags : SMap DiagSt
  /-- leg and uptime in ps of the last short, and the legs that remain latched for one (R257) -/
  lastShort : Option (Nat × Nat)
  shorted : List Nat
  /-- uptime in ps of the chopper's last change; BRAKE_LONG raised -/
  brakeAt : Nat
  brakeLong : Bool
  /-- uptime in ps of the last test of the stage by a module without the token, since it last held none (R263) -/
  standbyDiagAt : Option Nat
  /-- the legs' fields of the configuration before the last cast, L0 first (R239, R242) -/
  former : List LegCfg
  /-- level at each TRIPk pin once it has been seen, and the inputs that have acted since their leg's last edge (R258) -/
  tripPins : List (Nat × Bool)
  tripDone : List Nat
  /-- MODE_FB_N has been low at 8 consecutive boundaries; a RESUME write waits for the next boundary (R40, R287) -/
  fbPin : Bool
  fbResume : Bool
  deriving DecidableEq, Repr

/-! ### Cells and links -/

/-- A report received in time for its stroke (R192). -/
structure Report where
  stroke : Nat
  port : Nat
  status : Nat
  rx : Nat
  gen : Nat
  fault : Nat
  detail : Nat
  tj : List Int
  meas : List Int
  deriving DecidableEq, Repr, Inhabited

/-- One lane beyond its registers (R182 to R205). -/
structure Lane where
  /-- uptime in ps at entry into the present state -/
  entered : Nat
  /-- uptime in ps of the last beacon burst since then; it awaits its answer; consecutive answers -/
  burstAt : Option Nat
  burstOpen : Bool
  answered : Nat
  /-- uptime in ps of the burst before it, where that one's window of 110.24 µs is open and unanswered (R205) -/
  burstPrev : Option Nat
  /-- an answer was missed in QUIET (R205) -/
  quietMissed : Bool
  /-- echoes are under way since this uptime; the loops timed so far, in ticks (R186) -/
  echoing : Bool
  echoAt : Nat
  loops : List Nat
  /-- rounded mean loop time -/
  loop : Nat
  /-- the last passing CAPABILITY frame (R187) -/
  cap : Option (List Byte)
  /-- failed attempts in a row (R183) -/
  attempts : Nat
  /-- the exchange is complete: ACTIVE at the next boundary -/
  ready : Bool
  /-- the lane came out of QUIET without a missed answer: no echoes and no CAPEX (R205) -/
  fast : Bool
  /-- strokes begun in ACTIVE, up to 2 (R187) -/
  strokes : Nat
  /-- the report received for the stroke in progress, and the last one used -/
  rpt : Option Report
  good : Option Report
  /-- the present stroke's report was used -/
  fresh : Bool
  /-- an injected check failed since the last report used (R355) -/
  inj : Bool
  /-- frames with CLEAR still to be sent (R222) -/
  clear : Nat
  /-- stroke of the last block symbols sent on the lane (R218) -/
  blockedAt : Option Nat
  /-- block symbols were sent in the stroke in progress (R197) -/
  cut : Bool
  /-- it runs a host test, which keeps it enabled (R179, R204) -/
  hostTest : Bool
  /-- the pattern runs since this uptime in ps; the transmitter is dark since the test's end -/
  pattern : Bool
  patternAt : Nat
  dark : Bool
  darkAt : Nat
  /-- the checker has been in sync since this uptime in ps -/
  syncAt : Option Nat
  /-- the last test's result is awaited: uptime in ps of the test's end (R203) -/
  resultBy : Option Nat
  /-- length exponent of the test in progress or awaiting its result -/
  lenExp : Nat
  deriving DecidableEq, Repr, Inhabited

/-- The steps of PROBING (R214), and waiting to enter after passing (R217). -/
inductive Probe where
  | none | link1 | test | link2 | reports | passed
  deriving DecidableEq, Repr, Inhabited

/-- One cell slot beyond its registers (R209 to R222). -/
structure Cell where
  probe : Probe
  /-- uptime in ps at which the present probing step or CHARGING began -/
  entered : Nat
  /-- skip the test steps (R213) -/
  short : Bool
  /-- consecutive good reports (step 5), consecutive strokes in band (R215), or strokes begun with the joining count at
      64 (R216) -/
  run : Nat
  /-- order in which it passed probing -/
  passNo : Nat
  /-- a fence has been decided: its cause (R139, R218) -/
  fence : Option Nat
  /-- a way back has been requested, by CELL_RESEAT or automatically -/
  reseat : Bool
  /-- stroke of the first BYPASS frame since the fence; the check has failed (R220) -/
  byp : Option Nat
  bypFail : Bool
  /-- the highest class of its latched fault (R222) -/
  latched : Option Nat
  /-- the fault code of the last report, if it had FAULT = 1; that report was a blocked fault -/
  code : Option Nat
  blk : Bool
  deriving DecidableEq, Repr, Inhabited

/-- One temperature stream of the ledger (R228), in 1/16 °C. -/
structure Stream where
  /-- a sample has been taken; the running extreme; its direction -/
  begun : Bool
  ext : Int
  dir : Int
  /-- the residue, newest first -/
  tp : List Int
  /-- the 128 bins -/
  bins : SMap Nat
  deriving DecidableEq, Repr, Inhabited

/-- Cell service and the patina ledger (R209 to R231). -/
structure CellsSt where
  cells : SMap Cell
  /-- how many cells have passed probing -/
  passes : Nat
  /-- the spare sets have been formed since the start (R223) -/
  sparesFormed : Bool
  /-- uptime in ps of the first entry into RUN since the start (R225), and by arm how long after it, in ps, the last
      interval ended that has been examined -/
  rotFrom : Option Nat
  rotN : SMap Nat
  /-- streams by record × 4 + group (R227), and as last committed to flash (R230) -/
  streams : SMap Stream
  flash : SMap Stream
  /-- the registers of the ledger's records as last committed: serials, wear indices and cycle counts (R18, R230) -/
  flashRegs : Bank
  /-- uptime in ps of the last commit; a commit is in progress -/
  committedAt : Nat
  committing : Bool
  deriving DecidableEq, Repr

/-! ### The stroke path -/

/-- One armature context beyond its registers (R95 to R116). -/
structure Ctx where
  /-- it was active in the last timed stroke; initialise it in the next stroke it is active (R105) -/
  was : Bool
  init : Bool
  /-- the transfer offset d left for the next stroke (R102) -/
  d : Int
  /-- region decided for the next stroke (R109) -/
  nextRegion : Nat
  /-- consecutive stale timed strokes; CTX_SOURCE_LOST raised for this run (R116) -/
  stale : Nat
  lost : Bool
  /-- fenced, and to be fenced from the next boundary (R107) -/
  fenced : Bool
  fenceNext : Bool
  deriving DecidableEq, Repr, Inhabited

/-- The chisel for one cell (R162 to R168). -/
structure ChCell where
  /-- it was sent RUN in the last stroke -/
  ran : Bool
  /-- instant of the last edge sent to each leg since the cell last entered RUN, in 1/64 ns, and the
      state after it; before the first edge, the START state last sent -/
  lastA : Option Int
  lastB : Option Int
  stateA : Bool
  stateB : Bool
  /-- the frames' window starts in 1/64 ns, with the PHI and EN they carried, newest first (R167) -/
  hist : List (Int × Int × Bool)
  /-- position among the inserted cells and carrier phase of the last carrier boundary (R136, R138) -/
  pos : Nat
  phase : Nat
  /-- level-sorted: inserted fully, or the switched cell (R137) -/
  full : Bool
  duty : Bool
  deriving DecidableEq, Repr, Inhabited

/-- One arm of the converter (R134 to R141). -/
structure ArmK where
  /-- the inserted cells in ascending order of voltage, from the sort of the stroke (R134) -/
  rank : List Nat
  /-- over them: how many, the sums of V and of V × V (R134, R469) -/
  vCnt : Nat
  vSum : Int
  vSq : Int
  /-- the current direction has turned to −1 (R135) -/
  neg : Bool
  /-- the level-sorted selection held: the sign is negative, and n (R137, R138) -/
  sgnNeg : Bool
  nFull : Nat
  /-- m_k of the present stroke (R132) -/
  m : Int
  /-- below NMIN at the previous boundary judged (R141) -/
  short : Bool
  deriving DecidableEq, Repr, Inhabited

/-- The converter controller beyond its registers (R120 to R141). -/
structure ConvSt where
  /-- a STOP, BLOCK or HALT occurrence, a safety demand: waiting for the boundary -/
  wantStop : Bool
  wantSafeStop : Bool
  wantBlock : Bool
  wantBlockSafe : Bool
  wantHalt : Bool
  /-- commands judged good, waiting for the boundary (R80) -/
  wantStart : Bool
  wantOrdStop : Bool
  wantClear : Bool
  /-- the stop in progress is a safe stop -/
  safe : Bool
  /-- the strokes of STOPPING that have run with k_stop at 0, in a row (R121) -/
  kZero : Nat
  /-- consecutive timed strokes in which the PRECHARGE and the SYNC condition held (R121) -/
  prechg : Nat
  sync : Nat
  /-- TIME_NS at entry into the state; its timeout has been raised (R126) -/
  entered : Nat
  timeoutRaised : Bool
  /-- k_stop and A_lim of the stroke in progress, which their registers show from the next boundary
      (R124, R130, R151) -/
  kstop : Nat
  alim : Int
  /-- the grid tracker is locked, and its frequency in 0.01 Hz (R128) -/
  locked : Bool
  freq : Nat
  /-- consecutive timed strokes that passed, and that failed, the tests of the lock (R128) -/
  trkGood : Nat
  trkBad : Nat
  /-- the grid angle in 2^-32 turn, and the converter signals latched at the last gather (R127) -/
  theta : Int
  sigs : List Int
  /-- active and reactive current amplitudes of the arms, held in untimed strokes (R129) -/
  aq : List (Int × Int)
  /-- consecutive timed strokes with and without an arm short of headroom (R141) -/
  hrShort : Nat
  hrOk : Nat
  /-- TIMING_LOST has been raised for the present run of untimed strokes (R125) -/
  timingLost : Bool
  arms : SMap ArmK
  deriving DecidableEq, Repr

/-! ### Measurement, time inputs, PTP -/

/-- One local input between boundaries (R303, R306). -/
structure AinSt where
  /-- the captured code, when its result completed in ns of TIME_NS, and the sequencer it came from -/
  code : Int
  at_ : Option Int
  by_ : Nat
  /-- completion of the last kept result -/
  kept : Option Int
  /-- the open flag, and kept results in a row that speak against it -/
  open_ : Bool
  openRun : Nat
  deriving DecidableEq, Repr, Inhabited

/-- One sequencer (R297 to R302). -/
structure SeqSt where
  running : Bool
  /-- table position, and the entry in force there: input, repeats, discarded slots, mean -/
  pos : Nat
  ain : Nat
  n : Nat
  d : Nat
  avg : Bool
  /-- slots of the entry done, and the sum of its kept results -/
  done : Nat
  sum : Int
  /-- inputs still to come in a scan sweep -/
  todo : List Nat
  /-- begin anew once the conversion in progress completes -/
  restart : Bool
  /-- completion of its last conversion, in ns -/
  last : Int
  deriving DecidableEq, Repr, Inhabited

/-- One converter (R294 to R296): the offsets and gain corrections in use, by range, and the uptime in ps at
    which its calibration began; `short`: that calibration is the one of start-up. -/
structure ConvAdc where
  cal : List CalRange
  calAt : Nat
  short : Bool
  /-- its short calibration has ended: passed or not -/
  shortDone : Option Bool
  deriving DecidableEq, Repr, Inhabited

/-- Local measurement (R292 to R307). -/
structure AdcSt where
  ains : SMap AinSt
  seqs : SMap SeqSt
  convs : SMap ConvAdc
  /-- the converters are powered and the slots run; in scan mode (R300) -/
  on : Bool
  scanning : Bool
  /-- next sequencer to hand over; uptime in ps from which the interval counts -/
  rotNext : Nat
  rotAt : Nat
  /-- stroke in which ADC_OVERRUN was last raised -/
  ovrIn : Option Nat
  /-- what P4 keeps for its exit: STATE, SEQ and FULL of each converter, NOCONV and NOROT (R296) -/
  held : Option (List (Nat × Nat × Nat) × Nat × Nat)
  deriving DecidableEq, Repr

/-- One PTP domain (R320). -/
structure DomSt where
  /-- a two-step Sync that awaits its Follow_Up: its sequence and receive time; uptime in ps of the last Sync, and its
      interval -/
  syncSeq : Option (BitVec 16)
  syncRx : Int
  syncAt : Option Nat
  interval : Int
  delay16 : Int
  lost : Bool
  inLimitWas : Bool
  /-- best master: its dataset and identity; uptime in ps of its last Announce, and its interval -/
  best : Option (Nat × BitVec 64)
  announceAt : Nat
  announceIv : Int
  prevMaster : Option (Int × Int)
  deriving DecidableEq, Repr, Inhabited

/-- PTP and the timestamp queues (R317 to R328). -/
structure PtpSt where
  doms : SMap DomSt
  /-- Pdelay exchange per port: sequence sent, t1, and t2, t4 received -/
  pdSeq : SMap Nat
  pdT1 : SMap Int
  pdT2 : SMap Int
  pdT4 : SMap Int
  /-- stamps of TS_INk, oldest first: time and edge -/
  stamps : SMap (List (BitVec 96 × Bool))
  deriving DecidableEq, Repr

/-! ### Streams and DMA -/

/-- One open stream (R75 to R79). -/
structure StreamSt where
  desc : StreamDesc
  seq : Nat
  sent : Nat
  /-- the next packet carries GAP -/
  gap : Bool
  /-- a copy of the packet in progress has left -/
  placed : Bool
  /-- the number of the first stroke it sends -/
  first : Nat
  /-- a packet is in progress; its bytes once built, and the ports still to take a copy -/
  busy : Bool
  packet : Option (List Byte)
  toA : Bool
  toB : Bool
  /-- a STREAM_CLOSE waits for the packet in progress -/
  closing : Bool
  deriving DecidableEq, Repr, Inhabited

/-- What a host channel's registers set (R427). -/
structure ChanSet where
  src : Nat
  len : Nat
  swap : Nat
  prio : Nat
  trig : Bool
  dec : Nat
  base : Nat
  size : Nat
  deriving DecidableEq, Repr, Inhabited

/-- One bulk channel: a host channel (R427 to R430), or of a firmware channel the bursts of its operation (R425). -/
structure ChanSt where
  /-- the active set, and whether it is loaded -/
  act : ChanSet
  loaded : Bool
  /-- freezes until the next trigger; a stop was written; the next record carries MISSED -/
  wait : Nat
  stopping : Bool
  missed : Bool
  /-- records since the load -/
  records : Nat
  /-- the words the transfer in progress copies, and their stroke -/
  data : List Nat
  stroke : Nat
  /-- bursts the transfer in progress has still to move; uptime in ps since which it has been ready without a grant
      (R425) -/
  left : Nat
  grantAt : Nat
  deriving DecidableEq, Repr, Inhabited

/-- The DMA engine (R422 to R434). -/
structure DmaSt where
  streams : SMap StreamSt
  chans : SMap ChanSt
  /-- the station links are up, and the uptime in ps at which each port's stream buffer has drained -/
  linkA : Bool
  linkB : Bool
  emptyA : Nat
  emptyB : Nat
  /-- firmware channels that have retried an operation after a bus error (R433) -/
  retried : List Nat
  /-- the host channel last granted the bus at each priority level; 31 where none has been (R425) -/
  granted : SMap Nat
  /-- uptime in ps at the start of the scrub pass, of the eye sweep and of the present lane's scan -/
  scrubAt : Nat
  sweepAt : Nat
  eyeAt : Nat
  /-- uptime in ps of the last wear-levelling move (R434) -/
  wearAt : Option Nat
  deriving DecidableEq, Repr

/-! ### Safety, power, start-up -/

/-- The safety monitor (R361 to R379). -/
structure SafeSt where
  /-- a ramp runs: uptime in ps of its decision; P0 once evaluated, in 10^-15 kW -/
  ramp : Option Nat
  p0 : Option Int
  /-- gate removal has been decided and not yet carried out: 0 in full (R366), 1 under R368, 2 the
      switches of a module without the token, at the start of a ramp (R379) -/
  removal : Option Nat
  /-- uptimes in ps of the decisions by which the switches and the outputs are to be off (R366) -/
  switchesAt : Option Nat
  outputsAt : Option Nat
  /-- contacts: uptime in ps since which each pair has differed -/
  diffA : Option Nat
  diffB : Option Nat
  /-- both contacts of the discrepant pair have read open together (R370) -/
  openedA : Bool
  openedB : Bool
  /-- the difference of a pair began with a contact that opened, not with one that closed (R370) -/
  partedA : Bool
  partedB : Bool
  discA : Bool
  discB : Bool
  /-- safety frames: good copies awaiting their partners, oldest first, with port and uptime of arrival -/
  copies : List (List Byte × Stn × Nat)
  /-- the frame watch has expired since the last accepted pair -/
  watchRaised : Bool
  /-- a pair has been accepted since power-on or system reset; when; its word -/
  accepted : Bool
  acceptedAt : Nat
  word : Nat
  seqOut : Nat
  /-- a restore is in progress since this uptime (R374) -/
  restoring : Option Nat
  /-- AUTO_START conditions have held since this uptime (R375) -/
  autoSince : Option Nat
  autoDone : Bool
  /-- test pulses in progress -/
  tp1 : Bool
  tp2 : Bool
  /-- uptime in ps of the last edge of SAFE_RESET (R371) -/
  resetAt : Option Nat
  deriving DecidableEq, Repr

/-- Power states and supplies (R388 to R393, R449). -/
structure PowerSt where
  /-- the state a move in progress ends in, and the uptime in ps of the request that began it -/
  target : Option Nat
  moveAt : Nat
  /-- transceivers accepted in the cages: 0 PAIR, 1 STN-A, 2 STN-B -/
  cages : SMap XcvrType
  /-- an exit from P4 is under way (R395) -/
  waking : Bool
  /-- uptime in ps at which the level 1 condition last appeared -/
  sagAt : Nat
  deriving DecidableEq, Repr

/-- An image in flash, staged or stored (R86, R412 to R414): its bytes, and what they say. -/
structure Img where
  bytes : List Byte
  size : Nat
  version : Nat
  /-- owner key slot; 255 for none -/
  key : Nat
  /-- digests of the carried owner key and of the image -/
  keyDigest : BitVec 512
  digest : BitVec 512
  /-- header, size and payload digest are good; the records of its payload are well formed -/
  formOk : Bool
  contentOk : Bool
  /-- the two signatures verify -/
  ownerOk : Bool
  nymOk : Bool
  /-- the words its records name: address and value -/
  words : List (Nat × Nat)
  /-- it has passed IMAGE_VERIFY since it was last written -/
  verified : Bool
  deriving DecidableEq, Repr, Inhabited

/-- A system reset that has been decided and not yet carried out (R397, R398): its bit of RST_CAUSE. -/
structure Due where
  cause : Nat
  deriving DecidableEq, Repr

/-- Reset, start-up and flash (R396 to R421). -/
structure BootSt where
  /-- a core reset is in progress -/
  coreReset : Bool
  /-- plinth mode, and the reason it was entered for (R410) -/
  plinth : Bool
  why : Nat
  /-- a core reset that RESET has requested begins (R89) -/
  coreDue : Bool
  /-- a system reset is to be carried out -/
  due : Option Due
  /-- uptimes in ps of the last core resets, and of the last one that the watchdog caused (R397) -/
  coreResets : List Nat
  wdAt : Option Nat
  /-- uptimes in ps at the last release, and at the releases of D2 and D7 -/
  releasedAt : Nat
  d2At : Nat
  d7At : Nat
  /-- the time in ps the start has spent waiting for a partner (R399) -/
  waited : Nat
  /-- a configuration is in force -/
  configured : Bool
  /-- the start-up configuration waits for the first stroke tick (R407); its START_COMPLETE code, 1 for
      the default -/
  starting : Bool
  cfgCode : Nat
  /-- the loader has loaded an option area in this start, and since power-on (R265, R406); the scan masks it held (R300) -/
  loaded : Bool
  masks : Nat × Nat
  optLoaded : Bool
  /-- firmware images by slot, option images by copy, configuration images by half -/
  fw : SMap Img
  opt : SMap Img
  cfg : SMap Img
  /-- staged images by type -/
  staged : SMap Img
  /-- flash: by block how often it has been erased, and where the blocks of the ring and the ledger stand (R437) -/
  erases : SMap Nat
  placed : SMap Nat
  /-- owner slots that signed the firmware, option and configuration images in use; 255 for none -/
  fwKey : Nat
  optKey : Nat
  cfgKey : Nat
  deriving DecidableEq, Repr

/-- The pair link (R144 to R150). -/
structure PairSt where
  /-- the frame received in the stroke in progress, valid for the next boundary (R147) -/
  frame : Option (List Byte)
  /-- consecutive strokes without a valid frame; PAIR_LOST has been raised for them (R126) -/
  missRun : Nat
  lostRaised : Bool
  /-- the first tick is held back, since this uptime in ps (R145) -/
  waiting : Bool
  waitFrom : Nat
  /-- the token is to be released; the last frame sent carried RELEASE (R150) -/
  release : Bool
  releaseSent : Bool
  /-- numbers or boundaries disagree; digests disagree (R126) -/
  unaligned : Bool
  mismatch : Bool
  /-- the converter state mirrored from the holder (R146) -/
  mirrorState : Nat
  /-- consecutive strokes in which most cells reported the holder's frame missing (R148) -/
  tokMiss : Nat
  /-- the generation this module asserts, and the highest it has learned of, which SYS_PAIR_GEN shows from the next
      boundary (R144, R151) -/
  gen : Nat
  heard : Nat
  /-- what the fields that a takeover within a stroke, or before the first tick, changes still show until the next boundary
      (R151), by key -/
  before : List (Nat × Nat)
  deriving DecidableEq, Repr

/-- Which clocks fail (R329 to R335): monitors that do not pass, by number (0 REF, 1 CORE, 2 MGMT, 3 PAIR,
    4 STN, 5 + e LANE e), and PLLs in holdover by the same numbers. -/
structure ClkSt where
  failed : List Nat
  /-- monitors that have reported, a pass or a failure, since power-on -/
  reported : List Nat
  holdover : List Nat
  /-- the entry of CLK_BANDk under which each PLL last locked; none: the factory band.  PLLs that lock next under the
      factory band.  The table has been copied from the option area (R332) -/
  bands : SMap Nat
  retry : List Nat
  copied : Bool
  deriving DecidableEq, Repr

/-- The block without its command queue. -/
structure Block where
  /-- live register fields, the configuration in force among them -/
  regs : Bank
  /-- the frozen image bank (R37) -/
  frozen : Bank
  tb : TimeBase
  strk : StrokeSt
  cst : CastSt
  jv : JarvasSt
  evt : EvtSt
  lv : LvSt
  lanes : SMap Lane
  cells : CellsSt
  ctxs : SMap Ctx
  chs : SMap ChCell
  conv : ConvSt
  adc : AdcSt
  ptp : PtpSt
  dma : DmaSt
  safe : SafeSt
  pow : PowerSt
  boot : BootSt
  pair : PairSt
  clk : ClkSt
  /-- how many free values have been drawn: the model's own counter -/
  draws : Nat
  /-- what the block has sent, newest first -/
  out : List Output
  deriving DecidableEq, Repr

/-- The state: the block and the commands waiting for it, first in, first out. -/
structure State where
  pending : List Instr
  blk : Block
  deriving DecidableEq, Repr

/-! ### Reset -/

/-- The time base after power-on: it stands until D3 is released, at 0, with the reset increment of
    1.25 ns (R312, R313). -/
def TimeBase.reset : TimeBase :=
  { now := 0, run := false, inc := 5368709120, delta := 0, step := none, up := 0 }

/-- No stroke has begun (R26). -/
def StrokeSt.reset : StrokeSt :=
  { ticking := false, num := 0, b := 0, next := 0, phase := .frozen, untimed := false
    carrier := false, castHere := false, timingBad := false, watchFrom := 0, watchP := 0 }

/-- The maquette holds every field's default, nothing dirty, nothing armed (R42, R45). -/
def CastSt.reset : CastSt :=
  { maq := [], dirty := [], armed := none, resync := none, lastB := 0, resyncWords := [] }

/-- No commands, no replies kept (R67). -/
def JarvasSt.reset : JarvasSt := { queue := [], cache := [] }

/-- No records, no latch, no fence (R339). -/
def EvtSt.reset : EvtSt :=
  { held := [], staged := [], ring := [], logged := [], mark := 0, loss := false, latchCls := []
    blockDue := false, injDrops := [], recov := [] }

/-- Every leg held, every port IDLE (R240, R275). -/
def LvSt.reset : LvSt :=
  { legs := [], ports := [], diags := [], lastShort := none, shorted := [], brakeAt := 0, brakeLong := false
    standbyDiagAt := none, former := [], tripPins := [], tripDone := [], fbPin := false, fbResume := false }

/-- No cell service has begun (R209). -/
def CellsSt.reset : CellsSt :=
  { cells := [], passes := 0, sparesFormed := false, rotFrom := none, rotN := []
    streams := [], flash := [], flashRegs := [], committedAt := 0, committing := false }

/-- The converter is OFF (R121). -/
def ConvSt.reset : ConvSt :=
  { wantStop := false, wantSafeStop := false, wantBlock := false, wantBlockSafe := false
    wantHalt := false, wantStart := false, wantOrdStop := false, wantClear := false, safe := false
    kZero := 0, prechg := 0, sync := 0, entered := 0, timeoutRaised := false, kstop := 16777216
    alim := 0, locked := false, freq := 0, trkGood := 0, trkBad := 0, theta := 0, sigs := []
    aq := [], hrShort := 0, hrOk := 0, timingLost := false, arms := [] }

/-- No conversion has completed (R292). -/
def AdcSt.reset : AdcSt :=
  { ains := [], seqs := [], convs := [], on := false, scanning := true, rotNext := 0, rotAt := 0
    ovrIn := none, held := none }

/-- No master, no stamps (R317, R328). -/
def PtpSt.reset : PtpSt :=
  { doms := [], pdSeq := [], pdT1 := [], pdT2 := [], pdT4 := [], stamps := [] }

/-- No stream, no channel (R422). -/
def DmaSt.reset : DmaSt :=
  { streams := [], chans := [], linkA := false, linkB := false, emptyA := 0, emptyB := 0, retried := [], granted := []
    scrubAt := 0, sweepAt := 0, eyeAt := 0, wearAt := none }

/-- No ramp, no accepted frame (R361); the latch itself is the register SAFE_STAT. -/
def SafeSt.reset : SafeSt :=
  { ramp := none, p0 := none, removal := none, switchesAt := none, outputsAt := none, diffA := none, diffB := none
    openedA := false, openedB := false, partedA := false, partedB := false, discA := false, discB := false
    copies := [], watchRaised := false, accepted := false, acceptedAt := 0, word := 0, seqOut := 0, restoring := none
    autoSince := none, autoDone := false, tp1 := false, tp2 := false, resetAt := none }

/-- State P0, nothing in the cages (R388, R449). -/
def PowerSt.reset : PowerSt := { target := none, moveAt := 0, cages := [], waking := false, sagAt := 0 }

/-- The words of the factory's option image: those that every option image sets (R380, R414). -/
def factoryOptions : List (Nat × Nat) := [(0x71010C, (Config.factoryScale 0).val + 1), (0x710110, (Config.factoryScale 1).val + 1)]

/-- The firmware and option images the module is taken to leave its works with (log entry 4): signed by
    Nymgen. -/
def Img.factory (digest : BitVec 512) (words : List (Nat × Nat)) : Img :=
  { bytes := [], size := 480, version := 0, key := 255, keyDigest := 0, digest := digest, formOk := true
    contentOk := true, ownerOk := false, nymOk := true, words := words, verified := true }

/-- Right after power-on: no domain released, no configuration in force (R396, R404). -/
def BootSt.reset : BootSt :=
  { coreReset := false, plinth := false, why := 0, coreDue := false, due := none, coreResets := [], wdAt := none, releasedAt := 0
    d2At := 0, d7At := 0, waited := 0, configured := false, starting := false, cfgCode := 0, loaded := false, masks := (0xFFFFFFFF, 0xFFFFFFFF)
    optLoaded := false, fw := [(0, Img.factory (Config.factoryDigest 0) [])]
    opt := [(0, Img.factory (Config.factoryDigest 1) factoryOptions)], cfg := [], staged := [], erases := [], placed := []
    fwKey := 255, optKey := 255, cfgKey := 255 }

/-- No partner heard (R144). -/
def PairSt.reset : PairSt :=
  { frame := none, missRun := 0, lostRaised := false, waiting := false, waitFrom := 0, release := false
    releaseSent := false, unaligned := false, mismatch := false, mirrorState := 0, tokMiss := 0, gen := 0, heard := 0
    before := [] }

/-- No monitor has passed yet (R333). -/
def ClkSt.reset : ClkSt := { failed := [0, 1, 2, 3, 4], reported := [], holdover := [], bands := [], retry := [], copied := false }

/-- The fields that differ from their reset values from the start: slot 0 holds the factory firmware,
    480 bytes, verified (log entry 4); and the next reply is the first after a reset (R59). -/
def Bank.reset : Bank := [(4297, 1), (67108864, 1), (67108865, 1), (67108928, 480)]

/-- The block right after power-on: every register field at the value the register map gives
    (`Field.reset`), the engines idle. -/
def Block.reset : Block :=
  { regs := Bank.reset, frozen := Bank.reset, tb := TimeBase.reset, strk := StrokeSt.reset, cst := CastSt.reset
    jv := JarvasSt.reset, evt := EvtSt.reset, lv := LvSt.reset, lanes := [], cells := CellsSt.reset
    ctxs := [], chs := [], conv := ConvSt.reset, adc := AdcSt.reset, ptp := PtpSt.reset
    dma := DmaSt.reset, safe := SafeSt.reset, pow := PowerSt.reset, boot := BootSt.reset
    pair := PairSt.reset, clk := ClkSt.reset, draws := 0, out := [] }

/-- The machine right after power-on reset, with no command waiting (R396). -/
def State.reset : State := { pending := [], blk := Block.reset }

end Sys2Proof.Machine
end

