-- ==== Sys2Proof/Machine/Ops.lean ====
section
/-! DEFINITION. The named operations over the state: sparse collections, register fields, outputs, free
    values and the passing of time. -/

namespace Sys2Proof.Machine

/-! ### Sparse collections -/

/-- The value at key `i`; `d` where `i` is not listed. -/
def SMap.look {α : Type} (d : α) (m : SMap α) (i : Nat) : α :=
  match m with
  | [] => d
  | (k, v) :: r => if k = i then v else SMap.look d r i

/-- Insert a pair before the first greater key. -/
def SMap.insert {α : Type} (i : Nat) (v : α) : SMap α → SMap α
  | [] => [(i, v)]
  | (k, w) :: r => if i < k then (i, v) :: (k, w) :: r else (k, w) :: SMap.insert i v r

/-- Drop every entry of key `i`. -/
def SMap.erase {α : Type} (i : Nat) : SMap α → SMap α
  | [] => []
  | (k, w) :: r => if k = i then SMap.erase i r else (k, w) :: SMap.erase i r

/-- Set key `i` to `v`: a value equal to what an unlisted key reads as is not listed. -/
def SMap.store {α : Type} [DecidableEq α] (d : α) (i : Nat) (v : α) (m : SMap α) : SMap α :=
  if v = d then SMap.erase i m else SMap.insert i v (SMap.erase i m)

/-- The keys rise strictly. -/
def SMap.sorted {α : Type} : SMap α → Bool
  | [] => true
  | [_] => true
  | (k, _) :: (j, w) :: r => decide (k < j) && SMap.sorted ((j, w) :: r)

/-! ### Numbers -/

/-- Saturate at a width's largest value. -/
def satNat (w n : Nat) : Nat := if n < 2 ^ w then n else 2 ^ w - 1

/-- The signed number that the low `w` bits of `n` hold. -/
def toS (w n : Nat) : Int :=
  let m := n % 2 ^ w
  if m < 2 ^ (w - 1) then (m : Int) else (m : Int) - (2 ^ w : Nat)

/-- The low `w` bits of a signed number. -/
def ofS (w : Nat) (x : Int) : Nat := (x % ((2 ^ w : Nat) : Int)).toNat

/-- `x` kept between `lo` and `hi`. -/
def clampI (x lo hi : Int) : Int := if x < lo then lo else if hi < x then hi else x

/-- `a ÷ b` rounded half away from zero; 0 where `b` is not positive (R469). -/
def rdiv (a : Int) (b : Int) : Int :=
  if b ≤ 0 then 0
  else if 0 ≤ a then (2 * a + b) / (2 * b) else -((2 * (-a) + b) / (2 * b))

/-- Saturate to 32 bits signed. -/
def sat32 (x : Int) : Int := clampI x (-2147483648) 2147483647

/-- `ceil (a ÷ b)` on naturals. -/
def cdiv (a b : Nat) : Nat := (a + b - 1) / b

/-! ### Register fields -/

/-- The value of a field in a bank: its reset value where the bank does not list it. -/
def Bank.fld (m : Bank) (f : Field) : Nat := SMap.look f.reset m f.key

/-- Set a field of a bank, keeping the bits the field has. -/
def Bank.setFld (f : Field) (v : Nat) (m : Bank) : Bank := SMap.store f.reset f.key (v % 2 ^ f.width) m

/-- The live value of a field. -/
def Block.rd (b : Block) (f : Field) : Nat := Bank.fld b.regs f

/-- Set a field's live value. -/
def Block.wr (f : Field) (v : Nat) (b : Block) : Block := { b with regs := Bank.setFld f v b.regs }

/-- Is a one-bit field 1? -/
def Block.on (b : Block) (f : Field) : Bool := b.rd f != 0

/-- Set a one-bit field. -/
def Block.flag (f : Field) (p : Bool) (b : Block) : Block := b.wr f (if p then 1 else 0)

/-- A field read as a signed number. -/
def Block.rdS (b : Block) (f : Field) : Int := toS f.width (b.rd f)

/-- Set a field to a signed number. -/
def Block.wrS (f : Field) (x : Int) (b : Block) : Block := b.wr f (ofS f.width x)

/-- Count up, saturating. -/
def Block.count (f : Field) (n : Nat) (b : Block) : Block := b.wr f (satNat f.width (b.rd f + n))

/-- Count up by one, wrapping. -/
def Block.bump (f : Field) (b : Block) : Block := b.wr f (b.rd f + 1)

/-- One bit of a field. -/
def Block.bit (b : Block) (f : Field) (i : Nat) : Bool := (b.rd f).testBit i

/-- Set one bit of a field. -/
def Block.setBit (f : Field) (i : Nat) (p : Bool) (b : Block) : Block :=
  b.wr f (if (b.rd f).testBit i = p then b.rd f
          else if p then b.rd f + 2 ^ i else b.rd f - 2 ^ i)

/-- A 64-bit value held in two registers. -/
def Block.rd64 (b : Block) (lo hi : Field) : Nat := b.rd lo + 2 ^ 32 * b.rd hi

/-- Set a 64-bit value held in two registers. -/
def Block.wr64 (lo hi : Field) (v : Nat) (b : Block) : Block := (b.wr lo v).wr hi (v / 2 ^ 32)

/-- The pending value of a CR field. -/
def Block.maq (b : Block) (f : Field) : Nat := Bank.fld b.cst.maq f

/-! ### Lists of units -/

/-- Apply a unit's operation to each of the units 0 to n − 1 in ascending order. -/
def Block.each (n : Nat) (f : Nat → Block → Block) (b : Block) : Block :=
  (List.range n).foldl (fun b i => f i b) b

/-- Apply an operation to each member of a list in order. -/
def Block.eachOf {α : Type} (l : List α) (f : α → Block → Block) (b : Block) : Block :=
  l.foldl (fun b i => f i b) b

/-! ### Outputs and free values -/

/-- Send something. -/
def Block.emit (o : Output) (b : Block) : Block := { b with out := o :: b.out }

/-- Send on a lane: the lane transmitters are dark until the start-up configuration is in force (R199), and stay dark
    once a domain was released before its monitor passed (R334). -/
def Block.emitLane (o : Output) (b : Block) : Block :=
  if b.boot.configured && b.rd Reg.CLK_EARLY_DOMAINS == 0 then b.emit o else b

/-- The next free value: a value the manual leaves open (log entry 3). -/
def Block.free (b : Block) : Nat := (Config.freeValue b.draws).toNat

/-- Go on to the next free value. -/
def Block.drawn (b : Block) : Block := { b with draws := b.draws + 1 }

/-! ### Station ports -/

/-- The number of a station port. -/
def stnNum : Stn → Nat
  | .a => 0
  | .b => 1

/-- The link of station port `p` is up; it never is while the port's cage holds no accepted transceiver (R449). -/
def DmaSt.link (d : DmaSt) (p : Nat) : Bool := if p = 0 then d.linkA else d.linkB

/-! ### Time -/

/-- TIME_NS in whole nanoseconds. -/
def Block.ns (b : Block) : Nat := b.tb.now.toNat / 2 ^ 32

/-- TIME_NS in ticks of 78.125 ps, discarding the remainder (R316). -/
def Block.tick (b : Block) : Int := ((b.tb.now.toNat * 64 / 5) / 2 ^ 32 : Nat)

/-- The always-on uptime in whole seconds. -/
def Block.upS (b : Block) : Nat := b.tb.up / 1000000000000

/-- What `n` cycles of the stroke clock add to TIME_NS, in 2^-32 ns, with `cnt` ticks of adjustment
    left (R312, R314). -/
def TimeBase.gain (t : TimeBase) (cnt n : Nat) : Int :=
  (n : Int) * (t.inc : Int) + ((min n cnt : Nat) : Int) * t.delta

/-- Let `n` cycles of the 800 MHz stroke clock pass. -/
def Block.advance (n : Nat) (b : Block) : Block :=
  let cnt := b.rd Reg.TIME_ADJ_CNT_CNT
  let up := b.tb.up + 1250 * n
  if !b.tb.run then { b with tb := { b.tb with up := up } }
  else
    let now := b.tb.now + BitVec.ofInt 96 (b.tb.gain cnt n)
    let b := { b with tb := { b.tb with up := up, now := now } }
    if cnt = 0 then b
    else if cnt ≤ n then (b.wr Reg.TIME_ADJ_CNT_CNT 0).flag Reg.TIME_STAT_ADJ_BUSY false
    else b.wr Reg.TIME_ADJ_CNT_CNT (cnt - n)

/-- The cycles until TIME_NS reaches or passes `t` times 2^-32 ns. -/
def Block.cyclesTo (b : Block) (t : Nat) : Nat :=
  let need : Int := (t : Int) - (b.tb.now.toNat : Int)
  let cnt := b.rd Reg.TIME_ADJ_CNT_CNT
  let e := (b.tb.inc : Int) + b.tb.delta
  if need ≤ 0 then 0
  else if need ≤ (cnt : Int) * e then cdiv need.toNat e.toNat
  else cnt + cdiv (need - (cnt : Int) * e).toNat b.tb.inc

/-- Let time pass until TIME_NS reaches or passes `t` ns; nothing where it already has, or while the
    time base stands. -/
def Block.until (t : Nat) (b : Block) : Block :=
  if b.tb.run then b.advance (b.cyclesTo (t * 2 ^ 32)) else b

/-- Let time pass until the always-on uptime reaches `t` ps. -/
def Block.untilUp (t : Nat) (b : Block) : Block := b.advance (cdiv (t - b.tb.up) 1250)

/-- One millisecond of uptime, in ps. -/
def msPs : Nat := 1000000000

/-- One microsecond of uptime, in ps. -/
def usPs : Nat := 1000000

end Sys2Proof.Machine
end

