-- ==== Sys2Proof/Machine/Units.lean ====
section
/-! DEFINITION. The units of the block: where each one's record stands in the state, and the questions
    every chapter asks of the whole module (token, converter state, cores). -/

namespace Sys2Proof.Machine

/-! ### Records by unit -/

/-- Leg `l` (R237). -/
def Block.leg (b : Block) (l : Nat) : Leg := SMap.look default b.lv.legs l
/-- Change the record of leg `l`. -/
def Block.updLeg (l : Nat) (f : Leg → Leg) (b : Block) : Block :=
  { b with lv := { b.lv with legs := SMap.store default l (f (b.leg l)) b.lv.legs } }

/-- Port `p` (R273). -/
def Block.port (b : Block) (p : Nat) : PortSt := SMap.look default b.lv.ports p
/-- Change the record of port `p`. -/
def Block.updPort (p : Nat) (f : PortSt → PortSt) (b : Block) : Block :=
  { b with lv := { b.lv with ports := SMap.store default p (f (b.port p)) b.lv.ports } }

/-- Diagnostics group `g` (R261). -/
def Block.diag (b : Block) (g : Nat) : DiagSt := SMap.look default b.lv.diags g
/-- Change the record of diagnostics group `g`. -/
def Block.updDiag (g : Nat) (f : DiagSt → DiagSt) (b : Block) : Block :=
  { b with lv := { b.lv with diags := SMap.store default g (f (b.diag g)) b.lv.diags } }

/-- Lane `l` (R179). -/
def Block.lane (b : Block) (l : Nat) : Lane := SMap.look default b.lanes l
/-- Change the record of lane `l`. -/
def Block.updLane (l : Nat) (f : Lane → Lane) (b : Block) : Block :=
  { b with lanes := SMap.store default l (f (b.lane l)) b.lanes }

/-- Cell slot `s` (R209). -/
def Block.cell (b : Block) (s : Nat) : Cell := SMap.look default b.cells.cells s
/-- Change the record of slot `s`. -/
def Block.updCell (s : Nat) (f : Cell → Cell) (b : Block) : Block :=
  { b with cells := { b.cells with cells := SMap.store default s (f (b.cell s)) b.cells.cells } }

/-- Context `c` (R95). -/
def Block.ctx (b : Block) (c : Nat) : Ctx := SMap.look default b.ctxs c
/-- Change the record of context `c`. -/
def Block.updCtx (c : Nat) (f : Ctx → Ctx) (b : Block) : Block :=
  { b with ctxs := SMap.store default c (f (b.ctx c)) b.ctxs }

/-- The chisel's record of cell `s` (R162). -/
def Block.ch (b : Block) (s : Nat) : ChCell := SMap.look default b.chs s
/-- Change the chisel's record of cell `s`. -/
def Block.updCh (s : Nat) (f : ChCell → ChCell) (b : Block) : Block :=
  { b with chs := SMap.store default s (f (b.ch s)) b.chs }

/-- Arm `k` (R134). -/
def Block.arm (b : Block) (k : Nat) : ArmK := SMap.look default b.conv.arms k
/-- Change the record of arm `k`. -/
def Block.updArm (k : Nat) (f : ArmK → ArmK) (b : Block) : Block :=
  { b with conv := { b.conv with arms := SMap.store default k (f (b.arm k)) b.conv.arms } }

/-- The recovery record of a fenceable unit (R353); see `unitKey`. -/
def Block.recov (b : Block) (k : Nat) : Recov := SMap.look default b.evt.recov k
/-- Change the recovery record of a unit. -/
def Block.updRecov (k : Nat) (f : Recov → Recov) (b : Block) : Block :=
  { b with evt := { b.evt with recov := SMap.store default k (f (b.recov k)) b.evt.recov } }

/-- Change the converter controller's record. -/
def Block.updConv (f : ConvSt → ConvSt) (b : Block) : Block := { b with conv := f b.conv }
/-- Change the safety monitor's record. -/
def Block.updSafe (f : SafeSt → SafeSt) (b : Block) : Block := { b with safe := f b.safe }
/-- Change the pair link's record. -/
def Block.updPair (f : PairSt → PairSt) (b : Block) : Block := { b with pair := f b.pair }
/-- Change the stroke grid's record. -/
def Block.updStrk (f : StrokeSt → StrokeSt) (b : Block) : Block := { b with strk := f b.strk }
/-- Change the cast record. -/
def Block.updCst (f : CastSt → CastSt) (b : Block) : Block := { b with cst := f b.cst }
/-- Change the event unit's record. -/
def Block.updEvt (f : EvtSt → EvtSt) (b : Block) : Block := { b with evt := f b.evt }
/-- Change the start-up record. -/
def Block.updBoot (f : BootSt → BootSt) (b : Block) : Block := { b with boot := f b.boot }
/-- Change the DMA engine's record. -/
def Block.updDma (f : DmaSt → DmaSt) (b : Block) : Block := { b with dma := f b.dma }
/-- Change the power record. -/
def Block.updPow (f : PowerSt → PowerSt) (b : Block) : Block := { b with pow := f b.pow }
/-- Change the cell service record. -/
def Block.updCells (f : CellsSt → CellsSt) (b : Block) : Block := { b with cells := f b.cells }
/-- Change the local stage's record. -/
def Block.updLv (f : LvSt → LvSt) (b : Block) : Block := { b with lv := f b.lv }
/-- Change the measurement record. -/
def Block.updAdc (f : AdcSt → AdcSt) (b : Block) : Block := { b with adc := f b.adc }
/-- Change the PTP record. -/
def Block.updPtp (f : PtpSt → PtpSt) (b : Block) : Block := { b with ptp := f b.ptp }
/-- Change the time base. -/
def Block.updTb (f : TimeBase → TimeBase) (b : Block) : Block := { b with tb := f b.tb }
/-- Change the Jarvas engine's record. -/
def Block.updJv (f : JarvasSt → JarvasSt) (b : Block) : Block := { b with jv := f b.jv }

/-! ### The whole module -/

/-- The module holds the token, or is not one of a pair (R22, R144). -/
def Block.holds (b : Block) : Bool :=
  !b.on Reg.SYS_PAIR_CFG_EN || b.on Reg.SYS_PAIR_STAT_TOKEN

/-- The converter state the stroke path runs under: the module's own, or without the token the one
    mirrored from the holder (R120, R146). -/
def Block.runState (b : Block) : Nat :=
  if b.holds then b.rd Reg.SYS_CONV_STAT_STATE else b.pair.mirrorState

/-- The fields of R151 that the token's coming changes. -/
def tokenFields : List Field :=
  [Reg.SYS_CONV_STAT_STATE, Reg.SYS_CONV_STAT_SAFE_STOP, Reg.SYS_CONV_STAT_CAUSE, Reg.SYS_PAIR_STAT_TOKEN,
   Reg.SYS_PAIR_GEN_GEN, Reg.SYS_PAIR_TAKEOVERS_COUNT]

/-- What a field shows: what it was, where it has changed within the stroke and changes at a boundary alone (R151). -/
def Block.shown (b : Block) (f : Field) : Nat :=
  match b.pair.before.find? (·.1 == f.key) with
  | some e => e.2
  | none => b.rd f

/-- The fields of `tokenFields` show what they are now until the next boundary (R151). -/
def Block.holdShown (b : Block) : Block :=
  b.updPair fun p => { p with before := tokenFields.map fun f => (f.key, b.shown f) }

/-- Is domain `d` released (R404)? -/
def Block.released (b : Block) (d : Nat) : Bool := b.bit Reg.RST_STAGE_RELEASED d

/-- The management cores run: D6 is released and no core reset is in progress (R401). -/
def Block.cores (b : Block) : Bool := b.released 6 && !b.boot.coreReset

/-- The present instant is the boundary of the stroke in progress: the commands that stand for a
    transition at a boundary act then (log entry 35). -/
def Block.atBoundary (b : Block) : Bool :=
  b.strk.ticking && b.strk.phase == .begun && decide (b.ns < b.strk.b + 2)

/-- The arm of a slot (R11). -/
def armOf (s : Nat) : Nat := s / 64

/-- Is slot `s` populated by the configuration in force (R11)? -/
def Block.populated (b : Block) (s : Nat) : Bool := s % 64 < b.rd Reg.SYS_CONV_POP_NPOP

/-- The slots of arm `k`, ascending. -/
def armSlots (k : Nat) : List Nat := (List.range 64).map (· + 64 * k)

/-- The number of an image type (R86). -/
def imgNum : ImgType → Nat
  | .firmware => 0
  | .option => 1
  | .maquette => 2

/-! ### Shape of a meaning -/

/-- A command's effect on everything but the queue: the block changes, the queue stays. -/
def State.onBlk (f : Block → Block) (s : State) : Host.Outcome State Fault Refusal :=
  .next { s with blk := f s.blk }

/-! ### Instants on the edge grid

Instants are counted exactly in units of 1/64 ns of TIME_NS: a nanosecond is 64 units and a tick of
78.125 ps is 5 (R164). -/

/-- An instant as TIME_NS times 2^32. -/
def instRaw (t : Int) : Nat := (t * 2 ^ 26).toNat

/-- The first absolute tick at least `ns` after the present time. -/
def Block.tickIn (b : Block) (ns : Nat) : Int :=
  5 * (-((-(((b.tb.now.toNat + ns * 2 ^ 32) : Nat) : Int)) / (5 * 2 ^ 26)))

/-- Let time pass until an instant. -/
def Block.untilI (t : Int) (b : Block) : Block :=
  if b.tb.run then b.advance (b.cyclesTo (instRaw t)) else b

/-- EPOCH (R28) in ns. -/
def Block.epoch (b : Block) : Nat :=
  b.rd64 Reg.SYS_STROKE_EPOCH_LO_EPOCH Reg.SYS_STROKE_EPOCH_HI_EPOCH

/-- The first instant `EPOCH + (offs + k × period) ticks`, for whole k, at or after an instant. -/
def Block.gridAfter (b : Block) (offs period : Nat) (t : Int) : Int :=
  let e : Int := b.epoch * 64 + offs * 5
  let p : Int := period * 5
  if p ≤ 0 then t else e + (-((-(t - e)) / p)) * p

/-- A time in ns as ticks, rounded up: `ceil (ns × 12.8)` (R244). -/
def nsTicks (ns : Nat) : Nat := cdiv (ns * 64) 5

/-! ### The configuration of a leg (R239, R242, R272) -/

/-- Trip input `k` in the configuration in force. -/
def Block.tripCfg (b : Block) (k : Nat) : TripCfg :=
  { leg := b.rd (Reg.PWM_TRIPk_LEG k), action := b.rd (Reg.PWM_TRIPk_ACTION k), pol := b.on (Reg.PWM_TRIPk_POL k)
    blank := b.rd (Reg.PWM_TRIPk_BLANK k) }

/-- The fields of leg `l` in the configuration in force (R242, R272). -/
def Block.legCfg (b : Block) (l : Nat) : LegCfg :=
  { period := b.rd (Reg.PWM_LEG_PERIOD_PERIOD l), offs := b.rd (Reg.PWM_LEG_OFFS_OFFS l)
    upd := b.on (Reg.PWM_LEG_CFG_UPD l), count := b.on (Reg.PWM_LEG_CFG_MODE l)
    stretch := b.on (Reg.PWM_LEG_CFG_SHORT_POL l)
    dt := b.rd (Reg.PWM_LEG_TIMING_DT l), minp := b.rd (Reg.PWM_LEG_TIMING_MINP l)
    cmpOn := b.rd (Reg.PWM_LEG_CMP_ON_CMP l), cmpOff := b.rd (Reg.PWM_LEG_CMP_OFF_CMP l)
    tmax := b.rd (Reg.PWM_LEG_BS_TMAX l), intv := b.rd (Reg.PWM_LEG_BS_INT l), pulse := b.rd (Reg.PWM_LEG_BSW_PULSE l)
    auto := b.on (Reg.PWM_LEG_CFG_AUTO l), ocEn := b.on (Reg.GATE_LEG_OC_EN l)
    desatUp := b.on (Reg.GATE_CH_PROT_DESAT_EN (2 * l)), desatLo := b.on (Reg.GATE_CH_PROT_DESAT_EN (2 * l + 1))
    desatSs := b.on (Reg.GATE_CH_PROT_DESAT_EN (48 + l / 2)), trips := (List.range 16).map b.tripCfg }

/-- The fields that apply at an instant: those of the last cast from its boundary plus 1,000 ns on, and until then
    those of the configuration before it (R239, R242). -/
def Block.cfgAt (b : Block) (l : Nat) (t : Int) : LegCfg :=
  if t < (b.cst.lastB + 1000 : Nat) * 64 then b.lv.former.getD l (b.legCfg l) else b.legCfg l

/-- The fields of leg `l` in force: those of its last update point while it switches, and those that apply now while it is
    held (R242, log entry 139). -/
def Block.legInForce (b : Block) (l : Nat) : LegCfg :=
  if (b.leg l).switching then (b.leg l).toLegCfg else b.cfgAt l (b.tickIn 0)

/-- Trip input `k` as it applies: its fields change at an update point of the leg they name (R242, R272). -/
def Block.tripOf (b : Block) (k : Nat) : TripCfg :=
  (b.legInForce (b.rd (Reg.PWM_TRIPk_LEG k))).trips.getD k (b.tripCfg k)

end Sys2Proof.Machine
end

