-- ==== Sys2Proof/Machine/Log.lean ====
section
/-! DEFINITION. Occurrences and their records (R346 to R350), and the recovery bookkeeping of the
    fenceable units (R352 to R354). -/

namespace Sys2Proof.Machine

/-- An occurrence of an event source, as its raising rule names it (R340, R346). -/
structure Occ where
  source : Nat
  unitType : Nat := 0
  idx : Nat := 0
  /-- the cause or code the raising rule names -/
  code : Nat := 0
  /-- bytes 28 to 31 of the record -/
  extra : Nat := 0
  /-- all twelve data bytes, for the two sources that use them -/
  data : Option Nat := none
  injected : Bool := false
  deriving DecidableEq, Repr

/-- The source, unit type and index of an occurrence as one key (R350). -/
def Occ.key (o : Occ) : Nat := (o.source * 16 + o.unitType) * 65536 + o.idx

/-- The sources the management firmware raises (R340, By = F). -/
def firmwareSources : List Nat := [11, 12, 13, 32, 33, 37, 38, 45, 64, 65, 67, 99, 105, 230]

/-- An occurrence is detected at all: firmware sources need running cores (R345). -/
def Block.detects (b : Block) (o : Occ) : Bool := !firmwareSources.contains o.source || b.cores

/-- The class of an occurrence (R219, R342). -/
def Block.classOf (b : Block) (o : Occ) : Nat :=
  if o.source = 101 then
    if 1 ≤ o.code ∧ o.code ≤ 8 then b.rd (Reg.CELL_FAULT_CLASS0_CLASS (o.code - 1))
    else if o.code = 9 then b.rd Reg.CELL_FAULT_CLASS1_CLASS9
    else b.rd Reg.CELL_FAULT_CLASS1_CLASS10
  else b.rd (Reg.EVT_SRCk_CLASS o.source)

/-- The record of an occurrence, before it has its number (R346). -/
def Block.recordOf (b : Block) (o : Occ) (cls repeats : Nat) (recurs lockout : Bool) : Rec :=
  { num := 0, time := b.ns, source := o.source, cls := cls, injected := o.injected
    recurrence := recurs, lockout := lockout, loss := false, unitType := o.unitType
    repeats := repeats, idx := if o.unitType = 0 then 0 else o.idx, code := o.code
    data := o.data.getD (b.strk.num % 2 ^ 64 * 2 ^ 32 + o.extra % 2 ^ 32), at_ := b.tb.up }

/-- Is a record of this occurrence held off (R350)? -/
def Block.heldOff (b : Block) (o : Occ) (cls : Nat) : Bool :=
  let l := SMap.look default b.evt.logged o.key
  decide (cls < 2) && !evtFixed o.source && l.seen
    && decide (b.tb.up < l.at_ + b.rd Reg.EVT_GCFG_HOLDOFF_MS * msPs)

/-- Count an occurrence and log it, or suppress its record (R346, R350).  A new record waits to be
    numbered (R348). -/
def Block.record (o : Occ) (cls : Nat) (recurs lockout : Bool) (b : Block) : Block :=
  let l := SMap.look default b.evt.logged o.key
  let b := b.count (Reg.EVT_SRCk_COUNT o.source) 1
  if b.heldOff o cls then
    (b.updEvt fun e =>
      { e with logged := SMap.store default o.key { l with repeats := min (l.repeats + 1) 255 } e.logged }).count
        Reg.EVT_SUPP_CNT_COUNT 1
  else
    b.updEvt fun e =>
      { e with logged := SMap.store default o.key { seen := true, at_ := b.tb.up, repeats := 0 } e.logged
               held := e.held ++ [b.recordOf o cls l.repeats recurs lockout] }

/-- Log an occurrence whose class has no action and whose unit, if any, it does not fence. -/
def Block.note (o : Occ) (b : Block) : Block :=
  if b.detects o then b.record o 0 false false else b

/-! ### Recovery of fenceable units -/

/-- The key of a fenceable unit: a lane and the slot of the same number are one unit; none for the
    unit types that cannot be fenced (R347). -/
def unitKey (ut i : Nat) : Option Nat :=
  match ut with
  | 1 => some i
  | 2 => some i
  | 3 => some (256 + i)
  | 4 => some (512 + i)
  | 5 => some (1024 + i)
  | _ => none

/-- The unit's policy is AUTO (R352). -/
def Block.autoPolicy (b : Block) (k : Nat) : Bool :=
  if k < 256 then b.on (Reg.CELL_SLOT_CFG_AUTO k)
  else if k < 512 then (b.legInForce (k - 256)).auto
  else if k < 1024 then b.on (Reg.PORT_CFG_AUTO (k - 512))
  else b.on Reg.EVT_RECOV_CFG_CTX_AUTO

/-- The uptimes of re-admissions not older than 24 h (R353). -/
def recentHist (now : Nat) (h : List Nat) : List Nat := h.filter fun t => now ≤ t + 86400

/-- Would a fence now be a lockout (R353)? -/
def Block.locksOut (b : Block) (k : Nat) (allows : Bool) : Bool :=
  b.autoPolicy k && allows
    && decide (b.rd Reg.EVT_RECOV_CFG_MAX_RECOVER ≤ (recentHist b.upS (b.recov k).hist).length)

/-- When a quiet period that begins now ends: QUIET_S seconds of uptime from now, in ps (R352). -/
def Block.quietFrom (b : Block) : Nat := b.tb.up + b.rd Reg.EVT_RECOV_CFG_QUIET_S * 1000000000000

/-- `on_fence` of R353. -/
def Block.onFence (k : Nat) (allows : Bool) (b : Block) : Block :=
  let lock := b.locksOut k allows
  let manual := !(b.autoPolicy k && allows)
  let q := b.quietFrom
  let b := b.updRecov k fun r =>
    { hist := recentHist b.upS r.hist, fenced := true, lockout := lock, manual := manual
      quietEnd := if lock || manual then r.quietEnd else q, returning := false, auto := false, halt := r.halt }
  if k < 256 then b.flag (Reg.CELL_SLOT_STAT_LOCKOUT k) lock else b

/-- `on_recurrence` of R353; a re-admission under way is abandoned (R345). -/
def Block.onRecurrence (k : Nat) (b : Block) : Block :=
  let q := b.quietFrom
  let b := if k < 256 && (b.recov k).returning then b.updCell k fun c => { c with reseat := false } else b
  b.updRecov k fun r =>
    { r with quietEnd := if r.lockout || r.manual then r.quietEnd else q, returning := false, auto := false }

/-- `on_readmit_done` of R353: automatic re-admissions are kept, and logged as UNIT_READMIT (R352). -/
def Block.onReadmitDone (ut i k : Nat) (b : Block) : Block :=
  let auto := (b.recov k).auto
  let now := b.upS
  let b := b.updRecov k fun r =>
    { r with fenced := false, manual := false, lockout := false, returning := false, auto := false
             hist := if auto then r.hist ++ [now] else r.hist }
  let b := if k < 256 then b.flag (Reg.CELL_SLOT_STAT_LOCKOUT k) false else b
  if auto then b.note { source := 12, unitType := ut, idx := i } else b

/-- A fenced unit whose new cause does not allow automatic re-admission waits for the host, and a way back that was begun
    is given up (R221, R284, R353). -/
def Block.holdFenced (k : Nat) (b : Block) : Block :=
  b.updRecov k fun r => { r with manual := true, returning := false, auto := false }

/-- FAULT_CLEAR of a unit clears its entries and its lockout (R353). -/
def Block.onFaultClear (k : Nat) (b : Block) : Block :=
  let b := b.updRecov k fun r => { r with hist := [], lockout := false }
  if k < 256 then b.flag (Reg.CELL_SLOT_STAT_LOCKOUT k) false else b

end Sys2Proof.Machine
end

