-- ==== Sys2Proof/Machine/Stage.lean ====
section
/-! DEFINITION. What turns the local stage off: a leg held (R255, R259, R341), a port stopped at once
    (R279), a leg or port fenced or latched (R259, R275, R286), and the whole stage blocked (R257). -/

namespace Sys2Proof.Machine

/-- All four channels of the legs of port `p` read GATE_OFF (R257, R279). -/
def Block.gatesOff (b : Block) (p : Nat) : Bool :=
  [4 * p, 4 * p + 1, 4 * p + 2, 4 * p + 3].all fun ch => b.on (Reg.GATE_CH_STAT_GATE_OFF ch)

/-- The static switch of port `p` opens (R249). -/
def Block.openSwitch (p : Nat) (soft : Bool) (b : Block) : Block :=
  let was := b.bit Reg.GATE_SS_STAT_CLOSED p || (b.port p).closing
  let b := (b.setBit Reg.GATE_SS_STAT_CLOSED p false).updPort p fun x =>
    { x with opening := false, closing := false }
  let b := b.flag (Reg.GATE_CH_STAT_GATE_OFF (48 + p)) (b.on (Reg.GATE_CH_STAT_POWERED (48 + p)))
  if was then b.emit (.staticSwitch p false soft) else b

/-- A static switch that waits to open does so once its port's gates are confirmed off (R279). -/
def Block.tryOpen (p : Nat) (b : Block) : Block :=
  if (b.port p).opening && b.gatesOff p then b.openSwitch p true else b

/-- A switch whose dead time has passed is on (R243); a leg whose refresh pulse is over rests with both off (R250). -/
def Block.settleLeg (l : Nat) (b : Block) : Block :=
  let b := match (b.leg l).dead with
    | some (t, up) =>
      if t ≤ b.tickIn 0 then
        (b.flag (Reg.GATE_CH_STAT_GATE_OFF (if up then 2 * l else 2 * l + 1)) false).updLeg l fun x => { x with dead := none }
      else b
    | none => b
  match (b.leg l).restAt with
  | some t =>
    if t ≤ b.tickIn 0 then
      (((b.wr (Reg.PWM_LEG_STAT_STATE l) 0).flag (Reg.GATE_CH_STAT_GATE_OFF (2 * l + 1))
        (b.on (Reg.GATE_CH_STAT_POWERED (2 * l + 1)))).updLeg l fun x => { x with restAt := none }).emit (.rest l)
    else b
  | none => b

/-- The chopper's switch turns off, its minimum time notwithstanding: its leg is held, or the path is disarmed
    (R255, R264). -/
def Block.brakeStop (o : Output) (b : Block) : Block :=
  if b.on Reg.PWM_BRK_STAT_ON then
    ((((b.flag Reg.PWM_BRK_STAT_ON false).wr (Reg.PWM_LEG_STAT_STATE 20) 0).flag (Reg.GATE_CH_STAT_GATE_OFF 41)
      (b.on (Reg.GATE_CH_STAT_POWERED 41))).updLv fun v => { v with brakeAt := b.tb.up, brakeLong := false }).emit o
  else b

/-- Hold leg `l`: both switches off, its pattern and its edges dropped.  A switch that is on starts
    to turn off; on a port's legs its gate is confirmed off later (R257). -/
def Block.holdLeg (l : Nat) (soft : Bool) (b : Block) : Block :=
  let b := b.settleLeg l
  let chopper := l == 20 && b.on Reg.PWM_BRK_STAT_ON
  let st := b.rd (Reg.PWM_LEG_STAT_STATE l)
  let b := b.updLeg l fun x =>
    { x with switching := false, formed := none, edges := [], last := none, gen := none
             lockSince := none, dead := none, refreshEnd := none, restAt := none }
  let b := b.wr (Reg.PWM_LEG_STAT_STATE l) 0
  if chopper then b.brakeStop (.legOff 20 soft)
  else if st = 0 ∨ st = 3 then b
  else
    let b := b.emit (.legOff l soft)
    if l < 16 then b
    else (b.flag (Reg.GATE_CH_STAT_GATE_OFF (2 * l)) (b.on (Reg.GATE_CH_STAT_POWERED (2 * l)))).flag
      (Reg.GATE_CH_STAT_GATE_OFF (2 * l + 1)) (b.on (Reg.GATE_CH_STAT_POWERED (2 * l + 1)))

/-- Is leg `l` a phase of its port (SRC 3, R238)? -/
def Block.portLeg (b : Block) (l : Nat) : Bool := b.rd (Reg.PWM_LEG_CFG_SRC l) == 3

/-- Stop port `p` at once: its legs held, its on-times dropped, and GSp to open once the gates are
    confirmed off (R279), unless they were not in time, when it stays closed (R257). -/
def Block.stopPort (p : Nat) (soft : Bool) (b : Block) : Block :=
  let b := b.eachOf ([2 * p, 2 * p + 1].filter b.portLeg) fun l b => b.holdLeg l soft
  let closed := b.bit Reg.GATE_SS_STAT_CLOSED p || (b.port p).closing
  let b := b.updPort p fun x =>
    { x with onA := none, onB := none, restA := true, restB := true, waiting := false
             opening := closed && !b.bit Reg.GATE_STAT_STUCK p, heldAt := b.tb.up, atOnce := true }
  b.tryOpen p

/-- Put port `p` in a state, at the present uptime; the reference is 0 outside SOFT and REGULATE, and
    the retry count is 0 in WAIT and IDLE (R275, R276). -/
def Block.portState (p st : Nat) (b : Block) : Block :=
  let b := (b.wr (Reg.PORT_STAT_STATE p) st).updPort p fun x =>
    { x with entered := b.tb.up, r := if st = 4 then x.r else 0, closeFail := false }
  if st = 0 ∨ st = 1 then b.wr (Reg.PORT_STAT_RETRIES p) 0 else b

/-- A leg of the port is fenced or the stage is blocked: the port stops at once and goes to WAIT, unless it is IDLE
    or LATCHED; one that was fenced is so no longer (R275, R286, log entry 134). -/
def Block.portToWait (p : Nat) (soft : Bool) (b : Block) : Block :=
  let st := b.rd (Reg.PORT_STAT_STATE p)
  if st = 0 ∨ st = 8 then b
  else
    let b := b.stopPort p soft
    let b := if st = 7 then
        (b.wr (Reg.PORT_STAT_CAUSE p) 0).updRecov (512 + p) fun r =>
          { r with fenced := false, manual := false, lockout := false, returning := false, auto := false }
      else b
    if st = 1 then b else b.portState p 1

/-- The diagnostics group of leg `l` (R261); none for L20. -/
def groupOf (l : Nat) : Option Nat :=
  if l < 16 then some (l / 2) else if l < 20 then some 8 else if l = 20 then none else some (l - 12)

/-- The group has not passed since a fence of its leg or port (R286). -/
def Block.groupFenced (g : Nat) (b : Block) : Block := b.updDiag g fun d => { d with owed := true }

/-- Fence leg `l` (R259).  A fence of an inverter leg holds all four; the others take cause 0x7. -/
def Block.fenceLeg (l cause : Nat) (soft : Bool) (b : Block) : Block :=
  let b := b.holdLeg l soft
  let b := if b.on (Reg.PWM_LEG_STAT_FENCED l) then b
    else (b.flag (Reg.PWM_LEG_STAT_FENCED l) true).wr (Reg.PWM_LEG_STAT_CAUSE l) cause
  let b := match groupOf l with
    | some g => b.groupFenced g
    | none => b
  if l < 16 then b.portToWait (l / 2) soft
  else if l < 20 then
    b.eachOf ([16, 17, 18, 19].filter (· ≠ l)) fun m b =>
      let b := b.holdLeg m soft
      if b.on (Reg.PWM_LEG_STAT_FENCED m) then b
      else (b.flag (Reg.PWM_LEG_STAT_FENCED m) true).wr (Reg.PWM_LEG_STAT_CAUSE m) 7
  else b

/-- Fence port `p`, unless it is latched (R275, R286). -/
def Block.fencePort (p cause : Nat) (b : Block) : Block :=
  if b.rd (Reg.PORT_STAT_STATE p) = 8 then b
  else
    let b := (b.groupFenced p).stopPort p false
    (b.portState p 7).wr (Reg.PORT_STAT_CAUSE p) cause

/-- Latch port `p` (R255, R275, R284).  One that was fenced before is not re-admitted automatically any more (R352). -/
def Block.latchPort (p cause : Nat) (soft : Bool) (b : Block) : Block :=
  let b := b.stopPort p soft
  let b := if (b.recov (512 + p)).fenced then b.holdFenced (512 + p) else b
  (b.portState p 8).wr (Reg.PORT_STAT_CAUSE p) cause

/-- Fence context `c` (R107). -/
def Block.fenceCtx (c : Nat) (b : Block) : Block := b.updCtx c fun x => { x with fenceNext := true }

/-- Decide to fence the cell of a populated slot that is in service or on its way (R139, R218); the
    first decision's cause stands.  The holder alone decides (R231). -/
def Block.decideFence (s cause : Nat) (b : Block) : Block :=
  if !b.holds || decide (b.rd (Reg.CELL_SLOT_STAT_STATE s) < 2) then b
  else b.updCell s fun c => { c with fence := some (c.fence.getD cause) }

/-- Turn off and hold every leg other than L20, and open each static switch once its port's gates are
    confirmed off (R257, R341, R366). -/
def Block.blockStage (soft : Bool) (b : Block) : Block :=
  let b := b.eachOf ((List.range 24).filter (· ≠ 20)) fun l b => b.holdLeg l soft
  b.each 8 fun p b => b.stopPort p soft

end Sys2Proof.Machine
end

