-- ==== Sys2Proof/Machine/Demand.lean ====
section
/-! DEFINITION. Demands on the safety monitor (R361 to R368, R379): what each decides.  Gate removal
    itself is the command GATE_REMOVAL. -/

namespace Sys2Proof.Machine

/-- Decide gate removal: 0 in full, 1 under R368, 2 the removal switches of a module without the token
    at the start of a ramp.  The wider of two decisions stands; the readbacks are timed from the first that concerns them
    (R366). -/
def Block.decideRemoval (kind : Nat) (b : Block) : Block :=
  b.updSafe fun s =>
    { s with removal := some (min (s.removal.getD 2) kind), switchesAt := some (s.switchesAt.getD b.tb.up)
             outputsAt := if kind = 0 then some (s.outputsAt.getD b.tb.up) else s.outputsAt }

/-- The first demand that arises while STATE is CLEAR writes CAUSE (R362). -/
def Block.demandCause (cause : Nat) (b : Block) : Block :=
  if b.rd Reg.SAFE_STAT_STATE = 0 then b.wr Reg.SAFE_STAT_CAUSE cause else b

/-- The removal carried out or decided is the partial one of R368. -/
def Block.partial_ (b : Block) : Bool := b.on Reg.SAFE_STAT_PARTIAL || b.safe.removal == some 1

/-- Removal is decided: the latch is set, a ramp ends (R363, R367).  Nothing more where the gates are
    removed already, unless that removal was partial and this one is not. -/
def Block.remove (partly : Bool) (b : Block) : Block :=
  let st := b.rd Reg.SAFE_STAT_STATE
  let b := b.updSafe fun s => { s with ramp := none }
  if (st = 2 ∨ st = 3) ∧ (!b.partial_ || partly) then b
  else (b.wr Reg.SAFE_STAT_STATE (if st = 3 then 3 else 2)).decideRemoval (if partly then 1 else 0)

/-- An SF2 demand (R362, R363): removal at once; the holder's converter goes to FAULTED.  `partly`: a
    demand raised inside a module without the token (R379). -/
def Block.demandSF2 (cause : Nat) (partly : Bool) (b : Block) : Block :=
  let b := ((b.count Reg.SAFE_DEMAND_CNT_COUNT 1).demandCause cause).remove partly
  if b.holds then b.updConv fun c => { c with wantBlockSafe := true } else b

/-- The ramp of SF1 begins at the decision of the demand (R364). -/
def Block.startRamp (b : Block) : Block :=
  (b.wr Reg.SAFE_STAT_STATE 1).updSafe fun s =>
    { s with ramp := some b.tb.up, p0 := none }

/-- An SF1 demand (R362, R363): a monitored ramp, or SF2 where there is nothing to ramp; without the
    token the module opens its own removal switches and watches the holder's ramp, even where its own switches are open
    under R368 already (R379). -/
def Block.demandSF1 (cause : Nat) (b : Block) : Block :=
  let cs := b.runState
  let st := b.rd Reg.SAFE_STAT_STATE
  if cs == 0 || cs == 1 || cs == 5 || cs == 6 then b.demandSF2 cause false
  else
    let b := b.count Reg.SAFE_DEMAND_CNT_COUNT 1
    if st ≠ 0 then
      (if 2 ≤ st ∧ b.partial_ ∧ !b.holds ∧ b.safe.ramp.isNone then
        b.updSafe fun s => { s with ramp := some b.tb.up, p0 := none }
      else b)
    else
      let b := (b.demandCause cause).startRamp
      if b.holds then b.updConv fun c => { c with wantSafeStop := true } else b.decideRemoval 2

/-- The demand of an event of class HALT (R341, R362): cause 0x07; HALTED. -/
def Block.demandHalt (partly : Bool) (b : Block) : Block :=
  (((b.count Reg.SAFE_DEMAND_CNT_COUNT 1).demandCause 7).remove partly).wr Reg.SAFE_STAT_STATE 3

end Sys2Proof.Machine
end

