-- ==== Sys2Proof/Machine/Events.lean ====
section
/-! DEFINITION. Raising an event: its record, the fence of the unit it names, and the action of its class
    (R341 to R345). -/

namespace Sys2Proof.Machine

/-- Does the unit's fence allow automatic re-admission?  Cells: every cause but CELL_FENCE, a failed
    bypass check and a fault of class HALT (R221); ports: not while latched (R352). -/
def Block.allowsReadmit (b : Block) (o : Occ) (cls cause : Nat) : Bool :=
  match o.unitType with
  | 1 => !(cls == 4 || cause == 4 || cause == 7)
  | 2 => !(cls == 4)
  | 4 => !(b.rd (Reg.PORT_STAT_STATE o.idx) == 8)
  | _ => true

/-- The cause a fence by an event of class DEGRADE records (R268, R290; for cells and lanes log entry
    20). -/
def degradeCause (ut : Nat) : Nat :=
  match ut with
  | 1 => 1
  | 2 => 3
  | 3 => 8
  | 4 => 6
  | _ => 0

/-- Fence a unit (R341): a slot or lane, a leg, a port or a context. -/
def Block.fenceUnit (ut i cause : Nat) (b : Block) : Block :=
  match ut with
  | 1 => b.decideFence i cause
  | 2 => b.decideFence i cause
  | 3 => b.fenceLeg i cause false
  | 4 => b.fencePort i cause
  | 5 => b.fenceCtx i
  | _ => b

/-- The cell of a slot is in PROBING and has not passed: its lane is judged by R214 alone (R201). -/
def Block.probing (b : Block) (s : Nat) : Bool :=
  b.rd (Reg.CELL_SLOT_STAT_STATE s) == 2 && !((b.cell s).probe == .passed)

/-- Can the unit be fenced now?  Service transitions of cells are the holder's alone (R231), and an
    unpopulated slot has nothing to fence. -/
def Block.fenceable (b : Block) (ut i : Nat) : Bool :=
  match ut with
  | 1 => b.holds && !(b.rd (Reg.CELL_SLOT_STAT_STATE i) == 0)
  | 2 => b.holds && !(b.rd (Reg.CELL_SLOT_STAT_STATE i) == 0)
  | _ => true

/-- The holder releases the token in place of blocking the converter: a BLOCK or HALT of groups 0 to 2
    with the partner READY (R150). -/
def Block.releases (b : Block) (source : Nat) : Bool :=
  b.on Reg.SYS_PAIR_CFG_EN && b.on Reg.SYS_PAIR_STAT_TOKEN && b.on Reg.SYS_PAIR_STAT_PEER_READY
    && decide (source < 96)

/-- Latch a source (R344). -/
def Block.latch (k cls : Nat) (b : Block) : Block :=
  (b.flag (Reg.EVT_SRCk_LATCHED k) true).updEvt fun e =>
    { e with latchCls := SMap.store 0 k (max cls (SMap.look 0 e.latchCls k)) e.latchCls }

/-- The action of class BLOCK on the stage and, in the holder, on the cells (R341). -/
def Block.blockAct (source : Nat) (b : Block) : Block :=
  let b := b.blockStage false
  if b.releases source then b.updPair fun p => { p with release := true }
  else if b.holds then b.updEvt fun e => { e with blockDue := true }
  else b

/-- The first HALT since power-on is kept in the always-on domain (R344). -/
def Block.keepHalt (source : Nat) (b : Block) : Block :=
  if b.on Reg.EVT_HALT_HALTED then b
  else (b.wr Reg.EVT_HALT_SOURCE source).flag Reg.EVT_HALT_HALTED true

/-- The action of a class (R341). -/
def Block.classAct (source cls : Nat) (b : Block) : Block :=
  let mine := b.holds && !b.releases source
  match cls with
  | 2 =>
    let b := b.latch source 2
    if b.holds then b.updConv fun c => { c with wantStop := true } else b
  | 3 =>
    let b := (b.latch source 3).blockAct source
    if mine then b.updConv fun c => { c with wantBlock := true } else b
  | 4 =>
    let b := (((b.latch source 4).blockAct source).keepHalt source).demandHalt (!mine)
    if mine then b.updConv fun c => { c with wantHalt := true } else b
  | _ => b

/-- An occurrence of class HALT names the unit (R83). -/
def Block.markHalt (k cls : Nat) (b : Block) : Block :=
  if cls = 4 then b.updRecov k fun r => { r with halt := true } else b

/-- An occurrence names a unit that is fenced: it recurs.  A cell that is on its way back, by itself or for the host, goes back
    to FENCED at the next boundary (R345, R352); one whose policy is not AUTO waits for the host again (R353). -/
def Block.recurs (o : Occ) (k cls : Nat) (own : Option Nat) (b : Block) : Block :=
  let back := (b.recov k).returning && decide (k < 256)
  let hold := back && !b.autoPolicy k
  let b := (b.record o cls true false).onRecurrence k
  let b := if hold then b.holdFenced k else b
  if back then b.decideFence k (own.getD (degradeCause o.unitType)) else b

/-- Log an occurrence and fence or re-fence the unit it names.  `own`: the cause with which the unit's
    own rule fences it, whatever the class (R341, R343, R345). -/
def Block.raiseUnit (o : Occ) (cls : Nat) (own : Option Nat) (b : Block) : Block :=
  match unitKey o.unitType o.idx with
  | none => b.record o cls false false
  | some k =>
    let b := b.markHalt k cls
    if o.unitType == 2 && b.probing o.idx then b.record o cls (b.recov k).fenced false
    else if (b.recov k).fenced then b.recurs o k cls own
    else if (own.isSome || decide (1 ≤ cls)) && b.fenceable o.unitType o.idx then
      let cause := own.getD (degradeCause o.unitType)
      let allows := b.allowsReadmit o cls cause
      let lock := b.locksOut k allows
      (((b.onFence k allows).record o cls false lock).fenceUnit o.unitType o.idx cause)
    else b.record o cls false false

/-- Raise an event (R341, R345).  `own` as in `raiseUnit`. -/
def Block.raiseOwn (o : Occ) (own : Option Nat) (b : Block) : Block :=
  if b.detects o then
    let cls := b.classOf o
    (b.raiseUnit o cls own).classAct o.source cls
  else b

/-- Raise an event whose unit only its class can fence. -/
def Block.raise (o : Occ) (b : Block) : Block := b.raiseOwn o none

/-- The monitor's self-test failure: a HALT (R366, R374, R376). -/
def Block.diagFail (code : Nat) (b : Block) : Block := b.raise { source := 232, code := code }

/-! ### Injections (R355) -/

/-- Is the next check of checker `k` at index `i` inverted?  Only checkers 2 and 3 have an index. -/
def Block.injects (b : Block) (k i : Nat) : Bool :=
  decide (0 < b.rd (Reg.EVT_INJk_REMAIN k))
    && (!(k == 2 || k == 3) || b.rd (Reg.EVT_INJk_INDEX k) == i)

/-- One check of checker `k` at index `i` is made. -/
def Block.checked (k i : Nat) (b : Block) : Block :=
  if b.injects k i then b.wr (Reg.EVT_INJk_REMAIN k) (b.rd (Reg.EVT_INJk_REMAIN k) - 1) else b

/-- An injected check drops a frame where `k` says, or a good one arrives there (R355). -/
def Block.dropMark (k : Nat) (on : Bool) (b : Block) : Block :=
  b.updEvt fun e => { e with injDrops := if on then k :: e.injDrops.filter (· ≠ k) else e.injDrops.filter (· ≠ k) }

/-- An injected check has dropped a frame there since the last good one. -/
def Block.dropped (b : Block) (k : Nat) : Bool := b.evt.injDrops.contains k

end Sys2Proof.Machine
end

