-- ==== Sys2Proof/Machine/Operands.lean ====
section
/-! DEFINITION. How numbers stand in packets and frames (R5), and the frame checks over them. -/

namespace Sys2Proof.Machine

/-- The latched value of local input `i` in pu (R303, R304). -/
def Block.ainPu (b : Block) (i : Nat) : Int := b.rdS (Reg.ADC_IN_VALi_X i)

/-- `n` bytes of a number, most significant first (R5). -/
def be (n v : Nat) : List Byte :=
  match n with
  | 0 => []
  | k + 1 => BitVec.ofNat 8 (v / 256 ^ k) :: be k v

/-- The number that bytes spell, most significant first (R5). -/
def beNat (bs : List Byte) : Nat := bs.foldl (fun a b => a * 256 + b.toNat) 0

/-- The number in the `n` bytes from offset `o`. -/
def field (bs : List Byte) (o n : Nat) : Nat := beNat ((bs.drop o).take n)

/-- The signed number in the `n` bytes from offset `o`. -/
def fieldS (bs : List Byte) (o n : Nat) : Int := toS (8 * n) (field bs o n)

/-- `n` bytes of 0. -/
def zeros (n : Nat) : List Byte := List.replicate n 0

/-- One bit of a reflected CRC register with polynomial `poly`. -/
def crcBit (poly r : Nat) : Nat := if r % 2 = 1 then (r / 2) ^^^ poly else r / 2

/-- One byte into a reflected CRC register. -/
def crcByte (poly r : Nat) (x : Byte) : Nat :=
  crcBit poly (crcBit poly (crcBit poly (crcBit poly
    (crcBit poly (crcBit poly (crcBit poly (crcBit poly (r ^^^ x.toNat))))))))

/-- A reflected 32-bit CRC: initial value and final XOR 0xFFFF_FFFF. -/
def crc32With (poly : Nat) (bs : List Byte) : Nat :=
  (bs.foldl (crcByte poly) 0xFFFFFFFF) ^^^ 0xFFFFFFFF

/-- The frame check of Yalak and pair frames: polynomial 0x04C1_1DB7, reflected (R196). -/
def crc32 (bs : List Byte) : Nat := crc32With 0xEDB88320 bs

/-- CRC-32C of safety frames: polynomial 0x1EDC_6F41, reflected (R372). -/
def crc32c (bs : List Byte) : Nat := crc32With 0x82F63B78 bs

/-- The largest number whose square is at most `n`, by bits from `k` down. -/
def isqrtFrom (n : Nat) : Nat → Nat → Nat
  | 0, r => if (r + 1) * (r + 1) ≤ n then r + 1 else r
  | k + 1, r => isqrtFrom n k (if (r + 2 ^ (k + 1)) * (r + 2 ^ (k + 1)) ≤ n then r + 2 ^ (k + 1) else r)

/-- Integer square root, for numbers below 2^128. -/
def isqrt (n : Nat) : Nat := isqrtFrom n 63 0

/-- The loop of R164 over a leg's edges, instants and states ascending: an interval shorter than `tmin`
    is swallowed with both its edges, or its second edge moves to the first multiple of `unit` at or
    after the first plus `tmin`.  `t0`: the last edge already issued.  `done` holds the edges settled so
    far, latest first.  Answers the edges, the pairs swallowed and the edges stretched. -/
def shortEdges (unit tmin : Int) (stretch : Bool) (t0 : Option Int)
    (done : List (Int × Bool)) (sw st : Nat) : List (Int × Bool) → List (Int × Bool) × Nat × Nat
  | [] => (done.reverse, sw, st)
  | (t, s) :: todo =>
    let prev := match done with
      | (p, _) :: _ => some p
      | [] => t0
    match prev with
    | none => shortEdges unit tmin stretch t0 ((t, s) :: done) sw st todo
    | some p =>
      if tmin ≤ t - p then shortEdges unit tmin stretch t0 ((t, s) :: done) sw st todo
      else
        match done, stretch with
        | _ :: before, false => shortEdges unit tmin stretch t0 before (sw + 1) st todo
        | _, _ =>
          shortEdges unit tmin stretch t0 ((unit * (-((-(p + tmin)) / unit)), s) :: done) sw (st + 1) todo

/-- Drop each edge whose state equals the state already in force (R162, R243). -/
def dropRedundant (state : Bool) : List (Int × Bool) → List (Int × Bool)
  | [] => []
  | (t, s) :: r => if s = state then dropRedundant state r else (t, s) :: dropRedundant s r

end Sys2Proof.Machine
end

