-- ==== Sys2Proof/Machine/Pwm.lean ====
section
/-! DEFINITION. The local power stage (R237 to R267): legs, their update points and edges, the bootstrap
    refresh, the interlock, shorts, trips, undervoltage, diagnostics and the brake chopper. -/

namespace Sys2Proof.Machine

/-! ### Supplies -/

/-- The brake path is armed: SRC = 4 on L20 in force, or no configuration in force, the option area
    loaded and RST_EN = 1 (R264, R265). -/
def Block.brakeArmed (b : Block) : Bool :=
  if b.boot.configured then b.rd (Reg.PWM_LEG_CFG_SRC 20) == 4
  else b.boot.optLoaded && b.on Reg.PWM_BRK_OPT_RST_EN

/-- A channel is powered: its leg has a source, its port's static switch is configured (both legs of
    the port with SRC 3, log entry 21), or the brake path is armed; GATE24 is present; and but for GD40
    and GD41 D7 is released, no domain was forced early, the module is not in P3 or P4, and both removal
    switches are closed (R248, R264, R334, R366, R388, R404, R452).  The brake path's supply goes with GATE24_OK; a channel that
    is powered stays so below the range, until its supply is below its lockout (R452). -/
def Block.channelPower (b : Block) (ch : Nat) : Bool :=
  let closed := b.on Reg.GATE_STAT_SUPPLY_A && b.on Reg.GATE_STAT_SUPPLY_B
  let up := b.boot.configured && b.released 7 && b.rd Reg.CLK_EARLY_DOMAINS == 0
    && decide (b.rd Reg.SYS_PWR_STAT_STATE < 3)
  let kept := ch != 40 && ch != 41 && b.on (Reg.GATE_CH_STAT_POWERED ch) && !b.on (Reg.GATE_CH_STAT_UVLO ch)
  (b.on Reg.GATE_STAT_GATE24_OK || kept) &&
    (if ch = 40 ∨ ch = 41 then b.brakeArmed || (b.boot.configured && b.rd (Reg.PWM_LEG_CFG_SRC 20) != 0)
     else up && closed &&
      (if ch < 48 then b.rd (Reg.PWM_LEG_CFG_SRC (ch / 2)) != 0
       else b.portLeg (2 * (ch - 48)) && b.portLeg (2 * (ch - 48) + 1)))

/-- Power or unpower every channel as R248 has it now.  A channel newly powered holds its gate off at
    its negative rail; an unpowered one falls to its passive pull-down, and its static switch opens.  A chopper whose
    path is disarmed turns off. -/
def Block.powerChannels (b : Block) : Block :=
  let armed := b.brakeArmed && b.on Reg.GATE_STAT_GATE24_OK
  let b := b.flag Reg.PWM_BRK_STAT_ARMED armed
  let b := if armed then b else b.brakeStop (.brake false)
  b.each 56 fun ch b =>
    let want := b.channelPower ch
    if want = b.on (Reg.GATE_CH_STAT_POWERED ch) then b
    else
      let b := (b.flag (Reg.GATE_CH_STAT_POWERED ch) want).flag (Reg.GATE_CH_STAT_GATE_OFF ch)
        (want && !(ch == 41 && b.on Reg.PWM_BRK_STAT_ON))
      if !want && decide (48 ≤ ch) then b.openSwitch (ch - 48) false else b

/-! ### Legs that switch -/

/-- The leg takes a set of fields; the compares are register fields under SRC 2 alone (R241, R242). -/
def Block.takeCfg (l : Nat) (c : LegCfg) (b : Block) : Block :=
  let src2 := b.rd (Reg.PWM_LEG_CFG_SRC l) == 2
  b.updLeg l fun x =>
    { x with toLegCfg := { c with cmpOn := if src2 then c.cmpOn else x.cmpOn
                                  cmpOff := if src2 then c.cmpOff else x.cmpOff } }

/-- What a cast is to replace at the legs is remembered before it takes effect (R239, R242). -/
def Block.keepFormer (b : Block) : Block := b.updLv fun v => { v with former := (List.range 24).map b.legCfg }

/-- Are the forced switches of leg `l` let through (R22, R252, R257, R259, R261)?  Its channels are powered, it is not
    fenced, the stage is not blocked, its group is not under test, and the token is held. -/
def Block.mayForce (b : Block) (l : Nat) : Bool :=
  b.on (Reg.GATE_CH_STAT_POWERED (2 * l)) && b.on (Reg.GATE_CH_STAT_POWERED (2 * l + 1)) && b.holds
    && !b.on (Reg.PWM_LEG_STAT_FENCED l) && (!b.on Reg.PWM_STAT_MULTI || l == 20)
    && (match groupOf l with
        | some g => !b.bit Reg.PWM_DIAG_STAT_BUSY g
        | none => true)

/-- The leg may switch now (R246, R248, R252, R257, R263): by its source and the converter state, its channels powered, not
    fenced, its group passed and not under test, no stage block, the token held, not forced. -/
def Block.mayRun (b : Block) (l : Nat) : Bool :=
  let src := b.rd (Reg.PWM_LEG_CFG_SRC l)
  let st := b.rd Reg.SYS_CONV_STAT_STATE
  (src == 1 || src == 2) && b.holds && (st == 3 || st == 4) && !b.on (Reg.PWM_LEG_STAT_FENCED l)
    && b.on (Reg.GATE_CH_STAT_POWERED (2 * l)) && b.on (Reg.GATE_CH_STAT_POWERED (2 * l + 1))
    && !b.on Reg.PWM_STAT_MULTI && !b.on (Reg.PWM_LEG_FORCE_EN l)
    && (match groupOf l with
        | some g => b.bit Reg.PWM_DIAG_STAT_PASS g && !b.bit Reg.PWM_DIAG_STAT_BUSY g
        | none => false)

/-- The leg leaves held, anchored: it begins at its next carrier boundary (R239, R246), with the last cast's fields
    where that lies at or after the cast's boundary plus 1,000 ns. -/
def Block.leaveHeld (l : Nat) (b : Block) : Block :=
  let new := b.legCfg l
  let c := b.cfgAt l (b.gridAfter new.offs new.period (b.tickIn 0))
  let u := b.gridAfter c.offs c.period (b.tickIn 0)
  ((b.takeCfg l c).updLeg l fun x =>
    { x with switching := true, grid := u, nextU := u, carrier := true, edges := [], last := none
             gen := none, dead := none, refreshEnd := none, restAt := none }).flag (Reg.PWM_LEG_STAT_ANCHORED l) true

/-- Judge a leg with SRC 1 or 2: it starts when it may run, and is held when it may not; a forced leg is held while its
    force is not let through (R246, R252). -/
def Block.judgeLeg (l : Nat) (b : Block) : Block :=
  if b.on (Reg.PWM_LEG_FORCE_EN l) then (if b.mayForce l then b else b.holdLeg l false)
  else if b.mayRun l then (if (b.leg l).switching then b else b.leaveHeld l)
  else if (b.leg l).switching && !b.portLeg l then b.holdLeg l false
  else b

/-- The minimum interval of a leg in ticks (R244). -/
def Leg.tmin (x : Leg) : Nat := nsTicks (x.dt + x.minp)

/-- A compare as a tick count from the carrier boundary (R240, R242). -/
def Leg.ticks (x : Leg) (isContext : Bool) (cmp : Nat) : Nat :=
  if x.count && !isContext then min (cmp % 2 ^ 24) x.period
  else (cmp * x.period * 2 + 2 ^ 32) / 2 ^ 33

/-- The pattern's state at `o` ticks from the carrier boundary (R240). -/
def pattern (on off o : Nat) : Bool :=
  if on < off then decide (on ≤ o) && decide (o < off)
  else if off < on then !(decide (off ≤ o) && decide (o < on))
  else false

/-- The pattern's state changes in [from, to), ascending (R243). -/
def patternEdges (on off fr upto : Nat) : List (Int × Bool) :=
  let a := (on, true)
  let z := (off, false)
  let l := if on < off then [a, z] else if off < on then [z, a] else []
  (l.filter fun e => decide (fr ≤ e.1) && decide (e.1 < upto)).map fun e => ((e.1 : Int), e.2)

/-- The fields and compares in force at an update point (R239, R241, R242).  With a change of PERIOD or OFFS a cast's
    fields wait for a carrier boundary, and the leg is no longer anchored. -/
def Block.legFields (l : Nat) (b : Block) : Block :=
  let x := b.leg l
  let c := b.cfgAt l x.nextU
  let moved := x.period != c.period || x.offs != c.offs
  let b :=
    if moved then
      (if x.carrier then (b.takeCfg l c).flag (Reg.PWM_LEG_STAT_ANCHORED l) false else b)
    else b.takeCfg l c
  b.updLeg l fun x =>
    match x.formed with
    | some (on, off, t) => if t ≤ x.nextU then { x with cmpOn := on, cmpOff := off, formed := none } else x
    | none => x

/-- The count-mode clamp acts in this window (R242). -/
def Block.clampAct (l : Nat) (b : Block) : Block :=
  let x := b.leg l
  if x.count && b.rd (Reg.PWM_LEG_CFG_SRC l) == 2
      && (decide (x.period ≤ x.cmpOn % 2 ^ 24) || decide (x.period ≤ x.cmpOff % 2 ^ 24)) then
    (b.flag (Reg.PWM_LEG_STAT_CLAMP l) true).raise { source := 165, unitType := 3, idx := l }
  else b

/-- A leg takes a state at an instant: the switch that conducts turns off, and the other turns on `dt` ns later
    (R243). -/
def Block.legTo (l : Nat) (t : Int) (dt : Nat) (upper : Bool) (b : Block) : Block :=
  let b := b.settleLeg l
  let lower := b.rd (Reg.PWM_LEG_STAT_STATE l) == 1
  let off := if upper then 2 * l + 1 else 2 * l
  let on := t + 64 * dt
  let b := (b.wr (Reg.PWM_LEG_STAT_STATE l) (if upper then 2 else 1)).flag (Reg.GATE_CH_STAT_GATE_OFF off)
    (b.on (Reg.GATE_CH_STAT_POWERED off))
  let b := (b.updLeg l fun x =>
    { x with lastEdge := some t, lockSince := none, dead := some (on, upper), restAt := none
             upperSince := if upper then b.tb.up + 1000 * dt else x.upperSince
             lowerLast := if upper && lower then b.tb.up else x.lowerLast }).settleLeg l
  (b.updLv fun v => { v with tripDone := v.tripDone.filter fun k => (b.tripOf k).leg != l }).emit
    (.edge l t on upper)

/-- The edges from a refresh on: what the pattern asks for in it is redundant or waits for its end `e`; `up`: without
    an edge in it the leg is upper there (R250). -/
def refreshEdges (e : Int) (up : Bool) (l : List (Int × Bool)) : List (Int × Bool) :=
  let s := match (l.filter fun x => decide (x.1 ≤ e)).getLast? with
    | some x => x.2
    | none => up
  (if s then [(e, true)] else []) ++ l.filter fun x => decide (e < x.1)

/-- A window's edges join those still to happen; one built inside a refresh is held to it (R250). -/
def Leg.join (x : Leg) (es : List (Int × Bool)) : List (Int × Bool) :=
  match x.refreshEnd with
  | some e => if x.nextU < e then refreshEdges e false (x.edges ++ es) else x.edges ++ es
  | none => x.edges ++ es

/-- Build and issue the edges of the window from the update point (R243, R244, R246). -/
def Block.buildEdges (l : Nat) (b : Block) : Block :=
  let x := b.leg l
  let src := b.rd (Reg.PWM_LEG_CFG_SRC l)
  let on := x.ticks (src == 1) x.cmpOn
  let off := x.ticks (src == 1) x.cmpOff
  let b := (b.wr (Reg.PWM_LEG_TON_TICK l) on).wr (Reg.PWM_LEG_TOFF_TICK l) off
  let grid := if x.carrier then x.nextU else x.grid
  let fr := if x.carrier then 0 else x.period / 2
  let upto := if x.carrier && x.upd then x.period / 2 else x.period
  let tm := x.tmin
  let at0 := pattern on off fr
  let body := (patternEdges on off fr upto).filter fun e => decide (e.1 ≠ (fr : Int))
  let pulse := max (nsTicks x.pulse) tm
  -- the first window after held: the leg enters lower at U, and a pattern that begins upper waits
  let first := x.gen.isNone
  let lead : List (Int × Bool) :=
    if first then (if at0 then [((fr + pulse : Nat), true)] else [])
    else [((fr : Int), at0)]
  let moved := first && at0
  let l0 := dropRedundant (x.gen.getD false) (lead ++ body)
  let t0 := x.last.map fun t => (t - grid) / 5
  let r := shortEdges 1 tm x.stretch t0 [] 0 0 l0
  let es := r.1.map fun e => (grid + 5 * e.1, e.2)
  let b := b.count (Reg.PWM_LEG_CNT_SWALLOW l) r.2.1
  let b := b.count (Reg.PWM_LEG_CNT_STRETCH l) (r.2.2 + if moved then 1 else 0)
  let b := b.updLeg l fun x =>
    { x with grid := grid, edges := x.join es
             last := match es.getLast? with
               | some e => some e.1
               | none => x.last
             gen := match es.getLast? with
               | some e => some e.2
               | none => some (x.gen.getD false)
             nextU := grid + 5 * (upto : Int), carrier := decide (upto = x.period) }
  -- the first state is entered without dead time
  if first then b.legTo l grid 0 false else b

/-- What a leg's record shows of one stroke begins anew (R242, R251). -/
def Block.legStroke (l : Nat) (b : Block) : Block :=
  (b.flag (Reg.PWM_LEG_STAT_CLAMP l) false).updLeg l fun x => { x with shot := false }

/-! ### Trips (R258) -/

/-- The stage is blocked (R257): every leg other than L20 off with ISOFT and held, MULTI set, each
    port stopped at once, MULTI_SHORT raised. -/
def Block.multiBlock (b : Block) : Block :=
  let b := (b.blockStage true).flag Reg.PWM_STAT_MULTI true
  let b := b.each 8 fun p b => b.portToWait p true
  b.raise { source := 162 }

/-- Latch a leg off (R255, R258). -/
def Block.latchLeg (l : Nat) (b : Block) : Block :=
  let b := if l < 16 then b.portToWait (l / 2) true else b
  ((b.holdLeg l true).setBit Reg.GATE_SHORT_LEGS l true).flag (Reg.PWM_LEG_STAT_LATCHED l) true

/-- A trip input acts (R258). -/
def Block.tripAct (k : Nat) (b : Block) : Block :=
  let l := (b.tripOf k).leg
  let action := (b.tripOf k).action
  let b := (b.setBit Reg.PWM_TRIP_STAT_LATCH k true).updLv fun v => { v with tripDone := k :: v.tripDone }
  if action = 1 then
    (b.latchLeg l).raiseOwn { source := 166, unitType := 3, idx := l } (some 3)
  else
    let b := b.multiBlock
    let o : Occ := { source := 166, unitType := 3, idx := l }
    b.raiseOwn o (if 1 ≤ b.classOf o then some 3 else none)

/-- Judge trip input `k` by the level at its pin (R258): LEVEL shows whether it is active now, and an active level acts
    once outside the blanking after its leg's edges (log entry 136). -/
def Block.tripJudge (k : Nat) (b : Block) : Block :=
  match b.lv.tripPins.lookup k with
  | none => b
  | some high =>
    let c := b.tripOf k
    let active := high == c.pol
    let act := c.action
    let blanked := match (b.leg c.leg).lastEdge with
      | some t => decide (b.tickIn 0 - t < (c.blank * 25 * 64 : Nat))
      | none => false
    let b := b.setBit Reg.PWM_TRIP_STAT_LEVEL k active
    if !active then b.updLv fun v => { v with tripDone := v.tripDone.filter (· ≠ k) }
    else if (act = 1 ∨ act = 2) ∧ !blanked ∧ !b.lv.tripDone.contains k then b.tripAct k
    else b

/-- Every trip input is judged: at a boundary, with a new configuration, and before an edge. -/
def Block.tripsJudge (b : Block) : Block := b.each 16 fun k b => b.tripJudge k

/-- TRIP_INPUT (R258): a level of TRIPk that outlasts its filter. -/
def Block.tripInput (k : Nat) (level : Bool) (b : Block) : Block :=
  (b.updLv fun v => { v with tripPins := (k, level) :: v.tripPins.filter (·.1 ≠ k) }).tripJudge k

/-! ### Update points -/

/-- PWM_UPDATE_POINT (R243): nothing on a leg that does not switch under SRC 1 or 2, or that a trip holds before it (R258). -/
def Block.pwmUpdatePoint (l : Nat) (b : Block) : Block :=
  let b := b.judgeLeg l
  if (b.leg l).switching && b.mayRun l then
    let b := (b.untilI (b.leg l).nextU).tripsJudge
    if (b.leg l).switching then ((b.legFields l).clampAct l).buildEdges l else b
  else b

/-! ### Bootstrap refresh and interlock -/

/-- A leg that rests with both switches off: a port leg in service, between on-times (R245, R250). -/
def Block.resting (b : Block) (l : Nat) : Bool :=
  b.rd (Reg.PWM_LEG_STAT_STATE l) == 0 && b.portLeg l && (b.leg l).switching

/-- Does an on-time of port leg `l` last beyond `e`?  A leg with a carrier has none to end. -/
def Block.onBeyond (b : Block) (l : Nat) (e : Int) : Bool :=
  if b.portLeg l then
    match (if l % 2 = 0 then (b.port (l / 2)).onA else (b.port (l / 2)).onB) with
    | some t => decide (e < t)
    | none => false
  else true

/-- BOOTSTRAP_REFRESH (R250): after TMAX of upper the lower switch conducts for PULSE, with dead time at both changes
    (log entry 135); after INT of rest the lower switch conducts for PULSE, and the leg rests again.  Nothing where a trip turns
    the leg off before (R258). -/
def Block.bootstrapRefresh (l : Nat) (b : Block) : Block :=
  let b := b.settleLeg l
  let st := b.rd (Reg.PWM_LEG_STAT_STATE l)
  let src := b.rd (Reg.PWM_LEG_CFG_SRC l)
  let x := b.leg l
  if (src = 1 ∨ src = 2 ∨ src = 3) ∧ st = 2 then
    let b := (b.untilUp (x.upperSince + x.tmax * usPs)).tripsJudge
    if b.rd (Reg.PWM_LEG_STAT_STATE l) ≠ 2 then b
    else
      let t := b.tickIn 0
      let e := t + 5 * (nsTicks (x.dt + x.pulse) : Nat)
      let back := b.onBeyond l e
      let b := (b.count (Reg.PWM_LEG_ICNT_REFRESH l) 1).legTo l t x.dt false
      b.updLeg l fun x => { x with edges := refreshEdges e back x.edges, refreshEnd := some e }
  else if b.resting l then
    let b := (b.untilUp (x.lowerLast + x.intv * usPs)).tripsJudge
    if !b.resting l then b
    else
      let t := b.tickIn 0
      let e := t + 5 * (nsTicks x.pulse : Nat)
      let b := (b.count (Reg.PWM_LEG_ICNT_REFRESH l) 1).legTo l t 0 false
      b.updLeg l fun x => { x with refreshEnd := some e, restAt := some e, lowerLast := b.tb.up + 1000 * x.pulse }
  else b

/-- The chopper is on as long as a force holds the lower switch of L20 on (R252, R264). -/
def Block.forceBrake (l : Nat) (b : Block) : Block :=
  let on := b.on (Reg.PWM_LEG_FORCE_EN 20) && b.rd (Reg.PWM_LEG_STAT_STATE 20) == 1
  if l ≠ 20 ∨ on = b.on Reg.PWM_BRK_STAT_ON then b
  else
    let b := (b.flag Reg.PWM_BRK_STAT_ON on).updLv fun v => { v with brakeAt := b.tb.up, brakeLong := false }
    if on then b.count Reg.PWM_BRK_CNT_COUNT 1 else b

/-- INTERLOCK_ACT (R251): both outputs held off, the switch that conducts turning off; SHOOT_REQ at most once per
    stroke. -/
def Block.interlockAct (l : Nat) (b : Block) : Block :=
  let shot := (b.leg l).shot
  let st := b.rd (Reg.PWM_LEG_STAT_STATE l)
  let b := (b.wr (Reg.PWM_LEG_STAT_STATE l) 3).count (Reg.PWM_LEG_ICNT_SHOOT l) 1
  let b := (b.flag (Reg.GATE_CH_STAT_GATE_OFF (2 * l)) (b.on (Reg.GATE_CH_STAT_POWERED (2 * l)))).flag
    (Reg.GATE_CH_STAT_GATE_OFF (2 * l + 1)) (b.on (Reg.GATE_CH_STAT_POWERED (2 * l + 1)))
  let b := if st = 1 ∨ st = 2 then b.emit (.legOff l false) else b
  let b := (b.forceBrake l).updLeg l fun x => { x with shot := true, dead := none, restAt := none, lockSince := some (x.lockSince.getD b.tb.up) }
  if shot then b else b.raise { source := 164, unitType := 3, idx := l }

/-- Fence a unit by its own rule, with no event of its own (R251, R341). -/
def Block.fenceQuiet (ut i cause : Nat) (b : Block) : Block :=
  match unitKey ut i with
  | none => b
  | some k => if (b.recov k).fenced then b else (b.onFence k true).fenceUnit ut i cause

/-- INTERLOCK_PERSIST (R251): 3 × PERIOD of continuous interlock fences the leg with cause 0x4. -/
def Block.interlockPersist (l : Nat) (b : Block) : Block :=
  match (b.leg l).lockSince with
  | none => b
  | some t =>
    (b.untilUp (t + 3 * (b.legInForce l).period * 78125 / 1000)).fenceQuiet 3 l 4

/-- The switches of a forced leg follow PWM_LEG_FORCE directly, through the interlock; after it the remaining switch
    turns on the dead time later (R251, R252).  A force that keeps both requested is no new occurrence. -/
def Block.forceApply (l : Nat) (b : Block) : Block :=
  let up := b.on (Reg.PWM_LEG_FORCE_UPPER l)
  let lo := b.on (Reg.PWM_LEG_FORCE_LOWER l)
  let st := b.rd (Reg.PWM_LEG_STAT_STATE l)
  let dt := if st = 3 then (b.leg l).dt else 0
  if up && lo then (if st = 3 then b else b.interlockAct l)
  else if up then (if st = 2 then b else (b.legTo l (b.tickIn 0) dt true).forceBrake l)
  else if lo then (if st = 1 then b else (b.legTo l (b.tickIn 0) dt false).forceBrake l)
  else b.holdLeg l false

/-- A write of PWM_LEG_FORCE (R252): a forced leg is released, or its force applies as far as it is let through. -/
def Block.forceLeg (l : Nat) (b : Block) : Block :=
  if !b.on (Reg.PWM_LEG_FORCE_EN l) then
    if (b.leg l).forced then
      let b := (b.updLeg l fun x => { x with forced := false }).holdLeg l false
      if b.portLeg l then b else b.judgeLeg l
    else b
  else
    let b := ((b.takeCfg l (b.cfgAt l (b.tickIn 0))).updLeg l fun x => { x with forced := true }).tripsJudge
    if b.mayForce l then b.forceApply l else b

/-- A leg is judged again; a force that is let through again applies (R252). -/
def Block.legAgain (l : Nat) (b : Block) : Block :=
  if b.on (Reg.PWM_LEG_FORCE_EN l) && b.mayForce l && b.rd (Reg.PWM_LEG_STAT_STATE l) == 0 then b.forceApply l
  else b.judgeLeg l

/-! ### Shorts, trips, undervoltage -/

/-- A short's detection counts toward MULTI_SHORT (R257). -/
def Block.countShort (l : Nat) (b : Block) : Block :=
  let second := match b.lv.lastShort with
    | some (m, t) => decide (m ≠ l) && decide (b.tb.up ≤ t + usPs)
    | none => false
  let b := b.updLv fun v => { v with lastShort := some (l, b.tb.up) }
  if second && !b.on Reg.PWM_STAT_MULTI then b.multiBlock else b

/-- A short of leg `l` (R255): held with ISOFT, latched, LEG_SHORT raised, fenced whatever its class. -/
def Block.legShort (l cause code : Nat) (b : Block) : Block :=
  let b := (b.latchLeg l).updLv fun v => { v with shorted := l :: v.shorted.filter (· ≠ l) }
  (b.raiseOwn { source := 160, unitType := 3, idx := l, code := code } (some cause)).countShort l

/-- DESAT_DETECT (R253). -/
def Block.desatDetect (l : Nat) (upper : Bool) (b : Block) : Block :=
  let ch := if upper then 2 * l else 2 * l + 1
  if (if upper then (b.legInForce l).desatUp else (b.legInForce l).desatLo) then
    (b.flag (Reg.GATE_CH_STAT_DESAT ch) true).legShort l 1 (if upper then 1 else 2)
  else b

/-- FAST_CURRENT_TRIP (R254). -/
def Block.fastCurrentTrip (l : Nat) (b : Block) : Block :=
  if (b.legInForce l).ocEn then b.legShort l 2 3 else b

/-- GATE_STUCK (R257): the static switch stays closed. -/
def Block.gateStuck (p : Nat) (b : Block) : Block :=
  if (b.port p).opening then
    let b := b.untilUp ((b.port p).heldAt + 2 * usPs)
    let b := (b.setBit Reg.GATE_STAT_STUCK p true).updPort p fun x => { x with opening := false }
    b.raise { source := 163, unitType := 4, idx := p }
  else b

/-- GATE_OFF_CONFIRMED (R257, R279): all four gates read off; a static switch that waited opens. -/
def Block.gateOffConfirmed (p : Nat) (b : Block) : Block :=
  (b.eachOf [4 * p, 4 * p + 1, 4 * p + 2, 4 * p + 3] fun ch b =>
    b.flag (Reg.GATE_CH_STAT_GATE_OFF ch) (b.on (Reg.GATE_CH_STAT_POWERED ch))).tryOpen p

/-- STATIC_SHORT (R253, R255, R275, R289): the static switch opens with ISOFT, the port is latched, and entering
    LATCHED raises PORT_FAULT.  A channel whose DESAT_EN is 0 senses nothing. -/
def Block.staticShort (p : Nat) (b : Block) : Block :=
  if !(b.legInForce (2 * p)).desatSs then b
  else
  let latched := b.rd (Reg.PORT_STAT_STATE p) == 8
  let b := ((b.flag (Reg.GATE_CH_STAT_DESAT (48 + p)) true).openSwitch p true).latchPort p 2 false
  let b := b.raise { source := 161, unitType := 4, idx := p }
  if latched then b else b.raise { source := 193, unitType := 4, idx := p }

/-- LEG_EDGE (R243): the next issued edge happens at its instant, unless a trip turns the leg off before it. -/
def Block.legEdge (l : Nat) (b : Block) : Block :=
  match (b.leg l).edges with
  | [] => b
  | (t, _) :: _ =>
    let b := (b.untilI t).tripsJudge
    match (b.leg l).edges with
    | [] => b
    | (t, up) :: rest => (b.updLeg l fun x => { x with edges := rest }).legTo l t (b.leg l).dt up

/-- GATE_UVLO (R267): a powered channel's supply below its lockout, or back. -/
def Block.gateUvlo (ch : Nat) (low : Bool) (b : Block) : Block :=
  let was := b.on (Reg.GATE_CH_STAT_UVLO ch)
  let powered := b.on (Reg.GATE_CH_STAT_POWERED ch)
  let b := b.flag (Reg.GATE_CH_STAT_UVLO ch) (low && powered)
  if low && powered && !was then
    let l := if ch < 48 then ch / 2 else 2 * (ch - 48)
    let b := if ch < 48 then b else b.openSwitch (ch - 48) true
    (b.holdLeg l true).raiseOwn { source := 168, unitType := 3, idx := l } (some 6)
  else b

/-! ### Diagnostics -/

/-- The nodes of a group, ascending (R261). -/
def groupNodes (g : Nat) : List Nat :=
  if g < 8 then [2 * g, 2 * g + 1, 24 + g] else if g = 8 then [16, 17, 18, 19] else [g + 12]

/-- The legs of a group. -/
def groupLegs (g : Nat) : List Nat :=
  if g < 8 then [2 * g, 2 * g + 1] else if g = 8 then [16, 17, 18, 19] else [g + 12]

/-- Begin a group's test at its first node, the group held and its static switch opened (R261). -/
def Block.startDiag (g : Nat) (b : Block) : Block :=
  if b.bit Reg.PWM_DIAG_STAT_BUSY g then b
  else
    let n := (groupNodes g).headD 0
    let b := b.eachOf (groupLegs g) fun l b => b.holdLeg l false
    let b := if g < 8 then b.openSwitch g false else b
    let b := (b.setBit Reg.PWM_DIAG_STAT_BUSY g true).wr (Reg.PWM_DIAG_RESn_CLASS n) 1
    b.updDiag g fun d => { d with node := n, phase := 0, until_ := b.tb.up + msPs, ok := true }

/-- Does a group hold an enabled leg (R263)? -/
def Block.groupEnabled (b : Block) (g : Nat) : Bool :=
  (groupLegs g).any fun l => b.rd (Reg.PWM_LEG_CFG_SRC l) != 0

/-- Every group with an enabled leg is tested: on each entry to SYNC (R263). -/
def Block.testStage (b : Block) : Block := b.each 12 fun g b => if b.groupEnabled g then b.startDiag g else b

/-- The class of a tested node: 2 NORMAL, 3 SHORT_POS, 4 SHORT_NEG, 5 OPEN (R262).  Voltages in mV;
    V_bus is the feedback of the LV bus context times BASE_V. -/
def Block.nodeClass (b : Block) (n : Nat) (v0 v1 v2 : Int) : Nat :=
  let q : Int := 2 ^ 24
  let vb : Int := b.rdS (Reg.ARM_CTX_FB_FB (b.rd Reg.ARM_MAP0_LVBUS)) * b.rd Reg.SYS_CONV_LVB_BASE_V * 1000
  let pos :=
    if n < 24 then
      (decide (100000 * q ≤ vb) && decide (99 * vb ≤ 100 * v0 * q))
      || (decide (2000 * q < vb) && decide (vb < 100000 * q)
          && decide (99 * vb - 50000 * q ≤ 100 * v0 * q) && decide (99 * vb - 50000 * q ≤ 100 * v2 * q))
    else decide (vb + 50000 * q ≤ v0 * q)
  if pos then 3
  else if v0 ≤ 2000 ∧ v1 ≤ 2000 then 4
  else if b.on (Reg.PWM_DIAG_NODEn_OPEN_EN n) ∧ 28000 ≤ v1 ∧ v2 ≤ 2000 then 5
  else 2

/-- A leg comes back when its group has passed (R260). -/
def Block.legBack (l : Nat) (b : Block) : Block :=
  let b := ((b.flag (Reg.PWM_LEG_STAT_FENCED l) false).flag (Reg.PWM_LEG_STAT_LATCHED l) false).wr
    (Reg.PWM_LEG_STAT_CAUSE l) 0
  let b := (b.setBit Reg.GATE_SHORT_LEGS l false).flag (Reg.GATE_CH_STAT_DESAT (2 * l)) false
  let b := b.updLv fun v => { v with shorted := v.shorted.filter (· ≠ l) }
  let b := b.flag (Reg.GATE_CH_STAT_DESAT (2 * l + 1)) false
  if (b.recov (256 + l)).returning then b.onReadmitDone 3 l (256 + l) else b

/-- The fenced legs of a group that are on their way back (R259, R260).  An inverter leg fenced on its
    own account and not on its way back keeps all four. -/
def Block.groupBack (g : Nat) (b : Block) : Block :=
  let own := fun (b : Block) (l : Nat) => (b.recov (256 + l)).fenced && !(b.recov (256 + l)).returning
  if g = 8 then
    if [16, 17, 18, 19].any (own b) then
      b.eachOf ([16, 17, 18, 19].filter fun l => (b.recov (256 + l)).returning) fun l b =>
        ((b.legBack l).flag (Reg.PWM_LEG_STAT_FENCED l) true).wr (Reg.PWM_LEG_STAT_CAUSE l) 7
    else b.eachOf [16, 17, 18, 19] fun l b => b.legBack l
  else b.eachOf ((groupLegs g).filter fun l => !own b l) fun l b => b.legBack l

/-- A group's test ends (R262): passed, or all its legs fenced with cause 0x5 and DIAG_FAIL raised. -/
def Block.diagEnd (g : Nat) (b : Block) : Block :=
  let ok := (b.diag g).ok
  let b := (b.setBit Reg.PWM_DIAG_STAT_BUSY g false).setBit Reg.PWM_DIAG_STAT_PASS g ok
  if ok then
    let b := (b.updDiag g fun d => { d with owed := false }).groupBack g
    b.eachOf (groupLegs g) fun l b => b.legAgain l
  else
    let b := b.eachOf (groupLegs g) fun l b => b.raiseOwn { source := 167, unitType := 3, idx := l } (some 5)
    b.eachOf (groupLegs g) fun l b => b.wr (Reg.PWM_LEG_STAT_CAUSE l) 5

/-- The next node of a group after `n`. -/
def nextNode (n : Nat) : List Nat → Option Nat
  | a :: c :: r => if a = n then some c else nextNode n (c :: r)
  | _ => none

/-- DIAG_PHASE_END (R261, R262): the timed phase in progress ends; `v` is the node's mean voltage in
    mV over the part of it that the test takes. -/
def Block.diagPhaseEnd (g : Nat) (v : Int) (b : Block) : Block :=
  if !b.bit Reg.PWM_DIAG_STAT_BUSY g then b
  else
    let b := b.untilUp (b.diag g).until_
    let d := b.diag g
    let n := d.node
    let step := b.rd Reg.PWM_DIAG_CFG_STEP_MS * msPs
    match d.phase with
    | 0 =>
      (b.wr (Reg.PWM_DIAG_RESn_V0 n) (satNat 16 (v / 100).toNat)).updDiag g fun d =>
        { d with phase := 1, v0 := v, until_ := d.until_ + step }
    | 1 =>
      (b.wr (Reg.PWM_DIAG_Vn_V1 n) (satNat 16 (v / 10).toNat)).updDiag g fun d =>
        { d with phase := 2, v1 := v, until_ := d.until_ + step }
    | 2 =>
      (b.wr (Reg.PWM_DIAG_Vn_V2 n) (satNat 16 (v / 10).toNat)).updDiag g fun d =>
        { d with phase := 3, v2 := v, until_ := d.until_ + msPs }
    | _ =>
      let c := b.nodeClass n d.v0 d.v1 d.v2
      let b := (b.wr (Reg.PWM_DIAG_RESn_CLASS n) c).updDiag g fun d => { d with ok := d.ok && c == 2 }
      match nextNode n (groupNodes g) with
      | some m =>
        (b.wr (Reg.PWM_DIAG_RESn_CLASS m) 1).updDiag g fun d =>
          { d with node := m, phase := 0, until_ := d.until_ + msPs }
      | none => b.diagEnd g

/-! ### Brake chopper -/

/-- Can the chopper switch on (R264)?  A forced L20 ignores the comparator (R252). -/
def Block.brakeReady (b : Block) : Bool :=
  !b.on (Reg.PWM_LEG_FORCE_EN 20) && b.on Reg.PWM_BRK_STAT_ARMED && b.on Reg.GATE_STAT_GATE24_OK && !b.on (Reg.PWM_LEG_STAT_FENCED 20)

/-- The minimum time of a chopper state, in ps: tmin of L20 (R244, R264). -/
def Block.brakeMin (b : Block) : Nat :=
  nsTicks (b.rd (Reg.PWM_LEG_TIMING_DT 20) + b.rd (Reg.PWM_LEG_TIMING_MINP 20)) * 78125 / 1000

/-- BRAKE_ON (R264). -/
def Block.brakeOn (b : Block) : Block :=
  if b.brakeReady && !b.on Reg.PWM_BRK_STAT_ON then
    let b := b.untilUp (b.lv.brakeAt + b.brakeMin)
    let b := (b.flag Reg.PWM_BRK_STAT_ON true).wr (Reg.PWM_LEG_STAT_STATE 20) 1
    (((b.count Reg.PWM_BRK_CNT_COUNT 1).flag (Reg.GATE_CH_STAT_GATE_OFF 41) false).updLv
      fun v => { v with brakeAt := b.tb.up, brakeLong := false }).emit (.brake true)
  else b

/-- BRAKE_OFF (R264); a forced L20 ignores the comparator (R252). -/
def Block.brakeOff (b : Block) : Block :=
  if b.on Reg.PWM_BRK_STAT_ON && !b.on (Reg.PWM_LEG_FORCE_EN 20) then
    let b := b.untilUp (b.lv.brakeAt + b.brakeMin)
    b.brakeStop (.brake false)
  else b

/-- BRAKE_LONG (R264): once while the chopper stays on. -/
def Block.brakeLong (b : Block) : Block :=
  if b.on Reg.PWM_BRK_STAT_ON && !b.lv.brakeLong then
    let b := b.untilUp (b.lv.brakeAt + b.rd Reg.PWM_BRK_CFG_TMAX_MS * msPs)
    (b.updLv fun v => { v with brakeLong := true }).raise { source := 169 }
  else b

/-- GATE24_CHANGE (R264, R452): GATE24 leaves its range or is back in it.  The brake path follows; channels that are powered
    stay so until their lockout, which GATE_UVLO brings, and configured channels are powered when it is back. -/
def Block.gate24Change (ok : Bool) (b : Block) : Block := (b.flag Reg.GATE_STAT_GATE24_OK ok).powerChannels

/-! ### Meanings -/

def execPwmUpdatePoint (l : Fin 24) (s : State) : Host.Outcome State Fault Refusal := s.onBlk (·.pwmUpdatePoint l)
def execLegEdge (l : Fin 24) (s : State) : Host.Outcome State Fault Refusal := s.onBlk (·.legEdge l)
def execBootstrapRefresh (l : Fin 24) (s : State) : Host.Outcome State Fault Refusal := s.onBlk (·.bootstrapRefresh l)
def execInterlockAct (l : Fin 24) (s : State) : Host.Outcome State Fault Refusal := s.onBlk (·.interlockAct l)
def execInterlockPersist (l : Fin 24) (s : State) : Host.Outcome State Fault Refusal := s.onBlk (·.interlockPersist l)
def execDesatDetect (l : Fin 24) (upper : Bool) (s : State) : Host.Outcome State Fault Refusal :=
  s.onBlk (·.desatDetect l upper)
def execFastCurrentTrip (l : Fin 24) (s : State) : Host.Outcome State Fault Refusal := s.onBlk (·.fastCurrentTrip l)
def execGateStuck (p : Fin 8) (s : State) : Host.Outcome State Fault Refusal := s.onBlk (·.gateStuck p)
def execGateOffConfirmed (p : Fin 8) (s : State) : Host.Outcome State Fault Refusal := s.onBlk (·.gateOffConfirmed p)
def execStaticShort (p : Fin 8) (s : State) : Host.Outcome State Fault Refusal := s.onBlk (·.staticShort p)
def execTripInput (k : Fin 16) (level : Bool) (s : State) : Host.Outcome State Fault Refusal :=
  s.onBlk (·.tripInput k level)
def execGateUvlo (ch : Fin 56) (low : Bool) (s : State) : Host.Outcome State Fault Refusal := s.onBlk (·.gateUvlo ch low)
def execDiagPhaseEnd (g : Fin 12) (v : Int) (s : State) : Host.Outcome State Fault Refusal := s.onBlk (·.diagPhaseEnd g v)
def execBrakeOn (s : State) : Host.Outcome State Fault Refusal := s.onBlk (·.brakeOn)
def execBrakeOff (s : State) : Host.Outcome State Fault Refusal := s.onBlk (·.brakeOff)
def execBrakeLong (s : State) : Host.Outcome State Fault Refusal := s.onBlk (·.brakeLong)
def execGate24Change (ok : Bool) (s : State) : Host.Outcome State Fault Refusal := s.onBlk (·.gate24Change ok)

end Sys2Proof.Machine
end

