-- ==== Sys2Proof/Machine/Port.lean ====
section
/-! DEFINITION. The DC output ports (R273 to R289): states, reference, constant on-time control, hiccup,
    overload and fallback. -/

namespace Sys2Proof.Machine

/-! ### Inputs -/

/-- The latched value of input `i` in tenths of its unit (R304). -/
def Block.ainTenths (b : Block) (i : Nat) : Int :=
  rdiv (b.ainPu i * b.rd (Reg.ADC_IN_BASEi_BASE i)) (2 ^ 24)

/-- The port's output voltage in mV: 1.0 pu is BASE_V volts (R273). -/
def Block.portVout (b : Block) (p : Nat) : Int :=
  rdiv (b.ainPu (b.rd (Reg.PORT_SNS_VOUT_AIN p)) * b.rd Reg.SYS_CONV_LVB_BASE_V * 1000) (2 ^ 24)

/-- The port's output current in 0.1 A: the sum of both phases (R285). -/
def Block.portIout (b : Block) (p : Nat) : Int :=
  b.ainTenths (b.rd (Reg.PORT_SNS_IA_AIN p)) + b.ainTenths (b.rd (Reg.PORT_SNS_IB_AIN p))

/-- The measurements a stroke's image shows, and LIMITING begun anew (R290). -/
def Block.portMeasure (p : Nat) (b : Block) : Block :=
  let b := (b.flag (Reg.PORT_STAT_LIMITING p) false).wr (Reg.PORT_VOUT_V p) (satNat 20 (b.portVout p).toNat)
  let b := b.wrS (Reg.PORT_IPH_IA p) (clampI (b.ainTenths (b.rd (Reg.PORT_SNS_IA_AIN p))) (-32768) 32767)
  b.wrS (Reg.PORT_IPH_IB p) (clampI (b.ainTenths (b.rd (Reg.PORT_SNS_IB_AIN p))) (-32768) 32767)

/-! ### Fallback (R287, R288) -/

/-- Fallback is active; a module without the token ignores it. -/
def Block.fbActive (b : Block) : Bool :=
  (b.on Reg.PORT_FB_STAT_HOST || b.on Reg.PORT_FB_STAT_PIN) && b.holds

/-- The fallback entry in use, in 10 mV. -/
def Block.fbEntry (b : Block) (p : Nat) : Nat := b.rd (Reg.PORT_FB_VSELk_V p (b.rd Reg.PORT_FB_STAT_VSEL))

/-- The run request of port `p` (R274, R288). -/
def Block.runReq (b : Block) (p : Nat) : Bool :=
  if b.fbActive then
    b.fbEntry p != 0 && (b.on (Reg.PORT_CFG_RUN p) || b.on (Reg.PORT_CFG_FB_START p))
  else b.on (Reg.PORT_CFG_RUN p)

/-- The target v_t of port `p` in µV (R276, R288). -/
def Block.portTarget (b : Block) (p : Nat) : Nat :=
  if b.fbActive then b.fbEntry p * 10000 else b.rd (Reg.PORT_VCMD_V p) * 10000

/-- Judge fallback: ACTIVE and each port's FALLBACK follow, and entering and leaving raise
    PORT_FALLBACK for each port, with detail 1 for host loss and 2 for the pin. -/
def Block.judgeFallback (b : Block) : Block :=
  let now := b.fbActive
  let detail := if b.on Reg.PORT_FB_STAT_HOST then 1 else 2
  let b := b.flag Reg.PORT_FB_STAT_ACTIVE now
  b.each 8 fun p b =>
    let b := b.flag (Reg.PORT_STAT_FALLBACK p) now
    match (b.port p).fallback with
    | some d =>
      if now then b
      else (b.updPort p fun x => { x with fallback := none }).raise
        { source := 195, unitType := 4, idx := p, extra := d }
    | none =>
      if now then (b.updPort p fun x => { x with fallback := some detail }).raise
        { source := 195, unitType := 4, idx := p, extra := detail }
      else b

/-- The uptime at which the host counts as lost, in TIME_NS: TIMEOUT_MS after its last command (R287). -/
def Block.hostLossAt (b : Block) : Nat :=
  b.rd64 Reg.SYS_HOST_RX_LO_TIME Reg.SYS_HOST_RX_HI_TIME + b.rd Reg.PORT_FB_CFG_TIMEOUT_MS * 1000000

/-- Host loss is watched: a timeout is set, and the token is held (R22, R287). -/
def Block.hostWatched (b : Block) : Bool := b.rd Reg.PORT_FB_CFG_TIMEOUT_MS != 0 && b.holds

/-- Host loss is judged at a boundary (R287). -/
def Block.hostLossJudge (b : Block) : Block :=
  if b.hostWatched && decide (b.hostLossAt ≤ b.ns) then (b.flag Reg.PORT_FB_STAT_HOST true).judgeFallback else b

/-- FALLBACK_HOST_LOSS (R287): TIMEOUT_MS without a command; judged at a boundary. -/
def Block.fallbackHostLoss (b : Block) : Block :=
  if b.hostWatched then
    let b := b.until b.hostLossAt
    if b.atBoundary then b.hostLossJudge else b
  else b

/-- A RESUME write ends the host-loss condition, from the next boundary on (R40, R287). -/
def Block.resumeTakes (b : Block) : Block :=
  if b.lv.fbResume then
    ((b.updLv fun v => { v with fbResume := false }).flag Reg.PORT_FB_STAT_HOST false).judgeFallback
  else b

/-- Fallback at a boundary (R287). -/
def Block.fallbackBoundary (b : Block) : Block := (b.resumeTakes).hostLossJudge

/-- The pin condition: the pin has been low, and it is honoured; fallback is judged anew after a change of the pin, of
    the configuration in force, or of the token (R22, R287, R288). -/
def Block.fallbackAgain (b : Block) : Block :=
  (b.flag Reg.PORT_FB_STAT_PIN (b.on Reg.PORT_FB_CFG_PIN_EN && b.lv.fbPin)).judgeFallback

/-- FALLBACK_PIN (R287): MODE_FB_N equal at 8 consecutive boundaries. -/
def Block.fallbackPin (low : Bool) (b : Block) : Block := (b.updLv fun v => { v with fbPin := low }).fallbackAgain

/-- VSEL_SAMPLE (R287): a value equal at 8 consecutive boundaries is taken. -/
def Block.vselSample (v : Nat) (b : Block) : Block := b.wr Reg.PORT_FB_STAT_VSEL v

/-! ### States (R274, R275) -/

/-- Round `rate × period ÷ 10` and the soft-start step half away from zero (R276). -/
def Block.ssStepOf (b : Block) (p : Nat) : Nat :=
  (rdiv (b.portTarget p * b.rd Reg.SYS_STROKE_NS_PERIOD) (b.rd (Reg.PORT_SLEW_SS_MS p) * 1000000)).toNat

/-- Enter SOFT: r is 0, the soft-start step is set, the legs rest until the first on-time, and the
    port's context is initialised (R276, R283). -/
def Block.enterSoft (p : Nat) (b : Block) : Block :=
  let b := b.portState p 3
  let step := b.ssStepOf p
  let b := b.updPort p fun x =>
    { x with ssStep := step, trunc := 0, onA := none, onB := none, offA := none, offB := none
             restA := true, restB := true, waiting := false, ripA := [], ripB := [] }
  let b := b.eachOf [2 * p, 2 * p + 1] fun l b => (b.takeCfg l (b.cfgAt l (b.tickIn 0))).updLeg l fun x =>
    { x with switching := true, lowerLast := b.tb.up }
  b.updCtx (b.rd Reg.ARM_MAP1_PORT_BASE + p) fun c => { c with init := true }

/-- The port stops under R278: no further on-time; each leg rests once its current is gone. -/
def Block.portStopping (p : Nat) (b : Block) : Block :=
  (b.portState p 6).updPort p fun x => { x with waiting := false }

/-- The static switch of a port in STOPPING opens; that of one stopped at once does so only once its gates are confirmed
    off (R278, R279). -/
def Block.portOpens (p : Nat) (b : Block) : Block := if (b.port p).atOnce then b else b.openSwitch p false

/-- STOPPING ends: GSp opens; IDLE, or WAIT when the run request is 1 (R275, R278). -/
def Block.portStopped (p : Nat) (b : Block) : Block :=
  let b := b.eachOf ([2 * p, 2 * p + 1].filter b.portLeg) fun l b => b.holdLeg l false
  (b.portOpens p).portState p (if b.runReq p then 1 else 0)

/-- Both legs of the port rest with both switches off (R278). -/
def Block.portRests (b : Block) (p : Nat) : Bool :=
  let x := b.port p
  (x.restA || b.rd (Reg.PWM_LEG_STAT_STATE (2 * p)) == 0) && (x.restB || b.rd (Reg.PWM_LEG_STAT_STATE (2 * p + 1)) == 0)

/-- The conditions of WAIT to CLOSING (R275). -/
def Block.portMayClose (b : Block) (p : Nat) : Bool :=
  b.rd Reg.SYS_CONV_STAT_STATE == 3 && b.holds && !b.on Reg.PWM_STAT_MULTI
    && !b.on (Reg.PWM_LEG_STAT_FENCED (2 * p)) && !b.on (Reg.PWM_LEG_STAT_FENCED (2 * p + 1))
    && b.bit Reg.PWM_DIAG_STAT_PASS p && !b.bit Reg.PWM_DIAG_STAT_BUSY p && !(b.diag p).owed

/-- WAIT runs the group's diagnostics again when it has not passed since a fence (R286). -/
def Block.portWaitDiag (p : Nat) (b : Block) : Block :=
  if (b.diag p).owed && !b.on (Reg.PWM_LEG_STAT_FENCED (2 * p)) && !b.on (Reg.PWM_LEG_STAT_FENCED (2 * p + 1))
  then b.startDiag p else b

/-- GSp is confirmed closed and T_CLOSE_MS have passed since it was commanded (R275). -/
def Block.portClosed (b : Block) (p : Nat) : Bool :=
  b.bit Reg.GATE_SS_STAT_CLOSED p
    && decide ((b.port p).entered + b.rd (Reg.PORT_SEQ_T_CLOSE_MS p) * msPs ≤ b.tb.up)

/-- OFF_MS have passed since HICCUP was entered (R275, R284). -/
def Block.portOffOver (b : Block) (p : Nat) : Bool :=
  decide ((b.port p).entered + b.rd (Reg.PORT_HIC_OFF_MS p) * msPs ≤ b.tb.up)

/-- A hiccup's retry is counted, and SOFT is entered again with r = 0 (R284). -/
def Block.portRetry (p : Nat) (b : Block) : Block := (b.count (Reg.PORT_STAT_RETRIES p) 1).enterSoft p

/-- A close that was not confirmed in time fences the port at a boundary, with cause 0x5 (R275). -/
def Block.portCloseJudge (p : Nat) (b : Block) : Block :=
  if b.rd (Reg.PORT_STAT_STATE p) = 2 ∧ (b.port p).closeFail then
    b.raiseOwn { source := 196, unitType := 4, idx := p } (some 5)
  else b

/-- The triggers a boundary judges by itself (R275).  `leaving`: the converter is not in RUN;
    `faulted`: it enters FAULTED or HALTED here, and the port stops as R279 states. -/
def Block.portBoundary (p : Nat) (leaving faulted : Bool) (b : Block) : Block :=
  let st := b.rd (Reg.PORT_STAT_STATE p)
  let b := if faulted then b.stopPort p false else b
  match st with
  | 0 => if b.runReq p then b.portState p 1 else b
  | 1 =>
    let b := b.portWaitDiag p
    if b.portMayClose p then
      let b := (b.portState p 2).updPort p fun x => { x with closing := true, opening := false, atOnce := false }
      b.emit (.staticSwitch p true false)
    else b
  | 6 =>
    let x := b.port p
    if (b.portRests p && !x.opening) || decide (x.entered + msPs ≤ b.tb.up) then b.portStopped p else b
  | 7 => b
  | 8 => b
  | _ =>
    if leaving || !b.runReq p then b.portStopping p
    else if st = 2 then (if b.portClosed p then b.enterSoft p else b)
    else if st = 5 then (if b.portOffOver p then b.portRetry p else b)
    else if st = 3 ∧ (b.port p).r = b.portTarget p then b.portState p 4
    else if st = 4 ∧ (b.port p).entered + 1000 * msPs ≤ b.tb.up then b.wr (Reg.PORT_STAT_RETRIES p) 0
    else b

/-- The reference moves one step toward the target at a timed boundary (R276). -/
def Block.portRefStep (p : Nat) (b : Block) : Block :=
  let st := b.rd (Reg.PORT_STAT_STATE p)
  let x := b.port p
  let vt := b.portTarget p
  let step :=
    if st = 3 then x.ssStep
    else (rdiv (b.rd (Reg.PORT_SLEW_RATE p) * b.rd Reg.SYS_STROKE_NS_PERIOD) 10).toNat
  let r := if st = 3 ∨ st = 4 then (if x.r < vt then min (x.r + step) vt else max (x.r - step) vt) else 0
  (b.updPort p fun x => { x with r := r }).wr (Reg.PORT_VREF_R p) (satNat 20 ((r + 500) / 1000))

/-- The overload integrator, in every timed stroke; at 1.0 the port is fenced with cause 0x3
    (R285, R286). -/
def Block.portOverload (p : Nat) (b : Block) : Block :=
  let io := max (b.portIout p) 0
  let iovl : Int := b.rd (Reg.PORT_OVL_I_OVL p)
  let s := min (rdiv (io * io * 2 ^ 24) (iovl * iovl)) (2 ^ 31 - 1)
  let th : Int := b.rd (Reg.PORT_THETA_THETA p)
  let th' := th + rdiv ((s - th) * b.rd Reg.SYS_STROKE_NS_PERIOD) (b.rd (Reg.PORT_OVL_TAU_MS p) * 1000000)
  let b := b.wr (Reg.PORT_THETA_THETA p) th'.toNat
  if 2 ^ 24 ≤ th' ∧ th < 2 ^ 24 then b.raiseOwn { source := 194, unitType := 4, idx := p } (some 3) else b

/-- PORT_CLOSE_SETTLED (R275): GSp is confirmed closed and T_CLOSE_MS have passed; SOFT follows at a boundary, this
    instant's or the next (log entry 35). -/
def Block.portCloseSettled (p : Nat) (b : Block) : Block :=
  if b.rd (Reg.PORT_STAT_STATE p) = 2 then
    let b := b.untilUp ((b.port p).entered + b.rd (Reg.PORT_SEQ_T_CLOSE_MS p) * msPs)
    let b := (b.setBit Reg.GATE_SS_STAT_CLOSED p true).updPort p fun x => { x with closing := false }
    let b := b.flag (Reg.GATE_CH_STAT_GATE_OFF (48 + p)) false
    if b.atBoundary then b.enterSoft p else b
  else b

/-- PORT_CLOSE_FAIL (R275): the close is not confirmed within 1 ms; the port is fenced at a boundary, this instant's or the
    next (log entry 35). -/
def Block.portCloseFail (p : Nat) (b : Block) : Block :=
  if b.rd (Reg.PORT_STAT_STATE p) = 2 ∧ !b.bit Reg.GATE_SS_STAT_CLOSED p then
    let b := (b.untilUp ((b.port p).entered + msPs)).updPort p fun x => { x with closeFail := true }
    if b.atBoundary then b.portCloseJudge p else b
  else b

/-- PORT_STOP_COMPLETE (R278): both legs rest, or 1 ms has passed since entry and GSp opens; the port leaves STOPPING
    at a boundary, this instant's or the next. -/
def Block.portStopComplete (p : Nat) (b : Block) : Block :=
  if b.rd (Reg.PORT_STAT_STATE p) = 6 then
    let b := b.eachOf [2 * p, 2 * p + 1] fun l b => b.settleLeg l
    let b :=
      if b.portRests p && !(b.port p).opening then b
      else (b.untilUp ((b.port p).entered + msPs)).portOpens p
    if b.atBoundary then b.portStopped p else b
  else b

/-- PORT_RETRY_RESET (R275): 1 s spent continuously in REGULATE. -/
def Block.portRetryReset (p : Nat) (b : Block) : Block :=
  if b.rd (Reg.PORT_STAT_STATE p) = 4 then
    (b.untilUp ((b.port p).entered + 1000 * msPs)).wr (Reg.PORT_STAT_RETRIES p) 0
  else b

/-! ### Hiccup (R281, R284) -/

/-- A hiccup condition holds: HICCUP, or after three retries LATCHED with cause 0x1.  `detail`: 1 fast
    limit, 2 soft start. -/
def Block.hiccup (p detail : Nat) (b : Block) : Block :=
  let st := b.rd (Reg.PORT_STAT_STATE p)
  if st ≠ 3 ∧ st ≠ 4 then b
  else if b.rd (Reg.PORT_STAT_RETRIES p) < 3 then
    let b := (b.portState p 5).updPort p fun x => { x with trunc := 0, waiting := false }
    (b.count (Reg.PORT_HIC_CNT_COUNT p) 1).raise { source := 192, unitType := 4, idx := p, extra := detail }
  else
    let b := (b.latchPort p 1 false).updPort p fun x => { x with trunc := 0 }
    b.raise { source := 193, unitType := 4, idx := p }

/-- The soft-start criterion: SS_MS + 5 ms since entry into SOFT and the output below 10 % of r. -/
def Block.softFails (b : Block) (p : Nat) : Bool :=
  b.rd (Reg.PORT_STAT_STATE p) == 3
    && decide ((b.port p).entered + (b.rd (Reg.PORT_SLEW_SS_MS p) + 5) * msPs ≤ b.tb.up)
    && decide (b.portVout p * 10000 < (b.port p).r)

/-- SOFT_START_CHECK (R281). -/
def Block.softStartCheck (p : Nat) (b : Block) : Block :=
  if b.rd (Reg.PORT_STAT_STATE p) = 3 then
    let b := b.untilUp ((b.port p).entered + (b.rd (Reg.PORT_SLEW_SS_MS p) + 5) * msPs)
    if b.softFails p then b.hiccup p 2 else b
  else b

/-- HICCUP_CONDITION (R284): whichever criterion of R281 holds. -/
def Block.hiccupCondition (p : Nat) (b : Block) : Block :=
  if 8 ≤ (b.port p).trunc then b.hiccup p 1 else if b.softFails p then b.hiccup p 2 else b

/-- HICCUP_OFF_END (R284): OFF_MS have passed; the retry follows at a boundary, this instant's or the next. -/
def Block.hiccupOffEnd (p : Nat) (b : Block) : Block :=
  if b.rd (Reg.PORT_STAT_STATE p) = 5 then
    let b := b.untilUp ((b.port p).entered + b.rd (Reg.PORT_HIC_OFF_MS p) * msPs)
    if b.atBoundary then b.portRetry p else b
  else b

/-! ### Constant on-time control (R280 to R282) -/

/-- The values formed apply to an on-time that starts at `t` once their instant has come (R281). -/
def PortSt.values (x : PortSt) (t : Int) : PortSt :=
  match x.formed with
  | some (on, cmp, eff) => if eff ≤ t then { x with ton := on, vcmp := cmp, formed := none } else x
  | none => x

/-- Form t_on and v_cmp at 720 ns (R281).  `u`: posted output of the port's context, which is ignored outside SOFT and
    REGULATE (R283).  Those of the stroke before apply until 1,000 ns. -/
def Block.portForm (p : Nat) (u : Int) (b : Block) : Block :=
  let st := b.rd (Reg.PORT_STAT_STATE p)
  let up := if st = 3 ∨ st = 4 then u else 0
  let vb := b.rdS (Reg.ARM_CTX_FB_FB (b.rd Reg.ARM_MAP0_LVBUS))
  let rp := rdiv ((b.port p).r * 2 ^ 24) (b.rd Reg.SYS_CONV_LVB_BASE_V * 1000000)
  let tsw : Int := b.rd (Reg.PORT_TSW_TSW p)
  let ton := if vb ≤ 0 then 0
    else clampI (rdiv (tsw * rp) vb) 0 (tsw - nsTicks (b.rd (Reg.PORT_TLIM_TOFF_MIN p)))
  let vcmp := clampI (rp + up) 0 vb
  (b.wr (Reg.PORT_TON_TON p) ton.toNat).updPort p fun x =>
    { x.values ((b.strk.b + 720 : Nat) * 64) with formed := some (ton.toNat, vcmp, (b.strk.b + 1000 : Nat) * 64) }

/-- Twice the area under breakpoints, the latest first, back to instant `from_`; before the first the ripple is 0. -/
def ripArea (from_ : Int) : List (Int × Int) → Int
  | (t, w) :: (s, v) :: r =>
    if from_ ≤ s then (w + v) * (t - s) + ripArea from_ ((s, v) :: r)
    else (w + (v + rdiv ((w - v) * (from_ - s)) (t - s))) * (t - from_)
  | _ => 0

/-- A ripple with its mean over the last `tsw` ticks removed (R280). -/
def ripValue (tsw : Nat) (h : List (Int × Int)) : Int :=
  match h with
  | [] => 0
  | (t, w) :: _ => w - rdiv (ripArea (t - 5 * tsw) h) (10 * tsw)

/-- Breakpoints that the last `tsw` ticks before `t` do not need are dropped. -/
def ripKeep (from_ : Int) : List (Int × Int) → List (Int × Int)
  | (t, w) :: r => if from_ ≤ t then (t, w) :: ripKeep from_ r else [(t, w)]
  | [] => []

/-- A phase's ripple up to instant `t`: it rises at K × (v_bus − v_out) until its on-time ends at `on`, and falls at K × v_out
    otherwise (R280).  `k`: KRIP; `vb`, `vo`: v_bus and v_out in 2^-24 pu. -/
def ripTo (k vb vo : Int) (tsw : Nat) (on : Option Int) (t : Int) (h : List (Int × Int)) : List (Int × Int) :=
  let h := if h.isEmpty then [(t, 0)] else h
  let line (slope : Int) (e : Int) (h : List (Int × Int)) : List (Int × Int) := match h with
    | (s, w) :: r => if s < e then (e, w + slope * (e - s)) :: (s, w) :: r else h
    | [] => h
  let h := match on with
    | some e => line (k * (vb - vo)) (min t e) h
    | none => h
  ripKeep (t - 5 * tsw) (line (-(k * vo)) t h)

/-- Both ripples of port `p` up to instant `t`, from v_out on the port's input and v_bus of the LV bus context (R273, R280). -/
def Block.portRipple (p : Nat) (t : Int) (b : Block) : Block :=
  let k : Int := b.rd (Reg.PORT_RIPPLE_KRIP p)
  let vb := b.rdS (Reg.ARM_CTX_FB_FB (b.rd Reg.ARM_MAP0_LVBUS))
  let vo := b.ainPu (b.rd (Reg.PORT_SNS_VOUT_AIN p))
  let tsw := b.rd (Reg.PORT_TSW_TSW p)
  b.updPort p fun x => { x with ripA := ripTo k vb vo tsw x.onA t x.ripA, ripB := ripTo k vb vo tsw x.onB t x.ripB }

/-- The comparator of port `p` at instant `t`: v_out + v_rA + v_rB lies below v_cmp (R280, log entry 36). -/
def Block.comparatorLow (b : Block) (p : Nat) (t : Int) : Bool :=
  let b := b.portRipple p t
  let x := (b.port p).values t
  let tsw := b.rd (Reg.PORT_TSW_TSW p)
  let vo := b.ainPu (b.rd (Reg.PORT_SNS_VOUT_AIN p))
  decide (vo * (2 ^ 16 * 64000) + ripValue tsw x.ripA + ripValue tsw x.ripB < x.vcmp * (2 ^ 16 * 64000))

/-- Is phase `second` of the port in an on-time? -/
def PortSt.onOf (x : PortSt) (second : Bool) : Option Int := if second then x.onB else x.onA

/-- Start an on-time on the phase whose turn it is, at the instant `t` or later (R245, R250, R280): a start less than
    tmin after the leg's last edge is delayed to then, one in a bootstrap refresh to its end; an on-time below tmin is
    swallowed or stretched.  None where a trip holds the leg before it (R258). -/
def Block.startOn (p : Nat) (t : Int) (b : Block) : Block :=
  let turn := (b.port p).turn
  let l := if turn then 2 * p + 1 else 2 * p
  let b := b.takeCfg l (b.cfgAt l t)
  let leg := b.leg l
  let tm := leg.tmin
  let earliest := match leg.lastEdge with
    | some e => e + 5 * (tm : Int)
    | none => t
  let late := decide (t < earliest)
  let t := max (max t earliest) (leg.refreshEnd.getD t)
  let b := b.updPort p fun x => { x.values t with turn := !x.turn, waiting := false }
  let ton := (b.port p).ton
  if ton < tm ∧ !leg.stretch then b.count (Reg.PWM_LEG_CNT_SWALLOW l) 1
  else
    let n := (if late then 1 else 0) + (if ton < tm then 1 else 0)
    let fin := t + 5 * (max ton tm : Nat)
    let b := (b.untilI t).tripsJudge
    if !(b.leg l).switching then b
    else
      let b := ((b.portRipple p t).count (Reg.PWM_LEG_CNT_STRETCH l) n).legTo l t leg.dt true
      b.updPort p fun y =>
        if turn then { y with onB := some fin, restB := false } else { y with onA := some fin, restA := false }

/-- COT_COMPARATOR_FIRE (R280): the edge to upper falls on the first tick at least 40 ns later; the
    start waits for its phase's on-time and minimum off-time.  Legs that are held start none (R279), and nor does a comparator
    whose inputs do not stand below v_cmp. -/
def Block.cotComparatorFire (p : Nat) (b : Block) : Block :=
  let st := b.rd (Reg.PORT_STAT_STATE p)
  if (st ≠ 3 ∧ st ≠ 4) ∨ !(b.leg (2 * p)).switching ∨ !(b.leg (2 * p + 1)).switching
      ∨ !b.comparatorLow p (b.tickIn 0) then b
  else
    let x := b.port p
    let t := b.tickIn 40
    match x.onOf x.turn with
    | some _ => b.updPort p fun x => { x with waiting := true }
    | none =>
      match (if x.turn then x.offB else x.offA) with
      | some e => b.startOn p (max t (e + 5 * nsTicks (b.rd (Reg.PORT_TLIM_TOFF_MIN p))))
      | none => b.startOn p t

/-- An on-time of a phase ends at instant `t`: the lower switch conducts; a start that waited for the
    phase follows after its minimum off-time (R280).  Nothing where a trip has held the leg (R258). -/
def Block.endOn (p : Nat) (second : Bool) (t : Int) (b : Block) : Block :=
  let l := if second then 2 * p + 1 else 2 * p
  let b := (b.untilI t).tripsJudge
  if !(b.leg l).switching then b
  else
  let b := b.portRipple p t
  -- in a bootstrap refresh the edge to lower is redundant
  let b := if 2 ≤ b.rd (Reg.PWM_LEG_STAT_STATE l) then b.legTo l t (b.leg l).dt false
    else b.updLeg l fun x => { x with edges := [] }
  let b := b.updPort p fun x =>
    if second then { x with onB := none, offB := some t } else { x with onA := none, offA := some t }
  let x := b.port p
  let st := b.rd (Reg.PORT_STAT_STATE p)
  if x.waiting && (x.turn == second) && (st == 3 || st == 4) then
    b.startOn p (t + 5 * nsTicks (b.rd (Reg.PORT_TLIM_TOFF_MIN p)))
  else b

/-- ON_TIME_END (R280): after t_on; the on-time was not limited (R281). -/
def Block.onTimeEnd (p : Nat) (second : Bool) (b : Block) : Block :=
  match (b.port p).onOf second with
  | some t => (b.updPort p fun x => { x with trunc := 0 }).endOn p second t
  | none => b

/-- DIODE_EMULATION_END (R280): the leg rests with both switches off until its next on-time. -/
def Block.diodeEmulationEnd (p : Nat) (second : Bool) (b : Block) : Block :=
  let l := if second then 2 * p + 1 else 2 * p
  let b := b.settleLeg l
  if b.rd (Reg.PWM_LEG_STAT_STATE l) = 1 ∧ b.portLeg l then
    let b := ((b.wr (Reg.PWM_LEG_STAT_STATE l) 0).flag (Reg.GATE_CH_STAT_GATE_OFF (2 * l + 1))
      (b.on (Reg.GATE_CH_STAT_POWERED (2 * l + 1)))).updLeg l fun x =>
        { x with dead := none, restAt := none, lowerLast := b.tb.up }
    (b.updPort p fun x => if second then { x with restB := true } else { x with restA := true }).emit (.rest l)
  else b

/-- FAST_LIMIT_TRIP (R282): the on-time in progress ends now; the eighth in a row is a hiccup
    condition (R281). -/
def Block.fastLimitTrip (p : Nat) (second : Bool) (b : Block) : Block :=
  match (b.port p).onOf second with
  | none => b
  | some _ =>
    let b := (b.count (Reg.PORT_LIM_CNT_COUNT p) 1).flag (Reg.PORT_STAT_LIMITING p) true
    let b := b.updPort p fun x => { x with trunc := x.trunc + 1, waiting := x.waiting && decide (x.trunc < 7) }
    let b := b.endOn p second (b.tickIn 0)
    if 8 ≤ (b.port p).trunc then b.hiccup p 1 else b

/-! ### Meanings -/

def execPortCloseSettled (p : Fin 8) (s : State) : Host.Outcome State Fault Refusal := s.onBlk (·.portCloseSettled p)
def execPortCloseFail (p : Fin 8) (s : State) : Host.Outcome State Fault Refusal := s.onBlk (·.portCloseFail p)
def execCotComparatorFire (p : Fin 8) (s : State) : Host.Outcome State Fault Refusal := s.onBlk (·.cotComparatorFire p)
def execOnTimeEnd (p : Fin 8) (second : Bool) (s : State) : Host.Outcome State Fault Refusal :=
  s.onBlk (·.onTimeEnd p second)
def execDiodeEmulationEnd (p : Fin 8) (second : Bool) (s : State) : Host.Outcome State Fault Refusal :=
  s.onBlk (·.diodeEmulationEnd p second)
def execFastLimitTrip (p : Fin 8) (second : Bool) (s : State) : Host.Outcome State Fault Refusal :=
  s.onBlk (·.fastLimitTrip p second)
def execHiccupCondition (p : Fin 8) (s : State) : Host.Outcome State Fault Refusal := s.onBlk (·.hiccupCondition p)
def execSoftStartCheck (p : Fin 8) (s : State) : Host.Outcome State Fault Refusal := s.onBlk (·.softStartCheck p)
def execHiccupOffEnd (p : Fin 8) (s : State) : Host.Outcome State Fault Refusal := s.onBlk (·.hiccupOffEnd p)
def execPortStopComplete (p : Fin 8) (s : State) : Host.Outcome State Fault Refusal := s.onBlk (·.portStopComplete p)
def execPortRetryReset (p : Fin 8) (s : State) : Host.Outcome State Fault Refusal := s.onBlk (·.portRetryReset p)
def execFallbackHostLoss (s : State) : Host.Outcome State Fault Refusal := s.onBlk (·.fallbackHostLoss)
def execFallbackPin (low : Bool) (s : State) : Host.Outcome State Fault Refusal := s.onBlk (·.fallbackPin low)
def execVselSample (v : BitVec 3) (s : State) : Host.Outcome State Fault Refusal := s.onBlk (·.vselSample v.toNat)

end Sys2Proof.Machine
end

