-- ==== Sys2Proof/Machine/Flash.lean ====
section
/-! DEFINITION. The bulk channels' records (R422, R425), the operations of the firmware channels 8 to 11, and the flash
    blocks beneath them: where each stands and how often it has been erased (R437). -/

namespace Sys2Proof.Machine

/-! ### Bulk channels -/

/-- Bulk channel `n`. -/
def Block.chan (b : Block) (n : Nat) : ChanSt := SMap.look default b.dma.chans n

/-- Change the record of channel `n`. -/
def Block.updChan (n : Nat) (f : ChanSt → ChanSt) (b : Block) : Block :=
  b.updDma fun d => { d with chans := SMap.store default n (f (b.chan n)) d.chans }

/-- The channel is running or it is not (R438). -/
def Block.chanBusy (k : Nat) (on : Bool) (b : Block) : Block :=
  (b.flag (Reg.DMA_CH_STAT_BUSY k) on).flag (Reg.DMA_CH_STAT_STOPPED k) (!on)

/-- An operation of firmware channel `n` begins, with bursts to move; none does while the engine is halted (R422, R432). -/
def Block.fwBegin (n bursts : Nat) (b : Block) : Block :=
  if b.on Reg.DMA_STAT_HALTED then b
  else (b.updChan n fun c => { c with left := bursts, grantAt := b.tb.up }).chanBusy n true

/-- The operation of firmware channel `n` is over; one that completed is counted (R438), and what it had retried is past
    (R433). -/
def Block.fwEnd (n : Nat) (ok : Bool) (b : Block) : Block :=
  let b := b.updDma fun d => { d with retried := d.retried.filter (· ≠ n) }
  if !b.on (Reg.DMA_CH_STAT_BUSY n) then b
  else
    let b := (b.updChan n fun _ => default).chanBusy n false
    if ok then b.bump (Reg.DMA_CH_CNT_COUNT n) else b

/-! ### Flash blocks (R437)

The flash has 2,048 blocks of 128 KiB, numbered by their offset.  Blocks 1,168 to 1,423 hold the event ring, 1,424 to 1,551
the two copies of the ledger, and 1,552 to 2,047 are the reserve.  A block of the ring or the ledger stands where wear
levelling has put it; at first, at its own number. -/

/-- The blocks of the event ring and the ledger, and all that wear levelling moves among. -/
def flashHomes : List Nat := (List.range 384).map (· + 1168)
/-- With the reserve. -/
def wearBlocks : List Nat := (List.range 880).map (· + 1168)

/-- Where a block of the ring or the ledger stands. -/
def Block.placeOf (b : Block) (h : Nat) : Nat := SMap.look h b.boot.placed h

/-- How often a block has been erased.  The blocks that an image is staged in are counted at their first. -/
def Block.erasesOf (b : Block) (p : Nat) : Nat := SMap.look 0 b.boot.erases p

/-- A block is erased; MAX_ERASE shows the highest count held by any (R437, R439). -/
def Block.blockErased (p : Nat) (b : Block) : Block :=
  let n := b.erasesOf p + 1
  let b := b.updBoot fun x => { x with erases := SMap.store 0 p n x.erases }
  b.wr Reg.DMA_BG_WEAR_MAX_ERASE (satNat 24 (max n (b.rd Reg.DMA_BG_WEAR_MAX_ERASE)))

/-- A block of the ring or the ledger is erased where it stands. -/
def Block.homeErased (h : Nat) (b : Block) : Block := b.blockErased (b.placeOf h)

/-- The blocks a commit of the ledger writes: 2 MiB of each copy (R18, R434, log entry 143). -/
def ledgerBlocks : List Nat := (List.range 16).map (· + 1424) ++ (List.range 16).map (· + 1488)

/-- The first of a list that no other exceeds by `key`. -/
def firstMost (key : Nat → Nat) : List Nat → Option Nat
  | [] => none
  | p :: r => some (r.foldl (fun a q => if key a < key q then q else a) p)

/-- The first of a list that none falls below. -/
def firstLeast (key : Nat → Nat) : List Nat → Option Nat
  | [] => none
  | p :: r => some (r.foldl (fun a q => if key q < key a then q else a) p)

/-- The home that stands in the block that is to move: the block with the fewest erases (R437). -/
def Block.movedHome (b : Block) : Option Nat :=
  match firstLeast b.erasesOf wearBlocks with
  | none => none
  | some src => flashHomes.find? fun h => b.placeOf h == src

/-- The ledger is held in two copies (R18). -/
def duplicated (h : Option Nat) : Bool :=
  match h with
  | some h => decide (1424 ≤ h) && decide (h < 1552)
  | none => false

/-- The block with the fewest erases among the ring, the ledger and the reserve moves to a free block, and what it leaves is
    freed (R437).  Of equal counts the lowest number is taken, the free block is that with the most erases, and a block is
    erased as it is freed (log entry 143). -/
def Block.blockMoves (b : Block) : Block :=
  match firstLeast b.erasesOf wearBlocks with
  | none => b
  | some src =>
    let used := flashHomes.map fun h => (h, b.placeOf h)
    let free := wearBlocks.filter fun p => p ≠ src && !used.any fun u => u.2 == p
    let b := match used.find? fun u => u.2 == src, firstMost b.erasesOf free with
      | some u, some dst => b.updBoot fun x => { x with placed := SMap.store u.1 u.1 dst x.placed }
      | _, _ => b
    b.blockErased src

end Sys2Proof.Machine
end

