-- ==== Sys2Proof/Machine/Ledger.lean ====
section
/-! DEFINITION. The patina ledger (R227 to R230): counting temperature cycles, wear indices and commits
    to flash. -/

namespace Sys2Proof.Machine

/-- The bin of a cycle of a range and a mean in 1/16 °C (R228). -/
def ledgerBin (range mean : Int) : Nat :=
  8 * (min (range.toNat / 64) 15) + min (mean.toNat / 320) 7

/-- The four-point rainflow over a residue, newest first: what is left, and the cycles counted as range
    and mean (R228).  `fuel` bounds the loop; the residue's length is enough. -/
def rainflow : Nat → List Int → List (Int × Int) → List Int × List (Int × Int)
  | 0, tp, cs => (tp, cs)
  | n + 1, s4 :: s3 :: s2 :: s1 :: r, cs =>
    let i := |s2 - s3|
    if |s1 - s2| < i ∨ |s3 - s4| < i then (s4 :: s3 :: s2 :: s1 :: r, cs)
    else rainflow n (s4 :: s1 :: r) (if 32 ≤ i then (i, (s2 + s3).tdiv 2) :: cs else cs)
  | _ + 1, tp, cs => (tp, cs)

/-- Add one to a bin, saturating. -/
def countBin (m : SMap Nat) (k : Nat) : SMap Nat := SMap.store 0 k (satNat 32 (SMap.look 0 m k + 1)) m

/-- A turning point is pushed: the stream, and how many cycles it counted (R228). -/
def Stream.push (s : Stream) : Stream × Nat :=
  let tp := s.ext :: s.tp
  let (tp, cs) := rainflow tp.length tp []
  ({ s with tp := tp.take 64, bins := cs.foldl (fun m c => countBin m (ledgerBin c.1 c.2)) s.bins }, cs.length)

/-- One sample of a stream: the stream, and how many cycles it counted (R228).  The first sample of a record is its
    running extreme, of a falling direction (log entry 46). -/
def Stream.sample (s : Stream) (x : Int) : Stream × Nat :=
  if !s.begun then ({ s with begun := true, ext := x, dir := -1 }, 0)
  else if 0 ≤ s.dir ∧ s.ext < x then ({ s with ext := x }, 0)
  else if s.dir ≤ 0 ∧ x < s.ext then ({ s with ext := x }, 0)
  else if 16 ≤ |x - s.ext| then
    let (t, n) := s.push
    ({ t with dir := if s.ext < x then 1 else -1, ext := x }, n)
  else (s, 0)

/-- A stream of the ledger, by record × 4 + group. -/
def Block.stream (b : Block) (k : Nat) : Stream := SMap.look default b.cells.streams k

/-- One sample of group `g` of a record; a slot's cycles are counted in all its groups (R228, R233). -/
def Block.ledgerSample (record g : Nat) (x : Int) (b : Block) : Block :=
  let k := 4 * record + g
  let (t, n) := (b.stream k).sample x
  let b := b.updCells fun c => { c with streams := SMap.store default k t c.streams }
  if record < 192 then b.count (Reg.CELL_CYCLES_COUNT record) n else b

/-- The samples of one stroke (R227): reports used in it, enabled leg records, and the driver dies.
    A local input is read with 1.0 pu = 200 °C, 3,200 units of 1/16 °C; stale ones are skipped. -/
def Block.ledgerStroke (b : Block) : Block :=
  let b := b.each 192 fun s b =>
    match (b.lane s).fresh, (b.lane s).good with
    | true, some r =>
      ((b.ledgerSample s 0 (r.tj.getD 0 0)).ledgerSample s 1 (r.tj.getD 1 0)).ledgerSample s 2 (r.tj.getD 2 0)
    | _, _ => b
  let b := b.each 24 fun l b =>
    let i := b.rd (Reg.CELL_LEG_SRCk_AIN (l / 4) (l % 4))
    if b.on (Reg.CELL_LEG_SRCk_EN (l / 4) (l % 4)) && !b.on (Reg.ADC_IN_STATi_STALE i) then
      b.ledgerSample (192 + l) 0 (rdiv (b.rdS (Reg.ADC_IN_VALi_X i) * 3200) (2 ^ 24))
    else b
  let hot (x y : Nat) : Int := max (b.rdS (Reg.THRM_SPOTh_TEMP x)) (b.rdS (Reg.THRM_SPOTh_TEMP y))
  (b.ledgerSample 216 0 (hot 2 3)).ledgerSample 217 0 (hot 4 5)

/-! ### Wear index (R229) -/

/-- A number of 2^-200 units in double precision: its 53 most significant bits, to nearest, a tie to even (R229). -/
def dbl (n : Nat) : Nat :=
  let s := n.log2 - 52
  let q := n / 2 ^ s
  let r := 2 * (n % 2 ^ s)
  (if 2 ^ s < r ∨ (r = 2 ^ s ∧ q % 2 = 1) then q + 1 else q) * 2 ^ s

/-- The largest number of 2^-200 units whose `q`-th power does not exceed that of (n ÷ d) to the power `p`: the `bits` low
    bits are tried from the top, `w` holding those above. -/
def rootBits (n d p q : Nat) : Nat → Nat → Nat
  | 0, w => w
  | i + 1, w =>
    let t := w + 2 ^ i
    rootBits n d p q i (if t ^ q * d ^ p ≤ n ^ p * 2 ^ (200 * q) then t else w)

/-- (n ÷ d) to the power p ÷ q in double precision, in 2^-200. -/
def ratPow (n d p q : Nat) : Nat := dbl (rootBits n d p q 256 0)

/-- The weight of a bin in reference cycles, in 2^-200 (R229): (ΔT_mid ÷ DT_REF)^(BETA ÷ 16) × 2^((Tm_mid − TM_REF) ÷
    TM_HALF), each factor and their product in double precision (log entry 129). -/
def wearWeight (beta dtRef tmRef tmHalf bin : Nat) : Nat :=
  let dt := 4 * (bin / 8) + 2
  let tm := 20 * (bin % 8) + 10
  dbl (ratPow dt dtRef beta 16
    * (if tmRef ≤ tm then ratPow 2 1 (tm - tmRef) tmHalf else ratPow 1 2 (tmRef - tm) tmHalf) / 2 ^ 200)

/-- The wear of one stream's bins, in 2^-200 of a reference cycle: the bins in order, each term and each sum in double
    precision. -/
def Block.wearOf (b : Block) (bins : SMap Nat) : Nat :=
  bins.foldl (fun a kv => dbl (a + dbl (kv.2 * wearWeight (b.rd Reg.CELL_PATINA_CFG_BETA) (b.rd Reg.CELL_PATINA_CFG_DT_REF)
    (b.rd Reg.CELL_PATINA_CFG_TM_REF) (b.rd Reg.CELL_PATINA_CFG_TM_HALF) kv.1))) 0

/-- The wear index of a record: sixteenths of a reference cycle of its most worn group. -/
def Block.wearIndex (b : Block) (record : Nat) : Nat :=
  let w := max (b.wearOf (b.stream (4 * record)).bins)
    (max (b.wearOf (b.stream (4 * record + 1)).bins) (b.wearOf (b.stream (4 * record + 2)).bins))
  satNat 32 ((16 * w + 2 ^ 199) / 2 ^ 200)

/-- WEAR_INDEX_COMPUTE: the cores compute every record's index (R229). -/
def Block.wearIndexCompute (b : Block) : Block :=
  if !b.cores then b
  else
    let b := b.each 192 fun s b => b.wr (Reg.CELL_WI_WI s) (b.wearIndex s)
    b.each 26 fun r b => b.wr (Reg.CELL_LEG_WIr_WI r) (b.wearIndex (192 + r))

/-! ### Commits (R230) -/

/-- A register of a ledger record: serial, wear index or cycle count (R230, R233, R235). -/
def ledgerReg (a : Nat) : Bool :=
  decide (0x340000 ≤ a ∧ a < 0x341800 ∧ 0xC ≤ a % 0x20) || decide (0x343080 ≤ a ∧ a < 0x3430E8)

/-- The ledger's registers in a bank. -/
def Bank.ledger (m : Bank) : Bank := m.filter fun e => ledgerReg (e.1 / 32 * 4)

/-- The ledger is in flash as it stands (R18, R230). -/
def Block.ledgerCommitted (b : Block) : Block :=
  (b.eachOf ledgerBlocks fun h b => b.homeErased h).updCells fun c => { c with flash := c.streams, flashRegs := b.regs.ledger }

/-- The ledger's registers are those of the copy in flash (R18). -/
def Block.ledgerBack (m : Bank) (b : Block) : Block :=
  { b with regs := b.regs.filter fun e => !ledgerReg (e.1 / 32 * 4) }.eachOf
    (m.filter fun (e : Nat × Nat) => ledgerReg (e.1 / 32 * 4)) fun e b => match fieldOfKey e.1 with
    | some f => b.wr f e.2
    | none => b

/-- A commit completes or fails. -/
def Block.ledgerCommitDone (ok : Bool) (b : Block) : Block :=
  if !b.cells.committing then b
  else
    let b := (b.updCells fun c => { c with committing := false }).fwEnd 9 ok
    if !ok then (b.flag Reg.CELL_LDG_STAT_FAIL true).raise { source := 11 }
    else ((b.flag Reg.CELL_LDG_STAT_FAIL false).ledgerCommitted).updCells fun c => { c with committedAt := b.tb.up }

/-- A commit of the ledger begins, of about 4 MiB on channel 9 (R434); while the DMA engine is halted it fails at once
    (R432). -/
def Block.ledgerBegin (b : Block) : Block :=
  if !b.cores then b
  else
    let b := (b.updCells fun c => { c with committing := true }).fwBegin 9 16384
    let b := b.updDma fun d => { d with retried := d.retried.filter (· ≠ 9) }
    if b.on Reg.DMA_STAT_HALTED then b.ledgerCommitDone false else b

/-- What the bin window and AGE_MIN show at a freeze (R234, R235). -/
def Block.ledgerShow (b : Block) : Block :=
  let b := b.wr Reg.CELL_LDG_STAT_AGE_MIN (satNat 16 ((b.tb.up - b.cells.committedAt) / (60 * 1000 * msPs)))
  let bins := (b.stream (4 * b.rd Reg.CELL_LDG_SEL_RECORD + b.rd Reg.CELL_LDG_SEL_GROUP)).bins
  b.each 128 fun k b => b.wr (Reg.CELL_LDG_BINk_COUNT k) (SMap.look 0 bins k)

/-! ### Meanings -/

/-- WEAR_INDEX_COMPUTE (R229). -/
def execWearIndexCompute (s : State) : Host.Outcome State Fault Refusal := s.onBlk (·.wearIndexCompute)
/-- LEDGER_COMMIT (R230): the hourly commit. -/
def execLedgerCommit (s : State) : Host.Outcome State Fault Refusal := s.onBlk (·.ledgerBegin)

end Sys2Proof.Machine
end

