-- ==== Sys2Proof/Machine/Link.lean ====
section
/-! DEFINITION. The Yalak lanes (R179 to R205): bring-up, capability exchange, reports received, block
    symbols, tests, and the rows that a fibre or a timer presents. -/

namespace Sys2Proof.Machine

/-! ### Lane states (R182, R183) -/

/-- The lanes' engines may be powered: not in P3 and P4, where an exit that has begun powers them again. -/
def Block.lanesUp (b : Block) : Bool :=
  decide (b.rd Reg.SYS_PWR_STAT_STATE < 3) || b.on Reg.SYS_PWR_STAT_MOVING

/-- Is lane `l` enabled (R179): its slot is populated in the configuration in force, or it runs a host test?  In P3 and P4
    none is. -/
def Block.laneEnabled (b : Block) (l : Nat) : Bool :=
  b.lanesUp && (b.boot.configured && b.populated l || (b.lane l).hostTest)

/-- The lane's part of leaving its state: reports not yet used are discarded, and an exit from ACTIVE is
    counted (R183, R200). -/
def Block.laneLeave (l : Nat) (b : Block) : Block :=
  let b := if b.rd (Reg.LINK_STAT_STATE l) = 4 then
      ((b.count (Reg.LINK_RETRAIN_CNT_COUNT l) 1).wr (Reg.LINK_STAT_MISS_RUN l) 0)
    else b
  (b.wr (Reg.LINK_STAT_REJECT l) 0).flag (Reg.LINK_TEST_STAT_RUNNING l) false

/-- Put lane `l` in a state (R182).  One that comes to TRAIN without light stays there for the 5 ms of R183, since no light
    is lost there (log entry 150).  BLOCK_LOCK and FAR_LOCK read 0 in DISABLED, DETECT, TEST and
    QUIET; a lane that is not enabled has no receiver clock (R185). -/
def Block.laneTo (l st : Nat) (b : Block) : Block :=
  let b := (b.laneLeave l).wr (Reg.LINK_STAT_STATE l) st
  let b := if st = 0 ∨ st = 1 ∨ st = 5 ∨ st = 7 then
      (b.flag (Reg.LINK_STAT_BLOCK_LOCK l) false).flag (Reg.LINK_STAT_FAR_LOCK l) false
    else b
  let b := if st = 0 then b.flag (Reg.LINK_STAT_BIT_LOCK l) false else b
  b.updLane l fun x =>
    { x with entered := b.tb.up, burstAt := none, burstPrev := none, burstOpen := false, answered := 0
             quietMissed := false, echoing := false, loops := [], ready := false, fast := false
             strokes := 0, rpt := none, fresh := false, cap := none, pattern := false, dark := false
             syncAt := none, hostTest := x.hostTest && st == 5
             attempts := if st = 0 ∨ st = 4 ∨ st = 6 then 0 else x.attempts }

/-- Lane `l` is rejected (R183, R187, R201).  An injected check that dropped CAPABILITY frames is behind a third failed
    attempt (R355). -/
def Block.laneReject (l cause : Nat) (b : Block) : Block :=
  let inj := cause == 4 && (b.lane l).inj
  ((b.laneTo l 6).wr (Reg.LINK_STAT_REJECT l) cause).raise { source := 98, unitType := 2, idx := l, injected := inj }

/-- The cause with which a lane that leaves ACTIVE fences its cell, whatever the event's class (R201):
    cells in service or on their way, and a cell that waits after probing (R217). -/
def Block.laneFence (b : Block) (l : Nat) : Option Nat :=
  let st := b.rd (Reg.CELL_SLOT_STAT_STATE l)
  if b.holds && (decide (3 ≤ st) || (st == 2 && (b.cell l).probe == .passed)) then some 3 else none

/-- Lane `l` leaves ACTIVE for another state, other than for TEST or QUIET (R183, R200, R201). -/
def Block.laneDown (l to_ : Nat) (lostReports : Bool) (b : Block) : Block :=
  let inj := (b.lane l).inj
  let own := b.laneFence l
  let b := if lostReports && b.populated l then
      b.raiseOwn { source := 97, unitType := 2, idx := l, injected := inj } own
    else b
  let b := b.laneTo l to_
  if b.populated l then b.raiseOwn { source := 96, unitType := 2, idx := l, injected := inj } own else b

/-- The engines with an enabled lane are powered (R24); the PLL of an engine that is off runs no more (R329). -/
def Block.powerEngines (b : Block) : Block :=
  let on := (List.range 16).foldl (fun w e =>
    if (List.range 12).any (fun i => b.laneEnabled (12 * e + i)) then w + 2 ^ e else w) 0
  (b.wr Reg.LINK_ENGINES_ON on).wr Reg.CLK_STAT_LANE_LOCK (b.rd Reg.CLK_STAT_LANE_LOCK &&& on)

/-- Lanes that become enabled go to DETECT, in P2 only once it is left (R392); lanes that cease to be go to DISABLED
    (R183). -/
def Block.judgeLanes (b : Block) : Block :=
  (b.each 192 fun l b =>
    let st := b.rd (Reg.LINK_STAT_STATE l)
    let quiet := b.rd Reg.SYS_PWR_STAT_STATE == 2 && !b.on Reg.SYS_PWR_STAT_MOVING
    if b.laneEnabled l then (if st = 0 ∧ (!quiet || (b.lane l).hostTest) then b.laneTo l 1 else b)
    else if st = 0 then b
    else if st = 4 then b.laneDown l 0 false
    else b.laneTo l 0).powerEngines

/-- REJECTED lanes go to TRAIN after a cast that changes a value checked in R187 (R183). -/
def Block.retrainRejected (b : Block) : Block :=
  b.each 192 fun l b => if b.rd (Reg.LINK_STAT_STATE l) = 6 then b.laneTo l 2 else b

/-- Entry into P2: each ACTIVE lane is QUIET (R205). -/
def Block.lanesQuiet (b : Block) : Block :=
  b.each 192 fun l b => if b.rd (Reg.LINK_STAT_STATE l) = 4 then b.laneTo l 7 else b

/-- The time an answer may take from the start of its burst, in ps: 10.24 µs of burst and 100 µs (R184). -/
def answerPs : Nat := 110240000

/-- Has a burst gone unanswered at uptime `up`: its window has passed (R184)? -/
def Lane.burstLost (x : Lane) (up : Nat) : Bool :=
  let past (t : Option Nat) : Bool := t.any fun t => decide (t + answerPs < up)
  past x.burstPrev || (x.burstOpen && past x.burstAt)

/-- Exit from P2: a QUIET lane trains without echoes, or from DETECT where it missed an answer (R205). -/
def Block.lanesWake (b : Block) : Block :=
  b.each 192 fun l b =>
    if b.rd (Reg.LINK_STAT_STATE l) = 7 then
      let x := b.lane l
      if x.quietMissed || x.burstLost b.tb.up then b.laneTo l 1
      else (b.laneTo l 2).updLane l fun y => { y with fast := true }
    else b

/-! ### Block symbols (R197) -/

/-- Block symbols go out on lane `l`, in place of the stroke's frame. -/
def Block.sendBlock (l : Nat) (b : Block) : Block :=
  (b.updLane l fun x => { x with blockedAt := some b.strk.num, cut := true }).emitLane (.block l)

/-- Block symbols on every active lane. -/
def Block.sendBlocks (b : Block) : Block :=
  b.each 192 fun l b => if b.rd (Reg.LINK_STAT_STATE l) = 4 then b.sendBlock l else b

/-! ### The stroke boundary -/

/-- A lane that enters ACTIVE without light or without block lock leaves it at once (R183). -/
def Block.laneSettles (l : Nat) (b : Block) : Block :=
  if b.on (Reg.LINK_STAT_LOS l) then b.laneDown l 1 false
  else if !b.on (Reg.LINK_STAT_BLOCK_LOCK l) then b.laneDown l 2 false
  else b

/-- Lanes whose exchange is complete enter ACTIVE (R187); under the safety latch block symbols go to
    each of them (R367).  Reports of the last stroke are dropped. -/
def Block.lanesBoundary (b : Block) : Block :=
  b.each 192 fun l b =>
    let st := b.rd (Reg.LINK_STAT_STATE l)
    if (b.lane l).ready then
      let b := (b.laneTo l 4).updLane l fun x => { x with strokes := 1, cut := false, inj := false }
      let b := if 2 ≤ b.rd Reg.SAFE_STAT_STATE && !b.on Reg.SAFE_STAT_PARTIAL then b.sendBlock l else b
      b.laneSettles l
    else if st = 4 then
      b.updLane l fun x => { x with strokes := min 2 (x.strokes + 1), rpt := none, cut := false }
    else b

/-! ### Tests (R203, R204) -/

/-- A test begins on lane `l`.  LINK_PRBS_FAR keeps the last result a cell head has reported until the next comes (log
    entry 151). -/
def Block.testStart (l pattern len : Nat) (b : Block) : Block :=
  let b := b.laneTo l 5
  let b := ((((b.flag (Reg.LINK_TEST_STAT_RUNNING l) true).flag (Reg.LINK_TEST_STAT_SYNC l) false).flag
    (Reg.LINK_TEST_STAT_SYNC_LOST l) false).flag (Reg.LINK_TEST_STAT_DONE l) false).flag
    (Reg.LINK_TEST_STAT_PASS l) false
  let b := (b.wr (Reg.LINK_PRBS_ERR_COUNT l) 0).wr64 (Reg.LINK_PRBS_BITS_LO_BITS l)
    (Reg.LINK_PRBS_BITS_HI_BITS l) 0
  (b.updLane l fun x => { x with lenExp := len, resultBy := none }).emitLane (.testBlocks l pattern len)

/-- The bits a test must have compared to pass. -/
def testNeed (len : Nat) : Nat := if len = 0 then 2 ^ 20 else 2 ^ len

/-- The module's checker passed: it stayed in sync and counted no errors over enough bits.  A checker
    that was not in sync throughout has compared fewer bits. -/
def Block.ownPass (b : Block) (l : Nat) : Bool :=
  !b.on (Reg.LINK_TEST_STAT_SYNC_LOST l) && b.rd (Reg.LINK_PRBS_ERR_COUNT l) == 0
    && decide (testNeed (b.lane l).lenExp
        ≤ b.rd64 (Reg.LINK_PRBS_BITS_LO_BITS l) (Reg.LINK_PRBS_BITS_HI_BITS l))

/-- A test's result: DONE and PASS, and LANE_TEST_FAIL (R201, R203).  `inj`: an injection is behind it (R355). -/
def Block.testResult (l : Nat) (pass inj : Bool) (b : Block) : Block :=
  let b := (b.flag (Reg.LINK_TEST_STAT_DONE l) true).flag (Reg.LINK_TEST_STAT_PASS l) pass
  let b := b.updLane l fun x => { x with resultBy := none }
  if pass then b else b.raise { source := 100, unitType := 2, idx := l, injected := inj }

/-- The bits compared in sync up to an uptime in ps are added; the count goes on from the last of them. -/
def Block.addBits (l t : Nat) (b : Block) : Block :=
  match (b.lane l).syncAt with
  | none => b
  | some t0 =>
    (b.wr64 (Reg.LINK_PRBS_BITS_LO_BITS l) (Reg.LINK_PRBS_BITS_HI_BITS l)
      (b.rd64 (Reg.LINK_PRBS_BITS_LO_BITS l) (Reg.LINK_PRBS_BITS_HI_BITS l) + (t - t0) / 80)).updLane l
      fun x => { x with syncAt := some (t0 + (t - t0) / 80 * 80) }

/-- The checker of lane `l` is out of sync from an uptime in ps. -/
def Block.syncStops (l t : Nat) (b : Block) : Block :=
  ((b.addBits l t).updLane l fun x => { x with syncAt := none }).flag (Reg.LINK_TEST_STAT_SYNC l) false

/-- The test on lane `l` ends at an uptime in ps: the transmitter goes dark (R204).  Ended by a fence in
    PROBING it is a test without a pass (R214); on a lane enabled only for it, it is judged on the
    module's checker alone (R203). -/
def Block.testEnds (l t : Nat) (fenced : Bool) (b : Block) : Block :=
  let b := b.syncStops l t
  let b := b.updLane l fun x => { x with pattern := false, dark := true, darkAt := t, resultBy := some t }
  if fenced then b.testResult l false false
  else if !b.populated l then
    (b.wr (Reg.LINK_PRBS_FAR_COUNT l) 0xFFFFFFFF).testResult l (b.ownPass l) false
  else b

/-- A test without end is stopped (R203, R204).  The errors that its checker, in sync, has counted since no command told
    of any are a free value (log entry 127). -/
def Block.testStop (l : Nat) (b : Block) : Block :=
  let b := if (b.lane l).syncAt.isSome then (b.count (Reg.LINK_PRBS_ERR_COUNT l) b.free).drawn else b
  b.testEnds l b.tb.up false

/-- The bits compared so far show in the image while a test runs (R206). -/
def Block.testShow (b : Block) : Block :=
  b.each 192 fun l b =>
    let x := b.lane l
    if x.syncAt.isSome then
      b.addBits l (if x.lenExp = 0 then b.tb.up else min b.tb.up (x.patternAt + 80 * 2 ^ x.lenExp))
    else b

/-- Are 66-bit blocks received in a lane state (R185)? -/
def blocksIn (st : Nat) : Bool := st == 2 || st == 3 || st == 4 || st == 6

/-- A counter stands in the frozen bank with a free value added. -/
def Block.frozenMore (f : Field) (b : Block) : Block :=
  { b with frozen := Bank.setFld f (satNat 32 (b.rd f + b.free)) b.frozen }.drawn

/-- What no command has told of is a free value in the image (R206): the errors that a checker in sync has counted in the
    present test (log entry 127), and the invalid headers short of a loss of lock (log entry 40). -/
def Block.testErrors (b : Block) : Block :=
  b.each 192 fun l b =>
    let b := if (b.lane l).syncAt.isSome then b.frozenMore (Reg.LINK_PRBS_ERR_COUNT l) else b
    if blocksIn (b.rd (Reg.LINK_STAT_STATE l)) && !b.on (Reg.LINK_STAT_LOS l) then b.frozenMore (Reg.LINK_HDR_CNT_COUNT l) else b

/-! ### Capability exchange (R187, R188) -/

/-- The first failing check of a CAPABILITY frame whose version, type and CRC are good. -/
def Block.capCause (b : Block) (bs : List Byte) (delay : Int) : Option Nat :=
  let dt := field bs 20 2
  let minp := field bs 22 2
  let per := b.rd Reg.CHSL_DAB_PERIOD_PERIOD
  let flags := field bs 64 4
  if !(decide (20 ≤ dt ∧ dt ≤ 2000 ∧ minp ≤ 5000 ∧ dt + max minp (b.rd Reg.CHSL_MINP_FLOOR_FLOOR) ≤ 5000)
      && field bs 32 1 == 1 && field bs 34 2 != 0
      && decide (field bs 24 2 * 1280 ≤ per ∧ per ≤ field bs 26 2 * 1280)
      && (!b.on Reg.SYS_STROKE_CFG_UPDATE || flags.testBit 1)) then some 1
  else if 1920 < delay then some 2
  else if b.on Reg.SYS_PAIR_CFG_EN
      && !(flags.testBit 0 && field bs 2 1 == b.rd Reg.SYS_PAIR_CFG_ROLE) then some 3
  else none

/-- A new serial at the exchange: CELL_REPLACED with the old serial and WI; the slot's record starts
    from zero (R230). -/
def Block.takeSerial (s sn : Nat) (b : Block) : Block :=
  let old := b.rd64 (Reg.CELL_SN_LO_SN s) (Reg.CELL_SN_HI_SN s)
  if old = sn then b
  else
    let b := b.raise { source := 105, unitType := 1, idx := s, data := some (old * 2 ^ 32 + b.rd (Reg.CELL_WI_WI s)) }
    let b := ((b.wr (Reg.CELL_WI_WI s) 0).wr (Reg.CELL_CYCLES_COUNT s) 0).wr64 (Reg.CELL_SN_LO_SN s)
      (Reg.CELL_SN_HI_SN s) sn
    b.updCells fun c =>
      { c with streams := SMap.erase (4 * s) (SMap.erase (4 * s + 1) (SMap.erase (4 * s + 2) c.streams)) }

/-- The accepted frame is copied into the LINK_CAP registers (R187). -/
def Block.takeCap (l : Nat) (bs : List Byte) (b : Block) : Block :=
  let b := ((b.wr (Reg.LINK_CAP_ID_VENDOR l) (field bs 4 2)).wr (Reg.LINK_CAP_ID_TYPE l) (field bs 6 2)).wr
    (Reg.LINK_CAP_FW_FW l) (field bs 8 4)
  let b := b.wr64 (Reg.LINK_CAP_SN_LO_SN l) (Reg.LINK_CAP_SN_HI_SN l) (field bs 12 8)
  let b := (b.wr (Reg.LINK_CAP_TIMING_DT l) (field bs 20 2)).wr (Reg.LINK_CAP_TIMING_MINP l) (field bs 22 2)
  let b := (b.wr (Reg.LINK_CAP_DAB_DAB_MIN l) (field bs 24 2)).wr (Reg.LINK_CAP_DAB_DAB_MAX l) (field bs 26 2)
  let b := b.wr (Reg.LINK_CAP_FLAGS_FLAGS l) (field bs 64 4)
  b.each 8 fun q b =>
    ((b.wr (Reg.LINK_CAP_MEASq_TYPE l q) (field bs (32 + 4 * q) 1)).wr (Reg.LINK_CAP_MEASq_EXP l q)
      (field bs (33 + 4 * q) 1)).wr (Reg.LINK_CAP_MEASq_MANT l q) (field bs (34 + 4 * q) 2)


/-- A frame of 96 bytes arrives on lane `l` in a state in which 66-bit blocks are received (R185): its CRC is checked, a
    bad one counted (R196, R355).  Answers whether it is good. -/
def Block.uplinkGood (b : Block) (l : Nat) (bs : List Byte) : Bool :=
  !b.injects 2 l && crc32 (bs.take 92) == field bs 92 4

/-- The bookkeeping of one uplink frame. -/
def Block.uplinkCheck (l : Nat) (bs : List Byte) (b : Block) : Block :=
  let inj := b.injects 2 l
  let good := b.uplinkGood l bs
  let b := b.checked 2 l
  if good then b.wr (Reg.LINK_STAT_PORT l) (field bs 2 1)
  else (b.count (Reg.LINK_CRC_CNT_COUNT l) 1).updLane l fun x => { x with inj := x.inj || inj }

/-- A CAPABILITY frame that may be used is judged (R187); the result of a test is in it (R203). -/
def Block.capJudge (l : Nat) (bs : List Byte) (b : Block) : Block :=
  let x := b.lane l
  let turn := field bs 28 2
  let delay := rdiv ((x.loop : Int) - turn) 2
  let b := match x.resultBy with
    | none => b
    | some _ =>
      let errs := field bs 68 4
      (b.wr (Reg.LINK_PRBS_FAR_COUNT l) errs).testResult l
        (b.ownPass l && errs == 0 && decide (testNeed x.lenExp ≤ field bs 72 8)) false
  let b := (b.wr (Reg.LINK_DELAY_DELAY l) (clampI delay 0 4095).toNat).wr (Reg.LINK_DELAY_TURN l) turn
  match b.capCause bs delay with
  | some c => b.laneReject l c
  | none =>
    if x.cap = some bs then
      ((b.takeCap l bs).takeSerial l (field bs 12 8)).updLane l fun y => { y with ready := true, attempts := 0 }
    else b.updLane l fun y => { y with cap := some bs }

/-- CAPABILITY_FRAME_RX: used in CAPEX only; where no 66-bit blocks are received no frame is. -/
def Block.capabilityFrameRx (l : Nat) (bs : List Byte) (b : Block) : Block :=
  let st := b.rd (Reg.LINK_STAT_STATE l)
  if bs.length ≠ 96 || !blocksIn st then b
  else
    let good := b.uplinkGood l bs && field bs 0 1 == 1 && field bs 1 1 == 2
    let b := b.uplinkCheck l bs
    if good && st == 3 && !(b.lane l).ready then b.capJudge l bs else b

/-! ### Reports (R192) -/

/-- The report a frame carries. -/
def reportOf (bs : List Byte) : Report :=
  { stroke := field bs 4 8, port := field bs 2 1, status := field bs 12 4, rx := field bs 16 4
    gen := field bs 20 4, fault := field bs 24 1, detail := field bs 26 2
    tj := [fieldS bs 28 2, fieldS bs 30 2, fieldS bs 32 2]
    meas := (List.range 8).map fun q => fieldS bs (36 + 4 * q) 4 }

/-- REPORT_FRAME_RX: a good report of the stroke in progress, received in full by 270 ns of it, is kept for it (R34,
    R192, R200); a later one is discarded. -/
def Block.reportFrameRx (l : Nat) (bs : List Byte) (b : Block) : Block :=
  let st := b.rd (Reg.LINK_STAT_STATE l)
  if bs.length ≠ 96 || !blocksIn st then b
  else
    let good := b.uplinkGood l bs && field bs 0 1 == 1 && field bs 1 1 == 1
    let b := b.uplinkCheck l bs
    let inTime := b.strk.phase == .begun && decide (b.tb.now.toNat ≤ (b.strk.b + 270) * 2 ^ 32)
    if good && st == 4 && field bs 4 8 == b.strk.num && inTime then
      b.updLane l fun x => { x with rpt := some (reportOf bs) }
    else b

/-! ### Bring-up rows (R183 to R186) -/

/-- BEACON_BURST_SEND (R184, R205): the next burst of DETECT or QUIET. -/
def Block.beaconBurstSend (l : Nat) (b : Block) : Block :=
  let st := b.rd (Reg.LINK_STAT_STATE l)
  if ¬(st = 1 ∨ st = 7) then b
  else
    let gap := if st = 1 then 1024000000 else 64000000
    let b := match (b.lane l).burstAt with
      | some t => b.untilUp (t + gap)
      | none => b
    (b.updLane l fun x =>
      { x with burstAt := some b.tb.up, burstOpen := true
               burstPrev := if st = 7 ∧ x.burstOpen then x.burstAt else none
               answered := if x.burstOpen then 0 else x.answered
               quietMissed := x.quietMissed || (st == 7 && x.burstLost b.tb.up) }).emitLane (.beacon l)

/-- BEACON_ANSWER_RX: an answer within 100 µs after the end of the burst (R184).  In QUIET, where a burst may follow
    before that time is over, it answers the older of two bursts that still await one (R205). -/
def Block.beaconAnswerRx (l : Nat) (b : Block) : Block :=
  let st := b.rd (Reg.LINK_STAT_STATE l)
  let x := b.lane l
  if x.burstPrev.any fun t => decide (b.tb.up ≤ t + answerPs) then b.updLane l fun y => { y with burstPrev := none }
  else match x.burstAt with
  | none => b
  | some t =>
    if !x.burstOpen || decide (t + answerPs < b.tb.up) || !(st == 1 || st == 7) then b
    else if st = 1 ∧ 2 ≤ x.answered + 1 ∧ b.rd (Reg.LINK_STAT_LOS l) = 0 then b.laneTo l 2
    else b.updLane l fun y => { y with burstOpen := false, answered := y.answered + 1 }

/-- LIGHT_LOSS (R183, R201). -/
def Block.lightLoss (l : Nat) (b : Block) : Block :=
  let b := (((b.flag (Reg.LINK_STAT_LOS l) true).flag (Reg.LINK_STAT_BIT_LOCK l) false).flag
    (Reg.LINK_STAT_BLOCK_LOCK l) false).flag (Reg.LINK_STAT_FAR_LOCK l) false
  match b.rd (Reg.LINK_STAT_STATE l) with
  | 2 => b.laneTo l 1
  | 4 => b.laneDown l 1 false
  | _ => b

/-- LIGHT_RETURN (R183). -/
def Block.lightReturn (l : Nat) (b : Block) : Block := b.flag (Reg.LINK_STAT_LOS l) false

/-- BIT_LOCK_CHANGE: the bit shows in every state in which the lane is enabled and receives light
    (R185). -/
def Block.bitLockChange (l : Nat) (on : Bool) (b : Block) : Block :=
  b.flag (Reg.LINK_STAT_BIT_LOCK l)
    (on && b.rd (Reg.LINK_STAT_STATE l) != 0 && !b.on (Reg.LINK_STAT_LOS l))

/-- BLOCK_LOCK_GAIN (R185). -/
def Block.blockLockGain (l : Nat) (b : Block) : Block :=
  if blocksIn (b.rd (Reg.LINK_STAT_STATE l)) && !b.on (Reg.LINK_STAT_LOS l) then
    b.flag (Reg.LINK_STAT_BLOCK_LOCK l) true
  else b

/-- BLOCK_LOCK_LOSS: 16 invalid headers in 64 blocks (R185); an ACTIVE lane goes to TRAIN, or to DETECT
    where light is lost (R183). -/
def Block.blockLockLoss (l : Nat) (b : Block) : Block :=
  let st := b.rd (Reg.LINK_STAT_STATE l)
  if !blocksIn st then b
  else
    let b := ((b.count (Reg.LINK_HDR_CNT_COUNT l) 16).flag (Reg.LINK_STAT_BLOCK_LOCK l) false).flag
      (Reg.LINK_STAT_FAR_LOCK l) false
    if st = 4 then b.laneDown l (if b.on (Reg.LINK_STAT_LOS l) then 1 else 2) false else b

/-- MARKER_RX: FAR_LOCK shows the last MARKER received while BLOCK_LOCK is 1 (R185). -/
def Block.markerRx (l : Nat) (far : Bool) (b : Block) : Block :=
  if b.on (Reg.LINK_STAT_BLOCK_LOCK l) then b.flag (Reg.LINK_STAT_FAR_LOCK l) far else b

/-- TRAIN_LOCKED: 1,024 clean locked blocks; the echoes begin, 1 µs apart (R185, R186).  A lane from
    QUIET needs none (R205). -/
def Block.trainLocked (l : Nat) (b : Block) : Block :=
  let x := b.lane l
  if b.rd (Reg.LINK_STAT_STATE l) ≠ 2 ∨ x.echoing ∨ x.ready ∨ !b.on (Reg.LINK_STAT_BLOCK_LOCK l)
      ∨ !b.on (Reg.LINK_STAT_FAR_LOCK l) then b
  else if x.fast then b.updLane l fun y => { y with ready := true }
  else (b.updLane l fun y => { y with echoing := true, echoAt := b.tb.up, loops := [] }).each 16
    fun n b => b.emitLane (.echo l n)

/-- TRAIN_TIMEOUT: 5 ms in TRAIN (R183). -/
def Block.trainTimeout (l : Nat) (b : Block) : Block :=
  if b.rd (Reg.LINK_STAT_STATE l) ≠ 2 then b
  else (b.untilUp ((b.lane l).entered + 5000000000)).laneTo l 1

/-- ECHO_RSP_RX: the answer to the echo whose turn it is, within 2 µs (25,600 ticks); after 16 the mean
    and the spread are held (R186). -/
def Block.echoRspRx (l num loop : Nat) (b : Block) : Block :=
  let x := b.lane l
  if b.rd (Reg.LINK_STAT_STATE l) ≠ 2 ∨ !x.echoing ∨ num ≠ x.loops.length ∨ 25600 < loop then b
  else
    let ls := x.loops ++ [loop]
    if ls.length < 16 then b.updLane l fun y => { y with loops := ls }
    else
      let spread := ls.foldl max 0 - ls.foldl min loop
      let b := b.wr (Reg.LINK_DELAY_SPREAD l) (min spread 15)
      if 4 < spread then b.laneReject l 5
      else (b.laneTo l 3).updLane l fun y => { y with loop := (rdiv ls.sum 16).toNat }

/-- ECHO_TIMEOUT: an echo unanswered for 2 µs (R186). -/
def Block.echoTimeout (l : Nat) (b : Block) : Block :=
  let x := b.lane l
  if b.rd (Reg.LINK_STAT_STATE l) ≠ 2 ∨ !x.echoing then b
  else (b.untilUp (x.echoAt + (x.loops.length + 2) * usPs)).laneReject l 5

/-- CAPEX_TIMEOUT: 10 ms in CAPEX, a failed attempt; the third rejects the lane (R183). -/
def Block.capexTimeout (l : Nat) (b : Block) : Block :=
  if b.rd (Reg.LINK_STAT_STATE l) ≠ 3 ∨ (b.lane l).ready then b
  else
    let n := (b.lane l).attempts + 1
    let b := b.untilUp ((b.lane l).entered + 10000000000)
    if 3 ≤ n then b.laneReject l 4 else (b.laneTo l 2).updLane l fun x => { x with attempts := n }

/-! ### Test rows (R203, R204) -/

/-- TEST_PATTERN_START: after 64 TEST blocks, 337.92 ns. -/
def Block.testPatternStart (l : Nat) (b : Block) : Block :=
  let x := b.lane l
  if b.rd (Reg.LINK_STAT_STATE l) ≠ 5 ∨ x.pattern ∨ x.dark then b
  else
    let t := x.entered + 337920
    (b.untilUp t).updLane l fun y => { y with pattern := true, patternAt := t }

/-- PRBS_SYNC_GAIN: 64 correct bits, 5,120 ps, from which on the checker compares.  The first sync of a test, within
    the 2 µs that a loop may take (R186), counts the pattern from its beginning (log entry 126). -/
def Block.prbsSyncGain (l : Nat) (b : Block) : Block :=
  let x := b.lane l
  if !x.pattern || x.syncAt.isSome then b
  else
    let whole := !b.on (Reg.LINK_TEST_STAT_SYNC_LOST l) && decide (b.tb.up ≤ x.patternAt + 2 * usPs)
    (b.flag (Reg.LINK_TEST_STAT_SYNC l) true).updLane l fun y =>
      { y with syncAt := some (if whole then x.patternAt else b.tb.up - 5120) }

/-- PRBS_SYNC_LOSS: 32 errors in 1,024 bits. -/
def Block.prbsSyncLoss (l : Nat) (b : Block) : Block :=
  if (b.lane l).syncAt.isNone then b
  else ((b.syncStops l b.tb.up).count (Reg.LINK_PRBS_ERR_COUNT l) 32).flag (Reg.LINK_TEST_STAT_SYNC_LOST l) true

/-- TEST_END: 2^k bits have passed. -/
def Block.testEnd (l errs : Nat) (b : Block) : Block :=
  let x := b.lane l
  if !x.pattern || x.lenExp == 0 then b
  else
    let t := x.patternAt + 80 * 2 ^ x.lenExp
    ((b.untilUp t).count (Reg.LINK_PRBS_ERR_COUNT l) errs).testEnds l t false

/-- TEST_DARK_END: after 20 µs dark the lane returns to DETECT, or to DISABLED where only the test
    enabled it (R204). -/
def Block.testDarkEnd (l : Nat) (b : Block) : Block :=
  let x := b.lane l
  if !x.dark then b
  else
    let b := (b.untilUp (x.darkAt + 20 * usPs)).updLane l fun y => { y with hostTest := false }
    if b.laneEnabled l then b.laneTo l 1 else (b.laneTo l 0).powerEngines

/-- TEST_RESULT_TIMEOUT: no good CAPABILITY frame within LINK_MS of the test's end (R203). -/
def Block.testResultTimeout (l : Nat) (b : Block) : Block :=
  match (b.lane l).resultBy with
  | none => b
  | some t => (b.untilUp (t + b.rd Reg.CELL_TIMEOUT_LINK_MS * msPs)).testResult l false (b.lane l).inj

/-! ### Meanings -/

/-- BEACON_BURST_SEND (R184). -/
def execBeaconBurstSend (l : Fin 192) (s : State) : Host.Outcome State Fault Refusal := s.onBlk (·.beaconBurstSend l)
/-- BEACON_ANSWER_RX (R184). -/
def execBeaconAnswerRx (l : Fin 192) (s : State) : Host.Outcome State Fault Refusal := s.onBlk (·.beaconAnswerRx l)
/-- LIGHT_LOSS (R183). -/
def execLightLoss (l : Fin 192) (s : State) : Host.Outcome State Fault Refusal := s.onBlk (·.lightLoss l)
/-- LIGHT_RETURN (R183). -/
def execLightReturn (l : Fin 192) (s : State) : Host.Outcome State Fault Refusal := s.onBlk (·.lightReturn l)
/-- BIT_LOCK_CHANGE (R185). -/
def execBitLockChange (l : Fin 192) (on : Bool) (s : State) : Host.Outcome State Fault Refusal := s.onBlk (·.bitLockChange l on)
/-- BLOCK_LOCK_GAIN (R185). -/
def execBlockLockGain (l : Fin 192) (s : State) : Host.Outcome State Fault Refusal := s.onBlk (·.blockLockGain l)
/-- BLOCK_LOCK_LOSS (R185). -/
def execBlockLockLoss (l : Fin 192) (s : State) : Host.Outcome State Fault Refusal := s.onBlk (·.blockLockLoss l)
/-- MARKER_RX (R185). -/
def execMarkerRx (l : Fin 192) (far : Bool) (s : State) : Host.Outcome State Fault Refusal := s.onBlk (·.markerRx l far)
/-- TRAIN_LOCKED (R185). -/
def execTrainLocked (l : Fin 192) (s : State) : Host.Outcome State Fault Refusal := s.onBlk (·.trainLocked l)
/-- TRAIN_TIMEOUT (R183). -/
def execTrainTimeout (l : Fin 192) (s : State) : Host.Outcome State Fault Refusal := s.onBlk (·.trainTimeout l)
/-- ECHO_RSP_RX (R186). -/
def execEchoRspRx (l : Fin 192) (num : BitVec 8) (loop : BitVec 32) (s : State) : Host.Outcome State Fault Refusal :=
  s.onBlk (·.echoRspRx l num.toNat loop.toNat)
/-- ECHO_TIMEOUT (R186). -/
def execEchoTimeout (l : Fin 192) (s : State) : Host.Outcome State Fault Refusal := s.onBlk (·.echoTimeout l)
/-- CAPABILITY_FRAME_RX (R187). -/
def execCapabilityFrameRx (l : Fin 192) (bs : List Byte) (s : State) : Host.Outcome State Fault Refusal :=
  s.onBlk (·.capabilityFrameRx l bs)
/-- CAPEX_TIMEOUT (R183). -/
def execCapexTimeout (l : Fin 192) (s : State) : Host.Outcome State Fault Refusal := s.onBlk (·.capexTimeout l)
/-- REPORT_FRAME_RX (R192). -/
def execReportFrameRx (l : Fin 192) (bs : List Byte) (s : State) : Host.Outcome State Fault Refusal :=
  s.onBlk (·.reportFrameRx l bs)
/-- TEST_PATTERN_START (R204). -/
def execTestPatternStart (l : Fin 192) (s : State) : Host.Outcome State Fault Refusal := s.onBlk (·.testPatternStart l)
/-- PRBS_SYNC_GAIN (R203). -/
def execPrbsSyncGain (l : Fin 192) (s : State) : Host.Outcome State Fault Refusal := s.onBlk (·.prbsSyncGain l)
/-- PRBS_SYNC_LOSS (R203). -/
def execPrbsSyncLoss (l : Fin 192) (s : State) : Host.Outcome State Fault Refusal := s.onBlk (·.prbsSyncLoss l)
/-- TEST_END (R203). -/
def execTestEnd (l : Fin 192) (errs : BitVec 32) (s : State) : Host.Outcome State Fault Refusal :=
  s.onBlk (·.testEnd l errs.toNat)
/-- TEST_DARK_END (R204). -/
def execTestDarkEnd (l : Fin 192) (s : State) : Host.Outcome State Fault Refusal := s.onBlk (·.testDarkEnd l)
/-- TEST_RESULT_TIMEOUT (R203). -/
def execTestResultTimeout (l : Fin 192) (s : State) : Host.Outcome State Fault Refusal := s.onBlk (·.testResultTimeout l)

end Sys2Proof.Machine
end

