-- ==== Sys2Proof/Machine/Cells.lean ====
section
/-! DEFINITION. Cell service (R209 to R226): service states, fences, probing, charging and joining, and
    spares. -/

namespace Sys2Proof.Machine

/-! ### Questions -/

/-- The service state of slot `s` (R209). -/
def Block.svc (b : Block) (s : Nat) : Nat := b.rd (Reg.CELL_SLOT_STAT_STATE s)

/-- Slot `s` holds a spare (R223). -/
def Block.isSpare (b : Block) (s : Nat) : Bool := b.svc s == 5 && b.on (Reg.CELL_SLOT_STAT_SPARE s)

/-- The cell of slot `s` is inserted (R134). -/
def Block.inserted (b : Block) (s : Nat) : Bool :=
  b.svc s == 3 || b.svc s == 4 || (b.svc s == 5 && !b.on (Reg.CELL_SLOT_STAT_SPARE s))

/-- An active IN_SERVICE cell. -/
def Block.isActive (b : Block) (s : Nat) : Bool := b.svc s == 5 && !b.on (Reg.CELL_SLOT_STAT_SPARE s)

/-- SYNC, RUN or STOPPING: the states in which cell service advances (R211). -/
def Block.running (b : Block) : Bool := 2 ≤ b.runState && b.runState ≤ 4

/-- The wear index of slot `s` (R229). -/
def Block.wi (b : Block) (s : Nat) : Nat := b.rd (Reg.CELL_WI_WI s)

/-- The member of a list of slots with the lowest wear index; ties to the lower slot. -/
def Block.leastWorn (b : Block) (l : List Nat) : Option Nat :=
  l.foldl (fun a s => match a with
    | none => some s
    | some t => if b.wi s < b.wi t then some s else some t) none

/-- The member of a list of slots with the highest wear index; ties to the higher slot. -/
def Block.mostWorn (b : Block) (l : List Nat) : Option Nat :=
  l.foldl (fun a s => match a with
    | none => some s
    | some t => if b.wi t ≤ b.wi s then some s else some t) none

/-- The spares of arm `k`. -/
def Block.sparesOf (b : Block) (k : Nat) : List Nat := (armSlots k).filter b.isSpare

/-- The active cells of arm `k`. -/
def Block.activesOf (b : Block) (k : Nat) : List Nat := (armSlots k).filter b.isActive

/-- A cell of arm `k` is in CHARGING or JOINING (R217). -/
def Block.armBusy (b : Block) (k : Nat) : Bool := (armSlots k).any fun s => b.svc s == 3 || b.svc s == 4

/-- Does a DC-link word lie below 98 % of the arm mean (R210)?  The mean is exact (R469). -/
def Block.belowBand (b : Block) (s : Nat) (v : Int) : Bool :=
  let a := b.arm (armOf s)
  decide (0 < a.vCnt) && decide (50 * v * a.vCnt < 49 * a.vSum)

/-- The DC-link word of the slot's last report used (R189). -/
def Block.dcLink (b : Block) (s : Nat) : Int :=
  match (b.lane s).good with
  | some r => r.meas.getD 0 0
  | none => 0

/-! ### Changing state -/

/-- Put slot `s` in a service state, as a spare or not; INSERTED follows (R134, R233). -/
def Block.svcTo (s st : Nat) (spare : Bool) (b : Block) : Block :=
  let b := ((b.wr (Reg.CELL_SLOT_STAT_STATE s) st).flag (Reg.CELL_SLOT_STAT_SPARE s) spare).wr
    (Reg.CELL_SLOT_STAT_JOIN_CNT s) (if st = 4 then 1 else 0)
  let b := b.flag (Reg.CELL_SLOT_STAT_INSERTED s) (b.inserted s)
  b.updCell s fun c => { c with entered := b.tb.up, run := 0 }

/-- The cell of slot `s` enters PROBING (R213, R214); `short` skips the test steps.  A rejected lane goes
    to TRAIN. -/
def Block.enterProbing (s : Nat) (short : Bool) (b : Block) : Block :=
  let b := ((b.svcTo s 2 false).wr (Reg.CELL_SLOT_STAT_FENCE_CAUSE s) 0).flag
    (Reg.CELL_SLOT_STAT_HOST_FENCE s) false
  let b := b.updCell s fun c =>
    { c with probe := .link1, short := short, run := 0, fence := none, reseat := false }
  if b.rd (Reg.LINK_STAT_STATE s) = 6 then b.laneTo s 2 else b

/-- Slots follow the configuration in force: newly populated ones enter PROBING, others become
    UNPOPULATED (R213). -/
def Block.populate (short : Bool) (b : Block) : Block :=
  b.each 192 fun s b =>
    if b.populated s then (if b.svc s = 0 then b.enterProbing s short else b)
    else if b.svc s = 0 then b
    else ((((b.svcTo s 0 false).wr (Reg.CELL_SLOT_STAT_FENCE_CAUSE s) 0).flag
      (Reg.CELL_SLOT_STAT_HOST_FENCE s) false).updCell s fun _ => default).updRecov s fun _ => default

/-- Every populated slot returns to PROBING: after a reset, and on exit from P3 or P4 (R213, R391). -/
def Block.probeAll (b : Block) : Block :=
  b.each 192 fun s b =>
    if b.populated s then b.enterProbing s (!b.on Reg.CELL_GCFG_START_PROBE) else b

/-- Decide a fence that no event's class decides, keeping the recovery record (R218, R221, R353). -/
def Block.fenceSlot (s cause : Nat) (allows : Bool) (b : Block) : Block :=
  if !b.holds || decide (b.svc s < 2) then b
  else
    let b := if !(b.recov s).fenced then b.onFence s allows else if allows then b else b.holdFenced s
    b.decideFence s cause

/-- A probing step fails: CELL_PROBE_FAIL, and the cell is fenced with cause 0x05 whatever the class
    (R214, R232).  A re-admission that fails leaves the unit fenced (R352); a re-seat by the host that
    fails is a new fence. -/
def Block.probeFail (s : Nat) (b : Block) : Block :=
  let host := (b.recov s).fenced && !(b.recov s).auto
  let b := if host then b.updRecov s fun r => { r with fenced := false } else b
  (b.raiseOwn { source := 102, unitType := 1, idx := s, injected := (b.lane s).inj } (some 5)).fenceSlot s 5 true

/-! ### The boundary (R210, R211) -/

/-- A test of PROBING that still runs on lane `s` ends at once (R214). -/
def Block.endProbeTest (s : Nat) (b : Block) : Block :=
  if b.svc s = 2 ∧ b.rd (Reg.LINK_STAT_STATE s) = 5 ∧ (b.cell s).probe = .test ∧ !(b.lane s).dark then
    b.testEnds s b.tb.up true
  else b

/-- The fence of slot `s` takes effect (R139): its state, cause and HOST_FENCE.  A test of PROBING ends with it
    (R214). -/
def Block.fenceTakes (s cause : Nat) (b : Block) : Block :=
  let b := b.endProbeTest s
  let b := ((b.svcTo s 1 false).wr (Reg.CELL_SLOT_STAT_FENCE_CAUSE s) cause).flag
    (Reg.CELL_SLOT_STAT_HOST_FENCE s) (cause == 4)
  b.updCell s fun c => { c with probe := .none, fence := none, byp := none, bypFail := false, reseat := false }

/-- The swap of arm `k` ends (R226). -/
def Block.swapEnds (k : Nat) (b : Block) : Block :=
  ((b.wr (Reg.CELL_ARM_SWAP_IN_SLOT k) 0xFF).wr (Reg.CELL_ARM_SWAP_OUT_SLOT k) 0xFF).flag
    (Reg.CELL_ARM_SWAP_ACTIVE k) false

/-- Slot `s` is the incoming cell of a swap in progress. -/
def Block.incoming (b : Block) (s : Nat) : Bool :=
  b.on (Reg.CELL_ARM_SWAP_ACTIVE (armOf s)) && b.rd (Reg.CELL_ARM_SWAP_IN_SLOT (armOf s)) == s

/-- Slot `s` is the outgoing cell of a swap in progress. -/
def Block.outgoing (b : Block) (s : Nat) : Bool :=
  b.on (Reg.CELL_ARM_SWAP_ACTIVE (armOf s)) && b.rd (Reg.CELL_ARM_SWAP_OUT_SLOT (armOf s)) == s

/-- Promote the spare of lowest wear index of arm `k`, if it has one (R224). -/
def Block.promote (k : Nat) (b : Block) : Block :=
  match b.leastWorn (b.sparesOf k) with
  | some s => b.svcTo s 4 false
  | none => b

/-- The fences of some slots of arm `k` take effect together.  One spare is promoted for each inserted cell lost; an
    incoming cell's loss ends its swap instead (R224, R226). -/
def Block.fencesTake (k : Nat) (takes : List Nat) (b : Block) : Block :=
  let lost := takes.filter fun s => b.inserted s && !b.incoming s
  let ends := takes.any fun s => b.incoming s || b.outgoing s
  let b := b.eachOf takes fun s b => b.fenceTakes s ((b.cell s).fence.getD 0)
  let b := if ends then b.swapEnds k else b
  b.eachOf lost fun _ b => b.promote k

/-- The fences of arm `k` that take effect at this boundary: at a carrier boundary, or in PROBING at any
    (R139, R211, R214). -/
def Block.armFences (k : Nat) (b : Block) : Block :=
  b.fencesTake k ((armSlots k).filter fun s => (b.cell s).fence.isSome && (b.strk.carrier || b.svc s == 2))

/-- SPARE_EXHAUSTED where the spares of arm `k`, `before` of them, have run out (R224). -/
def Block.spareEnd (k before : Nat) (b : Block) : Block :=
  if 0 < before ∧ b.sparesOf k = [] then b.raise { source := 104, unitType := 7, idx := k } else b

/-- All fences decided in arm `k` take effect at once: at a takeover (R149, R224). -/
def Block.fencesNow (k : Nat) (b : Block) : Block :=
  (b.fencesTake k ((armSlots k).filter fun s => (b.cell s).fence.isSome)).spareEnd k (b.sparesOf k).length

/-- A requested way back begins at a carrier boundary (R210, R211, R221): the cell enters PROBING.  The host's re-seat
    lifts a lockout (R221). -/
def Block.armReseats (k : Nat) (b : Block) : Block :=
  b.eachOf ((armSlots k).filter fun s => b.strk.carrier && (b.cell s).reseat && b.svc s == 1) fun s b =>
    let auto := (b.recov s).auto
    let b := b.enterProbing s false
    if auto then b
    else (b.updRecov s fun r => { r with lockout := false, manual := false, returning := true }).flag
      (Reg.CELL_SLOT_STAT_LOCKOUT s) false

/-- The probing steps judged at a boundary (R214). -/
def Block.probeStep (s : Nat) (b : Block) : Block :=
  let ls := b.rd (Reg.LINK_STAT_STATE s)
  let go (p : Probe) (b : Block) : Block :=
    b.updCell s fun c => { c with probe := p, entered := b.tb.up, run := 0 }
  match (b.cell s).probe with
  | .link1 =>
    if ls = 6 then b.probeFail s
    else if ls ≠ 4 then b
    else if (b.cell s).short then go .reports b
    else (go .test b).testStart s 2 31
  | .test => if ls = 5 then b else go .link2 b
  | .link2 =>
    if ls = 6 then b.probeFail s
    else if ls ≠ 4 then b
    else if b.on (Reg.LINK_TEST_STAT_DONE s) && b.on (Reg.LINK_TEST_STAT_PASS s) then go .reports b
    else b.probeFail s
  | _ => b

/-- The spare set of arm `k` is formed: beyond NACT, the cells of highest wear index (R223). -/
def Block.formSpares (k : Nat) (b : Block) : Block :=
  let b := b.eachOf (b.sparesOf k) fun s b => b.svcTo s 5 false
  let n := (b.activesOf k).length - b.rd Reg.SYS_CONV_POP_NACT
  b.each n fun _ b => match b.mostWorn (b.activesOf k) with
    | some s => b.svcTo s 5 true
    | none => b

/-- A swap whose incoming cell is IN_SERVICE makes its outgoing cell a spare and ends (R225, log entry 130); otherwise an
    arm with more than NACT active cells gives up the one of highest wear index (R223). -/
def Block.reduce (k : Nat) (b : Block) : Block :=
  let out := b.rd (Reg.CELL_ARM_SWAP_OUT_SLOT k)
  if b.on (Reg.CELL_ARM_SWAP_ACTIVE k) && b.isActive (b.rd (Reg.CELL_ARM_SWAP_IN_SLOT k)) then
    (if b.isActive out then b.svcTo out 5 true else b).swapEnds k
  else if (b.activesOf k).length ≤ b.rd Reg.SYS_CONV_POP_NACT then b
  else match b.mostWorn (b.activesOf k) with
    | some s =>
      let ends := b.outgoing s
      let b := b.svcTo s 5 true
      if ends then b.swapEnds k else b
    | none => b

/-- The spare sets at a carrier boundary (R223). -/
def Block.armSpares (k : Nat) (b : Block) : Block :=
  if b.runState = 2 ∧ !b.cells.sparesFormed then b.formSpares k
  else if b.cells.sparesFormed && (b.runState == 2 || b.runState == 3) then b.reduce k
  else b

/-- A cell enters CHARGING or JOINING by its DC-link voltage (R210). -/
def Block.chargeOrJoin (s : Nat) (b : Block) : Block :=
  let b := b.svcTo s (if b.belowBand s (b.dcLink s) then 3 else 4) false
  b.updCell s fun c => { c with probe := .none }

/-- One cell's own advance (R210, R211, R215, R216): at a carrier boundary from CHARGING to JOINING and
    to IN_SERVICE, where no fence is decided; the joining count rises in timed strokes. -/
def Block.svcAdvance (s : Nat) (b : Block) : Block :=
  let free := b.strk.carrier && (b.cell s).fence.isNone
  let go := b.running && !b.strk.untimed
  let j := b.rd (Reg.CELL_SLOT_STAT_JOIN_CNT s)
  if b.svc s = 3 then
    if free && b.runState == 0 then b.svcTo s 5 false
    else if free && go && decide (b.rd Reg.CELL_GCFG_HOLD ≤ (b.cell s).run) then b.svcTo s 4 false
    else b
  else if b.svc s = 4 then
    if free && (b.runState == 0 || (go && decide (64 ≤ j))) then b.svcTo s 5 false
    else if go then
      (b.wr (Reg.CELL_SLOT_STAT_JOIN_CNT s) (min 64 (j + 1))).updCell s fun c =>
        { c with run := if 63 ≤ j then c.run + 1 else 0 }
    else b
  else b

/-- The cells of arm `k` that wait after probing, in the order in which they passed. -/
def Block.waiting (b : Block) (k : Nat) : List Nat :=
  (armSlots k).filter fun s => b.svc s == 2 && (b.cell s).probe == .passed && (b.cell s).fence.isNone

/-- Entry after probing or for a rotation, at a carrier boundary: one cell while the converter runs, all
    that wait otherwise (R210, R217, R225). -/
def Block.armAdmits (k : Nat) (b : Block) : Block :=
  let w := b.waiting k
  if !b.running then
    b.eachOf w fun s b => (b.svcTo s 5 false).updCell s fun c => { c with probe := .none }
  else if b.armBusy k then b
  else
    let spare := b.rd (Reg.CELL_ARM_SWAP_IN_SLOT k)
    if b.on (Reg.CELL_ARM_SWAP_ACTIVE k) && b.isSpare spare then b.chargeOrJoin spare
    else
      match w.foldl (fun a s => match a with
          | none => some s
          | some t => if (b.cell s).passNo < (b.cell t).passNo then some s else some t) none with
      | some s => b.chargeOrJoin s
      | none => b

/-- A swap whose incoming cell has completed, or whose converter has left RUN, is settled (R225, R226). -/
def Block.armSwap (k : Nat) (b : Block) : Block :=
  if b.on (Reg.CELL_ARM_SWAP_ACTIVE k) && b.runState != 3 then b.swapEnds k else b

/-- The cells of arm `k` in PROBING with no fence decided. -/
def Block.probersOf (b : Block) (k : Nat) : List Nat :=
  (armSlots k).filter fun s => b.svc s == 2 && (b.cell s).fence.isNone

/-- The boundary's work in arm `k`.  A probing step that fails is judged before the fences, which take effect here (R214);
    a cell that enters PROBING here begins its first step. -/
def Block.armService (k : Nat) (b : Block) : Block :=
  let carrier := b.strk.carrier
  let before := (b.sparesOf k).length
  let probing := b.probersOf k
  let b := b.eachOf probing fun s b => b.probeStep s
  let b := ((b.armFences k).armReseats k).armSwap k
  let b := b.eachOf ((b.probersOf k).filter fun s => !probing.contains s) fun s b => b.probeStep s
  let now := (armSlots k).filter fun s => b.svc s == 3 || b.svc s == 4
  let b := if carrier then b.armSpares k else b
  let b := b.eachOf (now.filter fun s => !((b.cell s).entered == b.tb.up)) fun s b => b.svcAdvance s
  (if carrier then b.armAdmits k else b).spareEnd k before

/-- Service transitions at a stroke boundary, in the module that decides them (R211, R231). -/
def Block.serviceBoundary (b : Block) : Block :=
  if !b.holds then b
  else
    let b := if b.runState = 0 then
        b.updCells fun c => { c with sparesFormed := false, rotFrom := none, rotN := [] }
      else if b.runState = 3 && b.cells.rotFrom.isNone then b.updCells fun c => { c with rotFrom := some b.tb.up }
      else b
    let b := b.each 3 fun k b => b.armService k
    if b.strk.carrier && b.runState == 2 then b.updCells fun c => { c with sparesFormed := true } else b

/-! ### Reports (R218 to R220, at 270 ns) -/

/-- A fault or block in a slot's report: CELL_FAULT once for each fault that appears, and the fence
    (R218, R219). -/
def Block.judgeReport (s : Nat) (r : Report) (b : Block) : Block :=
  let fault := r.status.testBit 10
  let x := b.cell s
  let own := match (b.lane s).blockedAt with
    | some n => r.status / 8 % 8 == 1 && decide (r.stroke ≤ n + 4)
    | none => false
  let blocked := r.status.testBit 2 && b.running && (b.inserted s || b.isSpare s) && !own
  let code := if fault then some r.fault else none
  let o : Occ := { source := 101, unitType := 1, idx := s, code := r.fault }
  let cls := b.classOf o
  let new := (fault && x.code != code) || (!fault && blocked && !x.blk)
  let b := b.updCell s fun c => { c with code := code, blk := blocked }
  let b := if new then
      (b.raiseOwn o (if fault && decide (1 ≤ cls) then some 1 else if blocked then some 2 else none)).updCell s
        fun c => { c with latched := if 1 ≤ cls then some (max cls (c.latched.getD 0)) else c.latched }
    else b
  let b := if fault && decide (1 ≤ cls) then b.fenceSlot s 1 (!(cls == 4)) else b
  if blocked then b.fenceSlot s 2 true else b

/-- Step 5 of PROBING: four good reports in a row (R214, R219). -/
def Block.probeReport (s : Nat) (r : Report) (b : Block) : Block :=
  if r.status.testBit 10 then b.probeFail s
  else
    let n := (b.cell s).run
    let n := if !r.status.testBit 11 then 0
      else if n = 0 ∨ !r.status.testBit 2 then n + 1 else 1
    if n < 4 then b.updCell s fun c => { c with run := n }
    else
      let b := b.updCells fun c => { c with passes := c.passes + 1 }
      (b.updCell s fun c => { c with probe := .passed, passNo := b.cells.passes, run := 0 }).onReadmitDone 1 s s

/-- The bypass check of a fenced cell whose lane is ACTIVE fails at most once a fence (R220). -/
def Block.bypassCheck (s : Nat) (r : Report) (b : Block) : Block :=
  match (b.cell s).byp with
  | none => b
  | some n =>
    if b.strk.num < n + 4 || r.status.testBit 6 || (b.cell s).bypFail then b
    else
      let b := b.updCell s fun c => { c with bypFail := true }
      let b := (b.wr (Reg.CELL_SLOT_STAT_FENCE_CAUSE s) 7).wr (Reg.CELL_SLOT_FAULT_CODE s) 7
      (b.updRecov s fun q => { q with manual := true }).raise { source := 101, unitType := 1, idx := s, code := 7 }

/-- What a slot's report of this stroke brings about (R214, R215, R218 to R221). -/
def Block.cellReport (s : Nat) (b : Block) : Block :=
  let st := b.svc s
  if st = 0 then b
  else
    match (b.lane s).fresh, (b.lane s).good with
    | true, some r =>
      let fault := r.status.testBit 10
      let b := b.flag (Reg.CELL_SLOT_FAULT_PRESENT s) fault
      let b := if fault then b.wr (Reg.CELL_SLOT_FAULT_CODE s) r.fault else b
      let b := b.judgeReport s r
      let b := if st = 1 && (fault || r.status.testBit 2) && (b.recov s).fenced then b.onRecurrence s else b
      if !b.holds then b
      else if st = 2 ∧ (b.cell s).probe = .reports then b.probeReport s r
      else if st = 1 then b.bypassCheck s r
      else b
    | _, _ =>
      let b := b.flag (Reg.CELL_SLOT_FAULT_PRESENT s) false
      let b := if b.rd (Reg.LINK_STAT_STATE s) = 4 then b else b.updCell s fun c => { c with byp := none }
      b.updCell s fun c => { c with run := if st = 2 then 0 else c.run, code := none, blk := false }

/-- Charging is judged on the stroke's own words, once the arm means are formed; HOLD strokes in band once reached stand
    until the next carrier boundary (R215). -/
def Block.chargeBand (s : Nat) (b : Block) : Block :=
  if b.svc s ≠ 3 ∨ !b.running ∨ b.strk.untimed then b
  else
    let ok := (b.lane s).fresh && !b.belowBand s (b.dcLink s)
    b.updCell s fun c => { c with run := if b.rd Reg.CELL_GCFG_HOLD ≤ c.run then c.run else if ok then c.run + 1 else 0 }

/-! ### Rows -/

/-- PROBE_STEP_TIMEOUT: a link or report step not done within LINK_MS (R214). -/
def Block.probeStepTimeout (s : Nat) (b : Block) : Block :=
  let p := (b.cell s).probe
  if b.svc s ≠ 2 ∨ ¬(p = .link1 ∨ p = .link2 ∨ p = .reports) ∨ (b.cell s).fence.isSome then b
  else (b.untilUp ((b.cell s).entered + b.rd Reg.CELL_TIMEOUT_LINK_MS * msPs)).probeFail s

/-- CHARGING_TIMEOUT: CHG_MS in CHARGING (R210, R232). -/
def Block.chargingTimeout (s : Nat) (b : Block) : Block :=
  if b.svc s ≠ 3 ∨ (b.cell s).fence.isSome then b
  else
    let b := b.untilUp ((b.cell s).entered + b.rd Reg.CELL_TIMEOUT_CHG_MS * msPs)
    (b.raiseOwn { source := 103, unitType := 1, idx := s } (some 6)).fenceSlot s 6 true

/-- CHARGE_HOLD_MET: HOLD consecutive strokes in band; JOINING from this carrier boundary (R215). -/
def Block.chargeHoldMet (s : Nat) (b : Block) : Block :=
  if b.holds && b.atBoundary && b.svc s == 3 then b.svcAdvance s else b

/-- JOINING_COMPLETE: a stroke with the joining count at 64 has ended; IN_SERVICE from this carrier boundary (R216).
    The stroke that begins here has been counted in `run` too. -/
def Block.joiningComplete (s : Nat) (b : Block) : Block :=
  if b.holds && b.atBoundary && b.strk.carrier && b.svc s == 4 && b.rd (Reg.CELL_SLOT_STAT_JOIN_CNT s) == 64
      && decide (2 ≤ (b.cell s).run) then b.svcAdvance s
  else b

/-- A swap of arm `k` begins with an incoming spare; the outgoing cell is the active cell of highest wear
    index (R225). -/
def Block.swapBegins (k s : Nat) (b : Block) : Block :=
  match b.mostWorn (b.activesOf k) with
  | none => b
  | some o => ((b.wr (Reg.CELL_ARM_SWAP_IN_SLOT k) s).wr (Reg.CELL_ARM_SWAP_OUT_SLOT k) o).flag
      (Reg.CELL_ARM_SWAP_ACTIVE k) true

/-- A spare of arm `k` whose DC-link voltage sags more than SAG_PCT % below the arm mean (R225). -/
def Block.sagging (b : Block) (k : Nat) : Option Nat :=
  let a := b.arm k
  (b.sparesOf k).find? fun s => (b.lane s).fresh && decide (0 < a.vCnt)
    && decide (100 * b.dcLink s * a.vCnt < (100 - b.rd Reg.CELL_SPARE_CFG_SAG_PCT) * a.vSum)

/-- The interval test of R225: the wear of the worst active cell against the best spare. -/
def Block.rotationDue (b : Block) (k : Nat) : Option Nat :=
  match b.mostWorn (b.activesOf k), b.leastWorn (b.sparesOf k) with
  | some a, some s =>
    if (100 + b.rd Reg.CELL_SPARE_CFG_MARGIN) * b.wi s < 100 * b.wi a then some s else none
  | _, _ => none

/-- The interval of rotations in ps (R225). -/
def Block.rotationStep (b : Block) : Nat := b.rd Reg.CELL_SPARE_CFG_ROT_MIN * 60 * 1000 * msPs

/-- SPARE_ROTATION: the sag test of a timed stroke of RUN, or the interval test (R225). -/
def Block.spareRotation (k : Nat) (b : Block) : Block :=
  let probing := (armSlots k).any fun s => b.svc s == 2
  if !b.holds || b.runState != 3 || b.on (Reg.CELL_ARM_SWAP_ACTIVE k) || probing || b.armBusy k then b
  else
    match (if b.strk.untimed then none else b.sagging k) with
    | some s => b.swapBegins k s
    | none =>
      let step := b.rotationStep
      let n := (b.tb.up - b.cells.rotFrom.getD b.tb.up) / step
      if step = 0 ∨ n * step ≤ SMap.look 0 b.cells.rotN k then b
      else
        let b := b.updCells fun c => { c with rotN := SMap.store 0 k (n * step) c.rotN }
        match b.rotationDue k with
        | some s => b.swapBegins k s
        | none => b

/-- BLOCK_DECISION: the cells are blocked on every active lane (R36, R197, R343). -/
def Block.blockDecision (b : Block) : Block :=
  if b.evt.blockDue then (b.sendBlocks).updEvt fun e => { e with blockDue := false } else b

/-! ### Meanings -/

/-- PROBE_STEP_TIMEOUT (R214). -/
def execProbeStepTimeout (s : Fin 192) (t : State) : Host.Outcome State Fault Refusal := t.onBlk (·.probeStepTimeout s)
/-- CHARGING_TIMEOUT (R210). -/
def execChargingTimeout (s : Fin 192) (t : State) : Host.Outcome State Fault Refusal := t.onBlk (·.chargingTimeout s)
/-- CHARGE_HOLD_MET (R215). -/
def execChargeHoldMet (s : Fin 192) (t : State) : Host.Outcome State Fault Refusal := t.onBlk (·.chargeHoldMet s)
/-- JOINING_COMPLETE (R216). -/
def execJoiningComplete (s : Fin 192) (t : State) : Host.Outcome State Fault Refusal := t.onBlk (·.joiningComplete s)
/-- SPARE_ROTATION (R225). -/
def execSpareRotation (k : Fin 3) (t : State) : Host.Outcome State Fault Refusal := t.onBlk (·.spareRotation k)
/-- BLOCK_DECISION (R36). -/
def execBlockDecision (t : State) : Host.Outcome State Fault Refusal := t.onBlk (·.blockDecision)

end Sys2Proof.Machine
end

