-- ==== Sys2Proof/Machine/Signals.lean ====
section
/-! DEFINITION. What is latched at gather (R95): the sort of the arms, the converter signals and the
    reference former (R127 to R135, R469), and the sources of a selector (R112, R113). -/

namespace Sys2Proof.Machine

/-! ### Sine and cosine (R469) -/

/-- π × 2^119, rounded down: a quarter turn in units of 2^-120. -/
def quarter : Nat := 2087946453251888179413438228831778873

/-- Taylor terms from the `k`-th power on: `t` is the term, `x2` the square of the angle, both in units
    of 2^-120; the signs alternate. -/
def taylor (x2 : Nat) : Nat → Nat → Int → Nat → Int
  | 0, _, _, _ => 0
  | n + 1, k, sgn, t =>
    sgn * t + taylor x2 n (k + 2) (-sgn) (t * x2 / 2 ^ 120 / ((k + 1) * (k + 2)))

/-- sin and cos of the angle `r` (0 to 2^30 − 1, in units of 2^-32 turn), in units of 2^-120. -/
def sinCosQ (r : Nat) : Int × Int :=
  let x := r * quarter / 2 ^ 30
  let x2 := x * x / 2 ^ 120
  (taylor x2 30 1 1 x, taylor x2 30 0 1 (2 ^ 120))

/-- The exact sine of an angle in 2^-32 turn, rounded half away from zero to 2^-24. -/
def sinTurn (th : Int) : Int :=
  let u := ofS 32 th
  let (s, c) := sinCosQ (u % 2 ^ 30)
  rdiv (match u / 2 ^ 30 with
    | 0 => s
    | 1 => c
    | 2 => -s
    | _ => -c) (2 ^ 96)

/-- The exact cosine of an angle in 2^-32 turn, rounded half away from zero to 2^-24. -/
def cosTurn (th : Int) : Int := sinTurn (th + 2 ^ 30)

/-! ### Sources (R112, R113) -/

/-- The value of a selector on the signal bus as it stands, and whether it is stale. -/
def Block.source (b : Block) (sel c : Nat) : Int × Bool :=
  let i := sel % 4096
  match sel / 4096 with
  | 1 =>
    if b.rd (Reg.LINK_CAP_MEASq_TYPE (i / 8) (i % 8)) = 0 then (0, true)
    else
      let x := b.lane (i / 8)
      (match x.good with
        | some r => r.meas.getD (i % 8) 0
        | none => 0, !x.fresh)
  | 2 => (b.rdS (Reg.ADC_IN_VALi_X i), b.on (Reg.ADC_IN_STATi_STALE i))
  | 3 => (b.rdS (Reg.ARM_CTX_OUT_U i), false)
  | 6 => (b.rdS (Reg.ARM_HOSTSIGk_VALUE i), false)
  | 7 => (b.conv.sigs.getD i 0, false)
  | 15 => (b.rdS (Reg.ARM_CTX_REF_REF c), false)
  | _ => (0, false)

/-! ### The sorter (R134, R135) -/

/-- Insert a slot into a ranking: ascending voltage, equal voltages lower slot first. -/
def Block.rankInsert (b : Block) (s : Nat) : List Nat → List Nat
  | [] => [s]
  | t :: r =>
    if b.dcLink s < b.dcLink t ∨ (b.dcLink s = b.dcLink t ∧ s < t) then s :: t :: r
    else t :: b.rankInsert s r

/-- Rank the inserted cells of arm `k` and form its sums (R134). -/
def Block.sortArm (k : Nat) (b : Block) : Block :=
  let l := ((armSlots k).filter b.inserted).foldl (fun r s => b.rankInsert s r) []
  let vs := l.map b.dcLink
  b.updArm k fun a =>
    { a with rank := l, vCnt := l.length, vSum := vs.sum, vSq := (vs.map fun v => v * v).sum }

/-- The current direction of arm `k`: the sign of its current context's feedback, held in the dead band
    (R135). -/
def Block.direction (k : Nat) (b : Block) : Block :=
  let c := b.rd Reg.SYS_CONV_BAL_IDB_IDB
  let x := b.rd Reg.ARM_MAP0_ARMI_BASE + k
  let fb := (b.source (b.rd (Reg.ARM_CTX_SRC_FB_SRC x)) x).1
  if |fb| ≤ (c : Int) then b else b.updArm k fun a => { a with neg := decide (fb < 0) }

/-! ### Converter signals (R127) -/

/-- The local input that carries the phase voltage of arm `k` (R128, R132). -/
def Block.phaseInput (b : Block) (k : Nat) : Nat :=
  match k with
  | 0 => b.rd Reg.SYS_CONV_GRID_VA
  | 1 => b.rd Reg.SYS_CONV_GRID_VB
  | _ => b.rd Reg.SYS_CONV_GRID_VC

/-- The tests of the lock: the quadrature voltage `q` within 5 % of the amplitude, the frequency within 10 % of FNOM
    (R128). -/
def trackerGood (f amp q : Int) : Bool := decide (20 * |q| ≤ amp) && decide (10 * |f - 2 ^ 24| ≤ 2 ^ 24)

/-- The grid tracker: what it makes of the phase voltages is analogue, a free value in every stroke (log entry 3); timed
    strokes that pass and that fail the tests of its lock are counted (R128). -/
def Block.track (b : Block) : Block × Int × Int :=
  let g := (Config.gridTracker b.draws (b.rd Reg.SYS_CONV_GRID_BW)
    ([0, 1, 2].map fun k => b.ainPu (b.phaseInput k))).toNat
  let b := b.drawn
  let f := toS 32 (g / 2 ^ 32)
  let amp := clampI (toS 32 (g / 2 ^ 64)) 0 (2 ^ 31 - 1)
  let good := trackerGood f amp (toS 32 (g / 2 ^ 96))
  let nom : Int := if b.on Reg.SYS_CONV_GRID_FNOM then 6000 else 5000
  let b := b.updConv fun c =>
    { c with theta := toS 32 g, freq := (clampI (rdiv (f * nom) (2 ^ 24)) 0 65535).toNat }
  (if b.strk.untimed then b
   else b.updConv fun c =>
     { c with trkGood := if good then c.trkGood + 1 else 0, trkBad := if good then 0 else c.trkBad + 1 }, f, amp)

/-- A_lim (R130), rounded once (R469). -/
def Block.aLim (b : Block) : Int :=
  let nMin := min (b.arm 0).vCnt (min (b.arm 1).vCnt (b.arm 2).vCnt)
  let p : Int := nMin * b.rd Reg.SYS_CONV_RATING_CELL_KW
  let q : Int := b.rd Reg.SYS_CONV_RATING_ARM_KW
  let pct : Int := if b.runState = 2 then b.rd Reg.SYS_CONV_STOP_SYNC_PCT else 100
  let (p, q) := if q ≤ 0 then (0, 1) else if q ≤ p then (1, 1) else (p, q)
  sat32 (rdiv (b.rd Reg.SYS_CONV_ILIM_ILIM * p * b.rd Reg.THRM_DERATE_T * b.conv.kstop * pct)
    (q * 2 ^ 48 * 100))

/-- Active and reactive amplitude of arm `k` (R129). -/
def Block.armAmps (b : Block) (alim : Int) (k : Nat) : Int × Int :=
  let u := b.rdS (Reg.ARM_CTX_OUT_U (b.rd Reg.ARM_MAP0_ARME_BASE + k))
  let a := clampI (u + (b.source (b.rd Reg.SYS_CONV_SRC_FF_SRC) 0).1) 0 alim
  let qm : Int := isqrt (alim * alim - a * a).toNat
  (a, clampI (b.source (b.rd Reg.SYS_CONV_SRC_Q_SRC) 0).1 (-qm) qm)

/-- i_ref of arm `k` (R129). -/
def Block.iRef (b : Block) (k : Nat) : Int :=
  let th := b.conv.theta - k * 1431655765
  let (a, q) := b.conv.aq.getD k (0, 0)
  sat32 (rdiv (a * cosTurn th) (2 ^ 24) - rdiv (q * sinTurn th) (2 ^ 24))

/-- Form the converter signals and the arm current references of the stroke (R127, R129, R130).  In an
    untimed stroke the amplitudes are held. -/
def Block.formSignals (b : Block) : Block :=
  let (b, f, amp) := b.track
  let th := b.conv.theta
  let arms := [0, 1, 2]
  let old := b.conv.sigs
  let k1 : Int := b.conv.kstop
  let head := [rdiv th 128, cosTurn th, sinTurn th, f, amp,
      if b.conv.locked then 2 ^ 24 else 0, 0, 0]
    ++ arms.map (fun k => sat32 (rdiv (b.arm k).vSum (b.arm k).vCnt))
    ++ arms.map (fun k => sat32 (rdiv (b.arm k).vSq ((b.arm k).vCnt * 2 ^ 24)))
    ++ arms.map (fun k => ((b.arm k).vCnt : Int) * 2 ^ 18)
    ++ arms.map (fun k => ((b.sparesOf k).length : Int) * 2 ^ 18)
  let tail := [k1, if b.runState = 3 then 2 ^ 24 else 0]
  let b := b.updConv fun c =>
    { c with sigs := head ++ [old.getD 20 0, old.getD 21 0, old.getD 22 0, old.getD 23 0] ++ tail }
  let alim := b.aLim
  let b := if b.strk.untimed then b else b.updConv fun c => { c with aq := arms.map (b.armAmps alim) }
  b.updConv fun c => { c with alim := alim, sigs := head ++ arms.map b.iRef ++ [alim] ++ tail }

/-- An arm lacks headroom: its reach is less than the converted grid amplitude, both formed as signals (R469); never with
    GAIN = 0 (R141). -/
def Block.lacksHeadroom (b : Block) : Bool :=
  let g : Int := b.rd Reg.SYS_CONV_VFF_GAIN_GAIN
  decide (0 < g) && [0, 1, 2].any fun k =>
    decide (sat32 (rdiv ((b.arm k).vSum * b.rd Reg.SYS_CONV_MODMAX_MODMAX) (2 ^ 24))
      < sat32 (rdiv (b.conv.sigs.getD 4 0 * g) (2 ^ 24)))

/-- What timed strokes count at gather: the PRECHARGE condition and headroom (R121, R141). -/
def Block.gatherCounts (b : Block) : Block :=
  if b.strk.untimed then b
  else
    let v : Int := b.rd Reg.SYS_CONV_PRECHG_V_V
    let up := [8, 9, 10].all fun i => decide (v ≤ b.conv.sigs.getD i 0)
    let short := b.lacksHeadroom
    b.updConv fun c =>
      { c with prechg := if b.runState = 1 ∧ up then c.prechg + 1 else 0
               hrShort := if short then c.hrShort + 1 else 0
               hrOk := if short then 0 else c.hrOk + 1 }

/-- Gather (R95): the sort, the directions, the signals. -/
def Block.gather (b : Block) : Block :=
  let b := b.each 3 fun k b => b.sortArm k
  let b := b.each 192 fun s b => b.chargeBand s
  let b := (b.formSignals).gatherCounts
  b.each 3 fun k b => b.direction k

end Sys2Proof.Machine
end

