-- ==== Sys2Proof/Machine/Armature.lean ====
section
/-! DEFINITION. The armature (R95 to R116): the control law to the last bit, a context's stroke, the
    passes, and the region decision. -/

namespace Sys2Proof.Machine

/-! ### The control law (R99 to R101) -/

/-- Saturate to 72 bits signed. -/
def sat72 (x : Int) : Int := clampI x (-(2 ^ 71)) (2 ^ 71 - 1)

/-- `a ÷ 2^k` rounded half away from zero (R101). -/
def rndShift (a : Int) (k : Nat) : Int := rdiv a (2 ^ k)

/-- One coefficient set with its order: raw values and shifts of b0, b1, b2, b3, a1, a2, a3 (R99). -/
structure CoefSet where
  third : Bool
  raw : List Int
  sh : List Nat
  deriving DecidableEq, Repr

/-- The coefficient set of region `g` of context `c` in a bank (R118). -/
def Bank.coefs (m : Bank) (c g : Nat) : CoefSet :=
  { third := m.fld (Reg.ARM_CTX_CFG_ORDER c) == 1
    raw := [m.fld (Reg.ARM_COEF_B0_RAW c g), m.fld (Reg.ARM_COEF_B1_RAW c g), m.fld (Reg.ARM_COEF_B2_RAW c g),
      m.fld (Reg.ARM_COEF_B3_RAW c g), m.fld (Reg.ARM_COEF_A1_RAW c g), m.fld (Reg.ARM_COEF_A2_RAW c g),
      m.fld (Reg.ARM_COEF_A3_RAW c g)].map (toS 32)
    sh := [m.fld (Reg.ARM_COEF_SHIFT0_SB0 c g), m.fld (Reg.ARM_COEF_SHIFT0_SB1 c g),
      m.fld (Reg.ARM_COEF_SHIFT0_SB2 c g), m.fld (Reg.ARM_COEF_SHIFT0_SB3 c g),
      m.fld (Reg.ARM_COEF_SHIFT1_SA1 c g), m.fld (Reg.ARM_COEF_SHIFT1_SA2 c g),
      m.fld (Reg.ARM_COEF_SHIFT1_SA3 c g)] }

/-- What one evaluation of the law gives: y, a 72-bit saturation, and a clip by sat32 (R101). -/
structure LawOut where
  y : Int
  accSat : Bool
  ovf : Bool
  deriving DecidableEq, Repr

/-- Accumulate terms in the order written; the accumulator and whether a term or a sum saturated. -/
def accumulate : List (Int × Nat × Int) → Int × Bool → Int × Bool
  | [], a => a
  | (raw, sh, x) :: r, (acc, sat) =>
    let t := raw * x * 2 ^ (31 - sh)
    let sum := acc + sat72 t
    accumulate r (sat72 sum, sat || sat72 t != t || sat72 sum != sum)

/-- One law evaluation on a history of errors and outputs, newest first (R101). -/
def CoefSet.law (s : CoefSet) (e : Int) (es ys : List Int) : LawOut :=
  let xs := [e, es.getD 0 0, es.getD 1 0, es.getD 2 0, ys.getD 0 0, ys.getD 1 0, ys.getD 2 0]
  let terms := (List.range 7).map fun i => (s.raw.getD i 0, s.sh.getD i 0, xs.getD i 0)
  let terms := if s.third then terms else (terms.eraseIdx 6).eraseIdx 3
  let (acc, sat) := accumulate terms (0, false)
  let y := rndShift acc 31
  { y := sat32 y, accSat := sat, ovf := sat32 y != y }

/-- The ramped reference of one stroke (R102, R108). -/
def rampStep (ramp r tgt : Int) : Int :=
  if ramp = 0 then tgt else if r < tgt then min (r + ramp) tgt else max (r - ramp) tgt

/-- The transfer offset left after a stroke (R102). -/
def bleedStep (bleed : Nat) (d : Int) : Int :=
  if bleed = 0 then 0 else if rndShift d bleed = 0 then 0 else d - rndShift d bleed

/-- The region decision of R109: `fuel` regions may be passed in each direction. -/
def regionUp (thr : Nat → Int) (n : Nat) (v : Int) : Nat → Nat → Nat
  | 0, g => g
  | k + 1, g => if g + 1 < n ∧ thr (g + 1) ≤ v then regionUp thr n v k (g + 1) else g

/-- The downward half of R109. -/
def regionDown (thr : Nat → Int) (hyst v : Int) : Nat → Nat
  | 0 => 0
  | g + 1 => if v < thr (g + 1) - hyst then regionDown thr hyst v g else g + 1

/-! ### Activation (R104, R106) -/

/-- The slot whose DAB loop context `c` is (R114). -/
def Block.dabSlot (b : Block) (c : Nat) : Option Nat :=
  let d := b.rd Reg.ARM_MAP0_DAB_BASE
  if d ≤ c ∧ c < d + 192 then some (c - d) else none

/-- The DAB context of a slot may be active: its cell is JOINING, or IN_SERVICE and active (R104). -/
def Block.dabActive (b : Block) (s : Nat) : Bool := b.populated s && (b.svc s == 4 || b.isActive s)

/-- Context `c` is active in this stroke (R104); in P2 and above none is (R388). -/
def Block.ctxActive (b : Block) (c : Nat) : Bool :=
  b.on (Reg.ARM_CTX_CFG_ENABLE c) && decide (b.runState < 5)
    && (b.rd (Reg.ARM_CTX_CFG_STATES c)).testBit b.runState && !(b.ctx c).fenced
    && decide (b.rd Reg.SYS_PWR_STAT_STATE < 2)
    && (match b.dabSlot c with
      | some s => b.dabActive s
      | none => true)

/-- `ARM_CTX_INIT` clamped to the limits (R105, R106). -/
def Block.ctxInit (b : Block) (c : Nat) : Int :=
  clampI (b.rdS (Reg.ARM_CTX_INIT_INIT c)) (b.rdS (Reg.ARM_CTX_UMIN_UMIN c)) (b.rdS (Reg.ARM_CTX_UMAX_UMAX c))

/-- The port whose outer loop context `c` is, while it is in SOFT or REGULATE (R283). -/
def Block.ctxPort (b : Block) (c : Nat) : Option Nat :=
  let p := b.rd Reg.ARM_MAP1_PORT_BASE
  let st := b.rd (Reg.PORT_STAT_STATE (c - p))
  if p ≤ c ∧ c < p + 8 ∧ (st = 3 ∨ st = 4) then some (c - p) else none

/-- Feedback and target of context `c`, and whether either is stale (R112, R113, R283).  A port's r is in
    µV, and 1.0 pu is BASE_V volts. -/
def Block.ctxSources (b : Block) (c : Nat) : Int × Int × Bool :=
  match b.ctxPort c with
  | some p =>
    let i := b.rd (Reg.PORT_SNS_VOUT_AIN p)
    (b.ainPu i, rdiv ((b.port p).r * 2 ^ 24) (b.rd Reg.SYS_CONV_LVB_BASE_V * 1000000),
      b.on (Reg.ADC_IN_STATi_STALE i))
  | none =>
    let (fb, s1) := b.source (b.rd (Reg.ARM_CTX_SRC_FB_SRC c)) c
    let (tgt, s2) := b.source (b.rd (Reg.ARM_CTX_SRC_REF_SRC c)) c
    (fb, tgt, s1 || s2)

/-- A source of context `c` is stale (R113, R354); SCHED_SRC is one while FORCE_EN = 0. -/
def Block.ctxStale (b : Block) (c : Nat) : Bool :=
  (b.ctxSources c).2.2
    || (!b.on (Reg.ARM_CTX_CFG_FORCE_EN c) && (b.source (b.rd (Reg.ARM_CTX_SCHED_SCHED_SRC c)) c).2)

/-! ### One stroke of a context (R102, R105, R110) -/

/-- The error history of context `c`, newest first. -/
def Block.ctxEs (b : Block) (c : Nat) : List Int := [1, 2, 3].map fun k => b.rdS (Reg.ARM_CTX_Ek_E c k)

/-- The output history of context `c`, newest first. -/
def Block.ctxYs (b : Block) (c : Nat) : List Int := [1, 2, 3].map fun k => b.rdS (Reg.ARM_CTX_Yk_Y c k)

/-- Set the history of context `c`. -/
def Block.setHist (c : Nat) (es ys : List Int) (b : Block) : Block :=
  b.eachOf [1, 2, 3] fun k b =>
    (b.wrS (Reg.ARM_CTX_Ek_E c k) (es.getD (k - 1) 0)).wrS (Reg.ARM_CTX_Yk_Y c k) (ys.getD (k - 1) 0)

/-- Initialise context `c` (R105).  Its run of stale strokes begins anew (log entry 120). -/
def Block.ctxStart (c : Nat) (b : Block) : Block :=
  let (fb, tgt, _) := b.ctxSources c
  let y := b.ctxInit c
  let g := if b.on (Reg.ARM_CTX_CFG_FORCE_EN c) then b.rd (Reg.ARM_CTX_CFG_FORCE_REG c) else 0
  let b := (b.setHist c [0, 0, 0] [y, y, y]).wr (Reg.ARM_CTX_STAT_REGION c) g
  let b := b.wrS (Reg.ARM_CTX_RNOW_R c) (if b.on (Reg.ARM_CTX_CFG_SOFT c) then fb else tgt)
  b.updCtx c fun x => { x with d := 0, stale := 0 }

/-- The region in force for a context that was active (R109, R110). -/
def Block.ctxRegion (b : Block) (c : Nat) : Nat :=
  min (if b.on (Reg.ARM_CTX_CFG_FORCE_EN c) then b.rd (Reg.ARM_CTX_CFG_FORCE_REG c) else (b.ctx c).nextRegion)
    (b.rd (Reg.ARM_CTX_CFG_NREG_M1 c))

/-- The configuration in force in the previous stroke: after a cast it stands in the bank that now
    serves as maquette (R111). -/
def Block.formerBank (b : Block) : Bank := if b.strk.castHere then b.cst.maq else b.regs

/-- What a context's stroke adds to the window's figures (R97). -/
structure WinSum where
  macs : Nat
  transfers : Nat
  passes : Nat
  overflow : List Nat
  deriving DecidableEq, Repr

/-- One timed stroke of an active context: the block, its posted output, and the window's figures. -/
def Block.ctxStep (c : Nat) (w : WinSum) (b : Block) : Block × Int × WinSum :=
  let fresh := !(b.ctx c).was || (b.ctx c).init
  let b := if fresh then b.ctxStart c else b
  let g0 := b.rd (Reg.ARM_CTX_STAT_REGION c)
  let g := if fresh then g0 else b.ctxRegion c
  let set := b.regs.coefs c g
  let former := b.formerBank.coefs c g0
  let transfer := !fresh && (g != g0 || set != b.formerBank.coefs c g)
  let bleed := b.rd (Reg.ARM_CTX_CFG_BLEED c)
  let (fb, tgt, stale) := b.ctxSources c
  let r := rampStep (b.rd (Reg.ARM_CTX_RAMP_RAMP c)) (b.rdS (Reg.ARM_CTX_RNOW_R c)) tgt
  let e0 := if b.on (Reg.ARM_CTX_CFG_INVERT c) then fb - r else r - fb
  let e := sat32 e0
  let es := b.ctxEs c
  let ys := b.ctxYs c
  let out := set.law e es ys
  let old := former.law e es ys
  let d0 := if bleed = 0 then 0 else (b.ctx c).d
  let d1 := d0 + old.y - out.y
  let moves := transfer && bleed != 0
  let d := if moves then clampI d1 (-(2 ^ 30 - 1)) (2 ^ 30 - 1) else d0
  let lo := b.rdS (Reg.ARM_CTX_UMIN_UMIN c) - d
  let hi := b.rdS (Reg.ARM_CTX_UMAX_UMAX c) - d
  let y := clampI out.y lo hi
  let accSat := out.accSat || (moves && old.accSat)
  let ovf := e != e0 || out.ovf || (moves && (old.ovf || d != d1))
  let b := (b.setHist c (e :: es) (y :: ys)).wrS (Reg.ARM_CTX_RNOW_R c) r
  let b := ((b.wr (Reg.ARM_CTX_STAT_REGION c) g).flag (Reg.ARM_CTX_STAT_RAMPING c) (r != tgt)).flag
    (Reg.ARM_CTX_STAT_TRANSFER c) (d != 0)
  let b := ((b.flag (Reg.ARM_CTX_STAT_SAT_HI c) (decide (hi < out.y))).flag (Reg.ARM_CTX_STAT_SAT_LO c)
    (decide (out.y < lo))).flag (Reg.ARM_CTX_STAT_ACC_SAT c) accSat
  let b := (b.flag (Reg.ARM_CTX_STAT_OVF c) ovf).flag (Reg.ARM_CTX_STAT_STALE c) stale
  let b := ((b.wrS (Reg.ARM_CTX_FB_FB c) fb).wrS (Reg.ARM_CTX_ERR_E c) e).wrS (Reg.ARM_CTX_D_D c) d
  let b := if g = g0 then b else b.bump (Reg.ARM_CTX_SWITCHES_COUNT c)
  let b := b.updCtx c fun x => { x with d := bleedStep bleed d, init := false }
  let mac := (if set.third then 7 else 5) * (if transfer then 2 else 1)
  (b, y + d, { w with macs := w.macs + mac, transfers := w.transfers + (if transfer then 1 else 0)
                      overflow := if accSat || ovf then w.overflow ++ [c] else w.overflow })

/-! ### Passes (R96, R97) -/

/-- Run contexts of one pass in ascending number; outputs are written when the pass ends. -/
def runPass : List Nat → List (Nat × Int) → WinSum → Block → Block × List (Nat × Int) × WinSum
  | [], outs, w, b => (b, outs, w)
  | c :: r, outs, w, b =>
    if b.on (Reg.ARM_CTX_STAT_ACTIVE c) then
      let (b, u, w) := b.ctxStep c w
      runPass r ((c, u) :: outs) w b
    else runPass r ((c, b.ctxInit c) :: outs) w b

/-- One pass: its outputs become visible when it ends (R96); one that holds an active context takes a
    fill (R97). -/
def Block.pass (p : Nat) (bw : Block × WinSum) : Block × WinSum :=
  let (b, w) := bw
  let cs := (List.range 256).filter fun c => b.rd (Reg.ARM_CTX_CFG_PASS c) == p
  let (b1, outs, w1) := runPass cs [] w b
  (b1.eachOf outs fun o b => b.wrS (Reg.ARM_CTX_OUT_U o.1) o.2,
    { w1 with passes := w1.passes + (if cs.any fun c => b.on (Reg.ARM_CTX_STAT_ACTIVE c) then 1 else 0) })

/-! ### After the passes (R109, R116) -/

/-- The region decision of an active context at 650 ns (R109). -/
def Block.ctxDecide (c : Nat) (b : Block) : Block :=
  if b.on (Reg.ARM_CTX_CFG_FORCE_EN c) then
    b.updCtx c fun x => { x with nextRegion := b.rd (Reg.ARM_CTX_CFG_FORCE_REG c) }
  else
    let (v, stale) := b.source (b.rd (Reg.ARM_CTX_SCHED_SCHED_SRC c)) c
    let thr (k : Nat) : Int := b.rdS (Reg.ARM_CTX_THRk_THR c k)
    let g := b.rd (Reg.ARM_CTX_STAT_REGION c)
    let g := regionUp thr (b.rd (Reg.ARM_CTX_CFG_NREG_M1 c) + 1) v 8 g
    let g := regionDown thr (b.rd (Reg.ARM_CTX_HYST_HYST c)) v g
    let b := (b.wrS (Reg.ARM_CTX_V_V c) v).flag (Reg.ARM_CTX_STAT_STALE c)
      (b.on (Reg.ARM_CTX_STAT_STALE c) || stale)
    b.updCtx c fun x => { x with nextRegion := g }

/-- CTX_SOURCE_LOST: the run of stale strokes has reached the limit; once for each run (R116). -/
def Block.ctxSourceLost (c : Nat) (b : Block) : Block :=
  if b.rd Reg.ARM_STALE_LIM_LIMIT ≤ (b.ctx c).stale ∧ !(b.ctx c).lost then
    (b.updCtx c fun x => { x with lost := true }).raise { source := 129, unitType := 5, idx := c }
  else b

/-- Count the stale strokes of an active context: one run for the context, whichever of its sources is stale (R116, log
    entry 120). -/
def Block.ctxCount (c : Nat) (b : Block) : Block :=
  let stale := b.on (Reg.ARM_CTX_STAT_STALE c)
  (b.updCtx c fun x =>
    { x with stale := if stale then x.stale + 1 else 0, lost := x.lost && stale }).ctxSourceLost c

/-- The armature window of a timed stroke (R95 to R97, R104 to R110). -/
def Block.armature (b : Block) : Block :=
  let b := b.each 256 fun c b =>
    b.flag (Reg.ARM_CTX_STAT_ACTIVE c) (b.ctxActive c)
  let (b, w) := (List.range 4).foldl (fun bw p => Block.pass p bw)
    (b, { macs := 0, transfers := 0, passes := 0, overflow := [] })
  let act := (List.range 256).filter fun c => b.on (Reg.ARM_CTX_STAT_ACTIVE c)
  let b := b.eachOf act fun c b => b.ctxDecide c
  let b := b.each 256 fun c b => b.updCtx c fun x => { x with was := b.on (Reg.ARM_CTX_STAT_ACTIVE c) }
  let b := (b.wr Reg.ARM_WIN_STAT_CYCLES (16 * w.passes + cdiv w.macs 16)).wr Reg.ARM_WIN_STAT_TRANSFERS w.transfers
  let b := b.eachOf w.overflow fun c b => b.raise { source := 128, unitType := 5, idx := c }
  b.eachOf act fun c b => b.ctxCount c

/-- The boundary of context `c`: a fence decided since the last boundary holds from this one, and a context on its way back
    is re-admitted, which completes its path (R107, R352).  Where an occurrence has abandoned that way it stays fenced
    (R345). -/
def Block.ctxTurn (c : Nat) (b : Block) : Block :=
  let r := b.recov (1024 + c)
  let back := r.fenced && r.returning && !(b.ctx c).fenceNext
  let fence := (b.ctx c).fenceNext || (r.fenced && !r.returning)
  let b := (b.updCtx c fun x => { x with fenced := fence, fenceNext := fence }).flag (Reg.ARM_CTX_STAT_FENCED c) fence
  if back then b.onReadmitDone 5 c (1024 + c) else b

/-- The contexts that a fence concerns, at a boundary. -/
def Block.ctxBoundary (b : Block) : Block :=
  b.eachOf (b.ctxs.map (·.1) ++ ((b.evt.recov.map (·.1)).filter (1024 ≤ ·)).map (· - 1024)) fun c b => b.ctxTurn c

/-- Context `c` is to be re-admitted at the next boundary, and initialised (R107). -/
def Block.ctxReadmit (c : Nat) (b : Block) : Block := b.updCtx c fun x => { x with fenceNext := false, init := true }

/-- The SYNC condition of a timed stroke: the tracker is locked and the LV bus error in band (R121). -/
def Block.syncCount (b : Block) : Block :=
  if b.strk.untimed then b
  else
    let e := b.rdS (Reg.ARM_CTX_ERR_E (b.rd Reg.ARM_MAP0_LVBUS))
    let ok := b.conv.locked && decide (|e| ≤ (b.rd Reg.SYS_CONV_SYNC_TOL_TOL : Int))
    b.updConv fun c => { c with sync := if b.runState = 2 ∧ ok then c.sync + 1 else 0 }

/-! ### Meanings -/

/-- CTX_SOURCE_LOST (R116): raised when the run of stale strokes has reached the limit. -/
def execCtxSourceLost (c : Fin 256) (s : State) : Host.Outcome State Fault Refusal := s.onBlk (·.ctxSourceLost c)

end Sys2Proof.Machine
end

