-- ==== Sys2Proof/Machine/Adc.lean ====
section
/-! DEFINITION. Local measurement (R292 to R311): slots and conversions, sequencers and scan mode, calibration
    and rotation, and the stroke capture unit. -/

namespace Sys2Proof.Machine

/-! ### Units -/

/-- Input `i`. -/
def Block.ain (b : Block) (i : Nat) : AinSt := SMap.look default b.adc.ains i
/-- Change the record of input `i`. -/
def Block.updAin (i : Nat) (f : AinSt → AinSt) (b : Block) : Block :=
  b.updAdc fun a => { a with ains := SMap.store default i (f (b.ain i)) a.ains }

/-- Sequencer `k`. -/
def Block.sequ (b : Block) (k : Nat) : SeqSt := SMap.look default b.adc.seqs k
/-- Change the record of sequencer `k`. -/
def Block.updSeq (k : Nat) (f : SeqSt → SeqSt) (b : Block) : Block :=
  b.updAdc fun a => { a with seqs := SMap.store default k (f (b.sequ k)) a.seqs }

/-- Converter `m`. -/
def Block.kconv (b : Block) (m : Nat) : ConvAdc := SMap.look default b.adc.convs m
/-- Change the record of converter `m`. -/
def Block.updKconv (m : Nat) (f : ConvAdc → ConvAdc) (b : Block) : Block :=
  b.updAdc fun a => { a with convs := SMap.store default m (f (b.kconv m)) a.convs }

/-- The converter that serves sequencer `k`, if one does (R296). -/
def Block.serving (b : Block) (k : Nat) : Option Nat :=
  if b.bit Reg.ADC_STAT_NOCONV k then none
  else (List.range 9).find? fun m => b.rd (Reg.ADC_CONVk_STATE m) == 0 && b.rd (Reg.ADC_CONVk_SEQ m) == k

/-! ### Sequencers (R297 to R300) -/

/-- Inputs of the sweep of sequencer `k` (R300). -/
def Block.sweep (b : Block) (k : Nat) : List Nat :=
  ((List.range 8).map (· + 8 * k)).filter fun i =>
    if i < 32 then b.bit Reg.ADC_SCAN_MASK0_MASK i else b.bit Reg.ADC_SCAN_MASK1_MASK (i - 32)

/-- Take entry `j` of the table of sequencer `k` (R297, R309). -/
def Block.takeEntry (k j : Nat) (b : Block) : Block :=
  b.updSeq k fun q =>
    { q with pos := j, ain := b.rd (Reg.ADC_SEQk_Ej_AIN k j), n := b.rd (Reg.ADC_SEQk_Ej_REPEAT k j) + 1
             d := b.rd (Reg.ADC_SEQk_Ej_DELAY k j), avg := b.on (Reg.ADC_SEQk_Ej_AVG k j), done := 0, sum := 0 }

/-- Begin at entry 0, or a new sweep in scan mode with the masks and the delay in force (R298 to R300). -/
def Block.beginSeq (k : Nat) (b : Block) : Block :=
  let b := b.updSeq k fun q => { q with restart := false }
  if b.adc.scanning then
    match b.sweep k with
    | [] => b.updSeq k fun q => { q with running := false }
    | i :: r => b.updSeq k fun q =>
      { q with running := true, pos := 0, ain := i, n := 1, d := b.rd Reg.ADC_CTRL_SCAN_DELAY, avg := false
               done := 0, sum := 0, todo := r }
  else if b.on (Reg.ADC_SEQ_CFGk_EN k) then (b.updSeq k fun q => { q with running := true }).takeEntry k 0
  else b.updSeq k fun q => { q with running := false }

/-- A sequencer that converted nothing begins at the next slot boundary. -/
def Block.wakeSeq (k : Nat) (b : Block) : Block :=
  (b.updSeq k fun q => { q with last := (cdiv b.ns 200 * 200 : Nat) }).beginSeq k

/-- The entry of sequencer `k` is complete: the next one. -/
def Block.nextEntry (k : Nat) (b : Block) : Block :=
  let q := b.sequ k
  if b.adc.scanning then
    match q.todo with
    | [] => b.beginSeq k
    | i :: r => b.updSeq k fun q => { q with ain := i, done := 0, sum := 0, todo := r }
  else b.takeEntry k (if q.pos + 1 < b.rd (Reg.ADC_SEQ_CFGk_LEN k) then q.pos + 1 else 0)

/-! ### Conversions (R295, R302 to R306) -/

/-- Saturate to 16 bits signed. -/
def sat16 (x : Int) : Int := clampI x (-32768) 32767

/-- The corrected code of a raw code converted by `m` in a range (R295). -/
def Block.correct (b : Block) (m range : Nat) (raw : Int) : Int :=
  let c := (b.kconv m).cal.getD range default
  sat16 (rndShift ((raw - c.o) * c.g) 20)

/-- A kept result lies at or beyond 98 % of full scale in the direction of the input's test current: pull-up
    1 and 2, pull-down 3 and 4 (R305, R306). -/
def Block.beyond (b : Block) (i : Nat) (c : Int) : Bool :=
  if b.rd (Reg.ADC_IN_CFGi_OW i) ≤ 2 then decide (98 * 32768 ≤ 100 * c) else decide (100 * c ≤ -(98 * 32768))

/-- Open-wire detection on a kept result (R306). -/
def Block.openWire (i : Nat) (c : Int) (b : Block) : Block :=
  let x := b.ain i
  if b.rd (Reg.ADC_IN_CFGi_OW i) = 0 then b
  else if b.beyond i c = x.open_ then b.updAin i fun x => { x with openRun := 0 }
  else if x.openRun + 1 < 4 then b.updAin i fun x => { x with openRun := x.openRun + 1 }
  else
    let b := b.updAin i fun y => { y with openRun := 0, open_ := !x.open_ }
    if x.open_ then b else b.raise { source := 8, unitType := 8, idx := i }

/-- A kept result reaches its data register (R302); taken by the capture unit it is not unread. -/
def Block.dataReg (k i : Nat) (c : Int) (taken : Bool) (b : Block) : Block :=
  let late := b.on (Reg.ADC_DATAk_VALID k) && !taken
  let b := ((b.wrS (Reg.ADC_DATAk_CODE k) c).wr (Reg.ADC_DATAk_AIN k) i).flag (Reg.ADC_DATAk_VALID k) (!taken)
  if late then
    let b := b.setBit Reg.ADC_STAT_OVR k true
    if b.adc.ovrIn = some b.strk.num then b
    else (b.updAdc fun a => { a with ovrIn := some b.strk.num }).raise { source := 9, unitType := 8, idx := i }
  else b

/-- The capture unit takes a result that completed at `t` (R303); of two at one slot boundary the
    lower-numbered sequencer's stands. -/
def Block.capture (k i : Nat) (c t : Int) (b : Block) : Block :=
  let x := b.ain i
  if x.at_ = some t ∧ x.by_ < k then b
  else b.updAin i fun x => { x with code := c, at_ := some t, by_ := k }

/-- A kept conversion of sequencer `k` completes at `t`; `mean`: the entry's run is complete. -/
def Block.keepResult (k : Nat) (c t : Int) (mean : Option Int) (b : Block) : Block :=
  let q := b.sequ k
  let host := b.bit Reg.ADC_CTRL_HOST k
  let halt := b.on Reg.ADC_CTRL_CAPTURE_HALT
  let b := b.dataReg k q.ain c (!host && !halt)
  if host then b
  else
    let b := if halt then b
      else
        let b := b.updAin q.ain fun x => { x with kept := some t }
        if !q.avg then b.capture k q.ain c t
        else match mean with
          | some v => b.capture k q.ain v t
          | none => b
    b.openWire q.ain c

/-- When the slot in progress ends: the slot boundary just reached, or the next one where sequencer `k` has
    already completed a conversion there; always a multiple of 200 ns of TIME_NS, after a step too (R294). -/
def Block.slotEnd (b : Block) (k : Nat) : Int :=
  let t : Int := (b.ns / 200 * 200 : Nat)
  if (b.sequ k).last < t then t else (b.sequ k).last / 200 * 200 + 200

/-- ADC_SLOT_CONVERSION (R294, R297): the slot's conversion of sequencer `k` completes with a raw code. -/
def Block.adcSlotConversion (k : Nat) (raw : Int) (b : Block) : Block :=
  match b.adc.on, b.serving k with
  | true, some m =>
    if !(b.sequ k).running then b
    else
      let t := b.slotEnd k
      let b := b.until t.toNat
      let q := b.sequ k
      let kept := decide (q.d ≤ q.done)
      let c := b.correct m (b.rd (Reg.ADC_IN_CFGi_RANGE q.ain)) raw
      let full := decide (q.d + q.n ≤ q.done + 1)
      let sum := if kept then q.sum + c else q.sum
      let b := if kept then b.keepResult k c t (if full then some (rdiv sum q.n) else none) else b
      let b := b.updSeq k fun q => { q with done := q.done + 1, sum := sum, last := t }
      if q.restart then b.beginSeq k else if full then b.nextEntry k else b
  | _, _ => b

/-! ### The stroke boundary (R298, R299, R303, R304) -/

/-- The signal value of a latched code (R304). -/
def Block.scaled (b : Block) (i : Nat) (code : Int) : Int :=
  sat32 (rndShift ((code - b.rdS (Reg.ADC_IN_SCALEi_OFFS i)) * b.rdS (Reg.ADC_IN_GAINi_GAIN i))
    (b.rd (Reg.ADC_IN_SCALEi_SHIFT i)))

/-- Latch input `i` at boundary `t`; `prev`: the boundary before, if there was one. -/
def Block.latchIn (i : Nat) (t : Int) (prev : Option Int) (b : Block) : Block :=
  let x := b.ain i
  let new := match x.kept, prev with
    | none, _ => false
    | some k, some p => decide (p < k) && decide (k ≤ t)
    | some k, none => decide (k ≤ t)
  let stale := !new || x.open_ || b.on Reg.ADC_CTRL_CAPTURE_HALT || !b.adc.on
  let age := match x.at_ with
    | some a => min ((t - a) / 100).toNat 4095
    | none => 0
  let b := if stale then b else b.wrS (Reg.ADC_IN_VALi_X i) (b.scaled i x.code)
  let b := ((b.wrS (Reg.ADC_IN_STATi_CODE i) x.code).flag (Reg.ADC_IN_STATi_STALE i) stale).flag
    (Reg.ADC_IN_STATi_OPEN i) x.open_
  (b.flag (Reg.ADC_IN_STATi_OVERRANGE i) (x.code == -32768 || x.code == 32767)).wr (Reg.ADC_IN_STATi_AGE i) age

/-- An input whose OW is 0 is not flagged (R306): a cast that sets it so clears the flag at its boundary. -/
def Block.owJudge (b : Block) : Block :=
  if b.strk.castHere then
    b.each 64 fun i b => if b.rd (Reg.ADC_IN_CFGi_OW i) = 0 then
        b.updAin i fun x => { x with open_ := false, openRun := 0 } else b
  else b

/-- Capture at boundary `t` (R303). -/
def Block.latchInputs (t : Int) (prev : Option Int) (b : Block) : Block := b.each 64 fun i b => b.latchIn i t prev

/-- Did a cast change the table, LEN, EN or SYNC of sequencer `k` (R299)? -/
def Block.tableChanged (b : Block) (k : Nat) : Bool :=
  let diff (f : Field) : Bool := b.rd f != b.formerBank.fld f
  diff (Reg.ADC_SEQ_CFGk_LEN k) || diff (Reg.ADC_SEQ_CFGk_EN k) || diff (Reg.ADC_SEQ_CFGk_SYNC k)
    || (List.range 32).any fun j => diff (Reg.ADC_SEQk_Ej_AIN k j) || diff (Reg.ADC_SEQk_Ej_AVG k j)
      || diff (Reg.ADC_SEQk_Ej_REPEAT k j) || diff (Reg.ADC_SEQk_Ej_DELAY k j)

/-- Restart sequencer `k` at the first slot boundary at or after the boundary `t`, once the conversion in
    progress completes. -/
def Block.restartSeq (k : Nat) (t : Int) (b : Block) : Block :=
  if !(b.sequ k).running then b.wakeSeq k
  else if t % 200 = 0 then b.beginSeq k
  else b.updSeq k fun q => { q with restart := true }

/-- Sequencers at boundary `t`: a change of mode, a new table, or SYNC (R298 to R300). -/
def Block.adcBoundary (t : Int) (b : Block) : Block :=
  if !b.adc.on then b
  else
    let want := b.on Reg.ADC_CTRL_SCAN
    let changes := want != b.adc.scanning
    let b := b.updAdc fun a => { a with scanning := want }
    b.each 8 fun k b =>
      if changes || (!want && (b.on (Reg.ADC_SEQ_CFGk_SYNC k) || (b.strk.castHere && b.tableChanged k))) then
        b.restartSeq k t
      else b

/-- A step of TIME_NS moves what capture holds with it (R315). -/
def Block.adcStep (d : Int) (b : Block) : Block :=
  let sh (x : Option Int) : Option Int := x.map (· + d)
  let b := b.each 64 fun i b => b.updAin i fun x => { x with at_ := sh x.at_, kept := sh x.kept }
  b.each 8 fun k b => b.updSeq k fun q => if q.last = 0 then q else { q with last := q.last + d }

/-- The converter leaving OFF clears SCAN, CAPTURE_HALT and HOST (R301). -/
def Block.adcLeaveOff (b : Block) : Block :=
  ((b.flag Reg.ADC_CTRL_SCAN false).flag Reg.ADC_CTRL_CAPTURE_HALT false).wr Reg.ADC_CTRL_HOST 0

/-! ### Calibration and rotation (R295, R296) -/

/-- A calibration passes (R295). -/
def calPass (cal : List CalRange) : Bool :=
  cal.length == 4 && cal.all fun c => decide (|c.o| ≤ 64) && decide (|c.ppm| ≤ 10000)

/-- Converter `m` begins a full calibration. -/
def Block.calStart (m : Nat) (b : Block) : Block :=
  (b.wr (Reg.ADC_CONVk_STATE m) 1).updKconv m fun c => { c with calAt := b.tb.up, short := false }

/-- Corrections of converter `m` come into use. -/
def Block.takeCal (m : Nat) (cal : List CalRange) (full : Bool) (b : Block) : Block :=
  let c := cal.getD 0 default
  let b := (b.updKconv m fun x => { x with cal := cal }).flag (Reg.ADC_CONVk_FULL m) full
  (b.wrS (Reg.ADC_CONVk_OFFS m) c.o).wrS (Reg.ADC_CONVk_GAINERR m) c.ppm

/-- Converter `m` is excluded: there is no spare, and rotation stops (R296). -/
def Block.exclude (m : Nat) (b : Block) : Block :=
  ((b.wr (Reg.ADC_CONVk_STATE m) 3).flag Reg.ADC_STAT_NOROT true).raise { source := 7, unitType := 11, idx := m }

/-- All short calibrations have ended: the eight lowest that passed serve sequencers 0 to 7, a ninth is the
    spare and calibrates in full, or idles while rotation is held (R296). -/
def Block.assignConvs (b : Block) : Block :=
  let ok := (List.range 9).filter fun m => (b.kconv m).shortDone == some true
  let b := b.each 8 fun k b =>
    match ok[k]? with
    | some m => ((b.wr (Reg.ADC_CONVk_STATE m) 0).wr (Reg.ADC_CONVk_SEQ m) k).setBit Reg.ADC_STAT_NOCONV k false
    | none => b.setBit Reg.ADC_STAT_NOCONV k true
  let b := match ok[8]? with
    | some m => if b.on Reg.ADC_CTRL_ROT_HOLD then b.wr (Reg.ADC_CONVk_STATE m) 2 else b.calStart m
    | none => b
  let b := b.updAdc fun a => { a with rotNext := 0, rotAt := b.tb.up }
  b.each 8 fun k b => b.wakeSeq k

/-- ADC_CAL_COMPLETE (R295, R296): the calibration in progress in converter `m` ends. -/
def Block.adcCalComplete (m : Nat) (cal : List CalRange) (b : Block) : Block :=
  let x := b.kconv m
  if b.rd (Reg.ADC_CONVk_STATE m) ≠ 1 ∨ !b.adc.on ∨ (x.short ∧ x.shortDone.isSome) then b
  else
    let pass := calPass cal
    let b := b.untilUp (x.calAt + (if x.short then 10 else 10000) * msPs)
    if x.short then
      let b := b.updKconv m fun c => { c with shortDone := some pass }
      let b := if pass then b.takeCal m cal false else b.exclude m
      if (List.range 9).all fun i => (b.kconv i).shortDone.isSome then b.assignConvs else b
    else if pass then (b.takeCal m cal true).wr (Reg.ADC_CONVk_STATE m) 2
    else b.exclude m

/-- ADC_HANDOVER (R296): the calibrated spare takes the next sequencer in turn, and the converter it relieves
    calibrates. -/
def Block.adcHandover (b : Block) : Block :=
  let k := b.adc.rotNext
  match (List.range 9).find? fun m => b.rd (Reg.ADC_CONVk_STATE m) == 2, b.serving k with
  | some m, some o =>
    if b.on Reg.ADC_CTRL_ROT_HOLD || b.on Reg.ADC_STAT_NOROT || !b.adc.on then b
    else
      let t := b.adc.rotAt + 10000 * msPs
      let b := b.untilUp t
      let b := b.until (cdiv b.ns 200 * 200)
      let b := (b.wr (Reg.ADC_CONVk_STATE m) 0).wr (Reg.ADC_CONVk_SEQ m) k
      (b.calStart o).updAdc fun a => { a with rotNext := (k + 1) % 8, rotAt := t }
  | _, _ => b

/-- The short calibrations of the start are in progress. -/
def Block.shortCal (b : Block) : Bool := (List.range 9).any fun m => (b.kconv m).short && (b.kconv m).shortDone.isNone

/-- Rotation resumes: the spare begins a full calibration at once, and the intervals count afresh (R296).  Before the end
    of the start-up short calibration there is no rotation to resume. -/
def Block.rotResume (b : Block) : Block :=
  if b.on Reg.ADC_STAT_NOROT || b.on Reg.ADC_CTRL_ROT_HOLD || !b.adc.on || b.shortCal then b
  else
    let b := match (List.range 9).find? fun m =>
        b.rd (Reg.ADC_CONVk_STATE m) == 1 || b.rd (Reg.ADC_CONVk_STATE m) == 2 with
      | some m => b.calStart m
      | none => b
    b.updAdc fun a => { a with rotAt := b.tb.up }

/-- Rotation is held: a spare that calibrates stops and idles (R296). -/
def Block.rotHolds (b : Block) : Block :=
  if b.shortCal || !b.adc.on then b
  else match (List.range 9).find? fun m => b.rd (Reg.ADC_CONVk_STATE m) == 1 with
    | some m => b.wr (Reg.ADC_CONVk_STATE m) 2
    | none => b

/-- What P4 keeps of the converters, once their short calibrations have ended (R296). -/
def Block.adcHeld (b : Block) : Option (List (Nat × Nat × Nat) × Nat × Nat) :=
  if (List.range 9).all fun m => (b.kconv m).shortDone.isSome then
    some ((List.range 9).map fun m =>
        (b.rd (Reg.ADC_CONVk_STATE m), b.rd (Reg.ADC_CONVk_SEQ m), b.rd (Reg.ADC_CONVk_FULL m)),
      b.rd Reg.ADC_STAT_NOCONV, b.rd Reg.ADC_STAT_NOROT)
  else none

/-- A converter shows again what it held on entry to P4. -/
def Block.convBack (cs : List (Nat × Nat × Nat)) (m : Nat) (b : Block) : Block :=
  let c := cs.getD m (3, 0, 0)
  ((b.wr (Reg.ADC_CONVk_STATE m) c.1).wr (Reg.ADC_CONVk_SEQ m) c.2.1).takeCal m (b.kconv m).cal (c.2.2 == 1)

/-- Power the converters at option-area load: all nine run a short calibration (R296, R300); at exit from P4 they take
    the sequencers they held, with their corrections, and rotation resumes. -/
def Block.adcPowerUp (b : Block) : Block :=
  let b := b.updAdc fun a => { a with on := true, scanning := true }
  match b.adc.held with
  | some (cs, noconv, norot) =>
    let b := (b.updAdc fun a => { a with held := none }).each 9 (Block.convBack cs)
    let b := (b.wr Reg.ADC_STAT_NOCONV noconv).wr Reg.ADC_STAT_NOROT norot
    (b.each 8 fun k b => b.wakeSeq k).rotResume
  | none =>
    b.each 9 fun m b => (b.wr (Reg.ADC_CONVk_STATE m) 1).updKconv m fun c =>
      { c with calAt := b.tb.up, short := true, shortDone := none }

/-- A write of a scan mask: a converter whose sweep had no input begins one (R300). -/
def Block.scanMaskWrite (b : Block) : Block :=
  if b.adc.on && b.adc.scanning then b.each 8 fun k b => if (b.sequ k).running then b else b.wakeSeq k else b

/-- P3 and P4: converters and capture are unpowered, every input is stale (R296). -/
def Block.adcPowerDown (b : Block) : Block :=
  (b.updAdc fun a => { a with on := false }).each 64 fun i b => b.flag (Reg.ADC_IN_STATi_STALE i) true

/-- Exit from P3 or P4: the converters take the sequencers they held, and rotation resumes (R296). -/
def Block.adcWake (b : Block) : Block :=
  let b := b.updAdc fun a => { a with on := true }
  (b.each 8 fun k b => b.wakeSeq k).rotResume

/-! ### Meanings -/

/-- ADC_SLOT_CONVERSION (R294). -/
def execAdcSlotConversion (k : Fin 8) (raw : BitVec 16) (s : State) : Host.Outcome State Fault Refusal :=
  s.onBlk (·.adcSlotConversion k raw.toInt)
/-- ADC_HANDOVER (R296). -/
def execAdcHandover (s : State) : Host.Outcome State Fault Refusal := s.onBlk (·.adcHandover)
/-- ADC_CAL_COMPLETE (R295). -/
def execAdcCalComplete (m : Fin 9) (cal : List CalRange) (s : State) : Host.Outcome State Fault Refusal :=
  s.onBlk (·.adcCalComplete m cal)

end Sys2Proof.Machine
end

