-- ==== Sys2Proof/Machine/Chisel.lean ====
section
/-! DEFINITION. The chisel (R153 to R178): arm commands, balancing and positions (R132, R136 to R138,
    R216), edges of the cells, DAB words, command areas and downlink frames (R190), and what is handed to
    the local legs and ports at 720 ns (R241, R281). -/

namespace Sys2Proof.Machine

/-! ### Arm commands (R132, R135 to R138) -/

/-- m_k (R132), rounded once (R469): the feedforward quotient is 0 where its divisor is not positive. -/
def Block.armM (b : Block) (k : Nat) : Int :=
  let u := b.rdS (Reg.ARM_CTX_OUT_U (b.rd Reg.ARM_MAP0_ARMI_BASE + k))
  let g : Int := if b.on Reg.SYS_CONV_MOD_VFF then b.rd Reg.SYS_CONV_VFF_GAIN_GAIN else 0
  let lim : Int := b.rd Reg.SYS_CONV_MODMAX_MODMAX
  let n := (b.arm k).vSum
  clampI (if n ≤ 0 then u else rdiv (u * n + g * b.ainPu (b.phaseInput k)) n) (-lim) lim

/-- dir of arm `k` (R135). -/
def Block.dir (b : Block) (k : Nat) : Int := if (b.arm k).neg then -1 else 1

/-- The balancing weight of slot `s` in 2^-16 (R136, R215, R216). -/
def Block.weight (b : Block) (s : Nat) : Int :=
  let w : Int := b.rd Reg.CELL_GCFG_W_CHG
  if b.svc s = 3 then 256 * w
  else if b.svc s = 4 then 256 * w + (256 - w) * 4 * b.rd (Reg.CELL_SLOT_STAT_JOIN_CNT s)
  else 65536

/-- Δm of slot `s` (R136), rounded once (R469). -/
def Block.deltaM (b : Block) (s : Nat) : Int :=
  let a := b.arm (armOf s)
  let lim : Int := b.rd Reg.SYS_CONV_BAL_DMAX_DMAX
  clampI (rdiv (b.weight s * b.rd Reg.SYS_CONV_BAL_KBAL * (a.vSum - a.vCnt * b.dcLink s) * b.dir (armOf s))
    (16 * a.vSum)) (-lim) lim

/-- Modulation is level-sorted (R137). -/
def Block.levelSorted (b : Block) : Bool := b.on Reg.SYS_CONV_MOD_MODE

/-- Positions and carrier phases of arm `k` at a carrier boundary (R136). -/
def Block.buildPositions (k : Nat) (b : Block) : Block :=
  let ss := (armSlots k).filter b.inserted
  let c := b.rd Reg.SYS_CAMPUS_PHASE_PHASE
  let b := b.eachOf (armSlots k) fun s b =>
    b.updCh s fun x => { x with pos := 0, phase := 0, full := false, duty := false }
  b.each ss.length fun p b => b.updCh (ss.getD p 0) fun x =>
    { x with pos := p, phase := ofS 32 (rdiv (p * 2 ^ 32) ss.length + c) }

/-- The level-sorted selection of arm `k` at a carrier boundary (R137, R138). -/
def Block.buildLevels (k : Nat) (b : Block) : Block :=
  let a := b.arm k
  let n := (a.m.natAbs * a.vCnt) / 2 ^ 24
  let neg := decide (a.m < 0)
  let charge := neg == a.neg
  let pool := if charge then a.rank else (a.rank.filter fun s => b.svc s != 3).reverse
  let c := b.rd Reg.SYS_CAMPUS_PHASE_PHASE
  let b := b.updArm k fun a => { a with sgnNeg := neg, nFull := n }
  let b := b.eachOf (armSlots k) fun s b =>
    b.updCh s fun x => { x with pos := 0, phase := 0, full := false, duty := false }
  let b := b.eachOf (pool.take n) fun s b => b.updCh s fun x => { x with full := true }
  b.eachOf ((pool.drop n).take 1) fun s b => b.updCh s fun x => { x with duty := true, phase := c }

/-- Form m_k of arm `k`, and at a carrier boundary rebuild its positions or its selection (R138). -/
def Block.armCommand (k : Nat) (b : Block) : Block :=
  let m := b.armM k
  let b := b.updArm k fun a => { a with m := m }
  if !b.strk.carrier then b else if b.levelSorted then b.buildLevels k else b.buildPositions k

/-- m_cell of an inserted cell (R136, R161).  In level-sorted mode a cell inserted fully shows ±1.0 pu and
    one not chosen 0. -/
def Block.mCell (b : Block) (s : Nat) : Int :=
  let a := b.arm (armOf s)
  let x := b.ch s
  let one : Int := 2 ^ 24
  let sgn : Int := if a.sgnNeg then -1 else 1
  if b.levelSorted then
    if x.full then sgn * one
    else if x.duty then sgn * clampI (sgn * a.m * a.vCnt - a.nFull * one) 0 one
    else 0
  else
    let m := clampI (a.m + b.deltaM s) (-one) one
    if b.svc s = 3 then (if a.neg then min m 0 else max m 0) else m

/-- The static states of the legs of a cell in level-sorted mode; none for a switched cell (R161). -/
def Block.static (b : Block) (s : Nat) : Option (Bool × Bool) :=
  let x := b.ch s
  let neg := (b.arm (armOf s)).sgnNeg
  if !b.levelSorted || x.duty then none
  else if x.full then some (!neg, neg)
  else some (false, false)

/-! ### Edges of one leg (R162 to R165) -/

/-- The times a stroke's compilation works with: boundary and period in ns, carrier period, cb − B_n, and
    the window of R153. -/
structure Window where
  b : Int
  p : Int
  tc : Int
  d : Int
  deriving DecidableEq, Repr

/-- The window of the stroke in progress (R153, R162). -/
def Block.window (b : Block) : Window :=
  let p : Int := b.rd Reg.SYS_STROKE_NS_PERIOD
  let dbl := b.on Reg.SYS_STROKE_CFG_UPDATE
  { b := b.strk.b, p := p, tc := if dbl then 2 * p else p
    d := if dbl && !b.strk.carrier then -p else 0 }

/-- tmin of slot `s` in ticks (R163). -/
def Block.cellTmin (b : Block) (s : Nat) : Nat :=
  nsTicks (b.rd (Reg.LINK_CAP_TIMING_DT s)
    + max (b.rd (Reg.LINK_CAP_TIMING_MINP s)) (b.rd Reg.CHSL_MINP_FLOOR_FLOOR))

/-- The crossings of a leg with compare value `m` that fall in the window: q in 2^-32 ns after B_n, and the
    state (R162). -/
def Window.crossings (w : Window) (phase : Nat) (m : Int) : List (Int × Bool) :=
  let lo := (2 ^ 24 + m) * 64
  let hi := (3 * 2 ^ 24 - m) * 64
  let at_ (x : Int) (j : Int) : Int := (j * 2 ^ 32 + (phase + x) % 2 ^ 32) * w.tc + w.d * 2 ^ 32
  [(at_ lo 0, false), (at_ lo 1, false), (at_ hi 0, true), (at_ hi 1, true)].filter fun e =>
    decide (1000 * 2 ^ 32 ≤ e.1) && decide (e.1 < (w.p + 1000) * 2 ^ 32)

/-- Insert an edge in order of q. -/
def edgeInsert (e : Int × Bool) : List (Int × Bool) → List (Int × Bool)
  | [] => [e]
  | f :: r => if e.1 < f.1 then e :: f :: r else f :: edgeInsert e r

/-- Place the two edges of one q so that the first changes the state in force (R162). -/
def placeEqual : Nat → Bool → List (Int × Bool) → List (Int × Bool)
  | n + 1, cur, e :: f :: r =>
    if e.1 = f.1 ∧ e.2 = cur then f :: placeEqual n f.2 (e :: r) else e :: placeEqual n e.2 (f :: r)
  | _, _, l => l

/-- The state the carrier comparison gives at B_n + 1,000 ns (R162). -/
def Window.atStart (w : Window) (phase : Nat) (m : Int) : Bool :=
  let t := w.tc * 2 ^ 32
  let x := ((1000 - w.d) * 2 ^ 32 - phase * w.tc) % t
  let c := if 2 * x < t then 4 * x - t else 3 * t - 4 * x
  decide (c * 2 ^ 24 < m * t)

/-- q as ticks after B_n, in 1/64 ns (R162, R164). -/
def qInst (q : Int) : Int := 5 * rdiv (q * 64) (5 * 2 ^ 32)

/-- What one leg is sent: its START state, its edges in 1/64 ns after B_n, pairs swallowed and edges
    stretched, and the leg's record for the next stroke. -/
structure LegOut where
  start : Bool
  edges : List (Int × Bool)
  sw : Nat
  st : Nat
  last : Option Int
  state : Bool
  deriving DecidableEq, Repr

/-- Compile one leg (R161 to R165).  `was`: the cell was sent RUN in the last stroke; `last` and `state`:
    its record; `fixed`: a static state.  In the cell's first RUN stroke START of a static leg that has had no edge is that state,
    with no edge (log entry 157). -/
def Window.leg (w : Window) (was : Bool) (last : Option Int) (state : Bool) (fixed : Option Bool)
    (phase : Nat) (m : Int) (tmin : Nat) (stretch : Bool) : LegOut :=
  let cand := match fixed with
    | some x => [((1000 * 2 ^ 32 : Int), x)]
    | none => (w.crossings phase m).foldl (fun l e => edgeInsert e l) []
  let cur := match last, fixed with
    | some _, _ => state
    | none, some x => if was then state else x
    | none, none => w.atStart phase m
  let t0 := match last with
    | some t => some (t - w.b * 64)
    | none => none
  let late := match t0 with
    | some t => decide (64000 < t)
    | none => false
  let start := if late then !cur else cur
  let l := (dropRedundant cur (placeEqual 4 cur cand)).map fun e => (qInst e.1, e.2)
  let r := shortEdges 5 (5 * tmin) stretch t0 [] 0 0 l
  let es := r.1.take 4
  { start := start, edges := es, sw := r.2.1 + cdiv (r.1.length - 4) 2, st := r.2.2
    last := match es.getLast? with
      | some e => some (w.b * 64 + e.1)
      | none => last
    state := match es.getLast? with
      | some e => e.2
      | none => cur }

/-! ### DAB words (R166 to R168) -/

/-- The first or last instant of the DAB grid of slot `s` at or after an instant (R168). -/
def Block.dabOffs (b : Block) (s : Nat) : Nat :=
  if b.on Reg.CHSL_CFG_DAB_SPREAD then s * b.rd Reg.CHSL_DAB_PERIOD_PERIOD / 192 else 0

/-- START, in ticks from B_n (R168). -/
def Block.dabStart (b : Block) (s : Nat) : Int :=
  let w : Int := (b.strk.b + 1000 : Nat) * 64
  rdiv (b.gridAfter (b.dabOffs s) (b.rd Reg.CHSL_DAB_PERIOD_PERIOD) w - b.strk.b * 64) 5

/-- PHI_in: the PHI in use at the latest period start before B_n + 1,000 ns, 0 where EN was 0 there
    (R167, R173). -/
def Block.phiIn (b : Block) (s : Nat) : Int :=
  let per := b.rd Reg.CHSL_DAB_PERIOD_PERIOD
  let w : Int := (b.strk.b + 1000 : Nat) * 64
  let t := b.gridAfter (b.dabOffs s) per w - 5 * per
  match (b.ch s).hist.find? fun h => decide (h.1 ≤ t) with
  | some (_, phi, en) => if en then phi else 0
  | none => 0

/-- PHI sent, and whether the step limit acted (R166, R167). -/
def Block.phiOut (b : Block) (s : Nat) : Int × Bool :=
  let u := b.rdS (Reg.ARM_CTX_OUT_U (b.rd Reg.ARM_MAP0_DAB_BASE + s))
  let per : Int := b.rd Reg.CHSL_DAB_PERIOD_PERIOD
  let req := clampI (rdiv (u * b.conv.kstop) (2 ^ 34)) (-16384) 16384
  let lim := min (b.rd Reg.CHSL_DAB_STEP_STEP_MAX : Int) ((per - 2 * b.cellTmin s) * 65536 / (2 * per))
  let phi := clampI req (b.phiIn s - lim) (b.phiIn s + lim)
  (phi, phi != req)

/-! ### Command areas (R156 to R160) -/

/-- MODE of the frame of slot `s` (R160, R212). -/
def Block.modeOf (b : Block) (s : Nat) : Nat :=
  if b.svc s = 1 ∨ b.svc s = 2 then 2
  else if !b.running then 0
  else if b.isSpare s then 2
  else 1

/-- A slot's lane carries a COMMAND frame in this stroke (R160, R190). -/
def Block.framed (b : Block) (s : Nat) : Bool :=
  b.svc s != 0 && b.rd (Reg.LINK_STAT_STATE s) == 4

/-- An edge word (R158). -/
def edgeWord (e : Int × Bool) : Nat := ofS 24 (e.1 / 5) + (if e.2 then 2 ^ 24 else 0) + 2 ^ 31

/-- The four edge words of a leg. -/
def edgeWords (es : List (Int × Bool)) : List Nat :=
  es.map edgeWord ++ List.replicate (4 - es.length) 0

/-- What the chisel makes of one slot: its area, and what its registers show. -/
structure CellOut where
  words : List Nat
  legA : LegOut
  legB : LegOut
  phi : Int
  en : Bool
  limited : Bool
  deriving DecidableEq, Repr

/-- A leg that is sent no edges. -/
def LegOut.none : LegOut := { start := false, edges := [], sw := 0, st := 0, last := .none, state := false }

/-- Compile one framed slot (R157 to R168). -/
def Block.compileCell (b : Block) (s : Nat) : CellOut :=
  let w := b.window
  let x := b.ch s
  let run := b.modeOf s == 1
  let m := b.mCell s
  let tmin := b.cellTmin s
  let pol := b.bit Reg.CHSL_CFG_SHORT_POL (armOf s)
  let fixed := b.static s
  let a := if run then
      w.leg x.ran (if x.ran then x.lastA else none) x.stateA (fixed.map (·.1)) x.phase m tmin pol
    else LegOut.none
  let c := if run then
      w.leg x.ran (if x.ran then x.lastB else none) x.stateB (fixed.map (·.2)) x.phase (-m) tmin pol
    else LegOut.none
  let en := run && (b.svc s == 4 || b.isActive s)
  let (phi, limited) := if en then b.phiOut s else (0, false)
  let ctrl := b.modeOf s + (if a.start then 4 else 0) + (if c.start then 8 else 0)
    + (if run && b.svc s == 3 then 16 else 0)
  { words := [ctrl] ++ edgeWords a.edges ++ edgeWords c.edges
      ++ [ofS 24 (b.dabStart s), ofS 16 phi + (if en then 65536 else 0), b.rd Reg.CHSL_DAB_PERIOD_PERIOD]
    legA := a, legB := c, phi := phi, en := en, limited := limited }

/-- The registers of slot `s` (R177); `o`: what it is sent, if anything. -/
def Block.showCell (s : Nat) (o : Option CellOut) (b : Block) : Block :=
  let ins := b.inserted s
  let x := b.ch s
  let b := b.wr (Reg.CHSL_CELL_MODE_MODE s) (if o.isSome then b.modeOf s else 0)
  let b := b.flag (Reg.CHSL_CELL_MODE_SPARE s) (b.isSpare s)
  let b := b.flag (Reg.CHSL_CELL_MODE_CHARGE_ONLY s) (o.isSome && b.modeOf s == 1 && b.svc s == 3)
  let b := b.wr (Reg.CHSL_CELL_MODE_POSITION s) (if ins then x.pos else 0)
  let b := b.wr (Reg.CHSL_CELL_PHASE_PHASE s) (if ins then x.phase else 0)
  let b := b.wrS (Reg.CHSL_CELL_M_M s) (if ins then b.mCell s else 0)
  match o with
  | none =>
    let b := ((b.wr (Reg.CHSL_CELL_PHI_PHI s) 0).flag (Reg.CHSL_CELL_PHI_EN s) false).flag
      (Reg.CHSL_CELL_PHI_LIMITED s) false
    ((b.wr (Reg.CHSL_CELL_EDGES_LEG_A s) 0).wr (Reg.CHSL_CELL_EDGES_LEG_B s) 0).wr (Reg.CHSL_CELL_TMIN_TMIN s) (b.cellTmin s)
  | some o =>
    let b := ((b.wrS (Reg.CHSL_CELL_PHI_PHI s) o.phi).flag (Reg.CHSL_CELL_PHI_EN s) o.en).flag
      (Reg.CHSL_CELL_PHI_LIMITED s) o.limited
    let b := (b.wr (Reg.CHSL_CELL_EDGES_LEG_A s) o.legA.edges.length).wr (Reg.CHSL_CELL_EDGES_LEG_B s)
      o.legB.edges.length
    let b := b.wr (Reg.CHSL_CELL_TMIN_TMIN s) (b.cellTmin s)
    (b.count (Reg.CHSL_CELL_CNT_SWALLOW s) (o.legA.sw + o.legB.sw)).count (Reg.CHSL_CELL_CNT_STRETCH s)
      (o.legA.st + o.legB.st)

/-- The chisel's record of a slot for the next stroke. -/
def Block.keepCell (s : Nat) (o : Option CellOut) (b : Block) : Block :=
  let w : Int := (b.strk.b + 1000 : Nat) * 64
  let run := b.modeOf s == 1
  b.updCh s fun x =>
    match o with
    | none => { x with ran := false, lastA := none, lastB := none, hist := (w, 0, false) :: x.hist.take 15 }
    | some o =>
      { x with ran := run, lastA := o.legA.last, stateA := o.legA.state, lastB := o.legB.last
               stateB := o.legB.state, hist := (w, o.phi, o.en) :: x.hist.take 15 }

/-- The whole module's figures of a stroke (R176). -/
structure ChisSum where
  frames : Nat
  sw : Nat
  st : Nat
  limited : Bool
  deriving DecidableEq, Repr

/-! ### Downlink frames (R190, R191) -/

/-- A downlink frame: header, body of 48 bytes, auxiliary word, CRC.  The holder's frames carry the generation it asserts
    (R144, R191), the other module's the highest it knows. -/
def Block.downFrame (b : Block) (l type : Nat) (body : List Byte) (aux : Nat) : List Byte :=
  let pair := b.on Reg.SYS_PAIR_CFG_EN
  let flags := (if b.holds then 1 else 0) + (if pair then 2 else 0)
    + (if b.on Reg.SYS_PAIR_CFG_ROLE then 4 else 0)
  let par := b.rd Reg.SYS_STROKE_NS_PERIOD + 2 ^ 17 * b.rd Reg.SYS_STROKE_CFG_UPDATE
    + 2 ^ 18 * b.rd Reg.LINK_GCFG_TIMEOUT_N
  let bs := be 1 1 ++ be 1 type ++ be 1 flags ++ be 1 0
    ++ be 4 (if !pair then 1 else if b.holds then b.pair.gen else b.rd Reg.SYS_PAIR_GEN_GEN) ++ be 8 b.strk.num ++ be 8 b.strk.b
    ++ be 4 par ++ be 4 (b.rd (Reg.LINK_DELAY_DELAY l)) ++ body ++ be 4 aux ++ zeros 8
  bs ++ be 4 (crc32 bs)

/-- Dispatch a COMMAND frame: the bypass check begins with the first BYPASS frame of a fenced cell (R220); CLEAR stands in
    the frames of the four strokes after FAULT_CLEAR (R222). -/
def Block.dispatch (s : Nat) (words : List Nat) (b : Block) : Block :=
  let x := b.lane s
  if x.cut then b
  else
    let body := words.foldl (fun l w => l ++ be 4 w) []
    let b := b.emitLane (.downlink s (b.downFrame s 1 body (if 0 < x.clear then 1 else 0)))
    if b.svc s = 1 ∧ (b.cell s).byp = none then b.updCell s fun c => { c with byp := some b.strk.num } else b

/-- One slot of the stroke: compiled, shown and dispatched. -/
def Block.chiselCell (s : Nat) (bw : Block × ChisSum) : Block × ChisSum :=
  let (b, w) := bw
  let o := if b.framed s then some (b.compileCell s) else none
  let b := (b.showCell s o).keepCell s o
  match o with
  | none => (b, w)
  | some o =>
    let cap := b.on Reg.CHSL_CAP_SEL_EN && b.rd Reg.CHSL_CAP_SEL_SLOT == s
    let b := if cap then b.each 12 fun k b => b.wr (Reg.CHSL_CAP_Wk_WORD k) (o.words.getD k 0) else b
    (b.dispatch s o.words,
      { frames := w.frames + 1, sw := w.sw + o.legA.sw + o.legB.sw, st := w.st + o.legA.st + o.legB.st
        limited := w.limited || o.limited })

/-- A CAP_REQ frame leaves on each lane in CAPEX (R187, R190). -/
def Block.capRequest (l : Nat) (b : Block) : Block :=
  if b.rd (Reg.LINK_STAT_STATE l) = 3 then b.emitLane (.downlink l (b.downFrame l 2 (be 2 l ++ zeros 46) 0)) else b

/-- One of the four strokes whose frames carry CLEAR has had its frame, whether or not one left (R190, R222). -/
def Block.clearCount (l : Nat) (b : Block) : Block :=
  if (b.lane l).clear = 0 then b else b.updLane l fun x => { x with clear := x.clear - 1 }

/-! ### Local legs and ports at 720 ns (R241, R281) -/

/-- The compares of a leg with SRC 1 (R241): the inverter context of leg `l`, L16 to L19. -/
def Block.inverterForm (l : Nat) (b : Block) : Block :=
  if b.rd (Reg.PWM_LEG_CFG_SRC l) ≠ 1 then b
  else
    let u := b.rdS (Reg.ARM_CTX_OUT_U (b.rd Reg.ARM_MAP1_INV_BASE + (l - 16)))
    let up := clampI (rndShift (u * b.conv.kstop) 24) (-(2 ^ 24)) (2 ^ 24)
    let on := ((2 ^ 24 - up) * 64).toNat
    let off := min ((3 * 2 ^ 24 + up) * 64).toNat (2 ^ 32 - 1)
    b.updLeg l fun x => { x with formed := some (on, off, (b.strk.b + 1000 : Nat) * 64) }

/-- What the ports form at 720 ns from their contexts (R281). -/
def Block.portsForm (b : Block) : Block :=
  b.each 8 fun p b => b.portForm p (b.rdS (Reg.ARM_CTX_OUT_U (b.rd Reg.ARM_MAP1_PORT_BASE + p)))

/-- CHISEL_COMPILE: from 670 ns to 720 ns (R154, R155).  Nothing outside a stroke whose report window has
    closed. -/
def Block.chiselCompile (b : Block) : Block :=
  if !b.strk.ticking || b.strk.phase != .reported then b
  else
    let b := b.until (b.strk.b + 670)
    let b := b.each 3 fun k b => b.armCommand k
    let b := b.until (b.strk.b + 720)
    let b := b.each 12 fun k b => b.wr (Reg.CHSL_CAP_Wk_WORD k) 0
    let (b, w) := (List.range 192).foldl (fun bw s => Block.chiselCell s bw)
      (b, { frames := 0, sw := 0, st := 0, limited := false })
    let b := b.each 192 fun l b => (b.capRequest l).clearCount l
    let b := (b.wr Reg.CHSL_STAT_FRAMES w.frames).wr Reg.CHSL_STAT_SWALLOWS (satNat 8 w.sw)
    let b := (b.wr Reg.CHSL_STAT_STRETCHES (satNat 8 w.st)).flag Reg.CHSL_STAT_PHI_LIMITED w.limited
    let b := b.eachOf [16, 17, 18, 19] fun l b => b.inverterForm l
    (b.portsForm).updStrk fun k => { k with phase := .compiled }

/-- CHISEL_COMPILE (R154). -/
def execChiselCompile (s : State) : Host.Outcome State Fault Refusal := s.onBlk (·.chiselCompile)

end Sys2Proof.Machine
end

