-- ==== Sys2Proof/Machine/Converter.lean ====
section
/-! DEFINITION. The converter controller (R120 to R126, R128, R141): start conditions, the transition at a
    boundary, k_stop, riding through untimed strokes, and the rows of its conditions. -/

namespace Sys2Proof.Machine

/-! ### Questions -/

/-- A fault of class STOP, BLOCK or HALT is latched (R344). -/
def Block.anyLatched (b : Block) : Bool := b.evt.latchCls.any fun kv => decide (2 ≤ kv.2)

/-- A safety demand is active for R121 and R123: the latch is set or a ramp runs (R367). -/
def Block.demandActive (b : Block) : Bool := b.rd Reg.SAFE_STAT_STATE != 0

/-- Cells of arm `k` that count for a start: lanes active, not FENCED (R123). -/
def Block.startCells (b : Block) (k : Nat) : Nat :=
  ((armSlots k).filter fun s => b.populated s && b.rd (Reg.LINK_STAT_STATE s) == 4 && b.svc s != 1).length

/-- The start conditions 0x02 to 0x06 of R123 in order: the first that fails, 0 where none does. -/
def Block.startErrHeld (b : Block) : Nat :=
  if b.demandActive || b.anyLatched then 2
  else if 2 ≤ b.rd Reg.SYS_PWR_STAT_STATE then 3
  else if [0, 1, 2].any fun k => decide (b.startCells k < b.rd Reg.SYS_CONV_POP_NMIN) then 4
  else if !b.holds then 5
  else if !b.on Reg.GATE_STAT_GATE24_OK then 6
  else 0

/-- Every start condition of R123, the stroke in progress being timed among them. -/
def Block.startErr (b : Block) : Nat := if b.strk.untimed then 1 else b.startErrHeld

/-! ### The transition at a boundary (R121, R122) -/

/-- The state entered at this boundary and its CAUSE, if the converter changes state here (R121, R122, R151).
    The order of the tests is the precedence of R122; an SF2 demand acts as an event of class BLOCK does, with the
    CAUSE of a demand where no such event waits (R363, log entry 125). -/
def Block.convNext (b : Block) : Option (Nat × Nat) :=
  let s := b.rd Reg.SYS_CONV_STAT_STATE
  let c := b.conv
  let timed := !b.strk.untimed
  if s = 6 then none
  else if c.wantHalt then some (6, 8)
  else if (c.wantBlock || c.wantBlockSafe) && decide (s ≤ 4) then some (5, if c.wantBlock then 7 else 6)
  else if (c.wantStop || c.wantSafeStop) && (s == 2 || s == 3 || (s == 4 && !c.safe)) then some (4, 6)
  else if (c.wantStop || c.wantSafeStop) && s == 1 then some (5, 6)
  else if s = 4 ∧ c.safe ∧ 1 ≤ c.kZero then some (5, 6)
  else if c.wantClear && s == 5 && !b.anyLatched && !b.demandActive then some (0, 9)
  else if c.wantStart && s == 0 && b.startErrHeld == 0 then some (1, 1)
  else if c.wantOrdStop && s == 3 then some (4, 4)
  else if timed && s == 1 && decide (64 ≤ c.prechg) then some (2, 2)
  else if timed && s == 2 && decide (1024 ≤ c.sync) then some (3, 3)
  else if timed && s == 4 && !c.safe && decide (2 ≤ c.kZero) then some (0, 5)
  else none

/-- The block on entry into FAULTED or HALTED (R120): block symbols on every lane and the local stage off,
    unless gate removal or an event of class BLOCK has sent them already; the turn-off of a removal in full that has just
    been decided uses ISOFT (R366). -/
def Block.faultEntry (b : Block) : Block :=
  if b.conv.wantBlock || b.conv.wantHalt || b.demandActive then b.blockStage (b.safe.removal == some 0)
  else (b.sendBlocks).blockStage false

/-- The directions of the arms return to +1 (R135). -/
def Block.resetDirections (b : Block) : Block := b.each 3 fun k b => b.updArm k fun a => { a with neg := false }

/-- STATE leaves OFF (R252, R301): the forcing of legs and the measurement controls that are for OFF alone are cleared. -/
def Block.leaveOff (b : Block) : Block :=
  let b := b.adcLeaveOff
  b.each 24 fun l b =>
    if b.on (Reg.PWM_LEG_FORCE_EN l) then (b.flag (Reg.PWM_LEG_FORCE_EN l) false).forceLeg l else b

/-- At each exit from OFF (R124, R135, R252, R301). -/
def Block.exitOff (b : Block) : Block := (b.resetDirections).leaveOff

/-- Enter a state with its CAUSE (R121, R124, R151, R363); on entry to SYNC the local stage is tested (R263). -/
def Block.convEnter (new cause : Nat) (b : Block) : Block :=
  let old := b.rd Reg.SYS_CONV_STAT_STATE
  let c := b.conv
  let ramp := (old == 4 && c.safe) || c.wantSafeStop
  let safe := (new == 4 && cause == 6) || (new == 5 && ramp)
  let b := if 5 ≤ new then b.faultEntry else b
  let b := if old = 0 then b.exitOff else b
  let b := if new = 2 ∧ old ≠ 2 then b.testStage else b
  let b := (b.wr Reg.SYS_CONV_STAT_STATE new).wr Reg.SYS_CONV_STAT_CAUSE cause
  let b := b.flag Reg.SYS_CONV_STAT_SAFE_STOP safe
  b.updConv fun c =>
    { c with safe := safe && new == 4, kstop := if new = 4 then c.kstop else 2 ^ 24
             kZero := if new = 4 then c.kZero else 0
             entered := if new = old then c.entered else b.strk.b
             timeoutRaised := c.timeoutRaised && new == old
             prechg := if new = old then c.prechg else 0, sync := if new = old then c.sync else 0 }

/-- The requests that waited for this boundary are settled. -/
def ConvSt.settled (c : ConvSt) : ConvSt :=
  { c with wantStop := false, wantSafeStop := false, wantBlock := false, wantBlockSafe := false
           wantHalt := false, wantStart := false, wantOrdStop := false, wantClear := false }

/-- A demand of the module's own monitor bears on the converter: a ramp that it runs or watches, or a removal that is not
    partial (R368, R379). -/
def Block.demandsStop (b : Block) : Bool :=
  b.safe.ramp.isSome || (b.demandActive && !b.on Reg.SAFE_STAT_PARTIAL)

/-- The stop in progress is a safe stop; without the token, as the module's own monitor knows it (R146, R379). -/
def Block.safeStopping (b : Block) : Bool := if b.holds then b.conv.safe else b.demandsStop

/-- The step s of k_stop: T_RAMP under safe stop, T_STOP otherwise (R124, R365). -/
def Block.kStep (b : Block) : Nat :=
  let t := if b.safeStopping then b.rd Reg.SAFE_OPT1_T_RAMP_MS else b.rd Reg.SYS_CONV_STOP_T_STOP_MS
  (rdiv ((2 ^ 24 * b.rd Reg.SYS_STROKE_NS_PERIOD : Nat) : Int) ((t * 1000000 : Nat) : Int)).toNat

/-- The stroke that ended is counted where it was one of STOPPING with k_stop at 0 (R121). -/
def Block.kCount (b : Block) : Block :=
  b.updConv fun c => { c with kZero := if b.runState = 4 ∧ c.kstop = 0 then c.kZero + 1 else 0 }

/-- k_stop falls in each timed stroke of STOPPING, in a module without the token under the mirrored state (R124, R146). -/
def Block.kFall (b : Block) : Block :=
  if b.runState = 4 ∧ !b.strk.untimed then b.updConv fun c => { c with kstop := c.kstop - b.kStep } else b

/-- TIMING_LOST: more than UNTIMED_LIM consecutive untimed strokes in SYNC, RUN or STOPPING; once for each
    run of them (R125). -/
def Block.timingLost (n : Nat) (b : Block) : Block :=
  if b.running && decide (b.rd Reg.SYS_CONV_STOP_UNTIMED_LIM < n) && !b.conv.timingLost then
    (b.updConv fun c => { c with timingLost := true }).raise { source := 133 }
  else b

/-- Count the untimed strokes in a row (R125). -/
def Block.untimedCount (b : Block) : Block :=
  if b.strk.untimed then
    let n := b.rd Reg.SYS_CONV_STAT_UNTIMED + 1
    (b.wr Reg.SYS_CONV_STAT_UNTIMED (min n 255)).timingLost n
  else (b.wr Reg.SYS_CONV_STAT_UNTIMED 0).updConv fun c => { c with timingLost := false }

/-- HEADROOM, at a boundary, after 64 consecutive timed strokes of shortfall, or of none (R141). -/
def Block.headroomChange (b : Block) : Block :=
  if 64 ≤ b.conv.hrShort then b.flag Reg.SYS_CONV_STAT_HEADROOM true
  else if 64 ≤ b.conv.hrOk then b.flag Reg.SYS_CONV_STAT_HEADROOM false
  else b

/-- What the last stroke's k_stop, A_lim and grid tracker were (R151). -/
def Block.convShow (b : Block) : Block :=
  let b := (b.wr Reg.SYS_CONV_KSTOP_KSTOP b.conv.kstop).wrS Reg.SYS_CONV_ALIM_ALIM b.conv.alim
  (b.flag Reg.SYS_CONV_GRID_STAT_LOCKED b.conv.locked).wr Reg.SYS_CONV_GRID_STAT_FREQ b.conv.freq

/-- The winning trigger changes the converter state of the holder, if one does. -/
def Block.convDecide (b : Block) : Block :=
  if !b.holds then b
  else match b.convNext with
    | some (new, cause) => b.convEnter new cause
    | none => b

/-- The converter at a stroke boundary, once the cast has taken effect (R122, R124, R125). -/
def Block.convBoundary (b : Block) : Block :=
  let b := (((b.kCount).convShow).convDecide).updConv ConvSt.settled
  ((b.kFall).untimedCount).headroomChange

/-- ARM_SHORTFALL (R141): judged at the boundaries of SYNC, RUN and STOPPING, once the service states of the
    boundary stand.  A module without the token judges it, and TIMING_LOST, under the state it mirrors (log entry 154). -/
def Block.armShortfall (b : Block) : Block :=
  b.each 3 fun k b =>
    if b.running then
      let below := decide (((armSlots k).filter b.inserted).length < b.rd Reg.SYS_CONV_POP_NMIN)
      let was := (b.arm k).short
      let b := b.updArm k fun a => { a with short := below }
      if below && !was then b.raise { source := 134, unitType := 7, idx := k } else b
    else b.updArm k fun a => { a with short := false }

/-! ### Rows -/

/-- A condition of R121 stands at this boundary: its transition is made, unless a trigger of higher
    precedence waits (R122). -/
def Block.convCondition (frm : Nat) (b : Block) : Block :=
  if b.atBoundary && b.rd Reg.SYS_CONV_STAT_STATE == frm && decide (b.conv.settled = b.conv) then b.convDecide else b

/-- PRECHARGE_TIMEOUT (R126): PRECHG_MS since entry. -/
def Block.prechargeTimeout (b : Block) : Block :=
  if b.rd Reg.SYS_CONV_STAT_STATE = 1 ∧ !b.conv.timeoutRaised then
    let b := b.until (b.conv.entered + b.rd Reg.SYS_CONV_TIMEOUT_PRECHG_MS * 1000000)
    (b.updConv fun c => { c with timeoutRaised := true }).raise { source := 130 }
  else b

/-- SYNC_TIMEOUT (R126): SYNC_MS since entry. -/
def Block.syncTimeout (b : Block) : Block :=
  if b.rd Reg.SYS_CONV_STAT_STATE = 2 ∧ !b.conv.timeoutRaised then
    let b := b.until (b.conv.entered + b.rd Reg.SYS_CONV_TIMEOUT_SYNC_MS * 1000000)
    (b.updConv fun c => { c with timeoutRaised := true }).raise { source := 131 }
  else b

/-- GRID_TRACKER_LOCK (R128): both tests have held for 1,024 consecutive timed strokes. -/
def Block.gridLock (b : Block) : Block :=
  if b.conv.trkGood < 1024 then b else b.updConv fun c => { c with locked := true }

/-- GRID_LOST (R126, R128): a test has failed for 64 consecutive timed strokes; the event in RUN and STOPPING. -/
def Block.gridLost (b : Block) : Block :=
  if b.conv.trkBad < 64 || !b.conv.locked then b
  else
    let s := b.rd Reg.SYS_CONV_STAT_STATE
    let b := b.updConv fun c => { c with locked := false }
    if s = 3 ∨ s = 4 then b.raise { source := 132 } else b

/-- HEADROOM_CHANGE: the field changes at a boundary alone (R151). -/
def Block.headroomRow (b : Block) : Block := if b.atBoundary then b.headroomChange else b

/-! ### Meanings -/

/-- PRECHARGE_COMPLETE (R121). -/
def execPrechargeComplete (s : State) : Host.Outcome State Fault Refusal := s.onBlk (·.convCondition 1)
/-- SYNC_COMPLETE (R121). -/
def execSyncComplete (s : State) : Host.Outcome State Fault Refusal := s.onBlk (·.convCondition 2)
/-- STOP_COMPLETE (R121). -/
def execStopComplete (s : State) : Host.Outcome State Fault Refusal := s.onBlk (·.convCondition 4)
/-- PRECHARGE_TIMEOUT (R126). -/
def execPrechargeTimeout (s : State) : Host.Outcome State Fault Refusal := s.onBlk (·.prechargeTimeout)
/-- SYNC_TIMEOUT (R126). -/
def execSyncTimeout (s : State) : Host.Outcome State Fault Refusal := s.onBlk (·.syncTimeout)
/-- GRID_TRACKER_LOCK (R128). -/
def execGridTrackerLock (s : State) : Host.Outcome State Fault Refusal := s.onBlk (·.gridLock)
/-- GRID_LOST (R126). -/
def execGridLost (s : State) : Host.Outcome State Fault Refusal := s.onBlk (·.gridLost)
/-- HEADROOM_CHANGE (R141). -/
def execHeadroomChange (s : State) : Host.Outcome State Fault Refusal := s.onBlk (·.headroomRow)
/-- TIMING_LOST (R125): the strokes counted so far are more than the limit. -/
def execTimingLost (s : State) : Host.Outcome State Fault Refusal :=
  s.onBlk fun b => b.timingLost (b.rd Reg.SYS_CONV_STAT_UNTIMED)

end Sys2Proof.Machine
end

