-- ==== Sys2Proof/Machine/Pair.lean ====
section
/-! DEFINITION. The redundant pair (R144 to R150): pair frames, the mirror, takeover and release, and the wait
    for the partner at start-up. -/

namespace Sys2Proof.Machine

/-! ### The pair frame (R147) -/

/-- The configuration in force as bytes, SYS_PAIR_CFG excluded: each CR field that differs from its default,
    by its place and its value (log entry 61). -/
def Block.configBytes (b : Block) : List Byte :=
  b.regs.flatMap fun kv => match fieldOfKey kv.1 with
    | some f => if f.acc = .cr ∧ f.addr ≠ 0x480 then be 4 kv.1 ++ be 4 kv.2 else []
    | none => []

/-- The first 16 bytes of the digest of the configuration in force. -/
def Block.configDigest (b : Block) : List Byte :=
  be 16 ((Config.shake256 b.configBytes).toNat / 2 ^ 384)

/-- READY: aligned, digests agree, every populated lane active (R147). -/
def Block.pairReady (b : Block) : Bool :=
  b.on Reg.SYS_PAIR_STAT_ALIGNED && b.on Reg.SYS_PAIR_STAT_CFG_MATCH
    && (List.range 192).all fun s => !b.populated s || b.rd (Reg.LINK_STAT_STATE s) == 4

/-- One context record of the pair frame. -/
def Block.pairCtx (b : Block) (c : Nat) : List Byte :=
  let w (f : Field) : List Byte := be 4 (b.rd f)
  w (Reg.ARM_CTX_RNOW_R c) ++ [1, 2, 3].flatMap (fun k => w (Reg.ARM_CTX_Ek_E c k))
    ++ [1, 2, 3].flatMap (fun k => w (Reg.ARM_CTX_Yk_Y c k)) ++ be 4 (ofS 32 (b.ctx c).d)
    ++ be 4 (b.rd (Reg.ARM_CTX_STAT_REGION c) + 8 * b.rd (Reg.ARM_CTX_STAT_ACTIVE c)
        + (if (b.ctx c).fenced then 16 else 0) + 256 * satNat 8 (b.ctx c).stale) ++ zeros 4

/-- One cell record of the pair frame. -/
def Block.pairCell (b : Block) (s : Nat) : List Byte :=
  be 4 (b.svc s + 8 * b.rd (Reg.CELL_SLOT_STAT_SPARE s) + 16 * b.rd (Reg.CELL_SLOT_STAT_INSERTED s)
    + 256 * b.rd (Reg.CELL_SLOT_STAT_JOIN_CNT s))

/-- The pair frame of the stroke in progress.  A module without the token sends the generation it last held (log
    entry 155). -/
def Block.pairFrame (b : Block) : List Byte :=
  let flags := b.rd Reg.SYS_PAIR_STAT_TOKEN + (if b.pair.release then 2 else 0)
    + (if b.pairReady then 4 else 0) + 8 * b.rd Reg.SYS_PAIR_CFG_ROLE
  let arms := [0, 1, 2]
  let bs := be 1 1 ++ be 1 flags ++ be 1 (b.rd Reg.SYS_CONV_STAT_STATE) ++ be 1 0 ++ be 4 b.pair.gen
    ++ be 8 b.strk.num ++ be 8 b.strk.b ++ b.configDigest ++ be 4 b.conv.kstop ++ be 4 (ofS 32 b.conv.alim)
    ++ arms.flatMap (fun k => be 1 ((armSlots k).filter b.inserted).length) ++ be 1 0
    ++ arms.flatMap (fun k => be 1 (b.sparesOf k).length) ++ zeros 9
    ++ (List.range 256).flatMap b.pairCtx ++ (List.range 192).flatMap b.pairCell
  bs ++ be 4 (crc32 bs)

/-- The PAIR port is up: a transceiver that the module accepts is fitted, and the port is powered (R388, R449). -/
def Block.pairUp (b : Block) : Bool :=
  b.on Reg.SYS_PAIR_CFG_EN && (b.pow.cages.any fun e => e.1 == 0) && decide (b.rd Reg.SYS_PWR_STAT_STATE < 3)

/-- Each module of a pair sends its frame from 1,000 ns (R147). -/
def Block.pairSend (b : Block) : Block :=
  if b.pairUp && !b.clk.failed.contains 3 then
    (b.emit (.pair b.pairFrame)).updPair fun p => { p with releaseSent := p.release }
  else b

/-! ### The token (R144, R148 to R150) -/

/-- This module stops holding the token: it reports OFF and its local stage is held (R22, R144, R146, R150). -/
def Block.tokenDown (b : Block) : Block :=
  let s := b.rd Reg.SYS_CONV_STAT_STATE
  let b := (b.flag Reg.SYS_PAIR_STAT_TOKEN false).updPair fun p =>
    { p with release := false, releaseSent := false, mirrorState := s }
  let b := ((b.wr Reg.SYS_CONV_STAT_STATE 0).wr Reg.SYS_CONV_STAT_CAUSE 0xB).flag Reg.SYS_CONV_STAT_SAFE_STOP false
  ((b.updConv fun c => { c.settled with safe := false, entered := b.strk.b, timeoutRaised := false }).blockStage
    false).fallbackAgain

/-- A generation has been learned of (R144). -/
def Block.learnGen (g : Nat) (b : Block) : Block := b.updPair fun p => { p with heard := max p.heard g }

/-- At a boundary SYS_PAIR_GEN shows the highest generation the module has learned of (R144, R151). -/
def Block.showGen (b : Block) : Block := b.wr Reg.SYS_PAIR_GEN_GEN (max b.pair.heard (b.rd Reg.SYS_PAIR_GEN_GEN))

/-- The holder of a lower generation stops asserting the token (R144). -/
def Block.tokenJudge (b : Block) : Block :=
  if b.on Reg.SYS_PAIR_STAT_TOKEN && decide (b.pair.gen < b.rd Reg.SYS_PAIR_GEN_GEN) then
    (b.tokenDown).raise { source := 139 }
  else b

/-- A demand that the taker's own monitor holds acts on the converter it now commands: a ramp, one watched under a partial
    removal too, leads to STOPPING under safe stop, and a removal that is not partial to FAULTED (R363, R379). -/
def Block.takeDemand (b : Block) : Block :=
  let st := b.rd Reg.SAFE_STAT_STATE
  if b.safe.ramp.isSome then b.updConv fun c => { c with wantSafeStop := true }
  else if 2 ≤ st && !b.on Reg.SAFE_STAT_PARTIAL then b.updConv fun c => { c with wantBlockSafe := true }
  else b

/-- The rotation intervals that have passed are the former holder's (R225). -/
def Block.rotationCounted (b : Block) : Block :=
  let step := b.rotationStep
  if step = 0 then b
  else
    let n := (b.tb.up - b.cells.rotFrom.getD b.tb.up) / step * step
    b.updCells fun c => { c with rotN := [(0, n), (1, n), (2, n)].filter fun e => e.2 != 0 }

/-- Takeover (R149, R224, R231): the next generation, the mirrored state as its own, and at once a fence of each cell whose
    lane is not active here; a cell in PROBING counts as FENCED too (log entry 105).  The time limit of PRECHARGE or SYNC
    starts anew (log entry 156).  `inj`: an injection cost the holder's frames (R355). -/
def Block.takeToken (inj : Bool) (b : Block) : Block :=
  let g := max b.pair.heard (b.rd Reg.SYS_PAIR_GEN_GEN) + 1
  let b := if b.pair.mirrorState = 0 then b else b.leaveOff
  let b := ((b.flag Reg.SYS_PAIR_STAT_TOKEN true).wr Reg.SYS_PAIR_GEN_GEN g).bump Reg.SYS_PAIR_TAKEOVERS_COUNT
  let b := (b.updPair fun p => { p with gen := g, heard := g }).updLv fun v => { v with standbyDiagAt := none }
  let b := (b.wr Reg.SYS_CONV_STAT_STATE b.pair.mirrorState).wr Reg.SYS_CONV_STAT_CAUSE 0xA
  let safe := b.pair.mirrorState == 4 && b.demandsStop
  let b := b.updConv fun c => { c with entered := b.strk.b, timeoutRaised := false, safe := safe }
  let b := ((b.flag Reg.SYS_CONV_STAT_SAFE_STOP safe).takeDemand).rotationCounted
  let b := (b.raise { source := 138, injected := inj }).fallbackAgain
  let b := b.each 192 fun s b =>
    let down := b.rd (Reg.LINK_STAT_STATE s) != 4
    if (2 ≤ b.svc s ∧ down) ∨ b.svc s = 2 then
      (if (b.recov s).fenced then b else b.onFence s true).updCell s fun c => { c with fence := some (if down then 3 else 5) }
    else b
  b.each 3 fun k b => b.fencesNow k

/-- The first token: taken with generation 1 where none is held when counting begins (R145); its fields show it from the
    first boundary (R151). -/
def Block.firstToken (b : Block) : Block :=
  ((((b.holdShown).flag Reg.SYS_PAIR_STAT_TOKEN true).wr Reg.SYS_PAIR_GEN_GEN 1).updPair fun p =>
    { p with gen := 1, heard := 1 }).fallbackAgain

/-! ### The boundary (R146) -/

/-- One context takes the holder's values. -/
def Block.mirrorCtx (bs : List Byte) (c : Nat) (b : Block) : Block :=
  let o := 64 + 40 * c
  let es := [1, 2, 3].map fun k => fieldS bs (o + 4 * k) 4
  let ys := [1, 2, 3].map fun k => fieldS bs (o + 12 + 4 * k) 4
  let w := field bs (o + 32) 4
  let b := (b.setHist c es ys).wr (Reg.ARM_CTX_RNOW_R c) (field bs o 4)
  let b := b.wr (Reg.ARM_CTX_STAT_REGION c) w
  b.updCtx c fun x =>
    { x with d := fieldS bs (o + 28) 4, was := w.testBit 3, fenced := w.testBit 4, fenceNext := w.testBit 4
             stale := w / 256 % 256 }

/-- One cell takes the holder's values.  A service state that is new counts its strokes and its time from here. -/
def Block.mirrorCell (bs : List Byte) (s : Nat) (b : Block) : Block :=
  let w := field bs (10304 + 4 * s) 4
  let b := if w % 8 = b.svc s then b else b.updCell s fun c => { c with entered := b.strk.watchFrom, run := 0 }
  let b := (b.wr (Reg.CELL_SLOT_STAT_STATE s) w).wr (Reg.CELL_SLOT_STAT_SPARE s) (w / 8)
  (b.wr (Reg.CELL_SLOT_STAT_INSERTED s) (w / 16)).wr (Reg.CELL_SLOT_STAT_JOIN_CNT s) (w / 256)

/-- A module without the token tests its own stage (R263). -/
def Block.standbyTest (b : Block) : Block := (b.testStage).updLv fun v => { v with standbyDiagAt := some b.tb.up }

/-- It does so again every 10 minutes (R263, log entry 102). -/
def Block.standbyAgain (b : Block) : Block :=
  match b.lv.standbyDiagAt with
  | none => b
  | some t => if !b.holds && decide (t + 600000 * msPs ≤ b.tb.up) then b.standbyTest else b

/-- What a module without the token knows of the holder's start: its spare sets are formed from the first carrier boundary of
    SYNC, and the rotation interval counts from the entry into RUN, both in the stroke that the frame tells of (R223,
    R225). -/
def Block.mirrorSpares (b : Block) : Block :=
  let m := b.pair.mirrorState
  let carrier := b.strk.carrier
  let from_ := b.strk.watchFrom
  b.updCells fun c =>
    { c with sparesFormed := m == 3 || m == 4 || (m == 2 && (c.sparesFormed || carrier))
             rotFrom := if m = 0 then none else if m = 3 ∧ c.rotFrom.isNone then some from_ else c.rotFrom
             rotN := if m = 0 then [] else c.rotN }

/-- A module without the token takes the state of the holder's frame (R146). -/
def Block.mirror (bs : List Byte) (b : Block) : Block :=
  let was := b.pair.mirrorState
  let b := b.updPair fun p => { p with mirrorState := field bs 2 1 % 8 }
  let b := if b.pair.mirrorState = 2 ∧ was ≠ 2 then b.standbyTest else b
  let b := if was = 0 ∧ b.pair.mirrorState ≠ 0 then b.resetDirections else b
  let b := (b.updConv fun c => { c with kstop := field bs 40 4 }).mirrorSpares
  let b := b.each 256 fun c b => b.mirrorCtx bs c
  b.each 192 fun s b => b.mirrorCell bs s

/-- What a valid frame of the stroke `n` that began at `t` says of the partner (R145, R148, R151). -/
def Block.pairJudge (bs : List Byte) (n t : Nat) (b : Block) : Block :=
  let aligned := field bs 8 8 == n && field bs 16 8 == t
  let same := (bs.drop 24).take 16 == b.configDigest
  let was := b.pair
  let b := (b.flag Reg.SYS_PAIR_STAT_PEER true).flag Reg.SYS_PAIR_STAT_ALIGNED aligned
  let b := (b.flag Reg.SYS_PAIR_STAT_CFG_MATCH same).wr Reg.SYS_PAIR_STAT_PEER_READY (field bs 1 1 / 4)
  let b := (b.wr Reg.SYS_PAIR_STAT_PEER_STATE (field bs 2 1)).learnGen (field bs 4 4)
  let b := b.updPair fun p =>
    { p with missRun := 0, lostRaised := false, unaligned := !aligned, mismatch := !same }
  let b := if !aligned && !was.unaligned then b.raise { source := 136 } else b
  if !same && !was.mismatch then b.raise { source := 137 } else b

/-- PAIR_LOST (R126): no valid frame for LOSS strokes; once for each run. -/
def Block.pairLost (b : Block) : Block :=
  if b.on Reg.SYS_PAIR_CFG_EN && !b.pair.lostRaised
      && decide (b.rd Reg.SYS_PAIR_CFG_LOSS ≤ b.pair.missRun) then
    (b.updPair fun p => { p with lostRaised := true }).raise { source := 135, injected := b.dropped 4 }
  else b

/-- No valid frame for the boundary. -/
def Block.pairMiss (b : Block) : Block :=
  ((b.flag Reg.SYS_PAIR_STAT_PEER false).count Reg.SYS_PAIR_MISS_COUNT 1 |>.updPair fun p =>
    { p with missRun := p.missRun + 1 }).pairLost

/-- The pair at a boundary: `n` and `t` are the number and boundary of the stroke that ends (R144, R146,
    R148, R150). -/
def Block.pairBoundary (n t : Nat) (b : Block) : Block :=
  if !b.on Reg.SYS_PAIR_CFG_EN then b
  else
    let f := b.pair.frame
    let b := b.updPair fun p => { p with frame := none, before := [] }
    let b := if b.on Reg.SYS_PAIR_STAT_TOKEN && b.pair.releaseSent then b.tokenDown else b
    match f with
    | none => ((b.pairMiss).showGen).tokenJudge
    | some bs =>
      let b := ((b.pairJudge bs n t).showGen).tokenJudge
      let flags := field bs 1 1
      if b.on Reg.SYS_PAIR_STAT_TOKEN || !b.on Reg.SYS_PAIR_STAT_ALIGNED || !flags.testBit 0 then b
      else
        let b := b.mirror bs
        if flags.testBit 1 && b.pairReady then b.takeToken false else b

/-! ### Rows -/

/-- More than half of the populated cells report the holder's frame missing: the port other than their
    report's own (R148, R194). -/
def Block.holderMissing (b : Block) : Bool :=
  let pop := (List.range 192).filter b.populated
  let miss := pop.filter fun s => match (b.lane s).fresh, (b.lane s).good with
    | true, some r => !r.rx.testBit (if r.port = 0 then 1 else 0)
    | _, _ => false
  decide (pop.length < 2 * miss.length)

/-- Takeover by condition 2 of R148, judged at 270 ns; cell reports carry the highest generation seen (R144).
    Not in an unaligned pair (R145). -/
def Block.pairWindow (b : Block) : Block :=
  if !b.on Reg.SYS_PAIR_CFG_EN then b
  else
    let b := b.each 192 fun s b => match (b.lane s).fresh, (b.lane s).good with
      | true, some r => b.learnGen r.gen
      | _, _ => b
    let miss := b.holderMissing
    let b := b.updPair fun p => { p with tokMiss := if miss then p.tokMiss + 1 else 0 }
    let loss := b.rd Reg.SYS_PAIR_CFG_LOSS
    if !b.on Reg.SYS_PAIR_STAT_TOKEN && decide (loss ≤ b.pair.missRun) && decide (loss ≤ b.pair.tokMiss)
        && !b.pair.unaligned then
      let b := (b.holdShown).takeToken (b.dropped 4)
      if b.pair.mismatch then b.raise { source := 137 } else b
    else b

/-- The first tick is no longer held back: the stroke number and boundary counting goes on from, and the next
    (R145). -/
def Block.pairBegin (num at_ next : Nat) (b : Block) : Block :=
  let w := if b.pair.waiting then b.tb.up - b.pair.waitFrom else 0
  let b := b.updStrk fun k => { k with ticking := true, num := num, b := at_, next := next, watchFrom := b.tb.up }
  (b.updBoot fun x => { x with waited := x.waited + w }).updPair fun p => { p with waiting := false }

/-- PAIR_FRAME_RX (R147): a frame received whole with a good check is valid for the next boundary; at start-up
    it ends the wait (R145).  Checker 3 at index 2 may be injected (R355). -/
def Block.pairFrameRx (bs : List Byte) (b : Block) : Block :=
  if !b.pairUp then b
  else
    let good := bs.length == 11076 && field bs 0 1 == 1 && crc32 (bs.take 11072) == field bs 11072 4
      && !b.injects 3 2
    let b := if b.injects 3 2 then b.dropMark 4 true else if good then b.dropMark 4 false else b
    let b := b.checked 3 2
    if !good then b
    else if b.pair.waiting then
      let b := b.pairBegin (field bs 8 8) (field bs 16 8) (field bs 16 8 + b.rd Reg.SYS_STROKE_NS_PERIOD)
      let b := b.learnGen (field bs 4 4)
      let b := if (field bs 1 1).testBit 0 then b else b.firstToken
      b.updPair fun p => { p with frame := some bs }
    else b.updPair fun p => { p with frame := some bs }

/-- The wait at start-up in ps (R145). -/
def Block.pairWait (b : Block) : Nat :=
  b.rd Reg.SYS_PAIR_CFG_WAIT * 100 * msPs * (if b.on Reg.SYS_PAIR_CFG_ROLE then 2 else 1)

/-- The first boundary of the grid after the present time (R27); before the epoch, the epoch itself (log entry 115). -/
def Block.firstBoundary (b : Block) : Nat :=
  let p := b.rd Reg.SYS_STROKE_NS_PERIOD
  let e := b.epoch
  if b.ns < e then e else e + ((b.ns - e) / p + 1) * p

/-- PAIR_WAIT_TIMEOUT (R145): no ticking partner; the module begins counting from 1 and takes the token. -/
def Block.pairWaitTimeout (b : Block) : Block :=
  if !b.pair.waiting then b
  else
    let b := b.untilUp (b.pair.waitFrom + b.pairWait)
    (b.pairBegin 0 0 b.firstBoundary).firstToken

/-! ### Meanings -/

/-- PAIR_FRAME_RX (R147). -/
def execPairFrameRx (bytes : List Byte) (s : State) : Host.Outcome State Fault Refusal := s.onBlk (·.pairFrameRx bytes)
/-- PAIR_LOST (R126). -/
def execPairLost (s : State) : Host.Outcome State Fault Refusal := s.onBlk (·.pairLost)
/-- PAIR_WAIT_TIMEOUT (R145). -/
def execPairWaitTimeout (s : State) : Host.Outcome State Fault Refusal := s.onBlk (·.pairWaitTimeout)

end Sys2Proof.Machine
end

