-- ==== Sys2Proof/Machine/SafeMon.lean ====
section
/-! DEFINITION. The safety monitor (R361 to R380): contacts and test pulses, safety frames, the monitored
    ramp, gate removal, and the safety reset. -/

namespace Sys2Proof.Machine

/-! ### Contacts (R369, R370) -/

/-- The bit of a contact in SAFE_IN.CONTACTS: A1, A2, B1, B2 (R380). -/
def contactBit : Contact → Nat
  | .a1 => 0
  | .a2 => 1
  | .b1 => 2
  | .b2 => 3

/-- Contacts of pair B. -/
def contactOfB : Contact → Bool
  | .a1 => false
  | .a2 => false
  | .b1 => true
  | .b2 => true

/-- Does contact `i` (0 to 3) read closed? -/
def Block.closed (b : Block) (i : Nat) : Bool := b.bit Reg.SAFE_IN_CONTACTS i

/-- Both contacts of a pair are closed. -/
def Block.pairHealthy (b : Block) (pairB : Bool) : Bool :=
  if pairB then b.closed 2 && b.closed 3 else b.closed 0 && b.closed 1

/-- The uptime since which the contacts of a pair have differed. -/
def SafeSt.diff (s : SafeSt) (pairB : Bool) : Option Nat := if pairB then s.diffB else s.diffA

/-- Set since when the contacts of a pair differ. -/
def SafeSt.setDiff (s : SafeSt) (pairB : Bool) (t : Option Nat) : SafeSt :=
  if pairB then { s with diffB := t } else { s with diffA := t }

/-- The difference of a pair began with a contact that opened. -/
def SafeSt.parted (s : SafeSt) (pairB : Bool) : Bool := if pairB then s.partedB else s.partedA

/-- Set whether it did. -/
def SafeSt.setParted (s : SafeSt) (pairB p : Bool) : SafeSt :=
  if pairB then { s with partedB := p } else { s with partedA := p }

/-- Set that both contacts of a pair opened together. -/
def SafeSt.setOpened (s : SafeSt) (pairB : Bool) (p : Bool) : SafeSt :=
  if pairB then { s with openedB := p } else { s with openedA := p }

/-- Set the discrepancy of a pair. -/
def SafeSt.setDisc (s : SafeSt) (pairB : Bool) (p : Bool) : SafeSt :=
  if pairB then { s with discB := p } else { s with discA := p }

/-- DISC_MS in ps. -/
def Block.discTime (b : Block) : Nat := b.rd Reg.SAFE_OPT0_DISC_MS * msPs

/-- The second contact of a pair changed within DISC_MS of the first. -/
def Block.together (b : Block) (pairB : Bool) : Bool :=
  match b.safe.diff pairB with
  | some t => decide (b.tb.up ≤ t + b.discTime)
  | none => false

/-- DISCREP shows a discrepancy of either pair. -/
def Block.showDiscrep (b : Block) : Block := b.flag Reg.SAFE_STAT_DISCREP (b.safe.discA || b.safe.discB)

/-- A discrepancy of a pair: raised, with its SF2 demand, when DISCREP is set (R370). -/
def Block.discrepancy (pairB : Bool) (code : Nat) (b : Block) : Block :=
  let first := !b.on Reg.SAFE_STAT_DISCREP
  let b := (b.updSafe fun s => (s.setDisc pairB true).setOpened pairB false).showDiscrep
  if first then (b.raise { source := 225, code := code }).demandSF2 0x0B false else b

/-! ### The safety reset (R371, R374, R375) -/

/-- What R374 asks of a safety reset. -/
def Block.mayReset (b : Block) : Bool :=
  b.rd Reg.SAFE_STAT_STATE == 2 && b.pairHealthy false && b.pairHealthy true && !b.on Reg.SAFE_STAT_DISCREP
    && (!b.on Reg.SAFE_OPT0_SF_EN
        || (b.safe.accepted && decide (b.tb.up ≤ b.safe.acceptedAt + b.rd Reg.SAFE_OPT7_WD_MS * msPs)
            && b.safe.word % 4 == 0))
    && !b.on Reg.EVT_HALT_HALTED

/-- The latch clears: the switches close and the outputs energise (R374); a ramp that was watched beside it ends (R379). -/
def Block.clearLatch (b : Block) : Block :=
  let b := (((b.wr Reg.SAFE_STAT_STATE 0).wr Reg.SAFE_STAT_CAUSE 0).flag Reg.SAFE_STAT_PARTIAL false).updSafe
    fun s => { s with restoring := some b.tb.up, removal := none, ramp := none, switchesAt := none, outputsAt := none }
  let b := (b.flag Reg.GATE_STAT_SUPPLY_A true).flag Reg.GATE_STAT_SUPPLY_B true
  let b := (b.flag Reg.SAFE_STAT_OUT1 true).flag Reg.SAFE_STAT_OUT2 true
  (b.powerChannels).raise { source := 231 }

/-- A reset is requested: it acts only where R374 allows. -/
def Block.safeReset (b : Block) : Block := if b.mayReset then b.clearLatch else b

/-- Since when the conditions of AUTO_START have held (R375). -/
def Block.autoWatch (b : Block) : Block :=
  if b.mayReset && b.released 7 then b.updSafe fun s => { s with autoSince := some (s.autoSince.getD b.tb.up) }
  else b.updSafe fun s => { s with autoSince := none }

/-- SAFE_AUTO_START: the conditions have held for 500 ms after the first release of D7. -/
def Block.safeAutoStart (b : Block) : Block :=
  match b.safe.autoSince with
  | none => b
  | some t =>
    if !b.on Reg.SAFE_OPT0_AUTO_START || b.safe.autoDone || b.rd Reg.SAFE_STAT_CAUSE ≠ 1 then b
    else
      let b := b.untilUp (t + 500 * msPs)
      if b.mayReset then (b.updSafe fun s => { s with autoDone := true }).clearLatch else b

/-! ### Contact rows -/

/-- CONTACT_PAIR_OPEN: the first contact to open decides the pair's demand (R362, R369).  The second completes the
    opening of the pair; one that had only closed alone opens it no second time (R370). -/
def Block.contactOpen (c : Contact) (b : Block) : Block :=
  let p := contactOfB c
  if !b.closed (contactBit c) then b
  else
    let first := b.pairHealthy p
    let tog := b.together p
    let b := b.setBit Reg.SAFE_IN_CONTACTS (contactBit c) false
    let b := b.updSafe fun s =>
      if first then (s.setDiff p (some b.tb.up)).setParted p true
      else if s.parted p then (s.setDiff p none).setOpened p tog
      else s.setDiff p none
    let b := if !first then b
      else
        let b := b.raise { source := 224, code := if p then 2 else 1 }
        let cause := if p then 3 else 2
        if b.on (if p then Reg.SAFE_OPT0_B_FUNC else Reg.SAFE_OPT0_A_FUNC) then b.demandSF2 cause false
        else b.demandSF1 cause
    b.autoWatch

/-- CONTACT_PAIR_CLOSE: both contacts closing together after opening together clear the pair's
    discrepancy (R370). -/
def Block.contactClose (c : Contact) (b : Block) : Block :=
  let p := contactOfB c
  if b.closed (contactBit c) then b
  else
    let tog := b.together p
    let b := b.setBit Reg.SAFE_IN_CONTACTS (contactBit c) true
    let b :=
      if b.pairHealthy p then
        let clears := tog && (if p then b.safe.openedB else b.safe.openedA)
        (b.updSafe fun s =>
          ((s.setDiff p none).setOpened p false).setDisc p ((if p then s.discB else s.discA) && !clears)).showDiscrep
      else b.updSafe fun s => (s.setDiff p (some b.tb.up)).setParted p false
    b.autoWatch

/-- DISCREPANCY_TIME: the contacts of a pair have differed for DISC_MS, counted from the change itself, which the filter
    accepted 2 ms later (R369, R370, log entry 101). -/
def Block.discrepancyTime (pairB : Bool) (b : Block) : Block :=
  match b.safe.diff pairB with
  | none => b
  | some t => ((b.untilUp (t + b.discTime - 2 * msPs)).discrepancy pairB 2).autoWatch

/-- The phase of a test pulse: TP1 at multiples of 250 ms of uptime, TP2 125 ms later (R370). -/
def pulsePhase (tp2 : Bool) : Nat := if tp2 then 125 * msPs else 0

/-- TEST_PULSE_START. -/
def Block.testPulseStart (tp2 : Bool) (b : Block) : Block :=
  if !b.on Reg.SAFE_OPT0_TP_EN then b
  else
    let q := 250 * msPs
    let b := b.untilUp (max 1 (cdiv (b.tb.up - pulsePhase tp2) q) * q + pulsePhase tp2)
    b.updSafe fun s => if tp2 then { s with tp2 := true } else { s with tp1 := true }

/-- TEST_PULSE_END: `stuck` are the inputs that did not follow their own pulse or followed the other's. -/
def Block.testPulseEnd (tp2 : Bool) (stuck : List Contact) (b : Block) : Block :=
  if !(if tp2 then b.safe.tp2 else b.safe.tp1) then b
  else
    let q := 250 * msPs
    let b := b.untilUp ((b.tb.up - pulsePhase tp2) / q * q + pulsePhase tp2 + 500 * usPs)
    let b := b.updSafe fun s => if tp2 then { s with tp2 := false } else { s with tp1 := false }
    (b.eachOf stuck fun c b => b.discrepancy (contactOfB c) 1).autoWatch

/-- SAFE_RESET_EDGE: an edge accepted under R371. -/
def Block.safeResetEdge (b : Block) : Block :=
  ((b.updSafe fun s => { s with resetAt := some b.tb.up }).flag Reg.SAFE_IN_RESET true).safeReset

/-! ### Safety frames (R372, R373) -/

/-- The status word of the module. -/
def Block.statusWord (b : Block) : Nat :=
  let st := b.rd Reg.SAFE_STAT_STATE
  (if st = 1 then 1 else 0) + (if 2 ≤ st then 2 else 0) + 4 * b.rd Reg.SAFE_STAT_DISCREP
    + (if st = 3 then 8 else 0) + 16 * b.rd Reg.SAFE_STAT_PARTIAL

/-- A status frame on both ports, on those that are up (R373, R449). -/
def Block.sendStatus (b : Block) : Block :=
  let w := b.statusWord
  let bs := be 1 1 ++ be 1 2 ++ zeros 2 ++ be 4 (b.rd Reg.SAFE_OPT6_CONN_ID) ++ be 4 b.safe.seqOut
    ++ be 2 w ++ be 2 (w ^^^ 0xFFFF) ++ be 4 (b.rd Reg.SAFE_SF_SEQ_SEQ) ++ zeros 8
  let bs := bs ++ be 4 (crc32c bs)
  let b := b.updSafe fun s => { s with seqOut := (s.seqOut + 1) % 2 ^ 32 }
  let b := if b.dma.link 0 then b.emit (.safety .a bs) else b
  if b.dma.link 1 then b.emit (.safety .b bs) else b

/-- A mismatch: SAFE_FRAME_MISMATCH and an SF2 demand. -/
def Block.frameMismatch (code : Nat) (b : Block) : Block :=
  let o : Occ := { source := 227, code := code, injected := b.dropped 0 || b.dropped 1 }
  ((b.count Reg.SAFE_SF_ERR_MISMATCH 1).raise o).demandSF2 5 false

/-- A pair is accepted: its STOP, REMOVE and RESET act, and the module answers. -/
def Block.acceptPair (bs : List Byte) (b : Block) : Block :=
  let w := field bs 12 2
  let edge := b.safe.accepted && !b.safe.word.testBit 2 && w.testBit 2
  let b := (((b.dropMark 0 false).dropMark 1 false).wr Reg.SAFE_SF_SEQ_SEQ (field bs 8 4)).updSafe fun s =>
    { s with accepted := true, acceptedAt := b.tb.up, word := w, watchRaised := false }
  let b := if w.testBit 0 then (b.raise { source := 226, code := 1 }).demandSF1 4 else b
  let b := if w.testBit 1 then (b.raise { source := 226, code := 2 }).demandSF2 4 false else b
  let b := if edge && b.on Reg.SAFE_OPT0_SF_RST_EN then b.safeReset else b
  b.sendStatus

/-- A good, newer copy: it completes the pair of its Sequence, or waits for its partner. -/
def Block.takeCopy (port : Stn) (bs : List Byte) (b : Block) : Block :=
  let same := fun (c : List Byte × Stn × Nat) => field c.1 8 4 == field bs 8 4
  match b.safe.copies.find? same with
  | none => b.updSafe fun s => { s with copies := s.copies ++ [(bs, port, b.tb.up)] }
  | some (cs, p, t) =>
    if p = port then b
    else
      let b := b.updSafe fun s => { s with copies := s.copies.filter fun c => !same c }
      if b.rd Reg.SAFE_OPT7_WIN_MS * msPs < b.tb.up - t then b.frameMismatch 2
      else if cs.take 28 ≠ bs.take 28 then b.frameMismatch 1
      else b.acceptPair bs

/-- How a copy's Sequence stands to the last accepted pair's. -/
def Block.copyAge (b : Block) (bs : List Byte) : Nat :=
  (field bs 8 4 + 2 ^ 32 - b.rd Reg.SAFE_SF_SEQ_SEQ) % 2 ^ 32

/-- SAFE_FRAME_RX: one copy.  A station port takes none until D4 is released, none in P4 and none while it is down (R57,
    R391, R404, R449). -/
def Block.safeFrameRx (port : Stn) (bs : List Byte) (b : Block) : Block :=
  if !b.on Reg.SAFE_OPT0_SF_EN || !b.released 4 || !b.dma.link (stnNum port) then b
  else
    let i := match port with
      | .a => 0
      | .b => 1
    let bad := b.injects 3 i || decide (bs.length < 32) || !(crc32c (bs.take 28) == field bs 28 4)
      || !(field bs 4 4 == b.rd Reg.SAFE_OPT6_CONN_ID)
    let b := ((if b.injects 3 i then b.dropMark i true else b).checked 3 i).autoWatch
    if bad then b.count Reg.SAFE_SF_ERR_CRC 1
    else if !(field bs 0 1 == 1 && field bs 1 1 == 1 && field bs 12 2 ^^^ 0xFFFF == field bs 14 2) then b
    else
      let age := b.copyAge bs
      (if b.safe.accepted && age == 0 then b
       else if b.safe.accepted && decide (3 < age) then b.frameMismatch 4
       else b.takeCopy port (bs.take 32)).autoWatch

/-- SAFE_COPY_WINDOW_EXPIRY: the oldest waiting copy's partner has not come within WIN_MS. -/
def Block.safeCopyExpiry (b : Block) : Block :=
  match b.safe.copies with
  | [] => b
  | (_, _, t) :: r =>
    let b := b.untilUp (t + b.rd Reg.SAFE_OPT7_WIN_MS * msPs)
    ((b.updSafe fun s => { s with copies := r }).frameMismatch 2).autoWatch

/-- SAFE_FRAME_WATCH: no pair accepted for WD_MS, counted from D0's release until the first. -/
def Block.safeFrameWatch (b : Block) : Block :=
  if !b.on Reg.SAFE_OPT0_SF_EN || b.safe.watchRaised || !b.released 0 then b
  else
    let b := b.untilUp (b.safe.acceptedAt + b.rd Reg.SAFE_OPT7_WD_MS * msPs)
    ((b.updSafe fun s => { s with watchRaised := true }).frameMismatch 3).autoWatch

/-! ### The monitored ramp (R364, R365) -/

/-- P in units of 10^-15 kW. -/
def Block.safePower (b : Block) : Int :=
  let v := b.rd Reg.SAFE_OPT2_V_AIN
  let i := b.rd Reg.SAFE_OPT2_I_AIN
  (b.rdS (Reg.ADC_IN_STATi_CODE v) * b.rd Reg.SAFE_OPT3_V_LSB) * (b.rdS (Reg.ADC_IN_STATi_CODE i) * b.rd Reg.SAFE_OPT4_I_LSB)

/-- Either input of P is stale. -/
def Block.powerStale (b : Block) : Bool :=
  b.on (Reg.ADC_IN_STATi_STALE (b.rd Reg.SAFE_OPT2_V_AIN)) || b.on (Reg.ADC_IN_STATi_STALE (b.rd Reg.SAFE_OPT2_I_AIN))

/-- The envelope or the time limit decides removal, of a ramp that is watched under a partial removal too: its cause is
    recorded (R362, R364, R365, R379). -/
def Block.rampFails (o : Occ) (cause : Nat) (b : Block) : Block :=
  let b := b.raise o
  let b := (b.wr Reg.SAFE_STAT_CAUSE cause).remove false
  if b.holds then b.updConv fun c => { c with wantBlockSafe := true } else b

/-- The k_stop of the ramp reached 0 in the stroke that ended. -/
def Block.rampDone (b : Block) : Bool :=
  b.runState == 4 && b.conv.kstop == 0

/-- The envelope of the ramp is judged: its start `t0`, its P0 and the P of this boundary. -/
def Block.envelope (t0 : Nat) (p0 p : Int) (b : Block) : Block :=
  let kw : Int := 10 ^ 15
  let t := b.tb.up - t0
  let ramp := b.rd Reg.SAFE_OPT1_T_RAMP_MS * msPs
  let env : Int := |p0| * ((ramp - t : Nat) : Int) + b.rd Reg.SAFE_OPT1_P_MARGIN_KW * kw * ramp
  let b := (b.wr Reg.SAFE_RAMP_T_T_MS (satNat 16 (t / msPs))).wr Reg.SAFE_RAMP_T_ENV_KW
    (satNat 16 (rdiv env (kw * ramp)).toNat)
  if env < |p| * ramp then b.rampFails { source := 228, code := 1 } 8 else b

/-- The monitor at a stroke boundary, timed or not. -/
def Block.safeBoundary (b : Block) : Block :=
  let p := b.safePower
  let stale := b.powerStale
  let b := if stale then b else b.wrS Reg.SAFE_P_P (rdiv p (10 ^ 15))
  match b.safe.ramp with
  | none => b
  | some t0 =>
    if b.rampDone then
      let b := b.remove false
      if b.holds then b.updConv fun c => { c with wantBlockSafe := true } else b
    else if stale then b.rampFails { source := 228, code := 2 } 8
    else
      let p0 := b.safe.p0.getD p
      let b := (b.updSafe fun s => { s with p0 := some p0 }).wrS Reg.SAFE_RAMP_P0_P0 (rdiv p0 (10 ^ 15))
      b.envelope t0 p0 p

/-- SAFE_RAMP_TIMEOUT: 1.05 × T_RAMP + 2 ms without removal (R365). -/
def Block.safeRampTimeout (b : Block) : Block :=
  match b.safe.ramp with
  | none => b
  | some t0 =>
    (b.untilUp (t0 + b.rd Reg.SAFE_OPT1_T_RAMP_MS * 1050000000 + 2 * msPs)).rampFails { source := 229 } 9

/-! ### Gate removal (R366 to R368, R379) -/

/-- The removal switches open: every channel behind them falls to its pull-down, and any static switch still
    closed opens. -/
def Block.openSupplies (b : Block) : Block :=
  let b := (b.flag Reg.GATE_STAT_SUPPLY_A false).flag Reg.GATE_STAT_SUPPLY_B false
  let b := (b.powerChannels).updSafe fun s => { s with restoring := none }
  b.each 8 fun p b => if b.bit Reg.GATE_SS_STAT_CLOSED p then b.openSwitch p false else b

/-- GATE_REMOVAL: the removal that has been decided is carried out.  In full: block symbols, the local stage
    off, the switches open, the outputs de-energised.  Under R368 the switches only, and PARTIAL. -/
def Block.gateRemoval (b : Block) : Block :=
  match b.safe.removal with
  | none => b
  | some kind =>
    let b := b.updSafe fun s => { s with removal := none }
    if kind = 0 then
      let b := (((b.sendBlocks).blockStage true).openSupplies).flag Reg.SAFE_STAT_PARTIAL false
      (b.flag Reg.SAFE_STAT_OUT1 false).flag Reg.SAFE_STAT_OUT2 false
    else if kind = 1 then (b.openSupplies).flag Reg.SAFE_STAT_PARTIAL true
    else b.openSupplies

/-- The readback field of a switch or an output. -/
def readbackField : Readback → Field
  | .supplyA => Reg.GATE_STAT_SUPPLY_A
  | .supplyB => Reg.GATE_STAT_SUPPLY_B
  | .out1 => Reg.SAFE_STAT_OUT1
  | .out2 => Reg.SAFE_STAT_OUT2

/-- The code of SAFE_DIAG_FAIL for a readback: 2 a switch, 3 an output. -/
def readbackCode : Readback → Nat
  | .supplyA => 2
  | .supplyB => 2
  | .out1 => 3
  | .out2 => 3

/-- When a readback is judged: 50 µs after the decision for a switch, 1 ms for an output (R366). -/
def Block.readbackAt (b : Block) (r : Readback) : Option Nat :=
  if readbackCode r = 2 then b.safe.switchesAt.map (· + 50 * usPs) else b.safe.outputsAt.map (· + msPs)

/-- REMOVAL_READBACK_FAIL: a switch or an output that was turned off still reads on when it is judged. -/
def Block.removalReadbackFail (r : Readback) (b : Block) : Block :=
  match b.readbackAt r with
  | none => b
  | some t =>
    if t < b.tb.up ∨ b.on (readbackField r) then b
    else ((b.untilUp t).flag (readbackField r) true).diagFail (readbackCode r)

/-- SAFE_RESTORE_READBACK_FAIL: 10 ms after an accepted reset a readback has not changed (R374). -/
def Block.restoreReadbackFail (b : Block) : Block :=
  match b.safe.restoring with
  | none => b
  | some t =>
    if t + 10 * msPs < b.tb.up then b
    else ((b.untilUp (t + 10 * msPs)).updSafe fun s => { s with restoring := none }).diagFail 4

/-! ### Reset (R378, R379) -/

/-- An error-driven system reset sets the latch and opens what is not open already; CAUSE 0x0A where STATE was CLEAR. -/
def Block.errorLatch (b : Block) : Block := (b.demandCause 0x0A).remove (!b.holds)

/-- A system reset during a ramp ends it with removal; the frames start afresh (R373, R378). -/
def Block.safeSystemReset (b : Block) : Block :=
  let b := if b.safe.ramp.isSome then b.remove false else b
  (b.gateRemoval).updSafe fun s => { s with accepted := false, copies := [] }

/-- A demand source is present now (R380). -/
def Block.demandPresent (b : Block) : Bool :=
  !b.pairHealthy false || !b.pairHealthy true || b.on Reg.SAFE_STAT_DISCREP || b.on Reg.EVT_HALT_HALTED
    || (b.on Reg.SAFE_OPT0_SF_EN && (b.safe.watchRaised || (b.safe.accepted && b.safe.word % 4 != 0)))

/-! ### Meanings -/

/-- CONTACT_PAIR_OPEN (R369). -/
def execContactPairOpen (c : Contact) (s : State) : Host.Outcome State Fault Refusal := s.onBlk (·.contactOpen c)
/-- CONTACT_PAIR_CLOSE (R370). -/
def execContactPairClose (c : Contact) (s : State) : Host.Outcome State Fault Refusal := s.onBlk (·.contactClose c)
/-- TEST_PULSE_START (R370). -/
def execTestPulseStart (tp2 : Bool) (s : State) : Host.Outcome State Fault Refusal := s.onBlk (·.testPulseStart tp2)
/-- TEST_PULSE_END (R370). -/
def execTestPulseEnd (tp2 : Bool) (stuck : List Contact) (s : State) : Host.Outcome State Fault Refusal :=
  s.onBlk (·.testPulseEnd tp2 stuck)
/-- DISCREPANCY_TIME (R370). -/
def execDiscrepancyTime (pairB : Bool) (s : State) : Host.Outcome State Fault Refusal :=
  s.onBlk (·.discrepancyTime pairB)
/-- SAFE_RESET_EDGE (R371, R374). -/
def execSafeResetEdge (s : State) : Host.Outcome State Fault Refusal := s.onBlk (·.safeResetEdge)
/-- SAFE_FRAME_RX (R373). -/
def execSafeFrameRx (port : Stn) (bytes : List Byte) (s : State) : Host.Outcome State Fault Refusal :=
  s.onBlk (·.safeFrameRx port bytes)
/-- SAFE_COPY_WINDOW_EXPIRY (R373). -/
def execSafeCopyWindowExpiry (s : State) : Host.Outcome State Fault Refusal := s.onBlk (·.safeCopyExpiry)
/-- SAFE_FRAME_WATCH (R373). -/
def execSafeFrameWatch (s : State) : Host.Outcome State Fault Refusal := s.onBlk (·.safeFrameWatch)
/-- SAFE_RAMP_TIMEOUT (R365). -/
def execSafeRampTimeout (s : State) : Host.Outcome State Fault Refusal := s.onBlk (·.safeRampTimeout)
/-- GATE_REMOVAL (R366). -/
def execGateRemoval (s : State) : Host.Outcome State Fault Refusal := s.onBlk (·.gateRemoval)
/-- REMOVAL_READBACK_FAIL (R366). -/
def execRemovalReadbackFail (which : Readback) (s : State) : Host.Outcome State Fault Refusal :=
  s.onBlk (·.removalReadbackFail which)
/-- SAFE_RESTORE_READBACK_FAIL (R374). -/
def execSafeRestoreReadbackFail (s : State) : Host.Outcome State Fault Refusal := s.onBlk (·.restoreReadbackFail)
/-- SAFE_CHANNEL_MISMATCH (R376). -/
def execSafeChannelMismatch (s : State) : Host.Outcome State Fault Refusal := s.onBlk (·.diagFail 1)
/-- SAFE_AUTO_START (R375). -/
def execSafeAutoStart (s : State) : Host.Outcome State Fault Refusal := s.onBlk (·.safeAutoStart)

end Sys2Proof.Machine
end

