-- ==== Sys2Proof/Machine/Time.lean ====
section
/-! DEFINITION. Time and clocks (R312 to R335): the host's control of the time base, timestamp inputs, PTP
    domains and the servo, PLLs and clock monitors. -/

namespace Sys2Proof.Machine

/-! ### Increment, adjustment and step (R313 to R315) -/

/-- The window of the increment: 1.25 ns ± 500 ppm (R313). -/
def incMin : Int := 0x13FD70A3D
/-- Its upper end. -/
def incMax : Int := 0x14028F5C3

/-- The firmware servo owns the time registers (R313). -/
def Block.servoOwns (b : Block) : Bool := b.on Reg.TIME_SERVO_MODE

/-- The increment that a write of `frac` would put into force (R313). -/
def Block.incOf (b : Block) (frac : Nat) : Nat := b.rd Reg.TIME_INC_INT_INT * 2 ^ 32 + frac

/-- An increment lies in its window (R313). -/
def inWindow (e : Int) : Bool := decide (incMin ≤ e ∧ e ≤ incMax)

/-- What an adjustment in progress adds to the increment; 0 with none (R314). -/
def Block.adjNow (b : Block) : Int := if b.rd Reg.TIME_ADJ_CNT_CNT = 0 then 0 else b.tb.delta

/-- Why a write of the increment's fraction is denied; 0 where it is allowed.  The increment lies in its window with the
    adjustment in progress and once that has ended (log entry 107). -/
def Block.denyInc (b : Block) (frac : Nat) : Nat :=
  let e : Int := b.incOf (frac % 2 ^ 32)
  if b.servoOwns then 3 else if inWindow e && inWindow (e + b.adjNow) then 0 else 4

/-- Why a write of the adjustment's count is denied. -/
def Block.denyAdj (b : Block) (cnt : Nat) : Nat :=
  let e := (b.tb.inc : Int) + b.rdS Reg.TIME_ADJ_DELTA_DELTA
  if b.servoOwns then 3 else if cnt = 0 || inWindow e then 0 else 4

/-- Why a write of TIME_CTRL is denied: the lowest code that holds (R313, R315). -/
def Block.denyCtrl (b : Block) (step adjStop : Bool) : Nat :=
  if step && b.rd Reg.SYS_CONV_STAT_STATE != 0 then 1
  else if step && b.cst.armed.isSome then 2
  else if (step || adjStop) && b.servoOwns then 3
  else 0

/-- The increment takes effect from the next tick (R313). -/
def Block.setInc (frac : Nat) (b : Block) : Block :=
  (b.wr Reg.TIME_INC_FRAC_FRAC frac).updTb fun t => { t with inc := b.incOf (frac % 2 ^ 32), delta := b.adjNow }

/-- An adjustment ends at once (R314). -/
def Block.adjEnd (b : Block) : Block :=
  ((b.wr Reg.TIME_ADJ_CNT_CNT 0).flag Reg.TIME_STAT_ADJ_BUSY false).updTb fun t => { t with delta := 0 }

/-- An adjustment of `cnt` ticks by `delta` starts or restarts; with 0 ticks the one in progress ends (R314). -/
def Block.adjustBy (delta : Int) (cnt : Nat) (b : Block) : Block :=
  if cnt % 2 ^ 32 = 0 then b.adjEnd
  else ((b.wr Reg.TIME_ADJ_CNT_CNT cnt).flag Reg.TIME_STAT_ADJ_BUSY true).updTb fun t => { t with delta := delta }

/-- A write of TIME_ADJ_CNT: with the DELTA in the register at that moment (R314). -/
def Block.setAdj (cnt : Nat) (b : Block) : Block := b.adjustBy (b.rdS Reg.TIME_ADJ_DELTA_DELTA) cnt

/-- A step of `d` ns is pending until the first boundary at least 1,000 ns from now (R315). -/
def Block.stepRequest (d : Int) (b : Block) : Block :=
  (b.updTb fun t => { t with step := some (d, b.ns + 1000) }).flag Reg.TIME_STAT_STEP_PEND true

/-- A write of TIME_CTRL (R314, R315). -/
def Block.setCtrl (step adjStop : Bool) (b : Block) : Block :=
  let b := if adjStop then b.adjEnd else b
  if step then b.stepRequest (toS 64 (b.rd64 Reg.TIME_STEP_LO_STEP Reg.TIME_STEP_HI_STEP)) else b

/-- ADJUSTMENT_END (R314): the count runs out. -/
def Block.adjustmentEnd (b : Block) : Block :=
  if b.tb.run then b.advance (b.rd Reg.TIME_ADJ_CNT_CNT) else b

/-- What a read of TIME_NOW_LO shows and latches (R336). -/
def Block.latchNow (b : Block) : Block :=
  let b := b.wr64 Reg.TIME_NOW_LO_NS Reg.TIME_NOW_HI_NS b.ns
  b.wr Reg.TIME_NOW_FRAC_FRAC b.tb.now.toNat

/-! ### Timestamp inputs (R328) -/

/-- The stamps of an input, oldest first. -/
def Block.stamps (b : Block) (k : Nat) : List (BitVec 96 × Bool) := SMap.look [] b.ptp.stamps k

/-- The queue registers show the oldest stamp; 0 where there is none. -/
def Block.stampShow (k : Nat) (l : List (BitVec 96 × Bool)) (b : Block) : Block :=
  let b := (b.updPtp fun p => { p with stamps := SMap.store [] k l p.stamps }).wr (Reg.TIME_TS_STATk_COUNT k) l.length
  let (t, e) := l.headD (0, false)
  let b := b.flag (Reg.TIME_TS_STATk_EDGE k) e
  (b.wr64 (Reg.TIME_TS_LOk_NS k) (Reg.TIME_TS_HIk_NS k) (t.toNat / 2 ^ 32)).wr (Reg.TIME_TS_FRACk_FRAC k) t.toNat

/-- TIME_TS_POPk: the oldest stamp is removed. -/
def Block.stampPop (k : Nat) (b : Block) : Block := b.stampShow k (b.stamps k).tail

/-- TS_EDGE: a selected edge is stamped, or discarded where the queue holds 16. -/
def Block.tsEdge (k : Nat) (rising : Bool) (b : Block) : Block :=
  if !(b.rd (Reg.TIME_TS_CFGk_EDGE k)).testBit (if rising then 0 else 1) then b
  else if (b.stamps k).length < 16 then b.stampShow k (b.stamps k ++ [(b.tb.now, rising)])
  else if b.on (Reg.TIME_TS_STATk_OVF k) then b
  else (b.flag (Reg.TIME_TS_STATk_OVF k) true).raise { source := 68, unitType := 9, idx := k }

/-! ### PTP domains (R317 to R323)

The arithmetic of IEEE 1588 stands behind the offset, the path delay and the choice of a master (log entry
62).  Instants are in units of 2^-16 ns. -/

/-- Domain `x`. -/
def Block.dom (b : Block) (x : Nat) : DomSt := SMap.look default b.ptp.doms x
/-- Change the record of domain `x`. -/
def Block.updDom (x : Nat) (f : DomSt → DomSt) (b : Block) : Block :=
  b.updPtp fun p => { p with doms := SMap.store default x (f (b.dom x)) p.doms }

/-- The receive time of an event message on a port (R318). -/
def Block.rxStamp (b : Block) (p : Nat) : Int :=
  (b.tb.now.toNat / 2 ^ 16 : Nat) - rdiv (b.rd (Reg.TIME_PORT_LATp_RX_LAT p) * 65536 : Nat) 10

/-- The transmit time of an event message on a port (R318). -/
def Block.txStamp (b : Block) (p : Nat) : Int :=
  (b.tb.now.toNat / 2 ^ 16 : Nat) + rdiv (b.rd (Reg.TIME_PORT_LATp_TX_LAT p) * 65536 : Nat) 10

/-- The offset of domain `x` in ns. -/
def Block.domOffs (b : Block) (x : Nat) : Int :=
  toS 64 (b.rd64 (Reg.TIME_DOM_OFFS_LO_OFFS x) (Reg.TIME_DOM_OFFS_HI_OFFS x))

/-- A PTP port state, and what follows from it. -/
def Block.domTo (x st : Nat) (b : Block) : Block :=
  let b := b.wr (Reg.TIME_DOM_STAT_STATE x) st
  if st = 3 then b else b.flag (Reg.TIME_DOM_STAT_IN_LIMIT x) false

/-- Domain `x` is measured afresh: LISTENING when enabled, else DISABLED; its registers at their reset values
    (R321, R336). -/
def Block.domRestart (x : Nat) (b : Block) : Block :=
  let b := (b.updDom x fun _ => default).domTo x (if b.on (Reg.TIME_DOM_CFG_EN x) then 1 else 0)
  let b := (b.wr64 (Reg.TIME_DOM_OFFS_LO_OFFS x) (Reg.TIME_DOM_OFFS_HI_OFFS x) 0).wr (Reg.TIME_DOM_DELAY_DELAY x) 0
  (b.wr (Reg.TIME_DOM_RATE_RATE x) 0).wr64 (Reg.TIME_DOM_GM_LO_ID x) (Reg.TIME_DOM_GM_HI_ID x) 0

/-- The domain followed: 0 A, 1 B (R323). -/
def Block.selDom (b : Block) : Nat := b.rd Reg.TIME_STAT_SEL_IN_USE

/-- DOM_SYNC and SERVO_ACTIVE follow the domain in use (R322, R336). -/
def Block.timeShow (b : Block) : Block :=
  let x := b.selDom
  (b.wr Reg.TIME_STAT_DOM_SYNC (b.rd (Reg.TIME_DOM_STAT_IN_LIMIT x))).flag Reg.TIME_STAT_SERVO_ACTIVE
    (b.servoOwns && b.cores && b.rd (Reg.TIME_DOM_STAT_STATE x) == 3)

/-- The servo turns to domain `x`: TIME_SWITCH with the offset found (R323).  `inj`: an injection made it turn (R355). -/
def Block.timeSwitch (x : Nat) (inj : Bool) (b : Block) : Block :=
  ((b.wr Reg.TIME_STAT_SEL_IN_USE x).raise
    { source := 65, unitType := 13, idx := x, extra := ofS 32 (b.domOffs x), injected := inj }).timeShow

/-- Does the servo turn (R323)?  With AUTO_SW to the other domain when the one followed is lost and the other
    in limit; without it back to the one SEL names when that is in limit.  With MODE = 0 no servo runs (log entry
    103).  `inj`: an injection is behind it. -/
def Block.switchJudge (inj : Bool) (b : Block) : Block :=
  let x := b.selDom
  let y := 1 - x
  if !b.servoOwns || !b.on (Reg.TIME_DOM_STAT_IN_LIMIT y) then b.timeShow
  else if b.on Reg.TIME_SERVO_AUTO_SW then
    (if (b.dom x).lost then b.timeSwitch y inj else b.timeShow)
  else if b.rd Reg.TIME_SERVO_SEL = y then b.timeSwitch y inj
  else b.timeShow

/-- How domain `x` in SLAVE stands to its limit at offset `offs`: IN_LIMIT, and TIME_OUT_OF_LIMIT where the domain that the
    servo follows leaves it (R320, R322). -/
def Block.limitJudge (x : Nat) (offs : Int) (b : Block) : Block :=
  let lim := decide (|offs| ≤ (b.rd Reg.TIME_SERVO_TH_SYNC_TH_NS : Int))
  let left := (b.dom x).inLimitWas && !lim && b.servoOwns && b.selDom == x
  let b := (b.flag (Reg.TIME_DOM_STAT_IN_LIMIT x) lim).updDom x fun d => { d with inLimitWas := lim }
  if left then b.raise { source := 67, unitType := 13, idx := x } else b

/-- Instants of the receive scale move with a step: an exchange and a Sync in progress, and the last measurement. -/
def Block.stepPtp (d : Int) (b : Block) : Block :=
  let d16 := d * 65536
  let move (m : SMap Int) : SMap Int := m.foldl (fun a e => SMap.store 0 e.1 (e.2 + d16) a) m
  let b := b.updPtp fun p => { p with pdT1 := move p.pdT1, pdT4 := move p.pdT4 }
  b.each 2 fun x b => b.updDom x fun y =>
    { y with syncRx := y.syncRx + d16, prevMaster := y.prevMaster.map fun m => (m.1, m.2 + d16) }

/-- The pending step is carried out: TIME_NS, SYS_HOST_RX and both offsets move, and what capture holds
    (R315); the domains in SLAVE are judged at their new offsets (R320). -/
def Block.stepApply (d : Int) (b : Block) : Block :=
  let b := b.raise { source := 66, data := some (ofS 64 d * 2 ^ 32) }
  let b := (b.updTb fun t =>
    { t with step := none, now := t.now + BitVec.ofInt 96 (d * 2 ^ 32) }).flag Reg.TIME_STAT_STEP_PEND false
  let rx := toS 64 (b.rd64 Reg.SYS_HOST_RX_LO_TIME Reg.SYS_HOST_RX_HI_TIME)
  let b := b.wr64 Reg.SYS_HOST_RX_LO_TIME Reg.SYS_HOST_RX_HI_TIME (ofS 64 (rx + d))
  let b := b.each 2 fun x b =>
    let o := b.domOffs x - d
    let b := b.wr64 (Reg.TIME_DOM_OFFS_LO_OFFS x) (Reg.TIME_DOM_OFFS_HI_OFFS x) (ofS 64 o)
    if b.rd (Reg.TIME_DOM_STAT_STATE x) = 3 then b.limitJudge x o else b
  ((b.stepPtp d).timeShow).adcStep d

/-- An injection dropped the last message that domain `x` would have taken (R355). -/
def Block.domInjected (b : Block) (x : Nat) : Bool := b.dropped (2 + b.rd (Reg.TIME_DOM_CFG_PORT x))

/-- A domain goes out of SLAVE, or no Sync comes: it is lost (R320).  One that the servo follows leaves its limit with that
    (R322). -/
def Block.domDrop (x st : Nat) (b : Block) : Block :=
  let left := (b.dom x).inLimitWas && b.servoOwns && b.selDom == x
  let inj := b.domInjected x
  let b := (b.domTo x st).updDom x fun d => { d with lost := true, inLimitWas := false }
  let b := b.raise { source := 64, unitType := 13, idx := x, injected := inj }
  if left then b.raise { source := 67, unitType := 13, idx := x, injected := inj } else b

/-- A domain is lost, and the servo may turn to the other one (R320, R323). -/
def Block.domLose (x st : Nat) (b : Block) : Block := (b.domDrop x st).switchJudge (b.domInjected x)

/-- Domain `x` is measured afresh, by a cast or after a core reset; one that was in SLAVE is lost (R320, R321). -/
def Block.domAfresh (x : Nat) (b : Block) : Block :=
  let was := b.rd (Reg.TIME_DOM_STAT_STATE x) == 3
  let lost := (b.dom x).lost
  let b := if was then b.domLose x 1 else b
  (b.domRestart x).updDom x fun d => { d with lost := was || lost }

/-- The largest addition of an adjustment within SLEW_PPM (R322), which is at most 200 ppm; within the window of R313
    whatever the field holds. -/
def Block.slewMax (b : Block) : Nat :=
  min (b.tb.inc * b.rd Reg.TIME_SERVO_SLEW_PPM / 1000000) ((incMax - incMin).toNat / 2)

/-- The increment that the rate term sets: toward the one at which TIME_NS runs at the domain's rate, RATE as last
    measured, as far as the loop of bandwidth BW goes at one measurement (R322); within the window with `m` to spare. -/
def Block.rateStep (b : Block) (x m : Nat) : Int :=
  let inc : Int := b.tb.inc
  let goal := inc + rdiv (inc * b.rdS (Reg.TIME_DOM_RATE_RATE x)) 1000000000
  let k : Int := (Config.servoLoop b.draws (b.rd Reg.TIME_SERVO_BW)).toNat
  let next := inc + rdiv ((goal - inc) * k) 65536
  max (incMin + m) (min (incMax - m) next)

/-- The servo steers after an offset measurement of the domain it follows (R322).  With the converter OFF and
    no cast armed it steps a large offset.  Else the rate term sets the increment, and the offset term removes the offset
    by an adjustment; how far the loop goes, and the rate of the adjustment within SLEW_PPM, are free values (log entry
    3). -/
def Block.servo (offs : Int) (b : Block) : Block :=
  if b.rd Reg.SYS_CONV_STAT_STATE = 0 ∧ b.cst.armed.isNone
      ∧ (b.rd Reg.TIME_SERVO_TH_STEP_TH_US * 1000 : Nat) < |offs| then b.stepRequest offs
  else
    let m := b.slewMax
    let inc := (b.rateStep b.selDom m).toNat
    let b := b.drawn
    let d := 1 + b.free % max m 1
    let b := b.drawn
    let delta : Int := if offs < 0 then -(d : Int) else d
    let b := (b.wr Reg.TIME_INC_INT_INT (inc / 2 ^ 32)).wr Reg.TIME_INC_FRAC_FRAC inc
    let b := b.updTb fun t => { t with inc := inc }
    if m = 0 then b.adjEnd
    else (b.wrS Reg.TIME_ADJ_DELTA_DELTA delta).adjustBy delta (min (rdiv (|offs| * 2 ^ 32) d).toNat (2 ^ 32 - 1))

/-- An offset measurement of domain `x`: `t` the domain's time and `rx` TIME_NS at the receipt of its Sync
    (R320). -/
def Block.measure (x : Nat) (t rx : Int) (b : Block) : Block :=
  let d := b.dom x
  let offs := rdiv (t + d.delay16 - rx) 65536
  let b := b.wr64 (Reg.TIME_DOM_OFFS_LO_OFFS x) (Reg.TIME_DOM_OFFS_HI_OFFS x) (ofS 64 offs)
  let b := match d.prevMaster with
    | some (t0, rx0) => b.wrS (Reg.TIME_DOM_RATE_RATE x) (sat32 (rdiv (((t - t0) - (rx - rx0)) * 1000000000) (rx - rx0)))
    | none => b
  let b := (b.domTo x 3).updDom x fun d => { d with prevMaster := some (t, rx), lost := false }
  let b := (b.limitJudge x offs).switchJudge false
  if b.servoOwns && b.selDom == x then b.servo offs else b

/-- One Sync interval of a domain in ps: 2^interval s. -/
def ptpInterval (l : Int) : Nat :=
  if 0 ≤ l then 1000 * msPs * 2 ^ l.toNat else 1000 * msPs / 2 ^ (-l).toNat

/-- Domain `x` has no master any more: it listens again, and is lost where it was SLAVE or no Sync came (R317, R320). -/
def Block.masterGone (x : Nat) (lost : Bool) (b : Block) : Block :=
  let b := b.updDom x fun d => { d with best := none, syncSeq := none, prevMaster := none }
  if lost then b.domLose x 1 else b.domTo x 1

/-- The uptime in ps at which the receipt of Announces, or that of Syncs once one has come, times out: 3 intervals after the
    last (R317, R320). -/
def DomSt.dueAt (d : DomSt) : Nat :=
  let a := d.announceAt + 3 * ptpInterval d.announceIv
  match d.syncAt with
  | some t => min a (t + 3 * ptpInterval d.interval)
  | none => a

/-- An Announce of domain `x`: the best master by its dataset; its receipt may have timed out before (R317). -/
def Block.ptpAnnounce (x : Nat) (m : PtpMsg) (b : Block) : Block :=
  let d := b.dom x
  let gone := d.best.isSome && decide (d.announceAt + 3 * ptpInterval d.announceIv < b.tb.up)
  let b := if gone then b.masterGone x (b.rd (Reg.TIME_DOM_STAT_STATE x) == 3) else b
  let best := (b.dom x).best
  let gm (b : Block) : Block := b.wr64 (Reg.TIME_DOM_GM_LO_ID x) (Reg.TIME_DOM_GM_HI_ID x) m.grandmaster.toNat
  let take (b : Block) : Block :=
    gm (b.updDom x fun d =>
      { d with best := some (m.dataset, m.source), announceAt := b.tb.up, announceIv := m.logInterval })
  match best with
  | some (ds, src) =>
    if src = m.source then take b
    else if m.dataset < ds then
      let b := (take b).updDom x fun d => { d with prevMaster := none, syncSeq := none }
      if b.rd (Reg.TIME_DOM_STAT_STATE x) = 3 then b.domLose x 2 else b.domTo x 2
    else b
  | none =>
    let b := take b
    if b.rd (Reg.TIME_DOM_STAT_STATE x) = 1 then b.domTo x 2 else b

/-- A Sync of domain `x` from its best master (R317, R320). -/
def Block.ptpSync (x : Nat) (m : PtpMsg) (b : Block) : Block :=
  let d := b.dom x
  if d.best.map (·.2) ≠ some m.source then b
  else
    let rx := b.rxStamp (stnNum m.port)
    let b := (b.dropMark (2 + stnNum m.port) false).updDom x fun d =>
      { d with syncAt := some b.tb.up, interval := m.logInterval }
    if m.twoStep then
      b.updDom x fun d => { d with syncSeq := some m.seq, syncRx := rx - m.correction }
    else b.measure x (m.origin.toNat * 65536 + m.correction) rx

/-- The Follow_Up of the last Sync of domain `x`. -/
def Block.ptpFollowUp (x : Nat) (m : PtpMsg) (b : Block) : Block :=
  let d := b.dom x
  if d.best.map (·.2) ≠ some m.source ∨ d.syncSeq ≠ some m.seq then b
  else (b.updDom x fun d => { d with syncSeq := none }).measure x (m.origin.toNat * 65536 + m.correction) d.syncRx

/-- The domains received on port `p` with PTP domain number `n` (R319, R320). -/
def Block.domsOn (b : Block) (p n : Nat) : List Nat :=
  [0, 1].filter fun x => b.on (Reg.TIME_DOM_CFG_EN x) && b.rd (Reg.TIME_DOM_CFG_PORT x) == p
    && b.rd (Reg.TIME_DOM_CFG_DOMAIN x) == n

/-- A mean path delay of port `p`, for every domain received on it (R320). -/
def Block.ptpDelay (p : Nat) (dl : Int) (b : Block) : Block :=
  b.eachOf ([0, 1].filter fun x => b.on (Reg.TIME_DOM_CFG_EN x) && b.rd (Reg.TIME_DOM_CFG_PORT x) == p) fun x b =>
    (b.updDom x fun d => { d with delay16 := dl }).wrS (Reg.TIME_DOM_DELAY_DELAY x) (rdiv dl 4096)

/-- A Pdelay_Resp: from a one-step responder the delay is measured, from a two-step one after its
    Pdelay_Resp_Follow_Up. -/
def Block.pdelayResp (m : PtpMsg) (b : Block) : Block :=
  let p := (stnNum m.port)
  if SMap.look 0 b.ptp.pdSeq p ≠ m.seq.toNat + 1 then b
  else
    let t4 := b.rxStamp p
    if m.twoStep then b.updPtp fun q =>
      { q with pdT2 := SMap.store 0 p ((m.origin.toNat * 65536 : Nat) + m.correction) q.pdT2
               pdT4 := SMap.store 0 p t4 q.pdT4 }
    else b.ptpDelay p (rdiv (t4 - SMap.look 0 b.ptp.pdT1 p - m.correction) 2)

/-- The Pdelay_Resp_Follow_Up of a two-step responder. -/
def Block.pdelayFollowUp (m : PtpMsg) (b : Block) : Block :=
  let p := (stnNum m.port)
  if SMap.look 0 b.ptp.pdSeq p ≠ m.seq.toNat + 1 then b
  else
    let t3 : Int := (m.origin.toNat * 65536 : Nat) + m.correction
    b.ptpDelay p (rdiv ((SMap.look 0 b.ptp.pdT4 p - SMap.look 0 b.ptp.pdT1 p) - (t3 - SMap.look 0 b.ptp.pdT2 p)) 2)

/-- PTP_MESSAGE_RX (R317 to R322): a good frame within the limits of R317 is processed for its domain.  A port that is down
    brings none (R449). -/
def Block.ptpMessageRx (m : PtpMsg) (b : Block) : Block :=
  let p := (stnNum m.port)
  let good := m.fcsOk && !b.injects 3 p
  let b := (if b.injects 3 p then b.dropMark (2 + p) true else b).checked 3 p
  if !good || !m.inProfile || !b.cores || !b.dma.link p then b
  else
    let xs := b.domsOn p m.domain.toNat
    match m.kind with
    | .announce => b.eachOf xs fun x b => b.ptpAnnounce x m
    | .sync => b.eachOf xs fun x b => b.ptpSync x m
    | .followUp => b.eachOf xs fun x b => b.ptpFollowUp x m
    | .pdelayReq => b.emit (.pdelayResp m.port m.seq m.source (rdiv (b.txStamp p) 65536) (b.txStamp p - b.rxStamp p))
    | .pdelayResp => b.pdelayResp m
    | .pdelayRespFollowUp => b.pdelayFollowUp m
    | .other => b

/-- PDELAY_REQ_SEND (R317, R318): on a port that is up and carries an enabled domain; keeps t1. -/
def Block.pdelayReqSend (port : Stn) (b : Block) : Block :=
  let p := stnNum port
  if b.cores && b.dma.link p
      && [0, 1].any fun x => b.on (Reg.TIME_DOM_CFG_EN x) && b.rd (Reg.TIME_DOM_CFG_PORT x) == p then
    let n := SMap.look 0 b.ptp.pdSeq p
    (b.updPtp fun q =>
      { q with pdSeq := SMap.store 0 p (n % 65536 + 1) q.pdSeq, pdT1 := SMap.store 0 p (b.txStamp p) q.pdT1 }).emit
      (.pdelayReq port (n % 65536))
  else b

/-- PTP_DOMAIN_LOST (R317, R320): no Announce, or no Sync after the first, for 3 intervals; the port listens again.  A
    domain on its way to SLAVE is lost by it only where Syncs stopped. -/
def Block.ptpDomainLost (x : Nat) (b : Block) : Block :=
  let st := b.rd (Reg.TIME_DOM_STAT_STATE x)
  if b.cores && (st == 2 || st == 3) then
    let d := b.dom x
    (b.untilUp d.dueAt).masterGone x (st == 3 || d.syncAt.isSome)
  else b

/-- The PTP domains and the servo after a cast (R323, R338): a domain in SLAVE that goes on is judged by the band now in
    force (R320). -/
def Block.timeCast (b : Block) : Block :=
  let diff (f : Field) : Bool := b.rd f != b.formerBank.fld f
  let b := b.each 2 fun x b =>
    if diff (Reg.TIME_DOM_CFG_EN x) || diff (Reg.TIME_DOM_CFG_DOMAIN x) || diff (Reg.TIME_DOM_CFG_PORT x) then
      b.domAfresh x
    else if b.rd (Reg.TIME_DOM_STAT_STATE x) = 3 then b.limitJudge x (b.domOffs x)
    else b
  if diff Reg.TIME_SERVO_SEL && b.rd Reg.TIME_SERVO_SEL != b.selDom then b.timeSwitch (b.rd Reg.TIME_SERVO_SEL) false
  else b.switchJudge false

/-- The start-up configuration is read: its domains begin, and the servo follows the domain SEL names (R320, R323). -/
def Block.timeStarts (b : Block) : Block :=
  let b := (b.domRestart 0).domRestart 1
  (b.wr Reg.TIME_STAT_SEL_IN_USE (b.rd Reg.TIME_SERVO_SEL)).timeShow

/-- A core reset restarts the PTP ports and the servo (R321): domains in SLAVE are lost, and none is in limit to turn to. -/
def Block.timeRestart (b : Block) : Block :=
  let slave (x : Nat) : Bool := b.rd (Reg.TIME_DOM_STAT_STATE x) == 3
  let lost (x : Nat) : Bool := slave x || (b.dom x).lost
  let b := b.eachOf ([0, 1].filter slave) fun x b => b.domDrop x 1
  let b := (b.timeStarts).updDom 0 fun d => { d with lost := lost 0 }
  b.updDom 1 fun d => { d with lost := lost 1 }

/-! ### PLLs and monitors (R329 to R335) -/

/-- The number of a PLL. -/
def pllNum : Pll → Nat
  | .core => 1
  | .mgmt => 2
  | .pair => 3
  | .stn => 4
  | .lane e => 5 + e

/-- The number of a monitor. -/
def monNum : Monitor → Nat
  | .ref => 0
  | .core => 1
  | .mgmt => 2
  | .pair => 3
  | .stn => 4
  | .lane e => 5 + e

/-- Set or clear the lock bit of PLL `n` (R337). -/
def Block.pllLock (n : Nat) (on : Bool) (b : Block) : Block :=
  match n with
  | 1 => b.flag Reg.CLK_STAT_CORE_LOCK on
  | 2 => b.flag Reg.CLK_STAT_MGMT_LOCK on
  | 3 => b.flag Reg.CLK_STAT_PAIR_LOCK on
  | 4 => b.flag Reg.CLK_STAT_STN_LOCK on
  | n => b.setBit Reg.CLK_STAT_LANE_LOCK (n - 5) on

/-- PLL `n` enters holdover (R331); strokes are untimed while the CORE PLL is in it (R52). -/
def Block.holdoverOf (n : Nat) (b : Block) : Block :=
  if b.clk.holdover.contains n then b
  else
    let b := { b with clk := { b.clk with holdover := n :: b.clk.holdover } }
    let b := b.pllLock n false
    if n = 1 then
      let b := ((b.flag Reg.CLK_STAT_CORE_HOLD true).count Reg.CLK_HOLD_CNT_COUNT 1).wr Reg.CLK_CORE_CV_CV b.free
      (b.drawn).updStrk fun k => { k with timingBad := true }
    else b

/-- Does PLL `n` run?  A lane-group PLL does only while its engine is powered (R329). -/
def Block.pllRuns (b : Block) (n : Nat) : Bool := decide (n < 5) || b.bit Reg.LINK_ENGINES_ON (n - 5)

/-- The entry of CLK_BANDk that serves PLL `n`: the lowest-numbered one whose PLL field names it, 4 for every lane group;
    none is the factory band (R332). -/
def Block.bandEntry (b : Block) (n : Nat) : Option Nat :=
  if !b.clk.copied || b.clk.retry.contains n then none
  else (List.range 16).find? fun k => b.rd (Reg.CLK_BANDk_PLL k) == min (n - 1) 4

/-- PLL `n` locks under an entry of the band table, or under the factory band (R332). -/
def ClkSt.locks (n : Nat) (entry : Option Nat) (c : ClkSt) : ClkSt :=
  { c with holdover := c.holdover.filter (· != n)
           retry := c.retry.filter (· != n)
           bands := match entry with
             | some k => SMap.insert n k c.bands
             | none => SMap.erase n c.bands }

/-- PLL_RELOCK (R331, R332): the PLL leaves holdover, or locks for the first time; while the reference fails it stays
    in holdover. -/
def Block.pllRelock (n : Nat) (b : Block) : Block :=
  if b.clk.failed.contains 0 || !b.pllRuns n then b
  else
    let b := { b with clk := b.clk.locks n (b.bandEntry n) }
    let b := b.pllLock n true
    if n = 1 then b.flag Reg.CLK_STAT_CORE_HOLD false else b

/-- PLL_BAND_FAIL (R332): a PLL failed to lock under its entry and retries once under the factory band. -/
def Block.pllBandFail (n : Nat) (b : Block) : Block :=
  if !b.pllRuns n then b
  else
    let b := { b with clk := { b.clk with retry := n :: b.clk.retry.filter (· != n) } }
    b.raise { source := 45, unitType := 12, idx := if 5 ≤ n then n - 5 else n - 1 }

/-- TIMING_RESTORED (R52): the CORE PLL is locked and its monitor has passed for 1,024 reference cycles. -/
def Block.timingRestored (b : Block) : Block :=
  if b.clk.holdover.contains 1 || b.clk.failed.contains 1 then b
  else b.updStrk fun k => { k with timingBad := false }

/-- The lanes of group `e` lose lock and leave ACTIVE (R183, R333). -/
def Block.groupUnlock (e : Nat) (b : Block) : Block :=
  b.eachOf ((List.range 12).map (· + 12 * e)) fun l b =>
    let b := ((b.flag (Reg.LINK_STAT_BIT_LOCK l) false).flag (Reg.LINK_STAT_BLOCK_LOCK l) false).flag
      (Reg.LINK_STAT_FAR_LOCK l) false
    if b.rd (Reg.LINK_STAT_STATE l) = 4 then b.laneDown l (if b.on (Reg.LINK_STAT_LOS l) then 1 else 2) false else b

/-- A station link (R423, R449).  The enabled domains received on a port whose link is down are FAULTY, and listen again
    once it is up, the age of their last Sync running on (R320, log entry 104). -/
def Block.stationLink (p : Stn) (up : Bool) (b : Block) : Block :=
  let b := b.updDma fun d => match p with
    | .a => { d with linkA := up }
    | .b => { d with linkB := up }
  b.eachOf ([0, 1].filter fun x => b.on (Reg.TIME_DOM_CFG_EN x) && b.rd (Reg.TIME_DOM_CFG_PORT x) == stnNum p) fun x b =>
    let st := b.rd (Reg.TIME_DOM_STAT_STATE x)
    if up then (if st = 4 then b.masterGone x false else b)
    else if !b.cores || st == 0 || st == 4 then b
    else if st = 3 then b.domLose x 4
    else b.domTo x 4

/-- CLOCK_MONITOR_FAIL (R333, R335): a monitor that has not reported since power-on fails as one that passed does. -/
def Block.clockMonitorFail (n : Nat) (b : Block) : Block :=
  let off := (5 ≤ n && !b.bit Reg.LINK_ENGINES_ON (n - 5)) || (n == 3 && !b.on Reg.SYS_PAIR_CFG_EN)
  if (b.clk.failed.contains n && b.clk.reported.contains n) || off then b
  else
    let b := { b with clk := { b.clk with failed := n :: b.clk.failed.filter (· != n)
                                          reported := n :: b.clk.reported.filter (· != n) } }
    match n with
    | 0 =>
      let b := (b.flag Reg.CLK_MON_FAIL_REF true).flag Reg.CLK_STAT_REF_OK false
      (b.eachOf ([1, 2, 3, 4] ++ (List.range 16).map (· + 5)) fun k b => b.holdoverOf k).raise { source := 39 }
    | 1 => ((b.flag Reg.CLK_MON_FAIL_CORE true).updStrk fun k => { k with timingBad := true }).raise { source := 40 }
    | 2 => (b.flag Reg.CLK_MON_FAIL_MGMT true).raise { source := 41 }
    | 3 => (b.flag Reg.CLK_MON_FAIL_PAIR true).raise { source := 43, unitType := 12 }
    | 4 => (((b.flag Reg.CLK_MON_FAIL_STN true).stationLink .a false).stationLink .b false).raise
        { source := 44, unitType := 12 }
    | n => ((b.setBit Reg.CLK_MON_FAIL_LANE (n - 5) true).groupUnlock (n - 5)).raise
        { source := 42, unitType := 12, idx := n - 5 }

/-- CLOCK_MONITOR_PASS (R333): 1,024 good reference cycles. -/
def Block.clockMonitorPass (n : Nat) (b : Block) : Block :=
  let b := { b with clk := { b.clk with failed := b.clk.failed.filter (· != n)
                                        reported := n :: b.clk.reported.filter (· != n) } }
  if n = 0 then b.flag Reg.CLK_STAT_REF_OK true else b

/-! ### Meanings -/

/-- ADJUSTMENT_END (R314). -/
def execAdjustmentEnd (s : State) : Host.Outcome State Fault Refusal := s.onBlk (·.adjustmentEnd)
/-- TS_EDGE (R328). -/
def execTsEdge (k : Fin 16) (rising : Bool) (s : State) : Host.Outcome State Fault Refusal := s.onBlk (·.tsEdge k rising)
/-- PTP_MESSAGE_RX (R317). -/
def execPtpMessageRx (m : PtpMsg) (s : State) : Host.Outcome State Fault Refusal := s.onBlk (·.ptpMessageRx m)
/-- PDELAY_REQ_SEND (R317). -/
def execPdelayReqSend (port : Stn) (s : State) : Host.Outcome State Fault Refusal := s.onBlk (·.pdelayReqSend port)
/-- PTP_DOMAIN_LOST (R320). -/
def execPtpDomainLost (dom : Fin 2) (s : State) : Host.Outcome State Fault Refusal := s.onBlk (·.ptpDomainLost dom)
/-- PLL_HOLDOVER (R331). -/
def execPllHoldover (pll : Pll) (s : State) : Host.Outcome State Fault Refusal := s.onBlk (·.holdoverOf (pllNum pll))
/-- PLL_RELOCK (R331). -/
def execPllRelock (pll : Pll) (s : State) : Host.Outcome State Fault Refusal := s.onBlk (·.pllRelock (pllNum pll))
/-- PLL_BAND_FAIL (R332). -/
def execPllBandFail (pll : Pll) (s : State) : Host.Outcome State Fault Refusal := s.onBlk (·.pllBandFail (pllNum pll))
/-- CLOCK_MONITOR_PASS (R333). -/
def execClockMonitorPass (mon : Monitor) (s : State) : Host.Outcome State Fault Refusal :=
  s.onBlk (·.clockMonitorPass (monNum mon))
/-- TIMING_RESTORED (R52). -/
def execTimingRestored (s : State) : Host.Outcome State Fault Refusal := s.onBlk (·.timingRestored)

end Sys2Proof.Machine
end

