-- ==== Sys2Proof/Machine/Flags.lean ====
section
/-! DEFINITION. The flags and counts that registers show of the engines' records: those formed when they are
    read (R8), and those formed at the freeze for the state image (R37).  And what a register reads as at its
    own address, in the state image window and at the maquette alias (R38 to R42, R442, R443). -/

namespace Sys2Proof.Machine

/-! ### Formed when they are read -/

/-- The word whose bit `j` is `p j`. -/
def bits32 (p : Nat → Bool) : Nat := (List.range 32).foldl (fun w j => if p j then w + 2 ^ j else w) 0

/-- The recovery register of a unit: its four fields (R353); a second that has begun counts as left. -/
def Block.recovShow (k : Nat) (rec lock quiet left : Field) (b : Block) : Block :=
  let r := b.recov k
  let q := r.fenced && !r.lockout && !r.manual && decide (b.tb.up < r.quietEnd)
  (((b.wr rec (min 15 (recentHist b.upS r.hist).length)).flag lock r.lockout).flag quiet q).wr left
    (if q then cdiv (r.quietEnd - b.tb.up) 1000000000000 else 0)

/-- EVT_LATCHk, EVT_RCV and EVT_STAT (R356). -/
def Block.refreshEvt (a : Nat) (b : Block) : Block :=
  if a = 0x700000 then
    (b.flag Reg.EVT_STAT_LATCHED ((List.range 256).any fun k => b.on (Reg.EVT_SRCk_LATCHED k))).wr
      Reg.EVT_STAT_STAGED (satNat 16 b.evt.staged.length)
  else if 0x700080 ≤ a ∧ a < 0x7000A0 then
    let k := (a - 0x700080) / 4
    b.wr (Reg.EVT_LATCHk_LATCHED k) (bits32 fun j => b.on (Reg.EVT_SRCk_LATCHED (32 * k + j)))
  else if 0x702000 ≤ a ∧ a < 0x702300 then
    let i := (a - 0x702000) / 4
    b.recovShow i (Reg.EVT_RCV_SLOTs_RECOVER i) (Reg.EVT_RCV_SLOTs_LOCKOUT i) (Reg.EVT_RCV_SLOTs_QUIET i)
      (Reg.EVT_RCV_SLOTs_QUIET_LEFT i)
  else if 0x702400 ≤ a ∧ a < 0x702460 then
    let i := (a - 0x702400) / 4
    b.recovShow (256 + i) (Reg.EVT_RCV_LEGl_RECOVER i) (Reg.EVT_RCV_LEGl_LOCKOUT i) (Reg.EVT_RCV_LEGl_QUIET i)
      (Reg.EVT_RCV_LEGl_QUIET_LEFT i)
  else if 0x702480 ≤ a ∧ a < 0x7024A0 then
    let i := (a - 0x702480) / 4
    b.recovShow (512 + i) (Reg.EVT_RCV_PORTp_RECOVER i) (Reg.EVT_RCV_PORTp_LOCKOUT i) (Reg.EVT_RCV_PORTp_QUIET i)
      (Reg.EVT_RCV_PORTp_QUIET_LEFT i)
  else if 0x702500 ≤ a ∧ a < 0x702900 then
    let i := (a - 0x702500) / 4
    b.recovShow (1024 + i) (Reg.EVT_RCV_CTXc_RECOVER i) (Reg.EVT_RCV_CTXc_LOCKOUT i) (Reg.EVT_RCV_CTXc_QUIET i)
      (Reg.EVT_RCV_CTXc_QUIET_LEFT i)
  else b

/-- The age of a domain's last Sync in ms (R336). -/
def Block.refreshAge (x : Nat) (b : Block) : Block :=
  match (b.dom x).syncAt with
  | none => b.wr (Reg.TIME_DOM_AGE_AGE_MS x) 0xFFFF
  | some t => b.wr (Reg.TIME_DOM_AGE_AGE_MS x) (satNat 16 ((b.tb.up - t) / msPs))

/-- The invalid headers that lane `l` has counted since no command told of any, short of a loss of lock, are a free value (R185,
    R206, log entry 40). -/
def Block.refreshHeaders (l : Nat) (b : Block) : Block :=
  if blocksIn (b.rd (Reg.LINK_STAT_STATE l)) && !b.on (Reg.LINK_STAT_LOS l) then
    (b.count (Reg.LINK_HDR_CNT_COUNT l) b.free).drawn
  else b

/-- Bring up to date what the register at address `a` shows of the engines' records.  The loop control value
    of the CORE PLL is analogue: a free value while it is not frozen in holdover (R331, log entry 3). -/
def Block.refresh (a : Nat) (b : Block) : Block :=
  if a = 0x218 then
    (b.wr Reg.SYS_CMD_STAT_QUEUED b.jv.queue.length).flag Reg.SYS_CMD_STAT_PLINTH b.boot.plinth
  else if a = 0x20008 then
    if b.clk.holdover.contains 1 then b else (b.wr Reg.CLK_CORE_CV_CV b.free).drawn
  else if a = 0x30000 then b.latchNow
  else if a = 0x300A0 then b.refreshAge 0
  else if a = 0x300E0 then b.refreshAge 1
  else if a = 0x710000 then b.flag Reg.SAFE_STAT_DEMAND b.demandPresent
  else if a = 0x710004 then
    match b.safe.resetAt with
    | some t => b.flag Reg.SAFE_IN_RESET (t == b.tb.up || Config.safeResetLevel b.tb.up)
    | none => b
  else if a = 0x71000C then
    match b.safe.ramp with
    | some t => b.wr Reg.SAFE_RAMP_T_T_MS (satNat 16 ((b.tb.up - t) / msPs))
    | none => b
  else if 0x700000 ≤ a ∧ a < 0x710000 then b.refreshEvt a
  else if 0x100088 ≤ a ∧ a < 0x130000 ∧ (a - 0x100088) % 0x400 = 0 then b.refreshHeaders ((a - 0x100088) / 0x400)
  else b

/-! ### Formed at the freeze (R37) -/

/-- The lane, context and leg masks, and the counts of each arm. -/
def Block.showMasks (b : Block) : Block :=
  let b := b.each 6 fun k b =>
    ((b.wr (Reg.LINK_ACTIVEk_ACTIVE k) (bits32 fun j => b.rd (Reg.LINK_STAT_STATE (32 * k + j)) == 4)).wr
      (Reg.LINK_REJECTk_REJECT k) (bits32 fun j => b.rd (Reg.LINK_STAT_STATE (32 * k + j)) == 6)).wr
      (Reg.LINK_BLOCKEDk_BLOCKED k) (bits32 fun j =>
        (b.lane (32 * k + j)).fresh && (b.rd (Reg.LINK_RPT_STAT_STATUS (32 * k + j))).testBit 2)
  let b := b.each 8 fun k b =>
    (b.wr (Reg.ARM_ACTIVEk_ACTIVE k) (bits32 fun j => b.on (Reg.ARM_CTX_STAT_ACTIVE (32 * k + j)))).wr (Reg.ARM_FENCEDk_FENCED k)
      (bits32 fun j => b.on (Reg.ARM_CTX_STAT_FENCED (32 * k + j)))
  let b := b.wr Reg.PWM_FENCED_LEGS (bits32 fun l => decide (l < 24) && b.on (Reg.PWM_LEG_STAT_FENCED l))
  b.each 3 fun k b =>
    let n := fun (p : Nat → Bool) => ((armSlots k).filter p).length
    (((b.wr (Reg.CELL_ARM_STAT_IN_SERVICE k) (n fun s => b.svc s == 5)).wr (Reg.CELL_ARM_STAT_ACTIVE k) (n b.isActive)).wr
      (Reg.CELL_ARM_STAT_SPARES k) (n b.isSpare)).wr (Reg.CELL_ARM_STAT_INSERTED k) (n b.inserted)

/-- Everything the image shows that is formed at the freeze. -/
def Block.showImage (b : Block) : Block :=
  let b := ((b.showMasks).ledgerShow).each 192 fun s b =>
    b.wr (Reg.CELL_SLOT_FAULT_RECOVER s) (min 15 (recentHist b.upS (b.recov s).hist).length)
  let b := b.wr64 Reg.SYS_STROKE_NUM_LO_NUM Reg.SYS_STROKE_NUM_HI_NUM b.strk.num
  let b := b.wr64 Reg.IMG_HDR_STROKE_LO_STROKE Reg.IMG_HDR_STROKE_HI_STROKE b.strk.num
  let b := b.wr64 Reg.IMG_HDR_TIME_LO_BOUNDARY Reg.IMG_HDR_TIME_HI_BOUNDARY b.strk.b
  let b := ((b.flag Reg.IMG_HDR_FLAGS_UNTIMED b.strk.untimed).flag Reg.IMG_HDR_FLAGS_CAST b.strk.castHere).flag
    Reg.IMG_HDR_FLAGS_CARRIER b.strk.carrier
  ((b.flag Reg.SYS_STROKE_STAT_UNTIMED b.strk.untimed).flag Reg.SYS_STROKE_STAT_CAST b.strk.castHere).flag
    Reg.SYS_STROKE_STAT_CARRIER b.strk.carrier

/-! ### Which bank a register is read from (R38, R442) -/

/-- Fields that R38 keeps out of the image: CR, RW and WO. -/
def Field.keepsOut (f : Field) : Bool :=
  match f.acc with
  | .cr => true
  | .rw => true
  | .wo => true
  | _ => false

/-- Is the register at address `a`, with fields `fs`, image-served? -/
def imageServed (a : Nat) (fs : List Field) : Bool :=
  (0x1FF0000 ≤ a && a < 0x1FF0014) || a == 0x110 || a == 0x114 || a == 0x118 ||
  ((((0x100000 ≤ a && a < 0x140000) || (0x200000 ≤ a && a < 0x260000) || (0x300000 ≤ a && a < 0x430000)
      || (0x500000 ≤ a && a < 0x510000) || (0x720000 ≤ a && a < 0x730000)))
    && !fs.any Field.keepsOut)

/-- Fields of image-served registers that are read live at their own address: W1C, RC, and those a chapter
    marks live. -/
def liveField (f : Field) : Bool :=
  (match f.acc with
   | .w1c => true
   | .rc => true
   | _ => false)
  || (f.addr == 0x400940 && f.lo == 0) || (f.addr == 0x400A08) || (f.addr == 0x410900 && decide (f.lo < 3))
  || (decide (0x500120 ≤ f.addr) && decide (f.addr < 0x500140))

/-- In P3 and P4 the THRM registers are read live (R394). -/
def Block.thermLive (b : Block) (a : Nat) : Bool :=
  (0x720000 ≤ a && a < 0x730000) && decide (3 ≤ b.rd Reg.SYS_PWR_STAT_STATE)

/-- What one field reads as at its own address: WO reads 0 (R8). -/
def Block.readField (b : Block) (served : Bool) (f : Field) : Nat :=
  match f.acc with
  | .wo => 0
  | _ => if served && !liveField f then Bank.fld b.frozen f else b.shown f

/-- The word that fields form, each read by `r`. -/
def wordOf (r : Field → Nat) (fs : List Field) : Nat := (fs.map fun f => r f * 2 ^ f.lo).sum

/-- Word `j` of bytes, bytes 4j to 4j + 3, the first the most significant (R421). -/
def wordAt (bs : Nat → Byte) (j : Nat) : Nat :=
  ((List.range 4).map fun i => (bs (4 * j + i)).toNat).foldl (fun a x => 256 * a + x) 0

/-- The bundle version of the running firmware's image (R91, R412, R419). -/
def Block.runningVersion (b : Block) : Nat := (SMap.look default b.boot.fw (b.rd Reg.RST_BOOT_RUNNING)).version

/-- The identity public key padded with 0 to 60 bytes (R421). -/
def identityBytes : List Byte := be 57 Config.identityKey.toNat ++ zeros 3

/-- One of the three parts of the certificate that hold neither the serial number nor the key. -/
def certPart (k : Fin 3) : List Byte := (List.range (Config.certPart k).val).map (Config.certByte k)

/-- The certificate, at most 2,048 bytes: its subject holds the serial number of IDENT, and it certifies the identity key
    (R91, R418). -/
def certBytes : List Byte :=
  certPart 0 ++ be 16 Config.serial.toNat ++ certPart 1 ++ be 57 Config.identityKey.toNat ++ certPart 2

/-- The length of the certificate (R421). -/
def certLen : Nat := certBytes.length

/-- The registers that hold the module's identity: the public key and the certificate, which nothing writes (R418,
    R421). -/
def identityWord (a : Nat) : Option Nat :=
  if 0x800240 ≤ a ∧ a < 0x80027C then some (wordAt (fun i => identityBytes.getD i 0) ((a - 0x800240) / 4))
  else if a = 0x800280 then some certLen
  else if 0x801000 ≤ a ∧ a < 0x801800 then
    some (wordAt (fun i => certBytes.getD i 0) ((a - 0x801000) / 4))
  else none

/-- The register at its own address. -/
def Block.ownWord (b : Block) (a : Nat) (fs : List Field) : Nat :=
  match identityWord a with
  | some w => w
  | none => wordOf (b.readField (imageServed a fs && !b.thermLive a)) fs

/-- The register in the image window, at the offset that is its address; none where no image-served register
    is there (R38, R41). -/
def Block.windowWord (b : Block) (off : Nat) : Option Nat :=
  let a := if 0xFF0000 ≤ off then off + 0x1000000 else off
  match fieldsAt a with
  | some fs => if imageServed a fs then some (wordOf (Bank.fld b.frozen) fs) else none
  | none => none

/-- The image word at an offset; 0 where it holds no image-served register (R73). -/
def Block.imageWord (b : Block) (off : Nat) : Nat := (b.windowWord off).getD 0

/-- Bytes of the image from an offset, `4 × n` of them (R73, R77). -/
def Block.imageBytes (b : Block) (off : Nat) : Nat → List Byte
  | 0 => []
  | n + 1 => be 4 (b.imageWord off) ++ b.imageBytes (off + 4) n

/-- A CR field. -/
def Field.isCr (f : Field) : Bool :=
  match f.acc with
  | .cr => true
  | _ => false

/-- The register at its maquette alias: its pending CR fields, 0 in the others; none without a CR field (R42,
    R443). -/
def Block.aliasWord (b : Block) (a : Nat) : Option Nat :=
  match fieldsAt a with
  | some fs => if fs.any Field.isCr then some (wordOf b.maq (fs.filter Field.isCr)) else none
  | none => none

end Sys2Proof.Machine
end

