-- ==== Sys2Proof/Machine/Jarvas.lean ====
section
/-! DEFINITION. The Jarvas engine (R59 to R68): acceptance, the queue, replies, the reply cache, and the
    disarming of a cast that a queued CAST waits for (R45, R74). -/

namespace Sys2Proof.Machine

/-! ### Status codes (R61) -/

def stOk : Nat := 0x00
def stBusy : Nat := 0x01
def stBadOpcode : Nat := 0x02
def stBadLength : Nat := 0x03
def stBadAddress : Nat := 0x04
def stDenied : Nat := 0x05
def stLocked : Nat := 0x06
def stSigFail : Nat := 0x07
def stTimeout : Nat := 0x08
def stPlinth : Nat := 0x09
def stStale : Nat := 0x0A

/-- What a command comes to: its reply, or what it waits for. -/
inductive Ans where
  | done (status detail : Nat) (payload : List Byte)
  | wait (w : Wait)
  deriving DecidableEq, Repr

/-- A command carried out. -/
def ok (payload : List Byte) : Ans := .done stOk 0 payload

/-- A command that a rule forbids in the present state. -/
def denied (detail : Nat) : Ans := .done stDenied detail []

/-- A command whose address or index is not valid. -/
def badAddress : Ans := .done stBadAddress 0 []

/-! ### Replies (R59, R65) -/

/-- The front end runs with fixed transport settings: EtherType 0x88B5, untagged, UDP and PRP off, the UART on.  So it does
    in plinth mode (R410), and from the cores' start until START_CONFIG_LOAD, the row of the step after the one that
    takes the option values (R407; log entry 128). -/
def Block.plainFront (b : Block) : Bool := b.boot.plinth || !(b.boot.starting || b.boot.configured)

/-- The reply to a request. -/
def Block.replyOf (b : Block) (rq : Req) (op status detail : Nat) (payload : List Byte) : Reply :=
  { src := rq.src, both := !b.plainFront && b.on Reg.SYS_JARVAS_CFG_PRP_EN && rq.src.port != .svc
    op := BitVec.ofNat 8 op, seq := rq.seq, status := BitVec.ofNat 8 status
    detail := BitVec.ofNat 8 detail, plinth := b.boot.plinth, restarted := b.on Reg.SYS_CMD_STAT_RESTARTED && !b.boot.coreReset
    payload := payload }

/-- The packet of a reply: the 16-byte header, each field most significant byte first, and the payload (R5, R59). -/
def Reply.packet (r : Reply) : List Byte :=
  be 1 1 ++ be 1 r.op.toNat ++ be 2 (1 + (if r.plinth then 4 else 0) + (if r.restarted then 8 else 0))
    ++ be 4 r.seq.toNat ++ be 2 r.payload.length ++ be 1 r.detail.toNat ++ be 1 r.status.toNat ++ zeros 4 ++ r.payload

/-- Send a reply: the first after a reset carries RESTARTED, which a reply of the packet front end during a core reset
    leaves set (R59, R401). -/
def Block.send (r : Reply) (b : Block) : Block :=
  (b.emit (.reply r.src r.both r.packet)).flag Reg.SYS_CMD_STAT_RESTARTED (b.on Reg.SYS_CMD_STAT_RESTARTED && b.boot.coreReset)

/-- Refuse a packet at acceptance (R61, R63). -/
def Block.refuse (rq : Req) (op status detail : Nat) (b : Block) : Block :=
  (b.count Reg.SYS_CMD_REFUSED_COUNT 1).send (b.replyOf rq op status detail [])

/-- The command at the head of the queue ends: it is recorded as executed, its reply is sent and kept, and the
    next one comes to its turn (R64 to R66).  A CAST that survived a core reset sends none (R67). -/
def Block.finish (status detail : Nat) (payload : List Byte) (b : Block) : Block :=
  match b.jv.queue with
  | [] => b
  | q :: r =>
    let b := (b.wr Reg.SYS_SEQ_LAST_SEQ q.req.seq.toNat).flag Reg.SYS_CMD_STAT_SEQ_VALID true
    let b := b.updJv fun j => { j with queue := r }
    if q.wait = .castOrphan then b
    else
      let rp := b.replyOf q.req q.op.toNat status detail payload
      (b.updJv fun j => { j with cache := (rp :: j.cache).take 16 }).send rp

/-- The command at the head of the queue waits for something. -/
def Block.waitFor (w : Wait) (b : Block) : Block :=
  b.updJv fun j => match j.queue with
    | [] => j
    | q :: r => { j with queue := { q with wait := w } :: r }

/-- What the head of the queue waits for. -/
def Block.headWait (b : Block) : Option Wait := b.jv.queue.head?.map (·.wait)

/-- The head of the queue waits for `w`: end it. -/
def Block.finishIf (w : Wait) (status detail : Nat) (payload : List Byte) (b : Block) : Block :=
  if b.headWait = some w then b.finish status detail payload else b

/-! ### Casts that are disarmed (R45, R74, R400) -/

/-- A CAST is at the head of the queue and waits for its cast. -/
def Block.castHeld (b : Block) : Bool := b.headWait == some .cast || b.headWait == some .castOrphan

/-- The armed cast is disarmed; the maquette is unlocked, its contents still pending.  A CAST that waited for
    it ends with DENIED 0x07 (R74). -/
def Block.disarm (b : Block) : Block :=
  match b.cst.armed with
  | none => b
  | some _ =>
    let held := b.castHeld
    let b := b.updCst fun c => { c with armed := none }
    let b := ((b.wr Reg.SYS_CAST_STAT_STATE 0).wr64 Reg.SYS_CAST_TARGET_LO_BOUNDARY Reg.SYS_CAST_TARGET_HI_BOUNDARY
      0).flag Reg.SYS_MAQ_STAT_LOCKED false
    let b := b.wr Reg.SYS_CAST_STAT_ERR 7
    if held then b.finish stDenied 7 [] else b

/-- The copy of the last cast's dirty words is still to end: nothing touches the maquette (R50). -/
def Block.resyncing (b : Block) : Bool := b.cst.resync.isSome

/-- A MAQUETTE_DISCARD disarms now: the chosen boundary lies at least 1,000 ns ahead (R45). -/
def Block.mayDisarm (b : Block) : Bool :=
  match b.cst.armed with
  | some a => decide (b.ns + 1000 ≤ a.b)
  | none => false

/-- MAQUETTE_DISCARD at its acceptance (R45, R63). -/
def Block.earlyDiscard (b : Block) : Block :=
  if b.mayDisarm then
    (b.disarm).updJv fun j => { j with queue := j.queue.dropLast ++
      (j.queue.getLast?.map fun q => { q with disarmed := true }).toList }
  else b

/-! ### Acceptance (R62, R63) -/

/-- `s` is newer than `a` (R62). -/
def seqNewer (s a : Nat) : Bool :=
  let d := (s + 2 ^ 32 - a) % 2 ^ 32
  0 < d && d < 2 ^ 31

/-- The opcodes served in plinth mode (R90). -/
def plinthOps : List Nat := [0x01, 0x02, 0x90, 0x60, 0x80, 0x81, 0x82, 0x83, 0xA1]

/-- Two sources are one sender's address: the station address, and the UDP source when it came by UDP. -/
def sameSource (a b : Src) : Bool := a.mac == b.mac && a.udp == b.udp

/-- Steps 4 and 6 to 10 of R63; answers whether the command was accepted. -/
def Block.accept (rq : Req) (op : Nat) (b : Block) : Block × Bool :=
  let hit := b.jv.cache.find? fun r => r.seq == rq.seq && r.op.toNat == op && sameSource r.src rq.src
  if b.boot.plinth && !plinthOps.contains op then (b.refuse rq op stPlinth 0, false)
  else if b.jv.queue.any fun q => q.req.seq == rq.seq && q.op.toNat == op then (b, false)
  else match hit with
  | some r => (b.emit (.reply rq.src r.both r.packet), false)
  | none =>
    let any := !b.on Reg.SYS_CMD_STAT_SEQ_VALID && b.jv.queue.isEmpty
    if !any && !seqNewer rq.seq.toNat (b.rd Reg.SYS_SEQ_ACCEPTED_SEQ) then (b.refuse rq op stStale 1, false)
    else if 32 ≤ b.jv.queue.length then (b.refuse rq op stBusy 0, false)
    else
      let b := (b.wr Reg.SYS_SEQ_ACCEPTED_SEQ rq.seq.toNat).wr64 Reg.SYS_HOST_RX_LO_TIME Reg.SYS_HOST_RX_HI_TIME b.ns
      let b := b.updJv fun j =>
        { j with queue := j.queue ++ [{ req := rq, op := BitVec.ofNat 8 op, wait := .turn, disarmed := false }] }
      (if op = 0x22 then b.earlyDiscard else b, true)

/-- Execute the command at the head of the queue.  One that touches the maquette is held while the maquette is
    copied (R50). -/
def Block.execute (touches : Bool) (f : Block → Block × Ans) (b : Block) : Block :=
  if touches && b.resyncing then b
  else match f b with
  | (b, .done st d p) => b.finish st d p
  | (b, .wait w) => b.waitFor w

/-- A Jarvas command of opcode `op` (R63, R64).  With nothing queued it is accepted and executed; queued, it is
    executed when it has come to its turn.  `fits`: its length is one the opcode's layout allows (R60).
    `touches`: it touches the maquette. -/
def Block.serve (rq : Req) (op : Nat) (fits touches : Bool) (f : Block → Block × Ans) (b : Block) : Block :=
  if !b.cores then b
  else if !fits then b.refuse rq op stBadLength 0
  else match b.jv.queue with
  | [] =>
    match b.accept rq op with
    | (b, true) => b.execute touches f
    | (b, false) => b
  | q :: _ =>
    if q.req.seq = rq.seq && q.op.toNat = op && q.wait = .turn then b.execute touches f else b

end Sys2Proof.Machine
end

