-- ==== Sys2Proof/Machine/Dma.lean ====
section
/-! DEFINITION. Streams and their stroke channels (R75 to R79, R422 to R424), the host channels' capture rings
    (R427 to R430), and bus errors (R431 to R433). -/

namespace Sys2Proof.Machine

/-- Stream `k`, if it is open. -/
def Block.streamOf (b : Block) (k : Nat) : Option StreamSt := (b.dma.streams.find? fun e => e.1 == k).map (·.2)

/-- Keep a stream's record. -/
def Block.setStream (k : Nat) (x : StreamSt) (b : Block) : Block :=
  b.updDma fun d => { d with streams := SMap.insert k x (SMap.erase k d.streams) }

/-! ### Opening (R75, R76) -/

/-- The transceiver in a station cage, when it is one the module accepts (R449): `base10…` or `base1…` of the SFP+
    cages. -/
def Block.stationXcvr (b : Block) (p : Nat) : Option XcvrType :=
  (b.pow.cages.find? fun e => e.1 == p + 1).map (·.2)

/-- The line rate of a station port in Gb/s. -/
def Block.lineRate (b : Block) (p : Nat) : Nat :=
  match b.stationXcvr p with
  | some .base10Sr => 10
  | some .base10Lr => 10
  | some .base1Sx => 1
  | some .base1Lx => 1
  | _ => 0

/-- Bytes of data in a packet of a stream. -/
def descBytes (d : StreamDesc) : Nat := (d.ranges.map fun r => r.len.toNat).sum

/-- F: the bytes a packet occupies on the wire (R76). -/
def Block.wireBytes (b : Block) (d : StreamDesc) : Nat :=
  max 64 (54 + descBytes d + (if d.route.toNat.testBit 2 then 28 else 0) + 4 * b.rd Reg.SYS_JARVAS_VLAN_VLAN_EN) + 20

/-- The wire load on port `p` of the open streams and a new one exceeds 80 % of the line rate: the sum of
    F ÷ d over them, times 8 ÷ PERIOD, against the rate.  Each quotient is compared exactly over the product
    of the decimations. -/
def Block.overloads (b : Block) (p : Nat) (d : StreamDesc) : Bool :=
  let on := (d :: (b.dma.streams.map fun e => e.2.desc)).filter fun x => x.route.toNat.testBit p
  let prod := (on.map fun x => x.dec.toNat).foldl (· * ·) 1
  let load := (on.map fun x => b.wireBytes x * (prod / x.dec.toNat)).sum
  decide (8 * b.lineRate p * b.rd Reg.SYS_STROKE_NS_PERIOD * prod < 80 * load)

/-- Cause 0x03: the Route field. -/
def Block.badRoute (b : Block) (d : StreamDesc) : Bool :=
  let r := d.route.toNat
  decide (8 ≤ r) || r % 4 == 0 || (b.on Reg.SYS_JARVAS_CFG_PRP_EN && r % 4 != 3)
    || (r.testBit 2 && !b.on Reg.SYS_JARVAS_CFG_UDP_EN)
    || [0, 1].any fun p => r.testBit p && b.lineRate p == 0

/-- The refusal of a STREAM_OPEN, if there is one (R76).  A decimation of 0 gives no wire load: detail 4 is not judged for
    it, and it ends at its own detail 6 (log entry 144). -/
def Block.streamRefusal (b : Block) (d : StreamDesc) : Option Ans :=
  if 7 < d.id.toNat ∨ d.ranges.any (fun r => r.len.toNat = 0 ∨ r.off.toNat % 4 ≠ 0 ∨ r.len.toNat % 4 ≠ 0
      ∨ 0x1000000 < r.off.toNat + r.len.toNat) then some badAddress
  else if (b.streamOf d.id.toNat).isSome then some (denied 1)
  else if 1380 < descBytes d then some (denied 2)
  else if b.badRoute d then some (denied 3)
  else if d.dec.toNat ≠ 0 ∧ [0, 1].any (fun p => d.route.toNat.testBit p && b.overloads p d) then some (denied 4)
  else if 3 ≤ b.rd Reg.SYS_PWR_STAT_STATE then some (denied 5)
  else if d.dec.toNat = 0 then some (denied 6)
  else none

/-- STREAM_OPEN: its first packet carries the first bank whose boundary follows the reply (R78). -/
def Block.streamOpen (d : StreamDesc) (b : Block) : Block × Ans :=
  match b.streamRefusal d with
  | some a => (b, a)
  | none =>
    let k := d.id.toNat
    let first := b.strk.num + 1
    let b := b.setStream k { (default : StreamSt) with desc := d, first := first }
    let b := (b.wr (Reg.DMA_CH_CTRL_DEC k) d.dec.toNat).setBit Reg.SYS_STREAM_STAT_OPEN k true
    (b, ok (be 1 k ++ zeros 7 ++ be 8 first))

/-! ### Closing (R79, R424) -/

/-- A stream is closed: its channel is free. -/
def Block.dropStream (k : Nat) (b : Block) : Block :=
  let b := b.updDma fun d => { d with streams := SMap.erase k d.streams }
  let b := (b.wr (Reg.DMA_CH_CTRL_DEC k) 1).setBit Reg.SYS_STREAM_STAT_OPEN k false
  (b.flag (Reg.DMA_CH_STAT_BUSY k) false).flag (Reg.DMA_CH_STAT_STOPPED k) true

/-- The payload of a STREAM_CLOSE reply. -/
def closeReply (k sent : Nat) : List Byte := be 1 k ++ zeros 3 ++ be 4 sent

/-- STREAM_CLOSE at its turn. -/
def Block.streamClose (k : Nat) (b : Block) : Block × Ans :=
  if 7 < k then (b, badAddress)
  else match b.streamOf k with
  | none => (b, denied 1)
  | some x =>
    if x.busy then (b.setStream k { x with closing := true }, .wait (.streamClose k))
    else (b.dropStream k, ok (closeReply k x.sent))

/-- A packet that is no longer in progress lets a waiting STREAM_CLOSE end. -/
def Block.streamSettle (k : Nat) (b : Block) : Block :=
  match b.streamOf k with
  | some x =>
    if x.closing && !x.busy then (b.dropStream k).finishIf (.streamClose k) stOk 0 (closeReply k x.sent) else b
  | none => b

/-- Every stream is closed at once (R79): a STREAM_CLOSE that waits is left to the reset's own rules. -/
def Block.closeAll (b : Block) : Block := b.each 8 fun k b => if (b.streamOf k).isSome then b.dropStream k else b

/-! ### Stroke channels (R52, R77, R78, R423) -/

/-- The packet of stream `k` is not sent: its next one carries GAP (R78, R432, R433). -/
def Block.streamSkip (k : Nat) (b : Block) : Block :=
  match b.streamOf k with
  | none => b
  | some x =>
    let b := b.setStream k { x with gap := true, busy := false, packet := none, placed := false, toA := false, toB := false }
    (((b.chanBusy k false).setBit Reg.SYS_STREAM_STAT_GAP k true).count (Reg.DMA_CH_GAPS_COUNT k) 1).streamSettle k

/-- The streams whose channel still runs. -/
def Block.busyStreams (b : Block) : List Nat :=
  (List.range 8).filter fun k => match b.streamOf k with
    | some x => x.busy
    | none => false

/-- At the freeze: channels still running are cut short (R52); answers whether there were any. -/
def Block.cutStreams (b : Block) : Block :=
  let cut := b.busyStreams
  let b := b.flag Reg.SYS_STROKE_STAT_DMA_OVR (!cut.isEmpty)
  if cut.isEmpty then b
  else ((b.eachOf cut fun k b => b.streamSkip k).count Reg.SYS_OVERRUN_CNT_COUNT 1).raise { source := 0 }

/-- Is stream `x` due in stroke `n` (R78)? -/
def StreamSt.due (x : StreamSt) (n : Nat) : Bool :=
  decide (x.first ≤ n) && (n - x.first) % x.desc.dec.toNat == 0 && !x.closing

/-- The streams due in the stroke that froze have a packet in progress; while the engine is halted they skip it
    (R78, R432). -/
def Block.dueStreams (b : Block) : Block :=
  b.each 8 fun k b => match b.streamOf k with
    | none => b
    | some x =>
      if !x.due b.strk.num then b
      else if b.on Reg.DMA_STAT_HALTED then b.streamSkip k
      else (b.setStream k { x with busy := true, packet := none }).chanBusy k true

/-- The packet of a stream from the frozen bank (R77). -/
def Block.buildPacket (k : Nat) (x : StreamSt) (b : Block) : List Byte :=
  let data := x.desc.ranges.flatMap fun r => b.imageBytes r.off.toNat (r.len.toNat / 4)
  let f := Bank.fld b.frozen
  be 1 1 ++ be 1 0x31 ++ be 2 2 ++ be 4 x.seq ++ be 2 (20 + data.length) ++ zeros 6
    ++ be 1 k ++ be 1 (if x.gap then 1 else 0) ++ zeros 2
    ++ be 4 (f Reg.IMG_HDR_STROKE_HI_STROKE) ++ be 4 (f Reg.IMG_HDR_STROKE_LO_STROKE)
    ++ be 4 (f Reg.IMG_HDR_TIME_HI_BOUNDARY) ++ be 4 (f Reg.IMG_HDR_TIME_LO_BOUNDARY) ++ data

/-- The time in ps that a byte takes on a port. -/
def Block.bytePs (b : Block) (p : Nat) : Nat := 8000 / max 1 (b.lineRate p)

/-- The uptime at which the stream buffer of port `p` has drained. -/
def DmaSt.empty (d : DmaSt) (p : Nat) : Nat := if p = 0 then d.emptyA else d.emptyB

/-- The uptime from which port `p` has room for `n` bytes in its 32 KiB. -/
def Block.roomAt (b : Block) (p n : Nat) : Nat := b.dma.empty p - (32768 - n) * b.bytePs p

/-- Place a packet's copy in the buffer of port `p`. -/
def Block.placeCopy (p k : Nat) (x : StreamSt) (bs : List Byte) (b : Block) : Block :=
  let t := max b.tb.up (b.dma.empty p) + b.wireBytes x.desc * b.bytePs p
  let b := b.updDma fun d => if p = 0 then { d with emptyA := t } else { d with emptyB := t }
  b.emit (.stream (if p = 0 then .a else .b) k x.desc.mac
    (if x.desc.route.toNat.testBit 2 then some (x.desc.ip, x.desc.udpPort) else none)
    (if b.on Reg.SYS_JARVAS_VLAN_VLAN_EN then some (b.rd Reg.SYS_JARVAS_VLAN_VID) else none) bs)

/-- The copy for port `p` is placed, is not taken while the port's link is down, or waits for room (R423).  A copy not taken
    marks the stream's next packet, and not SYS_STREAM_STAT.GAP (log entry 145). -/
def Block.copyTo (p k : Nat) (b : Block) : Block :=
  match b.streamOf k with
  | none => b
  | some x =>
    match x.packet with
    | none => b
    | some bs =>
      if !(if p = 0 then x.toA else x.toB) then b
      else
        let taken := if p = 0 then { x with toA := false } else { x with toB := false }
        if !b.dma.link p then b.setStream k { taken with gap := true }
        else if b.roomAt p (b.wireBytes x.desc) ≤ b.tb.up then (b.setStream k { taken with placed := true }).placeCopy p k x bs
        else b

/-- Every copy of the packet is placed: the channel completes. -/
def Block.channelDone (k : Nat) (b : Block) : Block :=
  match b.streamOf k with
  | none => b
  | some x =>
    if x.packet.isNone || x.toA || x.toB then b
    else
      let n := if x.placed then 1 else 0
      let b := b.setStream k
        { x with busy := false, packet := none, placed := false, seq := (x.seq + n) % 2 ^ 32, sent := (x.sent + n) % 2 ^ 32 }
      ((b.chanBusy k false).wr (Reg.DMA_CH_CNT_COUNT k) (b.rd (Reg.DMA_CH_CNT_COUNT k) + n)).streamSettle k

/-- STROKE_CHANNEL_RUN: channel `k` runs once every lower channel has completed. -/
def Block.strokeChannelRun (k : Nat) (b : Block) : Block :=
  match b.streamOf k with
  | none => b
  | some x =>
    if !x.busy || x.packet.isSome || b.busyStreams.any (· < k) then b
    else
      let bs := b.buildPacket k x
      let r := x.desc.route.toNat
      let b := b.setStream k { x with packet := some bs, gap := false, placed := false, toA := r.testBit 0, toB := r.testBit 1 }
      ((b.copyTo 0 k).copyTo 1 k).channelDone k

/-- The stream whose copy waits for room on port `p`. -/
def Block.waitsFor (b : Block) (p : Nat) : Option Nat :=
  b.busyStreams.find? fun k => match b.streamOf k with
    | some x => x.packet.isSome && (if p = 0 then x.toA else x.toB)
    | none => false

/-- STREAM_BUFFER_DRAINED: room for the waiting copy. -/
def Block.streamDrained (p : Nat) (b : Block) : Block :=
  match b.waitsFor p with
  | none => b
  | some k =>
    match b.streamOf k with
    | none => b
    | some x => ((b.untilUp (b.roomAt p (b.wireBytes x.desc))).copyTo p k).channelDone k

/-- A copy that waits on a port whose link is down is not taken (R423). -/
def Block.copyDropped (p : Nat) (b : Block) : Block :=
  match b.waitsFor p with
  | some k => if b.dma.link p then b else (b.copyTo p k).channelDone k
  | none => b

/-- STATION_LINK_CHANGE. -/
def Block.stationLinkChange (port : Stn) (up : Bool) (b : Block) : Block :=
  (b.stationLink port (up && b.lineRate (stnNum port) != 0)).copyDropped (stnNum port)

/-! ### Host channels (R427 to R430) -/

/-- The shadow set (R427). -/
def Block.shadow (b : Block) (n : Nat) : ChanSet :=
  { src := b.rd (Reg.DMA_CH_SRC_SRC n), len := b.rd (Reg.DMA_CH_LEN_LEN n)
    swap := b.rd (Reg.DMA_CH_CTRL_SWAP n), prio := b.rd (Reg.DMA_CH_CTRL_PRIO n)
    trig := b.on (Reg.DMA_CH_CTRL_TRIG n), dec := b.rd (Reg.DMA_CH_CTRL_DEC n)
    base := b.rd (Reg.DMA_CH_RING_BASE_BASE n), size := b.rd (Reg.DMA_CH_RING_SIZE_SIZE n) }

/-- Why a LOAD is denied: 0 where it is not (R428). -/
def Block.denyLoad (b : Block) (n : Nat) : Nat :=
  let s := b.shadow n
  if s.src < 0x1000000 ∨ 0x2000000 < s.src + s.len ∨ s.len % 4 ≠ 0 ∨ s.len < 4 ∨ s.dec = 0
      ∨ 0x80000 < s.base + s.size ∨ s.base % 16 ≠ 0 ∨ s.size % 16 ≠ 0 ∨ s.size < 64 ∨ s.size < s.len + 16 then 1
  else if ((List.range 32).drop 16).any (fun m => m ≠ n && (b.chan m).loaded && !b.on (Reg.DMA_CH_STAT_STOPPED m)
      && decide (s.base < (b.chan m).act.base + (b.chan m).act.size ∧ (b.chan m).act.base < s.base + s.size)) then 2
  else 0

/-- The image word at any byte offset: its four bytes, the most significant at the lowest (R5, log entry 146). -/
def Block.imageWordAt (b : Block) (off : Nat) : Nat :=
  let o := off / 4 * 4
  let k := off % 4
  if k = 0 then b.imageWord o
  else b.imageWord o % 2 ^ (32 - 8 * k) * 2 ^ (8 * k) + b.imageWord (o + 4) / 2 ^ (32 - 8 * k)

/-- A transfer begins: its words are those of the bank frozen now. -/
def Block.startTransfer (n : Nat) (b : Block) : Block :=
  let s := (b.chan n).act
  let data := (List.range (s.len / 4)).map fun i => b.imageWordAt (s.src - 0x1000000 + 4 * i)
  (b.updChan n fun c =>
    { c with data := data, stroke := b.rd64 Reg.SYS_STROKE_NUM_LO_NUM Reg.SYS_STROKE_NUM_HI_NUM
             left := cdiv s.len 256, grantAt := b.tb.up }).flag
    (Reg.DMA_CH_STAT_BUSY n) true

/-- A set is loaded: the ring begins at its base (R427, R429).  While the engine is halted a single transfer is skipped
    (R432). -/
def Block.loadSet (n : Nat) (s : ChanSet) (b : Block) : Block :=
  let halted := b.on Reg.DMA_STAT_HALTED
  let b := b.updChan n fun c =>
    { c with act := s, loaded := s.trig || !halted, wait := 0, stopping := false, missed := false, records := 0 }
  let b := (b.flag (Reg.DMA_CH_STAT_SHADOW n) false).flag (Reg.DMA_CH_STAT_STOPPED n) (halted && !s.trig)
  let b := (b.wr (Reg.DMA_CH_WPTR_WPTR n) 0).wr (Reg.DMA_CH_STAT_LAP n) 0
  if s.trig || halted then b else b.startTransfer n

/-- DMA_CH_LOAD.LOAD once it is not denied: loaded at once when the channel is idle, else as soon as its transfer
    ends.  In P3 and P4 the channel is unpowered (R438). -/
def Block.chanLoad (n : Nat) (b : Block) : Block :=
  if 3 ≤ b.rd Reg.SYS_PWR_STAT_STATE then b
  else if b.on (Reg.DMA_CH_STAT_BUSY n) then b.flag (Reg.DMA_CH_STAT_SHADOW n) true
  else b.loadSet n (b.shadow n)

/-- DMA_CH_LOAD.STOP: the current transfer ends first (R429); a load that waits for its end is given up (log entry 147). -/
def Block.chanStop (n : Nat) (b : Block) : Block :=
  let b := b.flag (Reg.DMA_CH_STAT_SHADOW n) false
  if b.on (Reg.DMA_CH_STAT_BUSY n) then b.updChan n fun c => { c with stopping := true }
  else (b.updChan n fun c => { c with loaded := false }).flag (Reg.DMA_CH_STAT_STOPPED n) true

/-- A data word as SWAP has it (R430). -/
def swapWord (m w : Nat) : Nat :=
  let b0 := w % 256
  let b1 := w / 256 % 256
  let b2 := w / 65536 % 256
  let b3 := w / 16777216 % 256
  match m with
  | 0 => w
  | 1 => b2 * 16777216 + b3 * 65536 + b0 * 256 + b1
  | 2 => b1 * 16777216 + b0 * 65536 + b3 * 256 + b2
  | _ => b0 * 16777216 + b1 * 65536 + b2 * 256 + b3

/-- Write words into the ring of channel `n` from WPTR on, and move WPTR; a wrap counts a lap. -/
def Block.ringWrite (n : Nat) (ws : List Nat) (b : Block) : Block :=
  let s := (b.chan n).act
  ws.foldl (fun b w =>
    let p := b.rd (Reg.DMA_CH_WPTR_WPTR n)
    let b := b.wr (Reg.DMA_BUFw_DATA ((s.base + p) / 4)) w
    if s.size ≤ p + 4 then (b.wr (Reg.DMA_CH_WPTR_WPTR n) 0).bump (Reg.DMA_CH_STAT_LAP n)
    else b.wr (Reg.DMA_CH_WPTR_WPTR n) (p + 4)) b

/-- Write one record: its header with the flags BAD 1, TORN 2, and MISSED where a trigger was missed before it;
    then its data (R430). -/
def Block.ringRecord (n flags : Nat) (data : List Nat) (b : Block) : Block :=
  let c := b.chan n
  let w2 := data.length * 4 * 65536 + (flags + (if c.missed then 4 else 0)) * 256
  let b := if c.missed then b.count (Reg.DMA_CH_GAPS_COUNT n) 1 else b
  let b := b.ringWrite n ([c.stroke / 2 ^ 32, c.stroke % 2 ^ 32, w2, c.records % 2 ^ 32] ++ data.map (swapWord c.act.swap))
  b.updChan n fun x => { x with records := x.records + 1, missed := false }

/-- The transfer of channel `n` is over: a load that waits takes the shadow as it is now, unless it has been written since
    with values that R428 denies; a stop takes effect, and a single transfer leaves the channel idle (R427, R429, log entry
    147). -/
def Block.transferEnd (n : Nat) (b : Block) : Block :=
  let b := (b.updChan n fun c => { c with data := [], left := 0 }).flag (Reg.DMA_CH_STAT_BUSY n) false
  let c := b.chan n
  if b.on (Reg.DMA_CH_STAT_SHADOW n) && b.denyLoad n == 0 then b.loadSet n (b.shadow n)
  else
    let b := b.flag (Reg.DMA_CH_STAT_SHADOW n) false
    if c.stopping || !c.act.trig then
      (b.updChan n fun c => { c with loaded := false, stopping := false }).flag (Reg.DMA_CH_STAT_STOPPED n) true
    else b

/-- The transfer of channel `n` is complete: its record is written. -/
def Block.transferDone (n : Nat) (b : Block) : Block :=
  ((b.ringRecord n 0 (b.chan n).data).bump (Reg.DMA_CH_CNT_COUNT n)).transferEnd n

/-! ### Bulk arbitration (R425, R426) -/

/-- The bulk channels that are ready for the bus: firmware channels whose operation has bursts to move, and host channels
    with a transfer running (log entry 138). -/
def Block.bulkReady (b : Block) : List Nat :=
  ((List.range 32).drop 8).filter fun m => if m < 16 then decide (0 < (b.chan m).left) else b.on (Reg.DMA_CH_STAT_BUSY m)

/-- The priority of a bulk channel: fixed for the firmware's, a host channel's its own. -/
def Block.bulkPrio (b : Block) (m : Nat) : Nat :=
  match m with
  | 8 => 3
  | 9 => 1
  | 10 => 0
  | 11 => 2
  | _ => (b.chan m).act.prio

/-- The priority of a channel at a burst boundary: 3 once it has been ready for 1 ms without a grant. -/
def Block.bulkLevel (b : Block) (m : Nat) : Nat :=
  if b.tb.up < (b.chan m).grantAt + msPs then b.bulkPrio m else 3

/-- The ready channel of highest priority; within a level in rotation, from the channel after the one last granted. -/
def Block.bulkNext (b : Block) : Option Nat :=
  let r := b.bulkReady
  let top := (r.map b.bulkLevel).foldl max 0
  let c := r.filter fun m => b.bulkLevel m == top
  (c.find? fun m => decide (SMap.look 31 b.dma.granted top < m)).or c.head?

/-- Channel `m` has the bus for one burst; a host channel's last completes its transfer. -/
def Block.bulkBurst (m : Nat) (b : Block) : Block :=
  let level := b.bulkLevel m
  let b := b.updDma fun d => { d with granted := SMap.store 31 level m d.granted }
  if (b.chan m).left ≤ 1 ∧ 16 ≤ m then b.transferDone m
  else b.updChan m fun c => { c with left := c.left - 1, grantAt := b.tb.up }

/-- Bursts follow each other until channel `n` has had its last, or `k` have run. -/
def Block.bulkRun (n : Nat) : Nat → Block → Block
  | 0, b => b
  | k + 1, b =>
    match b.bulkNext with
    | none => b
    | some m => if m = n ∧ (b.chan m).left ≤ 1 then b.bulkBurst m else Block.bulkRun n k (b.bulkBurst m)

/-- No more bursts than this run before each transfer in progress, and a set that waits for its end, is done. -/
def Block.bulkBursts (b : Block) : Nat := (b.bulkReady.map fun m => (b.chan m).left + 257).sum

/-- Channel `n` has the rest of its bursts, and those the arbiter grants before them are other channels'.  While stroke
    channels are ready no burst is granted (R426), nor while the engine is halted (R432). -/
def Block.bulkShare (n : Nat) (b : Block) : Block :=
  if !b.bulkReady.contains n || !b.busyStreams.isEmpty || b.on Reg.DMA_STAT_HALTED then b else b.bulkRun n b.bulkBursts

/-- HOST_CHANNEL_TRANSFER_DONE: the transfer of channel `n` has had its bursts.  One in progress while stroke channels are
    ready began at their freeze or later, and has had none of its own (R426, R429). -/
def Block.hostChannelDone (n : Nat) (b : Block) : Block := if n < 16 then b else b.bulkShare n

/-- A transfer still running at the freeze is abandoned, and a TORN marker stands in its place (R429). -/
def Block.tear (n : Nat) (b : Block) : Block :=
  if !b.on (Reg.DMA_CH_STAT_BUSY n) then b
  else (((b.flag (Reg.DMA_CH_STAT_TORN n) true).count (Reg.DMA_CH_GAPS_COUNT n) 1).ringRecord n 2 []).transferEnd n

/-- The trigger of a periodic channel at a freeze (R429). -/
def Block.trigger (n : Nat) (b : Block) : Block :=
  let c := b.chan n
  if !c.loaded || !c.act.trig then b
  else if 0 < c.wait then b.updChan n fun c => { c with wait := c.wait - 1 }
  else
    let b := b.updChan n fun c => { c with wait := c.act.dec - 1 }
    if b.on (Reg.DMA_CH_STAT_BUSY n) then
      (b.updChan n fun c => { c with missed := true }).flag (Reg.DMA_CH_STAT_MISSED n) true
    else b.startTransfer n

/-- The host channels at a freeze; none while the engine is halted (R432). -/
def Block.hostFreeze (b : Block) : Block :=
  if b.on Reg.DMA_STAT_HALTED then b
  else b.eachOf ((List.range 32).drop 16) fun n b => (b.tear n).trigger n

/-! ### Bus errors (R431 to R433) -/

/-- The staged record whose words were damaged is not committed, and the next that is carries LOSS (R433). -/
def Block.dropStaged (b : Block) : Block :=
  match b.evt.staged with
  | [] => b
  | [_] =>
    ((b.updEvt fun e => { e with staged := [], loss := true }).count Reg.EVT_LOST_CNT_COUNT 1).flag Reg.EVT_STAT_LOSS true
  | _ :: q :: r =>
    ((b.updEvt fun e => { e with staged := { q with loss := true } :: r }).count Reg.EVT_LOST_CNT_COUNT 1).flag
      Reg.EVT_STAT_LOSS true

/-- The operation of channel 11 ends with TIMEOUT; what an IMAGE_WRITE had staged is discarded (R86, R433). -/
def Block.imageFails (b : Block) : Block :=
  let b := b.fwEnd 11 false
  match b.headWait with
  | some (.program t) =>
    let b := b.updBoot fun x => { x with staged := SMap.erase (imgNum t) x.staged }
    ((b.wr (Reg.NVM_STAGEt_BYTES (imgNum t)) 0).flag (Reg.NVM_STAGEt_VERIFIED (imgNum t)) false).finish stTimeout 0 []
  | some (.activate _) => b.finish stTimeout 0 []
  | some (.verify _) => b.finish stTimeout 0 []
  | _ => b

/-- Every channel stops under ERR_MODE = 0: the transfers in progress, the failing descriptor among them, are dropped, and a
    host channel that is loaded stays so for its next trigger (R432).  The operations of the firmware channels end in
    failure (log entry 123). -/
def Block.dmaHalt (b : Block) : Block :=
  let b := b.flag Reg.DMA_STAT_HALTED true
  let b := b.eachOf b.busyStreams fun k b => b.streamSkip k
  let b := b.eachOf ((List.range 32).drop 16) fun m b =>
    if b.on (Reg.DMA_CH_STAT_BUSY m) then b.transferEnd m else b
  let b := if b.cells.committing then b.ledgerCommitDone false else b
  b.imageFails

/-- A firmware channel retries once; a second failure ends its operation (R433). -/
def Block.retry (n : Nat) (b : Block) : Block :=
  if !b.dma.retried.contains n then b.updDma fun d => { d with retried := n :: d.retried }
  else
    let b := b.updDma fun d => { d with retried := d.retried.filter (· ≠ n) }
    if n = 9 then b.ledgerCommitDone false
    else if n = 11 then b.imageFails
    else b

/-- The failing descriptor under ERR_MODE = 1 is marked bad, and the gap is marked in the channel's output. -/
def Block.dmaSkip (n : Nat) (b : Block) : Block :=
  if 12 ≤ n ∧ n < 16 then b
  else
  let b := b.flag (Reg.DMA_CH_STAT_BAD n) true
  if n < 8 then b.streamSkip n
  else
    let b := b.count (Reg.DMA_CH_GAPS_COUNT n) 1
    if n = 8 then b.dropStaged
    else if n < 16 then b.retry n
    else if b.on (Reg.DMA_CH_STAT_BUSY n) then (b.ringRecord n 1 []).transferEnd n
    else b

/-- A bus error of channel `n`: kind 1 is an SRAM read, which also raises SRAM_UNCORR, and kind 2 a flash read, which is an
    uncorrectable flash error (R340, R431).  `inj`: an injection caused it. -/
def Block.busError (n kind addr : Nat) (inj : Bool) (b : Block) : Block :=
  let b := if kind = 1 then b.raise { source := 3, extra := addr, injected := inj }
    else if kind = 2 then b.raise { source := 6, injected := inj }
    else b
  let b := b.raise { source := 10, unitType := 15, idx := n, injected := inj }
  let b := ((b.wr Reg.DMA_STAT_ERR_CH n).wr Reg.DMA_STAT_ERR_KIND kind).wr Reg.DMA_ERR_ADDR_ADDR addr
  if b.on Reg.DMA_OPT_ERR_MODE then b.dmaSkip n else b.dmaHalt

/-- DMA_BUS_ERROR (R431).  Kind 0 is no error, and channels 12 to 15 move nothing (R422, R439). -/
def Block.dmaBusError (n kind addr : Nat) (b : Block) : Block :=
  if kind = 0 ∨ (12 ≤ n ∧ n < 16) then b else b.busError n kind addr false

/-- The errors that the check of a flash read corrects (R340): `told` by the row, or else whether there is one is a free
    value (log entry 158). -/
def Block.flashCorr (told : Option Nat) (b : Block) : Block :=
  match told with
  | some n => b.each n fun _ b => b.raise { source := 5 }
  | none => if b.free % 2 = 1 then b.drawn.raise { source := 5 } else b.drawn

/-- A flash page is read by the cores, or from the other copy of a duplicated region: an injected check finds an uncorrectable
    error (R18, R355). -/
def Block.flashCheck (told : Option Nat) (b : Block) : Block :=
  if b.injects 4 0 then (b.checked 4 0).raise { source := 6, injected := true } else b.flashCorr told

/-- A flash page is read by channel `n`: an injected check is a bus error of that channel (R355, R431). -/
def Block.flashRead (n : Nat) (told : Option Nat) (b : Block) : Block :=
  if b.injects 4 0 then (b.checked 4 0).busError n 2 0 true else b.flashCorr told

/-- Does a read by firmware channel `n` fail for good?  Under ERR_MODE = 1 it is tried twice (R433). -/
def Block.readFails (b : Block) (n : Nat) : Bool :=
  b.injects 4 0 && !(b.on Reg.DMA_OPT_ERR_MODE && !(b.checked 4 0).injects 4 0 && !b.dma.retried.contains n)

/-- A read by firmware channel `n`, and its retry under ERR_MODE = 1 (R431 to R433). -/
def Block.flashReads (n : Nat) (told : Option Nat) (b : Block) : Block :=
  let first := b.injects 4 0
  let b := b.flashRead n told
  if first && b.on Reg.DMA_OPT_ERR_MODE && b.dma.retried.contains n then b.flashRead n told else b

/-- DMA_CTRL.RESTART: every channel resumes from its next trigger (R432). -/
def Block.dmaRestart (b : Block) : Block := b.flag Reg.DMA_STAT_HALTED false

/-- Entry into P3 or P4, and every system reset: streams closed, host channels stopped (R79, R438). -/
def Block.dmaStop (b : Block) : Block :=
  let b := b.eachOf ((List.range 32).drop 16) fun n b => (b.chanBusy n false).flag (Reg.DMA_CH_STAT_SHADOW n) false
  (b.closeAll).updDma fun d => { d with chans := d.chans.filter fun e => decide (e.1 < 16), emptyA := 0, emptyB := 0 }

/-- The copies that wait on station ports whose links are down are not taken (R335, R423). -/
def Block.copiesSettle (b : Block) : Block := (b.copyDropped 0).copyDropped 1

/-! ### Meanings -/

/-- STROKE_CHANNEL_RUN (R423). -/
def execStrokeChannelRun (k : Fin 8) (s : State) : Host.Outcome State Fault Refusal := s.onBlk (·.strokeChannelRun k)
/-- STREAM_BUFFER_DRAINED (R423). -/
def execStreamBufferDrained (port : Stn) (s : State) : Host.Outcome State Fault Refusal :=
  s.onBlk (·.streamDrained (stnNum port))
/-- STATION_LINK_CHANGE (R423). -/
def execStationLinkChange (port : Stn) (up : Bool) (s : State) : Host.Outcome State Fault Refusal :=
  s.onBlk (·.stationLinkChange port up)
/-- HOST_CHANNEL_TRANSFER_DONE (R430). -/
def execHostChannelTransferDone (ch : Fin 32) (s : State) : Host.Outcome State Fault Refusal :=
  s.onBlk (·.hostChannelDone ch)
/-- CLOCK_MONITOR_FAIL (R333, R335): a port that goes down takes no copy (R423). -/
def execClockMonitorFail (mon : Monitor) (s : State) : Host.Outcome State Fault Refusal :=
  s.onBlk fun b => (b.clockMonitorFail (monNum mon)).copiesSettle
/-- LEDGER_COMMIT_DONE (R230): channel 9 has had its bursts. -/
def execLedgerCommitDone (ok : Bool) (s : State) : Host.Outcome State Fault Refusal :=
  s.onBlk fun b => (b.bulkShare 9).ledgerCommitDone ok
/-- DMA_BUS_ERROR (R431). -/
def execDmaBusError (ch : Fin 32) (kind : BitVec 2) (addr : Word) (s : State) : Host.Outcome State Fault Refusal :=
  s.onBlk (·.dmaBusError ch kind.toNat addr.toNat)

end Sys2Proof.Machine
end

