-- ==== Sys2Proof/Machine/Cast.lean ====
section
/-! DEFINITION. The maquette and its casts (R42 to R52): the validation of a whole maquette, arming,
    re-targeting and discarding, and what a cast changes at the boundary at which it takes effect. -/

namespace Sys2Proof.Machine

/-! ### Validation (R46): the addresses that fail each kind of rule, judged on the pending values -/

/-- Does a value lie outside its field's range? -/
def Lim.bad (l : Lim) (w v : Nat) : Bool :=
  match l with
  | .any => false
  | .within lo hi => decide (v < lo ∨ hi < v)
  | .zeroOr lo hi => decide (v ≠ 0 ∧ (v < lo ∨ hi < v))
  | .signed lo hi => decide (toS w v < lo ∨ hi < toS w v)

/-- The address of a field whose rule fails. -/
def failAt (p : Bool) (f : Field) : List Nat := if p then [f.addr] else []

/-- A selector names a source (R112); 0xF000 only as a reference (R115). -/
def selOk (ref : Bool) (s : Nat) : Bool :=
  let i := s % 4096
  match s / 4096 with
  | 0 => i == 0
  | 1 => decide (i < 1536)
  | 2 => decide (i < 64)
  | 3 => decide (i < 256)
  | 6 => decide (i < 64)
  | 7 => decide (i < 26) && i != 6 && i != 7
  | 15 => ref && i == 0
  | _ => false

/-- A pending field as a signed number. -/
def Block.maqS (b : Block) (f : Field) : Int := toS f.width (b.maq f)

/-- A pending one-bit field. -/
def Block.maqOn (b : Block) (f : Field) : Bool := b.maq f != 0

/-- Pending values outside the ranges their descriptions give; NPOP's has a code of its own (R152). -/
def Block.rangeFails (b : Block) : List Nat :=
  b.cst.maq.filterMap fun e => match fieldOfKey e.1 with
    | some f => if f.key != Reg.SYS_CONV_POP_NPOP.key && f.lim.bad f.width e.2 then some f.addr else none
    | none => none

/-- The set-point of an enabled LV bus context outside 900 V to 1,100 V (R12, R131). -/
def Block.lvBusFails (b : Block) : List Nat :=
  let c := b.maq Reg.ARM_MAP0_LVBUS
  let sel := b.maq (Reg.ARM_CTX_SRC_REF_SRC c)
  let base : Int := b.maq Reg.SYS_CONV_LVB_BASE_V
  let out (f : Field) : List Nat :=
    let v := b.maqS f * base
    failAt (decide (v < 900 * 2 ^ 24 ∨ 1100 * 2 ^ 24 < v)) f
  if !b.maqOn (Reg.ARM_CTX_CFG_ENABLE c) then []
  else if sel = 0xF000 then out (Reg.ARM_CTX_REF_REF c)
  else if sel / 4096 = 6 ∧ sel % 4096 < 64 then out (Reg.ARM_HOSTSIGk_VALUE (sel % 4096))
  else []

/-- Rules of single words (ERR 0x01). -/
def Block.wordFails (b : Block) : List Nat :=
  b.rangeFails
  ++ failAt (!(selOk false (b.maq Reg.SYS_CONV_SRC_FF_SRC) && selOk false (b.maq Reg.SYS_CONV_SRC_Q_SRC)))
      Reg.SYS_CONV_SRC_FF_SRC
  ++ (List.range 256).flatMap (fun c =>
      failAt (!(selOk false (b.maq (Reg.ARM_CTX_SRC_FB_SRC c)) && selOk true (b.maq (Reg.ARM_CTX_SRC_REF_SRC c))))
        (Reg.ARM_CTX_SRC_FB_SRC c)
      ++ failAt (!selOk false (b.maq (Reg.ARM_CTX_SCHED_SCHED_SRC c))) (Reg.ARM_CTX_SCHED_SCHED_SRC c))
  ++ (List.range 24).flatMap (fun l =>
      failAt (b.maqOn (Reg.PWM_LEG_CFG_MODE l) && decide (2 ^ 24 ≤ b.maq (Reg.PWM_LEG_CMP_ON_CMP l)))
        (Reg.PWM_LEG_CMP_ON_CMP l)
      ++ failAt (b.maqOn (Reg.PWM_LEG_CFG_MODE l) && decide (2 ^ 24 ≤ b.maq (Reg.PWM_LEG_CMP_OFF_CMP l)))
        (Reg.PWM_LEG_CMP_OFF_CMP l)
      ++ failAt (b.maqOn (Reg.GATE_LEG_OC_EN l) && b.maq (Reg.GATE_LEG_OC_TH l) == 0) (Reg.GATE_LEG_OC_TH l))
  ++ b.lvBusFails
  ++ (List.range 256).flatMap (fun k =>
      failAt (b.maqOn (Reg.EVT_SRCk_CLASS k) && !evtListed.contains k) (Reg.EVT_SRCk_CLASS k))

/-- A cast would change a field. -/
def Block.changes (b : Block) (f : Field) : Bool := b.maq f != b.rd f

/-- The stroke grid (R29). -/
def gridFields : List Field :=
  [Reg.SYS_STROKE_CFG_UPDATE, Reg.SYS_STROKE_NS_PERIOD, Reg.SYS_STROKE_EPOCH_LO_EPOCH, Reg.SYS_STROKE_EPOCH_HI_EPOCH]

/-- The fields that do not change while the converter is not OFF (R29, R115, R152, R178, R272, R291). -/
def offFields : List Field :=
  gridFields
  ++ [Reg.ARM_MAP0_DAB_BASE, Reg.ARM_MAP0_ARMI_BASE, Reg.ARM_MAP0_ARME_BASE, Reg.ARM_MAP0_LVBUS,
      Reg.ARM_MAP1_PORT_BASE, Reg.ARM_MAP1_INV_BASE, Reg.SYS_CONV_POP_NPOP, Reg.SYS_CONV_MOD_MODE,
      Reg.SYS_CONV_GRID_VA, Reg.SYS_CONV_GRID_VB, Reg.SYS_CONV_GRID_VC, Reg.SYS_CONV_GRID_FNOM,
      Reg.SYS_CONV_LVB_BASE_V, Reg.SYS_PAIR_CFG_EN, Reg.SYS_PAIR_CFG_ROLE, Reg.SYS_CAMPUS_INDEX,
      Reg.SYS_CAMPUS_COUNT, Reg.CHSL_DAB_PERIOD_PERIOD, Reg.CHSL_CFG_DAB_SPREAD]
  ++ (List.range 24).map Reg.PWM_LEG_CFG_SRC
  ++ (List.range 56).flatMap (fun ch => [Reg.GATE_CH_DRIVE_VPOS ch, Reg.GATE_CH_PROT_VNEG ch])
  ++ (List.range 8).flatMap (fun p => [Reg.PORT_SNS_VOUT_AIN p, Reg.PORT_SNS_IA_AIN p, Reg.PORT_SNS_IB_AIN p])

/-- The inputs that overcurrent, port sensing and the grid name, in a bank (R311). -/
def Bank.namedInputs (m : Bank) : List Nat :=
  (List.range 24).map (fun l => m.fld (Reg.GATE_LEG_OC_AIN l))
  ++ (List.range 8).flatMap (fun p => [m.fld (Reg.PORT_SNS_VOUT_AIN p), m.fld (Reg.PORT_SNS_IA_AIN p),
      m.fld (Reg.PORT_SNS_IB_AIN p)])
  ++ [m.fld Reg.SYS_CONV_GRID_VA, m.fld Reg.SYS_CONV_GRID_VB, m.fld Reg.SYS_CONV_GRID_VC]

/-- A leg or a port is enabled in the configuration in force (R29). -/
def Block.stageEnabled (b : Block) : Bool :=
  (List.range 24).any (fun l => b.rd (Reg.PWM_LEG_CFG_SRC l) != 0)
    || (List.range 8).any fun p => b.on (Reg.PORT_CFG_RUN p)

/-- Changes not allowed in the present state (ERR 0x03). -/
def Block.stateFails (b : Block) : List Nat :=
  let off := b.rd Reg.SYS_CONV_STAT_STATE == 0
  let kept := if !off then offFields else if b.stageEnabled then gridFields else []
  (kept.flatMap fun f => failAt (b.changes f) f)
  ++ (if off then [] else (b.regs.namedInputs ++ b.cst.maq.namedInputs).flatMap fun i =>
      failAt (b.changes (Reg.ADC_IN_CFGi_RANGE i)) (Reg.ADC_IN_CFGi_RANGE i))
  ++ (List.range 12).flatMap fun g =>
      if b.bit Reg.PWM_DIAG_STAT_BUSY g then
        (groupNodes g).flatMap fun n => failAt (b.changes (Reg.PWM_DIAG_NODEn_AIN n)) (Reg.PWM_DIAG_NODEn_AIN n)
      else []

/-- Role ranges (first context, how many, address) that overlap or pass 255 (R115). -/
def roleFails : List (Nat × Nat × Nat) → List Nat
  | [] => []
  | (x, n, a) :: r =>
    (if 256 < x + n then [a] else [])
    ++ (r.filterMap fun y => if x < y.1 + y.2.1 ∧ y.1 < x + n then some (min a y.2.2) else none)
    ++ roleFails r

/-- The rules of context `c` across its words (R115). -/
def Block.ctxFails (b : Block) (c : Nat) : List Nat :=
  let n := b.maq (Reg.ARM_CTX_CFG_NREG_M1 c)
  let npop := b.maq Reg.SYS_CONV_POP_NPOP
  let absent (f : Field) : Bool :=
    let s := b.maq f
    b.maqOn (Reg.ARM_CTX_CFG_ENABLE c) && s / 4096 == 1 && decide (npop ≤ s % 4096 / 8 % 64)
  failAt (decide (b.maqS (Reg.ARM_CTX_UMAX_UMAX c) < b.maqS (Reg.ARM_CTX_UMIN_UMIN c))) (Reg.ARM_CTX_UMIN_UMIN c)
  ++ ((List.range (n + 1)).drop 2).flatMap (fun k =>
      failAt (decide (b.maqS (Reg.ARM_CTX_THRk_THR c k) ≤ b.maqS (Reg.ARM_CTX_THRk_THR c (k - 1))))
        (Reg.ARM_CTX_THRk_THR c k))
  ++ failAt (b.maqOn (Reg.ARM_CTX_CFG_FORCE_EN c) && decide (n < b.maq (Reg.ARM_CTX_CFG_FORCE_REG c)))
      (Reg.ARM_CTX_CFG_FORCE_EN c)
  ++ failAt (absent (Reg.ARM_CTX_SRC_FB_SRC c) || absent (Reg.ARM_CTX_SRC_REF_SRC c)) (Reg.ARM_CTX_SRC_FB_SRC c)
  ++ failAt (absent (Reg.ARM_CTX_SCHED_SCHED_SRC c)) (Reg.ARM_CTX_SCHED_SCHED_SRC c)

/-- The transmitter of a lane, and what an ACTIVE lane's cell head allows (R208).  A lane is populated by the configuration
    that the cast would place in force (log entry 153). -/
def Block.laneFails (b : Block) (l : Nat) : List Nat :=
  let per := b.maq Reg.CHSL_DAB_PERIOD_PERIOD
  let live := decide (l % 64 < b.maq Reg.SYS_CONV_POP_NPOP) && b.rd (Reg.LINK_STAT_STATE l) == 4
  failAt (decide (63 < b.maq (Reg.LINK_TX_EQ_PRE l) + b.maq (Reg.LINK_TX_EQ_MAIN l) + b.maq (Reg.LINK_TX_EQ_POST l)))
    (Reg.LINK_TX_EQ_PRE l)
  ++ failAt (live && !decide (b.rd (Reg.LINK_CAP_DAB_DAB_MIN l) * 1280 ≤ per
      ∧ per ≤ b.rd (Reg.LINK_CAP_DAB_DAB_MAX l) * 1280)) Reg.CHSL_DAB_PERIOD_PERIOD
  ++ failAt (live && b.maqOn Reg.SYS_STROKE_CFG_UPDATE && !(b.rd (Reg.LINK_CAP_FLAGS_FLAGS l)).testBit 1)
      Reg.SYS_STROKE_CFG_UPDATE

/-- May leg `l` take a source (R238)? -/
def srcAllowed (l src : Nat) : Bool :=
  match src with
  | 0 => true
  | 1 => decide (16 ≤ l ∧ l ≤ 19)
  | 2 => l != 20
  | 3 => decide (l < 16)
  | 4 => l == 20
  | _ => false

/-- The rules of a port across its words (R291). -/
def Block.portFails (b : Block) (p : Nat) : List Nat :=
  let legs := [2 * p, 2 * p + 1]
  let fb := (List.range 8).any fun k => b.maq (Reg.PORT_FB_VSELk_V p k) != 0
  failAt ((b.maqOn (Reg.PORT_CFG_RUN p) || (b.maqOn (Reg.PORT_CFG_FB_START p) && fb))
      && legs.any fun l => b.maq (Reg.PWM_LEG_CFG_SRC l) != 3) (Reg.PORT_CFG_RUN p)
  ++ failAt (legs.any fun l => b.maqOn (Reg.GATE_LEG_OC_EN l)
      && decide (b.maq (Reg.GATE_LEG_OC_TH l) ≤ b.maq (Reg.PORT_ILIM_FAST p))) (Reg.PORT_ILIM_FAST p)
  ++ failAt (decide (b.maq (Reg.PORT_TSW_TSW p) * 5 ≤ b.maq (Reg.PORT_TLIM_TOFF_MIN p) * 64))
      (Reg.PORT_TLIM_TOFF_MIN p)

/-- Pending sequencer `k` is enabled and converts input `i`. -/
def Block.maqConverts (b : Block) (i k : Nat) : Bool :=
  b.maqOn (Reg.ADC_SEQ_CFGk_EN k)
    && (List.range (b.maq (Reg.ADC_SEQ_CFGk_LEN k))).any fun j => b.maq (Reg.ADC_SEQk_Ej_AIN k j) == i

/-- Entries whose input an enabled sequencer of lower number converts too, unless all that do have SYNC (R311). -/
def Block.sequencerFails (b : Block) (k : Nat) : List Nat :=
  if !b.maqOn (Reg.ADC_SEQ_CFGk_EN k) then []
  else (List.range (b.maq (Reg.ADC_SEQ_CFGk_LEN k))).flatMap fun j =>
    let i := b.maq (Reg.ADC_SEQk_Ej_AIN k j)
    failAt ((List.range k).any (b.maqConverts i)
      && (List.range 8).any fun m => b.maqConverts i m && !b.maqOn (Reg.ADC_SEQ_CFGk_SYNC m)) (Reg.ADC_SEQk_Ej_AIN k j)

/-- Leg records of the ledger: one input each (R236). -/
def Block.legInputFails (b : Block) : List Nat :=
  let use := (List.range 24).filterMap fun l =>
    if b.maqOn (Reg.CELL_LEG_SRCk_EN (l / 4) (l % 4)) then some (l, b.maq (Reg.CELL_LEG_SRCk_AIN (l / 4) (l % 4))) else none
  use.flatMap fun e => failAt (use.any fun d => decide (d.1 < e.1) && d.2 == e.2) (Reg.CELL_LEG_SRCk_AIN (e.1 / 4) 0)

/-- The sources whose unit can be fenced by class DEGRADE (R342, R347); E101 takes its class from its own
    registers. -/
def degradable : List Nat :=
  [96, 97, 98, 99, 100, 101, 102, 103, 105, 128, 129, 160, 161, 163, 164, 165, 166, 167, 168, 192, 193, 194, 195, 196]

/-- Rules across words (ERR 0x04). -/
def Block.crossFails (b : Block) : List Nat :=
  let lv := b.maq (Reg.ARM_CTX_SRC_REF_SRC (b.maq Reg.ARM_MAP0_LVBUS))
  let nact := b.maq Reg.SYS_CONV_POP_NACT
  let m0 := Reg.ARM_MAP0_LVBUS.addr
  let m1 := Reg.ARM_MAP1_PORT_BASE.addr
  failAt (decide (nact < b.maq Reg.SYS_CONV_POP_NMIN ∨ b.maq Reg.SYS_CONV_POP_NPOP < nact)) Reg.SYS_CONV_POP_NPOP
  ++ failAt (decide (b.maq Reg.SYS_CAMPUS_COUNT ≤ b.maq Reg.SYS_CAMPUS_INDEX)) Reg.SYS_CAMPUS_INDEX
  ++ failAt (b.maqOn Reg.SYS_PAIR_CFG_EN && decide (b.maq Reg.LINK_GCFG_TIMEOUT_N ≤ b.maq Reg.SYS_PAIR_CFG_LOSS))
      Reg.SYS_PAIR_CFG_EN
  ++ roleFails [(b.maq Reg.ARM_MAP0_DAB_BASE, 192, m0), (b.maq Reg.ARM_MAP0_ARMI_BASE, 3, m0),
      (b.maq Reg.ARM_MAP0_ARME_BASE, 3, m0), (b.maq Reg.ARM_MAP0_LVBUS, 1, m0),
      (b.maq Reg.ARM_MAP1_PORT_BASE, 8, m1), (b.maq Reg.ARM_MAP1_INV_BASE, 4, m1)]
  ++ failAt (!(lv == 0xF000 || lv / 4096 == 6)) (Reg.ARM_CTX_SRC_REF_SRC (b.maq Reg.ARM_MAP0_LVBUS))
  ++ (List.range 256).flatMap b.ctxFails
  ++ (List.range 192).flatMap b.laneFails
  ++ b.legInputFails
  ++ (List.range 24).flatMap (fun l =>
      failAt (!srcAllowed l (b.maq (Reg.PWM_LEG_CFG_SRC l))) (Reg.PWM_LEG_CFG_SRC l)
      ++ failAt (decide (b.maq (Reg.PWM_LEG_PERIOD_PERIOD l) ≤ b.maq (Reg.PWM_LEG_OFFS_OFFS l))) (Reg.PWM_LEG_OFFS_OFFS l))
  ++ (List.range 56).flatMap (fun ch =>
      failAt (decide (b.maq (Reg.GATE_CH_DRIVE_IOFF ch) < b.maq (Reg.GATE_CH_DRIVE_ISOFT ch))) (Reg.GATE_CH_DRIVE_ISOFT ch))
  ++ (List.range 8).flatMap b.portFails
  ++ (List.range 8).flatMap b.sequencerFails
  ++ failAt (b.maqOn (Reg.TIME_DOM_CFG_EN 0) && b.maqOn (Reg.TIME_DOM_CFG_EN 1)
      && b.maq (Reg.TIME_DOM_CFG_DOMAIN 0) == b.maq (Reg.TIME_DOM_CFG_DOMAIN 1)
      && b.maq (Reg.TIME_DOM_CFG_PORT 0) == b.maq (Reg.TIME_DOM_CFG_PORT 1)) (Reg.TIME_DOM_CFG_EN 0)
  ++ failAt (b.maqOn Reg.TIME_SERVO_MODE && !b.maqOn (Reg.TIME_DOM_CFG_EN (b.maq Reg.TIME_SERVO_SEL))) Reg.TIME_SERVO_MODE
  ++ (List.range 256).flatMap (fun k =>
      let c := b.maq (Reg.EVT_SRCk_CLASS k)
      failAt (evtListed.contains k && ((evtFixed k && c != evtDefaultClass k) || (c == 1 && !degradable.contains k)))
        (Reg.EVT_SRCk_CLASS k))

/-- The failing rule and the first failing address; none where the maquette is good (R46). -/
def Block.validate (b : Block) : Option (Nat × Nat) :=
  let npop := failAt (Reg.SYS_CONV_POP_NPOP.lim.bad 7 (b.maq Reg.SYS_CONV_POP_NPOP)) Reg.SYS_CONV_POP_NPOP
  [(1, b.wordFails), (2, npop), (3, b.stateFails), (4, b.crossFails)].findSome? fun r =>
    match r.2 with
    | [] => none
    | a :: l => some (r.1, l.foldl min a)

/-! ### Arming (R45 to R49) -/

/-- The first boundary at or after `t` that a cast may take: carrier boundaries alone in double update (R47). -/
def Block.castBoundary (b : Block) (t : Int) : Int :=
  let e : Int := b.epoch
  let p : Int := b.rd Reg.SYS_STROKE_NS_PERIOD
  let k := -((-(t - e)) / p)
  let k := if b.on Reg.SYS_STROKE_CFG_UPDATE && k % 2 == 1 then k + 1 else k
  e + k * p

/-- The result of the last validation. -/
def Block.castErr (err addr : Nat) (b : Block) : Block :=
  (b.wr Reg.SYS_CAST_STAT_ERR err).wr Reg.SYS_CAST_ERR_ADDR_ADDR addr

/-- CAST_AT's target lies more than 3,600 s ahead, or before the epoch (R49). -/
def Block.tooFar (b : Block) (t : Nat) : Bool := decide (b.ns + 3600000000000 < t ∨ t < b.epoch)

/-- The armed cast has boundary `t`. -/
def Block.armAt (t : Nat) (timed : Bool) (b : Block) : Block :=
  let b := b.updCst fun c => { c with armed := some { b := t, timed := timed, at_ := b.ns, deferred := false } }
  let b := (b.wr Reg.SYS_CAST_STAT_STATE (if timed then 4 else 3)).flag Reg.SYS_MAQ_STAT_LOCKED true
  b.wr64 Reg.SYS_CAST_TARGET_LO_BOUNDARY Reg.SYS_CAST_TARGET_HI_BOUNDARY t

/-- CAST at its turn (R46 to R48). -/
def Block.castCommand (b : Block) : Block × Ans :=
  if b.cst.armed.isSome then (b, .done stLocked 0 [])
  else match b.validate with
  | some (err, addr) => (b.castErr err addr, denied err)
  | none => ((b.castErr 0 0).armAt (b.castBoundary (b.ns + 1000)).toNat false, .wait .cast)

/-- A CAST_AT while a cast requested by CAST_AT is armed (R45). -/
def Block.retarget (t : Nat) (a : Armed) (b : Block) : Block × Ans :=
  let c := b.castBoundary t
  if b.tooFar t then (b.castErr 6 0, denied 6)
  else if a.b < b.ns + 1000 then (b, .done stLocked 0 [])
  else if c < b.ns + 1000 then (b.castErr 5 0, .done stStale 2 [])
  else ((b.updCst fun x => { x with armed := some { a with b := c.toNat } }).wr64 Reg.SYS_CAST_TARGET_LO_BOUNDARY
    Reg.SYS_CAST_TARGET_HI_BOUNDARY c.toNat, ok (be 8 c.toNat))

/-- CAST_AT at its turn (R45 to R49). -/
def Block.castAtCommand (t : Nat) (b : Block) : Block × Ans :=
  match b.cst.armed with
  | some a => if a.timed then b.retarget t a else (b, .done stLocked 0 [])
  | none =>
    match b.validate with
    | some (err, addr) => (b.castErr err addr, denied err)
    | none =>
      let c := b.castBoundary t
      if b.tooFar t then (b.castErr 6 0, denied 6)
      else if c < b.ns + 1000 then (b.castErr 5 0, .done stStale 2 [])
      else ((b.castErr 0 0).armAt c.toNat true, ok (be 8 c.toNat))

/-! ### Discarding (R44, R45) -/

/-- The CR fields of a bank. -/
def Bank.crOnly (m : Bank) : Bank :=
  m.filter fun e => match fieldOfKey e.1 with
    | some f => f.isCr
    | none => false

/-- The maquette equals the configuration in force. -/
def Block.maqReset (b : Block) : Block :=
  (b.updCst fun c => { c with maq := b.regs.crOnly, dirty := [] }).wr Reg.SYS_MAQ_STAT_DIRTY_WORDS 0

/-- MAQUETTE_DISCARD at its turn.  It reports the words dropped, and whether it disarmed a cast, at its acceptance or
    now.  While a cast it may not disarm is armed it waits, as if it had not come to its turn. -/
def Block.discardCommand (b : Block) : Block × Ans :=
  let early := match b.jv.queue with
    | q :: _ => q.disarmed
    | [] => false
  let now := b.mayDisarm
  let b := if now then b.disarm else b
  if b.cst.armed.isSome then (b, .wait .turn)
  else (b.maqReset, ok (be 4 b.cst.dirty.length ++ be 1 (if early || now then 1 else 0) ++ zeros 3))

/-! ### Taking effect (R47, R48, R50, R52, R74) -/

/-- Boundary `t` lies 100 ms or more after the cast was armed: the first such boundary takes a cast that a CAST requested,
    or disarms it (R74). -/
def Armed.overdue (a : Armed) (t : Nat) : Bool := decide (a.at_ + 100000000 ≤ t)

/-- A boundary judges the armed cast: it takes effect at the first boundary at or after its own, in a timed
    stroke, at a carrier boundary in double update; one that a CAST requested takes effect at the first boundary 100 ms
    after it was armed where that is timed, whichever half of the carrier it begins (R74). -/
def Block.castTakes (b : Block) : Bool :=
  match b.cst.armed with
  | none => false
  | some a => !b.strk.untimed
      && ((decide (a.b ≤ b.strk.b) && (!b.on Reg.SYS_STROKE_CFG_UPDATE
            || ((b.strk.b : Int) - (b.epoch : Int)) / (b.rd Reg.SYS_STROKE_NS_PERIOD : Int) % 2 == 0))
          || (b.castHeld && a.overdue b.strk.b))

/-- The two banks exchange their roles. -/
def Block.exchange (b : Block) : Block :=
  let old := b.regs.crOnly
  let rest := b.regs.filter fun e => !(old.any fun d => d.1 == e.1)
  { b with regs := b.cst.maq.foldl (fun m e => SMap.insert e.1 e.2 m) rest
           cst := { b.cst with maq := old } }

/-- A value that the capability exchange checks (R187). -/
def exchangeFields : List Field :=
  [Reg.CHSL_MINP_FLOOR_FLOOR, Reg.CHSL_DAB_PERIOD_PERIOD, Reg.SYS_STROKE_CFG_UPDATE, Reg.SYS_PAIR_CFG_EN,
   Reg.SYS_PAIR_CFG_ROLE]

/-- The campus phase (R142). -/
def Block.campusPhase (b : Block) : Block :=
  b.wrS Reg.SYS_CAMPUS_PHASE_PHASE (rdiv (b.rd Reg.SYS_CAMPUS_INDEX * 2 ^ 32 : Nat)
    (b.rd Reg.SYS_CAMPUS_COUNT * b.rd Reg.SYS_CONV_POP_NACT : Nat))

/-- What follows from a new configuration in force: cells, lanes, gate channels, PTP, the
    servo and fallback. -/
def Block.configTaken (retrain : Bool) (b : Block) : Block :=
  let b := (b.populate false).campusPhase
  let b := if retrain then b.retrainRejected else b
  (((b.powerChannels).timeCast).fallbackAgain).tripsJudge

/-- The cast takes effect at the boundary that has begun stroke `num` (R48, R50). -/
def Block.castEffect (b : Block) : Block :=
  let retrain := exchangeFields.any b.changes
  let words := b.cst.dirty
  let held := b.castHeld
  let b := ((b.keepFormer).exchange).updCst fun c =>
    { c with armed := none, lastB := b.strk.b, resync := some (b.strk.b + 670), resyncWords := words, dirty := [] }
  let b := (b.updStrk fun s => { s with castHere := true }).wr Reg.SYS_CAST_STAT_STATE 1
  let b := ((b.wr64 Reg.SYS_CAST_TARGET_LO_BOUNDARY Reg.SYS_CAST_TARGET_HI_BOUNDARY 0).wr64 Reg.SYS_CAST_LAST_LO_STROKE
    Reg.SYS_CAST_LAST_HI_STROKE b.strk.num).bump Reg.SYS_CAST_COUNT_COUNT
  let b := (b.wr Reg.SYS_MAQ_STAT_DIRTY_WORDS 0).flag Reg.SYS_MAQ_STAT_LOCKED false
  let b := b.configTaken retrain
  if held then b.finish stOk 0 (be 8 b.strk.num ++ be 8 b.strk.b) else b

/-- A CAST still pending at an untimed boundary 100 ms after it was armed is disarmed, and ends with TIMEOUT; its
    contents stay pending (R74). -/
def Block.castTimeout (b : Block) : Block :=
  let b := b.updCst fun c => { c with armed := none }
  let b := ((b.wr Reg.SYS_CAST_STAT_STATE 0).wr64 Reg.SYS_CAST_TARGET_LO_BOUNDARY Reg.SYS_CAST_TARGET_HI_BOUNDARY
    0).flag Reg.SYS_MAQ_STAT_LOCKED false
  (b.wr Reg.SYS_CAST_STAT_ERR 7).finish stTimeout 0 []

/-- The armed cast at a boundary. -/
def Block.castAtBoundary (b : Block) : Block :=
  match b.cst.armed with
  | none => b
  | some a =>
    if b.castTakes then b.castEffect
    else if !b.strk.untimed || decide (b.strk.b < a.b) then b
    else
      let b := if a.deferred then b
        else (b.updCst fun c => { c with armed := some { a with deferred := true } }).raise { source := 1 }
      if b.castHeld && a.overdue b.strk.b then b.castTimeout else b

/-- MAQUETTE_RESYNC_END (R50): the dirty words have been copied, no earlier than 670 ns into the first stroke under the
    cast. -/
def Block.resyncEnd (b : Block) : Block :=
  match b.cst.resync with
  | none => b
  | some t =>
    if b.strk.phase = .begun ∧ b.strk.castHere then b
    else
      let b := b.until t
      let words := b.cst.resyncWords
      let fs := words.flatMap fun a => ((fieldsAt a).getD []).filter Field.isCr
      let maq := fs.foldl (fun m f => Bank.setFld f (b.rd f) m) b.cst.maq
      (b.updCst fun c => { c with maq := maq, resync := none, resyncWords := [] }).wr Reg.SYS_CAST_STAT_STATE 0

/-! ### Meanings -/

/-- CAST (R46 to R48, R74). -/
def execCast (rq : Req) (s : State) : Host.Outcome State Fault Refusal :=
  s.onBlk (·.serve rq 0x20 true true (·.castCommand))
/-- CAST_AT (R45 to R49). -/
def execCastAt (rq : Req) (t : BitVec 64) (s : State) : Host.Outcome State Fault Refusal :=
  s.onBlk (·.serve rq 0x21 true true (·.castAtCommand t.toNat))
/-- MAQUETTE_DISCARD (R44, R45). -/
def execMaquetteDiscard (rq : Req) (s : State) : Host.Outcome State Fault Refusal :=
  s.onBlk (·.serve rq 0x22 true true (·.discardCommand))
/-- MAQUETTE_RESYNC_END (R50). -/
def execMaquetteResyncEnd (s : State) : Host.Outcome State Fault Refusal := s.onBlk (·.resyncEnd)

end Sys2Proof.Machine
end

