-- ==== Sys2Proof/Machine/Access.lean ====
section
/-! DEFINITION. Reading and writing registers (R6 to R8, R38 to R42, R70 to R72, R442, R443), and the commands that
    are a read or a write of one register. -/

namespace Sys2Proof.Machine

/-! ### Addresses (R6, R42, R442) -/

/-- An address in the maquette alias. -/
def aliasAt (a : Nat) : Bool := decide (0x2000000 ≤ a ∧ a < 0x3000000)

/-- An address in the state image window. -/
def windowAt (a : Nat) : Bool := decide (0x1000000 ≤ a ∧ a < 0x2000000)

/-- The fields of the register at its own address. -/
def ownFields (a : Nat) : Option (List Field) := if a % 4 = 0 then fieldsAt a else none

/-- The fields of the register that a write to an address acts on, none where it is not a register one may write:
    at the alias a register with a CR field. -/
def writeFields (a : Nat) : Option (List Field) :=
  if windowAt a then none
  else if aliasAt a then
    match ownFields (a - 0x2000000) with
    | some fs => if fs.any Field.isCr then some (fs.filter Field.isCr) else none
    | none => none
  else ownFields a

/-- A write to the address writes the maquette. -/
def writesMaq (a : Nat) : Bool :=
  match writeFields a with
  | some fs => fs.any Field.isCr
  | none => false

/-! ### Reading -/

/-- Clear the RC fields of a register (R8). -/
def Block.clearRc (fs : List Field) (b : Block) : Block :=
  b.eachOf fs fun f b => if f.acc = .rc then b.wr f 0 else b

/-- The value read at an address, and the state after the read; none where R6 refuses it. -/
def Block.readOne (a : Nat) (b : Block) : Option (Nat × Block) :=
  if a % 4 ≠ 0 then none
  else if windowAt a then (b.windowWord (a - 0x1000000)).map fun w => (w, b)
  else if aliasAt a then (b.aliasWord (a - 0x2000000)).map fun w => (w, b)
  else
    match fieldsAt a with
    | some fs =>
      let b := b.refresh a
      some (b.ownWord a fs, b.clearRc fs)
    | none => none

/-- Read registers at ascending addresses. -/
def Block.readAll : List Nat → Block → Option (List Nat × Block)
  | [], b => some ([], b)
  | a :: r, b =>
    match b.readOne a with
    | none => none
    | some (w, b) => (b.readAll r).map fun (ws, b) => (w :: ws, b)

/-- The stroke number of the frozen bank (R71). -/
def Block.frozenNum (b : Block) : Nat := b.rd64 Reg.SYS_STROKE_NUM_LO_NUM Reg.SYS_STROKE_NUM_HI_NUM

/-- A read of the address is served from the frozen bank (R38, R41). -/
def Block.servedAt (b : Block) (a : Nat) : Bool :=
  windowAt a || (!aliasAt a && imageServed a ((fieldsAt a).getD []) && !b.thermLive a)

/-- The stroke field of a read reply: the frozen bank's number where a word came from it, else the stroke count (R28, R71). -/
def Block.readNum (b : Block) (addrs : List Nat) : Nat := if addrs.any b.servedAt then b.frozenNum else b.strk.num

/-! ### Writes that a rule forbids (R72) -/

/-- Why a write to LINK_TEST_CTRL of lane `l` is denied (R204, R392). -/
def Block.denyTest (b : Block) (l v : Nat) : Nat :=
  let st := b.rd (Reg.LINK_STAT_STATE l)
  let pw := b.rd Reg.SYS_PWR_STAT_STATE
  if !v.testBit 16 then 0
  else if pw = 2 ∨ pw = 3 then 5
  else if st = 5 then 2
  else if !b.populated l ∨ b.svc l = 1 ∨ st = 6 then 0
  else 1

/-- Why a write to PWM_DIAG_CTRL is denied (R263). -/
def Block.denyDiag (b : Block) (v : Nat) : Nat :=
  if b.rd Reg.SYS_CONV_STAT_STATE = 0 then 0
  else if (List.range 12).any fun g => v.testBit g && !(groupLegs g).any fun l => b.on (Reg.PWM_LEG_STAT_FENCED l) then 1
  else 0

/-- Why a write of `v` at address `a` is denied: the detail code, 0 where it is not (R72).  The rules that forbid a write:
    R204, R252, R263, R287, R301, R313 to R315, R392, R428. -/
def Block.denyWrite (a v : Nat) (b : Block) : Nat :=
  let off := b.rd Reg.SYS_CONV_STAT_STATE == 0
  if a = 0x30010 ∨ a = 0x30018 then (if b.servoOwns then 3 else 0)
  else if a = 0x30014 then b.denyInc v
  else if a = 0x3001C then b.denyAdj v
  else if a = 0x30028 then b.denyCtrl (v.testBit 0) (v.testBit 1)
  else if a = 0x400B00 then b.denyDiag v
  else if a = 0x420808 then (if v.testBit 0 && b.on Reg.PORT_FB_STAT_PIN then 1 else 0)
  else if a = 0x500000 then (if !off && (v.testBit 0 || v.testBit 1 || v / 256 % 256 != 0) then 1 else 0)
  else if 0x1000A0 ≤ a ∧ a < 0x130000 ∧ (a - 0x1000A0) % 0x400 = 0 then b.denyTest ((a - 0x1000A0) / 0x400) v
  else if 0x400020 ≤ a ∧ a < 0x400600 ∧ (a - 0x400020) % 0x40 = 0 then
    (if !v.testBit 0 then 0 else if !off then 1 else if !b.holds then 2 else 0)
  else if 0x600400 ≤ a ∧ a < 0x600800 ∧ a % 0x40 = 0x14 then
    (if v.testBit 0 then b.denyLoad ((a - 0x600000) / 0x40) else 0)
  else 0

/-! ### Writing (R8, R42, R43) -/

/-- A word of the maquette has been written. -/
def Block.dirty (a : Nat) (b : Block) : Block :=
  let l := SMap.insert a () (SMap.erase a (b.cst.dirty.map fun x => (x, ())))
  let b := b.updCst fun c => { c with dirty := l.map (·.1) }
  b.wr Reg.SYS_MAQ_STAT_DIRTY_WORDS b.cst.dirty.length

/-- Write the CR fields of a word into the maquette. -/
def Block.writeMaq (fs : List Field) (v : Nat) (b : Block) : Block :=
  match fs.filter Field.isCr with
  | [] => b
  | f :: r =>
    let maq := (f :: r).foldl (fun m f => Bank.setFld f (v / 2 ^ f.lo) m) b.cst.maq
    (b.updCst fun c => { c with maq := maq }).dirty f.addr

/-- Write the RW and W1C fields of a word. -/
def Block.writeLive (fs : List Field) (v : Nat) (b : Block) : Block :=
  b.eachOf fs fun f b => match f.acc with
    | .rw => b.wr f (v / 2 ^ f.lo)
    | .w1c => b.wr f (b.rd f - (b.rd f &&& (v / 2 ^ f.lo)))
    | _ => b

/-- LINK_TEST_CTRL: a start, or the end of a test without end (R204).  It acts at the moment of the write, as R16 says of this
    register.  A LEN that R203 does not allow lasts 2^LEN bits, and PATTERN 0b11 is sent as it is written (log entry 152). -/
def Block.testControl (l v : Nat) (b : Block) : Block :=
  let b := if v.testBit 16 then
      let b := b.testStart l (b.rd (Reg.LINK_TEST_CTRL_PATTERN l)) (b.rd (Reg.LINK_TEST_CTRL_LEN l))
      (b.updLane l fun x => { x with hostTest := true }).powerEngines
    else b
  let x := b.lane l
  if v.testBit 17 && b.rd (Reg.LINK_STAT_STATE l) == 5 && !x.dark && x.lenExp == 0 then b.testStop l else b

/-- Release of the token on the host's request, to a partner that is READY (R150). -/
def Block.handover (b : Block) : Block :=
  if b.on Reg.SYS_PAIR_CFG_EN && b.on Reg.SYS_PAIR_STAT_TOKEN && b.on Reg.SYS_PAIR_STAT_PEER_READY then
    b.updPair fun p => { p with release := true }
  else b

/-- PORT_FB_CTRL.RESUME: fallback ends its host-loss condition; it affects no stroke earlier than the next (R40,
    R287). -/
def Block.fallbackResume (b : Block) : Block := b.updLv fun v => { v with fbResume := true }

/-- ADC_CTRL: rotation resumes when ROT_HOLD returns to 0, and the spare idles while it is 1 (R296). -/
def Block.adcControl (held : Bool) (b : Block) : Block :=
  if held && !b.on Reg.ADC_CTRL_ROT_HOLD then b.rotResume
  else if !held && b.on Reg.ADC_CTRL_ROT_HOLD then b.rotHolds
  else b

/-- What a write sets going, its fields already written; `held`: ADC_CTRL.ROT_HOLD was 1. -/
def Block.writeAct (a v : Nat) (held : Bool) (b : Block) : Block :=
  if a = 0x48C then (if v.testBit 0 then b.handover else b)
  else if a = 0x30014 then b.setInc v
  else if a = 0x3001C then b.setAdj v
  else if a = 0x30028 then b.setCtrl (v.testBit 0) (v.testBit 1)
  else if 0x30400 ≤ a ∧ a < 0x30600 ∧ a % 0x20 = 0x10 then
    (if v.testBit 0 then b.stampPop ((a - 0x30400) / 0x20) else b)
  else if 0x1000A0 ≤ a ∧ a < 0x130000 ∧ (a - 0x1000A0) % 0x400 = 0 then b.testControl ((a - 0x1000A0) / 0x400) v
  else if a = 0x34301C then (if v.testBit 0 then b.ledgerBegin else b)
  else if 0x400020 ≤ a ∧ a < 0x400600 ∧ (a - 0x400020) % 0x40 = 0 then b.forceLeg ((a - 0x400020) / 0x40)
  else if a = 0x400B00 then
    b.eachOf ((List.range 12).filter v.testBit) fun g b => b.startDiag g
  else if a = 0x420808 then (if v.testBit 0 then b.fallbackResume else b)
  else if a = 0x500000 then b.adcControl held
  else if a = 0x500008 ∨ a = 0x50000C then b.scanMaskWrite
  else if 0x600400 ≤ a ∧ a < 0x600800 ∧ a % 0x40 = 0x14 then
    let n := (a - 0x600000) / 0x40
    let b := if v.testBit 0 then b.chanLoad n else b
    if v.testBit 1 then b.chanStop n else b
  else if a = 0x600808 then (if v.testBit 0 then b.dmaRestart else b)
  else b

/-- The registers of channels 0 to 15 are the module's own: a write to them is ignored (R427, log entry 82). -/
def moduleChannel (a : Nat) : Bool := decide (0x600000 ≤ a ∧ a < 0x600400)

/-- One word is written. -/
def Block.writeOne (a v : Nat) (fs : List Field) (b : Block) : Block :=
  if moduleChannel a then b
  else
    let held := b.on Reg.ADC_CTRL_ROT_HOLD
    (((b.writeMaq fs v).writeLive fs v).writeAct a v held)

/-- Write words at ascending addresses; the detail code of the first write that is denied ends it. -/
def Block.writeAll : List (Nat × Nat) → Block → Nat × Block
  | [], b => (0, b)
  | (a, v) :: r, b =>
    let d := b.denyWrite a v
    if d ≠ 0 then (d, b) else (b.writeOne a v ((writeFields a).getD [])).writeAll r

/-! ### The commands (R69 to R72) -/

/-- Write words, all or none (R72). -/
def Block.writeCommand (ws : List (Nat × Nat)) (reply : List Byte) (b : Block) : Block × Ans :=
  if ws.any fun w => (writeFields w.1).isNone then (b, badAddress)
  else if b.cst.armed.isSome && ws.any fun w => writesMaq w.1 then (b, .done stLocked 0 [])
  else match b.writeAll ws with
    | (0, b) => (b, ok reply)
    | (d, _) => (b, denied d)

/-- The addresses of a block. -/
def blockAddrs (start n : Nat) : List Nat := (List.range n).map fun i => start + 4 * i

/-- REG_READ of one register. -/
def Block.readCommand (a : Nat) (b : Block) : Block × Ans :=
  match b.readOne a with
  | none => (b, badAddress)
  | some (w, c) => (c, ok (be 4 a ++ be 4 w ++ be 8 (b.readNum [a])))

/-- REG_READ_BLOCK. -/
def Block.readBlock (start n : Nat) (b : Block) : Block × Ans :=
  match b.readAll (blockAddrs start n) with
  | none => (b, badAddress)
  | some (ws, c) => (c, ok (be 4 start ++ be 2 n ++ zeros 2 ++ be 8 (b.readNum (blockAddrs start n)) ++ ws.flatMap (be 4)))

/-- A command that writes one register. -/
def Block.serveWrite (rq : Req) (a v : Nat) (b : Block) : Block :=
  b.serve rq 0x11 true (writesMaq a) (·.writeCommand [(a, v)] (be 4 a))

/-- A command that reads one register. -/
def Block.serveRead (rq : Req) (a : Nat) (b : Block) : Block := b.serve rq 0x10 true (aliasAt a) (·.readCommand a)

/-- A command that writes a register some of whose fields it does not name: they keep their present values. -/
def Block.servePart (rq : Req) (a : Nat) (f : Block → Nat) (b : Block) : Block := b.serveWrite rq a (f b)

/-- The word of ADC_CTRL at present, with SCAN, CAPTURE_HALT, ROT_HOLD and HOST as given. -/
def Block.adcWord (b : Block) (scan halt hold : Nat) (host : Nat) : Nat :=
  scan + 2 * halt + 4 * hold + 256 * host + 65536 * b.rd Reg.ADC_CTRL_SCAN_DELAY

/-- 1 for true. -/
def bitOf (p : Bool) : Nat := if p then 1 else 0

/-- The word of LINK_TEST_CTRL at present. -/
def Block.testWord (b : Block) (l : Nat) : Nat :=
  b.rd (Reg.LINK_TEST_CTRL_PATTERN l) + 256 * b.rd (Reg.LINK_TEST_CTRL_LEN l)

/-! ### Meanings -/

/-- REG_READ (R71). -/
def execRegRead (rq : Req) (a : Word) (s : State) : Host.Outcome State Fault Refusal := s.onBlk (·.serveRead rq a.toNat)
/-- REG_WRITE (R72). -/
def execRegWrite (rq : Req) (a v : Word) (s : State) : Host.Outcome State Fault Refusal :=
  s.onBlk (·.serveWrite rq a.toNat v.toNat)
/-- REG_READ_BLOCK (R70, R71). -/
def execRegReadBlock (rq : Req) (start : Word) (n : BitVec 16) (s : State) : Host.Outcome State Fault Refusal :=
  s.onBlk (·.serve rq 0x12 (decide (1 ≤ n.toNat ∧ n.toNat ≤ 346)) ((blockAddrs start.toNat n.toNat).any aliasAt)
    (·.readBlock start.toNat n.toNat))
/-- REG_WRITE_BLOCK (R70, R72). -/
def execRegWriteBlock (rq : Req) (start : Word) (vals : List Word) (s : State) : Host.Outcome State Fault Refusal :=
  let addrs := blockAddrs start.toNat vals.length
  s.onBlk (·.serve rq 0x13 (decide (1 ≤ vals.length ∧ vals.length ≤ 348)) (addrs.any writesMaq)
    (·.writeCommand (addrs.zip (vals.map (·.toNat))) (be 4 start.toNat ++ be 2 vals.length ++ zeros 2)))
/-- MAQUETTE_WRITE (R42). -/
def execMaquetteWrite (rq : Req) (a v : Word) (s : State) : Host.Outcome State Fault Refusal :=
  s.onBlk (·.serveWrite rq a.toNat v.toNat)
/-- REG_FIELD_WRITE (R8). -/
def execRegFieldWrite (rq : Req) (a v : Word) (s : State) : Host.Outcome State Fault Refusal :=
  s.onBlk (·.serveWrite rq a.toNat v.toNat)
/-- TIME_INC_INT_WRITE (R313). -/
def execTimeIncIntWrite (rq : Req) (v : Word) (s : State) : Host.Outcome State Fault Refusal :=
  s.onBlk (·.serveWrite rq 0x30010 v.toNat)
/-- TIME_INC_FRAC_WRITE (R313). -/
def execTimeIncFracWrite (rq : Req) (v : Word) (s : State) : Host.Outcome State Fault Refusal :=
  s.onBlk (·.serveWrite rq 0x30014 v.toNat)
/-- TIME_ADJ_DELTA_WRITE (R313, R314). -/
def execTimeAdjDeltaWrite (rq : Req) (v : Word) (s : State) : Host.Outcome State Fault Refusal :=
  s.onBlk (·.serveWrite rq 0x30018 v.toNat)
/-- TIME_ADJ_CNT_WRITE (R314). -/
def execTimeAdjCntWrite (rq : Req) (v : Word) (s : State) : Host.Outcome State Fault Refusal :=
  s.onBlk (·.serveWrite rq 0x3001C v.toNat)
/-- ADJ_STOP (R314): TIME_CTRL bit 1. -/
def execAdjStop (rq : Req) (s : State) : Host.Outcome State Fault Refusal := s.onBlk (·.serveWrite rq 0x30028 2)
/-- TIME_STEP_REQUEST (R315): TIME_CTRL bit 0. -/
def execTimeStepRequest (rq : Req) (s : State) : Host.Outcome State Fault Refusal := s.onBlk (·.serveWrite rq 0x30028 1)
/-- TIME_NOW_READ (R336): a read of TIME_NOW_LO. -/
def execTimeNowRead (rq : Req) (s : State) : Host.Outcome State Fault Refusal := s.onBlk (·.serveRead rq 0x30000)
/-- TS_POP (R328). -/
def execTsPop (rq : Req) (k : Fin 16) (s : State) : Host.Outcome State Fault Refusal :=
  s.onBlk (·.serveWrite rq (Reg.TIME_TS_POPk_POP k).addr 1)
/-- PWM_LEG_FORCE_WRITE (R252). -/
def execPwmLegForceWrite (rq : Req) (l : Fin 24) (v : Word) (s : State) : Host.Outcome State Fault Refusal :=
  s.onBlk (·.serveWrite rq (Reg.PWM_LEG_FORCE_EN l).addr v.toNat)
/-- ADC_SCAN_SELECT (R300, R301): ADC_CTRL.SCAN. -/
def execAdcScanSelect (rq : Req) (on : Bool) (s : State) : Host.Outcome State Fault Refusal :=
  s.onBlk (·.servePart rq 0x500000 fun b => b.adcWord (bitOf on) (b.rd Reg.ADC_CTRL_CAPTURE_HALT)
    (b.rd Reg.ADC_CTRL_ROT_HOLD) (b.rd Reg.ADC_CTRL_HOST))
/-- ADC_CAPTURE_HALT (R301, R302): ADC_CTRL.CAPTURE_HALT. -/
def execAdcCaptureHalt (rq : Req) (on : Bool) (s : State) : Host.Outcome State Fault Refusal :=
  s.onBlk (·.servePart rq 0x500000 fun b => b.adcWord (b.rd Reg.ADC_CTRL_SCAN) (bitOf on)
    (b.rd Reg.ADC_CTRL_ROT_HOLD) (b.rd Reg.ADC_CTRL_HOST))
/-- ADC_ROT_HOLD (R296): ADC_CTRL.ROT_HOLD. -/
def execAdcRotHold (rq : Req) (on : Bool) (s : State) : Host.Outcome State Fault Refusal :=
  s.onBlk (·.servePart rq 0x500000 fun b => b.adcWord (b.rd Reg.ADC_CTRL_SCAN) (b.rd Reg.ADC_CTRL_CAPTURE_HALT)
    (bitOf on) (b.rd Reg.ADC_CTRL_HOST))
/-- ADC_HOST_TAKE (R301, R302): ADC_CTRL.HOST. -/
def execAdcHostTake (rq : Req) (mask : BitVec 8) (s : State) : Host.Outcome State Fault Refusal :=
  s.onBlk (·.servePart rq 0x500000 fun b => b.adcWord (b.rd Reg.ADC_CTRL_SCAN) (b.rd Reg.ADC_CTRL_CAPTURE_HALT)
    (b.rd Reg.ADC_CTRL_ROT_HOLD) mask.toNat)
/-- ADC_SCAN_MASK_WRITE (R300). -/
def execAdcScanMaskWrite (rq : Req) (high : Bool) (v : Word) (s : State) : Host.Outcome State Fault Refusal :=
  s.onBlk (·.serveWrite rq (if high then 0x50000C else 0x500008) v.toNat)
/-- ADC_DATA_READ (R302). -/
def execAdcDataRead (rq : Req) (k : Fin 8) (s : State) : Host.Outcome State Fault Refusal :=
  s.onBlk (·.serveRead rq (Reg.ADC_DATAk_VALID k).addr)
/-- LINK_TEST_START (R204). -/
def execLinkTestStart (rq : Req) (l : Fin 192) (s : State) : Host.Outcome State Fault Refusal :=
  s.onBlk (·.servePart rq (Reg.LINK_TEST_CTRL_START l).addr fun b => b.testWord l + 2 ^ 16)
/-- LINK_TEST_STOP (R204). -/
def execLinkTestStop (rq : Req) (l : Fin 192) (s : State) : Host.Outcome State Fault Refusal :=
  s.onBlk (·.servePart rq (Reg.LINK_TEST_CTRL_STOP l).addr fun b => b.testWord l + 2 ^ 17)
/-- PWM_DIAG_START (R263). -/
def execPwmDiagStart (rq : Req) (mask : BitVec 12) (s : State) : Host.Outcome State Fault Refusal :=
  s.onBlk (·.serveWrite rq 0x400B00 mask.toNat)
/-- PAIR_HANDOVER (R150). -/
def execPairHandover (rq : Req) (s : State) : Host.Outcome State Fault Refusal := s.onBlk (·.serveWrite rq 0x48C 1)
/-- LEDGER_COMMIT_REQUEST (R230). -/
def execLedgerCommitRequest (rq : Req) (s : State) : Host.Outcome State Fault Refusal :=
  s.onBlk (·.serveWrite rq 0x34301C 1)
/-- FALLBACK_RESUME (R287). -/
def execFallbackResume (rq : Req) (s : State) : Host.Outcome State Fault Refusal :=
  s.onBlk (·.serveWrite rq 0x420808 1)
/-- DMA_CH_LOAD (R427, R428). -/
def execDmaChLoad (rq : Req) (ch : Fin 32) (s : State) : Host.Outcome State Fault Refusal :=
  s.onBlk (·.serveWrite rq (Reg.DMA_CH_LOAD_LOAD ch).addr 1)
/-- DMA_CH_STOP (R429). -/
def execDmaChStop (rq : Req) (ch : Fin 32) (s : State) : Host.Outcome State Fault Refusal :=
  s.onBlk (·.serveWrite rq (Reg.DMA_CH_LOAD_STOP ch).addr 2)
/-- DMA_RESTART (R432). -/
def execDmaRestart (rq : Req) (s : State) : Host.Outcome State Fault Refusal := s.onBlk (·.serveWrite rq 0x600808 1)

end Sys2Proof.Machine
end

