-- ==== Sys2Proof/Machine/EventLog.lean ====
section
/-! DEFINITION. The event log (R346 to R351): numbering, staging, the flash ring, and EVENT_READ, EVENT_ACK and
    INJECT (R82, R84, R355). -/

namespace Sys2Proof.Machine

/-- The records staging holds, and those the flash ring holds (R351). -/
def stagingSize : Nat := 32768
/-- The ring's size. -/
def ringSize : Nat := 1048576

/-! ### Numbers and registers (R349) -/

/-- Record `n` has not been acknowledged: 0xFFFF_FFFF acknowledges none. -/
def unacked (acked n : Nat) : Bool := acked == 0xFFFFFFFF || seqNewer n acked

/-- EVT_OLDEST and EVT_UNACK follow the ring. -/
def Block.ringShow (b : Block) : Block :=
  let acked := b.rd Reg.EVT_ACKED_NUM
  (b.wr Reg.EVT_OLDEST_NUM ((b.evt.ring.head?.map (·.num)).getD (b.rd Reg.EVT_NEXT_NUM))).wr Reg.EVT_UNACK_COUNT
    (b.evt.ring.filter fun r => unacked acked r.num).length

/-- The reserved mark is kept above the next number (R349). -/
def markAbove (mark next : Nat) : Nat :=
  if (mark + 2 ^ 32 - next) % 2 ^ 32 = 0 ∨ 2 ^ 31 ≤ (mark + 2 ^ 32 - next) % 2 ^ 32 then (mark + 4096) % 2 ^ 32 else mark

/-- Drop the last record of a class from the staged ones; none where there is none of it. -/
def dropLastOf (cls : Nat) (l : List Rec) : Option (List Rec) :=
  match l.reverse.findIdx? fun r => r.cls == cls with
  | some i => some (l.reverse.eraseIdx i).reverse
  | none => none

/-- What staging drops for a new record: the records kept, and whether the new one is among them (R351). -/
def makeRoom (l : List Rec) (cls : Nat) : List Rec × Bool :=
  if l.length < stagingSize then (l, true)
  else if cls < 2 then (l, false)
  else match dropLastOf 0 l with
  | some m => (m, true)
  | none =>
    match dropLastOf 1 l with
    | some m => (m, true)
    | none => (l, false)

/-- Stage a numbered record (R351). -/
def Block.stage (r : Rec) (b : Block) : Block :=
  let full := decide (stagingSize ≤ b.evt.staged.length)
  let (kept, taken) := makeRoom b.evt.staged r.cls
  let r := { r with loss := b.evt.loss }
  let b := b.updEvt fun e =>
    { e with staged := if taken then kept ++ [r] else kept, loss := full || (e.loss && !taken) }
  if full then (b.count Reg.EVT_LOST_CNT_COUNT 1).flag Reg.EVT_STAT_LOSS true else b

/-- The occurrence to be numbered next: the earliest; ties to the lower source, then the lower index (R348).  SYS_START
    comes before every other (R340). -/
def firstHeld : List Rec → Option Rec
  | [] => none
  | r :: l => if r.source = 32 then some r else some (l.foldl (fun a x =>
      if x.at_ == r.at_ && (decide (x.source < a.source) || (x.source == a.source && decide (x.idx < a.idx))) then x else a) r)

/-- The occurrence that takes its number next; none before the cores of this start have logged SYS_START, its first
    record (R340, log entry 122). -/
def Block.toNumber (b : Block) : Option Rec := if b.released 6 then firstHeld b.evt.held else none

/-- EVENT_NUMBERING: 2 µs after it was raised an occurrence takes its number and is staged. -/
def Block.eventNumbering (b : Block) : Block :=
  match b.toNumber with
  | none => b
  | some r =>
    let b := b.untilUp (r.at_ + 2 * usPs)
    let n := b.rd Reg.EVT_NEXT_NUM
    let b := b.updEvt fun e => { e with held := e.held.erase r, mark := markAbove e.mark ((n + 1) % 2 ^ 32) }
    let b := b.bump Reg.EVT_NEXT_NUM
    (b.stage { r with num := n, at_ := b.tb.up }).ringShow

/-- Every occurrence that is held takes its number and is staged: before a commit that a reset or P4 waits for (R349,
    R351). -/
def Block.numberHeld (b : Block) : Block := b.each b.evt.held.length fun _ b => b.eventNumbering

/-- The ring with records committed: when it would overflow, the oldest 2,048 are erased together. -/
def ringAppend (ring new : List Rec) : List Rec :=
  new.foldl (fun l r => (if ringSize ≤ l.length then l.drop 2048 else l) ++ [r]) ring

/-- The blocks of the ring that committing records erases: each holds 4,096 records, and record `n` lies in the block of its
    number (R437, log entry 143). -/
def ringErased (ring new : List Rec) : List Nat :=
  (new.foldl (fun (a : List Rec × List Nat) r =>
    if ringSize ≤ a.1.length then (a.1.drop 2048 ++ [r], a.2 ++ (a.1.head?.map fun x => 1168 + x.num % ringSize / 4096).toList)
    else (a.1 ++ [r], a.2)) (ring, [])).2

/-- Commit the staged records (R351). -/
def Block.commitStaged (b : Block) : Block :=
  let b := b.eachOf (ringErased b.evt.ring b.evt.staged) fun h b => b.homeErased h
  (b.updEvt fun e => { e with ring := ringAppend e.ring e.staged, staged := [] }).ringShow

/-- EVENT_COMMIT: nothing while the DMA engine is halted (R432) or the cores do not run.  Channel 8 moves the records, 32
    bytes each. -/
def Block.eventCommit (b : Block) : Block :=
  if !b.cores || b.on Reg.DMA_STAT_HALTED then b
  else if b.evt.staged.isEmpty then b.commitStaged
  else (((b.fwBegin 8 (cdiv (32 * b.evt.staged.length) 256)).bulkShare 8).fwEnd 8 true).commitStaged

/-! ### Reading and acknowledging (R82) -/

/-- The 32 bytes of a record (R346). -/
def Rec.bytes (r : Rec) : List Byte :=
  be 4 r.num ++ be 8 r.time ++ be 1 r.source
    ++ be 1 (r.cls + (if r.injected then 8 else 0) + (if r.recurrence then 16 else 0) + (if r.lockout then 32 else 0)
        + (if r.loss then 64 else 0))
    ++ be 1 r.unitType ++ be 1 r.repeats ++ be 2 r.idx ++ be 2 r.code ++ be 12 r.data

/-- The records held, in record-number order. -/
def EvtSt.log (e : EvtSt) : List Rec := e.ring ++ e.staged

/-- Record `n` does not come before record `m`. -/
def notBefore (n m : Nat) : Bool := decide ((n + 2 ^ 32 - m) % 2 ^ 32 < 2 ^ 31)

/-- EVENT_READ.  Records that have left staging are read from a flash page (R351, R355).  With no record to send, the
    first record number of the reply is the one asked for, or EVT_NEXT where the unacknowledged ones were (log entry
    118). -/
def Block.eventRead (first m : Nat) (b : Block) : Block × Ans :=
  let acked := b.rd Reg.EVT_ACKED_NUM
  let rs := if first = 0xFFFFFFFF then b.evt.log.filter fun r => unacked acked r.num
    else b.evt.log.filter fun r => notBefore r.num first
  let rs := rs.take m
  let n := match rs with
    | r :: _ => r.num
    | [] => if first = 0xFFFFFFFF then b.rd Reg.EVT_NEXT_NUM else first
  (if rs.any fun r => b.evt.ring.contains r then b.flashCheck none else b,
    ok (be 4 n ++ be 2 rs.length ++ zeros 2 ++ rs.flatMap Rec.bytes))

/-- EVENT_ACK: every record up to the number; one already acknowledged stays so.  A number beyond the newest record is
    kept, and the records that come to bear it or a lower one are acknowledged as they are logged (log entry 118). -/
def Block.eventAck (n : Nat) (b : Block) : Block × Ans :=
  let b := if unacked (b.rd Reg.EVT_ACKED_NUM) n then b.wr Reg.EVT_ACKED_NUM n else b
  let b := b.ringShow
  (b, ok (be 4 (b.rd Reg.EVT_UNACK_COUNT)))

/-! ### Injection (R84, R355) -/

/-- INJECT: its count and index replace those pending for the checker. -/
def Block.inject (checker idx n : Nat) (b : Block) : Block × Ans :=
  if 4 < checker ∨ (checker = 2 ∧ 191 < idx) ∨ (checker = 3 ∧ 2 < idx) then (b, badAddress)
  else if (checker = 0 ∨ checker = 1 ∨ checker = 4) ∧ b.rd Reg.SYS_CONV_STAT_STATE ≠ 0 then (b, denied 1)
  else ((b.wr (Reg.EVT_INJk_REMAIN checker) n).wr (Reg.EVT_INJk_INDEX checker)
    (if checker = 2 ∨ checker = 3 then idx else 0), ok [])

/-! ### Meanings -/

/-- EVENT_NUMBERING (R348). -/
def execEventNumbering (s : State) : Host.Outcome State Fault Refusal := s.onBlk (·.eventNumbering)
/-- EVENT_COMMIT (R351). -/
def execEventCommit (s : State) : Host.Outcome State Fault Refusal := s.onBlk (·.eventCommit)
/-- EVENT_READ (R82). -/
def execEventRead (rq : Req) (first : BitVec 32) (m : BitVec 16) (s : State) : Host.Outcome State Fault Refusal :=
  s.onBlk (·.serve rq 0x60 (decide (1 ≤ m.toNat ∧ m.toNat ≤ 43)) false (·.eventRead first.toNat m.toNat))
/-- EVENT_ACK (R82). -/
def execEventAck (rq : Req) (n : BitVec 32) (s : State) : Host.Outcome State Fault Refusal :=
  s.onBlk (·.serve rq 0x61 true false (·.eventAck n.toNat))
/-- INJECT (R84, R355). -/
def execInject (rq : Req) (checker : BitVec 8) (idx n : BitVec 16) (s : State) : Host.Outcome State Fault Refusal :=
  s.onBlk (·.serve rq 0x63 (decide (1 ≤ n.toNat)) false (·.inject checker.toNat idx.toNat n.toNat))

end Sys2Proof.Machine
end

