-- ==== Sys2Proof/Machine/Recovery.lean ====
section
/-! DEFINITION. How fenced units come back (R352 to R354), and FAULT_CLEAR (R83, R344). -/

namespace Sys2Proof.Machine

/-! ### Causes (R344, R354) -/

/-- The cause of a unit's fence is present (R354). -/
def Block.causePresent (b : Block) (ut i : Nat) : Bool :=
  match ut with
  | 1 => match (b.lane i).fresh, (b.lane i).good with
    | true, some r => r.status.testBit 10 || r.status.testBit 2
    | _, _ => false
  | 2 => match (b.lane i).fresh, (b.lane i).good with
    | true, some r => r.status.testBit 10 || r.status.testBit 2
    | _, _ => false
  | 3 =>
    let c := b.rd (Reg.PWM_LEG_STAT_CAUSE i)
    (c == 3 && (List.range 16).any fun k => (b.tripOf k).leg == i && (b.tripOf k).action != 0
        && b.bit Reg.PWM_TRIP_STAT_LEVEL k)
      || (c == 6 && (b.on (Reg.GATE_CH_STAT_UVLO (2 * i)) || b.on (Reg.GATE_CH_STAT_UVLO (2 * i + 1))
        || (decide (i < 16) && b.on (Reg.GATE_CH_STAT_UVLO (48 + i / 2)))))
  | 4 => decide (2 ^ 23 ≤ b.rd (Reg.PORT_THETA_THETA i))
  | 5 => b.ctxStale i
  | _ => false

/-- The condition that raised a latched source still holds (R344): for sources that have one that lasts (log entry 64). -/
def Block.latchCause (b : Block) (k : Nat) : Bool :=
  match k with
  | 7 => (List.range 9).any fun m => b.rd (Reg.ADC_CONVk_STATE m) == 3
  | 8 => (List.range 64).any fun i => (b.ain i).open_
  | 11 => b.on Reg.CELL_LDG_STAT_FAIL
  | 36 => b.rd Reg.SYS_PWR_STAT_SAG != 0
  | 39 => b.clk.failed.contains 0
  | 40 => b.clk.holdover.contains 1 || b.clk.failed.contains 1
  | 41 => b.clk.failed.contains 2
  | 42 => b.clk.failed.any (5 ≤ ·)
  | 43 => b.clk.failed.contains 3
  | 44 => b.clk.failed.contains 4
  | 64 => [0, 1].any fun x => (b.dom x).lost
  | 67 => b.servoOwns && !b.on (Reg.TIME_DOM_STAT_IN_LIMIT b.selDom)
  | 99 => (List.range 192).any fun l =>
    decide (0 < b.rd (Reg.LINK_EYE_WIDTH l)) && decide (b.rd (Reg.LINK_EYE_WIDTH l) < b.rd Reg.LINK_GCFG_EYE_MIN)
  | 101 => (List.range 192).any fun s => b.on (Reg.CELL_SLOT_FAULT_PRESENT s)
  | 129 => (List.range 256).any fun c => (b.ctx c).lost
  | 132 => !b.conv.locked
  | 133 => b.strk.untimed
  | 134 => [0, 1, 2].any fun k => decide (((armSlots k).filter b.inserted).length < b.rd Reg.SYS_CONV_POP_NMIN)
  | 135 => decide (0 < b.pair.missRun)
  | 136 => b.pair.unaligned
  | 137 => b.pair.mismatch
  | 163 => b.rd Reg.GATE_STAT_STUCK != 0
  | 166 => (List.range 24).any fun l => b.rd (Reg.PWM_LEG_STAT_CAUSE l) == 3 && b.causePresent 3 l
  | 168 => (List.range 56).any fun ch => b.on (Reg.GATE_CH_STAT_UVLO ch)
  | 169 => b.lv.brakeLong
  | 194 => (List.range 8).any fun p => b.causePresent 4 p
  | 195 => b.on Reg.PORT_FB_STAT_ACTIVE
  | 233 => b.on Reg.THRM_STAT_WARN
  | 234 => b.on Reg.THRM_STAT_THROTTLE
  | 236 => ((List.range 20).any fun k => b.on (Reg.THRM_SENSk_OPEN k) || b.on (Reg.THRM_SENSk_SHORT k))
    || (List.range 10).any fun h => b.on (Reg.THRM_SPOTh_DISAGREE h)
  | _ => false

/-! ### Ways back (R107, R260, R286, R352) -/

/-- The diagnostics of leg `l`'s group, which bring it back when they pass; L20 has no group (R260, R261). -/
def Block.legReturn (l : Nat) (b : Block) : Block :=
  match groupOf l with
  | some g => b.startDiag g
  | none => b.legBack l

/-- A port that is on its way back leaves FENCED, or by the host LATCHED, at this boundary (R275, R284, R286). -/
def Block.portReadmit (p : Nat) (b : Block) : Block :=
  let st := b.rd (Reg.PORT_STAT_STATE p)
  if (st = 7 ∨ (st = 8 ∧ !(b.recov (512 + p)).auto)) ∧ (b.recov (512 + p)).returning then
    ((b.portState p (if b.runReq p then 1 else 0)).wr (Reg.PORT_STAT_CAUSE p) 0).onReadmitDone 4 p (512 + p)
  else b

/-- A fenced unit begins its way back. -/
def Block.beginReturn (ut i k : Nat) (auto : Bool) (b : Block) : Block :=
  let b := b.updRecov k fun r => { r with returning := true, auto := auto }
  match ut with
  | 1 => b.updCell i fun c => { c with reseat := true }
  | 2 => b.updCell i fun c => { c with reseat := true }
  | 3 => b.legReturn i
  | 5 => b.ctxReadmit i
  | _ => b

/-- The unit type and index of a fenceable unit. -/
def unitRef : FUnit → Nat × Nat
  | .slot s => (1, s)
  | .leg l => (3, l)
  | .port p => (4, p)
  | .ctx c => (5, c)

/-- The cause of a fenced leg, port or context that is present recurs as long as it holds: its quiet period counts from
    the last boundary at which it held (R352, R354).  A cell's cause is judged with its reports. -/
def Block.lastingCause (k : Nat) (b : Block) : Block :=
  let r := b.recov k
  let u : Nat × Nat := if k < 512 then (3, k - 256) else if k < 1024 then (4, k - 512) else (5, k - 1024)
  if 256 ≤ k ∧ r.fenced ∧ !r.lockout ∧ !r.manual ∧ b.causePresent u.1 u.2 then b.onRecurrence k else b

/-- The lasting causes at a boundary (R354). -/
def Block.lastingCauses (b : Block) : Block := b.eachOf b.evt.recov fun e b => b.lastingCause e.1

/-- AUTO_READMIT: the quiet period of a fenced unit ends; a cause that is present starts it again, and a converter in
    FAULTED or HALTED, or a lane in TEST, holds re-admission off (R352, R354). -/
def Block.autoReadmit (ut i k : Nat) (b : Block) : Block :=
  let r := b.recov k
  if !r.fenced || r.lockout || r.manual || r.returning || !b.autoPolicy k || (ut == 1 && !b.holds)
      || (ut == 4 && b.rd (Reg.PORT_STAT_STATE i) == 8) then b
  else
    let b := b.untilUp r.quietEnd
    if b.causePresent ut i then b.onRecurrence k
    else if 5 ≤ b.rd Reg.SYS_CONV_STAT_STATE ∨ (ut = 1 ∧ b.rd (Reg.LINK_STAT_STATE i) = 5) then b
    else b.beginReturn ut i k true

/-! ### FAULT_CLEAR -/

/-- What a clear comes to: refused with a detail, or the number of units or latches cleared. -/
inductive Cleared where
  | refused (detail : Nat)
  | count (n : Nat)
  deriving DecidableEq, Repr

/-- Clear the latch of source `k` (R344). -/
def Block.clearSource (k : Nat) (b : Block) : Block × Cleared :=
  let c := SMap.look 0 b.evt.latchCls k
  if c = 0 then (b, .count 0)
  else if c = 4 then (b, .refused 2)
  else if b.latchCause k then (b, .refused 1)
  else ((b.flag (Reg.EVT_SRCk_LATCHED k) false).updEvt fun e => { e with latchCls := SMap.erase k e.latchCls }, .count 1)

/-- The unit's fault is of class HALT: an occurrence of that class has named the unit (R83). -/
def Block.unitHalted (b : Block) (ut i : Nat) : Bool := (b.recov ((unitKey ut i).getD 0)).halt

/-- The unit holds a latched fault: a cell's, a leg's or context's fence or latch, a port in FENCED or LATCHED. -/
def Block.holdsFault (b : Block) (ut i : Nat) : Bool :=
  match ut with
  | 1 => (b.cell i).latched.isSome
  | 2 => (b.cell i).latched.isSome
  | 3 => b.on (Reg.PWM_LEG_STAT_FENCED i) || b.on (Reg.PWM_LEG_STAT_LATCHED i) || b.bit Reg.GATE_SHORT_LEGS i
  | 4 => decide (7 ≤ b.rd (Reg.PORT_STAT_STATE i))
  | _ => (b.ctx i).fenceNext

/-- Clear the latched fault of a unit, and let the unit begin its way back where FAULT_CLEAR brings it back. -/
def Block.clearFault (ut i k : Nat) (b : Block) : Block :=
  match ut with
  | 1 => b.updCell i fun c => { c with latched := none }
  | 2 => b.updCell i fun c => { c with latched := none }
  | 3 =>
    let b := ((b.flag (Reg.PWM_LEG_STAT_LATCHED i) false).setBit Reg.GATE_SHORT_LEGS i false).updLv fun v =>
      { v with shorted := v.shorted.filter (· ≠ i) }
    if b.on (Reg.PWM_LEG_STAT_FENCED i) then b.beginReturn 3 i k false else b
  | _ => b.beginReturn ut i k false

/-- Clear what a unit holds (R83, R353).  `say` logs the clear before the unit begins its way back (log entry 65). -/
def Block.clearUnit (say : Block → Block) (ut i : Nat) (b : Block) : Block × Cleared :=
  match unitKey ut i with
  | none => (b, .count 0)
  | some k =>
    let held := b.holdsFault ut i
    let r := b.recov k
    if (held || r.fenced) && b.unitHalted ut i then (b, .refused 2)
    else if (held || r.fenced) && b.causePresent ut i then (b, .refused 1)
    else
      let b := say (b.onFaultClear k)
      (if held then b.clearFault ut i k else b, .count (if held || r.lockout || !(recentHist b.upS r.hist).isEmpty then 1 else 0))

/-- Go through units or sources, clearing what can be cleared and adding up. -/
def Block.clearEach (l : List Nat) (f : Nat → Block → Block × Cleared) (bn : Block × Nat) : Block × Nat :=
  l.foldl (fun bn i => match f i bn.1 with
    | (b, .count n) => (b, bn.2 + n)
    | (_, .refused _) => bn) bn

/-- PWM_STAT.MULTI, once no leg remains latched for a short (R257). -/
def Block.clearMulti (bn : Block × Nat) : Block × Nat :=
  if bn.1.on Reg.PWM_STAT_MULTI && bn.1.lv.shorted == [] then (bn.1.flag Reg.PWM_STAT_MULTI false, bn.2 + 1)
  else bn

/-- Unit type 0: every latch and every unit. -/
def Block.clearAll (b : Block) : Block × Nat :=
  let bn := Block.clearEach (List.range 256) Block.clearSource (b, 0)
  let bn := Block.clearEach (List.range 192) (Block.clearUnit id 1) bn
  let bn := Block.clearEach (List.range 24) (Block.clearUnit id 3) bn
  let bn := Block.clearEach (List.range 8) (Block.clearUnit id 4) bn
  Block.clearMulti (Block.clearEach (List.range 256) (Block.clearUnit id 5) bn)

/-- How many units of a type FAULT_CLEAR can name (R83); none for other types. -/
def clearable (ut : Nat) : Nat :=
  match ut with
  | 1 => 192
  | 2 => 192
  | 3 => 24
  | 4 => 8
  | 5 => 256
  | 6 => 256
  | _ => 0

/-- FAULT_CLEARED, which names the unit or source cleared (R340, R346). -/
def Block.sayCleared (ut i : Nat) (b : Block) : Block := b.raise { source := 13, unitType := ut, idx := i, code := ut }

/-- FAULT_CLEAR carried out: a FAULTED converter in which nothing remains latched goes to OFF at the next boundary
    (R121). -/
def Block.faultCleared (ut i n : Nat) (b : Block) : Block × Ans :=
  let b := if b.rd Reg.SYS_CONV_STAT_STATE = 5 ∧ !b.anyLatched ∧ !b.demandActive then
      b.updConv fun c => { c with wantClear := true }
    else b
  (b, ok (be 1 ut ++ zeros 1 ++ be 2 i ++ be 4 n))

/-- FAULT_CLEAR.  One that names a cell slot sets CLEAR in its frames (R190, R222).  A unit type above 6 has no index that
    exists (log entry 119). -/
def Block.faultClear (ut i : Nat) (b : Block) : Block × Ans :=
  if ut = 0 then
    let (b, n) := b.clearAll
    (b.sayCleared 0 0).faultCleared 0 i n
  else if clearable ut ≤ i then (b, badAddress)
  else
    let b := if ut = 1 then b.updLane i fun x => { x with clear := 4 } else b
    match (if ut = 6 then b.clearSource i else b.clearUnit (Block.sayCleared ut i) ut i) with
    | (b, .count n) => (if ut = 6 then b.sayCleared 6 i else b).faultCleared ut i n
    | (b, .refused d) => (b, denied d)

/-! ### Meanings -/

/-- AUTO_READMIT (R352). -/
def execAutoReadmit (u : FUnit) (s : State) : Host.Outcome State Fault Refusal :=
  s.onBlk fun b => b.autoReadmit (unitRef u).1 (unitRef u).2 ((unitKey (unitRef u).1 (unitRef u).2).getD 0)
/-- FAULT_CLEAR (R83). -/
def execFaultClear (rq : Req) (unit : BitVec 8) (idx : BitVec 16) (s : State) : Host.Outcome State Fault Refusal :=
  s.onBlk (·.serve rq 0x62 true false (·.faultClear unit.toNat idx.toNat))

end Sys2Proof.Machine
end

