-- ==== Sys2Proof/Machine/Reset.lean ====
section
/-! DEFINITION. Resets (R396 to R403): what survives each, the decision of a core reset or a system reset, and the
    preparation of a system reset (R398). -/

namespace Sys2Proof.Machine

/-! ### What survives (R402) -/

/-- The events of R402. -/
inductive Level where
  | core | system | p3 | p4 | power
  deriving DecidableEq, Repr

/-- The survival table of R402. -/
def Kept.survives (k : Kept) (l : Level) : Bool :=
  match k with
  | .nv => true
  | .cSP3P4 => !(l == .power)
  | .cSP3 => l == .core || l == .system || l == .p3
  | .cP3 => l == .core || l == .p3
  | .c => l == .core
  | .none => false

/-- A register CLK_BANDk (R332). -/
def bandReg (a : Nat) : Bool := decide (0x20040 ≤ a ∧ a < 0x20080)

/-- Live fields that show what lies outside the domains a system reset restarts: input levels, supplies, the removal
    switches and outputs, the sag level, the debug pin and the reference monitor (R402). -/
def lineFields : List Field :=
  [Reg.SYS_PWR_STAT_SAG, Reg.RST_DBG_DBG_EN, Reg.CLK_STAT_REF_OK, Reg.CLK_STAT_MGMT_RATE, Reg.PWM_TRIP_STAT_LEVEL,
   Reg.PWM_BRK_STAT_ON, Reg.GATE_STAT_GATE24_OK, Reg.GATE_STAT_SUPPLY_A, Reg.GATE_STAT_SUPPLY_B,
   Reg.SAFE_STAT_OUT1, Reg.SAFE_STAT_OUT2, Reg.SAFE_IN_CONTACTS, Reg.SAFE_IN_RESET, Reg.SAFE_P_P]

/-- Does a field keep its value through an event?  The entries of CLK_BANDk hold their factory defaults again at power-on
    and system reset (R332). -/
def Field.survives (f : Field) (l : Level) : Bool :=
  if bandReg f.addr && (l == .power || l == .system) then false
  else f.kept.survives l || (!(l == .power) && lineFields.contains f)

/-- The register fields that keep their values through an event. -/
def Bank.keep (l : Level) (m : Bank) : Bank :=
  m.filter fun e => match fieldOfKey e.1 with
    | some f => f.survives l
    | none => false

/-! ### The core reset (R397, R401, R403, R67) -/

/-- NVM_STAGEt shows the staged images (R421). -/
def Block.stageShow (b : Block) : Block :=
  b.each 3 fun t b =>
    let i := SMap.look default b.boot.staged t
    (b.wr (Reg.NVM_STAGEt_BYTES t) i.bytes.length).flag (Reg.NVM_STAGEt_VERIFIED t) i.verified

/-- NVM_SLOTk shows an image, or none (R421). -/
def Block.slotShow (k : Nat) (i : Option Img) (valid : Bool) (b : Block) : Block :=
  let b := ((b.flag (Reg.NVM_SLOTk_STAT_PRESENT k) i.isSome).flag (Reg.NVM_SLOTk_STAT_VALID k) valid).wr
    (Reg.NVM_SLOTk_STAT_KEY k) ((i.map (·.key)).getD 255)
  (b.wr (Reg.NVM_SLOTk_VER_VER k) ((i.map (·.version)).getD 0)).wr (Reg.NVM_SLOTk_LEN_LEN k) ((i.map (·.size)).getD 0)

/-- The slot, copy or half that an image of a type is staged in. -/
def Block.spareOf (b : Block) (t : ImgType) : Nat :=
  match t with
  | .firmware => 1 - b.rd Reg.RST_BOOT_ACTIVE
  | .option => 1 - b.rd Reg.RST_BOOT_OPT_COPY
  | .maquette => 1 - b.rd Reg.RST_BOOT_CFG_HALF

/-- Staged images are discarded at any reset (R86, R403), and the slot that held a firmware image holds none (R421). -/
def Block.dropStages (b : Block) : Block :=
  let fw := b.boot.staged.any fun e => e.1 == 0
  let b := (b.updBoot fun x => { x with staged := [] }).stageShow
  if fw then b.slotShow (b.spareOf .firmware) none false else b

/-- Pending injections are discarded (R355). -/
def Block.dropInjections (b : Block) : Block :=
  b.each 5 fun k b => (b.wr (Reg.EVT_INJk_REMAIN k) 0).wr (Reg.EVT_INJk_INDEX k) 0

/-- The command at the head of the queue has been carried out but for its reply: it is recorded as executed (R66, R67). -/
def Block.headExecuted (b : Block) : Block :=
  match b.jv.queue with
  | q :: _ => (b.wr Reg.SYS_SEQ_LAST_SEQ q.req.seq.toNat).flag Reg.SYS_CMD_STAT_SEQ_VALID true
  | [] => b

/-- A core reset strikes the command that is executing.  A transition it has asked for, and that waits for its boundary, is
    not made (R67, R80); a fence that is decided, a stream that closes and a power state that is sought go on, and their
    command counts as executed (log entry 148). -/
def Block.dropRequest (b : Block) : Block :=
  match b.headWait with
  | some (.fence _) => b.headExecuted
  | some (.streamClose _) => b.headExecuted
  | some .power => b.headExecuted
  | some .convStart => b.updConv fun c => { c with wantStart := false }
  | some .convStop => b.updConv fun c => { c with wantOrdStop := false }
  | some (.reseat s) => b.updCell s fun c => { c with reseat := false }
  | _ => b

/-- The queue and the reply cache are discarded, but for a CAST whose cast is armed (R67). -/
def Block.dropCommands (b : Block) : Block :=
  match b.jv.queue, b.castHeld with
  | q :: _, true =>
    (b.updJv fun _ => { queue := [{ q with wait := .castOrphan }], cache := [] }).wr Reg.SYS_SEQ_ACCEPTED_SEQ q.req.seq.toNat
  | _, _ =>
    let b := b.dropRequest
    (b.updJv fun _ => { queue := [], cache := [] }).wr Reg.SYS_SEQ_ACCEPTED_SEQ (b.rd Reg.SYS_SEQ_LAST_SEQ)

/-- A system reset is decided; the first decision's cause stands (R397). -/
def Block.resetDue (cause : Nat) (b : Block) : Block :=
  b.updBoot fun x => { x with due := some (x.due.getD { cause := cause }) }

/-- An error-driven system reset is decided: the safety latch is set at once (R378, R397). -/
def Block.errorReset (cause : Nat) (b : Block) : Block := (b.errorLatch).resetDue cause

/-- A core reset: the cores and the command interpreter stop; everything else runs on, but for the unread marks of
    ADC_DATAk (R402).  `bit`: its bit of RST_CORE_CAUSE.  The third within 60 s makes a system reset (R397). -/
def Block.coreReset (bit : Nat) (b : Block) : Block :=
  let recent := b.tb.up :: (b.boot.coreResets.filter fun t => b.tb.up < t + 60000 * msPs)
  let b := ((b.dropCommands).dropInjections).each 8 fun k b => b.flag (Reg.ADC_DATAk_VALID k) false
  let b := b.updBoot fun x =>
    { x with coreReset := true, coreResets := recent }
  let b := (((b.dropStages).updCells fun c => { c with committing := false }).fwEnd 9 false).fwEnd 11 false
  let b := ((b.wr Reg.RST_CORE_CAUSE_CAUSE (2 ^ bit)).count Reg.RST_COUNT_CORE 1).flag Reg.SYS_CMD_STAT_RESTARTED true
  if 3 ≤ recent.length then b.errorReset 9 else b

/-! ### The system reset (R396, R398, R402, R403) -/

/-- The steps before a system reset takes effect (R398). -/
def Block.resetPrep (graceful : Bool) (b : Block) : Block :=
  let b := if b.holds then (b.sendBlocks) else b
  let b := (b.blockStage true).advance 1600
  let b := b.ledgerCommitted
  if graceful then (b.numberHeld).commitStaged else b

/-- The clock monitors run on; the PLLs lock anew, and monitors other than the reference's have yet to report (R333, R396). -/
def ClkSt.restart (c : ClkSt) : ClkSt :=
  { ClkSt.reset with failed := (c.failed.filter (· == 0)) ++ [1, 2, 3, 4], reported := c.reported.filter (· == 0) }

/-- Domains D1 to D7 restart: registers as R402 states, the rest as R403 states.  The ledger starts from its last
    commit; record numbers go on from `next`. -/
def Block.restartDomains (l : Level) (next : Nat) (b : Block) : Block :=
  let b := b.dropStages
  let regs := Bank.keep l b.regs
  let b' : Block :=
    { Block.reset with
      regs := regs, frozen := regs
      tb := { TimeBase.reset with up := b.tb.up }
      evt := { EvtSt.reset with ring := b.evt.ring, mark := b.evt.mark }
      lv := { LvSt.reset with brakeAt := b.lv.brakeAt, brakeLong := b.lv.brakeLong
                              tripPins := b.lv.tripPins, fbPin := b.lv.fbPin }
      cells := { CellsSt.reset with streams := b.cells.flash, flash := b.cells.flash, flashRegs := b.cells.flashRegs
                                    committedAt := b.tb.up }
      cst := { CastSt.reset with maq := Bank.crOnly regs }
      safe := b.safe
      pow := { b.pow with target := none, waking := false }
      boot := { BootSt.reset with optLoaded := b.boot.optLoaded, fw := b.boot.fw, opt := b.boot.opt, cfg := b.boot.cfg
                                  erases := b.boot.erases, placed := b.boot.placed
                                  releasedAt := b.tb.up }
      clk := b.clk.restart, draws := b.draws, out := b.out }
  let b' := (b'.wr Reg.EVT_NEXT_NUM next).ringShow
  let b' := b'.wr Reg.SYS_SEQ_ACCEPTED_SEQ (b'.rd Reg.SYS_SEQ_LAST_SEQ)
  let b' := if b'.on Reg.EVT_HALT_HALTED then b'.wr Reg.SYS_CONV_STAT_STATE 6 else b'
  let b' := b'.flag Reg.SYS_CMD_STAT_RESTARTED true
  ((b'.setBit Reg.RST_STAGE_RELEASED 0 true).wr Reg.RST_STAGE_WAIT 1).powerChannels

/-- The bits of RST_CAUSE, in order (R420). -/
def causeFields : List Field :=
  [Reg.RST_CAUSE_POR, Reg.RST_CAUSE_BROWNOUT, Reg.RST_CAUSE_PIN, Reg.RST_CAUSE_WATCHDOG, Reg.RST_CAUSE_COMMAND,
   Reg.RST_CAUSE_PLINTH_EXIT, Reg.RST_CAUSE_STROKE_WATCH, Reg.RST_CAUSE_ECC, Reg.RST_CAUSE_PARITY,
   Reg.RST_CAUSE_CORE_STORM, Reg.RST_CAUSE_START_TIMEOUT, Reg.RST_CAUSE_WAKE]

/-- A start records one cause, clears the others and what the last start found, and is counted (R397, R420). -/
def Block.recordCause (cause : Nat) (b : Block) : Block :=
  let b := b.eachOf (causeFields ++ [Reg.RST_CAUSE_PLINTH, Reg.RST_CAUSE_FALLBACK, Reg.RST_CAUSE_OPT_FALLBACK,
    Reg.RST_CAUSE_CFG_DEFAULT]) fun f b => b.flag f false
  (b.flag (causeFields.getD cause Reg.RST_CAUSE_POR) true).count Reg.RST_COUNT_STARTS 1

/-- Records staged are committed before a reset that RESET or PLINTH_EXIT requested (R351, R398). -/
def gracefulCause (cause : Nat) : Bool := cause == 4 || cause == 5

/-- The system reset that was decided is prepared and takes effect.  A ramp ends with removal (R378). -/
def Block.systemReset (cause : Nat) (b : Block) : Block :=
  let graceful := gracefulCause cause
  let b := (b.resetPrep graceful).safeSystemReset
  let next := if graceful then b.rd Reg.EVT_NEXT_NUM else b.evt.mark
  (b.restartDomains .system next).recordCause cause

/-- SYSTEM_RESET_PREP: the reset that is due; nothing where none is. -/
def Block.resetTakes (b : Block) : Block :=
  match b.boot.due with
  | some d => b.systemReset d.cause
  | none => b

/-- POWER_ON_RESET: everything restarts; flash keeps its contents, and staged images and whatever of the ledger has not
    been committed are lost (R18, R402, R403).  Record numbers go on from the mark (R349). -/
def Block.powerOnReset (b : Block) : Block :=
  let b := b.dropStages
  let regs := Bank.keep .power b.regs
  let b' : Block :=
    { Block.reset with
      regs := regs, frozen := regs
      evt := { EvtSt.reset with ring := b.evt.ring, mark := b.evt.mark }
      cells := { CellsSt.reset with streams := b.cells.flash, flash := b.cells.flash, flashRegs := b.cells.flashRegs }
      pow := { PowerSt.reset with cages := b.pow.cages }
      boot := { BootSt.reset with fw := b.boot.fw, opt := b.boot.opt, cfg := b.boot.cfg
                                  erases := b.boot.erases, placed := b.boot.placed }
      draws := b.draws, out := b.out }
  let b' := b'.ledgerBack b.cells.flashRegs
  let b' := { b' with frozen := b'.regs }
  ((b'.wr Reg.EVT_NEXT_NUM b.evt.mark).ringShow).flag Reg.SYS_CMD_STAT_RESTARTED true

/-! ### Causes (R397, R399, R400) -/

/-- BROWNOUT (R393). -/
def Block.brownout (b : Block) : Block := if b.released 0 then b.errorReset 1 else b

/-- RESET_N_PIN. -/
def Block.resetPin (b : Block) : Block := if b.released 0 then b.resetDue 2 else b

/-- WATCHDOG_EXPIRY: a core reset, or within 10 s of one it caused a system reset. -/
def Block.watchdogExpiry (b : Block) : Block :=
  if !b.cores then b
  else
    let again := match b.boot.wdAt with
      | some t => decide (b.tb.up ≤ t + 10000 * msPs)
      | none => false
    let b := b.raise { source := 35 }
    if again then b.errorReset 3
    else (b.updBoot fun x => { x with wdAt := some b.tb.up }).coreReset 0

/-- LOCKSTEP_MISMATCH (R14). -/
def Block.lockstepMismatch (b : Block) : Block :=
  if !b.cores then b else (b.raise { source := 34 }).coreReset 2

/-- STROKE_WATCH_EXPIRY: no tick within twice P_w and 10 µs of the last (R399). -/
def Block.strokeWatchExpiry (b : Block) : Block :=
  if !(b.strk.ticking && b.boot.configured) then b
  else
    let limit := (2 * max (b.rd Reg.SYS_STROKE_NS_PERIOD) b.strk.watchP * 1000) + 10 * usPs
    if b.strk.watchFrom + limit < b.tb.up then b.errorReset 6
    else (b.untilUp (b.strk.watchFrom + limit)).errorReset 6

/-- START_TIMEOUT: D7 has not been released within 5 s of D2; plinth mode holds D7 and is not timed. -/
def Block.startTimeout (b : Block) : Block :=
  if !b.released 2 || b.released 7 || b.boot.plinth || b.pair.waiting then b
  else (b.untilUp (b.boot.d2At + b.boot.waited + 5000 * msPs)).errorReset 10

/-- The management region, whose damage resets the cores. -/
def sramCore : SramRegion → Bool
  | .management => true
  | .configInForce => false
  | .maquette => false
  | .imageFilling => false
  | .imageFrozen => false
  | .armature => false
  | .edgeFrame => false
  | .dmaTelemetry => false
  | .eventStaging => false

/-- The regions of critical state. -/
def sramCritical : SramRegion → Bool
  | .configInForce => true
  | .armature => true
  | .edgeFrame => true
  | .management => false
  | .maquette => false
  | .imageFilling => false
  | .imageFrozen => false
  | .dmaTelemetry => false
  | .eventStaging => false

/-- An uncorrectable SRAM error (R400).  `inj`: an injection caused it. -/
def Block.sramUncorr (r : SramRegion) (addr : Nat) (inj : Bool) (b : Block) : Block :=
  let b := b.raise { source := 3, extra := addr, injected := inj }
  if sramCritical r then b.errorReset 7
  else if sramCore r then (if b.cores then b.coreReset 3 else b)
  else if r == .maquette then (b.disarm).maqReset
  else b

/-- The registers loaded from the option area (R94, R264, R300, R332, R380, R383, R417, R420, R433). -/
def optionReg (a : Nat) : Bool :=
  [0x200, 0x204, 0x208, 0x10100, 0x400A04, 0x500008, 0x50000C, 0x60080C, 0x720200, 0x800300].contains a
    || bandReg a || decide (0x710100 ≤ a ∧ a < 0x710120) || decide (0x800400 ≤ a ∧ a < 0x800500)

/-- The registers of critical state (R444). -/
def criticalReg (a : Nat) : Bool :=
  (match fieldsAt a with
   | some fs => fs.any Field.isCr
   | none => false)
  || optionReg a
  || [0x110, 0x114, 0x400, 0x444, 0x488, 0x400800, 0x400804, 0x410904, 0x700030, 0x710000].contains a
  || decide (0x30000 ≤ a ∧ a ≤ 0x3001C) || decide (0x700080 ≤ a ∧ a < 0x7000A0) || decide (0x701000 ≤ a ∧ a < 0x701400)

/-- A register parity error: an error in critical state resets the module; any other register is taken again from
    its source (R400, R444).  The check of a critical register may have been injected (R355). -/
def Block.regParity (addr : Nat) (b : Block) : Block :=
  let inj := criticalReg addr && b.injects 1 0
  let b := (if inj then b.checked 1 0 else b).raise { source := 4, injected := inj }
  if criticalReg addr then b.errorReset 8 else b

/-! ### Meanings -/

/-- POWER_ON_RESET (R396). -/
def execPowerOnReset (s : State) : Host.Outcome State Fault Refusal := s.onBlk (·.powerOnReset)
/-- BROWNOUT (R393). -/
def execBrownout (s : State) : Host.Outcome State Fault Refusal := s.onBlk (·.brownout)
/-- RESET_N_PIN (R397). -/
def execResetNPin (s : State) : Host.Outcome State Fault Refusal := s.onBlk (·.resetPin)
/-- SYSTEM_RESET_PREP (R398). -/
def execSystemResetPrep (s : State) : Host.Outcome State Fault Refusal := s.onBlk (·.resetTakes)
/-- WATCHDOG_EXPIRY (R399). -/
def execWatchdogExpiry (s : State) : Host.Outcome State Fault Refusal := s.onBlk (·.watchdogExpiry)
/-- LOCKSTEP_MISMATCH (R14). -/
def execLockstepMismatch (s : State) : Host.Outcome State Fault Refusal := s.onBlk (·.lockstepMismatch)
/-- SRAM_UNCORR (R400). -/
def execSramUncorr (r : SramRegion) (addr : Word) (s : State) : Host.Outcome State Fault Refusal :=
  s.onBlk (·.sramUncorr r addr.toNat false)
/-- REG_PARITY (R444). -/
def execRegParity (addr : Word) (s : State) : Host.Outcome State Fault Refusal := s.onBlk (·.regParity addr.toNat)
/-- STROKE_WATCH_EXPIRY (R399). -/
def execStrokeWatchExpiry (s : State) : Host.Outcome State Fault Refusal := s.onBlk (·.strokeWatchExpiry)
/-- START_TIMEOUT (R399). -/
def execStartTimeout (s : State) : Host.Outcome State Fault Refusal := s.onBlk (·.startTimeout)

end Sys2Proof.Machine
end

