-- ==== Sys2Proof/Machine/Images.lean ====
section
/-! DEFINITION. Signed images (R86 to R88, R412 to R419): staging, verification, activation, owner keys and the
    attestation report. -/

namespace Sys2Proof.Machine

/-! ### What an image says (R412, R414) -/

/-- The image type of a number. -/
def imgOf (n : Nat) : Option ImgType :=
  match n with
  | 0 => some .firmware
  | 1 => some .option
  | 2 => some .maquette
  | _ => none

/-- The largest image of a type, in bytes (R86). -/
def imgLimit : ImgType → Nat
  | .firmware => 67108864
  | .option => 524288
  | .maquette => 8388608

/-- The part code "GV9192-A" (R91). -/
def partCode : List Byte := [0x47, 0x56, 0x39, 0x31, 0x39, 0x32, 0x2D, 0x41]

/-- `n` bytes from `o`. -/
def cut (bs : List Byte) (o n : Nat) : List Byte := (bs.drop o).take n

/-- `n` bytes of 0 stand at `o`. -/
def zeroAt (bs : List Byte) (o n : Nat) : Bool := cut bs o n == zeros n

/-- The words of one record. -/
def recordWords (start : Nat) : Nat → List Byte → List (Nat × Nat)
  | 0, _ => []
  | n + 1, bs => (start, field bs 0 4) :: recordWords (start + 4) n (bs.drop 4)

/-- The words that the records of a payload name, ascending and apart; none where a record is malformed.  `least`: the
    lowest address the next record may start at.  The first argument bounds the records. -/
def payloadWords : Nat → Nat → List Byte → Option (List (Nat × Nat))
  | _, _, [] => some []
  | 0, _, _ => none
  | fuel + 1, least, bs =>
    let a := field bs 0 4
    let n := field bs 4 4
    if bs.length < 8 ∨ n < 1 ∨ 4096 < n ∨ a % 4 ≠ 0 ∨ a < least ∨ bs.length < 8 + 4 * n then none
    else match payloadWords fuel (a + 4 * n) (bs.drop (8 + 4 * n)) with
      | some ws => some (recordWords a n (bs.drop 8) ++ ws)
      | none => none

/-- A field of an option image: its default where no record names its register (R414). -/
def optOf (ws : List (Nat × Nat)) (f : Field) : Nat :=
  match ws.find? fun w => w.1 == f.addr with
  | some w => w.2 / 2 ^ f.lo % 2 ^ f.width
  | none => f.reset

/-- A word is named. -/
def named (ws : List (Nat × Nat)) (a : Nat) : Bool := ws.any fun w => w.1 == a

/-- A field of an option image lies between two values. -/
def optIn (ws : List (Nat × Nat)) (f : Field) (lo hi : Nat) : Bool := decide (lo ≤ optOf ws f ∧ optOf ws f ≤ hi)

/-- The ranges and requirements on option fields (R94, R380, R383). -/
def optionRules (ws : List (Nat × Nat)) : Bool :=
  let w := optOf ws Reg.THRM_OPT_WARN_C
  let t := optOf ws Reg.THRM_OPT_THROTTLE_C
  let s := optOf ws Reg.THRM_OPT_SHUTDOWN_C
  (optOf ws Reg.SYS_JARVAS_CFG_UDP_EN == 0 || optOf ws Reg.SYS_JARVAS_IP_IPV4 != 0)
    && optIn ws Reg.SAFE_OPT0_DISC_MS 1 500 && optIn ws Reg.SAFE_OPT1_T_RAMP_MS 10 10000
    && optIn ws Reg.SAFE_OPT1_P_MARGIN_KW 1 15000
    && named ws 0x71010C && optIn ws Reg.SAFE_OPT3_V_LSB 1 1000000
    && named ws 0x710110 && optIn ws Reg.SAFE_OPT4_I_LSB 1 1000000
    && (optOf ws Reg.SAFE_OPT0_SF_EN == 0 || optOf ws Reg.SAFE_OPT6_CONN_ID != 0)
    && optIn ws Reg.SAFE_OPT7_WD_MS 5 1000 && optIn ws Reg.SAFE_OPT7_WIN_MS 1 50
    && decide (optOf ws Reg.SAFE_OPT7_WIN_MS < optOf ws Reg.SAFE_OPT7_WD_MS)
    && decide (85 ≤ w ∧ w ≤ t ∧ t + 5 ≤ s ∧ s ≤ 150)

/-- Does a register hold a CR field? -/
def crWord (a : Nat) : Bool :=
  match fieldsAt a with
  | some fs => fs.any Field.isCr
  | none => false

/-- The payload is good, but for the key operations (R414). -/
def contentOf (t : ImgType) (ws : Option (List (Nat × Nat))) : Bool :=
  match t, ws with
  | .firmware, _ => true
  | _, none => false
  | .option, some ws => (ws.all fun w => optionReg w.1) && optionRules ws
  | .maquette, some ws => ws.all fun w => crWord w.1

/-- What the bytes of an image of a type say (R412 to R414). -/
def imageFacts (t : ImgType) (bs : List Byte) : Img :=
  let l := field bs 16 4
  let payload := cut bs 128 l
  let head := bs.take 128
  let ownerKey := cut bs (128 + l) 57
  let nymKey := cut bs (304 + l) 57
  let ws := match t with
    | .firmware => some []
    | .option => payloadWords (payload.length / 8 + 1) 0 payload
    | .maquette => payloadWords (payload.length / 8 + 1) 0 payload
  { bytes := bs, size := 480 + l, version := field bs 20 4, key := field bs 24 1
    keyDigest := Config.shake256 ownerKey, digest := Config.shake256 head
    formOk := field bs 0 4 == 0x4756494D && field bs 4 1 == 1 && field bs 5 1 == imgNum t && zeroAt bs 6 2
      && cut bs 8 8 == partCode && zeroAt bs 25 7 && zeroAt bs 96 32 && l % 4 == 0 && bs.length == 480 + l
      && zeroAt bs (185 + l) 3 && zeroAt bs (302 + l) 2 && zeroAt bs (361 + l) 3 && zeroAt bs (478 + l) 2
      && (Config.shake256 payload).toNat == field bs 32 64
    contentOk := contentOf t ws
    ownerOk := Config.ed448Verify ownerKey head (cut bs (188 + l) 114)
    nymOk := Config.shake256 nymKey == Config.rootDigest && Config.ed448Verify nymKey head (cut bs (364 + l) 114)
    words := ws.getD [], verified := false }

/-! ### Owner keys (R416, R417) -/

/-- A digest held in sixteen words, the first the most significant. -/
def digestOf (w : Nat → Nat) : Nat := (List.range 16).foldl (fun a j => a * 2 ^ 32 + w j) 0

/-- Show a digest in sixteen words. -/
def Block.showDigest (f : Nat → Field) (d : Nat) (b : Block) : Block := b.each 16 fun j b => b.wr (f j) (d / 2 ^ (32 * (15 - j)))

/-- The key digest a slot holds. -/
def Block.slotDigest (b : Block) (k : Nat) : Nat := digestOf fun j => b.rd (Reg.NVM_KEYk_Dj_DIGEST k j)

/-- Owner key slot `k` is programmed, or revoked. -/
def Block.programmed (b : Block) (k : Nat) : Bool := b.bit Reg.NVM_KEY_STAT_PROGRAMMED k
/-- Revoked. -/
def Block.revoked (b : Block) (k : Nat) : Bool := b.bit Reg.NVM_KEY_STAT_REVOKED k

/-- The digest an option image enrols in a slot. -/
def enrolDigest (ws : List (Nat × Nat)) (k : Nat) : Nat := digestOf fun j => optOf ws (Reg.NVM_OPT_ENROLk_Dj_DIGEST k j)

/-- An option image enrols, or revokes, slot `k`. -/
def enrols (ws : List (Nat × Nat)) (k : Nat) : Bool := (optOf ws Reg.NVM_OPT_KEYOP_ENROL).testBit k
/-- Revokes. -/
def revokes (ws : List (Nat × Nat)) (k : Nat) : Bool := (optOf ws Reg.NVM_OPT_KEYOP_REVOKE).testBit k

/-- The rules on key operations (R417). -/
def Block.keyOpsOk (b : Block) (i : Img) : Bool :=
  let ws := i.words
  ((List.range 4).all fun k =>
    !(enrols ws k && (b.revoked k || revokes ws k || (b.programmed k && b.slotDigest k != enrolDigest ws k)))
      && !(revokes ws k && i.key == k))
  && (((List.range 4).all fun k => !enrols ws k && !revokes ws k)
    || (List.range 4).any fun k => (b.programmed k || enrols ws k) && !(b.revoked k || revokes ws k))

/-- The first claim: no slot is programmed, and the image enrols, in the slot its header names, the owner key it
    carries (R416). -/
def Block.firstClaim (b : Block) (t : ImgType) (i : Img) : Bool :=
  b.rd Reg.NVM_KEY_STAT_PROGRAMMED == 0 && t == .option && decide (i.key < 4) && enrols i.words i.key
    && enrolDigest i.words i.key == i.keyDigest.toNat

/-- The checks of R413 in order: 0, or the SIG_FAIL detail of the first that fails. -/
def Block.imageCheck (b : Block) (t : ImgType) (i : Img) : Nat :=
  let any := b.rd Reg.NVM_KEY_STAT_PROGRAMMED != 0
  if !i.formOk then 1
  else if decide (i.key < 4) && b.revoked i.key then 3
  else if any && !(decide (i.key < 4) && b.programmed i.key && b.slotDigest i.key == i.keyDigest.toNat) then 2
  else if i.key != 255 && !i.ownerOk then 2
  else if ((!any && !b.firstClaim t i) || t == .firmware) && !i.nymOk then 2
  else if !i.contentOk || (t == .option && !b.keyOpsOk i) then 1
  else 0

/-! ### Staging (R86) -/

/-- The staged image of a type. -/
def Block.stagedOf (b : Block) (t : ImgType) : Option Img := (b.boot.staged.find? fun e => e.1 == imgNum t).map (·.2)

/-- Change what is staged. -/
def Block.setStaged (t : ImgType) (i : Option Img) (b : Block) : Block :=
  (b.updBoot fun x =>
    { x with staged := match i with
        | some i => SMap.insert (imgNum t) i (SMap.erase (imgNum t) x.staged)
        | none => SMap.erase (imgNum t) x.staged }).stageShow

/-- What stood where an image is staged is gone, and what is written there is no image until it verifies (R421). -/
def Block.eraseSpare (t : ImgType) (b : Block) : Block :=
  let k := b.spareOf t
  match t with
  | .firmware => (b.updBoot fun x => { x with fw := SMap.erase k x.fw }).slotShow k none false
  | .option => b.updBoot fun x => { x with opt := SMap.erase k x.opt }
  | .maquette => b.updBoot fun x => { x with cfg := SMap.erase k x.cfg }

/-- The first flash block of where an image is staged: all of its blocks are erased together, as staging begins (R437, log
    entry 143). -/
def Block.spareBlock (b : Block) (t : ImgType) : Nat :=
  let k := b.spareOf t
  match t with
  | .firmware => 16 + 512 * k
  | .option => 8 + 4 * k
  | .maquette => 1040 + 64 * k

/-- An image with nothing known of it but its bytes. -/
def rawImage (bs : List Byte) : Img := { (default : Img) with bytes := bs, key := 255 }

/-- IMAGE_WRITE: the data joins the staged image, and the reply waits until it is programmed. -/
def Block.imageWrite (type off : Nat) (data : List Byte) (b : Block) : Block × Ans :=
  match imgOf type with
  | none => (b, badAddress)
  | some t =>
    let old := ((b.stagedOf t).map (·.bytes)).getD []
    if off ≠ 0 ∧ off ≠ old.length then (b, denied 1)
    else if imgLimit t < off + data.length then (b, badAddress)
    else
      let b := b.eraseSpare t
      let b := if off = 0 then b.blockErased (b.spareBlock t) else b
      let bs := if off = 0 then data else old ++ data
      ((b.setStaged t (some (rawImage bs))).fwBegin 11 (cdiv data.length 256), .wait (.program t))

/-- IMAGE_WRITE_TIMEOUT: the write has not completed within 20 ms. -/
def Block.imageWriteTimeout (t : ImgType) (b : Block) : Block :=
  if b.headWait = some (.program t) then ((b.setStaged t none).fwEnd 11 false).finish stTimeout 0 [] else b

/-! ### Verification and activation (R87, R413, R415) -/

/-- IMAGE_VERIFY. -/
def Block.imageVerify (type : Nat) (b : Block) : Block × Ans :=
  match imgOf type with
  | none => (b, badAddress)
  | some t => match b.stagedOf t with
    | some i => (b.fwBegin 11 (cdiv i.bytes.length 256), .wait (.verify t))
    | none => (b, denied 1)

/-- The staged image is read for its checks by channel 11: an injected check fails that read, which is retried once under
    ERR_MODE 1 and ends the command with TIMEOUT where it fails again or the engine halts (R355, R422, R431 to R433; log
    entry 123). -/
def Block.verifyRead (b : Block) : Block := b.flashReads 11 none

/-- IMAGE_VERIFY_DONE: channel 11 has read the image; it stands still while the engine is halted (R432). -/
def Block.imageVerifyDone (t : ImgType) (b : Block) : Block :=
  if b.headWait ≠ some (.verify t) ∨ b.on Reg.DMA_STAT_HALTED then b
  else
  let b := (b.bulkShare 11).verifyRead
  match b.stagedOf t, decide (b.headWait = some (.verify t)) with
  | some s, true =>
    let b := b.fwEnd 11 true
    let i := imageFacts t s.bytes
    let d := b.imageCheck t i
    if d ≠ 0 then
      let b := b.setStaged t (some { i with verified := false })
      (if t == .firmware then b.slotShow (b.spareOf t) none false else b).finish stSigFail d []
    else
      let b := b.setStaged t (some { i with verified := true })
      let b := if t == .firmware then b.slotShow (b.spareOf t) (some i) true else b
      b.finish stOk 0 (be 1 (imgNum t) ++ be 1 i.key ++ zeros 2 ++ be 4 i.size ++ be 64 i.digest.toNat)
  | _, _ => b

/-- The words of an image as values of the CR fields (R414). -/
def imageBank (ws : List (Nat × Nat)) : Bank :=
  ws.foldl (fun m w =>
    (((fieldsAt w.1).getD []).filter Field.isCr).foldl (fun m f => Bank.setFld f (w.2 / 2 ^ f.lo) m) m) []

/-- The words of a bank's fields. -/
def bankWords (m : Bank) : List Nat := (m.map fun e => e.1 / 32 * 4).eraseDups

/-- An activated maquette image replaces every CR value of the maquette (R87).  Dirty are the words it names and the
    words whose value changes. -/
def Block.replaceMaq (ws : List (Nat × Nat)) (b : Block) : Block :=
  let m := imageBank ws
  let changed := (bankWords (m ++ b.cst.maq)).filter fun a =>
    ((fieldsAt a).getD []).any fun f => f.isCr && Bank.fld m f != b.maq f
  let all := ((b.cst.dirty ++ ws.map (·.1) ++ changed).eraseDups).mergeSort
  (b.updCst fun c => { c with maq := m, dirty := all }).wr Reg.SYS_MAQ_STAT_DIRTY_WORDS all.length

/-- The staged image becomes the one in use: the boot record is written (R18, R415).  The digest of the configuration store's
    image reads 0 while the default is in force (R419, R421; log entry 131). -/
def Block.activate (t : ImgType) (i : Img) (b : Block) : Block :=
  let k := b.spareOf t
  match t with
  | .firmware => (b.updBoot fun x => { x with fw := SMap.insert k i (SMap.erase k x.fw) }).wr Reg.RST_BOOT_ACTIVE k
  | .option => (b.updBoot fun x => { x with opt := SMap.insert k i (SMap.erase k x.opt) }).wr Reg.RST_BOOT_OPT_COPY k
  | .maquette =>
    let b := b.updBoot fun x => { x with cfg := SMap.insert k i (SMap.erase k x.cfg), cfgKey := i.key }
    let b := b.wr Reg.RST_BOOT_CFG_HALF k
    (if b.on Reg.RST_CAUSE_CFG_DEFAULT then b else b.showDigest Reg.NVM_DIG_CFGj_DIGEST i.digest.toNat).replaceMaq i.words

/-- IMAGE_ACTIVATE: the reply waits until the boot record is written. -/
def Block.imageActivate (type : Nat) (b : Block) : Block × Ans :=
  match imgOf type with
  | none => (b, badAddress)
  | some t =>
    match b.stagedOf t with
    | none => (b, denied 1)
    | some i =>
      if !i.verified then (b, denied 1)
      else if t == .maquette && b.cst.armed.isSome then (b, .done stLocked 0 [])
      else (b.fwBegin 11 1, .wait (.activate t))

/-- IMAGE_PROGRAM_DONE: an IMAGE_WRITE's data is programmed, or the boot record of an IMAGE_ACTIVATE is written; channel 11
    stands still while the engine is halted (R432). -/
def Block.imageProgramDone (t : ImgType) (b : Block) : Block :=
  if b.on Reg.DMA_STAT_HALTED then b
  else if b.headWait = some (.activate t) then
    let b := (b.bulkShare 11).fwEnd 11 true
    match b.stagedOf t with
    | some i => ((b.activate t i).setStaged t none).finish stOk 0 (be 1 (imgNum t) ++ zeros 3)
    | none => b.finish stDenied 1 []
  else if b.headWait = some (.program t) then
    ((b.bulkShare 11).fwEnd 11 true).finish stOk 0
      (be 1 (imgNum t) ++ zeros 3 ++ be 4 (((b.stagedOf t).map (·.bytes.length)).getD 0))
  else b

/-! ### Attestation (R419) -/

/-- The report but for its signature. -/
def Block.reportBody (b : Block) (nonce : List Byte) : List Byte :=
  let digest (f : Nat → Field) := (List.range 16).flatMap fun j => be 4 (b.rd (f j))
  be 4 0x47564154 ++ be 1 1
    ++ be 1 ((if b.boot.plinth then 1 else 0) + 2 * b.rd Reg.RST_CAUSE_FALLBACK + 4 * b.rd Reg.RST_CAUSE_CFG_DEFAULT)
    ++ be 1 nonce.length ++ be 1 (b.rd Reg.RST_BOOT_RUNNING) ++ be 16 Config.serial.toNat
    ++ be 4 b.runningVersion
    ++ digest Reg.NVM_DIG_FWj_DIGEST ++ digest Reg.NVM_DIG_OPTj_DIGEST ++ digest Reg.NVM_DIG_CFGj_DIGEST
    ++ be 4 (b.rd Reg.NVM_KEY_STAT_PROGRAMMED + 16 * b.rd Reg.NVM_KEY_STAT_REVOKED + 2 ^ 8 * b.boot.fwKey
        + 2 ^ 16 * b.boot.optKey + 2 ^ 24 * b.boot.cfgKey)
    ++ be 4 (b.ownWord 0x10000 ((fieldsAt 0x10000).getD [])) ++ be 1 (b.rd Reg.RST_BOOT_FAILS) ++ zeros 3
    ++ be 4 (b.rd Reg.RST_COUNT_STARTS + 2 ^ 16 * b.rd Reg.RST_COUNT_CORE) ++ be 4 (b.rd Reg.SYS_CAST_COUNT_COUNT)
    ++ be 4 (b.rd Reg.EVT_NEXT_NUM) ++ zeros 4 ++ be 8 b.strk.num ++ be 8 b.ns
    ++ (nonce ++ zeros (64 - nonce.length))
    ++ identityBytes

/-- ATTEST. -/
def Block.attest (nonce : List Byte) (b : Block) : Block × Ans :=
  let body := b.reportBody nonce
  (b, ok (body ++ be 114 (Config.identitySign body).toNat ++ zeros 2))

/-! ### Meanings -/

/-- The data of an IMAGE_WRITE has a length R69 allows. -/
def imageDataFits (n : Nat) : Bool := decide (4 ≤ n ∧ n ≤ 1392 ∧ n % 4 = 0)

/-- IMAGE_WRITE (R86). -/
def execImageWrite (rq : Req) (type : BitVec 8) (off : Word) (data : List Byte) (s : State) :
    Host.Outcome State Fault Refusal :=
  s.onBlk (·.serve rq 0x80 (imageDataFits data.length) false (·.imageWrite type.toNat off.toNat data))
/-- IMAGE_VERIFY (R413). -/
def execImageVerify (rq : Req) (type : BitVec 8) (s : State) : Host.Outcome State Fault Refusal :=
  s.onBlk (·.serve rq 0x81 true false (·.imageVerify type.toNat))
/-- IMAGE_ACTIVATE (R87, R415). -/
def execImageActivate (rq : Req) (type : BitVec 8) (s : State) : Host.Outcome State Fault Refusal :=
  s.onBlk (·.serve rq 0x82 true (type.toNat == 2) (·.imageActivate type.toNat))
/-- ATTEST (R88, R419). -/
def execAttest (rq : Req) (nonce : List Byte) (s : State) : Host.Outcome State Fault Refusal :=
  s.onBlk (·.serve rq 0x83 (decide (16 ≤ nonce.length ∧ nonce.length ≤ 64)) false (·.attest nonce))
/-- IMAGE_PROGRAM_DONE (R86). -/
def execImageProgramDone (t : ImgType) (s : State) : Host.Outcome State Fault Refusal := s.onBlk (·.imageProgramDone t)
/-- IMAGE_WRITE_TIMEOUT (R86). -/
def execImageWriteTimeout (t : ImgType) (s : State) : Host.Outcome State Fault Refusal := s.onBlk (·.imageWriteTimeout t)
/-- IMAGE_VERIFY_DONE (R87). -/
def execImageVerifyDone (t : ImgType) (s : State) : Host.Outcome State Fault Refusal := s.onBlk (·.imageVerifyDone t)

end Sys2Proof.Machine
end

