-- ==== Sys2Proof/Machine/Boot.lean ====
section
/-! DEFINITION. Start-up (R404 to R411): domain release, the start decision and the loader, the start-up
    configuration, plinth mode, the end of a start, and the restart after a core reset. -/

namespace Sys2Proof.Machine

/-! ### The loader (R405, R406, R410) -/

/-- Plinth mode is entered, for a reason of R410; scan mode runs (R300). -/
def Block.enterPlinth (why : Nat) (b : Block) : Block :=
  let b := (b.updBoot fun x => { x with plinth := true, why := why }).flag Reg.RST_CAUSE_PLINTH true
  let b := b.flag Reg.SYS_CMD_STAT_PLINTH true
  if b.adc.on then b else b.adcPowerUp

/-- An image of a slot, copy or half that verifies. -/
def Block.goodImage (b : Block) (t : ImgType) (m : SMap Img) (k : Nat) : Option Img :=
  match m.find? fun e => e.1 == k with
  | some e => if b.imageCheck t e.2 = 0 then some e.2 else none
  | none => none

/-- The registers that the loader loads from the option area; the firmware copies the band table (R332). -/
def optionRegs : List Nat :=
  [0x200, 0x204, 0x208, 0x10100, 0x400A04, 0x500008, 0x50000C, 0x60080C, 0x720200, 0x800300]
    ++ (List.range 8).map (fun k => 0x710100 + 4 * k)
    ++ (List.range 64).map fun k => 0x800400 + 4 * k

/-- Every option field takes its value from the image, or its default (R406, R414). -/
def Block.loadFields (ws : List (Nat × Nat)) (b : Block) : Block :=
  b.eachOf optionRegs fun a b => b.eachOf ((fieldsAt a).getD []) fun f b => b.wr f (optOf ws f)

/-- Step 1 of R407: the band table is copied from the option copy that was loaded (R332). -/
def Block.copyBands (b : Block) : Block :=
  let k := b.rd Reg.RST_BOOT_OPT_COPY
  let i := SMap.look default b.boot.opt (if b.on Reg.RST_CAUSE_OPT_FALLBACK then 1 - k else k)
  let b := b.each 16 fun k b =>
    b.eachOf [Reg.CLK_BANDk_PLL k, Reg.CLK_BANDk_BAND k, Reg.CLK_BANDk_CV0 k] fun f b => b.wr f (optOf i.words f)
  { b with clk := { b.clk with copied := true } }

/-- A fuse of key slot `k` is burnt (R417): whether it reads back is a free value (log entry 7); one that does not leaves
    the slot as it was and shows in BURN_FAIL. -/
def Block.burn (k : Nat) (done : Block → Block) (b : Block) : Block :=
  if b.free % 2 = 1 then done b.drawn else (b.drawn).setBit Reg.NVM_KEY_STAT_BURN_FAIL k true

/-- The key operations of the option image (R417): a slot that is enrolled or revoked already stays as it is. -/
def Block.keyOps (ws : List (Nat × Nat)) (b : Block) : Block :=
  b.each 4 fun k b =>
    let b := if enrols ws k && !b.programmed k then
        b.burn k fun b => (b.setBit Reg.NVM_KEY_STAT_PROGRAMMED k true).showDigest (Reg.NVM_KEYk_Dj_DIGEST k)
          (enrolDigest ws k)
      else b
    if revokes ws k && !b.bit Reg.NVM_KEY_STAT_REVOKED k then
      b.burn k (·.setBit Reg.NVM_KEY_STAT_REVOKED k true)
    else b

/-- Steps 2 to 4 of R406 with the image of the copy loaded: the brake path and scan mode follow the option area. -/
def Block.loadOptions (i : Img) (b : Block) : Block :=
  let b := ((b.keyOps i.words).loadFields i.words).showDigest Reg.NVM_DIG_OPTj_DIGEST i.digest.toNat
  let b := b.updBoot fun x =>
    { x with loaded := true, optLoaded := true, optKey := i.key
             masks := (b.rd Reg.ADC_SCAN_MASK0_MASK, b.rd Reg.ADC_SCAN_MASK1_MASK) }
  (b.powerChannels).adcPowerUp

/-- The firmware that runs (R405). -/
def Block.runSlot (slot : Nat) (i : Img) (b : Block) : Block :=
  let b := (b.wr Reg.RST_BOOT_RUNNING slot).flag Reg.RST_CAUSE_FALLBACK (slot != b.rd Reg.RST_BOOT_ACTIVE)
  (b.showDigest Reg.NVM_DIG_FWj_DIGEST i.digest.toNat).updBoot fun x => { x with fwKey := i.key }

/-- Step 5 of R406: the firmware slots as R405 decides, and what NVM_SLOTk_STAT shows of each verification made (R421);
    `c`: the failed starts before this one. -/
def Block.pickFirmware (c : Nat) (b : Block) : Block :=
  let active := b.rd Reg.RST_BOOT_ACTIVE
  let slot := if c = 2 then 1 - active else active
  let shown (k : Nat) (ok : Bool) (b : Block) : Block := b.flag (Reg.NVM_SLOTk_STAT_VALID k) ok
  match b.goodImage .firmware b.boot.fw slot, b.goodImage .firmware b.boot.fw (1 - slot) with
  | some i, _ => (shown slot true b).runSlot slot i
  | none, some i => (shown (1 - slot) true (shown slot false b)).runSlot (1 - slot) i
  | none, none => (shown (1 - slot) false (shown slot false b)).enterPlinth 2

/-- The loader (R405, R406): the start is decided and counted, the options are loaded, the firmware is verified. -/
def Block.loader (b : Block) : Block :=
  let c := b.rd Reg.RST_BOOT_FAILS
  if 3 ≤ c then b.enterPlinth 1
  else
    let b := b.wr Reg.RST_BOOT_FAILS (c + 1)
    let k := b.rd Reg.RST_BOOT_OPT_COPY
    match b.goodImage .option b.boot.opt k, b.goodImage .option b.boot.opt (1 - k) with
    | some i, _ => (b.loadOptions i).pickFirmware c
    | none, some i => ((b.flag Reg.RST_CAUSE_OPT_FALLBACK true).loadOptions i).pickFirmware c
    | none, none => b.enterPlinth 3

/-! ### Domain release (R404, R409) -/

/-- The part of a domain's condition that no override skips. -/
def Block.releaseCond (b : Block) (d : Nat) : Bool :=
  match d with
  | 2 => b.on Reg.CLK_STAT_CORE_LOCK && b.on Reg.CLK_STAT_MGMT_LOCK
  | 7 => b.boot.configured
  | _ => true

/-- The monitors that a domain waits for. -/
def monitorsOf : Nat → List Nat
  | 0 => []
  | 1 => [0]
  | 2 => [1, 2]
  | 3 => [1]
  | 4 => [4]
  | 5 => [1]
  | 6 => [2]
  | _ => [1]

/-- A domain's monitors have passed. -/
def Block.monitorsPass (b : Block) (d : Nat) : Bool := (monitorsOf d).all fun m => !b.clk.failed.contains m

/-- The domain that a start waits for once `d` is released; in plinth mode D5 and D7 are held (R410). -/
def Block.domainAfter (b : Block) (d : Nat) : Nat :=
  if b.boot.plinth && d == 4 then 6 else if (b.boot.plinth && d == 6) || d == 7 then 15 else d + 1

/-- The gap before the next release in ps: reference cycles of 40 ns (R404). -/
def Block.releaseGap (b : Block) : Nat := (if b.boot.loaded then b.rd Reg.RST_OPT_GAP else 512) * 40000

/-- The cores start: the first record is SYS_START, before what hardware has raised since the reset; plinth mode is
    announced, and the firmware that runs otherwise copies the band table (R340, R407, R410; log entry 122). -/
def Block.coresStart (b : Block) : Block :=
  let early := b.evt.held
  let b := (b.updEvt fun e => { e with held := [] }).note
    { source := 32, extra := b.ownWord 0x10000 ((fieldsAt 0x10000).getD []) }
  let b := b.updEvt fun e => { e with held := e.held ++ early }
  if b.boot.plinth then b.note { source := 38, code := b.boot.why } else b.copyBands

/-- What a domain does once it is released. -/
def Block.domainStarts (d : Nat) (b : Block) : Block :=
  match d with
  | 2 => (b.updBoot fun x => { x with d2At := b.tb.up }).loader
  | 3 => b.updTb fun t => { t with now := 0, run := true }
  | 6 => b.coresStart
  | 7 => ((b.updBoot fun x => { x with d7At := b.tb.up }).powerChannels).autoWatch
  | _ => b

/-- The always-on uptime counts from the release of D0 (R370, R404). -/
def Block.uptimeStarts (b : Block) : Block :=
  { b with tb := { b.tb with up := 0 } }.updSafe fun s =>
    { s with diffA := s.diffA.map fun _ => 0, diffB := s.diffB.map fun _ => 0, autoSince := s.autoSince.map fun _ => 0
             resetAt := s.resetAt.map fun _ => 0 }

/-- DOMAIN_RELEASE: the domain that the start waits for, after its gap, once its condition holds or the debug port
    forces it.  P4 releases none. -/
def Block.domainRelease (d : Nat) (b : Block) : Block :=
  let pass := b.monitorsPass d
  let forced := decide (2 ≤ d) && b.bit Reg.RST_DBG_OVERRIDE d
  if b.released d || b.rd Reg.RST_STAGE_WAIT ≠ d || b.rd Reg.SYS_PWR_STAT_STATE = 4 || !b.releaseCond d
      || !(pass || forced) then b
  else
    let b := if d = 0 then b.uptimeStarts else b.untilUp (b.boot.releasedAt + b.releaseGap)
    let b := (b.setBit Reg.RST_STAGE_RELEASED d true).updBoot fun x => { x with releasedAt := b.tb.up }
    let b := if pass then b else (b.setBit Reg.CLK_EARLY_DOMAINS d true).raise { source := 46 }
    let b := b.domainStarts d
    b.wr Reg.RST_STAGE_WAIT (b.domainAfter d)

/-- DEBUG_OVERRIDE: with DBG_EN_N low, the debug port sets bits for D2 to D7. -/
def Block.debugOverride (mask : Nat) (b : Block) : Block :=
  (b.eachOf [2, 3, 4, 5, 6, 7] fun d b => if mask.testBit d then b.setBit Reg.RST_DBG_OVERRIDE d true else b).flag
    Reg.RST_DBG_DBG_EN true

/-! ### The start-up configuration (R407) -/

/-- The maquette of a start, and whether it is the default: the current configuration store image, where it verifies
    and validates as a cast. -/
def Block.startMaq (b : Block) : Block × Bool :=
  match b.goodImage .maquette b.boot.cfg (b.rd Reg.RST_BOOT_CFG_HALF) with
  | none => (b.updCst fun c => { c with maq := [] }, true)
  | some i =>
    let b := b.updCst fun c => { c with maq := imageBank i.words }
    match b.validate with
    | some _ => ((b.castErr 0 0).updCst fun c => { c with maq := [] }, true)
    | none =>
      let b := (b.castErr 0 0).showDigest Reg.NVM_DIG_CFGj_DIGEST i.digest.toNat
      (b.updBoot fun x => { x with cfgKey := i.key }, false)

/-- START_CONFIG_LOAD: the configuration is placed for the first boundary at or after v + 1,000 ns.  A module of a
    pair holds back its first tick (R145). -/
def Block.startConfigLoad (b : Block) : Block :=
  if !b.cores || b.boot.plinth || !b.released 5 || b.boot.configured || b.boot.starting then b
  else
    let (b, dflt) := b.startMaq
    let b := (b.flag Reg.RST_CAUSE_CFG_DEFAULT dflt).updBoot fun x =>
      { x with starting := true, cfgCode := if dflt then 1 else 0 }
    let b := ((b.exchange).updCst fun c => { c with maq := b.cst.maq }).timeStarts
    if b.on Reg.SYS_PAIR_CFG_EN then b.updPair fun p => { p with waiting := true, waitFrom := b.tb.up }
    else b.pairBegin 0 0 (b.castBoundary (b.ns + 1000)).toNat

/-- The first boundary: the configuration comes into force as a cast does, and every populated slot is probed
    (R213, R407). -/
def Block.configStarts (b : Block) : Block :=
  if !b.boot.starting then b
  else
    let b := b.updBoot fun x => { x with starting := false, configured := true }
    let b := (b.bump Reg.SYS_CAST_COUNT_COUNT).wr64 Reg.SYS_CAST_LAST_LO_STROKE Reg.SYS_CAST_LAST_HI_STROKE b.strk.num
    let b := (b.updCst fun c => { c with lastB := b.strk.b }).updStrk fun k => { k with castHere := true }
    ((((b.probeAll).campusPhase).powerChannels.timeCast).fallbackAgain).tripsJudge

/-- START_COMPLETE (R408): 1 s after D7's release with no core reset. -/
def Block.startComplete (b : Block) : Block :=
  if !b.released 7 || !b.boot.configured || !b.cores || b.on Reg.RST_BOOT_DONE then b
  else
    let from_ := b.boot.coreResets.foldl max b.boot.d7At
    let b := ((b.untilUp (from_ + 1000 * msPs)).wr Reg.RST_BOOT_FAILS 0).flag Reg.RST_BOOT_DONE true
    b.note { source := 37, code := b.boot.cfgCode, extra := b.rd Reg.RST_BOOT_RUNNING }

/-! ### After a core reset (R345, R401) -/

/-- Firmware sources whose conditions still hold are raised again: a ledger commit that failed, a PTP domain that is lost,
    a followed domain that is out of limit, and lanes whose eye is low (R345, log entry 64). -/
def Block.raiseAgain (b : Block) : Block :=
  let b := if b.on Reg.CELL_LDG_STAT_FAIL then b.raise { source := 11 } else b
  let b := b.eachOf ([0, 1].filter fun x => (b.dom x).lost) fun x b => b.raise { source := 64, unitType := 13, idx := x }
  let b := if b.latchCause 67 then b.raise { source := 67, unitType := 13, idx := b.selDom } else b
  b.each 192 fun l b =>
    if b.rd (Reg.LINK_STAT_STATE l) = 4 ∧ 0 < b.rd (Reg.LINK_EYE_WIDTH l)
        ∧ b.rd (Reg.LINK_EYE_WIDTH l) < b.rd Reg.LINK_GCFG_EYE_MIN then
      b.raise { source := 99, unitType := 2, idx := l }
    else b

/-- The loader re-reads and re-verifies the firmware slot that was booted; the monitor of plinth mode runs from boot ROM
    (R401, R410, R413). -/
def Block.bootedGood (b : Block) : Bool :=
  b.boot.plinth || (b.goodImage .firmware b.boot.fw (b.rd Reg.RST_BOOT_RUNNING)).isSome

/-- CORE_RESET_RESTART.  Where the booted slot no longer verifies the cores have nothing to restart from and stay in reset
    (log entry 13). -/
def Block.coreRestart (b : Block) : Block :=
  if !b.boot.coreReset then b
  else if !b.bootedGood then b.flag (Reg.NVM_SLOTk_STAT_VALID (b.rd Reg.RST_BOOT_RUNNING)) false
  else
    let b := b.updBoot fun x => { x with coreReset := false }
    let b := (b.note { source := 33 }).raiseAgain
    (b.timeRestart).flag Reg.SYS_CMD_STAT_RESTARTED true

/-! ### Meanings -/

/-- DOMAIN_RELEASE (R404 to R406, R409, R410). -/
def execDomainRelease (d : Fin 8) (s : State) : Host.Outcome State Fault Refusal := s.onBlk (·.domainRelease d)
/-- DEBUG_OVERRIDE (R409). -/
def execDebugOverride (mask : BitVec 8) (s : State) : Host.Outcome State Fault Refusal :=
  s.onBlk (·.debugOverride mask.toNat)
/-- START_CONFIG_LOAD (R407). -/
def execStartConfigLoad (s : State) : Host.Outcome State Fault Refusal := s.onBlk (·.startConfigLoad)
/-- START_COMPLETE (R408). -/
def execStartComplete (s : State) : Host.Outcome State Fault Refusal := s.onBlk (·.startComplete)
/-- CORE_RESET_RESTART (R401). -/
def execCoreResetRestart (s : State) : Host.Outcome State Fault Refusal := s.onBlk (·.coreRestart)

end Sys2Proof.Machine
end

