-- ==== Sys2Proof/Machine/Thermal.lean ====
section
/-! DEFINITION. Temperatures (R381 to R387): the sensors and hot spots, their levels, and the derating factor. -/

namespace Sys2Proof.Machine

/-- A broken diode reads 200 °C (R382). -/
def brokenTemp : Int := 3200

/-- What a sensor reads, in 1/16 °C. -/
def readingTemp : SensorReading → Int
  | .temp t => clampI t (-32768) 32767
  | .open => brokenTemp
  | .short => brokenTemp

/-- The diode reads open; shorted. -/
def readingOpen : SensorReading → Bool
  | .open => true
  | .short => false
  | .temp _ => false
/-- Shorted. -/
def readingShort : SensorReading → Bool
  | .short => true
  | .open => false
  | .temp _ => false

/-- THERM_SENSOR_FAIL (R382). -/
def Block.sensorFail (k code : Nat) (b : Block) : Block :=
  (b.count Reg.THRM_FAIL_CNT_COUNT 1).raise { source := 236, unitType := 14, idx := k, code := code }

/-- One sensor is read; a diode found broken is raised. -/
def Block.sensorRead (k : Nat) (r : SensorReading) (b : Block) : Block :=
  let was := b.on (Reg.THRM_SENSk_OPEN k) || b.on (Reg.THRM_SENSk_SHORT k)
  let b := ((b.wrS (Reg.THRM_SENSk_TEMP k) (readingTemp r)).flag (Reg.THRM_SENSk_OPEN k) (readingOpen r)).flag
    (Reg.THRM_SENSk_SHORT k) (readingShort r)
  if (readingOpen r || readingShort r) && !was then b.sensorFail k 1 else b

/-- A level with its hysteresis of 5 °C: entered at the threshold, left below it by 5 °C (R384). -/
def levelNow (was : Bool) (t th : Int) : Bool := decide (th ≤ t) || (was && decide (th - 80 ≤ t))

/-- One level of hot spot `h`: its event is raised once per entry. -/
def Block.spotLevel (h : Nat) (f : Field) (th : Int) (source : Nat) (b : Block) : Block :=
  let was := b.on f
  let now := levelNow was (b.rdS (Reg.THRM_SPOTh_TEMP h)) th
  let b := b.flag f now
  if now && !was then b.raise { source := source, unitType := 14, idx := h } else b

/-- The threshold that a field of THRM_OPT holds, in 1/16 °C (R383). -/
def Block.threshold (b : Block) (f : Field) : Int := 16 * (b.rd f : Int)

/-- Hot spot `h` is formed from its two sensors and judged (R381, R382, R384, R385). -/
def Block.spotRead (h : Nat) (b : Block) : Block :=
  let b := b.wrS (Reg.THRM_SPOTh_TEMP h) (max (b.rdS (Reg.THRM_SENSk_TEMP (2 * h))) (b.rdS (Reg.THRM_SENSk_TEMP (2 * h + 1))))
  let b := b.spotLevel h (Reg.THRM_SPOTh_WARN h) (b.threshold Reg.THRM_OPT_WARN_C) 233
  let b := b.spotLevel h (Reg.THRM_SPOTh_THROTTLE h) (b.threshold Reg.THRM_OPT_THROTTLE_C) 234
  let shut := b.on (Reg.THRM_SPOTh_SHUTDOWN h)
  if decide (b.threshold Reg.THRM_OPT_SHUTDOWN_C ≤ b.rdS (Reg.THRM_SPOTh_TEMP h)) && !shut then
    (b.flag (Reg.THRM_SPOTh_SHUTDOWN h) true).raise { source := 235, unitType := 14, idx := h }
  else b

/-- The hottest hot spot; the lowest of equals. -/
def Block.hottest (b : Block) : Nat :=
  (List.range 10).foldl (fun m h => if b.rdS (Reg.THRM_SPOTh_TEMP m) < b.rdS (Reg.THRM_SPOTh_TEMP h) then h else m) 0

/-- THRM_STAT (R394). -/
def Block.thermalShow (b : Block) : Block :=
  let m := b.hottest
  let any (f : Nat → Field) := (List.range 10).any fun h => b.on (f h)
  let b := ((b.wr Reg.THRM_STAT_HOTTEST m).wrS Reg.THRM_STAT_TMAX (b.rdS (Reg.THRM_SPOTh_TEMP m))).flag
    Reg.THRM_STAT_WARN (any Reg.THRM_SPOTh_WARN)
  (b.flag Reg.THRM_STAT_THROTTLE (any Reg.THRM_SPOTh_THROTTLE)).flag Reg.THRM_STAT_SHUTDOWN
    (any Reg.THRM_SPOTh_SHUTDOWN)

/-- THERMAL_READ: the twenty readings of one millisecond, in order; a sensor without one keeps its last. -/
def Block.thermalRead (rs : List SensorReading) (b : Block) : Block :=
  let b := b.eachOf ((List.range 20).zip rs) fun kr b => b.sensorRead kr.1 kr.2
  (b.each 10 fun h b => b.spotRead h).thermalShow

/-- SENSOR_DISAGREE: the diodes of a hot spot have differed by more than 10 °C for 1 s, or have agreed for 1 s. -/
def Block.sensorDisagree (h : Nat) (on : Bool) (b : Block) : Block :=
  let was := b.on (Reg.THRM_SPOTh_DISAGREE h)
  let b := b.flag (Reg.THRM_SPOTh_DISAGREE h) on
  if on && !was then b.sensorFail (2 * h) 2 else b

/-- The derating factor t at a stroke boundary (R386). -/
def Block.derate (b : Block) : Int :=
  let thr := b.threshold Reg.THRM_OPT_THROTTLE_C
  let sd := b.threshold Reg.THRM_OPT_SHUTDOWN_C
  if !b.on Reg.THRM_STAT_THROTTLE then 2 ^ 24
  else 2 ^ 24 - rdiv (2 ^ 23 * clampI (b.rdS Reg.THRM_STAT_TMAX - thr) 0 (sd - thr)) (sd - thr)

/-- THRM_DERATE shows it. -/
def Block.derateShow (b : Block) : Block := b.wrS Reg.THRM_DERATE_T b.derate

/-! ### Meanings -/

/-- THERMAL_READ (R382). -/
def execThermalRead (readings : List SensorReading) (s : State) : Host.Outcome State Fault Refusal :=
  s.onBlk (·.thermalRead readings)
/-- SENSOR_DISAGREE (R382). -/
def execSensorDisagree (h : Fin 10) (on : Bool) (s : State) : Host.Outcome State Fault Refusal :=
  s.onBlk (·.sensorDisagree h on)

end Sys2Proof.Machine
end

