-- ==== Sys2Proof/Machine/Power.lean ====
section
/-! DEFINITION. Power states (R388 to R392) and supply sag (R393). -/

namespace Sys2Proof.Machine

/-! ### Power states -/

/-- The state that a tolerance gives with the converter OFF (R388). -/
def stateOfTol (tol : Nat) : Nat :=
  if tol < 5 then 0 else if tol < 200 then 1 else if tol < 20000 then 2 else if tol < 2000000 then 3 else 4

/-- The state that R388 gives now.  A HALT, a thermal shutdown or a demand that takes the converter from OFF to FAULTED or
    HALTED does not end the state it is in (R390), and there a tolerance is stored until the converter next enters OFF
    (R389). -/
def Block.powerWanted (b : Block) : Nat :=
  let conv := b.rd Reg.SYS_CONV_STAT_STATE
  if conv = 0 then stateOfTol (b.rd Reg.SYS_PWR_TOL_TOL_US) else if 5 ≤ conv then b.rd Reg.SYS_PWR_STAT_STATE else 0

/-- The duration of an exit, in µs (R395). -/
def Block.exitShow (from_ : Nat) (b : Block) : Block :=
  b.wr Reg.SYS_PWR_EXIT_US (satNat 32 ((b.tb.up - from_) / usPs))

/-- P0 and P1 follow each other at once: only the channel supplies' load differs.  An exit from P1 takes no time that
    the block shows. -/
def Block.lightMove (want : Nat) (b : Block) : Block :=
  let st := b.rd Reg.SYS_PWR_STAT_STATE
  let b := b.wr Reg.SYS_PWR_STAT_STATE want
  if st = 1 ∧ want = 0 then b.exitShow b.tb.up else b

/-- A field of the dash row that shows its present condition through P3, where the cores, the clocks, PTP, flash and the
    inputs run on: all but the results of the converters (R402, R403; log entry 121). -/
def Field.liveInP3 (f : Field) : Bool := f.kept == .none && !decide (0x500120 ≤ f.addr ∧ f.addr < 0x500144)

/-- The end of an exit from P3: what R402 gives up there is rebuilt as each unit comes up; fences, latches, the pair's
    token and the converters' corrections are kept; every populated slot is probed (R213, R296, R391, R403, R438). -/
def Block.wakeUnits (b : Block) : Block :=
  let keep : List Field := [Reg.SYS_PAIR_STAT_TOKEN, Reg.SYS_PAIR_GEN_GEN, Reg.ADC_STAT_NOCONV, Reg.ADC_STAT_NOROT]
    ++ (List.range 9).flatMap (fun m => [Reg.ADC_CONVk_STATE m, Reg.ADC_CONVk_SEQ m, Reg.ADC_CONVk_FULL m,
        Reg.ADC_CONVk_OFFS m, Reg.ADC_CONVk_GAINERR m])
    ++ ((List.range 24).filter fun l => (b.recov (256 + l)).fenced).flatMap (fun l =>
        [Reg.PWM_LEG_STAT_FENCED l, Reg.PWM_LEG_STAT_LATCHED l, Reg.PWM_LEG_STAT_CAUSE l])
    ++ ((List.range 8).filter fun p => 7 ≤ b.rd (Reg.PORT_STAT_STATE p)).flatMap (fun p =>
        [Reg.PORT_STAT_STATE p, Reg.PORT_STAT_CAUSE p])
  let regs := b.regs.filter fun e => match fieldOfKey e.1 with
    | some f => f.survives .p3 || f.liveInP3 || keep.contains f
    | none => false
  let b := { b with regs := regs, lanes := []
                    dma := { DmaSt.reset with linkA := b.dma.linkA, linkB := b.dma.linkB, wearAt := b.dma.wearAt
                                              scrubAt := b.tb.up, sweepAt := b.tb.up, eyeAt := b.tb.up } }
  let b := ((b.wr Reg.ADC_SCAN_MASK0_MASK b.boot.masks.1).wr Reg.ADC_SCAN_MASK1_MASK b.boot.masks.2).updAdc fun a =>
    { a with ains := [] }
  let b := b.updLv fun v => { LvSt.reset with brakeAt := v.brakeAt, brakeLong := v.brakeLong, shorted := v.shorted
                                              diags := v.diags.filter fun e => e.2.owed
                                              tripPins := v.tripPins, fbPin := v.fbPin }
  let b := b.updCells fun c => { c with cells := [] }
  let b := b.each 192 fun s b => b.updRecov s fun r => { r with fenced := false, returning := false, auto := false }
  let b := b.each 192 fun s b => b.wr (Reg.CELL_SLOT_STAT_STATE s) 0
  (b.probeAll).adcWake

/-- An exit begins: the engines and lanes of the state left come up (R205, R388, R391). -/
def Block.exitBegins (b : Block) : Block :=
  let st := b.rd Reg.SYS_PWR_STAT_STATE
  if st = 2 then b.lanesWake
  else if st = 3 then (b.wakeUnits).judgeLanes
  else b

/-- An exit ends: the module is in P1, or in P0 where R388 gives it. -/
def Block.exitEnds (b : Block) : Block :=
  let st := b.rd Reg.SYS_PWR_STAT_STATE
  let b := (b.exitShow b.pow.moveAt).wr Reg.SYS_PWR_STAT_STATE (if b.powerWanted = 0 then 0 else 1)
  if st = 3 then b.powerChannels else b

/-- Entry into P4: log and ledger are committed, the maquette is discarded, and every domain but D0 stops (R389, R391,
    R403).  The converters' sequencers and corrections are kept for the exit (R296), and safety frames start afresh, as
    at a system reset (R373). -/
def Block.enterP4 (b : Block) : Block :=
  let b := ((b.advance 1600).numberHeld.commitStaged).ledgerCommitted
  let held := b.adcHeld
  let convs := b.adc.convs
  let b := (b.restartDomains .p4 (b.rd Reg.EVT_NEXT_NUM)).updAdc fun a => { a with convs := convs, held := held }
  (b.updSafe fun s => { s with accepted := false, copies := [] }).wr Reg.SYS_PWR_STAT_STATE 4

/-- Entry into P2, P3 or P4 (R205, R391). -/
def Block.enterLow (st : Nat) (b : Block) : Block :=
  if st = 2 then (b.wr Reg.SYS_PWR_STAT_STATE 2).lanesQuiet
  else if st = 3 then
    let b := ((b.dmaStop).wr Reg.SYS_PWR_STAT_STATE 3).flag Reg.SYS_PWR_STAT_MOVING false
    ((b.judgeLanes).adcPowerDown).powerChannels
  else if st = 4 then b.enterP4
  else b

/-- The reply of LATENCY_TOL. -/
def powerReply (st : Nat) : List Byte := be 1 st ++ zeros 3

/-- A move ends in its state. -/
def Block.moveEnds (st : Nat) (b : Block) : Block :=
  (((b.updPow fun p => { p with target := none }).flag Reg.SYS_PWR_STAT_MOVING false).finishIf .power stOk 0
    (powerReply st))

/-- A move begins.  One that leaves P2 to P4 begins with the exit to P1 (R390). -/
def Block.moveBegins (want : Nat) (b : Block) : Block :=
  let b := (b.updPow fun p => { p with target := some want, moveAt := b.tb.up }).flag Reg.SYS_PWR_STAT_MOVING true
  b.exitBegins

/-- The power state is judged: at LATENCY_TOL and at a boundary. -/
def Block.judgePower (b : Block) : Block :=
  let st := b.rd Reg.SYS_PWR_STAT_STATE
  let want := b.powerWanted
  if b.pow.target.isSome ∨ want = st then b
  else if st < 2 ∧ want < 2 then b.lightMove want
  else b.moveBegins want

/-- POWER_STATE_MOVE_DONE: one part of a move is complete.  The exit part of a move to another low state is followed by
    its entry part.  P4 is entered as its reply leaves. -/
def Block.moveDone (b : Block) : Block :=
  match b.pow.target with
  | none => b
  | some want =>
    if 2 ≤ b.rd Reg.SYS_PWR_STAT_STATE then
      let b := b.exitEnds
      if want < 2 then b.moveEnds (b.rd Reg.SYS_PWR_STAT_STATE) else b
    else if want = 4 then (b.moveEnds 4).enterLow 4
    else (b.enterLow want).moveEnds want

/-- LATENCY_TOL (R85, R389). -/
def Block.latencyTol (tol : Nat) (b : Block) : Block × Ans :=
  let off := b.rd Reg.SYS_CONV_STAT_STATE == 0
  if !off && decide (200 ≤ tol) then (b, denied 1)
  else if off && stateOfTol tol == 4 && (b.cst.armed.isSome || !b.boot.staged.isEmpty) then (b, denied 2)
  else
    let b := (b.wr Reg.SYS_PWR_TOL_TOL_US tol).judgePower
    if b.pow.target.isSome then (b, .wait .power) else (b, ok (powerReply (b.rd Reg.SYS_PWR_STAT_STATE)))

/-- WAKE_N held low for 1 ms leaves P4: a start from D1 (R391, R392, R396). -/
def Block.wakeN (b : Block) : Block :=
  if b.rd Reg.SYS_PWR_STAT_STATE ≠ 4 then b
  else ((b.wr Reg.SYS_PWR_STAT_STATE 0).updPow fun p => { p with moveAt := b.tb.up, waking := true }).recordCause 11

/-- Lane `l` may still come to ACTIVE: it is on its way there, or in DETECT before its cell head has left a burst
    unanswered (R183, R184). -/
def Block.laneComing (b : Block) (l : Nat) : Bool :=
  let x := b.lane l
  match b.rd (Reg.LINK_STAT_STATE l) with
  | 1 => x.burstAt.isNone || decide (0 < x.answered) || (x.burstOpen && !x.burstLost b.tb.up)
  | 2 => true
  | 3 => true
  | _ => false

/-- The exit from P4 ends at the first boundary with the configuration in force at which every populated lane whose cell
    head answers is ACTIVE (R388, R395; log entry 124). -/
def Block.wakeJudge (b : Block) : Block :=
  if !b.pow.waking || !b.boot.configured || (List.range 192).any (fun l => b.populated l && b.laneComing l) then b
  else (b.exitShow b.pow.moveAt).updPow fun p => { p with waking := false }

/-! ### Supply sag (R393) -/

/-- The clock of management, bulk DMA and background at a sag level (R337). -/
def Block.sagTo (level : Nat) (b : Block) : Block :=
  let b := (b.wr Reg.SYS_PWR_STAT_SAG level).wr Reg.CLK_STAT_MGMT_RATE level
  b.raise { source := 36, code := level }

/-- SUPPLY_SAG: the level 1 condition has held for 20 µs on a rail. -/
def Block.supplySag (b : Block) : Block :=
  let b := b.updPow fun p => { p with sagAt := b.tb.up }
  if b.rd Reg.SYS_PWR_STAT_SAG = 0 then (b.count Reg.SYS_PWR_SAG_CNT_COUNT 1).sagTo 1 else b

/-- SAG_LEVEL2: the condition persists for 5 ms. -/
def Block.sagLevel2 (b : Block) : Block :=
  if b.rd Reg.SYS_PWR_STAT_SAG ≠ 1 then b
  else ((b.untilUp (b.pow.sagAt + 5 * msPs)).count Reg.SYS_PWR_SAG_CNT_COUNT 1).sagTo 2

/-- SAG_RECOVER: the condition has been absent for 100 ms; the clock moves up one level. -/
def Block.sagRecover (b : Block) : Block :=
  let l := b.rd Reg.SYS_PWR_STAT_SAG
  if l = 0 then b else b.sagTo (l - 1)

/-! ### Meanings -/

/-- LATENCY_TOL (R389). -/
def execLatencyTol (rq : Req) (tol : BitVec 32) (s : State) : Host.Outcome State Fault Refusal :=
  s.onBlk (·.serve rq 0x70 true false (·.latencyTol tol.toNat))
/-- POWER_STATE_MOVE_DONE (R389). -/
def execPowerStateMoveDone (s : State) : Host.Outcome State Fault Refusal := s.onBlk (·.moveDone)
/-- WAKE_N (R392). -/
def execWakeN (s : State) : Host.Outcome State Fault Refusal := s.onBlk (·.wakeN)
/-- SUPPLY_SAG (R393): on either rail the level is the same. -/
def execSupplySag (_rail : Rail) (s : State) : Host.Outcome State Fault Refusal := s.onBlk (·.supplySag)
/-- SAG_LEVEL2 (R393). -/
def execSagLevel2 (s : State) : Host.Outcome State Fault Refusal := s.onBlk (·.sagLevel2)
/-- SAG_RECOVER (R393). -/
def execSagRecover (s : State) : Host.Outcome State Fault Refusal := s.onBlk (·.sagRecover)

end Sys2Proof.Machine
end

