-- ==== Sys2Proof/Machine/Commands.lean ====
section
/-! DEFINITION. Packets received (R54 to R58, R63) and the Jarvas commands that no other chapter's file holds: PING,
    IDENT, IMAGE_READ, streams, converter and cell requests, SAFE_STOP, QUERY_LAST, RESET and PLINTH_EXIT. -/

namespace Sys2Proof.Machine

/-! ### Identity and query records (R91, R92) -/

/-- The word of RST_CAUSE. -/
def Block.causeWord (b : Block) : Nat := b.ownWord 0x10000 ((fieldsAt 0x10000).getD [])

/-- The IDENT record (R91). -/
def Block.identRecord (b : Block) : List Byte :=
  partCode ++ be 1 0x42 ++ be 1 1 ++ zeros 2 ++ be 4 b.runningVersion
    ++ be 16 Config.serial.toNat ++ be 1 (b.rd Reg.RST_BOOT_ACTIVE) ++ be 1 (if b.boot.plinth then 1 else 0)
    ++ be 1 (b.shown Reg.SYS_CONV_STAT_STATE) ++ be 1 (b.rd Reg.SYS_PWR_STAT_STATE) ++ be 2 (b.rd Reg.SYS_CAMPUS_INDEX)
    ++ zeros 2 ++ be 6 Config.macA.toNat ++ be 6 Config.macB.toNat ++ be 4 b.causeWord ++ be 8 b.strk.num

/-- The QUERY_LAST record (R92). -/
def Block.queryRecord (b : Block) : List Byte :=
  be 4 (b.rd Reg.SYS_SEQ_LAST_SEQ)
    ++ be 1 (b.rd Reg.SYS_CMD_STAT_SEQ_VALID + 2 * b.rd Reg.SYS_CMD_STAT_RESTARTED
        + (if b.cst.armed.isSome then 4 else 0))
    ++ be 1 b.jv.queue.length ++ zeros 2 ++ be 4 (b.rd Reg.SYS_SEQ_ACCEPTED_SEQ) ++ zeros 4 ++ be 8 b.strk.num
    ++ be 8 (b.rd64 Reg.SYS_CAST_LAST_LO_STROKE Reg.SYS_CAST_LAST_HI_STROKE)

/-! ### Out of band (R63, R68, R81) -/

/-- A command that is executed out of band: it is neither checked against the sequence nor recorded, and the packet
    front end serves it through a core reset as well (R401). -/
def Block.outOfBand (rq : Req) (op : Nat) (f : Block → Block × List Byte) (b : Block) : Block :=
  if !b.released 6 then b
  else if b.boot.plinth && !plinthOps.contains op then b.refuse rq op stPlinth 0
  else match f b with
  | (b, p) => b.send (b.replyOf rq op stOk 0 p)

/-- QUERY_LAST (R68, R92). -/
def Block.queryLast (b : Block) : Block × List Byte := (b, b.queryRecord)

/-- SAFE_STOP: SAFE_STOP_CMD and a safe stop demand (R81, R362). -/
def Block.safeStop (b : Block) : Block × List Byte :=
  let b := (b.raise { source := 230 }).demandSF1 6
  (b, be 8 b.strk.num)

/-! ### Requests of transitions (R80, R123) -/

/-- CONVERTER_START: judged now, and again at the boundary. -/
def Block.startCommand (b : Block) : Block × Ans :=
  if b.rd Reg.SYS_CONV_STAT_STATE ≠ 0 then (b, denied 1)
  else
    let e := b.startErr
    let b := b.wr Reg.SYS_CONV_STAT_START_ERR e
    if e ≠ 0 then (b, denied 2) else (b.updConv fun c => { c with wantStart := true }, .wait .convStart)

/-- CONVERTER_STOP. -/
def Block.stopCommand (b : Block) : Block × Ans :=
  if b.rd Reg.SYS_CONV_STAT_STATE ≠ 3 then (b, denied 1)
  else (b.updConv fun c => { c with wantOrdStop := true }, .wait .convStop)

/-- The reply of CELL_FENCE and CELL_RESEAT. -/
def Block.slotReply (b : Block) (s : Nat) : List Byte := be 2 s ++ zeros 2 ++ be 8 b.strk.num

/-- CELL_FENCE: a cell that is fenced already is answered OK, also in a module without the token (R80 before R231; log entry
    149).  The decision is made now, and takes effect as R139 and R214 set out; a test of PROBING ends now. -/
def Block.fenceCommand (s : Nat) (b : Block) : Block × Ans :=
  if 191 < s then (b, badAddress)
  else if !b.populated s then (b, denied 1)
  else if b.svc s = 1 then (b, ok (b.slotReply s))
  else if !b.holds || decide (b.svc s < 2) then (b, denied 2)
  else
    let b := b.fenceSlot s 4 false
    ((b.updCell s fun c => { c with fence := some 4 }).endProbeTest s, .wait (.fence s))

/-- CELL_RESEAT: PROBING is entered at the next boundary. -/
def Block.reseatCommand (s : Nat) (b : Block) : Block × Ans :=
  if 191 < s then (b, badAddress)
  else if !b.populated s then (b, denied 1)
  else if 2 ≤ b.rd Reg.SYS_PWR_STAT_STATE then (b, denied 5)
  else if b.svc s ≠ 1 then (b, denied 3)
  else if !b.holds then (b, denied 4)
  else ((b.updCell s fun c => { c with reseat := true }).updRecov s fun r => { r with auto := false }, .wait (.reseat s))

/-! ### Image and resets (R73, R89, R90) -/

/-- IMAGE_READ (R73). -/
def Block.imageRead (off len : Nat) (b : Block) : Block × Ans :=
  if off % 4 ≠ 0 ∨ 0x1000000 < off + len then (b, badAddress)
  else (b, ok (be 8 b.frozenNum ++ be 4 off ++ be 2 len ++ zeros 2 ++ b.imageBytes off (len / 4)))

/-- The key of RESET and PLINTH_EXIT (R69). -/
def resetKey : Nat := 0xA55AC3

/-- RESET (R89): the reset it decides begins after the reply. -/
def Block.resetCommand (level key : Nat) (b : Block) : Block × Ans :=
  if 1 < level ∨ key ≠ resetKey then (b, denied 1)
  else if level = 1 ∧ b.rd Reg.SYS_CONV_STAT_STATE ≠ 0 then (b, denied 2)
  else (if level = 0 then b.updBoot fun x => { x with coreDue := true } else b.resetDue 4, ok (be 1 level ++ zeros 3))

/-- PLINTH_EXIT (R90). -/
def Block.plinthExit (key : Nat) (b : Block) : Block × Ans :=
  if !b.boot.plinth ∨ key ≠ resetKey then (b, denied 1)
  else ((b.wr Reg.RST_BOOT_FAILS 0).resetDue 5, ok [])

/-- A core reset that RESET has requested begins. -/
def Block.coreTakes (b : Block) : Block :=
  if b.boot.coreDue then (b.updBoot fun x => { x with coreDue := false }).coreReset 1 else b

/-! ### Packets (R54 to R58, R63) -/

/-- A VLAN tag is one the module accepts: none, or the configured one; with fixed settings none (R54, R410). -/
def Block.tagOk (b : Block) (tag : Option (BitVec 12)) : Bool :=
  match tag with
  | none => true
  | some v => !b.plainFront && b.on Reg.SYS_JARVAS_VLAN_VLAN_EN && v.toNat == b.rd Reg.SYS_JARVAS_VLAN_VID

/-- The EtherType of Jarvas frames (R54, R410). -/
def Block.jarvasType (b : Block) : Nat := if b.plainFront then 0x88B5 else b.rd Reg.SYS_JARVAS_CFG_ETHERTYPE

/-- UDP is in use (R55, R410). -/
def Block.udpOn (b : Block) : Bool := !b.plainFront && b.on Reg.SYS_JARVAS_CFG_UDP_EN

/-- The address and EtherType of an Ethernet packet are good: a Jarvas frame, or a datagram to the module's address and
    port. -/
def Block.kindOk (b : Block) (p : RxPacket) : Bool :=
  match p.udp with
  | none => p.etherType.toNat == b.jarvasType
  | some u => b.udpOn && p.etherType == 0x0800 && u.dstIp.toNat == b.rd Reg.SYS_JARVAS_IP_IPV4 && u.dstPort == 40960

/-- A datagram's checksum is good. -/
def sumOk (p : RxPacket) : Bool :=
  match p.udp with
  | none => true
  | some u => u.sumOk

/-- A fragment of a datagram. -/
def fragment (p : RxPacket) : Bool :=
  match p.udp with
  | none => false
  | some u => u.fragmented

/-- A packet that the PRP layer has delivered already (R56). -/
def Block.duplicate (b : Block) (p : RxPacket) : Bool :=
  !b.plainFront && b.on Reg.SYS_JARVAS_CFG_PRP_EN && p.prpDup

/-- A connector is served: a station port while D4 is released and its link is up (R449), the UART while it is enabled
    (R57). -/
def Block.portServed (b : Block) (p : JPort) : Bool :=
  b.released 6 && match p with
    | .svc => b.plainFront || b.on Reg.SYS_JARVAS_CFG_UART_EN
    | .stnA => b.released 4 && b.dma.link 0
    | .stnB => b.released 4 && b.dma.link 1

/-- Where a packet came from. -/
def packetSrc (p : RxPacket) : Src :=
  { port := p.port, mac := p.mac, udp := p.udp.map fun u => (u.srcIp, u.srcPort), vlan := p.vlan }

/-- The opcodes whose payload has one length, and that length (R69). -/
def fixedLength (op : Nat) : Option Nat :=
  [(0x02, 0), (0x10, 4), (0x11, 8), (0x12, 8), (0x20, 0), (0x21, 8), (0x22, 0), (0x30, 8), (0x32, 4), (0x40, 0), (0x41, 0),
   (0x42, 0), (0x50, 4), (0x51, 4), (0x60, 8), (0x61, 4), (0x62, 4), (0x63, 8), (0x70, 4), (0x81, 4), (0x82, 4), (0x90, 0),
   (0xA0, 4), (0xA1, 4)].findSome? fun (e : Nat × Nat) => if e.1 = op then some e.2 else none

/-- The opcode is defined (R69). -/
def opDefined (op : Nat) : Bool :=
  (fixedLength op).isSome || op == 0x01 || op == 0x13 || op == 0x31 || op == 0x80 || op == 0x83

/-- The counts and lengths within a payload of a fixed length (R69, R76, R84). -/
def innerLength (op : Nat) (p : List Byte) : Bool :=
  let n := field p 4 2
  match op with
  | 0x12 => decide (1 ≤ n ∧ n ≤ 346)
  | 0x30 => decide (4 ≤ n ∧ n ≤ 1384 ∧ n % 4 = 0)
  | 0x60 => decide (1 ≤ n ∧ n ≤ 43)
  | 0x63 => decide (1 ≤ n)
  | _ => true

/-- The payload's length is one that the opcode's layout allows (R60, R69); an undefined opcode is refused as such. -/
def lengthFits (op : Nat) (p : List Byte) : Bool :=
  let n := p.length
  match fixedLength op with
  | some k => n == k && innerLength op p
  | none =>
    if op = 0x13 then decide (1 ≤ field p 4 2 ∧ field p 4 2 ≤ 348 ∧ n = 8 + 4 * field p 4 2)
    else if op = 0x31 then decide (20 ≤ n ∧ 1 ≤ field p 18 1 ∧ field p 18 1 ≤ 8 ∧ n = 20 + 8 * field p 18 1)
    else if op = 0x80 then decide (12 ≤ n ∧ n ≤ 1400 ∧ n % 4 = 0)
    else if op = 0x83 then decide (16 ≤ n ∧ n ≤ 64)
    else true

/-- The acceptance steps of a packet that passed its transport check (R63, R401). -/
def Block.takePacket (src : Src) (bytes : List Byte) (b : Block) : Block :=
  let h := bytes ++ zeros 16
  let op := field h 1 1
  let rq : Req := { src := src, seq := BitVec.ofNat 32 (field h 4 4) }
  let len := field h 8 2
  let p := (bytes.drop 16).take len
  let oob := op == 0x42 || op == 0x90
  if (field h 2 2).testBit 0 then b
  else if b.boot.coreReset && !(oob && field h 0 1 == 1 && len == 0) then b
  else if decide (1400 < len) || decide (p.length < len) || !lengthFits op p then b.refuse rq op stBadLength 0
  else if field h 0 1 ≠ 1 then b.refuse rq op stBadOpcode 1
  else if !opDefined op then b.refuse rq op stBadOpcode 2
  else if op = 0x90 then b.outOfBand rq op (·.queryLast)
  else if op = 0x42 then b.outOfBand rq op (·.safeStop)
  else (b.accept rq op).1

/-- The checker-3 index of a connector; the UART has none (R355). -/
def checkerPort : JPort → Nat
  | .stnA => 0
  | .stnB => 1
  | .svc => 3

/-- JARVAS_PACKET_RX: the transport check (R54 to R58), then the acceptance steps. -/
def Block.packetRx (p : RxPacket) (b : Block) : Block :=
  if !b.portServed p.port || b.duplicate p then b
  else
    let i := checkerPort p.port
    let inj := decide (i < 2) && b.injects 3 i
    let b := if i < 2 then b.checked 3 i else b
    let eth := p.port == .svc || (p.toUs && b.tagOk p.vlan && b.kindOk p && sumOk p)
    if !p.fcsOk || inj || !eth then b.count Reg.SYS_CMD_DROP_COUNT 1
    else if fragment p then b
    else b.takePacket (packetSrc p) p.bytes

/-- ARP_REQUEST_RX: an answer for the module's own address (R55), on a port that is up (R449). -/
def Block.arpRequest (port : Stn) (target senderIp : BitVec 32) (senderMac : Mac) (b : Block) : Block :=
  if b.released 4 && b.dma.link (stnNum port) && b.cores && b.udpOn && target.toNat == b.rd Reg.SYS_JARVAS_IP_IPV4 then
    b.emit (.arp port target senderIp senderMac)
  else b

/-! ### Meanings -/

/-- JARVAS_PACKET_RX (R58, R63). -/
def execJarvasPacketRx (p : RxPacket) (s : State) : Host.Outcome State Fault Refusal := s.onBlk (·.packetRx p)
/-- ARP_REQUEST_RX (R55). -/
def execArpRequestRx (port : Stn) (target senderIp : BitVec 32) (senderMac : Mac) (s : State) :
    Host.Outcome State Fault Refusal :=
  s.onBlk (·.arpRequest port target senderIp senderMac)
/-- PING (R69). -/
def execPing (rq : Req) (payload : List Byte) (s : State) : Host.Outcome State Fault Refusal :=
  s.onBlk (·.serve rq 0x01 (decide (payload.length ≤ 1400)) false fun b => (b, ok payload))
/-- IDENT (R91). -/
def execIdent (rq : Req) (s : State) : Host.Outcome State Fault Refusal :=
  s.onBlk (·.serve rq 0x02 true false fun b => (b, ok b.identRecord))
/-- IMAGE_READ (R73). -/
def execImageRead (rq : Req) (off : Word) (len : BitVec 16) (s : State) : Host.Outcome State Fault Refusal :=
  s.onBlk (·.serve rq 0x30 (decide (4 ≤ len.toNat ∧ len.toNat ≤ 1384 ∧ len.toNat % 4 = 0)) false
    (·.imageRead off.toNat len.toNat))
/-- STREAM_OPEN (R76). -/
def execStreamOpen (rq : Req) (desc : StreamDesc) (s : State) : Host.Outcome State Fault Refusal :=
  s.onBlk (·.serve rq 0x31 (decide (1 ≤ desc.ranges.length ∧ desc.ranges.length ≤ 8)) false (·.streamOpen desc))
/-- STREAM_CLOSE (R79). -/
def execStreamClose (rq : Req) (id : BitVec 8) (s : State) : Host.Outcome State Fault Refusal :=
  s.onBlk (·.serve rq 0x32 true false (·.streamClose id.toNat))
/-- CONVERTER_START (R80, R123). -/
def execConverterStart (rq : Req) (s : State) : Host.Outcome State Fault Refusal :=
  s.onBlk (·.serve rq 0x40 true false (·.startCommand))
/-- CONVERTER_STOP (R80). -/
def execConverterStop (rq : Req) (s : State) : Host.Outcome State Fault Refusal :=
  s.onBlk (·.serve rq 0x41 true false (·.stopCommand))
/-- SAFE_STOP (R81). -/
def execSafeStop (rq : Req) (s : State) : Host.Outcome State Fault Refusal :=
  s.onBlk (·.outOfBand rq 0x42 (·.safeStop))
/-- CELL_FENCE (R80). -/
def execCellFence (rq : Req) (slot : BitVec 16) (s : State) : Host.Outcome State Fault Refusal :=
  s.onBlk (·.serve rq 0x50 true false (·.fenceCommand slot.toNat))
/-- CELL_RESEAT (R80). -/
def execCellReseat (rq : Req) (slot : BitVec 16) (s : State) : Host.Outcome State Fault Refusal :=
  s.onBlk (·.serve rq 0x51 true false (·.reseatCommand slot.toNat))
/-- QUERY_LAST (R68). -/
def execQueryLast (rq : Req) (s : State) : Host.Outcome State Fault Refusal :=
  s.onBlk (·.outOfBand rq 0x90 (·.queryLast))
/-- RESET (R89). -/
def execReset (rq : Req) (level : BitVec 8) (key : BitVec 24) (s : State) : Host.Outcome State Fault Refusal :=
  s.onBlk fun b => (b.serve rq 0xA0 true false (·.resetCommand level.toNat key.toNat)).coreTakes
/-- PLINTH_EXIT (R90). -/
def execPlinthExit (rq : Req) (key : BitVec 32) (s : State) : Host.Outcome State Fault Refusal :=
  s.onBlk (·.serve rq 0xA1 true false (·.plinthExit key.toNat))

end Sys2Proof.Machine
end

