-- ==== Sys2Proof/Machine/Stroke.lean ====
section
/-! DEFINITION. The stroke (R26 to R37, R52): its tick, the close of its report window, and the freeze of its state
    image. -/

namespace Sys2Proof.Machine

/-! ### The grid (R27, R30, R31) -/

/-- The first boundary of the grid in force that lies at least 10,000 ns after `t` (R30, R315); on the grid that is the
    next boundary, since no period is shorter. -/
def Block.gridNext (b : Block) (t : Nat) : Nat :=
  let e : Int := b.epoch
  let p : Int := b.rd Reg.SYS_STROKE_NS_PERIOD
  (e + (-((-(((t + 10000 : Nat) : Int) - e)) / p)) * p).toNat

/-- Is `t` a carrier boundary of the configuration in force (R31)? -/
def Block.carrierAt (b : Block) (t : Nat) : Bool :=
  !b.on Reg.SYS_STROKE_CFG_UPDATE || ((t : Int) - (b.epoch : Int)) / (b.rd Reg.SYS_STROKE_NS_PERIOD : Int) % 2 == 0

/-- The pending step of TIME_NS that this boundary takes; 0 where none is due (R315). -/
def Block.stepDue (b : Block) : Int :=
  match b.tb.step with
  | some (d, earliest) => if earliest ≤ b.strk.next then d else 0
  | none => 0

/-- A step that is due is carried out. -/
def Block.stepTakes (b : Block) : Block :=
  match b.tb.step with
  | some (d, earliest) => if earliest ≤ b.strk.next then b.stepApply d else b
  | none => b

/-- What P_w of the stroke watch remembers: the period before the most recent cast or step, until a full stroke of the
    new grid has run (R399).  `n`, `t`: the stroke that ended; `was`: the period it had; `moved`: a cast or a step takes
    effect here. -/
def Block.watchTick (t was : Nat) (moved : Bool) (b : Block) : Block :=
  let p := b.rd Reg.SYS_STROKE_NS_PERIOD
  b.updStrk fun k =>
    { k with watchFrom := b.tb.up
             watchP := if moved then was else if k.b = t + p then p else k.watchP }

/-! ### The parts of a boundary -/

/-- What earlier decisions still owe is carried out before the boundary (R36, R366). -/
def Block.settleDecisions (b : Block) : Block :=
  let b := b.gateRemoval
  if b.evt.blockDue then b.blockDecision else b

/-- The stroke begins: its number and boundary, whether it is timed, and what the pair's frame brings (R28, R52, R146).
    The digest in a frame is that of the stroke that ended, so it is judged before a cast. -/
def Block.strokeBegins (b : Block) : Block :=
  let n := b.strk.num
  let t := b.strk.b
  let at_ := (ofS 64 ((b.strk.next : Int) + b.stepDue))
  let b := b.stepTakes
  (b.updStrk fun k =>
    { k with num := n + 1, b := at_, phase := .begun, untimed := k.timingBad, castHere := false }).pairBoundary n t

/-- The configuration of the stroke: the start-up configuration at the first boundary, or an armed cast; then the grid in
    force (R30, R31, R48, R407). -/
def Block.strokeConfig (b : Block) : Block :=
  let b := if b.boot.starting then b.configStarts else b.castAtBoundary
  b.updStrk fun k => { k with carrier := b.carrierAt k.b, next := b.gridNext k.b }

/-- Local ports at a boundary (R275, R276, R285, R290): a fence comes before the other triggers.  `faulted`: the converter
    enters FAULTED or HALTED here. -/
def Block.strokePorts (faulted : Bool) (b : Block) : Block :=
  let leaving := b.rd Reg.SYS_CONV_STAT_STATE != 3
  b.each 8 fun p b =>
    let b := b.eachOf [2 * p, 2 * p + 1] fun l b => b.settleLeg l
    let b := (b.portReadmit p).portCloseJudge p
    let b := if b.strk.untimed then b else b.portOverload p
    let b := b.portBoundary p leaving faulted
    let b := if b.strk.untimed then b else b.portRefStep p
    b.portMeasure p

/-- The emulated ripples up to the boundary, with the inputs that stood until then (R280). -/
def Block.strokeRipples (t : Int) (b : Block) : Block :=
  b.each 8 fun p b =>
    let st := b.rd (Reg.PORT_STAT_STATE p)
    if st = 3 ∨ st = 4 then b.portRipple p (t * 64) else b

/-- The engines at a boundary: measurement, the safety monitor, the converter, the power state, the local stage, cell
    service, lanes and contexts. -/
def Block.strokeEngines (prev : Option Int) (b : Block) : Block :=
  let t : Int := b.strk.b
  let b := (((((b.strokeRipples t).owJudge).latchInputs t prev).adcBoundary t).safeBoundary).derateShow
  let was := b.rd Reg.SYS_CONV_STAT_STATE
  let b := (b.convBoundary).judgePower
  let b := ((b.fallbackBoundary).tripsJudge).strokePorts (decide (was < 5) && decide (5 ≤ b.rd Reg.SYS_CONV_STAT_STATE))
  let b := (b.standbyAgain).each 24 fun l b => (b.legStroke l).legAgain l
  let b := (b.serviceBoundary).armShortfall
  ((((b.lanesBoundary).judgeLanes).ctxBoundary).lastingCauses).wakeJudge

/-- The command whose transition this boundary was to make is answered (R69, R80). -/
def Block.strokeAnswers (b : Block) : Block :=
  let entered (st : Nat) : Bool := b.rd Reg.SYS_CONV_STAT_STATE == st && b.conv.entered == b.strk.b
  match b.headWait with
  | some .convStart =>
    if entered 1 then b.finish stOk 0 (be 8 b.strk.num)
    else (b.wr Reg.SYS_CONV_STAT_START_ERR b.startErrHeld).finish stDenied 2 []
  | some .convStop => if entered 4 then b.finish stOk 0 (be 8 b.strk.num) else b.finish stDenied 2 []
  | some (.fence s) =>
    if b.svc s = 1 then b.finish stOk 0 (b.slotReply s)
    else if b.svc s = 0 then b.finish stDenied 1 []
    else if !b.holds || (b.cell s).fence.isNone then b.finish stDenied 2 []
    else b
  | some (.reseat s) =>
    if b.svc s = 0 then b.finish stDenied 1 []
    else if b.svc s ≠ 1 then b.finish stOk 0 (b.slotReply s)
    else if !b.holds then b.finish stDenied 4 []
    else if !(b.cell s).reseat then b.finish stDenied 2 []
    else b
  | _ => b

/-- STROKE_TICK (R27, R28): the next boundary is reached.  A system reset that is due takes its place (R398); before the
    stroke domain ticks there is none. -/
def Block.strokeTick (b : Block) : Block :=
  if b.boot.due.isSome then b.resetTakes
  else if !b.strk.ticking || b.pair.waiting then b
  else
    let b := (b.settleDecisions).until b.strk.next
    let d := b.stepDue
    let t := b.strk.b
    let prev := if b.strk.num = 0 then none else some ((t : Int) + d)
    let was := b.rd Reg.SYS_STROKE_NS_PERIOD
    let b := (b.strokeBegins).strokeConfig
    let b := b.watchTick t was (b.strk.castHere || d != 0)
    (b.strokeEngines prev).strokeAnswers

/-! ### The report window (R34, R200) -/

/-- The registers of the report used in a stroke (R206). -/
def Block.showReport (l : Nat) (r : Report) (b : Block) : Block :=
  let b := (b.wr (Reg.LINK_RPT_STAT_STATUS l) r.status).wr (Reg.LINK_RPT_RX_RX l) r.rx
  let b := (b.wr (Reg.LINK_RPT_FAULT_FAULT l) r.fault).wr (Reg.LINK_RPT_FAULT_DETAIL l) r.detail
  ((b.wrS (Reg.LINK_RPT_TJ0_TJ_FE l) (r.tj.getD 0 0)).wrS (Reg.LINK_RPT_TJ0_TJ_DP l) (r.tj.getD 1 0)).wrS
    (Reg.LINK_RPT_TJ1_TJ_DS l) (r.tj.getD 2 0)

/-- The report of lane `l` is missing (R34, R200); from MISS_LIM in a row the lane leaves ACTIVE. -/
def Block.reportMissing (l : Nat) (b : Block) : Block :=
  let run := min 15 (b.rd (Reg.LINK_STAT_MISS_RUN l) + 1)
  let b := (b.count (Reg.LINK_MISS_CNT_COUNT l) 1).wr (Reg.LINK_STAT_MISS_RUN l) run
  let b := (b.count Reg.SYS_LATE_RPT_CNT_COUNT 1).count Reg.SYS_STROKE_STAT_MISS_COUNT 1
  let b := b.flag Reg.SYS_STROKE_STAT_REPORT_MISS true
  if b.rd Reg.LINK_GCFG_MISS_LIM ≤ run then b.laneDown l (if b.on (Reg.LINK_STAT_LOS l) then 1 else 2) true else b

/-- Lane `l` when the window closes: the report received is the one used; missing reports count in a populated slot from
    the second stroke of ACTIVE. -/
def Block.laneReport (l : Nat) (b : Block) : Block :=
  let x := b.lane l
  if b.rd (Reg.LINK_STAT_STATE l) ≠ 4 then b.updLane l fun x => { x with fresh := false }
  else match x.rpt with
    | some r =>
      ((b.showReport l r).wr (Reg.LINK_STAT_MISS_RUN l) 0).updLane l fun x =>
        { x with rpt := none, good := some r, fresh := true, inj := false }
    | none =>
      let b := b.updLane l fun x => { x with fresh := false }
      if b.populated l && decide (2 ≤ x.strokes) then b.reportMissing l else b

/-- REPORT_WINDOW_CLOSE: at 270 ns the reports are judged and the armature window runs; in an untimed stroke the armature
    updates nothing (R32, R52). -/
def Block.reportWindowClose (b : Block) : Block :=
  if !b.strk.ticking || b.strk.phase != .begun then b
  else
    let b := b.until (b.strk.b + 270)
    let b := (b.wr Reg.SYS_STROKE_STAT_MISS_COUNT 0).flag Reg.SYS_STROKE_STAT_REPORT_MISS false
    let b := (b.each 192 fun l b => b.laneReport l).pairWindow
    let b := (b.each 192 fun s b => b.cellReport s).ledgerStroke
    let b := b.gather
    let b := if b.strk.untimed then b else b.armature
    (b.syncCount).updStrk fun k => { k with phase := .reported }

/-! ### The freeze (R37) -/

/-- IMAGE_FREEZE: at 1,000 ns the bank that was filling becomes the frozen bank; streams, host channels and the pair frame
    follow. -/
def Block.imageFreeze (b : Block) : Block :=
  if !b.strk.ticking || b.strk.phase != .compiled then b
  else
    let b := ((b.until (b.strk.b + 1000)).cutStreams).testShow
    let b := (b.each 24 fun l b => b.settleLeg l).showImage
    let b := { b with frozen := b.regs }.testErrors
    let b := b.updStrk fun k => { k with phase := .frozen }
    ((b.dueStreams).hostFreeze).pairSend

/-! ### Meanings -/

/-- STROKE_TICK (R27). -/
def execStrokeTick (s : State) : Host.Outcome State Fault Refusal := s.onBlk (·.strokeTick)
/-- REPORT_WINDOW_CLOSE (R34). -/
def execReportWindowClose (s : State) : Host.Outcome State Fault Refusal := s.onBlk (·.reportWindowClose)
/-- IMAGE_FREEZE (R37). -/
def execImageFreeze (s : State) : Host.Outcome State Fault Refusal := s.onBlk (·.imageFreeze)

end Sys2Proof.Machine
end

