-- ==== Sys2Proof/Machine/Background.lean ====
section
/-! DEFINITION. Background work (R435 to R437) and the transceiver cages (R449). -/

namespace Sys2Proof.Machine

/-! ### The scrub (R355, R435) -/

/-- One read of the scrub: checker 0 inverts it while an injection remains, and the word is then uncorrectable. -/
def Block.scrubRead (r : SramRegion) (addr : Nat) (b : Block) : Block :=
  if b.injects 0 0 then (b.checked 0 0).sramUncorr r addr true else b

/-- What the supply sag makes of a background interval: each level doubles it (R393, R434). -/
def Block.sagged (b : Block) (ms : Nat) : Nat := ms * 2 ^ b.rd Reg.SYS_PWR_STAT_SAG * msPs

/-- SRAM_SCRUB_PASS: a pass of 2 s ends; it has corrected words, and `reads` are the words read next while injected checks
    remain.  The SRAM is powered from the release of D2, and not in P4 (R391, R434). -/
def Block.scrubPass (corrected : Nat) (reads : List (SramRegion × Word)) (b : Block) : Block :=
  if !b.released 2 then b
  else
    let from_ := max b.dma.scrubAt b.boot.d2At
    let b := b.untilUp (from_ + b.sagged 2000)
    let b := (b.bump Reg.DMA_BG_SCRUB_PASSES).wr Reg.DMA_BG_SCRUB_PASS_MS (satNat 16 ((b.tb.up - from_) / msPs))
    let b := b.updDma fun d => { d with scrubAt := b.tb.up }
    let b := (b.count Reg.DMA_BG_CORR_COUNT corrected).each corrected fun _ b => b.raise { source := 2 }
    b.eachOf reads fun r b => b.scrubRead r.1 r.2.toNat

/-! ### The eye scan (R201, R436) -/

/-- The lane that the scan takes after lane `l`: the next that is ACTIVE, round to `l` itself. -/
def Block.eyeNext (b : Block) (l : Nat) : Nat :=
  (((List.range 192).map fun j => (l + 1 + j) % 192).find? fun m => b.rd (Reg.LINK_STAT_STATE m) == 4).getD l

/-- The lane whose scan is due: the one DMA_BG_EYE names, or where it is not ACTIVE the next that is. -/
def Block.eyeDue (b : Block) : Nat :=
  let l := b.rd Reg.DMA_BG_EYE_LANE
  if b.rd (Reg.LINK_STAT_STATE l) = 4 then l else b.eyeNext l

/-- A sweep ends when the scan comes round. -/
def Block.eyeAdvance (l : Nat) (b : Block) : Block :=
  let n := b.eyeNext l
  let b := (b.wr Reg.DMA_BG_EYE_LANE n).updDma fun d => { d with eyeAt := b.tb.up }
  if l < n then b
  else (b.wr Reg.DMA_BG_EYE_SWEEP_MS (satNat 16 ((b.tb.up - max b.dma.sweepAt b.boot.d7At) / (10 * msPs)))).updDma
    fun d => { d with sweepAt := b.tb.up }

/-- Is an eye width measured and below EYE_MIN? -/
def Block.eyeLow (b : Block) (w : Nat) : Bool := decide (0 < w) && decide (w < b.rd Reg.LINK_GCFG_EYE_MIN)

/-- EYE_SCAN: the eye of the lane that is due has been measured, over 50 ms.  The cores do the scan.  LANE_EYE_LOW is raised
    when the width falls below EYE_MIN. -/
def Block.eyeScan (l height width : Nat) (b : Block) : Block :=
  if !b.cores || b.rd (Reg.LINK_STAT_STATE l) ≠ 4 || l ≠ b.eyeDue then b
  else
    let b := b.untilUp (max b.dma.eyeAt b.boot.d7At + b.sagged 50)
    let was := b.eyeLow (b.rd (Reg.LINK_EYE_WIDTH l))
    let b := (b.wr (Reg.LINK_EYE_HEIGHT l) height).wr (Reg.LINK_EYE_WIDTH l) width
    let low := decide (width < b.rd Reg.LINK_GCFG_EYE_MIN)
    let b := if low && !was then b.raise { source := 99, unitType := 2, idx := l } else b
    b.eyeAdvance l

/-! ### Wear levelling (R437) -/

/-- Flash is being written: an image, the ledger or records. -/
def Block.flashBusy (b : Block) : Bool :=
  b.cells.committing || (match b.headWait with
    | some (.program _) => true
    | some (.activate _) => true
    | _ => false)

/-- WEAR_LEVEL_MOVE: channel 10 moves a block, at most one every 10 s.  Where an injected check fails its read for good, the
    old block stays in use; a block of the ledger is read from the other copy then (R18, R355, R422).  `corrected`: the errors
    that the flash check corrected. -/
def Block.wearMove (corrected : Nat) (b : Block) : Block :=
  if !b.cores || b.flashBusy || b.on Reg.DMA_STAT_HALTED then b
  else
    let b := match b.dma.wearAt with
      | some t => b.untilUp (t + b.sagged 10000)
      | none => b
    let b := (b.updDma fun d => { d with wearAt := some b.tb.up }).fwBegin 10 512
    let dup := duplicated b.movedHome
    let fails := !dup && b.readFails 10
    let b := if dup then b.flashCheck (some corrected) else b.flashReads 10 (some corrected)
    if fails then b.fwEnd 10 false
    else (((b.bulkShare 10).blockMoves).fwEnd 10 true).count Reg.DMA_BG_MOVES_COUNT 1

/-! ### Cages (R24, R449) -/

/-- The number of a cage. -/
def cageNum : Cage → Nat
  | .pair => 0
  | .stnA => 1
  | .stnB => 2

/-- The types a cage accepts. -/
def accepts (c : Cage) (t : XcvrType) : Bool :=
  match c, t with
  | .pair, .base100Sr4 => true
  | .pair, .base100Cr4 => true
  | .stnA, .base10Sr => true
  | .stnA, .base10Lr => true
  | .stnA, .base1Sx => true
  | .stnA, .base1Lx => true
  | .stnB, .base10Sr => true
  | .stnB, .base10Lr => true
  | .stnB, .base1Sx => true
  | .stnB, .base1Lx => true
  | _, _ => false

/-- The allowance of a cage in mW (R24). -/
def allowance (c : Cage) : Nat :=
  match c with
  | .pair => 3500
  | .stnA => 1000
  | .stnB => 1000

/-- The port of a cage goes down. -/
def Block.cageDown (c : Cage) (b : Block) : Block :=
  match c with
  | .pair => b
  | .stnA => b.stationLinkChange .a false
  | .stnB => b.stationLinkChange .b false

/-- TRANSCEIVER_REMOVE. -/
def Block.xcvrRemove (c : Cage) (b : Block) : Block :=
  (b.updPow fun p => { p with cages := SMap.erase (cageNum c) p.cages }).cageDown c

/-- TRANSCEIVER_INSERT: accepted and powered, or kept unpowered with its port down. -/
def Block.xcvrInsert (c : Cage) (t : XcvrType) (mW : Nat) (b : Block) : Block :=
  if accepts c t && decide (mW ≤ allowance c) then
    b.updPow fun p => { p with cages := SMap.insert (cageNum c) t (SMap.erase (cageNum c) p.cages) }
  else b.xcvrRemove c

/-! ### Meanings -/

/-- SRAM_SCRUB_PASS (R435). -/
def execSramScrubPass (corrected : Nat) (reads : List (SramRegion × Word)) (s : State) :
    Host.Outcome State Fault Refusal := s.onBlk (·.scrubPass corrected reads)
/-- EYE_SCAN (R436). -/
def execEyeScan (l : Fin 192) (height width : BitVec 8) (s : State) : Host.Outcome State Fault Refusal :=
  s.onBlk (·.eyeScan l height.toNat width.toNat)
/-- WEAR_LEVEL_MOVE (R437). -/
def execWearLevelMove (corrected : Nat) (s : State) : Host.Outcome State Fault Refusal := s.onBlk (·.wearMove corrected)
/-- TRANSCEIVER_INSERT (R449). -/
def execTransceiverInsert (cage : Cage) (type : XcvrType) (power : Nat) (s : State) : Host.Outcome State Fault Refusal :=
  s.onBlk (·.xcvrInsert cage type power)
/-- TRANSCEIVER_REMOVE (R449). -/
def execTransceiverRemove (cage : Cage) (s : State) : Host.Outcome State Fault Refusal := s.onBlk (·.xcvrRemove cage)

end Sys2Proof.Machine
end

