-- ==== Sys2Proof/Machine/Dispatch.lean ====
section
/-! DEFINITION. The meaning of every command: one arm for each constructor of `Instr`. -/

namespace Sys2Proof.Machine

def exec (i : Instr) (s : State) : Host.Outcome State Fault Refusal :=
  match i with
  | .jarvasPacketRx p => Sys2Proof.Machine.execJarvasPacketRx p s
  | .arpRequestRx port target senderIp senderMac => Sys2Proof.Machine.execArpRequestRx port target senderIp senderMac s
  | .ping rq payload => Sys2Proof.Machine.execPing rq payload s
  | .ident rq => Sys2Proof.Machine.execIdent rq s
  | .regRead rq addr => Sys2Proof.Machine.execRegRead rq addr s
  | .regWrite rq addr v => Sys2Proof.Machine.execRegWrite rq addr v s
  | .regReadBlock rq start n => Sys2Proof.Machine.execRegReadBlock rq start n s
  | .regWriteBlock rq start vals => Sys2Proof.Machine.execRegWriteBlock rq start vals s
  | .cast rq => Sys2Proof.Machine.execCast rq s
  | .castAt rq t => Sys2Proof.Machine.execCastAt rq t s
  | .maquetteDiscard rq => Sys2Proof.Machine.execMaquetteDiscard rq s
  | .imageRead rq off len => Sys2Proof.Machine.execImageRead rq off len s
  | .streamOpen rq desc => Sys2Proof.Machine.execStreamOpen rq desc s
  | .streamClose rq id => Sys2Proof.Machine.execStreamClose rq id s
  | .converterStart rq => Sys2Proof.Machine.execConverterStart rq s
  | .converterStop rq => Sys2Proof.Machine.execConverterStop rq s
  | .safeStop rq => Sys2Proof.Machine.execSafeStop rq s
  | .cellFence rq slot => Sys2Proof.Machine.execCellFence rq slot s
  | .cellReseat rq slot => Sys2Proof.Machine.execCellReseat rq slot s
  | .eventRead rq first m => Sys2Proof.Machine.execEventRead rq first m s
  | .eventAck rq n => Sys2Proof.Machine.execEventAck rq n s
  | .faultClear rq unit idx => Sys2Proof.Machine.execFaultClear rq unit idx s
  | .inject rq checker idx n => Sys2Proof.Machine.execInject rq checker idx n s
  | .latencyTol rq tol => Sys2Proof.Machine.execLatencyTol rq tol s
  | .imageWrite rq type off data => Sys2Proof.Machine.execImageWrite rq type off data s
  | .imageVerify rq type => Sys2Proof.Machine.execImageVerify rq type s
  | .imageActivate rq type => Sys2Proof.Machine.execImageActivate rq type s
  | .attest rq nonce => Sys2Proof.Machine.execAttest rq nonce s
  | .queryLast rq => Sys2Proof.Machine.execQueryLast rq s
  | .reset rq level key => Sys2Proof.Machine.execReset rq level key s
  | .plinthExit rq key => Sys2Proof.Machine.execPlinthExit rq key s
  | .maquetteWrite rq addr v => Sys2Proof.Machine.execMaquetteWrite rq addr v s
  | .regFieldWrite rq addr v => Sys2Proof.Machine.execRegFieldWrite rq addr v s
  | .timeIncIntWrite rq v => Sys2Proof.Machine.execTimeIncIntWrite rq v s
  | .timeIncFracWrite rq v => Sys2Proof.Machine.execTimeIncFracWrite rq v s
  | .timeAdjDeltaWrite rq v => Sys2Proof.Machine.execTimeAdjDeltaWrite rq v s
  | .timeAdjCntWrite rq v => Sys2Proof.Machine.execTimeAdjCntWrite rq v s
  | .adjStop rq => Sys2Proof.Machine.execAdjStop rq s
  | .timeStepRequest rq => Sys2Proof.Machine.execTimeStepRequest rq s
  | .timeNowRead rq => Sys2Proof.Machine.execTimeNowRead rq s
  | .tsPop rq k => Sys2Proof.Machine.execTsPop rq k s
  | .pwmLegForceWrite rq l v => Sys2Proof.Machine.execPwmLegForceWrite rq l v s
  | .adcScanSelect rq on => Sys2Proof.Machine.execAdcScanSelect rq on s
  | .adcCaptureHalt rq on => Sys2Proof.Machine.execAdcCaptureHalt rq on s
  | .adcRotHold rq on => Sys2Proof.Machine.execAdcRotHold rq on s
  | .adcHostTake rq mask => Sys2Proof.Machine.execAdcHostTake rq mask s
  | .adcScanMaskWrite rq high v => Sys2Proof.Machine.execAdcScanMaskWrite rq high v s
  | .adcDataRead rq k => Sys2Proof.Machine.execAdcDataRead rq k s
  | .linkTestStart rq l => Sys2Proof.Machine.execLinkTestStart rq l s
  | .linkTestStop rq l => Sys2Proof.Machine.execLinkTestStop rq l s
  | .pwmDiagStart rq mask => Sys2Proof.Machine.execPwmDiagStart rq mask s
  | .pairHandover rq => Sys2Proof.Machine.execPairHandover rq s
  | .ledgerCommitRequest rq => Sys2Proof.Machine.execLedgerCommitRequest rq s
  | .fallbackResume rq => Sys2Proof.Machine.execFallbackResume rq s
  | .dmaChLoad rq ch => Sys2Proof.Machine.execDmaChLoad rq ch s
  | .dmaChStop rq ch => Sys2Proof.Machine.execDmaChStop rq ch s
  | .dmaRestart rq => Sys2Proof.Machine.execDmaRestart rq s
  | .strokeTick => Sys2Proof.Machine.execStrokeTick s
  | .reportWindowClose => Sys2Proof.Machine.execReportWindowClose s
  | .chiselCompile => Sys2Proof.Machine.execChiselCompile s
  | .maquetteResyncEnd => Sys2Proof.Machine.execMaquetteResyncEnd s
  | .imageFreeze => Sys2Proof.Machine.execImageFreeze s
  | .strokeChannelRun k => Sys2Proof.Machine.execStrokeChannelRun k s
  | .hostChannelTransferDone ch => Sys2Proof.Machine.execHostChannelTransferDone ch s
  | .dmaBusError ch kind addr => Sys2Proof.Machine.execDmaBusError ch kind addr s
  | .timingRestored => Sys2Proof.Machine.execTimingRestored s
  | .timingLost => Sys2Proof.Machine.execTimingLost s
  | .prechargeComplete => Sys2Proof.Machine.execPrechargeComplete s
  | .syncComplete => Sys2Proof.Machine.execSyncComplete s
  | .stopComplete => Sys2Proof.Machine.execStopComplete s
  | .prechargeTimeout => Sys2Proof.Machine.execPrechargeTimeout s
  | .syncTimeout => Sys2Proof.Machine.execSyncTimeout s
  | .gridTrackerLock => Sys2Proof.Machine.execGridTrackerLock s
  | .gridLost => Sys2Proof.Machine.execGridLost s
  | .headroomChange => Sys2Proof.Machine.execHeadroomChange s
  | .ctxSourceLost c => Sys2Proof.Machine.execCtxSourceLost c s
  | .pairFrameRx bytes => Sys2Proof.Machine.execPairFrameRx bytes s
  | .pairLost => Sys2Proof.Machine.execPairLost s
  | .pairWaitTimeout => Sys2Proof.Machine.execPairWaitTimeout s
  | .beaconBurstSend l => Sys2Proof.Machine.execBeaconBurstSend l s
  | .beaconAnswerRx l => Sys2Proof.Machine.execBeaconAnswerRx l s
  | .lightLoss l => Sys2Proof.Machine.execLightLoss l s
  | .blockLockGain l => Sys2Proof.Machine.execBlockLockGain l s
  | .blockLockLoss l => Sys2Proof.Machine.execBlockLockLoss l s
  | .markerRx l farLock => Sys2Proof.Machine.execMarkerRx l farLock s
  | .trainLocked l => Sys2Proof.Machine.execTrainLocked l s
  | .trainTimeout l => Sys2Proof.Machine.execTrainTimeout l s
  | .echoRspRx l num loop => Sys2Proof.Machine.execEchoRspRx l num loop s
  | .echoTimeout l => Sys2Proof.Machine.execEchoTimeout l s
  | .capabilityFrameRx l bytes => Sys2Proof.Machine.execCapabilityFrameRx l bytes s
  | .capexTimeout l => Sys2Proof.Machine.execCapexTimeout l s
  | .reportFrameRx l bytes => Sys2Proof.Machine.execReportFrameRx l bytes s
  | .testPatternStart l => Sys2Proof.Machine.execTestPatternStart l s
  | .testEnd l errs => Sys2Proof.Machine.execTestEnd l errs s
  | .testDarkEnd l => Sys2Proof.Machine.execTestDarkEnd l s
  | .testResultTimeout l => Sys2Proof.Machine.execTestResultTimeout l s
  | .eyeScan l height width => Sys2Proof.Machine.execEyeScan l height width s
  | .blockDecision => Sys2Proof.Machine.execBlockDecision s
  | .probeStepTimeout u => Sys2Proof.Machine.execProbeStepTimeout u s
  | .chargeHoldMet u => Sys2Proof.Machine.execChargeHoldMet u s
  | .joiningComplete u => Sys2Proof.Machine.execJoiningComplete u s
  | .chargingTimeout u => Sys2Proof.Machine.execChargingTimeout u s
  | .spareRotation arm => Sys2Proof.Machine.execSpareRotation arm s
  | .autoReadmit u => Sys2Proof.Machine.execAutoReadmit u s
  | .wearIndexCompute => Sys2Proof.Machine.execWearIndexCompute s
  | .ledgerCommit => Sys2Proof.Machine.execLedgerCommit s
  | .ledgerCommitDone ok => Sys2Proof.Machine.execLedgerCommitDone ok s
  | .pwmUpdatePoint l => Sys2Proof.Machine.execPwmUpdatePoint l s
  | .legEdge l => Sys2Proof.Machine.execLegEdge l s
  | .bootstrapRefresh l => Sys2Proof.Machine.execBootstrapRefresh l s
  | .interlockAct l => Sys2Proof.Machine.execInterlockAct l s
  | .interlockPersist l => Sys2Proof.Machine.execInterlockPersist l s
  | .desatDetect l upper => Sys2Proof.Machine.execDesatDetect l upper s
  | .fastCurrentTrip l => Sys2Proof.Machine.execFastCurrentTrip l s
  | .gateStuck p => Sys2Proof.Machine.execGateStuck p s
  | .staticShort p => Sys2Proof.Machine.execStaticShort p s
  | .tripInput k level => Sys2Proof.Machine.execTripInput k level s
  | .gateUvlo ch low => Sys2Proof.Machine.execGateUvlo ch low s
  | .diagPhaseEnd group meanMv => Sys2Proof.Machine.execDiagPhaseEnd group meanMv s
  | .brakeOn => Sys2Proof.Machine.execBrakeOn s
  | .brakeOff => Sys2Proof.Machine.execBrakeOff s
  | .brakeLong => Sys2Proof.Machine.execBrakeLong s
  | .portCloseSettled p => Sys2Proof.Machine.execPortCloseSettled p s
  | .portCloseFail p => Sys2Proof.Machine.execPortCloseFail p s
  | .cotComparatorFire p => Sys2Proof.Machine.execCotComparatorFire p s
  | .onTimeEnd p second => Sys2Proof.Machine.execOnTimeEnd p second s
  | .diodeEmulationEnd p second => Sys2Proof.Machine.execDiodeEmulationEnd p second s
  | .fastLimitTrip p second => Sys2Proof.Machine.execFastLimitTrip p second s
  | .hiccupCondition p => Sys2Proof.Machine.execHiccupCondition p s
  | .softStartCheck p => Sys2Proof.Machine.execSoftStartCheck p s
  | .hiccupOffEnd p => Sys2Proof.Machine.execHiccupOffEnd p s
  | .portStopComplete p => Sys2Proof.Machine.execPortStopComplete p s
  | .portRetryReset p => Sys2Proof.Machine.execPortRetryReset p s
  | .fallbackHostLoss => Sys2Proof.Machine.execFallbackHostLoss s
  | .fallbackPin low => Sys2Proof.Machine.execFallbackPin low s
  | .vselSample v => Sys2Proof.Machine.execVselSample v s
  | .adcSlotConversion k raw => Sys2Proof.Machine.execAdcSlotConversion k raw s
  | .adcHandover => Sys2Proof.Machine.execAdcHandover s
  | .adcCalComplete conv cal => Sys2Proof.Machine.execAdcCalComplete conv cal s
  | .adjustmentEnd => Sys2Proof.Machine.execAdjustmentEnd s
  | .ptpMessageRx m => Sys2Proof.Machine.execPtpMessageRx m s
  | .pdelayReqSend port => Sys2Proof.Machine.execPdelayReqSend port s
  | .ptpDomainLost dom => Sys2Proof.Machine.execPtpDomainLost dom s
  | .tsEdge k rising => Sys2Proof.Machine.execTsEdge k rising s
  | .pllHoldover pll => Sys2Proof.Machine.execPllHoldover pll s
  | .pllRelock pll => Sys2Proof.Machine.execPllRelock pll s
  | .pllBandFail pll => Sys2Proof.Machine.execPllBandFail pll s
  | .clockMonitorFail mon => Sys2Proof.Machine.execClockMonitorFail mon s
  | .clockMonitorPass mon => Sys2Proof.Machine.execClockMonitorPass mon s
  | .transceiverInsert cage type power => Sys2Proof.Machine.execTransceiverInsert cage type power s
  | .eventNumbering => Sys2Proof.Machine.execEventNumbering s
  | .eventCommit => Sys2Proof.Machine.execEventCommit s
  | .contactPairOpen c => Sys2Proof.Machine.execContactPairOpen c s
  | .testPulseEnd tp2 stuck => Sys2Proof.Machine.execTestPulseEnd tp2 stuck s
  | .discrepancyTime pairB => Sys2Proof.Machine.execDiscrepancyTime pairB s
  | .safeResetEdge => Sys2Proof.Machine.execSafeResetEdge s
  | .safeFrameRx port bytes => Sys2Proof.Machine.execSafeFrameRx port bytes s
  | .safeCopyWindowExpiry => Sys2Proof.Machine.execSafeCopyWindowExpiry s
  | .safeFrameWatch => Sys2Proof.Machine.execSafeFrameWatch s
  | .safeRampTimeout => Sys2Proof.Machine.execSafeRampTimeout s
  | .gateRemoval => Sys2Proof.Machine.execGateRemoval s
  | .removalReadbackFail which => Sys2Proof.Machine.execRemovalReadbackFail which s
  | .safeChannelMismatch => Sys2Proof.Machine.execSafeChannelMismatch s
  | .safeAutoStart => Sys2Proof.Machine.execSafeAutoStart s
  | .thermalRead readings => Sys2Proof.Machine.execThermalRead readings s
  | .sensorDisagree h on => Sys2Proof.Machine.execSensorDisagree h on s
  | .powerStateMoveDone => Sys2Proof.Machine.execPowerStateMoveDone s
  | .wakeN => Sys2Proof.Machine.execWakeN s
  | .supplySag rail => Sys2Proof.Machine.execSupplySag rail s
  | .sagLevel2 => Sys2Proof.Machine.execSagLevel2 s
  | .sagRecover => Sys2Proof.Machine.execSagRecover s
  | .brownout => Sys2Proof.Machine.execBrownout s
  | .powerOnReset => Sys2Proof.Machine.execPowerOnReset s
  | .resetNPin => Sys2Proof.Machine.execResetNPin s
  | .systemResetPrep => Sys2Proof.Machine.execSystemResetPrep s
  | .watchdogExpiry => Sys2Proof.Machine.execWatchdogExpiry s
  | .lockstepMismatch => Sys2Proof.Machine.execLockstepMismatch s
  | .sramUncorr region addr => Sys2Proof.Machine.execSramUncorr region addr s
  | .regParity addr => Sys2Proof.Machine.execRegParity addr s
  | .sramScrubPass corrected reads => Sys2Proof.Machine.execSramScrubPass corrected reads s
  | .wearLevelMove corrected => Sys2Proof.Machine.execWearLevelMove corrected s
  | .coreResetRestart => Sys2Proof.Machine.execCoreResetRestart s
  | .strokeWatchExpiry => Sys2Proof.Machine.execStrokeWatchExpiry s
  | .domainRelease d => Sys2Proof.Machine.execDomainRelease d s
  | .startConfigLoad => Sys2Proof.Machine.execStartConfigLoad s
  | .startComplete => Sys2Proof.Machine.execStartComplete s
  | .startTimeout => Sys2Proof.Machine.execStartTimeout s
  | .contactPairClose c => Sys2Proof.Machine.execContactPairClose c s
  | .testPulseStart tp2 => Sys2Proof.Machine.execTestPulseStart tp2 s
  | .gateOffConfirmed p => Sys2Proof.Machine.execGateOffConfirmed p s
  | .gate24Change ok => Sys2Proof.Machine.execGate24Change ok s
  | .prbsSyncGain l => Sys2Proof.Machine.execPrbsSyncGain l s
  | .prbsSyncLoss l => Sys2Proof.Machine.execPrbsSyncLoss l s
  | .bitLockChange l on => Sys2Proof.Machine.execBitLockChange l on s
  | .lightReturn l => Sys2Proof.Machine.execLightReturn l s
  | .streamBufferDrained port => Sys2Proof.Machine.execStreamBufferDrained port s
  | .transceiverRemove cage => Sys2Proof.Machine.execTransceiverRemove cage s
  | .stationLinkChange port up => Sys2Proof.Machine.execStationLinkChange port up s
  | .imageProgramDone type => Sys2Proof.Machine.execImageProgramDone type s
  | .imageWriteTimeout type => Sys2Proof.Machine.execImageWriteTimeout type s
  | .imageVerifyDone type => Sys2Proof.Machine.execImageVerifyDone type s
  | .safeRestoreReadbackFail => Sys2Proof.Machine.execSafeRestoreReadbackFail s
  | .debugOverride mask => Sys2Proof.Machine.execDebugOverride mask s

end Sys2Proof.Machine
end

