-- ==== Sys2Proof/Safety.lean ====
section
/-! DEFINITION. The words the statements are written in: a command that completes, a Jarvas command at its turn and its
    answer, the canonical form of a bank, and what a safe run keeps. -/

namespace Sys2Proof.Machine

/-- The command completes: the block answers a next state that satisfies `post`, and the commands that wait are the
    same. -/
def Does (c : Instr) (s : State) (post : Block → Prop) : Prop :=
  ∃ t, exec c s = .next t ∧ t.pending = s.pending ∧ post t.blk

/-- The command `op` of request `rq` is at its turn (R64): the management cores run, and it is at the head of the queue. -/
abbrev AtTurn (b : Block) (rq : Req) (op : Nat) : Prop :=
  b.cores = true ∧ b.jv.queue.head? = some { req := rq, op := BitVec.ofNat 8 op, wait := .turn, disarmed := false }

/-- The last thing the block sent is the packet of the reply to `rq` with this status, detail and payload (R59). -/
def Replied (b : Block) (rq : Req) (op status detail : Nat) (payload : List Byte) : Prop :=
  ∃ r : Reply, b.out.head? = some (.reply r.src r.both r.packet) ∧ r.src = rq.src ∧ r.seq = rq.seq ∧ r.op = BitVec.ofNat 8 op
    ∧ r.status = BitVec.ofNat 8 status ∧ r.detail = BitVec.ofNat 8 detail ∧ r.payload = payload

/-- The command at the head of the queue has ended (R64 to R66): it has left the queue, its sequence is recorded as the last
    executed, and its reply is sent. -/
def Answered (b b' : Block) (rq : Req) (op status detail : Nat) (payload : List Byte) : Prop :=
  b'.jv.queue = b.jv.queue.tail ∧ b'.rd Reg.SYS_SEQ_LAST_SEQ = rq.seq.toNat ∧ b'.on Reg.SYS_CMD_STAT_SEQ_VALID = true
    ∧ Replied b' rq op status detail payload

/-- The command at the head of the queue waits for `w`, and no reply is sent (R74, R80). -/
def Waits (b b' : Block) (w : Wait) : Prop :=
  b'.headWait = some w ∧ b'.jv.queue.tail = b.jv.queue.tail ∧ b'.out = b.out

/-- An occurrence that is detected (R345) and whose record is not held off (R350). -/
abbrev Loggable (b : Block) (o : Occ) : Prop := b.detects o = true ∧ b.heldOff o (b.classOf o) = false

/-- One record of the occurrence is logged (R346): it waits to be numbered, behind those that waited already. -/
def Logs (o : Occ) (b b' : Block) : Prop :=
  ∃ r, b'.evt.held = b.evt.held ++ [r] ∧ r.source = o.source ∧ r.cls = b.classOf o ∧ r.unitType = o.unitType
    ∧ r.idx = (if o.unitType = 0 then 0 else o.idx) ∧ r.code = o.code

/-- The components of the block. -/
inductive Part where
  | regs | frozen | tb | strk | cst | jv | evt | lv | lanes | cells | ctxs | chs | conv | adc | ptp | dma | safe | pow
  | boot | pair | clk | draws | out
  deriving DecidableEq, Repr

/-- A component is the same in two blocks. -/
def Part.same (p : Part) (b b' : Block) : Prop :=
  match p with
  | .regs => b'.regs = b.regs
  | .frozen => b'.frozen = b.frozen
  | .tb => b'.tb = b.tb
  | .strk => b'.strk = b.strk
  | .cst => b'.cst = b.cst
  | .jv => b'.jv = b.jv
  | .evt => b'.evt = b.evt
  | .lv => b'.lv = b.lv
  | .lanes => b'.lanes = b.lanes
  | .cells => b'.cells = b.cells
  | .ctxs => b'.ctxs = b.ctxs
  | .chs => b'.chs = b.chs
  | .conv => b'.conv = b.conv
  | .adc => b'.adc = b.adc
  | .ptp => b'.ptp = b.ptp
  | .dma => b'.dma = b.dma
  | .safe => b'.safe = b.safe
  | .pow => b'.pow = b.pow
  | .boot => b'.boot = b.boot
  | .pair => b'.pair = b.pair
  | .clk => b'.clk = b.clk
  | .draws => b'.draws = b.draws
  | .out => b'.out = b.out

/-- The frame over components: all but the ones named are the same. -/
def Keeps (changed : List Part) (b b' : Block) : Prop := ∀ p, p ∉ changed → p.same b b'

/-- The frame over register fields: all but the ones named read the same. -/
def RegsBut (fs : List Field) (b b' : Block) : Prop := ∀ g : Field, g.key ∉ fs.map Field.key → b'.rd g = b.rd g

/-- The components that the occurrence of an event may change (R339 to R354). -/
def raiseParts : List Part := [.regs, .evt, .lv, .cells, .ctxs, .conv, .safe, .pair, .out]

/-- The components and the fields that the end of a Jarvas command changes: its reply and its sequence (R64 to R66). -/
def endParts : List Part := [.regs, .jv, .out]

/-- The three fields that the end of a Jarvas command writes. -/
def endFields : List Field := [Reg.SYS_SEQ_LAST_SEQ, Reg.SYS_CMD_STAT_SEQ_VALID, Reg.SYS_CMD_STAT_RESTARTED]

/-- The two fields that the passing of time counts down: an adjustment of the time base in progress (R314). -/
def adjFields : List Field := [Reg.TIME_ADJ_CNT_CNT, Reg.TIME_STAT_ADJ_BUSY]

/-- The fields that a change of a lane's state writes (R182, R183). -/
def laneFields (l : Nat) : List Field :=
  [Reg.LINK_STAT_STATE l, Reg.LINK_STAT_REJECT l, Reg.LINK_STAT_MISS_RUN l, Reg.LINK_STAT_BIT_LOCK l,
   Reg.LINK_STAT_BLOCK_LOCK l, Reg.LINK_STAT_FAR_LOCK l, Reg.LINK_RETRAIN_CNT_COUNT l, Reg.LINK_TEST_STAT_RUNNING l]

/-- The canonical form of a bank of fields: its keys rise strictly, and no entry holds the value its field has at reset. -/
abbrev Bank.wf (m : Bank) : Prop :=
  SMap.sorted m = true ∧ ∀ e ∈ m, (fieldOfKey e.1).map Field.reset ≠ some e.2

/-- The window of R313: the increment, and the increment with the adjustment in progress, lie within 500 ppm of the
    nominal 1.25 ns. -/
abbrev TimeBase.inWindow (t : TimeBase) : Prop :=
  (incMin ≤ (t.inc : Int) ∧ (t.inc : Int) ≤ incMax)
    ∧ incMin ≤ (t.inc : Int) + t.delta ∧ (t.inc : Int) + t.delta ≤ incMax

/-- The images in flash: firmware, option and maquette slots (R412 to R414). -/
def Block.images (b : Block) : SMap Img × SMap Img × SMap Img := (b.boot.fw, b.boot.opt, b.boot.cfg)

end Sys2Proof.Machine
end

