-- ==== Sys2Proof/Certificates/Slice0/Obligations.lean ====
section
/-! DEFINITION. The statements for the provers. -/

open Sys2Proof Sys2Proof.Machine

/-! ### The machine as a whole -/

/-- A step takes the command at the front of the queue and runs it with the queue's rest; with nothing queued, one cycle
    of the stroke clock passes (log entry 1). -/
def Obligations.StepRunsTheFrontCommand : Prop :=
  (∀ (c : Instr) (rest : List Instr) (s : State), s.pending = c :: rest →
    step s = exec c { s with pending := rest })
  ∧ ∀ s : State, s.pending = [] → step s = .next { s with blk := s.blk.advance 1 }

/-- Every command completes: no command faults or is refused, and none changes the commands that wait behind it. -/
def Obligations.NoCommandStops : Prop :=
  ∀ (c : Instr) (s : State), ∃ t, exec c s = .next t ∧ t.pending = s.pending

/-- After power-on (R9, R375) the converter is OFF, no stroke runs, the time base stands at 0 with an increment of 1.25 ns, no
    cast is armed, the safety latch is set with cause 0x01 and the gate supplies are off, every leg is off, every port IDLE and
    every lane DISABLED, the age of every PTP domain reads 65,535, and no command or event waits. -/
def Obligations.ResetState : Prop :=
  let b := State.reset.blk
  State.reset.pending = [] ∧ b.rd Reg.SYS_CONV_STAT_STATE = 0 ∧ b.strk.ticking = false ∧ b.tb.now = 0 ∧ b.tb.run = false
    ∧ b.tb.inc * 4 = 5 * 2 ^ 32 ∧ b.rd Reg.TIME_INC_INT_INT = 1 ∧ b.rd Reg.TIME_INC_FRAC_FRAC = 0x40000000
    ∧ b.cst.armed = none ∧ b.jv.queue = [] ∧ b.evt.held = [] ∧ b.evt.recov = [] ∧ b.lanes = []
    ∧ (∀ l : Fin 24, b.rd (Reg.PWM_LEG_STAT_STATE l) = 0) ∧ (∀ p : Fin 8, b.rd (Reg.PORT_STAT_STATE p) = 0)
    ∧ (∀ x : Fin 2, b.rd (Reg.TIME_DOM_AGE_AGE_MS x) = 65535)
    ∧ b.rd Reg.SAFE_STAT_STATE = 2 ∧ b.rd Reg.SAFE_STAT_CAUSE = 1 ∧ b.on Reg.GATE_STAT_SUPPLY_A = false
    ∧ b.on Reg.GATE_STAT_SUPPLY_B = false ∧ (∀ l : Fin 192, b.rd (Reg.LINK_STAT_STATE l) = 0)

/-- The increment of the time base lies in the window of R313 after reset. -/
def Obligations.ResetMeetsTimeWindow : Prop := State.reset.blk.tb.inWindow

/-- From every state whose increment, with and without the adjustment in progress, lies in the window of R313, every step
    leaves it there: no write, no servo and no reset takes it out. -/
def Obligations.EveryStepKeepsTimeWindow : Prop :=
  ∀ s t : State, s.blk.tb.inWindow → step s = .next t → t.blk.tb.inWindow

/-- A cage holds only a transceiver of a type it accepts: from every state in which that is so, every step leaves it so. That
    a refused transceiver leaves its cage as if removed is log entry 94. -/
def Obligations.EveryStepKeepsCages : Prop :=
  let good (b : Block) : Prop := ∀ c t, (cageNum c, t) ∈ b.pow.cages → accepts c t = true
  ∀ s t : State, good s.blk → step s = .next t → good t.blk

/-- The images in flash change only through IMAGE_WRITE, which erases the spare copy, and through the IMAGE_PROGRAM_DONE that an
    IMAGE_ACTIVATE waits for, which puts the staged image there: no other command, no reset and no fault changes one. -/
def Obligations.ImagesChangeOnlyByImageCommands : Prop :=
  ∀ (c : Instr) (s t : State), exec c s = .next t → (∀ rq type off data, c ≠ .imageWrite rq type off data) →
    (∀ ty, c = .imageProgramDone ty → s.blk.headWait ≠ some (.activate ty)) → t.blk.images = s.blk.images

/-! ### Register reads, the stroke, the converter and the safety monitor (R26 to R40, R69, R116 to R141, R361 to R380) -/

/-- REG_READ and REG_READ_BLOCK (R6, R8, R38, R42, R69 to R71).  A register read at its own address
    answers the word its fields form: WO fields 0, the fields of the state image from the frozen bank, the others live; and
    its RC fields are 0 afterwards.  A read in the window answers the frozen bank's word, one at the maquette alias the
    pending one, and neither changes anything but the reply and the sequence.  A block answers its words in order.  An
    address without a register ends BAD_ADDRESS.  What the manual leaves open here is as log entry 69 says. -/
def Obligations.RegisterReads : Prop :=
  ∀ (s : State) (rq : Req) (a : Word) (n : BitVec 16) (ws : List Nat) (w : Nat) (c : Block) (fs : List Field),
    let b := s.blk.refresh a.toNat
    let rc := fs.filter fun f => decide (f.acc = .rc)
    let served := imageServed a.toNat fs && !b.thermLive a.toNat
    let part (f : Field) : Nat :=
      if f.acc = .wo then 0 else if served = true ∧ liveField f = false then Bank.fld b.frozen f else b.shown f
    let addrs := blockAddrs a.toNat n.toNat
    (AtTurn s.blk rq 0x10 → a.toNat % 4 = 0 → a.toNat < 0x1000000 → fieldsAt a.toNat = some fs →
      identityWord a.toNat = none →
      Does (.regRead rq a) s fun t =>
        Answered s.blk t rq 0x10 stOk 0 (be 4 a.toNat ++ be 4 ((fs.map fun f => part f * 2 ^ f.lo).sum)
          ++ be 8 (s.blk.readNum [a.toNat]))
        ∧ (∀ f ∈ rc, f.key ∉ endFields.map Field.key → t.rd f = 0) ∧ RegsBut (rc ++ endFields) b t ∧ Keeps endParts b t)
    ∧ (AtTurn s.blk rq 0x10 → a.toNat % 4 = 0 → 0x1000000 ≤ a.toNat → a.toNat < 0x1FF0000 →
      fieldsAt (a.toNat - 0x1000000) = some fs → imageServed (a.toNat - 0x1000000) fs = true →
      Does (.regRead rq a) s fun t =>
        Answered s.blk t rq 0x10 stOk 0 (be 4 a.toNat ++ be 4 ((fs.map fun f => Bank.fld s.blk.frozen f * 2 ^ f.lo).sum)
          ++ be 8 s.blk.frozenNum)
        ∧ RegsBut endFields s.blk t ∧ Keeps endParts s.blk t)
    ∧ (AtTurn s.blk rq 0x10 → a.toNat % 4 = 0 → aliasAt a.toNat = true → s.blk.resyncing = false →
      fieldsAt (a.toNat - 0x2000000) = some fs → fs.any Field.isCr = true →
      Does (.regRead rq a) s fun t =>
        Answered s.blk t rq 0x10 stOk 0 (be 4 a.toNat
          ++ be 4 (((fs.filter Field.isCr).map fun f => s.blk.maq f * 2 ^ f.lo).sum) ++ be 8 s.blk.strk.num)
        ∧ RegsBut endFields s.blk t ∧ Keeps endParts s.blk t)
    ∧ (AtTurn s.blk rq 0x12 → 1 ≤ n.toNat → n.toNat ≤ 346 →
      (∀ x ∈ addrs, x % 4 = 0 ∧ x < 0x1000000 ∧ s.blk.refresh x = s.blk
        ∧ ∃ gs, fieldsAt x = some gs ∧ ∀ g ∈ gs, g.acc ≠ .rc) →
      Does (.regReadBlock rq a n) s fun t =>
        Answered s.blk t rq 0x12 stOk 0 (be 4 a.toNat ++ be 2 n.toNat ++ zeros 2 ++ be 8 (s.blk.readNum addrs)
          ++ addrs.flatMap fun x => be 4 (s.blk.ownWord x ((fieldsAt x).getD [])))
        ∧ RegsBut endFields s.blk t ∧ Keeps endParts s.blk t)
    ∧ (AtTurn s.blk rq 0x12 → 1 ≤ n.toNat → n.toNat ≤ 346 → (∃ x ∈ addrs, x < 0x1000000 ∧ fieldsAt x = none) →
      (addrs.any aliasAt && s.blk.resyncing) = false →
      Does (.regReadBlock rq a n) s fun t => Answered s.blk t rq 0x12 stBadAddress 0 [] ∧ RegsBut endFields s.blk t
        ∧ Keeps endParts s.blk t)
    ∧ (s.blk.readOne a.toNat = some (w, c) → (aliasAt a.toNat && s.blk.resyncing) = false → AtTurn s.blk rq 0x10 →
      Does (.regRead rq a) s fun t =>
        Answered s.blk t rq 0x10 stOk 0 (be 4 a.toNat ++ be 4 w ++ be 8 (s.blk.readNum [a.toNat]))
        ∧ (∀ g : Field, g.key ∉ endFields.map Field.key → t.rd g = c.rd g))
    ∧ (1 ≤ n.toNat → n.toNat ≤ 346 → s.blk.readAll addrs = some (ws, c) →
      (addrs.any aliasAt && s.blk.resyncing) = false → AtTurn s.blk rq 0x12 →
      Does (.regReadBlock rq a n) s fun t =>
        Answered s.blk t rq 0x12 stOk 0 (be 4 a.toNat ++ be 2 n.toNat ++ zeros 2
          ++ be 8 (s.blk.readNum addrs) ++ ws.flatMap (be 4))
        ∧ (∀ g : Field, g.key ∉ endFields.map Field.key → t.rd g = c.rd g))
    ∧ (s.blk.readOne a.toNat = none → (aliasAt a.toNat && s.blk.resyncing) = false → AtTurn s.blk rq 0x10 →
      Does (.regRead rq a) s fun t => Answered s.blk t rq 0x10 stBadAddress 0 [] ∧ RegsBut endFields s.blk t
        ∧ Keeps endParts s.blk t)

/-- STROKE_TICK, REPORT_WINDOW_CLOSE, CHISEL_COMPILE and IMAGE_FREEZE.  A tick begins the next stroke at the boundary that
    was due, and on the grid the one after it is a period away (R27, R28, R30).  A cast that is due takes effect there: the
    pending configuration comes into force, the former one stays for the copy, STATE reads RESYNC and a waiting CAST is
    answered (R47, R48, R50); at an untimed boundary it is put off (R52), and a CAST put off for 100 ms ends with TIMEOUT
    (R74).  The report window closes 270 ns in, with the reports received in use and those missing counted (R34, R200), and
    in a timed stroke the contexts run: an inactive one posts its initial value (R106), an active one its law's output,
    which shifts its history (R102), a first stroke starts from INIT (R105), and the next region is decided (R109); in an
    untimed stroke none does (R98).  The chisel compiles from 670 ns to 720 ns and sends exactly one COMMAND frame on each
    active lane and one CAP_REQ frame on each in CAPEX (R154, R190, R191); and the freeze at 1,000 ns copies the bank that
    was filling, with the stroke's number, boundary and flags (R37, R38).  A system reset that is due takes the tick's place
    (R398), and nothing happens while the stroke domain does not tick. The order of the rows of one stroke is as log entry
    91 says. -/
def Obligations.StrokeCommands : Prop :=
  (∀ (s : State),
    let k := s.blk.strk
    let p := s.blk.rd Reg.SYS_STROKE_NS_PERIOD
    let window := ((((((s.blk.until (k.b + 270)).wr Reg.SYS_STROKE_STAT_MISS_COUNT 0).flag Reg.SYS_STROKE_STAT_REPORT_MISS
      false).each 192 fun l b => b.laneReport l).pairWindow).each 192 fun n b => b.cellReport n).ledgerStroke.gather
    let comp := ((s.blk.until (k.b + 670)).each 3 fun a b => b.armCommand a).until (k.b + 720)
    let image := ((((s.blk.until (k.b + 1000)).cutStreams).testShow).each 24 fun l b => b.settleLeg l).showImage
    let same (m : Bank) (f : Field) : Prop := Bank.fld m f = image.rd f
    (∀ d, s.blk.boot.due = some d → Does .strokeTick s fun t => t.boot.due = none ∧ t.strk = StrokeSt.reset
      ∧ t.jv.queue = [] ∧ t.images = s.blk.images ∧ exec .strokeTick s = exec .systemResetPrep s) ∧
    (s.blk.boot.due = none → k.ticking = true → s.blk.pair.waiting = false → s.blk.tb.step = none →
      Does .strokeTick s fun t => t.strk.num = k.num + 1 ∧ t.strk.b = k.next % 2 ^ 64 ∧ t.strk.phase = .begun
        ∧ t.strk.untimed = k.timingBad ∧ t.strk.ticking = true ∧ t.frozen = s.blk.frozen)
    ∧ (∀ a, s.blk.boot.due = none → k.ticking = true → s.blk.pair.waiting = false → s.blk.tb.step = none →
      s.blk.boot.starting = false → s.blk.cst.armed = some a → a.b ≤ k.next → k.next < 2 ^ 64 →
      (k.timingBad = false → s.blk.on Reg.SYS_STROKE_CFG_UPDATE = false → Bank.wf s.blk.regs → Bank.wf s.blk.cst.maq →
        Does .strokeTick s fun t => t.strk.castHere = true ∧ t.cst.armed = none ∧ t.cst.lastB = k.next
          ∧ t.cst.resync = some (k.next + 670) ∧ t.cst.resyncWords = s.blk.cst.dirty ∧ t.cst.dirty = []
          ∧ t.cst.maq = s.blk.regs.crOnly
          ∧ t.rd Reg.SYS_CAST_STAT_STATE = 1 ∧ t.on Reg.SYS_MAQ_STAT_LOCKED = false ∧ t.rd Reg.SYS_MAQ_STAT_DIRTY_WORDS = 0
          ∧ t.rd64 Reg.SYS_CAST_LAST_LO_STROKE Reg.SYS_CAST_LAST_HI_STROKE = (k.num + 1) % 2 ^ 64
          ∧ (∀ f : Field, fieldOfKey f.key = some f → f.isCr = true → t.rd f = s.blk.maq f)
          ∧ (∀ q, s.blk.jv.queue = [q] → q.wait = .cast → t.jv.queue = [] ∧ t.rd Reg.SYS_SEQ_LAST_SEQ = q.req.seq.toNat
              ∧ ∃ r : Reply, .reply r.src r.both r.packet ∈ t.out ∧ r.src = q.req.src ∧ r.seq = q.req.seq
                ∧ r.status = BitVec.ofNat 8 stOk ∧ r.payload = be 8 (k.num + 1) ++ be 8 k.next))
      ∧ (k.timingBad = true →
        (s.blk.castHeld = false ∨ k.next < a.at_ + 100000000 → Does .strokeTick s fun t => t.strk.castHere = false
          ∧ t.cst = { s.blk.cst with armed := some { a with deferred := true } }
          ∧ t.rd Reg.SYS_CAST_STAT_STATE = s.blk.rd Reg.SYS_CAST_STAT_STATE
          ∧ (∀ f : Field, fieldOfKey f.key = some f → f.isCr = true → t.rd f = s.blk.rd f))
        ∧ ∀ q, s.blk.jv.queue = [q] → q.wait = .cast → a.at_ + 100000000 ≤ k.next → Does .strokeTick s fun t =>
          t.strk.castHere = false ∧ t.cst = { s.blk.cst with armed := none } ∧ t.rd Reg.SYS_CAST_STAT_STATE = 0
          ∧ t.rd Reg.SYS_CAST_STAT_ERR = 7 ∧ t.on Reg.SYS_MAQ_STAT_LOCKED = false ∧ t.jv.queue = []
          ∧ ∃ r : Reply, .reply r.src r.both r.packet ∈ t.out ∧ r.src = q.req.src ∧ r.seq = q.req.seq
            ∧ r.status = BitVec.ofNat 8 stTimeout ∧ r.payload = []))
    ∧ (∀ j : Nat, s.blk.boot.due = none → k.ticking = true → s.blk.pair.waiting = false → s.blk.tb.step = none →
      s.blk.boot.starting = false → (∀ a, s.blk.cst.armed = some a → k.next < a.b ∧ s.blk.castHeld = false) →
      k.next = s.blk.epoch + j * p → 10000 ≤ p → k.next < 2 ^ 64 →
      Does .strokeTick s fun t => t.strk.b = k.next ∧ t.strk.next = k.next + p ∧ t.strk.castHere = false
        ∧ t.cst = s.blk.cst
        ∧ (t.strk.carrier = true ↔ s.blk.on Reg.SYS_STROKE_CFG_UPDATE = false ∨ j % 2 = 0)
        ∧ (∀ f : Field, fieldOfKey f.key = some f → f.isCr = true → t.rd f = s.blk.rd f))
    ∧ (s.blk.boot.due = none → (k.ticking = false ∨ s.blk.pair.waiting = true) →
      Does .strokeTick s fun t => RegsBut [] s.blk t ∧ Keeps [] s.blk t)
    ∧ (k.ticking = true → k.phase = .begun →
      Does .reportWindowClose s fun t => t.strk = { k with phase := .reported } ∧ t.frozen = s.blk.frozen
        ∧ t.tb = (s.blk.until (k.b + 270)).tb)
    ∧ (∀ l : Fin 192, k.ticking = true → k.phase = .begun → s.blk.on Reg.SYS_PAIR_CFG_EN = false →
      (s.blk.rd (Reg.LINK_STAT_STATE l) ≠ 4 → Does .reportWindowClose s fun t => (t.lane l).fresh = false)
      ∧ (∀ r, s.blk.rd (Reg.LINK_STAT_STATE l) = 4 → (s.blk.lane l).rpt = some r →
        Does .reportWindowClose s fun t => (t.lane l).good = some r ∧ (t.lane l).fresh = true ∧ (t.lane l).rpt = none
          ∧ t.rd (Reg.LINK_STAT_MISS_RUN l) = 0 ∧ t.rd (Reg.LINK_RPT_STAT_STATUS l) = r.status % 2 ^ 16)
      ∧ (s.blk.rd (Reg.LINK_STAT_STATE l) = 4 → (s.blk.lane l).rpt = none → s.blk.populated l = true →
        2 ≤ (s.blk.lane l).strokes → s.blk.rd (Reg.LINK_STAT_MISS_RUN l) < 15 →
        s.blk.rd (Reg.LINK_STAT_MISS_RUN l) + 1 < s.blk.rd Reg.LINK_GCFG_MISS_LIM →
        Does .reportWindowClose s fun t => (t.lane l).fresh = false
          ∧ t.rd (Reg.LINK_STAT_MISS_RUN l) = s.blk.rd (Reg.LINK_STAT_MISS_RUN l) + 1
          ∧ t.rd (Reg.LINK_MISS_CNT_COUNT l) = satNat 32 (s.blk.rd (Reg.LINK_MISS_CNT_COUNT l) + 1)
          ∧ t.on Reg.SYS_STROKE_STAT_REPORT_MISS = true))
    ∧ (k.ticking = true → k.phase = .begun → Does .reportWindowClose s fun t =>
        t = ((if k.untimed then window else window.armature).syncCount).updStrk fun x => { x with phase := .reported })
    ∧ (k.ticking = true → k.phase = .reported →
      Does .chiselCompile s fun t => t.strk = { k with phase := .compiled } ∧ t.frozen = s.blk.frozen
        ∧ t.tb = comp.tb
        ∧ (∀ l : Fin 192, (t.lane l).clear = (s.blk.lane l).clear - 1)
        ∧ (∃ new, t.out = new ++ s.blk.out ∧ ∀ (l : Fin 192) (bs : List Byte), .downlink l bs ∈ new ↔
            s.blk.boot.configured = true ∧ s.blk.rd Reg.CLK_EARLY_DOMAINS = 0
            ∧ (s.blk.svc l ≠ 0 ∧ s.blk.rd (Reg.LINK_STAT_STATE l) = 4 ∧ (s.blk.lane l).cut = false
                ∧ bs = comp.downFrame l 1 ((comp.compileCell l).words.flatMap (be 4))
                    (if 0 < (s.blk.lane l).clear then 1 else 0)
              ∨ s.blk.rd (Reg.LINK_STAT_STATE l) = 3 ∧ bs = comp.downFrame l 2 (be 2 l ++ zeros 46) 0))
        ∧ Keeps [.regs, .tb, .strk, .lv, .lanes, .cells, .chs, .conv, .draws, .out] s.blk t)
    ∧ (k.ticking = true → k.phase = .reported → (∀ l : Fin 192, s.blk.rd (Reg.LINK_STAT_STATE l) ∉ [3, 4]) →
      Does .chiselCompile s fun t => t.out = s.blk.out ∧ t.rd Reg.CHSL_STAT_FRAMES = 0 ∧ t.rd Reg.CHSL_STAT_SWALLOWS = 0
        ∧ t.rd Reg.CHSL_STAT_STRETCHES = 0 ∧ t.on Reg.CHSL_STAT_PHI_LIMITED = false)
    ∧ (k.ticking = true → k.phase = .compiled →
      Does .imageFreeze s fun t => t.strk = { k with phase := .frozen }
        ∧ (∀ f : Field, (∀ l : Fin 192, f.key ≠ (Reg.LINK_PRBS_ERR_COUNT l).key ∧ f.key ≠ (Reg.LINK_HDR_CNT_COUNT l).key) →
            Bank.fld t.frozen f = image.rd f)
        ∧ (∀ l : Fin 192,
            ((image.lane l).syncAt = none → same t.frozen (Reg.LINK_PRBS_ERR_COUNT l))
            ∧ (blocksIn (image.rd (Reg.LINK_STAT_STATE l)) = false ∨ image.on (Reg.LINK_STAT_LOS l) = true →
              same t.frozen (Reg.LINK_HDR_CNT_COUNT l))
            ∧ ∀ g ∈ [Reg.LINK_PRBS_ERR_COUNT l, Reg.LINK_HDR_CNT_COUNT l],
              ∃ n, Bank.fld t.frozen g = satNat 32 (image.rd g + n) % 2 ^ 32 ∨ same t.frozen g)
        ∧ Bank.fld t.frozen Reg.SYS_STROKE_NUM_LO_NUM = k.num % 2 ^ 32
        ∧ Bank.fld t.frozen Reg.SYS_STROKE_NUM_HI_NUM = k.num / 2 ^ 32 % 2 ^ 32
        ∧ Bank.fld t.frozen Reg.IMG_HDR_TIME_LO_BOUNDARY = k.b % 2 ^ 32
        ∧ Bank.fld t.frozen Reg.IMG_HDR_TIME_HI_BOUNDARY = k.b / 2 ^ 32 % 2 ^ 32
        ∧ Bank.fld t.frozen Reg.IMG_HDR_FLAGS_UNTIMED = (if k.untimed then 1 else 0)
        ∧ Bank.fld t.frozen Reg.IMG_HDR_FLAGS_CAST = (if k.castHere then 1 else 0)
        ∧ Bank.fld t.frozen Reg.IMG_HDR_FLAGS_CARRIER = (if k.carrier then 1 else 0)
        ∧ (∀ f : Field, fieldOfKey f.key = some f → f.isCr = true → Bank.fld t.frozen f = s.blk.rd f)))
  ∧ ∀ (b : Block) (c : Fin 256) (w : WinSum) (p : Nat),
    (∀ g : Nat, (b.ctx c).was = true → (b.ctx c).init = false → g = b.ctxRegion c → b.rd (Reg.ARM_CTX_STAT_REGION c) = g →
      b.formerBank.coefs c g = b.regs.coefs c g →
      let fb := (b.ctxSources c).1
      let r := rampStep (b.rd (Reg.ARM_CTX_RAMP_RAMP c)) (b.rdS (Reg.ARM_CTX_RNOW_R c)) (b.ctxSources c).2.1
      let e := sat32 (if b.on (Reg.ARM_CTX_CFG_INVERT c) then fb - r else r - fb)
      let d := if b.rd (Reg.ARM_CTX_CFG_BLEED c) = 0 then 0 else (b.ctx c).d
      let y := clampI ((b.regs.coefs c g).law e (b.ctxEs c) (b.ctxYs c)).y (b.rdS (Reg.ARM_CTX_UMIN_UMIN c) - d)
        (b.rdS (Reg.ARM_CTX_UMAX_UMAX c) - d)
      let z := b.ctxStep c w
      z.2.1 = y + d ∧ z.1.ctxEs c = (e :: b.ctxEs c).take 3 ∧ (z.1.ctxYs c).tail = (b.ctxYs c).take 2
      ∧ z.1.rdS (Reg.ARM_CTX_RNOW_R c) = toS 32 (ofS 32 r) ∧ z.1.rd (Reg.ARM_CTX_STAT_REGION c) = g
      ∧ (z.1.ctx c).d = bleedStep (b.rd (Reg.ARM_CTX_CFG_BLEED c)) d ∧ z.2.2.transfers = w.transfers)
    ∧ ((b.ctxStart c).ctxEs c = [0, 0, 0] ∧ (b.ctxStart c).ctxYs c = [b.ctxInit c, b.ctxInit c, b.ctxInit c]
      ∧ ((b.ctxStart c).ctx c).d = 0)
    ∧ (b.rd (Reg.ARM_CTX_CFG_PASS c) = p → b.on (Reg.ARM_CTX_STAT_ACTIVE c) = false →
      (Block.pass p (b, w)).1.rdS (Reg.ARM_CTX_OUT_U c) = b.ctxInit c)
    ∧ (b.on (Reg.ARM_CTX_CFG_FORCE_EN c) = true →
      ((b.ctxDecide c).ctx c).nextRegion = b.rd (Reg.ARM_CTX_CFG_FORCE_REG c))
    ∧ (b.on (Reg.ARM_CTX_CFG_FORCE_EN c) = false →
      let v := (b.source (b.rd (Reg.ARM_CTX_SCHED_SCHED_SRC c)) c).1
      let thr (k : Nat) : Int := b.rdS (Reg.ARM_CTX_THRk_THR c k)
      ((b.ctxDecide c).ctx c).nextRegion = regionDown thr (b.rd (Reg.ARM_CTX_HYST_HYST c)) v
        (regionUp thr (b.rd (Reg.ARM_CTX_CFG_NREG_M1 c) + 1) v 8 (b.rd (Reg.ARM_CTX_STAT_REGION c)))
      ∧ (b.ctxDecide c).rdS (Reg.ARM_CTX_V_V c) = toS 32 (ofS 32 v))

/-- PRECHARGE_COMPLETE, SYNC_COMPLETE and STOP_COMPLETE at a boundary where nothing of higher precedence waits (R121, R122),
    PRECHARGE_TIMEOUT and SYNC_TIMEOUT (R126), GRID_TRACKER_LOCK and GRID_LOST after 1,024 and 64 consecutive timed strokes
    (R126, R128), HEADROOM_CHANGE (R141), TIMING_LOST (R125) and CTX_SOURCE_LOST (R116): each completes with its effect where
    its condition stands, and changes nothing where it does not: in another state, short of its count, within its limit, or
    reported already. What the manual leaves open here is as log entries 35 and 52 say. -/
def Obligations.ConverterRows : Prop :=
  ∀ (s : State) (c : Fin 256),
    let st := s.blk.rd Reg.SYS_CONV_STAT_STATE
    let v := s.blk.conv
    let there := s.blk.atBoundary = true ∧ v.settled = v ∧ s.blk.holds = true ∧ s.blk.strk.untimed = false
    let entered (new cause : Nat) (t : Block) : Prop := t.rd Reg.SYS_CONV_STAT_STATE = new
      ∧ t.rd Reg.SYS_CONV_STAT_CAUSE = cause ∧ t.conv.entered = s.blk.strk.b ∧ Keeps [.regs, .lv, .conv, .out] s.blk t
    let pre := s.blk.until (v.entered + s.blk.rd Reg.SYS_CONV_TIMEOUT_PRECHG_MS * 1000000)
    let syn := s.blk.until (v.entered + s.blk.rd Reg.SYS_CONV_TIMEOUT_SYNC_MS * 1000000)
    let lost : Occ := { source := 129, unitType := 5, idx := c }
    (there → st = 1 → 64 ≤ v.prechg → Does .prechargeComplete s (entered 2 2))
    ∧ (there → st = 2 → 1024 ≤ v.sync → Does .syncComplete s (entered 3 3))
    ∧ (there → st = 4 → v.safe = false → 2 ≤ v.kZero → Does .stopComplete s (entered 0 5))
    ∧ (s.blk.atBoundary = false → ∀ i ∈ [Instr.prechargeComplete, .syncComplete, .stopComplete, .headroomChange],
      Does i s fun t => RegsBut [] s.blk t ∧ Keeps [] s.blk t)
    ∧ (there → (st ≠ 1 → Does .prechargeComplete s fun t => RegsBut [] s.blk t ∧ Keeps [] s.blk t)
      ∧ (st ≠ 2 → Does .syncComplete s fun t => RegsBut [] s.blk t ∧ Keeps [] s.blk t)
      ∧ (st ≠ 4 → Does .stopComplete s fun t => RegsBut [] s.blk t ∧ Keeps [] s.blk t)
      ∧ (st = 1 → v.prechg < 64 → Does .prechargeComplete s fun t => RegsBut [] s.blk t ∧ Keeps [] s.blk t)
      ∧ (st = 2 → v.sync < 1024 → Does .syncComplete s fun t => RegsBut [] s.blk t ∧ Keeps [] s.blk t)
      ∧ (st = 4 → v.safe = false → v.kZero < 2 → Does .stopComplete s fun t => RegsBut [] s.blk t ∧ Keeps [] s.blk t)
      ∧ (v.hrShort < 64 → v.hrOk < 64 → Does .headroomChange s fun t => RegsBut [] s.blk t ∧ Keeps [] s.blk t))
    ∧ ((st ≠ 1 ∨ v.timeoutRaised = true) → Does .prechargeTimeout s fun t => RegsBut [] s.blk t ∧ Keeps [] s.blk t)
    ∧ ((st ≠ 2 ∨ v.timeoutRaised = true) → Does .syncTimeout s fun t => RegsBut [] s.blk t ∧ Keeps [] s.blk t)
    ∧ (st = 1 → v.timeoutRaised = false → Loggable pre { source := 130 } →
      Does .prechargeTimeout s fun t => Logs { source := 130 } pre t ∧ t.conv.timeoutRaised = true
        ∧ Keeps (.tb :: raiseParts) s.blk t)
    ∧ (st = 2 → v.timeoutRaised = false → Loggable syn { source := 131 } →
      Does .syncTimeout s fun t => Logs { source := 131 } syn t ∧ t.conv.timeoutRaised = true
        ∧ Keeps (.tb :: raiseParts) s.blk t)
    ∧ (1024 ≤ v.trkGood →
      Does .gridTrackerLock s fun t => t.conv = { v with locked := true } ∧ RegsBut [] s.blk t ∧ Keeps [.conv] s.blk t)
    ∧ (v.trkGood < 1024 → Does .gridTrackerLock s fun t => RegsBut [] s.blk t ∧ Keeps [] s.blk t)
    ∧ (64 ≤ v.trkBad → v.locked = true → st ∈ [3, 4] → Loggable s.blk { source := 132 } →
      Does .gridLost s fun t => Logs { source := 132 } s.blk t ∧ t.conv.locked = false ∧ Keeps raiseParts s.blk t)
    ∧ (64 ≤ v.trkBad → v.locked = true → st ∉ [3, 4] →
      Does .gridLost s fun t => t.conv = { v with locked := false } ∧ RegsBut [] s.blk t ∧ Keeps [.conv] s.blk t)
    ∧ ((v.trkBad < 64 ∨ v.locked = false) → Does .gridLost s fun t => RegsBut [] s.blk t ∧ Keeps [] s.blk t)
    ∧ (s.blk.atBoundary = true → 64 ≤ v.hrShort → Does .headroomChange s fun t => t.on Reg.SYS_CONV_STAT_HEADROOM = true
        ∧ RegsBut [Reg.SYS_CONV_STAT_HEADROOM] s.blk t ∧ Keeps [.regs] s.blk t)
    ∧ (s.blk.atBoundary = true → v.hrShort < 64 → 64 ≤ v.hrOk →
      Does .headroomChange s fun t => t.on Reg.SYS_CONV_STAT_HEADROOM = false ∧ RegsBut [Reg.SYS_CONV_STAT_HEADROOM] s.blk t ∧ Keeps [.regs] s.blk t)
    ∧ (s.blk.running = true → s.blk.rd Reg.SYS_CONV_STOP_UNTIMED_LIM < s.blk.rd Reg.SYS_CONV_STAT_UNTIMED →
      v.timingLost = false → Loggable s.blk { source := 133 } →
      Does .timingLost s fun t => Logs { source := 133 } s.blk t ∧ t.conv.timingLost = true ∧ Keeps raiseParts s.blk t)
    ∧ ((v.timingLost = true ∨ s.blk.running = false
        ∨ s.blk.rd Reg.SYS_CONV_STAT_UNTIMED ≤ s.blk.rd Reg.SYS_CONV_STOP_UNTIMED_LIM) →
      Does .timingLost s fun t => RegsBut [] s.blk t ∧ Keeps [] s.blk t)
    ∧ (s.blk.rd Reg.ARM_STALE_LIM_LIMIT ≤ (s.blk.ctx c).stale → (s.blk.ctx c).lost = false → Loggable s.blk lost →
      Does (.ctxSourceLost c) s fun t => Logs lost s.blk t ∧ (t.ctx c).lost = true ∧ Keeps raiseParts s.blk t)
    ∧ (((s.blk.ctx c).lost = true ∨ (s.blk.ctx c).stale < s.blk.rd Reg.ARM_STALE_LIM_LIMIT) →
      Does (.ctxSourceLost c) s fun t => RegsBut [] s.blk t ∧ Keeps [] s.blk t)

/-- CONTACT_PAIR_OPEN, CONTACT_PAIR_CLOSE, TEST_PULSE_START, TEST_PULSE_END, DISCREPANCY_TIME, SAFE_RESET_EDGE and
    SAFE_AUTO_START (R362, R369 to R375), from STATE CLEAR and with the events of class INFO, as R342 fixes them: the first
    contact of a pair to open is a demand with the pair's cause, and removal is decided at once for function SF2, a ramp begins
    for function SF1; a discrepancy is a demand with cause 0x0B; and a reset that R374 allows, or the automatic
    start, clears the latch, the supplies and outputs reading on at that edge. What the manual leaves open here is as log
    entries 29, 76, 77 and 101 say. -/
def Obligations.SafetyContacts : Prop :=
  ∀ (s : State) (c : Contact) (tp2 pairB : Bool),
    let p := contactOfB c
    let q := SafeSt.diff s.blk.safe
    let func := if p then Reg.SAFE_OPT0_B_FUNC else Reg.SAFE_OPT0_A_FUNC
    let info := s.blk.rd (Reg.EVT_SRCk_CLASS 224) = 0 ∧ s.blk.rd (Reg.EVT_SRCk_CLASS 225) = 0
      ∧ s.blk.rd (Reg.EVT_SRCk_CLASS 231) = 0
    let removed (cause : Nat) (t : Block) : Prop := t.rd Reg.SAFE_STAT_STATE = 2 ∧ t.rd Reg.SAFE_STAT_CAUSE = cause
      ∧ t.safe.removal = some 0
      ∧ t.rd Reg.SAFE_DEMAND_CNT_COUNT = satNat 32 (s.blk.rd Reg.SAFE_DEMAND_CNT_COUNT + 1)
    let cleared (t : Block) : Prop := t.rd Reg.SAFE_STAT_STATE = 0 ∧ t.rd Reg.SAFE_STAT_CAUSE = 0
      ∧ t.on Reg.GATE_STAT_SUPPLY_A = true ∧ t.on Reg.GATE_STAT_SUPPLY_B = true ∧ t.on Reg.SAFE_STAT_OUT1 = true
      ∧ t.on Reg.SAFE_STAT_OUT2 = true
    (info → s.blk.closed (contactBit c) = true → s.blk.pairHealthy p = true → s.blk.rd Reg.SAFE_STAT_STATE = 0 →
      s.blk.on func = true →
      Does (.contactPairOpen c) s fun t => t.closed (contactBit c) = false ∧ removed (if p then 3 else 2) t
        ∧ SafeSt.diff t.safe p = some s.blk.tb.up
        ∧ Logs { source := 224, code := if p then 2 else 1 } s.blk t ∧ Keeps [.regs, .evt, .conv, .safe] s.blk t)
    ∧ (info → s.blk.closed (contactBit c) = true → s.blk.pairHealthy p = true → s.blk.rd Reg.SAFE_STAT_STATE = 0 →
      s.blk.on func = false → s.blk.holds = true → s.blk.rd Reg.SYS_CONV_STAT_STATE ∈ [2, 3, 4] →
      Does (.contactPairOpen c) s fun t => t.closed (contactBit c) = false ∧ t.rd Reg.SAFE_STAT_STATE = 1
        ∧ t.rd Reg.SAFE_STAT_CAUSE = (if p then 3 else 2) ∧ t.safe.ramp = some s.blk.tb.up
        ∧ t.rd Reg.SAFE_DEMAND_CNT_COUNT = satNat 32 (s.blk.rd Reg.SAFE_DEMAND_CNT_COUNT + 1)
        ∧ t.conv = { s.blk.conv with wantSafeStop := true }
        ∧ Logs { source := 224, code := if p then 2 else 1 } s.blk t ∧ Keeps [.regs, .evt, .conv, .safe] s.blk t)
    ∧ (s.blk.closed (contactBit c) = true → s.blk.pairHealthy p = false →
      Does (.contactPairOpen c) s fun t => t.closed (contactBit c) = false ∧ RegsBut [Reg.SAFE_IN_CONTACTS] s.blk t
        ∧ Keeps [.regs, .safe] s.blk t)
    ∧ (s.blk.closed (contactBit c) = false →
      (Does (.contactPairOpen c) s fun t => RegsBut [] s.blk t ∧ Keeps [] s.blk t)
      ∧ (Does (.contactPairClose c) s fun t => t.closed (contactBit c) = true
        ∧ RegsBut [Reg.SAFE_IN_CONTACTS, Reg.SAFE_STAT_DISCREP] s.blk t ∧ Keeps [.regs, .safe] s.blk t))
    ∧ (s.blk.closed (contactBit c) = true → Does (.contactPairClose c) s fun t => RegsBut [] s.blk t ∧ Keeps [] s.blk t)
    ∧ (s.blk.on Reg.SAFE_OPT0_TP_EN = true →
      Does (.testPulseStart tp2) s fun t => (if tp2 then t.safe.tp2 else t.safe.tp1) = true ∧ RegsBut adjFields s.blk t
        ∧ Keeps [.regs, .tb, .safe] s.blk t)
    ∧ ((if tp2 then s.blk.safe.tp2 else s.blk.safe.tp1) = true →
      (Does (.testPulseEnd tp2 []) s fun t => (if tp2 then t.safe.tp2 else t.safe.tp1) = false ∧ RegsBut adjFields s.blk t
        ∧ Keeps [.regs, .tb, .safe] s.blk t)
      ∧ (info → s.blk.on Reg.SAFE_STAT_DISCREP = false → s.blk.rd Reg.SAFE_STAT_STATE = 0 →
        Does (.testPulseEnd tp2 [c]) s fun t => removed 0x0B t ∧ t.on Reg.SAFE_STAT_DISCREP = true
          ∧ Logs { source := 225, code := 1 } s.blk t ∧ Keeps [.regs, .tb, .evt, .conv, .safe] s.blk t))
    ∧ (∀ t0, info → q pairB = some t0 → s.blk.on Reg.SAFE_STAT_DISCREP = false → s.blk.rd Reg.SAFE_STAT_STATE = 0 →
      Does (.discrepancyTime pairB) s fun t => removed 0x0B t ∧ t.on Reg.SAFE_STAT_DISCREP = true
        ∧ Logs { source := 225, code := 2 } s.blk t ∧ t0 + s.blk.discTime - 2 * msPs ≤ t.tb.up
        ∧ Keeps [.regs, .tb, .evt, .conv, .safe] s.blk t)
    ∧ (q pairB = none → Does (.discrepancyTime pairB) s fun t => RegsBut [] s.blk t ∧ Keeps [] s.blk t)
    ∧ (info → s.blk.mayReset = true →
      Does .safeResetEdge s fun t => cleared t ∧ t.safe.restoring = some s.blk.tb.up ∧ Logs { source := 231 } s.blk t
        ∧ Keeps [.regs, .evt, .lv, .safe, .out] s.blk t)
    ∧ (s.blk.mayReset = false →
      Does .safeResetEdge s fun t => t.on Reg.SAFE_IN_RESET = true ∧ t.safe = { s.blk.safe with resetAt := some s.blk.tb.up }
        ∧ RegsBut [Reg.SAFE_IN_RESET] s.blk t ∧ Keeps [.regs, .safe] s.blk t)
    ∧ (∀ t0, info → s.blk.safe.autoSince = some t0 → s.blk.on Reg.SAFE_OPT0_AUTO_START = true → s.blk.safe.autoDone = false →
      s.blk.rd Reg.SAFE_STAT_CAUSE = 1 → (s.blk.untilUp (t0 + 500 * msPs)).mayReset = true →
      Does .safeAutoStart s fun t => cleared t ∧ t.safe.autoDone = true ∧ t0 + 500 * msPs ≤ t.tb.up
        ∧ Keeps [.regs, .tb, .evt, .lv, .safe, .out] s.blk t)
    ∧ (s.blk.safe.autoSince = none → Does .safeAutoStart s fun t => RegsBut [] s.blk t ∧ Keeps [] s.blk t)

/-- SAFE_FRAME_RX, SAFE_COPY_WINDOW_EXPIRY, SAFE_FRAME_WATCH, SAFE_RAMP_TIMEOUT, GATE_REMOVAL, REMOVAL_READBACK_FAIL,
    SAFE_RESTORE_READBACK_FAIL and SAFE_CHANNEL_MISMATCH (R364 to R368, R372 to R376), from STATE CLEAR and with the events of class
    INFO, as R342 fixes them: a damaged copy is counted, a first copy waits for its partner, a second that agrees is
    accepted and answered on both ports; a partner or a pair that does not come is a demand with cause 5; a ramp that
    takes too long ends in removal; removal in full opens the switches, blocks the stage and de-energises the outputs, a
    partial one and a standby's own open the switches; and a readback that still reads on when it is judged, 50 µs after the
    decision for a switch and 1 ms for an output, is logged. Frames come and go on a port whose link is up (R449). What the
    manual leaves open here is as log entries 29, 77, 78 and 80 say. -/
def Obligations.SafetyFramesAndRemoval : Prop :=
  ∀ (s : State) (port : Stn) (bs cs : List Byte) (t0 : Nat) (other : Stn) (which : Readback),
    let info := s.blk.rd (Reg.EVT_SRCk_CLASS 227) = 0 ∧ s.blk.rd (Reg.EVT_SRCk_CLASS 229) = 0
    let i := if port = .a then 0 else 1
    let sound := bs.length = 32 ∧ crc32c (bs.take 28) = field bs 28 4 ∧ field bs 4 4 = s.blk.rd Reg.SAFE_OPT6_CONN_ID
      ∧ s.blk.injects 3 i = false
    let request := field bs 0 1 = 1 ∧ field bs 1 1 = 1 ∧ field bs 12 2 = 0 ∧ field bs 14 2 = 0xFFFF
    let removed (cause : Nat) (t : Block) : Prop := t.rd Reg.SAFE_STAT_STATE = 2 ∧ t.rd Reg.SAFE_STAT_CAUSE = cause
      ∧ t.safe.removal = some 0
    let win := s.blk.untilUp (t0 + s.blk.rd Reg.SAFE_OPT7_WIN_MS * msPs)
    let taken := s.blk.on Reg.SAFE_OPT0_SF_EN = true ∧ s.blk.released 4 = true ∧ s.blk.dma.link (stnNum port) = true
    let halts (t : Block) : Prop := s.blk.rd (Reg.EVT_SRCk_CLASS 232) = 4 →
      t.rd Reg.SAFE_STAT_STATE = 3 ∧ t.on Reg.EVT_HALT_HALTED = true
    ((s.blk.on Reg.SAFE_OPT0_SF_EN = false ∨ s.blk.released 4 = false ∨ s.blk.dma.link (stnNum port) = false) →
      Does (.safeFrameRx port bs) s fun t => RegsBut [] s.blk t ∧ Keeps [] s.blk t)
    ∧ (taken → s.blk.injects 3 i = false →
      (bs.length < 32 ∨ crc32c (bs.take 28) ≠ field bs 28 4 ∨ field bs 4 4 ≠ s.blk.rd Reg.SAFE_OPT6_CONN_ID) →
      Does (.safeFrameRx port bs) s fun t =>
        t.rd Reg.SAFE_SF_ERR_CRC = satNat 16 (s.blk.rd Reg.SAFE_SF_ERR_CRC + 1)
        ∧ RegsBut [Reg.SAFE_SF_ERR_CRC] s.blk t ∧ Keeps [.regs, .safe] s.blk t)
    ∧ (taken → s.blk.injects 3 i = true →
      Does (.safeFrameRx port bs) s fun t =>
        t.rd Reg.SAFE_SF_ERR_CRC = satNat 16 (s.blk.rd Reg.SAFE_SF_ERR_CRC + 1)
        ∧ t.rd (Reg.EVT_INJk_REMAIN 3) = s.blk.rd (Reg.EVT_INJk_REMAIN 3) - 1
        ∧ RegsBut [Reg.SAFE_SF_ERR_CRC, Reg.EVT_INJk_REMAIN 3] s.blk t ∧ Keeps [.regs, .evt, .safe] s.blk t)
    ∧ (taken → sound → request → s.blk.safe.accepted = false → s.blk.safe.copies = [] →
      Does (.safeFrameRx port bs) s fun t => t.safe.copies = [(bs, port, s.blk.tb.up)] ∧ RegsBut [] s.blk t
        ∧ Keeps [.safe] s.blk t)
    ∧ (taken → sound → request → s.blk.safe.accepted = false →
      s.blk.safe.copies = [(cs, other, t0)] → other ≠ port → field cs 8 4 = field bs 8 4 → cs.take 28 = bs.take 28 →
      s.blk.tb.up ≤ t0 + s.blk.rd Reg.SAFE_OPT7_WIN_MS * msPs → s.blk.dma.link (1 - stnNum port) = true →
      Does (.safeFrameRx port bs) s fun t => t.safe.accepted = true ∧ t.safe.acceptedAt = s.blk.tb.up ∧ t.safe.word = 0
        ∧ t.safe.copies = [] ∧ t.rd Reg.SAFE_SF_SEQ_SEQ = field bs 8 4
        ∧ (∃ f, t.out = .safety .b f :: .safety .a f :: s.blk.out) ∧ RegsBut [Reg.SAFE_SF_SEQ_SEQ] s.blk t
        ∧ Keeps [.regs, .evt, .safe, .out] s.blk t)
    ∧ (∀ r, info → s.blk.safe.copies = (cs, other, t0) :: r → s.blk.rd Reg.SAFE_STAT_STATE = 0 →
      Does .safeCopyWindowExpiry s fun t => removed 5 t ∧ t.safe.copies = r ∧ Logs { source := 227, code := 2 } win t
        ∧ t0 + s.blk.rd Reg.SAFE_OPT7_WIN_MS * msPs ≤ t.tb.up ∧ Keeps [.regs, .tb, .evt, .conv, .safe] s.blk t)
    ∧ (info → s.blk.on Reg.SAFE_OPT0_SF_EN = true → s.blk.released 0 = true → s.blk.safe.watchRaised = false →
      s.blk.rd Reg.SAFE_STAT_STATE = 0 →
      Does .safeFrameWatch s fun t => removed 5 t ∧ t.safe.watchRaised = true ∧ Logs { source := 227, code := 3 } s.blk t
        ∧ s.blk.safe.acceptedAt + s.blk.rd Reg.SAFE_OPT7_WD_MS * msPs ≤ t.tb.up
        ∧ Keeps [.regs, .tb, .evt, .conv, .safe] s.blk t)
    ∧ (info → s.blk.safe.ramp = some t0 → s.blk.rd Reg.SAFE_STAT_STATE = 1 →
      Does .safeRampTimeout s fun t => removed 9 t ∧ t.safe.ramp = none ∧ Logs { source := 229 } s.blk t
        ∧ t0 + s.blk.rd Reg.SAFE_OPT1_T_RAMP_MS * 1050000000 + 2 * msPs ≤ t.tb.up
        ∧ Keeps [.regs, .tb, .evt, .conv, .safe] s.blk t)
    ∧ (s.blk.safe.ramp = none → Does .safeRampTimeout s fun t => RegsBut [] s.blk t ∧ Keeps [] s.blk t)
    ∧ (s.blk.safe.removal = some 0 →
      Does .gateRemoval s fun t => t.safe.removal = none ∧ t.on Reg.GATE_STAT_SUPPLY_A = false
        ∧ t.on Reg.GATE_STAT_SUPPLY_B = false ∧ t.on Reg.SAFE_STAT_OUT1 = false ∧ t.on Reg.SAFE_STAT_OUT2 = false
        ∧ t.on Reg.SAFE_STAT_PARTIAL = false ∧ (∀ l : Fin 24, l.val ≠ 20 → t.rd (Reg.PWM_LEG_STAT_STATE l) = 0)
        ∧ (∀ ch : Fin 40, t.on (Reg.GATE_CH_STAT_POWERED ch) = false) ∧ Keeps [.regs, .lv, .lanes, .safe, .out] s.blk t)
    ∧ (s.blk.safe.removal = some 1 →
      Does .gateRemoval s fun t => t.safe.removal = none ∧ t.on Reg.GATE_STAT_SUPPLY_A = false
        ∧ t.on Reg.GATE_STAT_SUPPLY_B = false ∧ t.on Reg.SAFE_STAT_PARTIAL = true
        ∧ t.rd Reg.SAFE_STAT_OUT1 = s.blk.rd Reg.SAFE_STAT_OUT1 ∧ Keeps [.regs, .lv, .safe, .out] s.blk t)
    ∧ (s.blk.safe.removal = some 2 →
      Does .gateRemoval s fun t => t.safe.removal = none ∧ t.on Reg.GATE_STAT_SUPPLY_A = false
        ∧ t.on Reg.GATE_STAT_SUPPLY_B = false ∧ t.rd Reg.SAFE_STAT_PARTIAL = s.blk.rd Reg.SAFE_STAT_PARTIAL
        ∧ t.rd Reg.SAFE_STAT_OUT1 = s.blk.rd Reg.SAFE_STAT_OUT1 ∧ Keeps [.regs, .lv, .safe, .out] s.blk t)
    ∧ (s.blk.safe.removal = none → Does .gateRemoval s fun t => RegsBut [] s.blk t ∧ Keeps [] s.blk t)
    ∧ (∀ d, (if readbackCode which = 2 then s.blk.safe.switchesAt else s.blk.safe.outputsAt) = some d →
      let at_ := d + if readbackCode which = 2 then 50 * usPs else msPs
      let b := (s.blk.untilUp at_).flag (readbackField which) true
      (s.blk.tb.up ≤ at_ → s.blk.on (readbackField which) = false → Loggable b { source := 232, code := readbackCode which } →
        Does (.removalReadbackFail which) s fun t => Logs { source := 232, code := readbackCode which } b t
          ∧ t.on (readbackField which) = true ∧ halts t ∧ at_ ≤ t.tb.up ∧ Keeps (.tb :: raiseParts) s.blk t)
      ∧ ((at_ < s.blk.tb.up ∨ s.blk.on (readbackField which) = true) →
        Does (.removalReadbackFail which) s fun t => RegsBut [] s.blk t ∧ Keeps [] s.blk t))
    ∧ ((if readbackCode which = 2 then s.blk.safe.switchesAt else s.blk.safe.outputsAt) = none →
      Does (.removalReadbackFail which) s fun t => RegsBut [] s.blk t ∧ Keeps [] s.blk t)
    ∧ (let b := s.blk.untilUp (t0 + 10 * msPs)
       s.blk.safe.restoring = some t0 → s.blk.tb.up ≤ t0 + 10 * msPs → Loggable b { source := 232, code := 4 } →
      Does .safeRestoreReadbackFail s fun t => Logs { source := 232, code := 4 } b t ∧ t.safe.restoring = none ∧ halts t
        ∧ Keeps (.tb :: raiseParts) s.blk t)
    ∧ (Loggable s.blk { source := 232, code := 1 } →
      Does .safeChannelMismatch s fun t => Logs { source := 232, code := 1 } s.blk t ∧ halts t ∧ Keeps raiseParts s.blk t)

/-! ### Events -/

/-- An occurrence that is detected and not held off is logged once, whatever its class, and leaves alone all but the
    register fields, the log, the local stage, the cells and contexts it may fence, the converter's and the pair's
    requests, the safety monitor and the outputs. -/
def Obligations.OccurrenceLogsAndFrames : Prop :=
  ∀ (b : Block) (o : Occ), (Loggable b o → Logs o b (b.raise o)) ∧ Keeps raiseParts b (b.raise o)

/-! ### Time base (R312 to R316) -/

/-- A write of each time register by a host that owns them takes effect (R313 to R315); one that would take the increment
    out of its window, and one of a register that the servo owns, is denied with its detail code and changes nothing but
    the reply and the sequence (R313, R315). What the manual leaves open here is as log entry 107 says. -/
def Obligations.TimeRegisterWrites : Prop :=
  (∀ (s : State) (rq : Req) (v : Word), AtTurn s.blk rq 0x11 → s.blk.servoOwns = false →
     Does (.timeIncIntWrite rq v) s (fun t => Answered s.blk t rq 0x11 stOk 0 (be 4 0x30010)
       ∧ t.rd Reg.TIME_INC_INT_INT = v.toNat % 256 ∧ RegsBut (Reg.TIME_INC_INT_INT :: endFields) s.blk t
       ∧ Keeps endParts s.blk t)
     ∧ (inWindow (s.blk.incOf v.toNat) = true → inWindow (s.blk.incOf v.toNat + s.blk.adjNow) = true →
       Does (.timeIncFracWrite rq v) s (fun t => Answered s.blk t rq 0x11 stOk 0 (be 4 0x30014)
         ∧ t.rd Reg.TIME_INC_FRAC_FRAC = v.toNat
         ∧ t.tb = { s.blk.tb with inc := s.blk.rd Reg.TIME_INC_INT_INT * 2 ^ 32 + v.toNat, delta := s.blk.adjNow }
         ∧ RegsBut (Reg.TIME_INC_FRAC_FRAC :: endFields) s.blk t ∧ Keeps (.tb :: endParts) s.blk t))
     ∧ Does (.timeAdjDeltaWrite rq v) s (fun t => Answered s.blk t rq 0x11 stOk 0 (be 4 0x30018)
       ∧ t.rd Reg.TIME_ADJ_DELTA_DELTA = v.toNat ∧ RegsBut (Reg.TIME_ADJ_DELTA_DELTA :: endFields) s.blk t
       ∧ Keeps endParts s.blk t)
     ∧ (inWindow (s.blk.tb.inc + s.blk.rdS Reg.TIME_ADJ_DELTA_DELTA) = true → v.toNat ≠ 0 →
       Does (.timeAdjCntWrite rq v) s (fun t => Answered s.blk t rq 0x11 stOk 0 (be 4 0x3001C)
         ∧ t.rd Reg.TIME_ADJ_CNT_CNT = v.toNat ∧ t.on Reg.TIME_STAT_ADJ_BUSY = true
         ∧ t.tb = { s.blk.tb with delta := s.blk.rdS Reg.TIME_ADJ_DELTA_DELTA }
         ∧ Keeps (.tb :: endParts) s.blk t))
     ∧ Does (.adjStop rq) s (fun t => Answered s.blk t rq 0x11 stOk 0 (be 4 0x30028)
       ∧ t.rd Reg.TIME_ADJ_CNT_CNT = 0 ∧ t.on Reg.TIME_STAT_ADJ_BUSY = false ∧ t.tb = { s.blk.tb with delta := 0 }
       ∧ Keeps (.tb :: endParts) s.blk t)
     ∧ (s.blk.rd Reg.SYS_CONV_STAT_STATE = 0 → s.blk.cst.armed = none →
       Does (.timeStepRequest rq) s (fun t => Answered s.blk t rq 0x11 stOk 0 (be 4 0x30028)
         ∧ t.on Reg.TIME_STAT_STEP_PEND = true
         ∧ t.tb = { s.blk.tb with
             step := some (toS 64 (s.blk.rd64 Reg.TIME_STEP_LO_STEP Reg.TIME_STEP_HI_STEP), s.blk.ns + 1000) }
         ∧ Keeps (.tb :: endParts) s.blk t)))
  ∧ ∀ (s : State) (rq : Req) (v : Word), AtTurn s.blk rq 0x11 →
      (s.blk.servoOwns = false → inWindow (s.blk.incOf v.toNat) = false →
        Does (.timeIncFracWrite rq v) s fun t => Answered s.blk t rq 0x11 stDenied 4 [] ∧ RegsBut endFields s.blk t
          ∧ Keeps endParts s.blk t)
      ∧ (s.blk.servoOwns = true →
        ∀ c ∈ [Instr.timeIncIntWrite rq v, .timeIncFracWrite rq v, .timeAdjDeltaWrite rq v, .timeAdjCntWrite rq v, .adjStop rq],
          Does c s fun t => Answered s.blk t rq 0x11 stDenied 3 [] ∧ RegsBut endFields s.blk t ∧ Keeps endParts s.blk t)
      ∧ (s.blk.rd Reg.SYS_CONV_STAT_STATE ≠ 0 →
        Does (.timeStepRequest rq) s fun t => Answered s.blk t rq 0x11 stDenied 1 [] ∧ RegsBut endFields s.blk t
          ∧ Keeps endParts s.blk t)

/-- The end of an adjustment, a read of TIME_NOW, and the timestamp queues (R314, R328, R336). -/
def Obligations.TimeReadingsAndStamps : Prop :=
  ∀ (s : State),
    (s.blk.tb.run = true →
      Does .adjustmentEnd s (fun t => t.rd Reg.TIME_ADJ_CNT_CNT = 0
        ∧ t.tb.now = s.blk.tb.now
            + BitVec.ofInt 96 ((s.blk.rd Reg.TIME_ADJ_CNT_CNT : Int) * (s.blk.tb.inc + s.blk.tb.delta))
        ∧ (s.blk.rd Reg.TIME_ADJ_CNT_CNT ≠ 0 → t.on Reg.TIME_STAT_ADJ_BUSY = false) ∧ Keeps [.regs, .tb] s.blk t))
    ∧ (∀ rq, AtTurn s.blk rq 0x10 →
      Does (.timeNowRead rq) s (fun t =>
        Answered s.blk t rq 0x10 stOk 0 (be 4 0x30000 ++ be 4 (s.blk.ns % 2 ^ 32) ++ be 8 s.blk.strk.num)
        ∧ t.rd Reg.TIME_NOW_LO_NS = s.blk.ns % 2 ^ 32 ∧ t.rd Reg.TIME_NOW_HI_NS = s.blk.ns / 2 ^ 32 % 2 ^ 32
        ∧ t.rd Reg.TIME_NOW_FRAC_FRAC = s.blk.tb.now.toNat % 2 ^ 32 ∧ Keeps endParts s.blk t))
    ∧ (∀ rq (k : Fin 16) x r, AtTurn s.blk rq 0x11 → s.blk.stamps k = x :: r →
      Does (.tsPop rq k) s (fun t => Answered s.blk t rq 0x11 stOk 0 (be 4 (Reg.TIME_TS_POPk_POP k).addr)
        ∧ t.stamps k = r ∧ t.rd (Reg.TIME_TS_STATk_COUNT k) = r.length % 32 ∧ Keeps (.ptp :: endParts) s.blk t))
    ∧ ∀ (k : Fin 16) (rising : Bool),
      (s.blk.rd (Reg.TIME_TS_CFGk_EDGE k)).testBit (if rising then 0 else 1) = true →
      ((s.blk.stamps k).length < 16 →
        Does (.tsEdge k rising) s (fun t => t.stamps k = s.blk.stamps k ++ [(s.blk.tb.now, rising)]
          ∧ t.rd (Reg.TIME_TS_STATk_COUNT k) = (s.blk.stamps k).length + 1 ∧ Keeps [.regs, .ptp] s.blk t))
      ∧ ((s.blk.stamps k).length = 16 → s.blk.on (Reg.TIME_TS_STATk_OVF k) = false →
        Loggable s.blk { source := 68, unitType := 9, idx := k } →
        Does (.tsEdge k rising) s (fun t => t.stamps k = s.blk.stamps k
          ∧ Logs { source := 68, unitType := 9, idx := k } s.blk t ∧ Keeps raiseParts s.blk t))

/-! ### PTP domains and clocks (R317 to R335) -/

/-- The messages of a PTP domain, received in good order for the one domain `x` of a port whose link is up, with the servo
    off: an offset is measured and shown (R317 to R320), and a Pdelay_Req is answered with the residence time between its two
    stamps. A Pdelay_Req is sent on a port that is up and carries an enabled domain, and its sequence and transmit time are
    kept; a domain in SLAVE without an Announce or a Sync for three intervals is lost (R317, R318, R320). On a port that is
    down nothing comes and nothing goes (R449). What the manual leaves open here is as log entries 62 and 133 say. -/
def Obligations.PtpDomains : Prop :=
  (∀ (s : State) (m : PtpMsg) (x : Fin 2), m.fcsOk = true → s.blk.injects 3 (stnNum m.port) = false → m.inProfile = true →
     s.blk.cores = true → s.blk.dma.link (stnNum m.port) = true →
     s.blk.domsOn (stnNum m.port) m.domain.toNat = [x.val] → s.blk.servoOwns = false →
     (m.kind = .announce → (s.blk.dom x).best = none →
       Does (.ptpMessageRx m) s (fun t => (t.dom x).best = some (m.dataset, m.source) ∧ (t.dom x).announceAt = s.blk.tb.up
         ∧ (t.dom x).announceIv = m.logInterval
         ∧ (s.blk.rd (Reg.TIME_DOM_STAT_STATE x) = 1 → t.rd (Reg.TIME_DOM_STAT_STATE x) = 2)
         ∧ Keeps [.regs, .ptp] s.blk t))
     ∧ (m.kind = .sync → m.twoStep = true → (s.blk.dom x).best.map (·.2) = some m.source →
       Does (.ptpMessageRx m) s (fun t => (t.dom x).syncSeq = some m.seq
         ∧ (t.dom x).syncRx = s.blk.rxStamp (stnNum m.port) - m.correction ∧ (t.dom x).syncAt = some s.blk.tb.up
         ∧ (t.dom x).interval = m.logInterval ∧ Keeps [.ptp, .evt] s.blk t))
     ∧ (∀ offs : Int, m.kind = .sync → m.twoStep = false → (s.blk.dom x).best.map (·.2) = some m.source →
       offs = rdiv (m.origin.toNat * 65536 + m.correction + (s.blk.dom x).delay16 - s.blk.rxStamp (stnNum m.port)) 65536 →
       Does (.ptpMessageRx m) s (fun t => t.domOffs x = toS 64 (ofS 64 offs) ∧ t.rd (Reg.TIME_DOM_STAT_STATE x) = 3
         ∧ (t.on (Reg.TIME_DOM_STAT_IN_LIMIT x) = decide (|offs| ≤ (s.blk.rd Reg.TIME_SERVO_TH_SYNC_TH_NS : Int)))
         ∧ (t.dom x).lost = false ∧ (t.dom x).syncAt = some s.blk.tb.up ∧ Keeps [.regs, .ptp, .evt] s.blk t))
     ∧ (∀ offs : Int, m.kind = .followUp → (s.blk.dom x).best.map (·.2) = some m.source →
       (s.blk.dom x).syncSeq = some m.seq →
       offs = rdiv (m.origin.toNat * 65536 + m.correction + (s.blk.dom x).delay16 - (s.blk.dom x).syncRx) 65536 →
       Does (.ptpMessageRx m) s (fun t => t.domOffs x = toS 64 (ofS 64 offs) ∧ t.rd (Reg.TIME_DOM_STAT_STATE x) = 3
         ∧ (t.dom x).syncSeq = none ∧ (t.dom x).lost = false ∧ Keeps [.regs, .ptp] s.blk t))
     ∧ (m.kind = .pdelayReq →
       Does (.ptpMessageRx m) s (fun t =>
         t.out = .pdelayResp m.port m.seq m.source (rdiv (s.blk.txStamp (stnNum m.port)) 65536)
           (s.blk.txStamp (stnNum m.port) - s.blk.rxStamp (stnNum m.port)) :: s.blk.out
         ∧ Keeps [.out] s.blk t))
     ∧ (m.kind = .pdelayResp → m.twoStep = false → SMap.look 0 s.blk.ptp.pdSeq (stnNum m.port) = m.seq.toNat + 1 →
       Does (.ptpMessageRx m) s (fun t => (t.dom x).delay16
           = rdiv (s.blk.rxStamp (stnNum m.port) - SMap.look 0 s.blk.ptp.pdT1 (stnNum m.port) - m.correction) 2
         ∧ Keeps [.regs, .ptp] s.blk t)))
  ∧ (∀ (s : State) (m : PtpMsg), s.blk.injects 3 (stnNum m.port) = false → m.fcsOk = true →
      s.blk.dma.link (stnNum m.port) = false →
      (Does (.ptpMessageRx m) s fun t => RegsBut [] s.blk t ∧ Keeps [.evt] s.blk t)
      ∧ Does (.pdelayReqSend m.port) s fun t => RegsBut [] s.blk t ∧ Keeps [] s.blk t)
  ∧ (∀ (s : State) (port : Stn) (x : Fin 2), s.blk.cores = true → s.blk.dma.link (stnNum port) = true →
      s.blk.on (Reg.TIME_DOM_CFG_EN x) = true → s.blk.rd (Reg.TIME_DOM_CFG_PORT x) = stnNum port →
      Does (.pdelayReqSend port) s (fun t =>
        t.out = .pdelayReq port (SMap.look 0 s.blk.ptp.pdSeq (stnNum port) % 65536) :: s.blk.out
        ∧ SMap.look 0 t.ptp.pdSeq (stnNum port) = SMap.look 0 s.blk.ptp.pdSeq (stnNum port) % 65536 + 1
        ∧ SMap.look 0 t.ptp.pdT1 (stnNum port) = s.blk.txStamp (stnNum port) ∧ Keeps [.ptp, .out] s.blk t))
    ∧ ∀ (s : State) (x : Fin 2) (t0 : Nat), s.blk.cores = true → s.blk.rd (Reg.TIME_DOM_STAT_STATE x) = 3 →
      s.blk.servoOwns = false → (s.blk.dom x).syncAt = some t0 →
      let due := min ((s.blk.dom x).announceAt + 3 * ptpInterval (s.blk.dom x).announceIv)
        (t0 + 3 * ptpInterval (s.blk.dom x).interval)
      Loggable (s.blk.untilUp due) { source := 64, unitType := 13, idx := x } →
      Does (.ptpDomainLost x) s (fun t => (t.dom x).lost = true ∧ (t.dom x).best = none
        ∧ Logs { source := 64, unitType := 13, idx := x } (s.blk.untilUp due) t)

/-- The PLLs and the clock monitors (R331 to R333): a monitor that fails, the first time it reports as well as after it
    passed, shows it, has its effect and is logged; one that is failed already changes nothing. What the manual leaves open
    here is as log entry 74 says. -/
def Obligations.ClocksAndMonitors : Prop :=
  ∀ (s : State),
    let news (n : Nat) : Prop := n ∉ s.blk.clk.failed ∨ n ∉ s.blk.clk.reported
    let failing (n : Nat) : List Nat := n :: s.blk.clk.failed.filter (· != n)
    (∀ pll, pllNum pll ∉ s.blk.clk.holdover →
      Does (.pllHoldover pll) s fun t => t.clk.holdover = pllNum pll :: s.blk.clk.holdover
        ∧ (pll = .core → t.on Reg.CLK_STAT_CORE_LOCK = false ∧ t.on Reg.CLK_STAT_CORE_HOLD = true
          ∧ t.rd Reg.CLK_HOLD_CNT_COUNT = satNat 32 (s.blk.rd Reg.CLK_HOLD_CNT_COUNT + 1) % 2 ^ 32
          ∧ t.strk.timingBad = true)
        ∧ Keeps [.regs, .clk, .strk, .draws] s.blk t)
    ∧ (∀ pll, 0 ∉ s.blk.clk.failed → (∀ e : Fin 16, pll = .lane e → s.blk.bit Reg.LINK_ENGINES_ON e = true) →
      Does (.pllRelock pll) s fun t => pllNum pll ∉ t.clk.holdover ∧ pllNum pll ∉ t.clk.retry
        ∧ (pll = .core → t.on Reg.CLK_STAT_CORE_LOCK = true ∧ t.on Reg.CLK_STAT_CORE_HOLD = false)
        ∧ Keeps [.regs, .clk] s.blk t)
    ∧ (∀ pll, (∀ e, pll ≠ .lane e) → Loggable s.blk { source := 45, unitType := 12, idx := pllNum pll - 1 } →
      Does (.pllBandFail pll) s fun t => pllNum pll ∈ t.clk.retry
        ∧ Logs { source := 45, unitType := 12, idx := pllNum pll - 1 } s.blk t ∧ Keeps (.clk :: raiseParts) s.blk t)
    ∧ (∀ e : Fin 16, s.blk.bit Reg.LINK_ENGINES_ON e = true → Loggable s.blk { source := 45, unitType := 12, idx := e } →
      Does (.pllBandFail (.lane e)) s fun t => 5 + e.val ∈ t.clk.retry
        ∧ Logs { source := 45, unitType := 12, idx := e } s.blk t ∧ Keeps (.clk :: raiseParts) s.blk t)
    ∧ (∀ e : Fin 16, s.blk.bit Reg.LINK_ENGINES_ON e = false →
      ∀ i ∈ [Instr.pllBandFail (.lane e), .pllRelock (.lane e)],
      Does i s fun t => RegsBut [] s.blk t ∧ Keeps [] s.blk t)
    ∧ (news 1 → Loggable s.blk { source := 40 } →
      Does (.clockMonitorFail .core) s fun t => t.clk.failed = failing 1 ∧ t.strk.timingBad = true
        ∧ Logs { source := 40 } s.blk t)
    ∧ (news 2 → Loggable s.blk { source := 41 } →
      Does (.clockMonitorFail .mgmt) s fun t => t.clk.failed = failing 2 ∧ Logs { source := 41 } s.blk t)
    ∧ (news 3 → s.blk.on Reg.SYS_PAIR_CFG_EN = true →
      Loggable s.blk { source := 43, unitType := 12 } →
      Does (.clockMonitorFail .pair) s fun t => t.clk.failed = failing 3
        ∧ Logs { source := 43, unitType := 12 } s.blk t)
    ∧ (news 0 → Loggable s.blk { source := 39 } →
      Does (.clockMonitorFail .ref) s fun t => t.clk.failed = failing 0 ∧ (∀ pll, pllNum pll ∈ t.clk.holdover)
        ∧ Logs { source := 39 } s.blk t)
    ∧ (news 4 → (∀ x : Fin 2, s.blk.on (Reg.TIME_DOM_CFG_EN x) = false) →
      Loggable s.blk { source := 44, unitType := 12 } →
      Does (.clockMonitorFail .stn) s fun t => t.clk.failed = failing 4 ∧ t.dma.linkA = false
        ∧ t.dma.linkB = false ∧ Logs { source := 44, unitType := 12 } s.blk t)
    ∧ (∀ e : Fin 16, news (5 + e) → s.blk.bit Reg.LINK_ENGINES_ON e = true →
      (∀ i : Fin 12, s.blk.rd (Reg.LINK_STAT_STATE (i + 12 * e)) ≠ 4) →
      Loggable s.blk { source := 42, unitType := 12, idx := e } →
      Does (.clockMonitorFail (.lane e)) s fun t => t.clk.failed = failing (5 + e)
        ∧ Logs { source := 42, unitType := 12, idx := e } s.blk t)
    ∧ (∀ mon, monNum mon ∈ s.blk.clk.failed → monNum mon ∈ s.blk.clk.reported →
      Does (.clockMonitorFail mon) s fun t => RegsBut [] s.blk t ∧ Keeps [] s.blk t)
    ∧ (∀ mon, Does (.clockMonitorPass mon) s fun t => monNum mon ∉ t.clk.failed ∧ monNum mon ∈ t.clk.reported
        ∧ (mon = .ref → t.on Reg.CLK_STAT_REF_OK = true) ∧ Keeps [.regs, .clk] s.blk t)
    ∧ (1 ∉ s.blk.clk.holdover → 1 ∉ s.blk.clk.failed →
      Does .timingRestored s fun t => t.strk = { s.blk.strk with timingBad := false } ∧ Keeps [.strk] s.blk t)

/-! ### Registers over Jarvas (R69 to R72) -/

/-- A write of a register without CR fields that sets nothing else going, through each of the commands that write a
    register (R8, R40, R71): each RW field reads as written, each W1C field loses the bits written 1 at the moment of the
    write, the other fields ignore it, and nothing else changes but the reply and the sequence. -/
def Obligations.PlainRegisterWrites : Prop :=
  ∀ (s : State) (rq : Req) (a v : Word) (fs : List Field), AtTurn s.blk rq 0x11 → writeFields a.toNat = some fs →
    (∀ f ∈ fs, f.isCr = false ∧ f.key ∉ endFields.map Field.key) → moduleChannel a.toNat = false →
    s.blk.denyWrite a.toNat v.toNat = 0 → (∀ b held, Block.writeAct a.toNat v.toNat held b = b) →
    ∀ c ∈ [Instr.regWrite rq a v, .regFieldWrite rq a v, .maquetteWrite rq a v],
      Does c s fun t => Answered s.blk t rq 0x11 stOk 0 (be 4 a.toNat)
        ∧ (∀ f ∈ fs, f.acc = .rw → t.rd f = v.toNat / 2 ^ f.lo % 2 ^ f.width)
        ∧ (∀ f ∈ fs, f.acc = .w1c → s.blk.rd f < 2 ^ f.width → ∀ i : Nat,
            (t.rd f).testBit i = ((s.blk.rd f).testBit i && !v.toNat.testBit (f.lo + i)))
        ∧ RegsBut (fs.filter (fun f => decide (f.acc = .rw ∨ f.acc = .w1c)) ++ endFields) s.blk t ∧ Keeps endParts s.blk t

/-- REG_READ_BLOCK and REG_WRITE_BLOCK act on the n registers at the start address and the words after it, and an access to
    an address that is not a multiple of 4, or where no register is listed, ends with BAD_ADDRESS and changes nothing, a block
    that contains one such address whole (R6, R70).  In the state image window the registers listed are those the image
    serves, and nothing may be written; at the maquette alias they are those with a CR field.  A block read answers the words
    of its registers as they are read one after the other, and a block write whose words are all allowed leaves what they
    leave one after the other; two plain registers side by side take their RW and W1C fields.  No word of the maquette is
    being copied after a cast, and none is locked. -/
def Obligations.BlockRegisterWrite : Prop :=
  (∀ (s : State) (rq : Req) (a v w : Word) (fs gs : List Field), AtTurn s.blk rq 0x13 → writeFields a.toNat = some fs →
    writeFields (a.toNat + 4) = some gs → (∀ f ∈ fs ++ gs, f.isCr = false ∧ f.key ∉ endFields.map Field.key) →
    moduleChannel a.toNat = false → moduleChannel (a.toNat + 4) = false →
    (∀ b, Block.denyWrite a.toNat v.toNat b = 0) → (∀ b, Block.denyWrite (a.toNat + 4) w.toNat b = 0) →
    (∀ b held, Block.writeAct a.toNat v.toNat held b = b) → (∀ b held, Block.writeAct (a.toNat + 4) w.toNat held b = b) →
    Does (.regWriteBlock rq a [v, w]) s fun t =>
      Answered s.blk t rq 0x13 stOk 0 (be 4 a.toNat ++ be 2 2 ++ zeros 2)
      ∧ (∀ f ∈ fs, f.acc = .rw → t.rd f = v.toNat / 2 ^ f.lo % 2 ^ f.width)
      ∧ (∀ g ∈ gs, g.acc = .rw → t.rd g = w.toNat / 2 ^ g.lo % 2 ^ g.width)
      ∧ (∀ f ∈ fs, f.acc = .w1c → s.blk.rd f < 2 ^ f.width → ∀ i : Nat,
          (t.rd f).testBit i = ((s.blk.rd f).testBit i && !v.toNat.testBit (f.lo + i)))
      ∧ (∀ g ∈ gs, g.acc = .w1c → s.blk.rd g < 2 ^ g.width → ∀ i : Nat,
          (t.rd g).testBit i = ((s.blk.rd g).testBit i && !w.toNat.testBit (g.lo + i)))
      ∧ RegsBut ((fs ++ gs).filter (fun f => decide (f.acc = .rw ∨ f.acc = .w1c)) ++ endFields) s.blk t
      ∧ Keeps endParts s.blk t)
  ∧ ∀ (s : State) (rq : Req) (a v : Word) (n : BitVec 16) (vals : List Word) (ws : List Nat) (b : Block),
      let listed (x : Nat) : Bool := x % 4 == 0 && (if windowAt x then (s.blk.windowWord (x - 0x1000000)).isSome
        else if aliasAt x then (s.blk.aliasWord (x - 0x2000000)).isSome else (fieldsAt x).isSome)
      let reads := blockAddrs a.toNat n.toNat
      let writes := blockAddrs a.toNat vals.length
      let refused (op : Nat) (t : Block) : Prop :=
        Answered s.blk t rq op stBadAddress 0 [] ∧ RegsBut endFields s.blk t ∧ Keeps endParts s.blk t
      s.blk.resyncing = false →
      (AtTurn s.blk rq 0x10 → listed a.toNat = false → Does (.regRead rq a) s (refused 0x10))
      ∧ (AtTurn s.blk rq 0x11 → listed a.toNat = false ∨ windowAt a.toNat = true →
        ∀ c ∈ [Instr.regWrite rq a v, .regFieldWrite rq a v, .maquetteWrite rq a v], Does c s (refused 0x11))
      ∧ (AtTurn s.blk rq 0x12 → 1 ≤ n.toNat → n.toNat ≤ 346 → (∃ x ∈ reads, listed x = false) →
        Does (.regReadBlock rq a n) s (refused 0x12))
      ∧ (AtTurn s.blk rq 0x13 → 1 ≤ vals.length → vals.length ≤ 348 → (∃ x ∈ writes, listed x = false ∨ windowAt x = true) →
        Does (.regWriteBlock rq a vals) s (refused 0x13))
      ∧ (AtTurn s.blk rq 0x12 → 1 ≤ n.toNat → n.toNat ≤ 346 → s.blk.readAll reads = some (ws, b) →
        Does (.regReadBlock rq a n) s fun t =>
          Answered s.blk t rq 0x12 stOk 0 (be 4 a.toNat ++ be 2 n.toNat ++ zeros 2 ++ be 8 (s.blk.readNum reads)
            ++ ws.flatMap (be 4))
          ∧ RegsBut endFields b t ∧ Keeps endParts b t)
      ∧ (AtTurn s.blk rq 0x13 → 1 ≤ vals.length → vals.length ≤ 348 → (∀ x ∈ writes, (writeFields x).isSome = true) →
        s.blk.cst.armed = none → s.blk.writeAll (writes.zip (vals.map (·.toNat))) = (0, b) →
        Does (.regWriteBlock rq a vals) s fun t =>
          t.rd Reg.SYS_SEQ_LAST_SEQ = rq.seq.toNat ∧ Replied t rq 0x13 stOk 0 (be 4 a.toNat ++ be 2 vals.length ++ zeros 2)
          ∧ RegsBut endFields b t ∧ Keeps endParts b t)

/-- A write of a register with CR fields, at its own address or in the maquette alias, writes the maquette and not the
    fields in force (R42, R43): each pending value is as written, every other pending value is as before, and so is every
    live field but the RW and W1C fields of that register, the dirty count and those of the reply.  While a cast is armed
    such a write ends with LOCKED and changes nothing (R44, R45). -/
def Obligations.MaquetteWrites : Prop :=
  (∀ (s : State) (rq : Req) (a v : Word) (fs : List Field), AtTurn s.blk rq 0x11 → writeFields a.toNat = some fs →
     fs.any Field.isCr = true → (∀ f ∈ fs, f.key ∉ endFields.map Field.key) →
     moduleChannel a.toNat = false → s.blk.denyWrite a.toNat v.toNat = 0 →
     (∀ b held, Block.writeAct a.toNat v.toNat held b = b) → s.blk.cst.armed = none → s.blk.resyncing = false →
     ∀ c ∈ [Instr.maquetteWrite rq a v, .regWrite rq a v, .regFieldWrite rq a v],
       Does c s fun t => Answered s.blk t rq 0x11 stOk 0 (be 4 a.toNat)
         ∧ (∀ f ∈ fs, f.isCr = true → t.maq f = v.toNat / 2 ^ f.lo % 2 ^ f.width ∧ f.addr ∈ t.cst.dirty)
         ∧ (∀ f ∈ fs, f.acc = .rw → t.rd f = v.toNat / 2 ^ f.lo % 2 ^ f.width)
         ∧ (∀ g : Field, g.key ∉ (fs.filter Field.isCr).map Field.key → t.maq g = s.blk.maq g)
         ∧ RegsBut (fs.filter (fun f => decide (f.acc = .rw ∨ f.acc = .w1c)) ++ Reg.SYS_MAQ_STAT_DIRTY_WORDS :: endFields)
             s.blk t ∧ Keeps (.cst :: endParts) s.blk t)
  ∧ ∀ (s : State) (rq : Req) (a v : Word), AtTurn s.blk rq 0x11 → writesMaq a.toNat = true → s.blk.cst.armed.isSome = true →
      s.blk.resyncing = false →
      ∀ c ∈ [Instr.maquetteWrite rq a v, .regWrite rq a v, .regFieldWrite rq a v],
        Does c s fun t => Answered s.blk t rq 0x11 stLocked 0 [] ∧ RegsBut endFields s.blk t ∧ Keeps endParts s.blk t

/-! ### Local measurement (R292 to R311) -/

/-- The host's control of the measurement unit while the converter is OFF, the fields of ADC_CTRL holding values of their widths
    (R296, R300, R301): with ROT_HOLD a spare that calibrates stops, without it a spare begins to; a write of a scan mask begins
    a sweep of a converter that had none; a read of a data register carries its result and clears VALID (R302). That
    ROT_HOLD drops a full calibration at once while short ones go on is log entry 54. -/
def Obligations.AdcControlAndData : Prop :=
  (let ctrl := [Reg.ADC_CTRL_SCAN, Reg.ADC_CTRL_CAPTURE_HALT, Reg.ADC_CTRL_ROT_HOLD, Reg.ADC_CTRL_HOST,
     Reg.ADC_CTRL_SCAN_DELAY]
   ∀ (s : State) (rq : Req) (on : Bool) (mask : BitVec 8) (high : Bool) (v : Word) (m : Fin 9), AtTurn s.blk rq 0x11 →
     s.blk.rd Reg.SYS_CONV_STAT_STATE = 0 → (∀ f ∈ ctrl, s.blk.rd f < 2 ^ f.width) →
     let sets (f : Field) (x : Nat) (t : Block) : Prop := Answered s.blk t rq 0x11 stOk 0 (be 4 0x500000) ∧ t.rd f = x
       ∧ ∀ g ∈ ctrl, g ≠ f → t.rd g = s.blk.rd g
     let rests (n : Nat) : Bool := s.blk.rd (Reg.ADC_CONVk_STATE n) != 1
     let masks := if high then Reg.ADC_SCAN_MASK1_MASK else Reg.ADC_SCAN_MASK0_MASK
     Does (.adcScanSelect rq on) s (fun t => sets Reg.ADC_CTRL_SCAN on.toNat t
       ∧ RegsBut (ctrl ++ endFields) s.blk t ∧ Keeps endParts s.blk t)
     ∧ Does (.adcCaptureHalt rq on) s (fun t => sets Reg.ADC_CTRL_CAPTURE_HALT on.toNat t
       ∧ RegsBut (ctrl ++ endFields) s.blk t ∧ Keeps endParts s.blk t)
     ∧ Does (.adcHostTake rq mask) s (fun t => sets Reg.ADC_CTRL_HOST mask.toNat t
       ∧ RegsBut (ctrl ++ endFields) s.blk t ∧ Keeps endParts s.blk t)
     ∧ ((s.blk.adc.on = false ∨ (List.range 9).all rests = true) → Does (.adcRotHold rq true) s fun t =>
       sets Reg.ADC_CTRL_ROT_HOLD 1 t ∧ RegsBut (ctrl ++ endFields) s.blk t ∧ Keeps endParts s.blk t)
     ∧ (s.blk.adc.on = true → s.blk.shortCal = false → s.blk.on Reg.ADC_CTRL_ROT_HOLD = false →
       s.blk.rd (Reg.ADC_CONVk_STATE m) = 1 → (List.range m).all rests = true → Does (.adcRotHold rq true) s fun t =>
       sets Reg.ADC_CTRL_ROT_HOLD 1 t ∧ t.rd (Reg.ADC_CONVk_STATE m) = 2
       ∧ RegsBut (Reg.ADC_CONVk_STATE m :: ctrl ++ endFields) s.blk t ∧ Keeps endParts s.blk t)
     ∧ ((s.blk.on Reg.ADC_CTRL_ROT_HOLD = false ∨ s.blk.adc.on = false) → Does (.adcRotHold rq false) s fun t =>
       sets Reg.ADC_CTRL_ROT_HOLD 0 t ∧ RegsBut (ctrl ++ endFields) s.blk t ∧ Keeps endParts s.blk t)
     ∧ (s.blk.on Reg.ADC_CTRL_ROT_HOLD = true → s.blk.on Reg.ADC_STAT_NOROT = false → s.blk.adc.on = true →
       s.blk.shortCal = false → s.blk.rd (Reg.ADC_CONVk_STATE m) = 2 →
       (List.range m).all (fun n => rests n && s.blk.rd (Reg.ADC_CONVk_STATE n) != 2) = true →
       Does (.adcRotHold rq false) s fun t => sets Reg.ADC_CTRL_ROT_HOLD 0 t ∧ t.adc.rotAt = s.blk.tb.up
         ∧ t.rd (Reg.ADC_CONVk_STATE m) = 1 ∧ (t.kconv m).calAt = s.blk.tb.up ∧ (t.kconv m).short = false
         ∧ RegsBut (Reg.ADC_CONVk_STATE m :: ctrl ++ endFields) s.blk t ∧ Keeps (.adc :: endParts) s.blk t)
     ∧ ((s.blk.adc.on && s.blk.adc.scanning) = false → Does (.adcScanMaskWrite rq high v) s fun t =>
       Answered s.blk t rq 0x11 stOk 0 (be 4 (if high then 0x50000C else 0x500008)) ∧ t.rd masks = v.toNat
       ∧ RegsBut (masks :: endFields) s.blk t ∧ Keeps endParts s.blk t)
     ∧ (s.blk.adc.on = true → s.blk.adc.scanning = true → Does (.adcScanMaskWrite rq high v) s fun t =>
       Answered s.blk t rq 0x11 stOk 0 (be 4 (if high then 0x50000C else 0x500008)) ∧ t.rd masks = v.toNat
       ∧ (∀ k : Fin 8, (s.blk.sequ k).running = true → t.sequ k = s.blk.sequ k)
       ∧ (∀ k : Fin 8, (s.blk.sequ k).running = false → (t.sequ k).running = !(t.sweep k).isEmpty)
       ∧ RegsBut (masks :: endFields) s.blk t ∧ Keeps (.adc :: endParts) s.blk t))
  ∧ ∀ (s : State) (rq : Req) (k : Fin 8), AtTurn s.blk rq 0x10 →
      Does (.adcDataRead rq k) s fun t =>
        Answered s.blk t rq 0x10 stOk 0 (be 4 (Reg.ADC_DATAk_VALID k).addr
          ++ be 4 (s.blk.rd (Reg.ADC_DATAk_CODE k) + s.blk.rd (Reg.ADC_DATAk_AIN k) * 2 ^ 16
              + s.blk.rd (Reg.ADC_DATAk_VALID k) * 2 ^ 29)
          ++ be 8 (s.blk.readNum [(Reg.ADC_DATAk_VALID k).addr]))
        ∧ t.on (Reg.ADC_DATAk_VALID k) = false ∧ RegsBut (Reg.ADC_DATAk_VALID k :: endFields) s.blk t
        ∧ Keeps endParts s.blk t

/-- A conversion of a running sequencer (R294, R295, R297, R302): one that settles is counted and discarded; one that is
    kept reaches the sequencer's data register, corrected, and is left unread only for the host or while capture halts. -/
def Obligations.AdcConversions : Prop :=
  ∀ (s : State) (k : Fin 8) (raw : BitVec 16) (m : Nat), s.blk.adc.on = true → s.blk.serving k = some m →
    (s.blk.sequ k).running = true → (s.blk.sequ k).restart = false →
    ((s.blk.sequ k).done < (s.blk.sequ k).d → ((s.blk.sequ k).done + 1 < (s.blk.sequ k).d ∨ 1 ≤ (s.blk.sequ k).n) →
      Does (.adcSlotConversion k raw) s fun t => (t.sequ k).done = (s.blk.sequ k).done + 1
        ∧ (t.sequ k).last = s.blk.slotEnd k ∧ Keeps [.regs, .tb, .adc] s.blk t)
    ∧ ((s.blk.sequ k).d ≤ (s.blk.sequ k).done → s.blk.on (Reg.ADC_DATAk_VALID k) = false →
      s.blk.rd (Reg.ADC_IN_CFGi_OW (s.blk.sequ k).ain) = 0 →
      Does (.adcSlotConversion k raw) s fun t =>
        t.rd (Reg.ADC_DATAk_CODE k)
          = ofS 16 (s.blk.correct m (s.blk.rd (Reg.ADC_IN_CFGi_RANGE (s.blk.sequ k).ain)) raw.toInt) % 2 ^ 16
        ∧ t.rd (Reg.ADC_DATAk_AIN k) = (s.blk.sequ k).ain % 64
        ∧ t.on (Reg.ADC_DATAk_VALID k) = (s.blk.bit Reg.ADC_CTRL_HOST k || s.blk.on Reg.ADC_CTRL_CAPTURE_HALT)
        ∧ (t.sequ k).last = s.blk.slotEnd k ∧ Keeps [.regs, .tb, .adc] s.blk t)

/-- A calibration ends: in use when it passes, the converter excluded and rotation stopped when it fails, at the start too
    (R295, R296); the calibrated spare takes the next sequencer in turn, and none does once rotation has stopped (R296). What the manual leaves open here is as log entry 60 says. -/
def Obligations.AdcCalibrationAndRotation : Prop :=
  ∀ (s : State) (m : Fin 9) (cal : List CalRange), s.blk.adc.on = true →
    (s.blk.rd (Reg.ADC_CONVk_STATE m) = 1 → (s.blk.kconv m).short = false → calPass cal = true →
      Does (.adcCalComplete m cal) s fun t => (t.kconv m).cal = cal ∧ t.on (Reg.ADC_CONVk_FULL m) = true
        ∧ t.rd (Reg.ADC_CONVk_STATE m) = 2 ∧ Keeps [.regs, .tb, .adc] s.blk t)
    ∧ (s.blk.rd (Reg.ADC_CONVk_STATE m) = 1 → (s.blk.kconv m).short = true → (s.blk.kconv m).shortDone = none →
      (∃ i : Fin 9, i ≠ m ∧ (s.blk.kconv i).shortDone = none) →
      Does (.adcCalComplete m cal) s fun t => (t.kconv m).shortDone = some (calPass cal)
        ∧ (calPass cal = true → (t.kconv m).cal = cal))
    ∧ (s.blk.rd (Reg.ADC_CONVk_STATE m) = 1 → (s.blk.kconv m).short = false → calPass cal = false →
      Loggable (s.blk.untilUp ((s.blk.kconv m).calAt + 10000 * msPs)) { source := 7, unitType := 11, idx := m } →
      Does (.adcCalComplete m cal) s fun t =>
        Logs { source := 7, unitType := 11, idx := m } (s.blk.untilUp ((s.blk.kconv m).calAt + 10000 * msPs)) t
        ∧ t.rd (Reg.ADC_CONVk_STATE m) = 3 ∧ t.on Reg.ADC_STAT_NOROT = true ∧ (t.kconv m).cal = (s.blk.kconv m).cal
        ∧ Keeps (.tb :: .adc :: raiseParts) s.blk t)
    ∧ (s.blk.on Reg.ADC_STAT_NOROT = true → Does .adcHandover s fun t => RegsBut [] s.blk t ∧ Keeps [] s.blk t)
    ∧ ∀ (o : Nat), (List.range 9).find? (fun j => s.blk.rd (Reg.ADC_CONVk_STATE j) == 2) = some m.val →
      s.blk.serving s.blk.adc.rotNext = some o → s.blk.on Reg.ADC_CTRL_ROT_HOLD = false →
      s.blk.on Reg.ADC_STAT_NOROT = false →
      Does .adcHandover s fun t => t.rd (Reg.ADC_CONVk_STATE m) = 0 ∧ t.rd (Reg.ADC_CONVk_SEQ m) = s.blk.adc.rotNext % 8
        ∧ t.rd (Reg.ADC_CONVk_STATE o) = 1 ∧ t.adc.rotNext = (s.blk.adc.rotNext + 1) % 8 ∧ Keeps [.regs, .tb, .adc] s.blk t

/-! ### Commands that are a register write and set something going -/

/-- A lane's test begins and ends on the host's word, and a start that R204 forbids is denied (R204). That a start enters
    TEST at once from any lane state, with any LEN and PATTERN, is as log entries 38 and 152 say. -/
def Obligations.LinkTestCommands : Prop :=
  ∀ (s : State) (rq : Req) (l : Fin 192), AtTurn s.blk rq 0x11 → s.blk.rd (Reg.LINK_TEST_CTRL_PATTERN l) < 4 →
    s.blk.rd (Reg.LINK_TEST_CTRL_LEN l) < 64 →
    (s.blk.denyTest l (2 ^ 16) = 0 →
      Does (.linkTestStart rq l) s fun t => Answered s.blk t rq 0x11 stOk 0 (be 4 (Reg.LINK_TEST_CTRL_START l).addr)
        ∧ t.rd (Reg.LINK_STAT_STATE l) = 5 ∧ t.on (Reg.LINK_TEST_STAT_RUNNING l) = true
        ∧ t.on (Reg.LINK_TEST_STAT_DONE l) = false ∧ (t.lane l).lenExp = s.blk.rd (Reg.LINK_TEST_CTRL_LEN l)
        ∧ (t.lane l).hostTest = true)
    ∧ (s.blk.denyTest l (2 ^ 16) ≠ 0 →
      Does (.linkTestStart rq l) s fun t => Answered s.blk t rq 0x11 stDenied (s.blk.denyTest l (2 ^ 16)) []
        ∧ RegsBut endFields s.blk t ∧ Keeps endParts s.blk t)
    ∧ (s.blk.rd (Reg.LINK_STAT_STATE l) = 5 → (s.blk.lane l).dark = false → (s.blk.lane l).lenExp = 0 →
      s.blk.populated l = true →
      Does (.linkTestStop rq l) s fun t => Answered s.blk t rq 0x11 stOk 0 (be 4 (Reg.LINK_TEST_CTRL_STOP l).addr)
        ∧ (t.lane l).dark = true ∧ (t.lane l).darkAt = s.blk.tb.up ∧ (t.lane l).pattern = false
        ∧ t.on (Reg.LINK_TEST_STAT_SYNC l) = false ∧ Keeps (.lanes :: .draws :: endParts) s.blk t)
    ∧ (s.blk.rd (Reg.LINK_STAT_STATE l) = 5 → (s.blk.lane l).dark = false → (s.blk.lane l).lenExp = 0 →
      s.blk.populated l = false →
      Does (.linkTestStop rq l) s fun t => Answered s.blk t rq 0x11 stOk 0 (be 4 (Reg.LINK_TEST_CTRL_STOP l).addr)
        ∧ (t.lane l).dark = true ∧ (t.lane l).resultBy = none)

/-- Host channels (R427 to R429): a load takes the shadow set, its ring beginning at its base, at once in an idle channel and
    after its transfer in a busy one; a stop ends an idle channel at once and a busy one after its transfer; while the
    engine is halted a load of a single transfer is skipped (R432), in P3 and P4 no channel is loaded (R438), and a write
    to a channel of the module's own is ignored. What the manual leaves open here is as log entries 81, 82 and 147
    say. -/
def Obligations.HostChannelCommands : Prop :=
  ∀ (s : State) (rq : Req) (n : Fin 32), AtTurn s.blk rq 0x11 →
    (16 ≤ n.val → s.blk.denyLoad n = 0 → s.blk.on (Reg.DMA_CH_STAT_BUSY n) = false → s.blk.rd Reg.SYS_PWR_STAT_STATE < 3 →
      Does (.dmaChLoad rq n) s fun t => Answered s.blk t rq 0x11 stOk 0 (be 4 (Reg.DMA_CH_LOAD_LOAD n).addr)
        ∧ (t.chan n).act = s.blk.shadow n ∧ (t.chan n).loaded = ((s.blk.shadow n).trig || !s.blk.on Reg.DMA_STAT_HALTED)
        ∧ t.rd (Reg.DMA_CH_WPTR_WPTR n) = 0 ∧ t.rd (Reg.DMA_CH_STAT_LAP n) = 0 ∧ (t.chan n).records = 0
        ∧ t.on (Reg.DMA_CH_STAT_STOPPED n) = (s.blk.on Reg.DMA_STAT_HALTED && !(s.blk.shadow n).trig)
        ∧ t.on (Reg.DMA_CH_STAT_BUSY n) = (!(s.blk.shadow n).trig && !s.blk.on Reg.DMA_STAT_HALTED)
        ∧ t.on (Reg.DMA_CH_STAT_SHADOW n) = false ∧ Keeps (.dma :: endParts) s.blk t)
    ∧ (16 ≤ n.val → s.blk.denyLoad n = 0 → 3 ≤ s.blk.rd Reg.SYS_PWR_STAT_STATE →
      Does (.dmaChLoad rq n) s fun t => Answered s.blk t rq 0x11 stOk 0 (be 4 (Reg.DMA_CH_LOAD_LOAD n).addr)
        ∧ RegsBut endFields s.blk t ∧ Keeps endParts s.blk t)
    ∧ (16 ≤ n.val → s.blk.denyLoad n = 0 → s.blk.on (Reg.DMA_CH_STAT_BUSY n) = true → s.blk.rd Reg.SYS_PWR_STAT_STATE < 3 →
      Does (.dmaChLoad rq n) s fun t => Answered s.blk t rq 0x11 stOk 0 (be 4 (Reg.DMA_CH_LOAD_LOAD n).addr)
        ∧ t.on (Reg.DMA_CH_STAT_SHADOW n) = true ∧ RegsBut (Reg.DMA_CH_STAT_SHADOW n :: endFields) s.blk t
        ∧ Keeps endParts s.blk t)
    ∧ (16 ≤ n.val → s.blk.denyLoad n ≠ 0 →
      Does (.dmaChLoad rq n) s fun t => Answered s.blk t rq 0x11 stDenied (s.blk.denyLoad n) []
        ∧ RegsBut endFields s.blk t ∧ Keeps endParts s.blk t)
    ∧ (16 ≤ n.val → s.blk.on (Reg.DMA_CH_STAT_BUSY n) = false →
      Does (.dmaChStop rq n) s fun t => Answered s.blk t rq 0x11 stOk 0 (be 4 (Reg.DMA_CH_LOAD_STOP n).addr)
        ∧ (t.chan n).loaded = false ∧ t.on (Reg.DMA_CH_STAT_STOPPED n) = true
        ∧ RegsBut (Reg.DMA_CH_STAT_STOPPED n :: Reg.DMA_CH_STAT_SHADOW n :: endFields) s.blk t
        ∧ Keeps (.dma :: endParts) s.blk t)
    ∧ (16 ≤ n.val → s.blk.on (Reg.DMA_CH_STAT_BUSY n) = true →
      Does (.dmaChStop rq n) s fun t => Answered s.blk t rq 0x11 stOk 0 (be 4 (Reg.DMA_CH_LOAD_STOP n).addr)
        ∧ (t.chan n).stopping = true ∧ (t.chan n).loaded = (s.blk.chan n).loaded
        ∧ t.on (Reg.DMA_CH_STAT_SHADOW n) = false ∧ RegsBut (Reg.DMA_CH_STAT_SHADOW n :: endFields) s.blk t
        ∧ Keeps (.dma :: endParts) s.blk t)
    ∧ (n.val < 16 → ∀ c ∈ [Instr.dmaChLoad rq n, .dmaChStop rq n],
      Does c s fun t => Answered s.blk t rq 0x11 stOk 0 (be 4 (Reg.DMA_CH_LOAD_LOAD n).addr) ∧ RegsBut endFields s.blk t
        ∧ Keeps endParts s.blk t)

/-- The DMA engine resumes (R432), the ledger is committed on the host's word (R230), the token is to be handed over to a
    partner that is ready (R150), and a diagnostics run begins in every group that is named (R263). What the manual leaves
    open here is as log entry 84 says. -/
def Obligations.OtherControlWrites : Prop :=
  ∀ (s : State) (rq : Req) (mask : BitVec 12), AtTurn s.blk rq 0x11 →
    Does (.dmaRestart rq) s (fun t => Answered s.blk t rq 0x11 stOk 0 (be 4 0x600808) ∧ t.on Reg.DMA_STAT_HALTED = false
      ∧ RegsBut (Reg.DMA_STAT_HALTED :: endFields) s.blk t ∧ Keeps endParts s.blk t)
    ∧ (s.blk.on Reg.DMA_STAT_HALTED = false →
      Does (.ledgerCommitRequest rq) s fun t => Answered s.blk t rq 0x11 stOk 0 (be 4 0x34301C)
        ∧ t.cells.committing = true ∧ t.cells.flash = s.blk.cells.flash ∧ t.on (Reg.DMA_CH_STAT_BUSY 9) = true
        ∧ RegsBut ([Reg.DMA_CH_STAT_BUSY 9, Reg.DMA_CH_STAT_STOPPED 9] ++ endFields) s.blk t
        ∧ Keeps (.cells :: .dma :: endParts) s.blk t)
    ∧ (s.blk.on Reg.SYS_PAIR_CFG_EN = true → s.blk.on Reg.SYS_PAIR_STAT_TOKEN = true →
      s.blk.on Reg.SYS_PAIR_STAT_PEER_READY = true →
      Does (.pairHandover rq) s fun t => Answered s.blk t rq 0x11 stOk 0 (be 4 0x48C)
        ∧ t.pair = { s.blk.pair with release := true } ∧ RegsBut endFields s.blk t ∧ Keeps (.pair :: endParts) s.blk t)
    ∧ (s.blk.rd Reg.SYS_CONV_STAT_STATE = 0 →
      Does (.pwmDiagStart rq mask) s fun t => Answered s.blk t rq 0x11 stOk 0 (be 4 0x400B00)
        ∧ ∀ g : Fin 12, mask.toNat.testBit g = true → t.bit Reg.PWM_DIAG_STAT_BUSY g = true)

/-! ### Streams, channels and background work (R75 to R79, R422 to R437) -/

/-- A stream opens and closes (R76 to R79). -/
def Obligations.StreamCommands : Prop :=
  ∀ (s : State) (rq : Req) (d : StreamDesc) (x : StreamSt) (k : BitVec 8),
    (AtTurn s.blk rq 0x31 → 1 ≤ d.ranges.length → d.ranges.length ≤ 8 → s.blk.streamRefusal d = none →
      Does (.streamOpen rq d) s fun t =>
        Answered s.blk t rq 0x31 stOk 0 (be 1 d.id.toNat ++ zeros 7 ++ be 8 (s.blk.strk.num + 1))
        ∧ t.streamOf d.id.toNat = some { (default : StreamSt) with desc := d, first := s.blk.strk.num + 1 }
        ∧ t.bit Reg.SYS_STREAM_STAT_OPEN d.id.toNat = true ∧ Keeps (.dma :: endParts) s.blk t)
    ∧ (AtTurn s.blk rq 0x32 → k.toNat ≤ 7 → s.blk.streamOf k.toNat = some x → x.busy = false →
      Does (.streamClose rq k) s fun t => Answered s.blk t rq 0x32 stOk 0 (closeReply k.toNat x.sent)
        ∧ t.streamOf k.toNat = none ∧ t.on (Reg.DMA_CH_STAT_STOPPED k.toNat) = true ∧ Keeps (.dma :: endParts) s.blk t)
    ∧ (AtTurn s.blk rq 0x32 → k.toNat ≤ 7 → s.blk.streamOf k.toNat = some x → x.busy = true →
      Does (.streamClose rq k) s fun t => Waits s.blk t (.streamClose k.toNat)
        ∧ t.streamOf k.toNat = some { x with closing := true } ∧ Keeps [.jv, .dma] s.blk t)

/-- A stroke channel builds its packet from the frozen bank and places the copy for its port, or for both; while a port's
    link is down that port takes no copy, the next packet carries GAP, and a packet that leaves on no port is not counted as
    sent (R69, R77, R423); a copy without room waits, and is placed once there is room; a STREAM_CLOSE that waited for the
    packet is answered with the packets sent (R79). What the manual leaves open here is as log entries 81 and 145 say. -/
def Obligations.StreamPackets : Prop :=
  ∀ (s : State) (k : Fin 8) (x : StreamSt) (port : Stn),
    let p := stnNum port
    let fits := s.blk.roomAt p (s.blk.wireBytes x.desc) ≤ s.blk.tb.up
    let one := x.desc.route.toNat.testBit p = true ∧ x.desc.route.toNat.testBit (1 - p) = false
    let ready := s.blk.streamOf k = some x ∧ x.busy = true ∧ x.packet = none ∧ ∀ j < k.val, j ∉ s.blk.busyStreams
    let bs := s.blk.buildPacket k x
    let done (n : Nat) (gap : Bool) : StreamSt := { x with
      busy := false, packet := none, gap := gap, placed := false, toA := false, toB := false
      seq := (x.seq + n) % 2 ^ 32, sent := (x.sent + n) % 2 ^ 32 }
    (ready → one → x.closing = false → s.blk.dma.link p = true → fits →
      Does (.strokeChannelRun k) s fun t =>
        (∃ udp vlan, t.out = .stream port k x.desc.mac udp vlan bs :: s.blk.out) ∧ t.streamOf k = some (done 1 false)
        ∧ t.on (Reg.DMA_CH_STAT_BUSY k) = false
        ∧ t.rd (Reg.DMA_CH_CNT_COUNT k) = (s.blk.rd (Reg.DMA_CH_CNT_COUNT k) + 1) % 2 ^ 32 ∧ Keeps [.regs, .dma, .out] s.blk t)
    ∧ (ready → one → x.closing = false → s.blk.dma.link p = false →
      Does (.strokeChannelRun k) s fun t => t.out = s.blk.out ∧ t.streamOf k = some { done 1 true with seq := x.seq % 2 ^ 32, sent := x.sent % 2 ^ 32 }
        ∧ t.on (Reg.DMA_CH_STAT_BUSY k) = false
        ∧ t.rd (Reg.DMA_CH_CNT_COUNT k) = s.blk.rd (Reg.DMA_CH_CNT_COUNT k) % 2 ^ 32 ∧ Keeps [.regs, .dma] s.blk t)
    ∧ (ready → one → s.blk.dma.link p = true → ¬ fits →
      Does (.strokeChannelRun k) s fun t => t.out = s.blk.out ∧ t.streamOf k = some { x with
          packet := some bs, gap := false, placed := false, toA := decide (p = 0), toB := decide (p ≠ 0) }
        ∧ RegsBut [] s.blk t ∧ Keeps [.dma] s.blk t)
    ∧ (ready → x.desc.route.toNat.testBit 0 = true → x.desc.route.toNat.testBit 1 = true → x.closing = false →
      s.blk.dma.link p = true → fits →
      (s.blk.dma.link (1 - p) = false → Does (.strokeChannelRun k) s fun t =>
        (∃ udp vlan, t.out = .stream port k x.desc.mac udp vlan bs :: s.blk.out) ∧ t.streamOf k = some (done 1 true)
        ∧ Keeps [.regs, .dma, .out] s.blk t)
      ∧ (s.blk.dma.link (1 - p) = true → s.blk.roomAt (1 - p) (s.blk.wireBytes x.desc) ≤ s.blk.tb.up →
        Does (.strokeChannelRun k) s fun t =>
        (∃ udp vlan, t.out = .stream .b k x.desc.mac udp vlan bs :: .stream .a k x.desc.mac udp vlan bs :: s.blk.out)
        ∧ t.streamOf k = some (done 1 false) ∧ Keeps [.regs, .dma, .out] s.blk t))
    ∧ (∀ q, ready → one → x.closing = true → s.blk.dma.link p = true → fits → s.blk.cores = true →
      s.blk.jv.queue = [q] → q.wait = .streamClose k →
      Does (.strokeChannelRun k) s fun t => t.jv.queue = [] ∧ t.streamOf k = none
        ∧ Replied t q.req q.op.toNat stOk 0 (closeReply k ((x.sent + 1) % 2 ^ 32)) ∧ Keeps [.regs, .jv, .dma, .out] s.blk t)
    ∧ ((s.blk.streamOf k = none ∨ s.blk.streamOf k = some x ∧ (x.busy = false ∨ x.packet ≠ none
        ∨ ∃ j < k.val, j ∈ s.blk.busyStreams)) →
      Does (.strokeChannelRun k) s fun t => RegsBut [] s.blk t ∧ Keeps [] s.blk t)
    ∧ (∀ pkt, s.blk.streamOf k = some x → x.busy = true → x.closing = false → x.packet = some pkt →
      (if p = 0 then x.toA else x.toB) = true → s.blk.waitsFor p = some k.val → s.blk.dma.link p = true →
      ((if p = 0 then x.toB else x.toA) = false → Does (.streamBufferDrained port) s fun t =>
        (∃ udp vlan, t.out = .stream port k x.desc.mac udp vlan pkt :: s.blk.out) ∧ t.streamOf k = some (done 1 x.gap)
        ∧ s.blk.roomAt p (s.blk.wireBytes x.desc) ≤ t.tb.up ∧ t.on (Reg.DMA_CH_STAT_BUSY k) = false
        ∧ t.rd (Reg.DMA_CH_CNT_COUNT k) = (s.blk.rd (Reg.DMA_CH_CNT_COUNT k) + 1) % 2 ^ 32
        ∧ Keeps [.regs, .tb, .dma, .out] s.blk t)
      ∧ ((if p = 0 then x.toB else x.toA) = true → Does (.streamBufferDrained port) s fun t =>
        (∃ udp vlan, t.out = .stream port k x.desc.mac udp vlan pkt :: s.blk.out)
        ∧ t.streamOf k = some { x with placed := true, toA := decide (p ≠ 0), toB := decide (p = 0) }
        ∧ RegsBut adjFields s.blk t ∧ Keeps [.regs, .tb, .dma, .out] s.blk t))
    ∧ (s.blk.waitsFor p = none → Does (.streamBufferDrained port) s fun t => RegsBut [] s.blk t ∧ Keeps [] s.blk t)

/-- A station link comes up or goes down (R423, R449; no PTP domain is enabled), and a copy that waits on a port that goes
    down is not taken, its packet counted as sent only where its other copy has left; a cage
    keeps a transceiver of a type it accepts within its allowance, and no other (R24, R449). What the manual leaves open
    here is as log entry 94 says. -/
def Obligations.LinksAndTransceivers : Prop :=
  (∀ (s : State) (port : Stn) (up : Bool), (∀ x : Fin 2, s.blk.on (Reg.TIME_DOM_CFG_EN x) = false) →
     s.blk.waitsFor (stnNum port) = none →
     Does (.stationLinkChange port up) s fun t =>
       t.dma.link (stnNum port) = (up && s.blk.lineRate (stnNum port) != 0)
       ∧ t.dma.link (1 - stnNum port) = s.blk.dma.link (1 - stnNum port) ∧ RegsBut [] s.blk t ∧ Keeps [.dma] s.blk t)
  ∧ (∀ (s : State) (port : Stn) (k : Fin 8) (x : StreamSt), (∀ d : Fin 2, s.blk.on (Reg.TIME_DOM_CFG_EN d) = false) →
     s.blk.waitsFor (stnNum port) = some k.val → s.blk.streamOf k = some x → x.closing = false →
     (if stnNum port = 0 then x.toB else x.toA) = false →
     let n := if x.placed then 1 else 0
     Does (.stationLinkChange port false) s fun t => t.dma.link (stnNum port) = false ∧ t.out = s.blk.out
       ∧ t.streamOf k = some { x with
           busy := false, packet := none, gap := true, placed := false, toA := false, toB := false
           seq := (x.seq + n) % 2 ^ 32, sent := (x.sent + n) % 2 ^ 32 }
       ∧ t.on (Reg.DMA_CH_STAT_BUSY k) = false ∧ Keeps [.regs, .dma] s.blk t)
  ∧ ∀ (s : State) (c : Cage) (ty : XcvrType) (mW : Nat),
      (accepts c ty = true → mW ≤ allowance c →
        Does (.transceiverInsert c ty mW) s fun t => (cageNum c, ty) ∈ t.pow.cages
          ∧ (∀ ty', (cageNum c, ty') ∈ t.pow.cages → ty' = ty) ∧ RegsBut [] s.blk t ∧ Keeps [.pow] s.blk t)
      ∧ (¬ (accepts c ty = true ∧ mW ≤ allowance c) →
        Does (.transceiverInsert c ty mW) s fun t => ∀ ty', (cageNum c, ty') ∉ t.pow.cages)
      ∧ Does (.transceiverRemove c) s fun t => ∀ ty', (cageNum c, ty') ∉ t.pow.cages

/-- A host channel's transfer is done (R429, R430): its record is in the ring, WPTR past it and the count up, and a periodic
    channel is idle until its next trigger; after a single transfer or a stop it is stopped, and a load that waited takes
    the shadow as it now is (R427). A record is its header and its data; one word written to the ring stands at WPTR, which
    moves on or wraps and counts a lap. No burst is granted while stroke channels are ready (R426) or the engine is halted
    (R432). A bus error of a host channel with the events of class INFO (R431 to R433) is logged and shown; under ERR_MODE 0
    the engine halts, the channel staying loaded, under ERR_MODE 1 the gap is marked. What the manual leaves open here is as
    log entries 81 and 147 say. -/
def Obligations.HostChannelRecords : Prop :=
  ((∀ (s : State) (n : Fin 32),
     let c := s.blk.chan n
     let only := 16 ≤ n.val ∧ s.blk.on (Reg.DMA_CH_STAT_BUSY n) = true ∧ s.blk.on Reg.DMA_STAT_HALTED = false
       ∧ s.blk.busyStreams = [] ∧ ∀ m ∈ s.blk.bulkReady, m = n.val
     let written (t : Block) : Prop := (∀ w : Fin 131072,
         t.rd (Reg.DMA_BUFw_DATA w) = (s.blk.ringRecord n 0 c.data).rd (Reg.DMA_BUFw_DATA w))
       ∧ t.on (Reg.DMA_CH_STAT_BUSY n) = false ∧ (t.chan n).data = [] ∧ (t.chan n).missed = false
       ∧ t.rd (Reg.DMA_CH_CNT_COUNT n) = (s.blk.rd (Reg.DMA_CH_CNT_COUNT n) + 1) % 2 ^ 32 ∧ Keeps [.regs, .dma] s.blk t
     let moved (t : Block) : Prop :=
       t.rd (Reg.DMA_CH_WPTR_WPTR n) = (s.blk.ringRecord n 0 c.data).rd (Reg.DMA_CH_WPTR_WPTR n)
       ∧ t.rd (Reg.DMA_CH_STAT_LAP n) = (s.blk.ringRecord n 0 c.data).rd (Reg.DMA_CH_STAT_LAP n)
       ∧ (t.chan n).records = c.records + 1
     (only → s.blk.on (Reg.DMA_CH_STAT_SHADOW n) = false →
       (c.stopping = false → c.act.trig = true → Does (.hostChannelTransferDone n) s fun t => written t ∧ moved t
         ∧ (t.chan n).loaded = c.loaded ∧ t.rd (Reg.DMA_CH_STAT_STOPPED n) = s.blk.rd (Reg.DMA_CH_STAT_STOPPED n))
       ∧ ((c.stopping = true ∨ c.act.trig = false) → Does (.hostChannelTransferDone n) s fun t => written t ∧ moved t
         ∧ (t.chan n).loaded = false ∧ (t.chan n).stopping = false ∧ t.on (Reg.DMA_CH_STAT_STOPPED n) = true))
     ∧ (only → s.blk.on (Reg.DMA_CH_STAT_SHADOW n) = true → s.blk.denyLoad n = 0 → (s.blk.shadow n).trig = true →
       Does (.hostChannelTransferDone n) s fun t => written t ∧ (t.chan n).act = s.blk.shadow n ∧ (t.chan n).loaded = true
         ∧ (t.chan n).records = 0 ∧ t.rd (Reg.DMA_CH_WPTR_WPTR n) = 0 ∧ t.rd (Reg.DMA_CH_STAT_LAP n) = 0
         ∧ t.on (Reg.DMA_CH_STAT_SHADOW n) = false)
     ∧ ((n.val < 16 ∨ s.blk.on (Reg.DMA_CH_STAT_BUSY n) = false ∨ s.blk.busyStreams ≠ []
         ∨ s.blk.on Reg.DMA_STAT_HALTED = true) →
       Does (.hostChannelTransferDone n) s fun t => RegsBut [] s.blk t ∧ Keeps [] s.blk t))
   ∧ ∀ (b : Block) (n : Fin 32) (w : Nat) (ws : List Nat),
     let p := b.rd (Reg.DMA_CH_WPTR_WPTR n)
     let c := b.chan n
     (b.ringWrite n [w]).rd (Reg.DMA_BUFw_DATA ((c.act.base + p) / 4)) = w % 2 ^ 32
     ∧ (b.ringWrite n [w]).rd (Reg.DMA_CH_WPTR_WPTR n) = (if c.act.size ≤ p + 4 then 0 else (p + 4) % 2 ^ 20)
     ∧ (b.ringWrite n [w]).rd (Reg.DMA_CH_STAT_LAP n)
         = (if c.act.size ≤ p + 4 then (b.rd (Reg.DMA_CH_STAT_LAP n) + 1) % 2 ^ 16 else b.rd (Reg.DMA_CH_STAT_LAP n))
     ∧ b.ringWrite n (w :: ws) = (b.ringWrite n [w]).ringWrite n ws
     ∧ (c.missed = false → RegsBut [] (b.ringWrite n ([c.stroke / 2 ^ 32, c.stroke % 2 ^ 32, ws.length * 4 * 2 ^ 16,
         c.records % 2 ^ 32] ++ ws.map (swapWord c.act.swap))) (b.ringRecord n 0 ws)))
  ∧ ∀ (s : State) (n : Fin 32) (kind : BitVec 2) (addr : Word),
      let o : Occ := { source := 10, unitType := 15, idx := n }
      let b := if kind = 1 then s.blk.raise { source := 3, extra := addr.toNat }
        else if kind = 2 then s.blk.raise { source := 6 } else s.blk
      (16 ≤ n.val → kind ≠ 0 → s.blk.rd (Reg.EVT_SRCk_CLASS 3) = 0 → s.blk.rd (Reg.EVT_SRCk_CLASS 6) = 0 →
        s.blk.rd (Reg.EVT_SRCk_CLASS 10) = 0 → Loggable b o → s.blk.on (Reg.DMA_CH_STAT_BUSY n) = false →
        (s.blk.on Reg.DMA_OPT_ERR_MODE = true →
          Does (.dmaBusError n kind addr) s fun t => Logs o b t
            ∧ t.rd Reg.DMA_STAT_ERR_CH = n ∧ t.rd Reg.DMA_STAT_ERR_KIND = kind.toNat ∧ t.rd Reg.DMA_ERR_ADDR_ADDR = addr.toNat
            ∧ t.on (Reg.DMA_CH_STAT_BAD n) = true
            ∧ t.rd (Reg.DMA_CH_GAPS_COUNT n) = satNat 32 (s.blk.rd (Reg.DMA_CH_GAPS_COUNT n) + 1) % 2 ^ 32
            ∧ t.rd Reg.DMA_STAT_HALTED = s.blk.rd Reg.DMA_STAT_HALTED ∧ Keeps [.regs, .evt] s.blk t)
        ∧ (s.blk.on Reg.DMA_OPT_ERR_MODE = false → s.blk.busyStreams = [] → s.blk.cells.committing = false →
          (∀ ty, s.blk.headWait ∉ [some (.program ty), some (.verify ty), some (.activate ty)]) →
          (∀ m : Fin 32, s.blk.on (Reg.DMA_CH_STAT_BUSY m) = false) →
          Does (.dmaBusError n kind addr) s fun t => Logs o b t
            ∧ t.rd Reg.DMA_STAT_ERR_CH = n ∧ t.rd Reg.DMA_STAT_ERR_KIND = kind.toNat ∧ t.rd Reg.DMA_ERR_ADDR_ADDR = addr.toNat
            ∧ t.on Reg.DMA_STAT_HALTED = true ∧ (∀ m : Fin 32, t.chan m = s.blk.chan m)
            ∧ t.rd (Reg.DMA_CH_STAT_STOPPED n) = s.blk.rd (Reg.DMA_CH_STAT_STOPPED n) ∧ Keeps [.regs, .evt, .dma] s.blk t))
      ∧ ((kind = 0 ∨ 12 ≤ n.val ∧ n.val < 16) →
        Does (.dmaBusError n kind addr) s fun t => RegsBut [] s.blk t ∧ Keeps [] s.blk t)

/-- The scrub, the eye scan and wear levelling (R435 to R437): a pass ends 2 s after the last, a lane's eye is measured over
    50 ms where its turn has come, and the block with the fewest erases moves, at most one every 10 s, each interval doubled
    per level of a supply sag (R434). What the manual leaves open here is as log entries 93, 143 and 158 say. -/
def Obligations.BackgroundWork : Prop :=
  ∀ (s : State) (reads : List (SramRegion × Word)) (l : Fin 192) (height width : BitVec 8) (n : Nat),
    let scrubbed := s.blk.untilUp (max s.blk.dma.scrubAt s.blk.boot.d2At + s.blk.sagged 2000)
    let scanned := s.blk.untilUp (max s.blk.dma.eyeAt s.blk.boot.d7At + s.blk.sagged 50)
    let due := s.blk.cores = true ∧ s.blk.rd (Reg.LINK_STAT_STATE l) = 4 ∧ s.blk.eyeDue = l.val
    let idle := s.blk.cores = true ∧ s.blk.flashBusy = false ∧ s.blk.on Reg.DMA_STAT_HALTED = false
    let moveAt := s.blk.dma.wearAt.elim 0 fun t => t + s.blk.sagged 10000
    (s.blk.released 2 = true → s.blk.injects 0 0 = false →
      Does (.sramScrubPass 0 reads) s fun t => t.dma = { s.blk.dma with scrubAt := t.tb.up } ∧ t.tb = scrubbed.tb
        ∧ t.rd Reg.DMA_BG_SCRUB_PASSES = (s.blk.rd Reg.DMA_BG_SCRUB_PASSES + 1) % 2 ^ 16
        ∧ t.rd Reg.DMA_BG_SCRUB_PASS_MS
            = satNat 16 ((t.tb.up - max s.blk.dma.scrubAt s.blk.boot.d2At) / msPs) % 2 ^ 16
        ∧ Keeps [.regs, .tb, .dma] s.blk t)
    ∧ (s.blk.released 2 = true → Does (.sramScrubPass n []) s fun t => t.dma = { s.blk.dma with scrubAt := t.tb.up }
        ∧ Keeps (.tb :: .dma :: raiseParts) s.blk t)
    ∧ (s.blk.released 2 = false → Does (.sramScrubPass n reads) s fun t => RegsBut [] s.blk t ∧ Keeps [] s.blk t)
    ∧ (due → s.blk.rd Reg.LINK_GCFG_EYE_MIN ≤ width.toNat →
      Does (.eyeScan l height width) s fun t => t.rd (Reg.LINK_EYE_HEIGHT l) = height.toNat
        ∧ t.rd (Reg.LINK_EYE_WIDTH l) = width.toNat ∧ t.rd Reg.DMA_BG_EYE_LANE = s.blk.eyeNext l % 256
        ∧ t.tb = scanned.tb ∧ t.dma.eyeAt = t.tb.up ∧ Keeps [.regs, .tb, .dma] s.blk t)
    ∧ (due → width.toNat < s.blk.rd Reg.LINK_GCFG_EYE_MIN →
      s.blk.eyeLow (s.blk.rd (Reg.LINK_EYE_WIDTH l)) = false → Loggable scanned { source := 99, unitType := 2, idx := l } →
      Does (.eyeScan l height width) s fun t => Logs { source := 99, unitType := 2, idx := l } scanned t)
    ∧ (¬ due → Does (.eyeScan l height width) s fun t => RegsBut [] s.blk t ∧ Keeps [] s.blk t)
    ∧ (idle → s.blk.injects 4 0 = false →
      Does (.wearLevelMove n) s fun t => moveAt ≤ t.tb.up ∧ t.dma.wearAt = some t.tb.up
        ∧ t.rd Reg.DMA_BG_MOVES_COUNT = satNat 32 (s.blk.rd Reg.DMA_BG_MOVES_COUNT + 1) % 2 ^ 32
        ∧ (∀ h : Nat, t.placeOf h = s.blk.blockMoves.placeOf h) ∧ (∀ q : Nat, t.erasesOf q = s.blk.blockMoves.erasesOf q)
        ∧ t.rd Reg.DMA_BG_WEAR_MAX_ERASE = s.blk.blockMoves.rd Reg.DMA_BG_WEAR_MAX_ERASE
        ∧ Keeps (.tb :: .dma :: .boot :: raiseParts) s.blk t)
    ∧ (∀ src, firstLeast s.blk.erasesOf wearBlocks = some src →
      s.blk.blockMoves.erasesOf src = s.blk.erasesOf src + 1 ∧ ∀ q, q ≠ src → s.blk.blockMoves.erasesOf q = s.blk.erasesOf q)
    ∧ (¬ idle → Does (.wearLevelMove n) s fun t => RegsBut [] s.blk t ∧ Keeps [] s.blk t)

/-! ### Legs (R237 to R260) -/

/-- An update point of a leg that switches builds the edges of its window (R243, R244), once every trip input has been judged
    (R258); an edge happens at its instant, the switch that conducts turning off and the other on after the dead time; and a
    bootstrap refresh turns the lower switch on for the pulse, a leg that rests resting again at its end (R250). Where a trip
    turns the leg off before, nothing more happens. What the manual leaves open here is as log entries 135 and 136 say. -/
def Obligations.LegWindowsEdgesAndRefresh : Prop :=
  ∀ (s : State) (l : Fin 24),
    (s.blk.mayRun l = true → (s.blk.leg l).switching = true →
      let judged := (s.blk.untilI (s.blk.leg l).nextU).tripsJudge
      let b := judged.legFields l
      let x := b.leg l
      let on := x.ticks (b.rd (Reg.PWM_LEG_CFG_SRC l) == 1) x.cmpOn
      let off := x.ticks (b.rd (Reg.PWM_LEG_CFG_SRC l) == 1) x.cmpOff
      let grid := if x.carrier then x.nextU else x.grid
      let fr := if x.carrier then 0 else x.period / 2
      let upto := if x.carrier && x.upd then x.period / 2 else x.period
      ((judged.leg l).switching = false → Does (.pwmUpdatePoint l) s fun t => t = judged)
      ∧ ((judged.leg l).switching = true → x.count = false →
        (∀ g, x.gen = some g → Does (.pwmUpdatePoint l) s fun t =>
          let at0 : List (Int × Bool) := [((fr : Int), pattern on off fr)]
          let later := (patternEdges on off fr upto).filter fun e => decide (e.1 ≠ (fr : Int))
          let issued := shortEdges 1 x.tmin x.stretch (x.last.map fun t => (t - grid) / 5) [] 0 0
            (dropRedundant g (at0 ++ later))
          t.rd (Reg.PWM_LEG_TON_TICK l) = on % 2 ^ 24 ∧ t.rd (Reg.PWM_LEG_TOFF_TICK l) = off % 2 ^ 24
          ∧ (t.leg l).edges = x.join (issued.1.map fun e => (grid + 5 * e.1, e.2))
          ∧ (t.leg l).nextU = grid + 5 * (upto : Int) ∧ (t.leg l).carrier = decide (upto = x.period)
          ∧ Keeps [.regs, .lv] b t)
        ∧ (x.gen = none → Does (.pwmUpdatePoint l) s fun t =>
          t.rd (Reg.PWM_LEG_TON_TICK l) = on % 2 ^ 24 ∧ t.rd (Reg.PWM_LEG_TOFF_TICK l) = off % 2 ^ 24
          ∧ t.rd (Reg.PWM_LEG_STAT_STATE l) = 1 ∧ t.out = .edge l grid grid false :: (b.settleLeg l).out
          ∧ (t.leg l).nextU = grid + 5 * (upto : Int) ∧ Keeps [.regs, .lv, .out] b t)))
    ∧ (∀ (at_ : Int) (upper : Bool) (rest : List (Int × Bool)),
      let b := (s.blk.untilI at_).tripsJudge
      (s.blk.leg l).edges = (at_, upper) :: rest → (b.leg l).edges = (at_, upper) :: rest →
      Does (.legEdge l) s fun t => (t.leg l).edges = rest ∧ (t.leg l).lastEdge = some at_
        ∧ t.rd (Reg.PWM_LEG_STAT_STATE l) = (if upper then 2 else 1)
        ∧ t.out = .edge l at_ (at_ + 64 * (b.leg l).dt) upper :: (b.settleLeg l).out
        ∧ RegsBut [Reg.PWM_LEG_STAT_STATE l, Reg.GATE_CH_STAT_GATE_OFF (2 * l), Reg.GATE_CH_STAT_GATE_OFF (2 * l + 1)] b t
        ∧ Keeps [.regs, .lv, .out] b t)
    ∧ ((s.blk.leg l).edges = [] → Does (.legEdge l) s fun t => RegsBut [] s.blk t ∧ Keeps [] s.blk t)
    ∧ (let b0 := s.blk.settleLeg l
       let x := b0.leg l
       let state := fun b : Block => b.rd (Reg.PWM_LEG_STAT_STATE l)
       (b0.rd (Reg.PWM_LEG_CFG_SRC l) ∈ [1, 2, 3] → state b0 = 2 →
         let b := (b0.untilUp (x.upperSince + x.tmax * usPs)).tripsJudge
         let now := b.tickIn 0
         let fin := now + 5 * nsTicks (x.dt + x.pulse)
         (state b ≠ 2 → Does (.bootstrapRefresh l) s fun t => t = b)
         ∧ (state b = 2 → Does (.bootstrapRefresh l) s fun t =>
           t.out = .edge l now (now + 64 * x.dt) false :: (b.settleLeg l).out
           ∧ (t.leg l).edges = refreshEdges fin (b.onBeyond l fin) (b.leg l).edges ∧ (t.leg l).refreshEnd = some fin
           ∧ t.rd (Reg.PWM_LEG_ICNT_REFRESH l) = satNat 16 (b.rd (Reg.PWM_LEG_ICNT_REFRESH l) + 1)
           ∧ state t = 1 ∧ (t.leg l).restAt = none ∧ Keeps [.regs, .lv, .out] b t))
       ∧ (b0.resting l = true →
         let b := (b0.untilUp (x.lowerLast + x.intv * usPs)).tripsJudge
         let now := b.tickIn 0
         let fin := now + 5 * nsTicks x.pulse
         (b.resting l = false → Does (.bootstrapRefresh l) s fun t => t = b)
         ∧ (b.resting l = true → Does (.bootstrapRefresh l) s fun t =>
           t.out = .edge l now now false :: (b.settleLeg l).out
           ∧ (t.leg l).refreshEnd = some fin ∧ (t.leg l).restAt = some fin
           ∧ t.rd (Reg.PWM_LEG_ICNT_REFRESH l) = satNat 16 (b.rd (Reg.PWM_LEG_ICNT_REFRESH l) + 1)
           ∧ state t = 1 ∧ Keeps [.regs, .lv, .out] b t))
       ∧ (∀ fin, (s.blk.leg l).restAt = some fin → fin ≤ s.blk.tickIn 0 →
         state b0 = 0 ∧ b0.out = .rest l :: s.blk.out ∧ x.restAt = none
         ∧ b0.on (Reg.GATE_CH_STAT_GATE_OFF (2 * l + 1)) = s.blk.on (Reg.GATE_CH_STAT_POWERED (2 * l + 1))))

/-- The interlock turns off the switch that conducts, holds both off and counts; the first time in a stroke it raises
    SHOOT_REQ, and when it acts on for three periods of the leg, as they are in force there (log entry 139), the leg is fenced
    with cause 4 (R251).  A force on a leg is taken while the
    converter is OFF and the module holds the token, and is denied otherwise; a powered leg that is not fenced, blocked or
    under test follows the forced switch, through the interlock where both are asked for, and any other stays as it is; the
    end of a force holds the leg (R252). -/
def Obligations.InterlockAndForce : Prop :=
  (∀ (s : State) (l : Fin 24),
     let st := s.blk.rd (Reg.PWM_LEG_STAT_STATE l)
     let gates := [Reg.GATE_CH_STAT_GATE_OFF (2 * l), Reg.GATE_CH_STAT_GATE_OFF (2 * l + 1)]
     ((s.blk.leg l).shot = true →
       Does (.interlockAct l) s fun t => t.rd (Reg.PWM_LEG_STAT_STATE l) = 3
         ∧ t.rd (Reg.PWM_LEG_ICNT_SHOOT l) = satNat 16 (s.blk.rd (Reg.PWM_LEG_ICNT_SHOOT l) + 1)
         ∧ (t.leg l).lockSince = some ((s.blk.leg l).lockSince.getD s.blk.tb.up)
         ∧ (t.leg l).dead = none ∧ (t.leg l).restAt = none
         ∧ t.on (Reg.GATE_CH_STAT_GATE_OFF (2 * l)) = s.blk.on (Reg.GATE_CH_STAT_POWERED (2 * l))
         ∧ t.on (Reg.GATE_CH_STAT_GATE_OFF (2 * l + 1)) = s.blk.on (Reg.GATE_CH_STAT_POWERED (2 * l + 1))
         ∧ t.on Reg.PWM_BRK_STAT_ON = (decide (l.val ≠ 20) && s.blk.on Reg.PWM_BRK_STAT_ON)
         ∧ t.out = (if st = 1 ∨ st = 2 then [.legOff l false] else []) ++ s.blk.out
         ∧ RegsBut (Reg.PWM_LEG_STAT_STATE l :: Reg.PWM_LEG_ICNT_SHOOT l :: Reg.PWM_BRK_STAT_ON :: gates) s.blk t
         ∧ Keeps [.regs, .lv, .out] s.blk t)
     ∧ ((s.blk.leg l).shot = false → Loggable s.blk { source := 164, unitType := 3, idx := l } →
       Does (.interlockAct l) s fun t => Logs { source := 164, unitType := 3, idx := l } s.blk t
         ∧ Keeps raiseParts s.blk t)
     ∧ ∀ since, (s.blk.leg l).lockSince = some since → (s.blk.recov (256 + l)).fenced = false →
       s.blk.on (Reg.PWM_LEG_STAT_FENCED l) = false →
       let due := since + 3 * (s.blk.legInForce l).period * 78125 / 1000
       Does (.interlockPersist l) s fun t => (t.recov (256 + l)).fenced = true ∧ t.on (Reg.PWM_LEG_STAT_FENCED l) = true
         ∧ t.rd (Reg.PWM_LEG_STAT_CAUSE l) = 4 ∧ t.tb = (s.blk.untilUp due).tb ∧ due ≤ t.tb.up
         ∧ Keeps [.regs, .tb, .evt, .lv, .out] s.blk t)
  ∧ ∀ (s : State) (rq : Req) (l : Fin 24) (v : Word), AtTurn s.blk rq 0x11 →
      let state := fun b : Block => b.rd (Reg.PWM_LEG_STAT_STATE l)
      let shots := fun b : Block => b.rd (Reg.PWM_LEG_ICNT_SHOOT l)
      let force := [Reg.PWM_LEG_FORCE_EN l, Reg.PWM_LEG_FORCE_UPPER l, Reg.PWM_LEG_FORCE_LOWER l]
      let taken := fun t : Block => Answered s.blk t rq 0x11 stOk 0 (be 4 (Reg.PWM_LEG_FORCE_EN l).addr)
        ∧ t.on (Reg.PWM_LEG_FORCE_EN l) = v.toNat.testBit 0 ∧ (t.leg l).forced = v.toNat.testBit 0
      let off := s.blk.rd Reg.SYS_CONV_STAT_STATE = 0
      let through := s.blk.on (Reg.GATE_CH_STAT_POWERED (2 * l)) = true
        ∧ s.blk.on (Reg.GATE_CH_STAT_POWERED (2 * l + 1)) = true
        ∧ s.blk.on (Reg.PWM_LEG_STAT_FENCED l) = false ∧ (s.blk.on Reg.PWM_STAT_MULTI = false ∨ l.val = 20)
        ∧ ∀ g, groupOf l = some g → s.blk.bit Reg.PWM_DIAG_STAT_BUSY g = false
      (v.toNat.testBit 0 = true → ¬ off →
        Does (.pwmLegForceWrite rq l v) s fun t => Answered s.blk t rq 0x11 stDenied 1 [] ∧ RegsBut endFields s.blk t
          ∧ Keeps endParts s.blk t)
      ∧ (v.toNat.testBit 0 = true → off → s.blk.holds = false →
        Does (.pwmLegForceWrite rq l v) s fun t => Answered s.blk t rq 0x11 stDenied 2 [] ∧ RegsBut endFields s.blk t
          ∧ Keeps endParts s.blk t)
      ∧ (v.toNat.testBit 0 = true → off → s.blk.holds = true → s.blk.lv.tripPins = [] →
        (through → v.toNat.testBit 1 = true → v.toNat.testBit 2 = false →
          Does (.pwmLegForceWrite rq l v) s fun t => taken t ∧ state t = 2 ∧ Keeps (.lv :: endParts) s.blk t)
        ∧ (through → v.toNat.testBit 1 = false → v.toNat.testBit 2 = true →
          Does (.pwmLegForceWrite rq l v) s fun t => taken t ∧ state t = 1
            ∧ (l.val = 20 → state s.blk ≠ 1 → t.on Reg.PWM_BRK_STAT_ON = true) ∧ Keeps (.lv :: endParts) s.blk t)
        ∧ (through → v.toNat.testBit 1 = false → v.toNat.testBit 2 = false →
          Does (.pwmLegForceWrite rq l v) s fun t => taken t ∧ state t = 0 ∧ Keeps (.lv :: endParts) s.blk t)
        ∧ (through → v.toNat.testBit 1 = true → v.toNat.testBit 2 = true → (s.blk.leg l).shot = true →
          Does (.pwmLegForceWrite rq l v) s fun t => taken t ∧ state t = 3
            ∧ (state s.blk ≠ 3 → shots t = satNat 16 (shots s.blk + 1)) ∧ (state s.blk = 3 → shots t = shots s.blk)
            ∧ Keeps (.lv :: endParts) s.blk t)
        ∧ (¬ through → Does (.pwmLegForceWrite rq l v) s fun t => taken t ∧ state t = state s.blk
            ∧ RegsBut (force ++ endFields) s.blk t ∧ Keeps (.lv :: endParts) s.blk t))
      ∧ (v.toNat.testBit 0 = false → (s.blk.leg l).forced = true →
        Does (.pwmLegForceWrite rq l v) s fun t => taken t ∧ state t = 0 ∧ Keeps (.lv :: endParts) s.blk t)
      ∧ (v.toNat.testBit 0 = false → (s.blk.leg l).forced = false →
        Does (.pwmLegForceWrite rq l v) s fun t => taken t ∧ RegsBut (force ++ endFields) s.blk t
          ∧ Keeps endParts s.blk t)

/-- A leg's protection fences it whatever the event's class: a desaturation and a fast overcurrent that are enabled (R253
    to R255), a trip of action 1 that has not acted since the leg's last edge, outside the blanking after that edge (R258), and
    an undervoltage of a powered channel (R267); a trip of action 2 blocks the stage. A protection that is not enabled does
    nothing; a trip that is not active, or is blanked, shows its level and is held for later judgement; a supply that is back
    changes one status bit only. The enables and the trip fields are those in force at the leg (log entry 139). What the
    manual leaves open here is as log entries 27 and 136 say. -/
def Obligations.LegProtection : Prop :=
  ∀ (s : State) (l : Fin 24) (upper level : Bool) (k : Fin 16) (ch : Fin 56),
    let c := s.blk.legInForce l
    let trip := s.blk.tripOf k
    let clear := ∀ e, (s.blk.leg l).lastEdge = some e → (trip.blank * 25 * 64 : Nat) ≤ s.blk.tickIn 0 - e
    ((if upper then c.desatUp else c.desatLo) = true → s.blk.lv.lastShort = none →
      Loggable s.blk { source := 160, unitType := 3, idx := l, code := if upper then 1 else 2 } →
      Does (.desatDetect l upper) s fun t => (t.recov (256 + l)).fenced = true
        ∧ Logs { source := 160, unitType := 3, idx := l, code := if upper then 1 else 2 } s.blk t
        ∧ t.lv.lastShort = some (l.val, s.blk.tb.up) ∧ Keeps raiseParts s.blk t)
    ∧ ((if upper then c.desatUp else c.desatLo) = false →
      Does (.desatDetect l upper) s fun t => RegsBut [] s.blk t ∧ Keeps [] s.blk t)
    ∧ (c.ocEn = false → Does (.fastCurrentTrip l) s fun t => RegsBut [] s.blk t ∧ Keeps [] s.blk t)
    ∧ (c.ocEn = true → s.blk.lv.lastShort = none →
      Loggable s.blk { source := 160, unitType := 3, idx := l, code := 3 } →
      Does (.fastCurrentTrip l) s fun t => (t.recov (256 + l)).fenced = true
        ∧ Logs { source := 160, unitType := 3, idx := l, code := 3 } s.blk t
        ∧ t.lv.lastShort = some (l.val, s.blk.tb.up) ∧ Keeps raiseParts s.blk t)
    ∧ (level = trip.pol → trip.leg = l → clear → trip.action = 1 → k.val ∉ s.blk.lv.tripDone →
      Loggable s.blk { source := 166, unitType := 3, idx := l } →
      Does (.tripInput k level) s fun t => (t.recov (256 + l)).fenced = true
        ∧ Logs { source := 166, unitType := 3, idx := l } s.blk t ∧ Keeps raiseParts s.blk t)
    ∧ (level = trip.pol → trip.leg = l → clear → trip.action = 2 → k.val ∉ s.blk.lv.tripDone →
      Does (.tripInput k level) s fun t => t.on Reg.PWM_STAT_MULTI = true ∧ t.bit Reg.PWM_TRIP_STAT_LATCH k = true
        ∧ (∀ m : Fin 24, m.val ≠ 20 → t.rd (Reg.PWM_LEG_STAT_STATE m) = 0) ∧ Keeps raiseParts s.blk t)
    ∧ (level = trip.pol → trip.leg = l → ¬ clear →
      Does (.tripInput k level) s fun t => t.bit Reg.PWM_TRIP_STAT_LEVEL k = true
        ∧ t.lv.tripPins.lookup k.val = some level ∧ RegsBut [Reg.PWM_TRIP_STAT_LEVEL] s.blk t ∧ Keeps [.regs, .lv] s.blk t)
    ∧ (level ≠ trip.pol →
      Does (.tripInput k level) s fun t => t.bit Reg.PWM_TRIP_STAT_LEVEL k = false ∧ k.val ∉ t.lv.tripDone
        ∧ t.lv.tripPins.lookup k.val = some level ∧ RegsBut [Reg.PWM_TRIP_STAT_LEVEL] s.blk t ∧ Keeps [.regs, .lv] s.blk t)
    ∧ (s.blk.on (Reg.GATE_CH_STAT_POWERED ch) = true → s.blk.on (Reg.GATE_CH_STAT_UVLO ch) = false →
      Does (.gateUvlo ch true) s fun t =>
        (t.recov (256 + (if ch.val < 48 then ch.val / 2 else 2 * (ch.val - 48)))).fenced = true
        ∧ Keeps raiseParts s.blk t)
    ∧ Does (.gateUvlo ch false) s fun t => t.on (Reg.GATE_CH_STAT_UVLO ch) = false
        ∧ RegsBut [Reg.GATE_CH_STAT_UVLO ch] s.blk t ∧ Keeps [.regs] s.blk t

/-- A gate that does not turn off raises GATE_STUCK after 2 µs, its static switch staying closed, and a port whose gates are
    confirmed off opens its static switch (R257, R279); a short of a static switch latches its port (R255, R275); the gate
    supply decides which channels are powered: without it none is newly powered and the brake path is not, and the others go
    by their lockouts (R248, R452). What the manual leaves open here is as log entries 21, 106 and 139 say. -/
def Obligations.SwitchesAndGateSupply : Prop :=
  ∀ (s : State) (p : Fin 8) (ok : Bool),
    (let b := s.blk.untilUp ((s.blk.port p).heldAt + 2 * usPs)
     (s.blk.port p).opening = true → Loggable b { source := 163, unitType := 4, idx := p } →
      Does (.gateStuck p) s fun t => Logs { source := 163, unitType := 4, idx := p } b t
        ∧ t.bit Reg.GATE_STAT_STUCK p = true ∧ (t.port p).opening = false
        ∧ (s.blk.port p).heldAt + 2 * usPs ≤ t.tb.up ∧ Keeps (.tb :: raiseParts) s.blk t)
    ∧ (s.blk.bit Reg.GATE_SS_STAT_CLOSED p = true → (s.blk.port p).opening = true →
      (∀ i : Fin 4, s.blk.on (Reg.GATE_CH_STAT_POWERED (4 * p + i)) = true) →
      Does (.gateOffConfirmed p) s fun t => (∀ i : Fin 4, t.on (Reg.GATE_CH_STAT_GATE_OFF (4 * p + i)) = true)
        ∧ t.bit Reg.GATE_SS_STAT_CLOSED p = false ∧ (t.port p).opening = false
        ∧ t.out = .staticSwitch p false true :: s.blk.out ∧ Keeps [.regs, .lv, .out] s.blk t)
    ∧ ((s.blk.port p).opening = false →
      Does (.gateOffConfirmed p) s fun t =>
        (∀ i : Fin 4, t.on (Reg.GATE_CH_STAT_GATE_OFF (4 * p + i)) = s.blk.on (Reg.GATE_CH_STAT_POWERED (4 * p + i)))
        ∧ Keeps [.regs] s.blk t)
    ∧ ((s.blk.legInForce (2 * p)).desatSs = false →
      Does (.staticShort p) s fun t => RegsBut [] s.blk t ∧ Keeps [] s.blk t)
    ∧ ((s.blk.legInForce (2 * p)).desatSs = true → s.blk.rd (Reg.PORT_STAT_STATE p) = 8 →
      Loggable s.blk { source := 161, unitType := 4, idx := p } →
      Does (.staticShort p) s fun t => Logs { source := 161, unitType := 4, idx := p } s.blk t
        ∧ Keeps raiseParts s.blk t)
    ∧ ((s.blk.legInForce (2 * p)).desatSs = true → s.blk.rd (Reg.PORT_STAT_STATE p) ≠ 8 →
      s.blk.rd (Reg.EVT_SRCk_CLASS 161) = 0 → s.blk.rd (Reg.EVT_SRCk_CLASS 193) = 0 →
      Does (.staticShort p) s fun t => t.rd (Reg.PORT_STAT_STATE p) = 8 ∧ t.rd (Reg.PORT_STAT_CAUSE p) = 2
        ∧ t.bit Reg.GATE_SS_STAT_CLOSED p = false ∧ t.on (Reg.GATE_CH_STAT_DESAT (48 + p)) = true
        ∧ Keeps [.regs, .evt, .lv, .out] s.blk t)
    ∧ Does (.gate24Change ok) s fun t => t.on Reg.GATE_STAT_GATE24_OK = ok
        ∧ t.on Reg.PWM_BRK_STAT_ARMED = (ok && s.blk.brakeArmed)
        ∧ ((ok && s.blk.brakeArmed) = false → t.on Reg.PWM_BRK_STAT_ON = false)
        ∧ (∀ ch : Fin 56, t.on (Reg.GATE_CH_STAT_POWERED ch) = (s.blk.flag Reg.GATE_STAT_GATE24_OK ok).channelPower ch)
        ∧ (ok = false → t.on (Reg.GATE_CH_STAT_POWERED 40) = false ∧ t.on (Reg.GATE_CH_STAT_POWERED 41) = false
          ∧ ∀ ch : Fin 56, s.blk.on (Reg.GATE_CH_STAT_POWERED ch) = false → t.on (Reg.GATE_CH_STAT_POWERED ch) = false)
        ∧ Keeps [.regs, .tb, .lv, .out] s.blk t

/-- The brake chopper turns on and off no sooner than its minimum time, its leg's state following, and one that stays on is
    reported (R264); a forced L20 ignores its comparator (R252).  Off-state diagnostics (R261, R262): each phase measures, the
    last one names the node's class and goes on to the next node of the group, and after the last node of a group it has
    passed if all were normal, and its legs are fenced with cause 5 otherwise. -/
def Obligations.ChopperAndDiagnostics : Prop :=
  (∀ (s : State),
     (s.blk.brakeReady = true → s.blk.on Reg.PWM_BRK_STAT_ON = false →
       Does .brakeOn s fun t => t.on Reg.PWM_BRK_STAT_ON = true ∧ t.out = .brake true :: s.blk.out
         ∧ t.rd Reg.PWM_BRK_CNT_COUNT = satNat 32 (s.blk.rd Reg.PWM_BRK_CNT_COUNT + 1)
         ∧ s.blk.lv.brakeAt + s.blk.brakeMin ≤ t.tb.up
         ∧ t.on (Reg.GATE_CH_STAT_GATE_OFF 41) = false ∧ t.rd (Reg.PWM_LEG_STAT_STATE 20) = 1
         ∧ RegsBut ([Reg.PWM_BRK_STAT_ON, Reg.PWM_BRK_CNT_COUNT, Reg.GATE_CH_STAT_GATE_OFF 41, Reg.PWM_LEG_STAT_STATE 20]
             ++ adjFields) s.blk t
         ∧ Keeps [.regs, .tb, .lv, .out] s.blk t)
     ∧ (s.blk.on (Reg.PWM_LEG_FORCE_EN 20) = true → Does .brakeOn s (fun t => RegsBut [] s.blk t ∧ Keeps [] s.blk t)
       ∧ Does .brakeOff s fun t => RegsBut [] s.blk t ∧ Keeps [] s.blk t)
     ∧ (s.blk.on Reg.PWM_BRK_STAT_ON = true → s.blk.on (Reg.PWM_LEG_FORCE_EN 20) = false →
       Does .brakeOff s fun t => t.on Reg.PWM_BRK_STAT_ON = false ∧ t.out = .brake false :: s.blk.out
         ∧ t.on (Reg.GATE_CH_STAT_GATE_OFF 41) = s.blk.on (Reg.GATE_CH_STAT_POWERED 41)
         ∧ s.blk.lv.brakeAt + s.blk.brakeMin ≤ t.tb.up ∧ t.rd (Reg.PWM_LEG_STAT_STATE 20) = 0
         ∧ RegsBut ([Reg.PWM_BRK_STAT_ON, Reg.GATE_CH_STAT_GATE_OFF 41, Reg.PWM_LEG_STAT_STATE 20] ++ adjFields) s.blk t
         ∧ Keeps [.regs, .tb, .lv, .out] s.blk t)
     ∧ (let b := s.blk.untilUp (s.blk.lv.brakeAt + s.blk.rd Reg.PWM_BRK_CFG_TMAX_MS * msPs)
        s.blk.on Reg.PWM_BRK_STAT_ON = true → s.blk.lv.brakeLong = false → Loggable b { source := 169 } →
       Does .brakeLong s fun t => Logs { source := 169 } b t ∧ Keeps (.tb :: raiseParts) s.blk t))
  ∧ ∀ (s : State) (g : Fin 12) (v : Int), s.blk.bit Reg.PWM_DIAG_STAT_BUSY g = true →
      let d := s.blk.diag g
      let step := s.blk.rd Reg.PWM_DIAG_CFG_STEP_MS * msPs
      let c := s.blk.nodeClass d.node d.v0 d.v1 d.v2
      (d.phase = 0 → Does (.diagPhaseEnd g v) s fun t =>
        t.rd (Reg.PWM_DIAG_RESn_V0 d.node) = satNat 16 (v / 100).toNat
        ∧ t.diag g = { d with phase := 1, v0 := v, until_ := d.until_ + step }
        ∧ RegsBut (Reg.PWM_DIAG_RESn_V0 d.node :: adjFields) s.blk t ∧ Keeps [.regs, .tb, .lv] s.blk t)
      ∧ (d.phase = 1 → Does (.diagPhaseEnd g v) s fun t =>
        t.rd (Reg.PWM_DIAG_Vn_V1 d.node) = satNat 16 (v / 10).toNat
        ∧ t.diag g = { d with phase := 2, v1 := v, until_ := d.until_ + step }
        ∧ RegsBut (Reg.PWM_DIAG_Vn_V1 d.node :: adjFields) s.blk t ∧ Keeps [.regs, .tb, .lv] s.blk t)
      ∧ (d.phase = 2 → Does (.diagPhaseEnd g v) s fun t =>
        t.rd (Reg.PWM_DIAG_Vn_V2 d.node) = satNat 16 (v / 10).toNat
        ∧ t.diag g = { d with phase := 3, v2 := v, until_ := d.until_ + msPs }
        ∧ RegsBut (Reg.PWM_DIAG_Vn_V2 d.node :: adjFields) s.blk t ∧ Keeps [.regs, .tb, .lv] s.blk t)
      ∧ (d.phase = 3 → ∀ m, nextNode d.node (groupNodes g) = some m → Does (.diagPhaseEnd g v) s fun t =>
        t.rd (Reg.PWM_DIAG_RESn_CLASS d.node) = c ∧ t.rd (Reg.PWM_DIAG_RESn_CLASS m) = 1
        ∧ t.diag g = { d with ok := d.ok && c == 2, node := m, phase := 0, until_ := d.until_ + msPs }
        ∧ Keeps [.regs, .tb, .lv] s.blk t)
      ∧ (d.phase = 3 → nextNode d.node (groupNodes g) = none → d.ok = true → c = 2 → Does (.diagPhaseEnd g v) s fun t =>
        t.bit Reg.PWM_DIAG_STAT_BUSY g = false ∧ t.bit Reg.PWM_DIAG_STAT_PASS g = true ∧ (t.diag g).owed = false
        ∧ Keeps (.tb :: raiseParts) s.blk t)
      ∧ (d.phase = 3 → nextNode d.node (groupNodes g) = none → d.ok = false ∨ c ≠ 2 → Does (.diagPhaseEnd g v) s fun t =>
        t.bit Reg.PWM_DIAG_STAT_BUSY g = false ∧ t.bit Reg.PWM_DIAG_STAT_PASS g = false
        ∧ (∀ l ∈ groupLegs g, t.rd (Reg.PWM_LEG_STAT_CAUSE l) = 5 ∧ t.on (Reg.PWM_LEG_STAT_FENCED l) = true)
        ∧ Keeps (.tb :: raiseParts) s.blk t)

/-! ### Ports (R273 to R290) -/

/-- The timed moves of a port: closed and settled it enters SOFT (R275, R276), not closed in time it is fenced, stopped it
    is IDLE or WAIT once its switches have settled (R278), a second in REGULATE clears its retries, and a hiccup's off time ends in SOFT (R284).  A state is
    left at a boundary: where the instant is none, the move waits for the next, which judges it. What the manual leaves
    open here is as log entry 35 says. -/
def Obligations.PortMoves : Prop :=
  ∀ (s : State) (p : Fin 8),
    let soft (b t : Block) : Prop := t.rd (Reg.PORT_STAT_STATE p) = 3 ∧ (t.port p).r = 0
      ∧ (t.port p).ssStep = b.ssStepOf p ∧ (t.port p).trunc = 0 ∧ (t.port p).onA = none ∧ (t.port p).onB = none
      ∧ (t.leg (2 * p)).switching = true ∧ (t.leg (2 * p + 1)).switching = true
      ∧ (t.ctx (b.rd Reg.ARM_MAP1_PORT_BASE + p)).init = true
    (let at_ := (s.blk.port p).entered + s.blk.rd (Reg.PORT_SEQ_T_CLOSE_MS p) * msPs
     s.blk.rd (Reg.PORT_STAT_STATE p) = 2 →
      let settled (t : Block) : Prop := t.bit Reg.GATE_SS_STAT_CLOSED p = true ∧ (t.port p).closing = false
        ∧ t.on (Reg.GATE_CH_STAT_GATE_OFF (48 + p)) = false ∧ at_ ≤ t.tb.up
      ((s.blk.untilUp at_).atBoundary = true →
        Does (.portCloseSettled p) s fun t => soft s.blk t ∧ settled t ∧ Keeps [.regs, .tb, .lv, .ctxs] s.blk t)
      ∧ ((s.blk.untilUp at_).atBoundary = false →
        Does (.portCloseSettled p) s fun t => t.rd (Reg.PORT_STAT_STATE p) = 2 ∧ settled t
          ∧ RegsBut ([Reg.GATE_SS_STAT_CLOSED, Reg.GATE_CH_STAT_GATE_OFF (48 + p)] ++ adjFields) s.blk t
          ∧ Keeps [.regs, .tb, .lv] s.blk t))
    ∧ (let o : Occ := { source := 196, unitType := 4, idx := p }
       let b := s.blk.untilUp ((s.blk.port p).entered + msPs)
       s.blk.rd (Reg.PORT_STAT_STATE p) = 2 →
      (s.blk.bit Reg.GATE_SS_STAT_CLOSED p = false → b.atBoundary = true → Loggable b o →
        Does (.portCloseFail p) s fun t => (t.recov (512 + p)).fenced = true ∧ Logs o b t
          ∧ Keeps (.tb :: raiseParts) s.blk t)
      ∧ (s.blk.bit Reg.GATE_SS_STAT_CLOSED p = false → b.atBoundary = false →
        Does (.portCloseFail p) s fun t => (t.port p).closeFail = true ∧ t.tb = b.tb ∧ RegsBut adjFields s.blk t
          ∧ Keeps [.regs, .tb, .lv] s.blk t)
      ∧ (s.blk.bit Reg.GATE_SS_STAT_CLOSED p = true →
        Does (.portCloseFail p) s fun t => RegsBut [] s.blk t ∧ Keeps [] s.blk t)
      ∧ ((s.blk.port p).closeFail = true → Loggable s.blk o →
        ((s.blk.portCloseJudge p).recov (512 + p)).fenced = true ∧ Logs o s.blk (s.blk.portCloseJudge p)))
    ∧ (let settled := s.blk.eachOf [2 * p.val, 2 * p.val + 1] fun l b => b.settleLeg l
       let rests := settled.portRests p && !(settled.port p).opening
       let b := if rests then settled else settled.untilUp ((s.blk.port p).entered + msPs)
       s.blk.rd (Reg.PORT_STAT_STATE p) = 6 → (s.blk.port p).atOnce = false →
      (b.atBoundary = true →
        Does (.portStopComplete p) s fun t => t.rd (Reg.PORT_STAT_STATE p) = (if s.blk.runReq p then 1 else 0)
          ∧ t.rd (Reg.PORT_STAT_RETRIES p) = 0 ∧ t.bit Reg.GATE_SS_STAT_CLOSED p = false ∧ (t.port p).r = 0
          ∧ (rests = false → (s.blk.port p).entered + msPs ≤ t.tb.up) ∧ Keeps [.regs, .tb, .lv, .out] s.blk t)
      ∧ (b.atBoundary = false → rests = false →
        Does (.portStopComplete p) s fun t => t.rd (Reg.PORT_STAT_STATE p) = 6
          ∧ t.bit Reg.GATE_SS_STAT_CLOSED p = false ∧ (s.blk.port p).entered + msPs ≤ t.tb.up
          ∧ Keeps [.regs, .tb, .lv, .out] s.blk t))
    ∧ (s.blk.rd (Reg.PORT_STAT_STATE p) = 4 →
      Does (.portRetryReset p) s fun t => t.rd (Reg.PORT_STAT_RETRIES p) = 0
        ∧ (s.blk.port p).entered + 1000 * msPs ≤ t.tb.up ∧ RegsBut (Reg.PORT_STAT_RETRIES p :: adjFields) s.blk t
        ∧ Keeps [.regs, .tb] s.blk t)
    ∧ (let at_ := (s.blk.port p).entered + s.blk.rd (Reg.PORT_HIC_OFF_MS p) * msPs
       s.blk.rd (Reg.PORT_STAT_STATE p) = 5 →
      ((s.blk.untilUp at_).atBoundary = true →
        Does (.hiccupOffEnd p) s fun t => soft s.blk t
          ∧ t.rd (Reg.PORT_STAT_RETRIES p) = satNat 2 (s.blk.rd (Reg.PORT_STAT_RETRIES p) + 1)
          ∧ at_ ≤ t.tb.up ∧ Keeps [.regs, .tb, .lv, .ctxs] s.blk t)
      ∧ ((s.blk.untilUp at_).atBoundary = false →
        Does (.hiccupOffEnd p) s fun t => at_ ≤ t.tb.up ∧ RegsBut adjFields s.blk t ∧ Keeps [.regs, .tb] s.blk t))
    ∧ (∀ b : Block, b.runReq p = true →
      (b.rd (Reg.PORT_STAT_STATE p) = 2 → b.portClosed p = true → soft b (b.portBoundary p false false))
      ∧ (b.rd (Reg.PORT_STAT_STATE p) = 5 → b.portOffOver p = true → soft b (b.portBoundary p false false)
        ∧ (b.portBoundary p false false).rd (Reg.PORT_STAT_RETRIES p)
            = satNat 2 (b.rd (Reg.PORT_STAT_RETRIES p) + 1)))

/-- A hiccup condition (R281, R284): with fewer than three retries the port goes to HICCUP and PORT_HICCUP is logged (its
    class INFO, as any other may fence the port as well); after three it is latched (PORT_FAULT's class INFO, as any other may
    fence it) and PORT_FAULT is logged.  A soft start
    that does not fail changes nothing. -/
def Obligations.PortHiccups : Prop :=
  ∀ (s : State) (p : Fin 8),
    let settled := s.blk.untilUp ((s.blk.port p).entered + (s.blk.rd (Reg.PORT_SLEW_SS_MS p) + 5) * msPs)
    let hicced (detail : Nat) (b t : Block) : Prop := t.rd (Reg.PORT_STAT_STATE p) = 5
      ∧ t.rd (Reg.PORT_HIC_CNT_COUNT p) = satNat 32 (s.blk.rd (Reg.PORT_HIC_CNT_COUNT p) + 1)
      ∧ Logs { source := 192, unitType := 4, idx := p, extra := detail } b t ∧ (t.port p).trunc = 0
    (8 ≤ (s.blk.port p).trunc → s.blk.rd (Reg.PORT_STAT_STATE p) ∈ [3, 4] → s.blk.rd (Reg.PORT_STAT_RETRIES p) < 3 →
      s.blk.rd (Reg.EVT_SRCk_CLASS 192) = 0 → Loggable s.blk { source := 192, unitType := 4, idx := p, extra := 1 } →
      Does (.hiccupCondition p) s fun t => hicced 1 s.blk t ∧ Keeps [.regs, .evt, .lv] s.blk t)
    ∧ (8 ≤ (s.blk.port p).trunc → s.blk.rd (Reg.PORT_STAT_STATE p) ∈ [3, 4] → s.blk.rd (Reg.PORT_STAT_RETRIES p) = 3 →
      Loggable s.blk { source := 193, unitType := 4, idx := p } →
      Does (.hiccupCondition p) s fun t => Logs { source := 193, unitType := 4, idx := p } s.blk t
        ∧ (s.blk.rd (Reg.EVT_SRCk_CLASS 193) = 0 →
          t.rd (Reg.PORT_STAT_STATE p) = 8 ∧ t.rd (Reg.PORT_STAT_CAUSE p) = 1 ∧ (t.port p).trunc = 0)
        ∧ Keeps raiseParts s.blk t)
    ∧ (s.blk.rd (Reg.PORT_STAT_STATE p) = 3 → settled.softFails p = true → s.blk.rd (Reg.PORT_STAT_RETRIES p) < 3 →
      s.blk.rd (Reg.EVT_SRCk_CLASS 192) = 0 → Loggable settled { source := 192, unitType := 4, idx := p, extra := 2 } →
      Does (.softStartCheck p) s fun t => hicced 2 settled t ∧ Keeps [.regs, .tb, .evt, .lv] s.blk t)
    ∧ (s.blk.rd (Reg.PORT_STAT_STATE p) = 3 → settled.softFails p = false →
      Does (.softStartCheck p) s fun t => RegsBut adjFields s.blk t ∧ Keeps [.regs, .tb] s.blk t)

/-- Constant on-time control (R280 to R282): a comparator that finds v_out and the ripples below v_cmp starts an on-time on
    the phase whose turn it is, or waits for that phase; it starts none where they are not below, nor on legs that are held
    (R279). An on-time ends after t_on, or at once under the fast limit, which counts, its edge being redundant in a bootstrap
    refresh (R250); on a leg that is held it ends with no edge. A leg without current rests. The on-time's dead time and
    minimum pulse are those taken at its start (log entry 139); what the manual leaves open here besides is as log entry 36
    says. No trip input is at its level (R258: LegProtection has those). -/
def Obligations.PortOnTimes : Prop :=
  ∀ (s : State) (p : Fin 8) (second : Bool),
    let x := s.blk.port p
    let l := if second then 2 * p.val + 1 else 2 * p.val
    let legFields := [Reg.PWM_LEG_STAT_STATE l, Reg.GATE_CH_STAT_GATE_OFF (2 * l), Reg.GATE_CH_STAT_GATE_OFF (2 * l + 1)]
    let both := (s.blk.leg (2 * p)).switching = true ∧ (s.blk.leg (2 * p + 1)).switching = true
    let start := s.blk.tickIn 40
    let y := (s.blk.takeCfg l (s.blk.cfgAt l start)).leg l
    let now := s.blk.tickIn 0
    let low := s.blk.comparatorLow p now = true
    (s.blk.lv.tripPins = [] → s.blk.rd (Reg.PORT_STAT_STATE p) ∈ [3, 4] → both → low → x.turn = second →
      x.onOf second = none → x.formed = none →
      (if second then x.offB else x.offA) = none → y.lastEdge = none → y.refreshEnd = none → y.restAt = none → y.tmin ≤ x.ton →
      Does (.cotComparatorFire p) s fun t => t.rd (Reg.PWM_LEG_STAT_STATE l) = 2
        ∧ t.out = .edge l start (start + 64 * y.dt) true :: s.blk.out ∧ (t.port p).turn = !second
        ∧ (t.port p).onOf second = some (start + 5 * (x.ton : Int))
        ∧ RegsBut (Reg.PWM_LEG_CNT_STRETCH l :: legFields ++ adjFields) s.blk t ∧ Keeps [.regs, .tb, .lv, .out] s.blk t)
    ∧ (s.blk.rd (Reg.PORT_STAT_STATE p) ∈ [3, 4] → both → low → x.turn = second → x.onOf second ≠ none →
      Does (.cotComparatorFire p) s fun t => t.port p = { x with waiting := true } ∧ RegsBut [] s.blk t
        ∧ Keeps [.lv] s.blk t)
    ∧ ((s.blk.rd (Reg.PORT_STAT_STATE p) ∉ [3, 4] ∨ ¬ both ∨ ¬ low) →
      Does (.cotComparatorFire p) s fun t => RegsBut [] s.blk t ∧ Keeps [] s.blk t)
    ∧ (∀ e, s.blk.lv.tripPins = [] → x.onOf second = some e → x.waiting = false →
      ((s.blk.leg l).switching = true → 2 ≤ s.blk.rd (Reg.PWM_LEG_STAT_STATE l) → (s.blk.leg l).restAt = none →
        (Does (.onTimeEnd p second) s fun t => t.rd (Reg.PWM_LEG_STAT_STATE l) = 1
          ∧ t.out = .edge l e (e + 64 * (s.blk.leg l).dt) false :: s.blk.out
          ∧ (t.port p).onOf second = none ∧ (t.port p).trunc = 0
          ∧ (if second then (t.port p).offB else (t.port p).offA) = some e
          ∧ RegsBut (legFields ++ adjFields) s.blk t ∧ Keeps [.regs, .tb, .lv, .out] s.blk t)
        ∧ (x.trunc < 7 →
          Does (.fastLimitTrip p second) s fun t => t.rd (Reg.PWM_LEG_STAT_STATE l) = 1
            ∧ t.out = .edge l now (now + 64 * (s.blk.leg l).dt) false :: s.blk.out ∧ (t.port p).onOf second = none
            ∧ (t.port p).trunc = x.trunc + 1 ∧ t.on (Reg.PORT_STAT_LIMITING p) = true
            ∧ t.rd (Reg.PORT_LIM_CNT_COUNT p) = satNat 32 (s.blk.rd (Reg.PORT_LIM_CNT_COUNT p) + 1)
            ∧ RegsBut ([Reg.PORT_LIM_CNT_COUNT p, Reg.PORT_STAT_LIMITING p] ++ legFields ++ adjFields) s.blk t
            ∧ Keeps [.regs, .tb, .lv, .out] s.blk t))
      ∧ ((s.blk.leg l).switching = true → s.blk.rd (Reg.PWM_LEG_STAT_STATE l) < 2 →
        Does (.onTimeEnd p second) s fun t => t.out = s.blk.out ∧ (t.leg l).edges = [] ∧ (t.port p).onOf second = none
          ∧ RegsBut adjFields s.blk t ∧ Keeps [.regs, .tb, .lv] s.blk t)
      ∧ ((s.blk.leg l).switching = false →
        Does (.onTimeEnd p second) s fun t => t.tb = (s.blk.untilI e).tb ∧ RegsBut adjFields s.blk t
          ∧ Keeps [.regs, .tb, .lv] s.blk t))
    ∧ (let b := s.blk.settleLeg l
       b.rd (Reg.PWM_LEG_STAT_STATE l) = 1 → b.portLeg l = true →
      Does (.diodeEmulationEnd p second) s fun t => t.rd (Reg.PWM_LEG_STAT_STATE l) = 0
        ∧ t.on (Reg.GATE_CH_STAT_GATE_OFF (2 * l + 1)) = s.blk.on (Reg.GATE_CH_STAT_POWERED (2 * l + 1))
        ∧ (if second then (t.port p).restB else (t.port p).restA) = true ∧ t.out = .rest l :: b.out
        ∧ RegsBut [Reg.PWM_LEG_STAT_STATE l, Reg.GATE_CH_STAT_GATE_OFF (2 * l + 1)] b t
        ∧ Keeps [.regs, .lv, .out] b t)

/-- Fallback (R287, R288): host loss, judged at a boundary, and the pin put every port in fallback with their detail, the
    first entry's standing; the end of the last condition takes every port out; the selection is taken; and the host's
    resume ends host loss from the next boundary on (R40). -/
def Obligations.Fallback : Prop :=
  ∀ (s : State) (v : BitVec 3) (rq : Req),
    let lostAt := s.blk.rd64 Reg.SYS_HOST_RX_LO_TIME Reg.SYS_HOST_RX_HI_TIME
      + s.blk.rd Reg.PORT_FB_CFG_TIMEOUT_MS * 1000000
    (s.blk.rd Reg.PORT_FB_CFG_TIMEOUT_MS ≠ 0 → s.blk.holds = true →
      ((s.blk.until lostAt).atBoundary = true → lostAt ≤ (s.blk.until lostAt).ns →
        Does .fallbackHostLoss s fun t => t.on Reg.PORT_FB_STAT_HOST = true ∧ t.on Reg.PORT_FB_STAT_ACTIVE = true
          ∧ (∀ p : Fin 8, (t.port p).fallback = some ((s.blk.port p).fallback.getD 1)) ∧ Keeps (.tb :: raiseParts) s.blk t)
      ∧ ((s.blk.until lostAt).atBoundary = false →
        Does .fallbackHostLoss s fun t => RegsBut adjFields s.blk t ∧ Keeps [.regs, .tb] s.blk t))
    ∧ (s.blk.on Reg.PORT_FB_CFG_PIN_EN = true → s.blk.holds = true → s.blk.on Reg.PORT_FB_STAT_HOST = false →
      (Does (.fallbackPin true) s fun t =>
        (∀ p : Fin 8, (t.port p).fallback = some ((s.blk.port p).fallback.getD 2)) ∧ Keeps raiseParts s.blk t)
      ∧ (Does (.fallbackPin false) s fun t => (∀ p : Fin 8, (t.port p).fallback = none) ∧ Keeps raiseParts s.blk t))
    ∧ (s.blk.on Reg.PORT_FB_CFG_PIN_EN = false →
      ∀ low, Does (.fallbackPin low) s fun t => t.lv.fbPin = low ∧ t.on Reg.PORT_FB_STAT_PIN = false
        ∧ Keeps raiseParts s.blk t)
    ∧ Does (.vselSample v) s (fun t => t.rd Reg.PORT_FB_STAT_VSEL = v.toNat ∧ RegsBut [Reg.PORT_FB_STAT_VSEL] s.blk t
        ∧ Keeps [.regs] s.blk t)
    ∧ (AtTurn s.blk rq 0x11 → s.blk.on Reg.PORT_FB_STAT_PIN = true →
      Does (.fallbackResume rq) s fun t => Answered s.blk t rq 0x11 stDenied 1 [] ∧ RegsBut endFields s.blk t
        ∧ Keeps endParts s.blk t)
    ∧ (AtTurn s.blk rq 0x11 → s.blk.on Reg.PORT_FB_STAT_PIN = false →
      Does (.fallbackResume rq) s fun t => Answered s.blk t rq 0x11 stOk 0 (be 4 0x420808)
        ∧ t.lv = { s.blk.lv with fbResume := true } ∧ RegsBut endFields s.blk t ∧ Keeps (.lv :: endParts) s.blk t)
    ∧ (s.blk.lv.fbResume = true → s.blk.on Reg.PORT_FB_STAT_PIN = false →
      let b := s.blk.resumeTakes
      b.lv.fbResume = false ∧ b.on Reg.PORT_FB_STAT_HOST = false ∧ (∀ p : Fin 8, (b.port p).fallback = none)
        ∧ Keeps raiseParts s.blk b)

/-! ### Jarvas (R54 to R92) -/

/-- A packet that passed its transport check and names a newer sequence is queued behind those that wait (R62, R63); a
    MAQUETTE_DISCARD at least 1,000 ns before the boundary of an armed cast disarms it at that moment, and a CAST that waited
    for it ends with DENIED 7 (R45, R74); one for a full queue is refused with BUSY; one with a bad check is dropped and counted (R58); one on a connector that is
    not served is not seen (R57). What the manual leaves open here is as log entry 19 says. -/
def Obligations.PacketAcceptance : Prop :=
  ∀ (s : State) (p : RxPacket),
    let h := p.bytes ++ zeros 16
    let op := field h 1 1
    let rq : Req := { src := packetSrc p, seq := BitVec.ofNat 32 (field h 4 4) }
    let body := (p.bytes.drop 16).take (field h 8 2)
    let heard := s.blk.portServed p.port = true ∧ s.blk.duplicate p = false
      ∧ (checkerPort p.port < 2 → s.blk.injects 3 (checkerPort p.port) = false)
    let whole := p.fcsOk = true ∧ fragment p = false
      ∧ (p.port = .svc ∨ (p.toUs = true ∧ s.blk.tagOk p.vlan = true ∧ s.blk.kindOk p = true ∧ sumOk p = true))
    let sound := (field h 2 2).testBit 0 = false ∧ s.blk.boot.coreReset = false ∧ field h 0 1 = 1
      ∧ field h 8 2 ≤ 1400 ∧ field h 8 2 ≤ body.length ∧ lengthFits op body = true ∧ opDefined op = true
      ∧ op ≠ 0x90 ∧ op ≠ 0x42 ∧ (s.blk.boot.plinth = true → op ∈ plinthOps)
    let fresh := (s.blk.jv.queue.any fun q => q.req.seq == rq.seq && q.op.toNat == op) = false
      ∧ (s.blk.jv.cache.find? fun r => r.seq == rq.seq && r.op.toNat == op && sameSource r.src rq.src) = none
      ∧ seqNewer rq.seq.toNat (s.blk.rd Reg.SYS_SEQ_ACCEPTED_SEQ) = true
    let discard : QCmd := { req := rq, op := 0x22, wait := .turn, disarmed := true }
    let unlocked (t : Block) : Prop := t.cst = { s.blk.cst with armed := none } ∧ t.rd Reg.SYS_CAST_STAT_STATE = 0
      ∧ t.rd Reg.SYS_CAST_STAT_ERR = 7 ∧ t.on Reg.SYS_MAQ_STAT_LOCKED = false
      ∧ t.rd Reg.SYS_CAST_TARGET_LO_BOUNDARY = 0 ∧ t.rd Reg.SYS_CAST_TARGET_HI_BOUNDARY = 0
      ∧ t.rd Reg.SYS_SEQ_ACCEPTED_SEQ = rq.seq.toNat
    (heard → whole → sound → fresh → op = 0x22 → s.blk.jv.queue.length < 32 → s.blk.mayDisarm = true →
      (s.blk.castHeld = false →
        Does (.jarvasPacketRx p) s fun t => unlocked t ∧ t.jv = { s.blk.jv with queue := s.blk.jv.queue ++ [discard] }
          ∧ RegsBut [Reg.SYS_SEQ_ACCEPTED_SEQ, Reg.SYS_HOST_RX_LO_TIME, Reg.SYS_HOST_RX_HI_TIME, Reg.SYS_CAST_STAT_STATE,
              Reg.SYS_CAST_STAT_ERR, Reg.SYS_MAQ_STAT_LOCKED, Reg.SYS_CAST_TARGET_LO_BOUNDARY,
              Reg.SYS_CAST_TARGET_HI_BOUNDARY] s.blk t
          ∧ Keeps [.regs, .cst, .jv] s.blk t)
      ∧ (∀ q r, s.blk.jv.queue = q :: r → q.wait = .cast →
        Does (.jarvasPacketRx p) s fun t => unlocked t ∧ t.jv.queue = r ++ [discard]
          ∧ Replied t q.req q.op.toNat stDenied 7 [] ∧ t.rd Reg.SYS_SEQ_LAST_SEQ = q.req.seq.toNat
          ∧ Keeps [.regs, .cst, .jv, .out] s.blk t))
    ∧ (heard → whole → sound → fresh → op ≠ 0x22 ∨ s.blk.mayDisarm = false → s.blk.jv.queue.length < 32 →
      Does (.jarvasPacketRx p) s fun t => t.jv = { s.blk.jv with
          queue := s.blk.jv.queue ++ [{ req := rq, op := BitVec.ofNat 8 op, wait := .turn, disarmed := false }] }
        ∧ t.rd Reg.SYS_SEQ_ACCEPTED_SEQ = rq.seq.toNat
        ∧ RegsBut [Reg.SYS_SEQ_ACCEPTED_SEQ, Reg.SYS_HOST_RX_LO_TIME, Reg.SYS_HOST_RX_HI_TIME] s.blk t
        ∧ Keeps [.regs, .jv] s.blk t)
    ∧ (heard → whole → sound → fresh → 32 ≤ s.blk.jv.queue.length →
      Does (.jarvasPacketRx p) s fun t => Replied t rq op stBusy 0 []
        ∧ t.rd Reg.SYS_CMD_REFUSED_COUNT = satNat 32 (s.blk.rd Reg.SYS_CMD_REFUSED_COUNT + 1)
        ∧ RegsBut [Reg.SYS_CMD_REFUSED_COUNT, Reg.SYS_CMD_STAT_RESTARTED] s.blk t ∧ Keeps [.regs, .out] s.blk t)
    ∧ (heard → p.fcsOk = false →
      Does (.jarvasPacketRx p) s fun t => t.rd Reg.SYS_CMD_DROP_COUNT = satNat 32 (s.blk.rd Reg.SYS_CMD_DROP_COUNT + 1)
        ∧ RegsBut [Reg.SYS_CMD_DROP_COUNT] s.blk t ∧ Keeps [.regs] s.blk t)
    ∧ (s.blk.portServed p.port = false → Does (.jarvasPacketRx p) s fun t => RegsBut [] s.blk t ∧ Keeps [] s.blk t)

/-- Commands that only answer: PING returns its payload, IDENT its record, IMAGE_READ bytes of the frozen bank's image
    (R69, R73, R91); QUERY_LAST is answered out of band (R68, R92); an ARP request for the module is answered (R55). -/
def Obligations.AnsweringCommands : Prop :=
  ∀ (s : State) (rq : Req) (payload : List Byte) (off : Word) (len : BitVec 16) (port : Stn) (ip sender : BitVec 32) (mac : Mac),
    (AtTurn s.blk rq 0x01 → payload.length ≤ 1400 →
      Does (.ping rq payload) s fun t => Answered s.blk t rq 0x01 stOk 0 payload ∧ RegsBut endFields s.blk t
        ∧ Keeps endParts s.blk t)
    ∧ (AtTurn s.blk rq 0x02 →
      Does (.ident rq) s fun t => Answered s.blk t rq 0x02 stOk 0 s.blk.identRecord ∧ RegsBut endFields s.blk t
        ∧ Keeps endParts s.blk t)
    ∧ (AtTurn s.blk rq 0x30 → 4 ≤ len.toNat → len.toNat ≤ 1384 → len.toNat % 4 = 0 → off.toNat % 4 = 0 →
      off.toNat + len.toNat ≤ 0x1000000 →
      Does (.imageRead rq off len) s fun t => Answered s.blk t rq 0x30 stOk 0 (be 8 s.blk.frozenNum ++ be 4 off.toNat
          ++ be 2 len.toNat ++ zeros 2 ++ s.blk.imageBytes off.toNat (len.toNat / 4))
        ∧ RegsBut endFields s.blk t ∧ Keeps endParts s.blk t)
    ∧ (AtTurn s.blk rq 0x30 → 4 ≤ len.toNat → len.toNat ≤ 1384 → len.toNat % 4 = 0 →
      (off.toNat % 4 ≠ 0 ∨ 0x1000000 < off.toNat + len.toNat) →
      Does (.imageRead rq off len) s fun t => Answered s.blk t rq 0x30 stBadAddress 0 [] ∧ RegsBut endFields s.blk t
        ∧ Keeps endParts s.blk t)
    ∧ (s.blk.released 6 = true →
      Does (.queryLast rq) s fun t => Replied t rq 0x90 stOk 0 s.blk.queryRecord ∧ RegsBut [Reg.SYS_CMD_STAT_RESTARTED] s.blk t
        ∧ Keeps [.regs, .out] s.blk t)
    ∧ (s.blk.released 4 = true → s.blk.dma.link (stnNum port) = true → s.blk.cores = true → s.blk.udpOn = true → ip.toNat = s.blk.rd Reg.SYS_JARVAS_IP_IPV4 →
      Does (.arpRequestRx port ip sender mac) s fun t => t.out = .arp port ip sender mac :: s.blk.out ∧ RegsBut [] s.blk t
        ∧ Keeps [.out] s.blk t)
    ∧ (ip.toNat ≠ s.blk.rd Reg.SYS_JARVAS_IP_IPV4 ∨ s.blk.dma.link (stnNum port) = false →
      Does (.arpRequestRx port ip sender mac) s fun t => RegsBut [] s.blk t ∧ Keeps [] s.blk t)

/-- CONVERTER_START and CONVERTER_STOP wait for the boundary, or are denied (R80, R123); CELL_FENCE and CELL_RESEAT wait
    for theirs (R80); SAFE_STOP is answered out of band and is a demand that begins a ramp (R81, R362 to R364). What the
    manual leaves open here is as log entries 87, 116 and 149 say, the order of CELL_RESEAT's refusals among it. -/
def Obligations.ConverterAndCellCommands : Prop :=
  ∀ (s : State) (rq : Req) (slot : BitVec 16),
    (AtTurn s.blk rq 0x40 → s.blk.rd Reg.SYS_CONV_STAT_STATE = 0 → s.blk.startErr = 0 →
      Does (.converterStart rq) s fun t => Waits s.blk t .convStart ∧ t.conv = { s.blk.conv with wantStart := true }
        ∧ t.rd Reg.SYS_CONV_STAT_START_ERR = 0 ∧ RegsBut [Reg.SYS_CONV_STAT_START_ERR] s.blk t
        ∧ Keeps [.regs, .jv, .conv] s.blk t)
    ∧ (AtTurn s.blk rq 0x40 → s.blk.rd Reg.SYS_CONV_STAT_STATE = 0 → s.blk.startErr ≠ 0 →
      Does (.converterStart rq) s fun t => Answered s.blk t rq 0x40 stDenied 2 []
        ∧ t.rd Reg.SYS_CONV_STAT_START_ERR = s.blk.startErr
        ∧ RegsBut (Reg.SYS_CONV_STAT_START_ERR :: endFields) s.blk t ∧ Keeps endParts s.blk t)
    ∧ (AtTurn s.blk rq 0x40 → s.blk.rd Reg.SYS_CONV_STAT_STATE ≠ 0 →
      Does (.converterStart rq) s fun t => Answered s.blk t rq 0x40 stDenied 1 [] ∧ RegsBut endFields s.blk t
        ∧ Keeps endParts s.blk t)
    ∧ (AtTurn s.blk rq 0x41 → s.blk.rd Reg.SYS_CONV_STAT_STATE = 3 →
      Does (.converterStop rq) s fun t => Waits s.blk t .convStop ∧ t.conv = { s.blk.conv with wantOrdStop := true }
        ∧ RegsBut [] s.blk t ∧ Keeps [.jv, .conv] s.blk t)
    ∧ (AtTurn s.blk rq 0x41 → s.blk.rd Reg.SYS_CONV_STAT_STATE ≠ 3 →
      Does (.converterStop rq) s fun t => Answered s.blk t rq 0x41 stDenied 1 [] ∧ RegsBut endFields s.blk t
        ∧ Keeps endParts s.blk t)
    ∧ (AtTurn s.blk rq 0x50 → slot.toNat ≤ 191 → s.blk.populated slot.toNat = true → s.blk.holds = true →
      3 ≤ s.blk.svc slot.toNat →
      Does (.cellFence rq slot) s fun t => Waits s.blk t (.fence slot.toNat) ∧ (t.cell slot.toNat).fence = some 4
        ∧ ((t.recov slot.toNat).fenced = true) ∧ Keeps [.regs, .jv, .evt, .cells] s.blk t)
    ∧ (AtTurn s.blk rq 0x50 → slot.toNat ≤ 191 → s.blk.populated slot.toNat = true → s.blk.svc slot.toNat = 1 →
      Does (.cellFence rq slot) s fun t => Answered s.blk t rq 0x50 stOk 0 (s.blk.slotReply slot.toNat)
        ∧ RegsBut endFields s.blk t ∧ Keeps endParts s.blk t)
    ∧ (AtTurn s.blk rq 0x51 → slot.toNat ≤ 191 → s.blk.populated slot.toNat = true → s.blk.holds = true →
      s.blk.svc slot.toNat = 1 → s.blk.rd Reg.SYS_PWR_STAT_STATE < 2 →
      Does (.cellReseat rq slot) s fun t => Waits s.blk t (.reseat slot.toNat) ∧ (t.cell slot.toNat).reseat = true
        ∧ RegsBut [] s.blk t ∧ Keeps [.jv, .evt, .cells] s.blk t)
    ∧ (AtTurn s.blk rq 0x51 → slot.toNat ≤ 191 → s.blk.populated slot.toNat = true → s.blk.holds = false →
      s.blk.svc slot.toNat = 1 → s.blk.rd Reg.SYS_PWR_STAT_STATE < 2 →
      Does (.cellReseat rq slot) s fun t => Answered s.blk t rq 0x51 stDenied 4 [] ∧ RegsBut endFields s.blk t
        ∧ Keeps endParts s.blk t)
    ∧ (AtTurn s.blk rq 0x51 → slot.toNat ≤ 191 → s.blk.populated slot.toNat = true →
      2 ≤ s.blk.rd Reg.SYS_PWR_STAT_STATE →
      Does (.cellReseat rq slot) s fun t => Answered s.blk t rq 0x51 stDenied 5 [] ∧ RegsBut endFields s.blk t
        ∧ Keeps endParts s.blk t)
    ∧ (AtTurn s.blk rq 0x50 → slot.toNat ≤ 191 → s.blk.populated slot.toNat = true → s.blk.svc slot.toNat ≠ 1 →
      s.blk.holds = false →
      Does (.cellFence rq slot) s fun t => Answered s.blk t rq 0x50 stDenied 2 [] ∧ RegsBut endFields s.blk t
        ∧ Keeps endParts s.blk t)
    ∧ (AtTurn s.blk rq 0x51 → slot.toNat ≤ 191 → s.blk.populated slot.toNat = true →
      s.blk.svc slot.toNat ≠ 1 → s.blk.rd Reg.SYS_PWR_STAT_STATE < 2 →
      Does (.cellReseat rq slot) s fun t => Answered s.blk t rq 0x51 stDenied 3 [] ∧ RegsBut endFields s.blk t
        ∧ Keeps endParts s.blk t)
    ∧ (AtTurn s.blk rq 0x50 → 191 < slot.toNat →
      Does (.cellFence rq slot) s fun t => Answered s.blk t rq 0x50 stBadAddress 0 [] ∧ RegsBut endFields s.blk t
        ∧ Keeps endParts s.blk t)
    ∧ (AtTurn s.blk rq 0x51 → 191 < slot.toNat →
      Does (.cellReseat rq slot) s fun t => Answered s.blk t rq 0x51 stBadAddress 0 [] ∧ RegsBut endFields s.blk t
        ∧ Keeps endParts s.blk t)
    ∧ (s.blk.cores = true → s.blk.boot.plinth = false → s.blk.holds = true → s.blk.rd Reg.SAFE_STAT_STATE = 0 →
      s.blk.rd Reg.SYS_CONV_STAT_STATE ∈ [2, 3, 4] → s.blk.rd (Reg.EVT_SRCk_CLASS 230) = 0 → Loggable s.blk { source := 230 } →
      Does (.safeStop rq) s fun t => Replied t rq 0x42 stOk 0 (be 8 s.blk.strk.num) ∧ Logs { source := 230 } s.blk t
        ∧ t.rd Reg.SAFE_STAT_STATE = 1 ∧ t.rd Reg.SAFE_STAT_CAUSE = 6
        ∧ t.rd Reg.SAFE_DEMAND_CNT_COUNT = satNat 32 (s.blk.rd Reg.SAFE_DEMAND_CNT_COUNT + 1)
        ∧ t.safe.ramp = some s.blk.tb.up ∧ t.conv.wantSafeStop = true ∧ Keeps [.regs, .evt, .conv, .safe, .out] s.blk t)

/-- RESET level 0 stops the cores (R67, R89, R401); level 1 with the converter OFF, and PLINTH_EXIT in plinth mode, decide
    a system reset, which follows the reply (R89, R90); a wrong key is denied. What the manual leaves open here is as log
    entries 9 and 15 say. -/
def Obligations.ResetCommands : Prop :=
  ∀ (s : State) (rq : Req) (level : BitVec 8) (key : BitVec 24) (pkey : BitVec 32), s.blk.boot.coreDue = false →
    (AtTurn s.blk rq 0xA0 → s.blk.jv.queue.length = 1 → s.blk.boot.coreResets = [] →
      Does (.reset rq 0 0xA55AC3) s fun t => Replied t rq 0xA0 stOk 0 (be 1 0 ++ zeros 3) ∧ t.boot.coreReset = true
        ∧ t.jv.queue = [] ∧ t.jv.cache = [] ∧ t.rd Reg.RST_CORE_CAUSE_CAUSE = 2 ∧ t.on Reg.SYS_CMD_STAT_RESTARTED = true
        ∧ t.boot.due = s.blk.boot.due ∧ Keeps [.regs, .jv, .boot, .cells, .out] s.blk t)
    ∧ (AtTurn s.blk rq 0xA0 → s.blk.rd Reg.SYS_CONV_STAT_STATE = 0 → s.blk.boot.due = none →
      Does (.reset rq 1 0xA55AC3) s fun t => Answered s.blk t rq 0xA0 stOk 0 (be 1 1 ++ zeros 3)
        ∧ t.boot = { s.blk.boot with due := some { cause := 4 } } ∧ RegsBut endFields s.blk t
        ∧ Keeps (.boot :: endParts) s.blk t)
    ∧ (AtTurn s.blk rq 0xA0 → s.blk.rd Reg.SYS_CONV_STAT_STATE ≠ 0 →
      Does (.reset rq 1 0xA55AC3) s fun t => Answered s.blk t rq 0xA0 stDenied 2 [] ∧ RegsBut endFields s.blk t
        ∧ Keeps endParts s.blk t)
    ∧ (AtTurn s.blk rq 0xA0 → (1 < level.toNat ∨ key ≠ 0xA55AC3) →
      Does (.reset rq level key) s fun t => Answered s.blk t rq 0xA0 stDenied 1 [] ∧ RegsBut endFields s.blk t
        ∧ Keeps endParts s.blk t)
    ∧ (AtTurn s.blk rq 0xA1 → s.blk.boot.plinth = true → s.blk.boot.due = none →
      Does (.plinthExit rq 0xA55AC3) s fun t => Answered s.blk t rq 0xA1 stOk 0 [] ∧ t.rd Reg.RST_BOOT_FAILS = 0
        ∧ t.boot = { s.blk.boot with due := some { cause := 5 } } ∧ RegsBut (Reg.RST_BOOT_FAILS :: endFields) s.blk t
        ∧ Keeps (.boot :: endParts) s.blk t)
    ∧ (AtTurn s.blk rq 0xA1 → (s.blk.boot.plinth = false ∨ pkey ≠ 0xA55AC3) →
      Does (.plinthExit rq pkey) s fun t => Answered s.blk t rq 0xA1 stDenied 1 [] ∧ RegsBut endFields s.blk t
        ∧ Keeps endParts s.blk t)

/-! ### Casts (R42 to R50) -/

/-- CAST and CAST_AT validate the maquette and arm a cast for their boundary, or are denied with the failing rule (R45 to
    R49). A CAST_AT while one is armed re-targets a cast of CAST_AT where its boundary and the new one lie far enough ahead,
    and ends with LOCKED where CAST armed it (R45). MAQUETTE_DISCARD makes the maquette equal to the configuration in force and drops the dirty words, a cast that
    is far enough ahead disarmed with it (R44, R45); the end of the copy after a cast brings each dirty word over (R50).
    What the manual leaves open here is as log entries 63 and 113 say. -/
def Obligations.Casts : Prop :=
  (∀ (s : State) (rq : Req) (at_ : BitVec 64), s.blk.cst.resync = none →
     (AtTurn s.blk rq 0x20 → s.blk.cst.armed = none → s.blk.validate = none →
       let c := (s.blk.castBoundary (s.blk.ns + 1000)).toNat
       Does (.cast rq) s fun t => Waits s.blk t .cast
         ∧ t.cst = { s.blk.cst with armed := some { b := c, timed := false, at_ := s.blk.ns, deferred := false } }
         ∧ t.rd Reg.SYS_CAST_STAT_STATE = 3 ∧ t.on Reg.SYS_MAQ_STAT_LOCKED = true ∧ t.rd Reg.SYS_CAST_STAT_ERR = 0
         ∧ Keeps [.regs, .cst, .jv] s.blk t)
     ∧ (AtTurn s.blk rq 0x21 → s.blk.cst.armed = none → s.blk.validate = none → s.blk.tooFar at_.toNat = false →
       (s.blk.ns : Int) + 1000 ≤ s.blk.castBoundary at_.toNat →
       let c := (s.blk.castBoundary at_.toNat).toNat
       Does (.castAt rq at_) s fun t => Answered s.blk t rq 0x21 stOk 0 (be 8 c)
         ∧ t.cst = { s.blk.cst with armed := some { b := c, timed := true, at_ := s.blk.ns, deferred := false } }
         ∧ t.rd Reg.SYS_CAST_STAT_STATE = 4 ∧ t.on Reg.SYS_MAQ_STAT_LOCKED = true ∧ t.rd Reg.SYS_CAST_STAT_ERR = 0
         ∧ Keeps (.cst :: endParts) s.blk t)
     ∧ (AtTurn s.blk rq 0x21 → s.blk.cst.armed = none → s.blk.validate = none → s.blk.tooFar at_.toNat = true →
       Does (.castAt rq at_) s fun t => Answered s.blk t rq 0x21 stDenied 6 [] ∧ t.rd Reg.SYS_CAST_STAT_ERR = 6
         ∧ RegsBut ([Reg.SYS_CAST_STAT_ERR, Reg.SYS_CAST_ERR_ADDR_ADDR] ++ endFields) s.blk t ∧ Keeps endParts s.blk t)
     ∧ (AtTurn s.blk rq 0x21 → s.blk.cst.armed = none → s.blk.validate = none → s.blk.tooFar at_.toNat = false →
       s.blk.castBoundary at_.toNat < (s.blk.ns : Int) + 1000 →
       Does (.castAt rq at_) s fun t => Answered s.blk t rq 0x21 stStale 2 [] ∧ t.rd Reg.SYS_CAST_STAT_ERR = 5
         ∧ RegsBut ([Reg.SYS_CAST_STAT_ERR, Reg.SYS_CAST_ERR_ADDR_ADDR] ++ endFields) s.blk t ∧ Keeps endParts s.blk t)
     ∧ (∀ err addr, s.blk.cst.armed = none → s.blk.validate = some (err, addr) →
       (AtTurn s.blk rq 0x20 → Does (.cast rq) s fun t => Answered s.blk t rq 0x20 stDenied err []
         ∧ t.rd Reg.SYS_CAST_STAT_ERR = err % 2 ^ 8 ∧ t.rd Reg.SYS_CAST_ERR_ADDR_ADDR = addr % 2 ^ 32
         ∧ RegsBut ([Reg.SYS_CAST_STAT_ERR, Reg.SYS_CAST_ERR_ADDR_ADDR] ++ endFields) s.blk t ∧ Keeps endParts s.blk t)
       ∧ (AtTurn s.blk rq 0x21 → Does (.castAt rq at_) s fun t => Answered s.blk t rq 0x21 stDenied err []
         ∧ RegsBut ([Reg.SYS_CAST_STAT_ERR, Reg.SYS_CAST_ERR_ADDR_ADDR] ++ endFields) s.blk t ∧ Keeps endParts s.blk t))
     ∧ (∀ a, AtTurn s.blk rq 0x21 → s.blk.cst.armed = some a →
       let c := (s.blk.castBoundary at_.toNat).toNat
       let stillAhead := s.blk.ns + 1000 ≤ a.b
       let errs := [Reg.SYS_CAST_STAT_ERR, Reg.SYS_CAST_ERR_ADDR_ADDR] ++ endFields
       (a.timed = false →
         Does (.castAt rq at_) s fun t => Answered s.blk t rq 0x21 stLocked 0 [] ∧ RegsBut endFields s.blk t ∧ Keeps endParts s.blk t)
       ∧ (a.timed = true → s.blk.tooFar at_.toNat = true →
         Does (.castAt rq at_) s fun t => Answered s.blk t rq 0x21 stDenied 6 [] ∧ t.rd Reg.SYS_CAST_STAT_ERR = 6
           ∧ RegsBut errs s.blk t ∧ Keeps endParts s.blk t)
       ∧ (a.timed = true → s.blk.tooFar at_.toNat = false → ¬ stillAhead →
         Does (.castAt rq at_) s fun t => Answered s.blk t rq 0x21 stLocked 0 [] ∧ RegsBut endFields s.blk t ∧ Keeps endParts s.blk t)
       ∧ (a.timed = true → s.blk.tooFar at_.toNat = false → stillAhead → c < s.blk.ns + 1000 →
         Does (.castAt rq at_) s fun t => Answered s.blk t rq 0x21 stStale 2 [] ∧ t.rd Reg.SYS_CAST_STAT_ERR = 5
           ∧ RegsBut errs s.blk t ∧ Keeps endParts s.blk t)
       ∧ (a.timed = true → s.blk.tooFar at_.toNat = false → stillAhead → s.blk.ns + 1000 ≤ c →
         Does (.castAt rq at_) s fun t => Answered s.blk t rq 0x21 stOk 0 (be 8 c)
           ∧ t.cst = { s.blk.cst with armed := some { a with b := c } }
           ∧ t.rd Reg.SYS_CAST_TARGET_LO_BOUNDARY = c % 2 ^ 32 ∧ t.rd Reg.SYS_CAST_TARGET_HI_BOUNDARY = c / 2 ^ 32 % 2 ^ 32
           ∧ RegsBut ([Reg.SYS_CAST_TARGET_LO_BOUNDARY, Reg.SYS_CAST_TARGET_HI_BOUNDARY] ++ endFields) s.blk t
           ∧ Keeps (.cst :: endParts) s.blk t))
     ∧ (AtTurn s.blk rq 0x20 → s.blk.cst.armed.isSome = true →
       Does (.cast rq) s fun t => Answered s.blk t rq 0x20 stLocked 0 [] ∧ RegsBut endFields s.blk t ∧ Keeps endParts s.blk t))
  ∧ ∀ (s : State) (rq : Req) (a : Armed) (until_ : Nat) (f : Field),
      (AtTurn s.blk rq 0x22 → s.blk.cst.resync = none → s.blk.cst.armed = none →
        Does (.maquetteDiscard rq) s fun t =>
          Answered s.blk t rq 0x22 stOk 0 (be 4 s.blk.cst.dirty.length ++ be 1 0 ++ zeros 3)
          ∧ t.cst.maq = s.blk.regs.crOnly ∧ t.cst.dirty = [] ∧ t.rd Reg.SYS_MAQ_STAT_DIRTY_WORDS = 0
          ∧ RegsBut (Reg.SYS_MAQ_STAT_DIRTY_WORDS :: endFields) s.blk t ∧ Keeps (.cst :: endParts) s.blk t)
      ∧ (AtTurn s.blk rq 0x22 → s.blk.cst.resync = none → s.blk.cst.armed = some a → s.blk.ns + 1000 ≤ a.b →
        Does (.maquetteDiscard rq) s fun t =>
          Answered s.blk t rq 0x22 stOk 0 (be 4 s.blk.cst.dirty.length ++ be 1 1 ++ zeros 3)
          ∧ t.cst.armed = none ∧ t.cst.dirty = [] ∧ t.rd Reg.SYS_CAST_STAT_STATE = 0 ∧ t.on Reg.SYS_MAQ_STAT_LOCKED = false
          ∧ Keeps (.cst :: endParts) s.blk t)
      ∧ (s.blk.cst.resync = some until_ → (s.blk.strk.phase = .begun → s.blk.strk.castHere = false) →
        Does .maquetteResyncEnd s fun t => t.cst.resync = none ∧ t.cst.resyncWords = [] ∧ t.rd Reg.SYS_CAST_STAT_STATE = 0
          ∧ RegsBut (Reg.SYS_CAST_STAT_STATE :: adjFields) s.blk t ∧ Keeps [.regs, .tb, .cst] s.blk t
          ∧ (s.blk.cst.resyncWords = [f.addr] → fieldsAt f.addr = some [f] → f.isCr = true →
              f.key ∉ adjFields.map Field.key → t.maq f = s.blk.rd f % 2 ^ f.width))

/-! ### The pair (R144 to R151) -/

/-- A pair frame that is whole and checks waits for the boundary, and one that does not is not used (R147); during the wait at
    start-up it sets the stroke going (R145).  A run of lost frames is reported once (R126).  A partner that does not come
    leaves the module to begin by itself with the token (R145), whose registers show it from the next boundary (R151). -/
def Obligations.PairLink : Prop :=
  ∀ (s : State) (bs : List Byte),
    let good := bs.length = 11076 ∧ field bs 0 1 = 1 ∧ crc32 (bs.take 11072) = field bs 11072 4
    (s.blk.pairUp = true → s.blk.injects 3 2 = false → good → s.blk.pair.waiting = false →
      Does (.pairFrameRx bs) s fun t => t.pair = { s.blk.pair with frame := some bs } ∧ RegsBut [] s.blk t
        ∧ Keeps [.evt, .pair] s.blk t)
    ∧ (s.blk.pairUp = true → ¬ good →
      Does (.pairFrameRx bs) s fun t => RegsBut [Reg.EVT_INJk_REMAIN 3] s.blk t ∧ Keeps [.regs, .evt] s.blk t)
    ∧ (s.blk.pairUp = false → Does (.pairFrameRx bs) s fun t => RegsBut [] s.blk t ∧ Keeps [] s.blk t)
    ∧ (s.blk.pairUp = true → s.blk.injects 3 2 = false → good → s.blk.pair.waiting = true →
      (field bs 1 1).testBit 0 = true →
      Does (.pairFrameRx bs) s fun t => t.strk.ticking = true ∧ t.strk.num = field bs 8 8 ∧ t.strk.b = field bs 16 8
        ∧ t.strk.next = field bs 16 8 + s.blk.rd Reg.SYS_STROKE_NS_PERIOD ∧ t.pair.waiting = false
        ∧ t.pair.frame = some bs ∧ t.pair.heard = max s.blk.pair.heard (field bs 4 4) ∧ RegsBut [] s.blk t
        ∧ Keeps [.evt, .strk, .boot, .pair] s.blk t)
    ∧ (s.blk.on Reg.SYS_PAIR_CFG_EN = true → s.blk.pair.lostRaised = false →
      s.blk.rd Reg.SYS_PAIR_CFG_LOSS ≤ s.blk.pair.missRun → Loggable s.blk { source := 135 } →
      Does .pairLost s fun t => Logs { source := 135 } s.blk t ∧ t.pair.lostRaised = true ∧ Keeps raiseParts s.blk t)
    ∧ (s.blk.pair.lostRaised = true → Does .pairLost s fun t => RegsBut [] s.blk t ∧ Keeps [] s.blk t)
    ∧ (s.blk.pair.waiting = true → s.blk.on Reg.PORT_FB_STAT_HOST = false →
      (s.blk.on Reg.PORT_FB_CFG_PIN_EN && s.blk.lv.fbPin) = false → (∀ p : Fin 8, (s.blk.port p).fallback = none) →
      Does .pairWaitTimeout s fun t => t.strk.ticking = true ∧ t.strk.num = 0 ∧ t.pair.waiting = false
        ∧ t.on Reg.SYS_PAIR_STAT_TOKEN = true ∧ t.rd Reg.SYS_PAIR_GEN_GEN = 1 ∧ t.pair.gen = 1
        ∧ t.shown Reg.SYS_PAIR_STAT_TOKEN = s.blk.shown Reg.SYS_PAIR_STAT_TOKEN
        ∧ t.shown Reg.SYS_PAIR_GEN_GEN = s.blk.shown Reg.SYS_PAIR_GEN_GEN
        ∧ s.blk.pair.waitFrom + s.blk.pairWait ≤ t.tb.up ∧ Keeps [.regs, .tb, .strk, .boot, .pair] s.blk t)

/-! ### Lanes (R179 to R205) -/

/-- Light and locks of a lane (R183, R185): light that is lost ends every lock and sends a lane in TRAIN to DETECT; a lane
    in ACTIVE that loses light leaves it for DETECT, one that loses block lock for TRAIN, or for DETECT without light, and
    LANE_DOWN is logged. What the manual leaves open here is as log entries 40 and 41 say. -/
def Obligations.LaneSignals : Prop :=
  ∀ (s : State) (l : Fin 192) (on : Bool),
    let st := s.blk.rd (Reg.LINK_STAT_STATE l)
    let locks := [Reg.LINK_STAT_BIT_LOCK l, Reg.LINK_STAT_BLOCK_LOCK l, Reg.LINK_STAT_FAR_LOCK l]
    let down : Occ := { source := 96, unitType := 2, idx := l, injected := (s.blk.lane l).inj }
    (st = 2 → Does (.lightLoss l) s fun t => t.rd (Reg.LINK_STAT_STATE l) = 1 ∧ t.on (Reg.LINK_STAT_LOS l) = true
        ∧ (∀ f ∈ locks, t.on f = false) ∧ (t.lane l).entered = s.blk.tb.up
        ∧ RegsBut (Reg.LINK_STAT_LOS l :: laneFields l) s.blk t ∧ Keeps [.regs, .lanes] s.blk t)
    ∧ (st ≠ 2 → st ≠ 4 → Does (.lightLoss l) s fun t => t.on (Reg.LINK_STAT_LOS l) = true ∧ (∀ f ∈ locks, t.on f = false)
        ∧ RegsBut (Reg.LINK_STAT_LOS l :: locks) s.blk t ∧ Keeps [.regs] s.blk t)
    ∧ (st = 4 → s.blk.populated l = true → Loggable s.blk down →
      let left (to_ : Nat) (t : Block) : Prop := t.rd (Reg.LINK_STAT_STATE l) = to_ ∧ Logs down s.blk t
        ∧ (t.lane l).entered = s.blk.tb.up ∧ (t.lane l).rpt = none ∧ t.on (Reg.LINK_STAT_BLOCK_LOCK l) = false
        ∧ t.rd (Reg.LINK_RETRAIN_CNT_COUNT l) = satNat 32 (s.blk.rd (Reg.LINK_RETRAIN_CNT_COUNT l) + 1)
        ∧ Keeps (.lanes :: raiseParts) s.blk t
      Does (.lightLoss l) s (left 1)
        ∧ Does (.blockLockLoss l) s (left (if s.blk.on (Reg.LINK_STAT_LOS l) then 1 else 2)))
    ∧ Does (.lightReturn l) s (fun t => t.on (Reg.LINK_STAT_LOS l) = false ∧ RegsBut [Reg.LINK_STAT_LOS l] s.blk t
        ∧ Keeps [.regs] s.blk t)
    ∧ Does (.bitLockChange l on) s (fun t =>
        t.on (Reg.LINK_STAT_BIT_LOCK l) = (on && st != 0 && !s.blk.on (Reg.LINK_STAT_LOS l))
        ∧ RegsBut [Reg.LINK_STAT_BIT_LOCK l] s.blk t ∧ Keeps [.regs] s.blk t)
    ∧ (st ∈ [2, 3, 4, 6] → s.blk.on (Reg.LINK_STAT_LOS l) = false →
      Does (.blockLockGain l) s fun t => t.on (Reg.LINK_STAT_BLOCK_LOCK l) = true
        ∧ RegsBut [Reg.LINK_STAT_BLOCK_LOCK l] s.blk t ∧ Keeps [.regs] s.blk t)
    ∧ (st ∈ [2, 3, 6] →
      Does (.blockLockLoss l) s fun t => t.on (Reg.LINK_STAT_BLOCK_LOCK l) = false ∧ t.on (Reg.LINK_STAT_FAR_LOCK l) = false
        ∧ t.rd (Reg.LINK_HDR_CNT_COUNT l) = satNat 32 (s.blk.rd (Reg.LINK_HDR_CNT_COUNT l) + 16)
        ∧ RegsBut [Reg.LINK_HDR_CNT_COUNT l, Reg.LINK_STAT_BLOCK_LOCK l, Reg.LINK_STAT_FAR_LOCK l] s.blk t
        ∧ Keeps [.regs] s.blk t)
    ∧ (s.blk.on (Reg.LINK_STAT_BLOCK_LOCK l) = true →
      Does (.markerRx l on) s fun t => t.on (Reg.LINK_STAT_FAR_LOCK l) = on ∧ RegsBut [Reg.LINK_STAT_FAR_LOCK l] s.blk t
        ∧ Keeps [.regs] s.blk t)

/-- Bring-up (R183 to R186): bursts of DETECT and QUIET keep their distance, a second answer leads to TRAIN, clean blocks
    start sixteen echoes, whose mean and spread are held and lead to CAPEX, and each timeout ends its state; a lane whose
    echoes spread or stay away, or whose third exchange fails, is REJECTED with its cause. What the manual leaves open here is
    as log entries 41, 43, 68 and 150 say. -/
def Obligations.LaneBringUp : Prop :=
  ∀ (s : State) (l : Fin 192) (loop : BitVec 32),
    let st := s.blk.rd (Reg.LINK_STAT_STATE l)
    let x := s.blk.lane l
    let rejected : Occ := { source := 98, unitType := 2, idx := l }
    let third : Occ := { rejected with injected := x.inj }
    let stays (cause : Nat) (t : Block) : Prop :=
      t.rd (Reg.LINK_STAT_STATE l) = 6 ∧ t.rd (Reg.LINK_STAT_REJECT l) = cause ∧ (t.lane l).entered = t.tb.up
    (st ∈ [1, 7] → s.blk.boot.configured = true → s.blk.rd Reg.CLK_EARLY_DOMAINS = 0 →
      Does (.beaconBurstSend l) s fun t => t.out = .beacon l :: s.blk.out ∧ (t.lane l).burstAt = some t.tb.up
        ∧ (t.lane l).burstOpen = true
        ∧ (∀ t0, x.burstAt = some t0 → t0 + (if st = 1 then 1024000000 else 64000000) ≤ t.tb.up)
        ∧ RegsBut adjFields s.blk t ∧ Keeps [.regs, .tb, .lanes, .out] s.blk t)
    ∧ (∀ t1, x.burstPrev = some t1 → s.blk.tb.up ≤ t1 + 110240000 →
      Does (.beaconAnswerRx l) s fun t => t.lane l = { x with burstPrev := none } ∧ RegsBut [] s.blk t ∧ Keeps [.lanes] s.blk t)
    ∧ (∀ t0, st = 7 → x.burstPrev = none → x.burstAt = some t0 → x.burstOpen = true → s.blk.tb.up ≤ t0 + 110240000 →
      Does (.beaconAnswerRx l) s fun t => t.lane l = { x with burstOpen := false, answered := x.answered + 1 }
        ∧ RegsBut [] s.blk t ∧ Keeps [.lanes] s.blk t)
    ∧ (∀ t0, st = 1 → x.burstPrev = none → x.burstAt = some t0 → x.burstOpen = true → s.blk.tb.up ≤ t0 + 110240000 →
      s.blk.on (Reg.LINK_STAT_LOS l) = false →
      (1 ≤ x.answered → Does (.beaconAnswerRx l) s fun t => t.rd (Reg.LINK_STAT_STATE l) = 2
        ∧ (t.lane l).entered = s.blk.tb.up ∧ RegsBut (laneFields l) s.blk t ∧ Keeps [.regs, .lanes] s.blk t)
      ∧ (x.answered = 0 → Does (.beaconAnswerRx l) s fun t => t.lane l = { x with burstOpen := false, answered := 1 }
        ∧ RegsBut [] s.blk t ∧ Keeps [.lanes] s.blk t))
    ∧ (st = 2 → x.echoing = false → x.ready = false → s.blk.on (Reg.LINK_STAT_BLOCK_LOCK l) = true →
      s.blk.on (Reg.LINK_STAT_FAR_LOCK l) = true → s.blk.boot.configured = true → s.blk.rd Reg.CLK_EARLY_DOMAINS = 0 →
      (x.fast = true → Does (.trainLocked l) s fun t => t.lane l = { x with ready := true } ∧ RegsBut [] s.blk t
        ∧ Keeps [.lanes] s.blk t)
      ∧ (x.fast = false → Does (.trainLocked l) s fun t =>
        t.lane l = { x with echoing := true, echoAt := s.blk.tb.up, loops := [] }
        ∧ t.out = (List.range 16).reverse.map (fun n => .echo l n) ++ s.blk.out ∧ RegsBut [] s.blk t
        ∧ Keeps [.lanes, .out] s.blk t))
    ∧ (st = 2 → Does (.trainTimeout l) s fun t => t.rd (Reg.LINK_STAT_STATE l) = 1 ∧ x.entered + 5000000000 ≤ t.tb.up
        ∧ RegsBut (laneFields l ++ adjFields) s.blk t ∧ Keeps [.regs, .tb, .lanes] s.blk t)
    ∧ (st = 2 → x.echoing = true → loop.toNat ≤ 25600 →
      let ls := x.loops ++ [loop.toNat]
      let spread := ls.foldl max 0 - ls.foldl min loop.toNat
      (x.loops.length < 15 → Does (.echoRspRx l (BitVec.ofNat 8 x.loops.length) loop) s fun t =>
        t.lane l = { x with loops := ls } ∧ RegsBut [] s.blk t ∧ Keeps [.lanes] s.blk t)
      ∧ (x.loops.length = 15 → spread ≤ 4 → Does (.echoRspRx l 15 loop) s fun t =>
        t.rd (Reg.LINK_STAT_STATE l) = 3 ∧ (t.lane l).loop = (rdiv ls.sum 16).toNat
        ∧ t.rd (Reg.LINK_DELAY_SPREAD l) = spread ∧ RegsBut (Reg.LINK_DELAY_SPREAD l :: laneFields l) s.blk t
        ∧ Keeps [.regs, .lanes] s.blk t)
      ∧ (x.loops.length = 15 → 4 < spread → Loggable s.blk rejected → Does (.echoRspRx l 15 loop) s fun t =>
        stays 5 t ∧ Logs rejected s.blk t ∧ Keeps (.lanes :: raiseParts) s.blk t))
    ∧ (let b := s.blk.untilUp (x.echoAt + (x.loops.length + 2) * usPs)
       st = 2 → x.echoing = true → Loggable b rejected →
      Does (.echoTimeout l) s fun t => stays 5 t ∧ Logs rejected b t ∧ x.echoAt + (x.loops.length + 2) * usPs ≤ t.tb.up
        ∧ Keeps (.tb :: .lanes :: raiseParts) s.blk t)
    ∧ (st = 3 → x.ready = false → x.attempts < 2 →
      Does (.capexTimeout l) s fun t => t.rd (Reg.LINK_STAT_STATE l) = 2 ∧ (t.lane l).attempts = x.attempts + 1
        ∧ x.entered + 10000000000 ≤ t.tb.up ∧ RegsBut (laneFields l ++ adjFields) s.blk t
        ∧ Keeps [.regs, .tb, .lanes] s.blk t)
    ∧ (let b := s.blk.untilUp (x.entered + 10000000000)
       st = 3 → x.ready = false → 2 ≤ x.attempts → Loggable b third →
      Does (.capexTimeout l) s fun t => stays 4 t ∧ Logs third b t ∧ x.entered + 10000000000 ≤ t.tb.up ∧ Keeps (.tb :: .lanes :: raiseParts) s.blk t)

/-- Frames from the cells (R187, R192, R196): a good report of the stroke in progress, received in full by 270 ns of it, is
    kept for it, a late one is not used, a frame with a bad CRC is counted and not used, the first CAPABILITY frame waits for
    its like, the second completes the exchange, and one that fails a check rejects the lane with the check's cause. What the
    manual leaves open here is as log entries 41 and 68 say. -/
def Obligations.LaneFrames : Prop :=
  ∀ (s : State) (l : Fin 192) (bs : List Byte),
    let st := s.blk.rd (Reg.LINK_STAT_STATE l)
    let x := s.blk.lane l
    let good := bs.length = 96 ∧ crc32 (bs.take 92) = field bs 92 4 ∧ field bs 0 1 = 1 ∧ s.blk.injects 2 l = false
    let delay := rdiv ((x.loop : Int) - (field bs 28 2 : Int)) 2
    let late := s.blk.strk.phase ≠ .begun ∨ (s.blk.strk.b + 270) * 2 ^ 32 < s.blk.tb.now.toNat
    (good → st = 4 → field bs 1 1 = 1 → field bs 4 8 = s.blk.strk.num → s.blk.strk.phase = .begun →
      s.blk.tb.now.toNat ≤ (s.blk.strk.b + 270) * 2 ^ 32 →
      Does (.reportFrameRx l bs) s fun t => t.lane l = { x with rpt := some (reportOf bs) }
        ∧ RegsBut [Reg.LINK_STAT_PORT l] s.blk t ∧ Keeps [.regs, .lanes] s.blk t)
    ∧ (good → st = 4 → late →
      Does (.reportFrameRx l bs) s fun t => t.lane l = x ∧ RegsBut [Reg.LINK_STAT_PORT l] s.blk t
        ∧ Keeps [.regs, .lanes] s.blk t)
    ∧ (bs.length = 96 → st ∈ [2, 3, 4, 6] → s.blk.injects 2 l = false → crc32 (bs.take 92) ≠ field bs 92 4 →
      ∀ c ∈ [Instr.reportFrameRx l bs, .capabilityFrameRx l bs],
      Does c s fun t => t.lane l = x
        ∧ t.rd (Reg.LINK_CRC_CNT_COUNT l) = satNat 32 (s.blk.rd (Reg.LINK_CRC_CNT_COUNT l) + 1)
        ∧ RegsBut [Reg.LINK_CRC_CNT_COUNT l] s.blk t ∧ Keeps [.regs, .lanes] s.blk t)
    ∧ (good → st = 3 → field bs 1 1 = 2 → x.ready = false → x.resultBy = none →
      (s.blk.capCause bs delay = none → x.cap ≠ some bs →
        Does (.capabilityFrameRx l bs) s fun t => t.lane l = { x with cap := some bs }
          ∧ t.rd (Reg.LINK_DELAY_DELAY l) = (clampI delay 0 4095).toNat
          ∧ RegsBut [Reg.LINK_STAT_PORT l, Reg.LINK_DELAY_DELAY l, Reg.LINK_DELAY_TURN l] s.blk t
          ∧ Keeps [.regs, .lanes] s.blk t)
      ∧ (s.blk.capCause bs delay = none → x.cap = some bs →
        s.blk.rd64 (Reg.CELL_SN_LO_SN l) (Reg.CELL_SN_HI_SN l) = field bs 12 8 →
        Does (.capabilityFrameRx l bs) s fun t => t.lane l = { x with ready := true, attempts := 0 }
          ∧ t.rd (Reg.LINK_CAP_ID_VENDOR l) = field bs 4 2 % 2 ^ 16 ∧ t.rd (Reg.LINK_CAP_ID_TYPE l) = field bs 6 2 % 2 ^ 16
          ∧ t.rd (Reg.LINK_CAP_TIMING_DT l) = field bs 20 2 % 2 ^ 16
          ∧ t.rd (Reg.LINK_CAP_TIMING_MINP l) = field bs 22 2 % 2 ^ 16 ∧ Keeps [.regs, .lanes] s.blk t)
      ∧ (∀ c, s.blk.capCause bs delay = some c → Loggable s.blk { source := 98, unitType := 2, idx := l } →
        Does (.capabilityFrameRx l bs) s fun t => t.rd (Reg.LINK_STAT_STATE l) = 6 ∧ t.rd (Reg.LINK_STAT_REJECT l) = c
          ∧ Logs { source := 98, unitType := 2, idx := l } s.blk t
          ∧ (t.lane l).entered = s.blk.tb.up ∧ Keeps (.lanes :: raiseParts) s.blk t))

/-- A test of a lane (R203, R204): the pattern follows the TEST blocks, the checker's sync counts the bits it compared,
    the test ends after its length, the lane is dark for 20 µs, and a result that does not come is a failure. What the
    manual leaves open here is as log entries 39, 126, 127 and 151 say. -/
def Obligations.LaneTests : Prop :=
  ∀ (s : State) (l : Fin 192) (errs : BitVec 32),
    let x := s.blk.lane l
    let bits := s.blk.rd64 (Reg.LINK_PRBS_BITS_LO_BITS l) (Reg.LINK_PRBS_BITS_HI_BITS l)
    let fin := x.patternAt + 80 * 2 ^ x.lenExp
    (s.blk.rd (Reg.LINK_STAT_STATE l) = 5 → x.pattern = false → x.dark = false →
      Does (.testPatternStart l) s fun t => t.lane l = { x with pattern := true, patternAt := x.entered + 337920 }
        ∧ x.entered + 337920 ≤ t.tb.up ∧ RegsBut adjFields s.blk t ∧ Keeps [.regs, .tb, .lanes] s.blk t)
    ∧ (x.pattern = true → x.syncAt = none →
      Does (.prbsSyncGain l) s fun t => t.on (Reg.LINK_TEST_STAT_SYNC l) = true
        ∧ t.lane l = { x with
            syncAt := some (if s.blk.on (Reg.LINK_TEST_STAT_SYNC_LOST l) = false ∧ s.blk.tb.up ≤ x.patternAt + 2 * usPs
              then x.patternAt else s.blk.tb.up - 5120) }
        ∧ RegsBut [Reg.LINK_TEST_STAT_SYNC l] s.blk t ∧ Keeps [.regs, .lanes] s.blk t)
    ∧ (∀ t0, x.syncAt = some t0 →
      Does (.prbsSyncLoss l) s fun t => t.on (Reg.LINK_TEST_STAT_SYNC l) = false
        ∧ t.on (Reg.LINK_TEST_STAT_SYNC_LOST l) = true ∧ t.lane l = { x with syncAt := none }
        ∧ t.rd (Reg.LINK_PRBS_ERR_COUNT l) = satNat 32 (s.blk.rd (Reg.LINK_PRBS_ERR_COUNT l) + 32)
        ∧ t.rd64 (Reg.LINK_PRBS_BITS_LO_BITS l) (Reg.LINK_PRBS_BITS_HI_BITS l)
            = (bits + (s.blk.tb.up - t0) / 80) % 2 ^ 64
        ∧ Keeps [.regs, .lanes] s.blk t)
    ∧ (x.pattern = true → x.lenExp ≠ 0 →
      (s.blk.populated l = true → Does (.testEnd l errs) s fun t => (t.lane l).pattern = false ∧ (t.lane l).dark = true
        ∧ (t.lane l).darkAt = fin ∧ (t.lane l).resultBy = some fin ∧ fin ≤ t.tb.up
        ∧ t.on (Reg.LINK_TEST_STAT_SYNC l) = false
        ∧ t.rd (Reg.LINK_PRBS_ERR_COUNT l) = satNat 32 (s.blk.rd (Reg.LINK_PRBS_ERR_COUNT l) + errs.toNat)
        ∧ Keeps [.regs, .tb, .lanes] s.blk t)
      ∧ (s.blk.populated l = false → Does (.testEnd l errs) s fun t => (t.lane l).pattern = false ∧ (t.lane l).dark = true
        ∧ (t.lane l).darkAt = fin ∧ (t.lane l).resultBy = none ∧ Keeps (.tb :: .lanes :: raiseParts) s.blk t))
    ∧ (x.pattern = false ∨ x.lenExp = 0 → Does (.testEnd l errs) s fun t => RegsBut [] s.blk t ∧ Keeps [] s.blk t)
    ∧ (x.dark = true → s.blk.lanesUp = true →
      (s.blk.boot.configured = true → s.blk.populated l = true → Does (.testDarkEnd l) s fun t => t.rd (Reg.LINK_STAT_STATE l) = 1
        ∧ x.darkAt + 20 * usPs ≤ t.tb.up ∧ RegsBut (laneFields l ++ adjFields) s.blk t
        ∧ Keeps [.regs, .tb, .lanes] s.blk t)
      ∧ ((s.blk.boot.configured && s.blk.populated l) = false → Does (.testDarkEnd l) s fun t => t.rd (Reg.LINK_STAT_STATE l) = 0
        ∧ (t.lane l).hostTest = false ∧ RegsBut (Reg.LINK_ENGINES_ON :: Reg.CLK_STAT_LANE_LOCK :: laneFields l ++ adjFields) s.blk t
        ∧ Keeps [.regs, .tb, .lanes] s.blk t))
    ∧ (∀ t0, x.resultBy = some t0 →
      let b := s.blk.untilUp (t0 + s.blk.rd Reg.CELL_TIMEOUT_LINK_MS * msPs)
      Loggable b { source := 100, unitType := 2, idx := l } →
      Does (.testResultTimeout l) s fun t => Logs { source := 100, unitType := 2, idx := l } b t
        ∧ (t.lane l).resultBy = none ∧ Keeps (.tb :: .lanes :: raiseParts) s.blk t)

/-! ### Events (R340 to R355) -/

/-- The event log (R82, R84, R348 to R351, R355): an occurrence takes the next number and is staged behind the others, the
    staged records are committed to the ring, EVENT_READ answers records from a number on, or the unacknowledged ones for
    0xFFFF_FFFF, EVENT_ACK acknowledges up to one, and INJECT sets a checker's count. What the manual leaves open here is as
    log entries 84, 85, 118, 122 and 158 say. -/
def Obligations.EventLog : Prop :=
  ∀ (s : State) (rq : Req) (first : BitVec 32) (m : BitVec 16) (k : BitVec 8) (idx n : BitVec 16),
    (∀ r, s.blk.released 6 = true → firstHeld s.blk.evt.held = some r → s.blk.evt.staged.length < stagingSize →
      let num := s.blk.rd Reg.EVT_NEXT_NUM
      Does .eventNumbering s fun t => t.evt.held = s.blk.evt.held.erase r
        ∧ t.evt.staged = s.blk.evt.staged ++ [{ r with num := num, at_ := t.tb.up, loss := s.blk.evt.loss }]
        ∧ t.rd Reg.EVT_NEXT_NUM = (num + 1) % 2 ^ 32 ∧ r.at_ + 2 * usPs ≤ t.tb.up
        ∧ RegsBut ([Reg.EVT_NEXT_NUM, Reg.EVT_OLDEST_NUM, Reg.EVT_UNACK_COUNT] ++ adjFields) s.blk t
        ∧ Keeps [.regs, .tb, .evt] s.blk t)
    ∧ ((s.blk.evt.held = [] ∨ s.blk.released 6 = false) → Does .eventNumbering s fun t => RegsBut [] s.blk t ∧ Keeps [] s.blk t)
    ∧ (s.blk.cores = true → s.blk.on Reg.DMA_STAT_HALTED = false → (∀ m ∈ s.blk.bulkReady, m = 8) →
      let shown := [Reg.EVT_OLDEST_NUM, Reg.EVT_UNACK_COUNT]
      Does .eventCommit s fun t => t.evt = { s.blk.evt with ring := ringAppend s.blk.evt.ring s.blk.evt.staged, staged := [] }
        ∧ (s.blk.evt.staged = [] → RegsBut shown s.blk t)
        ∧ (s.blk.evt.staged ≠ [] → t.on (Reg.DMA_CH_STAT_BUSY 8) = false
          ∧ t.rd (Reg.DMA_CH_CNT_COUNT 8) = (s.blk.rd (Reg.DMA_CH_CNT_COUNT 8) + 1) % 2 ^ 32)
        ∧ RegsBut ([Reg.DMA_CH_STAT_BUSY 8, Reg.DMA_CH_STAT_STOPPED 8, Reg.DMA_CH_CNT_COUNT 8, Reg.DMA_BG_WEAR_MAX_ERASE]
            ++ shown) s.blk t
        ∧ Keeps [.regs, .evt, .dma, .boot] s.blk t)
    ∧ (s.blk.on Reg.DMA_STAT_HALTED = true → Does .eventCommit s fun t => RegsBut [] s.blk t ∧ Keeps [] s.blk t)
    ∧ (AtTurn s.blk rq 0x60 → 1 ≤ m.toNat → m.toNat ≤ 43 →
      let asked := (s.blk.evt.log.filter fun r =>
        if first = 0xFFFFFFFF then unacked (s.blk.rd Reg.EVT_ACKED_NUM) r.num else notBefore r.num first.toNat).take m.toNat
      (s.blk.injects 4 0 = false → ∀ r rs, asked = r :: rs →
        Does (.eventRead rq first m) s fun t =>
          Answered s.blk t rq 0x60 stOk 0 (be 4 r.num ++ be 2 (rs.length + 1) ++ zeros 2 ++ (r :: rs).flatMap Rec.bytes)
          ∧ (s.blk.free % 2 = 0 ∨ (∀ q ∈ asked, q ∉ s.blk.evt.ring) → RegsBut endFields s.blk t
            ∧ Keeps (.draws :: endParts) s.blk t)
          ∧ Keeps (.draws :: .jv :: raiseParts) s.blk t)
      ∧ (asked = [] →
        Does (.eventRead rq first m) s fun t =>
          Answered s.blk t rq 0x60 stOk 0
            (be 4 (if first = 0xFFFFFFFF then s.blk.rd Reg.EVT_NEXT_NUM else first.toNat) ++ be 2 0 ++ zeros 2)
          ∧ RegsBut endFields s.blk t ∧ Keeps endParts s.blk t))
    ∧ (AtTurn s.blk rq 0x61 → unacked (s.blk.rd Reg.EVT_ACKED_NUM) first.toNat = true →
      Does (.eventAck rq first) s fun t => t.rd Reg.EVT_ACKED_NUM = first.toNat
        ∧ Answered s.blk t rq 0x61 stOk 0
            (be 4 ((s.blk.evt.ring.filter fun r => unacked first.toNat r.num).length % 2 ^ 32))
        ∧ RegsBut ([Reg.EVT_ACKED_NUM, Reg.EVT_OLDEST_NUM, Reg.EVT_UNACK_COUNT] ++ endFields) s.blk t
        ∧ Keeps endParts s.blk t)
    ∧ (AtTurn s.blk rq 0x63 → 1 ≤ n.toNat → k.toNat ≤ 4 → (k.toNat = 2 → idx.toNat ≤ 191) → (k.toNat = 3 → idx.toNat ≤ 2) →
      (k.toNat ∈ [2, 3] ∨ s.blk.rd Reg.SYS_CONV_STAT_STATE = 0) →
      Does (.inject rq k idx n) s fun t => Answered s.blk t rq 0x63 stOk 0 []
        ∧ t.rd (Reg.EVT_INJk_REMAIN k.toNat) = n.toNat
        ∧ t.rd (Reg.EVT_INJk_INDEX k.toNat) = (if k.toNat ∈ [2, 3] then idx.toNat else 0)
        ∧ RegsBut ([Reg.EVT_INJk_REMAIN k.toNat, Reg.EVT_INJk_INDEX k.toNat] ++ endFields) s.blk t ∧ Keeps endParts s.blk t)
    ∧ (AtTurn s.blk rq 0x63 → 1 ≤ n.toNat → k.toNat ∈ [0, 1, 4] → s.blk.rd Reg.SYS_CONV_STAT_STATE ≠ 0 →
      Does (.inject rq k idx n) s fun t => Answered s.blk t rq 0x63 stDenied 1 [] ∧ RegsBut endFields s.blk t
        ∧ Keeps endParts s.blk t)

/-- How a fenced unit comes back (R83, R344, R352 to R354): the end of its quiet period begins its way back, unless its
    cause is present; FAULT_CLEAR clears a latched source whose condition is gone and begins a leg's way back, and is
    denied while the condition lasts and for class HALT; a unit type that the manual does not list ends with BAD_ADDRESS.
    What the manual leaves open here is as log entries 64, 65, 66 and 119 say. -/
def Obligations.Recovery : Prop :=
  ∀ (s : State) (rq : Req) (p : Fin 8) (slot : Fin 192) (l : Fin 24) (k : Fin 256) (unit : BitVec 8) (idx : BitVec 16),
    let quiet (key : Nat) : Prop := (s.blk.recov key).fenced = true ∧ (s.blk.recov key).lockout = false
      ∧ (s.blk.recov key).manual = false ∧ (s.blk.recov key).returning = false ∧ s.blk.autoPolicy key = true
    let c := SMap.look 0 s.blk.evt.latchCls k
    (quiet (512 + p) → s.blk.rd (Reg.PORT_STAT_STATE p) ≠ 8 → s.blk.causePresent 4 p = false → s.blk.rd Reg.SYS_CONV_STAT_STATE < 5 →
      Does (.autoReadmit (.port p)) s fun t => (t.recov (512 + p)).returning = true ∧ (t.recov (512 + p)).auto = true
        ∧ (t.recov (512 + p)).fenced = true ∧ (s.blk.recov (512 + p)).quietEnd ≤ t.tb.up
        ∧ RegsBut adjFields s.blk t ∧ Keeps [.regs, .tb, .evt] s.blk t)
    ∧ (quiet (512 + p) → s.blk.rd (Reg.PORT_STAT_STATE p) ≠ 8 → s.blk.causePresent 4 p = true →
      Does (.autoReadmit (.port p)) s fun t => (t.recov (512 + p)).returning = false
        ∧ (t.recov (512 + p)).quietEnd = t.tb.up + s.blk.rd Reg.EVT_RECOV_CFG_QUIET_S * 1000000000000
        ∧ RegsBut adjFields s.blk t ∧ Keeps [.regs, .tb, .evt] s.blk t)
    ∧ (quiet slot → s.blk.holds = true → s.blk.causePresent 1 slot = false → s.blk.rd Reg.SYS_CONV_STAT_STATE < 5 →
      s.blk.rd (Reg.LINK_STAT_STATE slot) ≠ 5 →
      Does (.autoReadmit (.slot slot)) s fun t => (t.cell slot).reseat = true ∧ (t.recov slot).auto = true
        ∧ RegsBut adjFields s.blk t ∧ Keeps [.regs, .tb, .evt, .cells] s.blk t)
    ∧ (s.blk.rd (Reg.PORT_STAT_STATE p) = 8 → Does (.autoReadmit (.port p)) s fun t => RegsBut [] s.blk t ∧ Keeps [] s.blk t)
    ∧ ((s.blk.recov (256 + l)).fenced = false →
      Does (.autoReadmit (.leg l)) s fun t => RegsBut [] s.blk t ∧ Keeps [] s.blk t)
    ∧ (AtTurn s.blk rq 0x62 → idx.toNat = k → c ≠ 0 → c ≠ 4 → s.blk.latchCause k = false →
      s.blk.rd Reg.SYS_CONV_STAT_STATE ≠ 5 → s.blk.rd (Reg.EVT_SRCk_CLASS 13) = 0 →
      Does (.faultClear rq 6 idx) s fun t => Answered s.blk t rq 0x62 stOk 0 (be 1 6 ++ zeros 1 ++ be 2 k ++ be 4 1)
        ∧ t.on (Reg.EVT_SRCk_LATCHED k) = false ∧ SMap.look 0 t.evt.latchCls k = 0
        ∧ Logs { source := 13, unitType := 6, idx := k, code := 6 } s.blk t ∧ Keeps (.evt :: endParts) s.blk t)
    ∧ (AtTurn s.blk rq 0x62 → idx.toNat = k → c ≠ 0 → (c = 4 ∨ s.blk.latchCause k = true) →
      Does (.faultClear rq 6 idx) s fun t => Answered s.blk t rq 0x62 stDenied (if c = 4 then 2 else 1) []
        ∧ RegsBut endFields s.blk t ∧ Keeps endParts s.blk t)
    ∧ (AtTurn s.blk rq 0x62 → idx.toNat = l → l.val ≠ 20 → s.blk.on (Reg.PWM_LEG_STAT_FENCED l) = true →
      s.blk.unitHalted 3 l = false → s.blk.causePresent 3 l = false → s.blk.rd Reg.SYS_CONV_STAT_STATE ≠ 5 →
      s.blk.rd (Reg.EVT_SRCk_CLASS 13) = 0 →
      Does (.faultClear rq 3 idx) s fun t => Answered s.blk t rq 0x62 stOk 0 (be 1 3 ++ zeros 1 ++ be 2 l ++ be 4 1)
        ∧ (t.recov (256 + l)).returning = true ∧ (t.recov (256 + l)).hist = [] ∧ (t.recov (256 + l)).lockout = false
        ∧ t.on (Reg.PWM_LEG_STAT_LATCHED l) = false ∧ (∀ g, groupOf l = some g → t.bit Reg.PWM_DIAG_STAT_BUSY g = true)
        ∧ Keeps (.evt :: .lv :: endParts) s.blk t)
    ∧ (AtTurn s.blk rq 0x62 → unit.toNat ≠ 0 → clearable unit.toNat ≤ idx.toNat →
      Does (.faultClear rq unit idx) s fun t => Answered s.blk t rq 0x62 stBadAddress 0 [] ∧ RegsBut endFields s.blk t
        ∧ Keeps endParts s.blk t)

/-! ### Power, supplies and temperatures (R381 to R395) -/

/-- LATENCY_TOL moves between P0 and P1 at once, begins a move to a lower state and waits for it, is only stored while the
    converter is FAULTED or HALTED, and is denied where it needs the converter OFF and it is not, or an image or a cast would
    be lost (R85, R388 to R391); a move ends with its reply; WAKE_N starts the
    module out of P4 (R396). What the manual leaves open here is as log entry 17 says. -/
def Obligations.PowerStates : Prop :=
  ∀ (s : State) (rq : Req) (tol : BitVec 32),
    let st := s.blk.rd Reg.SYS_PWR_STAT_STATE
    let off := s.blk.rd Reg.SYS_CONV_STAT_STATE = 0
    (AtTurn s.blk rq 0x70 → ¬ off → 200 ≤ tol.toNat →
      Does (.latencyTol rq tol) s fun t => Answered s.blk t rq 0x70 stDenied 1 [] ∧ RegsBut endFields s.blk t
        ∧ Keeps endParts s.blk t)
    ∧ (AtTurn s.blk rq 0x70 → off → 2000000 ≤ tol.toNat → (s.blk.cst.armed.isSome = true ∨ s.blk.boot.staged ≠ []) →
      Does (.latencyTol rq tol) s fun t => Answered s.blk t rq 0x70 stDenied 2 [] ∧ RegsBut endFields s.blk t
        ∧ Keeps endParts s.blk t)
    ∧ (AtTurn s.blk rq 0x70 → off → st = 0 → s.blk.pow.target = none → 5 ≤ tol.toNat → tol.toNat < 200 →
      Does (.latencyTol rq tol) s fun t => Answered s.blk t rq 0x70 stOk 0 (powerReply 1)
        ∧ t.rd Reg.SYS_PWR_STAT_STATE = 1 ∧ t.rd Reg.SYS_PWR_TOL_TOL_US = tol.toNat
        ∧ RegsBut ([Reg.SYS_PWR_STAT_STATE, Reg.SYS_PWR_TOL_TOL_US] ++ endFields) s.blk t ∧ Keeps endParts s.blk t)
    ∧ (AtTurn s.blk rq 0x70 → off → st < 2 → s.blk.pow.target = none → 200 ≤ tol.toNat → tol.toNat < 2000000 →
      Does (.latencyTol rq tol) s fun t => Waits s.blk t .power
        ∧ t.pow = { s.blk.pow with target := some (if tol.toNat < 20000 then 2 else 3), moveAt := s.blk.tb.up }
        ∧ t.on Reg.SYS_PWR_STAT_MOVING = true ∧ t.rd Reg.SYS_PWR_STAT_STATE = st
        ∧ RegsBut [Reg.SYS_PWR_STAT_MOVING, Reg.SYS_PWR_TOL_TOL_US] s.blk t ∧ Keeps [.regs, .jv, .pow] s.blk t)
    ∧ (∀ q r, st < 2 → s.blk.pow.target = some 2 → s.blk.jv.queue = q :: r → q.wait = .power →
      Does .powerStateMoveDone s fun t => t.rd Reg.SYS_PWR_STAT_STATE = 2 ∧ t.on Reg.SYS_PWR_STAT_MOVING = false
        ∧ t.pow.target = none ∧ t.jv.queue = r ∧ Replied t q.req q.op.toNat stOk 0 (powerReply 2)
        ∧ Keeps [.regs, .jv, .lanes, .pow, .out] s.blk t)
    ∧ (s.blk.pow.target = none → Does .powerStateMoveDone s fun t => RegsBut [] s.blk t ∧ Keeps [] s.blk t)
    ∧ (st = 4 → Does .wakeN s fun t => t.rd Reg.SYS_PWR_STAT_STATE = 0 ∧ t.on Reg.RST_CAUSE_WAKE = true
        ∧ t.on Reg.RST_CAUSE_POR = false ∧ t.rd Reg.RST_COUNT_STARTS = satNat 16 (s.blk.rd Reg.RST_COUNT_STARTS + 1)
        ∧ t.pow = { s.blk.pow with moveAt := s.blk.tb.up, waking := true } ∧ Keeps [.regs, .pow] s.blk t)
    ∧ (AtTurn s.blk rq 0x70 → 5 ≤ s.blk.rd Reg.SYS_CONV_STAT_STATE → s.blk.pow.target = none → tol.toNat < 200 →
      Does (.latencyTol rq tol) s fun t => Answered s.blk t rq 0x70 stOk 0 (powerReply st)
        ∧ t.rd Reg.SYS_PWR_TOL_TOL_US = tol.toNat ∧ RegsBut (Reg.SYS_PWR_TOL_TOL_US :: endFields) s.blk t
        ∧ Keeps endParts s.blk t)
    ∧ (AtTurn s.blk rq 0x70 → off → st = 1 → s.blk.pow.target = none → tol.toNat < 5 →
      Does (.latencyTol rq tol) s fun t => Answered s.blk t rq 0x70 stOk 0 (powerReply 0)
        ∧ t.rd Reg.SYS_PWR_STAT_STATE = 0 ∧ t.rd Reg.SYS_PWR_TOL_TOL_US = tol.toNat ∧ t.rd Reg.SYS_PWR_EXIT_US = 0
        ∧ RegsBut ([Reg.SYS_PWR_STAT_STATE, Reg.SYS_PWR_TOL_TOL_US, Reg.SYS_PWR_EXIT_US] ++ endFields) s.blk t
        ∧ Keeps endParts s.blk t)
    ∧ (st ≠ 4 → Does .wakeN s fun t => RegsBut [] s.blk t ∧ Keeps [] s.blk t)

/-- A sag of the supply moves the sag level, and the clock with it, up on the condition and its persistence and down one
    level at a time, and each move is logged (R393; SUPPLY_SAG of class INFO, as another class acts as well). One reading
    of a millisecond (R381 to R385; the events of class INFO and no hot spot at its shutdown level): each sensor shows
    what it read and each hot spot the warmer of its two, with its levels; a hot spot whose sensors disagree is marked and
    logged. What the manual leaves open here is as log entry 17 says. -/
def Obligations.SagAndTemperatures : Prop :=
  (∀ (s : State) (rail : Rail), s.blk.rd (Reg.EVT_SRCk_CLASS 36) = 0 →
     let l := s.blk.rd Reg.SYS_PWR_STAT_SAG
     let at_ (k : Nat) (t : Block) : Prop := t.rd Reg.SYS_PWR_STAT_SAG = k ∧ t.rd Reg.CLK_STAT_MGMT_RATE = k
     (l = 0 → Loggable s.blk { source := 36, code := 1 } →
       Does (.supplySag rail) s fun t => at_ 1 t ∧ Logs { source := 36, code := 1 } s.blk t ∧ t.pow.sagAt = s.blk.tb.up
         ∧ t.rd Reg.SYS_PWR_SAG_CNT_COUNT = satNat 32 (s.blk.rd Reg.SYS_PWR_SAG_CNT_COUNT + 1)
         ∧ Keeps [.regs, .evt, .pow] s.blk t)
     ∧ (l ≠ 0 → Does (.supplySag rail) s fun t => t.pow.sagAt = s.blk.tb.up ∧ RegsBut [] s.blk t ∧ Keeps [.pow] s.blk t)
     ∧ (let b := s.blk.untilUp (s.blk.pow.sagAt + 5 * msPs)
        l = 1 → Loggable b { source := 36, code := 2 } →
       Does .sagLevel2 s fun t => at_ 2 t ∧ Logs { source := 36, code := 2 } b t
         ∧ s.blk.pow.sagAt + 5 * msPs ≤ t.tb.up ∧ Keeps [.regs, .tb, .evt] s.blk t)
     ∧ (l ≠ 1 → Does .sagLevel2 s fun t => RegsBut [] s.blk t ∧ Keeps [] s.blk t)
     ∧ (l ∈ [1, 2] → Loggable s.blk { source := 36, code := l - 1 } →
       Does .sagRecover s fun t => at_ (l - 1) t ∧ Logs { source := 36, code := l - 1 } s.blk t ∧ Keeps [.regs, .evt] s.blk t)
     ∧ (l = 0 → Does .sagRecover s fun t => RegsBut [] s.blk t ∧ Keeps [] s.blk t))
  ∧ ∀ (s : State) (rs : List SensorReading) (h : Fin 10) (on : Bool),
      let o : Occ := { source := 236, unitType := 14, idx := 2 * h, code := 2 }
      let temp (k : Nat) : Int := (rs[k]?.map readingTemp).getD (s.blk.rdS (Reg.THRM_SENSk_TEMP k))
      let spot (k : Nat) : Int := max (temp (2 * k)) (temp (2 * k + 1))
      (s.blk.rd (Reg.EVT_SRCk_CLASS 233) = 0 → s.blk.rd (Reg.EVT_SRCk_CLASS 234) = 0 → s.blk.rd (Reg.EVT_SRCk_CLASS 236) = 0 →
        rs.length = 20 → (∀ k : Fin 10, spot k < s.blk.threshold Reg.THRM_OPT_SHUTDOWN_C) →
        Does (.thermalRead rs) s fun t => (∀ k : Fin 20, t.rdS (Reg.THRM_SENSk_TEMP k) = temp k)
          ∧ (∀ k : Fin 10, t.rdS (Reg.THRM_SPOTh_TEMP k) = spot k
            ∧ t.on (Reg.THRM_SPOTh_WARN k)
                = levelNow (s.blk.on (Reg.THRM_SPOTh_WARN k)) (spot k) (s.blk.threshold Reg.THRM_OPT_WARN_C)
            ∧ t.on (Reg.THRM_SPOTh_THROTTLE k)
                = levelNow (s.blk.on (Reg.THRM_SPOTh_THROTTLE k)) (spot k) (s.blk.threshold Reg.THRM_OPT_THROTTLE_C))
          ∧ t.rdS Reg.THRM_STAT_TMAX = t.rdS (Reg.THRM_SPOTh_TEMP t.hottest) ∧ Keeps [.regs, .evt] s.blk t)
      ∧ ((on = false ∨ s.blk.on (Reg.THRM_SPOTh_DISAGREE h) = true) →
        Does (.sensorDisagree h on) s fun t => t.on (Reg.THRM_SPOTh_DISAGREE h) = on
          ∧ RegsBut [Reg.THRM_SPOTh_DISAGREE h] s.blk t ∧ Keeps [.regs] s.blk t)
      ∧ (s.blk.on (Reg.THRM_SPOTh_DISAGREE h) = false → Loggable s.blk o →
        Does (.sensorDisagree h true) s fun t => Logs o s.blk t ∧ Keeps raiseParts s.blk t)

/-! ### Cells (R207 to R232) -/

/-- A probing step or a charge that takes too long fences the cell with its cause (R210, R214, R232); a cell whose charge
    has held joins, and one that has joined is in service, at a carrier boundary (R215, R216); a swap begins by the
    interval test (R225); a block that is decided goes out on every active lane (R36). What the manual leaves open here is
    as log entries 28, 35 and 48 say. -/
def Obligations.CellService : Prop :=
  ∀ (s : State) (n : Fin 192) (k : Fin 3),
    let c := s.blk.cell n
    let b1 := s.blk.untilUp (c.entered + s.blk.rd Reg.CELL_TIMEOUT_LINK_MS * msPs)
    let b2 := s.blk.untilUp (c.entered + s.blk.rd Reg.CELL_TIMEOUT_CHG_MS * msPs)
    (s.blk.svc n = 2 → s.blk.holds = true → c.probe ∈ [.link1, .link2, .reports] → c.fence = none →
      Loggable b1 { source := 102, unitType := 1, idx := n } →
      Does (.probeStepTimeout n) s fun t => Logs { source := 102, unitType := 1, idx := n } b1 t
        ∧ (t.cell n).fence = some 5 ∧ (t.recov n).fenced = true
        ∧ c.entered + s.blk.rd Reg.CELL_TIMEOUT_LINK_MS * msPs ≤ t.tb.up ∧ Keeps (.tb :: raiseParts) s.blk t)
    ∧ (s.blk.svc n = 3 → s.blk.holds = true → c.fence = none → Loggable b2 { source := 103, unitType := 1, idx := n } →
      Does (.chargingTimeout n) s fun t => Logs { source := 103, unitType := 1, idx := n } b2 t
        ∧ (t.cell n).fence = some 6 ∧ (t.recov n).fenced = true
        ∧ c.entered + s.blk.rd Reg.CELL_TIMEOUT_CHG_MS * msPs ≤ t.tb.up ∧ Keeps (.tb :: raiseParts) s.blk t)
    ∧ (s.blk.holds = true → s.blk.atBoundary = true → s.blk.strk.carrier = true → s.blk.running = true →
      s.blk.strk.untimed = false → s.blk.runState ≠ 0 → c.fence = none →
      (s.blk.svc n = 3 → s.blk.rd Reg.CELL_GCFG_HOLD ≤ c.run →
        Does (.chargeHoldMet n) s fun t => t.svc n = 4 ∧ (t.cell n).entered = s.blk.tb.up ∧ Keeps [.regs, .cells] s.blk t)
      ∧ (s.blk.svc n = 4 → s.blk.rd (Reg.CELL_SLOT_STAT_JOIN_CNT n) = 64 → 2 ≤ c.run →
        Does (.joiningComplete n) s fun t => t.svc n = 5 ∧ (t.cell n).entered = s.blk.tb.up
          ∧ Keeps [.regs, .cells] s.blk t))
    ∧ (s.blk.atBoundary = false → ∀ i ∈ [Instr.chargeHoldMet n, .joiningComplete n],
      Does i s fun t => RegsBut [] s.blk t ∧ Keeps [] s.blk t)
    ∧ (∀ spare out, s.blk.holds = true → s.blk.runState = 3 → s.blk.on (Reg.CELL_ARM_SWAP_ACTIVE k) = false →
      (∀ i : Fin 64, s.blk.svc (i + 64 * k) ≠ 2) → s.blk.armBusy k = false → s.blk.strk.untimed = false →
      s.blk.sagging k = some spare → s.blk.mostWorn (s.blk.activesOf k) = some out →
      Does (.spareRotation k) s fun t => t.on (Reg.CELL_ARM_SWAP_ACTIVE k) = true
        ∧ t.rd (Reg.CELL_ARM_SWAP_IN_SLOT k) = spare % 2 ^ 8 ∧ t.rd (Reg.CELL_ARM_SWAP_OUT_SLOT k) = out % 2 ^ 8
        ∧ RegsBut [Reg.CELL_ARM_SWAP_ACTIVE k, Reg.CELL_ARM_SWAP_IN_SLOT k, Reg.CELL_ARM_SWAP_OUT_SLOT k] s.blk t
        ∧ Keeps [.regs] s.blk t)
    ∧ (s.blk.evt.blockDue = true → s.blk.boot.configured = true → s.blk.rd Reg.CLK_EARLY_DOMAINS = 0 →
      Does .blockDecision s fun t => t.evt = { s.blk.evt with blockDue := false }
        ∧ (∀ l : Fin 192, s.blk.rd (Reg.LINK_STAT_STATE l) = 4 → .block l ∈ t.out ∧ (t.lane l).cut = true
            ∧ (t.lane l).blockedAt = some s.blk.strk.num)
        ∧ RegsBut [] s.blk t ∧ Keeps [.evt, .lanes, .out] s.blk t)
    ∧ (s.blk.evt.blockDue = false → Does .blockDecision s fun t => RegsBut [] s.blk t ∧ Keeps [] s.blk t)

/-- The patina ledger (R229, R230): the cores compute every wear index, a commit begins, one that is done makes flash hold
    the streams and clears FAIL, and one that fails sets FAIL, leaves flash as it was and is logged (LEDGER_COMMIT_FAIL of class
    INFO, as another class acts as well); channel 9, alone ready for the bus, is busy until then (R422). What the manual leaves
    open here is as log entries 48, 129 and 143 say. -/
def Obligations.PatinaLedger : Prop :=
  ∀ (s : State) (n : Fin 192) (r : Fin 26) (ok : Bool),
    let channel := [Reg.DMA_CH_STAT_BUSY 9, Reg.DMA_CH_STAT_STOPPED 9]
    let count := s.blk.rd (Reg.DMA_CH_CNT_COUNT 9) % 2 ^ 32
    let moved (ok : Bool) : Nat := if ok && s.blk.on (Reg.DMA_CH_STAT_BUSY 9) then (count + 1) % 2 ^ 32 else count
    (s.blk.cores = true → Does .wearIndexCompute s fun t => t.rd (Reg.CELL_WI_WI n) = s.blk.wearIndex n
        ∧ t.rd (Reg.CELL_LEG_WIr_WI r) = s.blk.wearIndex (192 + r) ∧ Keeps [.regs] s.blk t)
    ∧ (s.blk.cores = true → s.blk.on Reg.DMA_STAT_HALTED = false →
      Does .ledgerCommit s fun t => t.cells = { s.blk.cells with committing := true }
        ∧ t.on (Reg.DMA_CH_STAT_BUSY 9) = true ∧ t.on (Reg.DMA_CH_STAT_STOPPED 9) = false
        ∧ RegsBut channel s.blk t ∧ Keeps [.regs, .cells, .dma] s.blk t)
    ∧ (s.blk.cells.committing = true → (∀ m ∈ s.blk.bulkReady, m = 9) →
      Does (.ledgerCommitDone true) s fun t => t.on Reg.CELL_LDG_STAT_FAIL = false
        ∧ t.cells.committing = false ∧ t.cells.flash = s.blk.cells.streams ∧ t.cells.streams = s.blk.cells.streams
        ∧ t.cells.committedAt = s.blk.tb.up ∧ t.cells.flashRegs = t.regs.ledger ∧ t.cells.cells = s.blk.cells.cells
        ∧ t.on (Reg.DMA_CH_STAT_BUSY 9) = false ∧ t.rd (Reg.DMA_CH_CNT_COUNT 9) = moved true
        ∧ RegsBut ([Reg.CELL_LDG_STAT_FAIL, Reg.DMA_CH_CNT_COUNT 9, Reg.DMA_BG_WEAR_MAX_ERASE] ++ channel) s.blk t
        ∧ Keeps [.regs, .cells, .dma, .boot] s.blk t)
    ∧ (s.blk.cells.committing = true → (∀ m ∈ s.blk.bulkReady, m = 9) → s.blk.rd (Reg.EVT_SRCk_CLASS 11) = 0 →
      Loggable s.blk { source := 11 } →
      Does (.ledgerCommitDone false) s fun t => t.on Reg.CELL_LDG_STAT_FAIL = true
        ∧ t.cells = { s.blk.cells with committing := false } ∧ Logs { source := 11 } s.blk t
        ∧ t.on (Reg.DMA_CH_STAT_BUSY 9) = false ∧ t.rd (Reg.DMA_CH_CNT_COUNT 9) = moved false
        ∧ Keeps [.regs, .evt, .cells, .dma] s.blk t)
    ∧ (s.blk.cells.committing = false →
      Does (.ledgerCommitDone ok) s fun t => RegsBut [] s.blk t ∧ Keeps [] s.blk t)

/-! ### Images (R86 to R88, R412 to R419) -/

/-- Image commands (R86 to R88): the first data of an image replaces what was staged and waits for its programming,
    further data joins it, a gap is denied, and what stood in the spare copy is gone; programming ends with the length
    staged, or with TIMEOUT and nothing staged; only an image that is staged is checked, and only one that verified is
    activated, which waits until the boot record is written and puts it in the spare copy; ATTEST answers the signed report.
    Channel 11 is busy from the command to its end, and stands still while the engine is halted (R422, R432). What the manual
    leaves open here is as log entries 7, 8, 123, 143 and 158 say. -/
def Obligations.ImageCommands : Prop :=
  ∀ (s : State) (rq : Req) (ty : ImgType) (off : Word) (data nonce : List Byte),
    let n : BitVec 8 := BitVec.ofNat 8 (imgNum ty)
    let old := ((s.blk.stagedOf ty).map (·.bytes)).getD []
    let put (m : SMap Img) (x : Option Img) : SMap Img :=
      x.elim (SMap.erase (s.blk.spareOf ty) m) fun i => SMap.insert (s.blk.spareOf ty) i (SMap.erase (s.blk.spareOf ty) m)
    let spare (x : Option Img) : SMap Img × SMap Img × SMap Img :=
      (if ty = .firmware then put s.blk.boot.fw x else s.blk.boot.fw,
       if ty = .option then put s.blk.boot.opt x else s.blk.boot.opt,
       if ty = .maquette then put s.blk.boot.cfg x else s.blk.boot.cfg)
    let busy (t : Block) : Prop := s.blk.on Reg.DMA_STAT_HALTED = false → t.on (Reg.DMA_CH_STAT_BUSY 11) = true
    let ended (t : Block) : Prop := t.on (Reg.DMA_CH_STAT_BUSY 11) = false
    let alone := s.blk.on Reg.DMA_STAT_HALTED = false ∧ ∀ m ∈ s.blk.bulkReady, m = 11
    let channel := [Reg.DMA_CH_STAT_BUSY 11, Reg.DMA_CH_STAT_STOPPED 11]
    (AtTurn s.blk rq 0x80 → imageDataFits data.length = true →
      Does (.imageWrite rq n 0 data) s fun t => Waits s.blk t (.program ty) ∧ t.stagedOf ty = some (rawImage data)
        ∧ t.images = spare none ∧ busy t ∧ Keeps [.regs, .jv, .boot, .dma] s.blk t)
    ∧ (AtTurn s.blk rq 0x80 → imageDataFits data.length = true → off.toNat = old.length → 0 < old.length →
      off.toNat + data.length ≤ imgLimit ty →
      Does (.imageWrite rq n off data) s fun t => Waits s.blk t (.program ty)
        ∧ t.stagedOf ty = some (rawImage (old ++ data)) ∧ t.images = spare none ∧ busy t
        ∧ Keeps [.regs, .jv, .boot, .dma] s.blk t)
    ∧ (AtTurn s.blk rq 0x80 → imageDataFits data.length = true → off.toNat ≠ 0 → off.toNat ≠ old.length →
      Does (.imageWrite rq n off data) s fun t => Answered s.blk t rq 0x80 stDenied 1 [] ∧ RegsBut endFields s.blk t
        ∧ Keeps endParts s.blk t)
    ∧ (∀ q r, s.blk.jv.queue = q :: r → q.wait = .program ty →
      (alone → Does (.imageProgramDone ty) s fun t => t.jv.queue = r
        ∧ Replied t q.req q.op.toNat stOk 0 (be 1 (imgNum ty) ++ zeros 3 ++ be 4 old.length)
        ∧ t.images = s.blk.images ∧ ended t ∧ RegsBut (Reg.DMA_CH_CNT_COUNT 11 :: channel ++ endFields) s.blk t
        ∧ Keeps (.dma :: endParts) s.blk t)
      ∧ (s.blk.on Reg.DMA_STAT_HALTED = true →
        Does (.imageProgramDone ty) s fun t => RegsBut [] s.blk t ∧ Keeps [] s.blk t)
      ∧ (Does (.imageWriteTimeout ty) s fun t => t.jv.queue = r ∧ Replied t q.req q.op.toNat stTimeout 0 []
        ∧ t.stagedOf ty = none ∧ t.images = s.blk.images ∧ ended t ∧ Keeps (.boot :: .dma :: endParts) s.blk t))
    ∧ (AtTurn s.blk rq 0x81 → s.blk.stagedOf ty ≠ none →
      Does (.imageVerify rq n) s fun t => Waits s.blk t (.verify ty) ∧ busy t ∧ RegsBut channel s.blk t
        ∧ Keeps [.regs, .jv, .dma] s.blk t)
    ∧ (AtTurn s.blk rq 0x81 → s.blk.stagedOf ty = none →
      Does (.imageVerify rq n) s fun t => Answered s.blk t rq 0x81 stDenied 1 [] ∧ RegsBut endFields s.blk t
        ∧ Keeps endParts s.blk t)
    ∧ (∀ q r i, s.blk.jv.queue = q :: r → q.wait = .verify ty → s.blk.stagedOf ty = some i →
      s.blk.injects 4 0 = false → alone →
      let facts := imageFacts ty i.bytes
      let d := s.blk.imageCheck ty facts
      Does (.imageVerifyDone ty) s fun t => t.jv.queue = r ∧ t.images = s.blk.images ∧ ended t
        ∧ Keeps (.dma :: .boot :: .jv :: .draws :: raiseParts) s.blk t
        ∧ (d = 0 ∧ t.stagedOf ty = some { facts with verified := true }
            ∧ Replied t q.req q.op.toNat stOk 0 (be 1 (imgNum ty) ++ be 1 facts.key ++ zeros 2 ++ be 4 facts.size
                ++ be 64 facts.digest.toNat)
          ∨ d ≠ 0 ∧ (t.stagedOf ty).map (·.verified) = some false ∧ Replied t q.req q.op.toNat stSigFail d []))
    ∧ (∀ i, AtTurn s.blk rq 0x82 → s.blk.stagedOf ty = some i → i.verified = true → s.blk.cst.armed = none →
      s.blk.cst.resync = none →
      Does (.imageActivate rq n) s fun t => Waits s.blk t (.activate ty) ∧ busy t ∧ RegsBut channel s.blk t
        ∧ Keeps [.regs, .jv, .dma] s.blk t)
    ∧ (∀ i, AtTurn s.blk rq 0x82 → ty = .maquette → s.blk.stagedOf ty = some i → i.verified = true →
      s.blk.cst.armed ≠ none → s.blk.cst.resync = none →
      Does (.imageActivate rq n) s fun t => Answered s.blk t rq 0x82 stLocked 0 [] ∧ RegsBut endFields s.blk t
        ∧ Keeps endParts s.blk t)
    ∧ (∀ q r i, s.blk.jv.queue = q :: r → q.wait = .activate ty → s.blk.stagedOf ty = some i → alone →
      Does (.imageProgramDone ty) s fun t => t.jv.queue = r ∧ ended t
        ∧ Replied t q.req q.op.toNat stOk 0 (be 1 (imgNum ty) ++ zeros 3) ∧ t.stagedOf ty = none
        ∧ t.images = spare (some i) ∧ Keeps (.cst :: .boot :: .dma :: endParts) s.blk t)
    ∧ (AtTurn s.blk rq 0x82 → s.blk.cst.resync = none → (∀ i, s.blk.stagedOf ty = some i → i.verified = false) →
      Does (.imageActivate rq n) s fun t => Answered s.blk t rq 0x82 stDenied 1 [] ∧ t.images = s.blk.images
        ∧ RegsBut endFields s.blk t ∧ Keeps endParts s.blk t)
    ∧ (AtTurn s.blk rq 0x83 → 16 ≤ nonce.length → nonce.length ≤ 64 →
      Does (.attest rq nonce) s fun t => Answered s.blk t rq 0x83 stOk 0 (s.blk.reportBody nonce
          ++ be 114 (Config.identitySign (s.blk.reportBody nonce)).toNat ++ zeros 2)
        ∧ RegsBut endFields s.blk t ∧ Keeps endParts s.blk t)

/-! ### Resets and start-up (R396 to R411) -/

/-- Causes of resets (R397 to R400, R444): a pin, a brown-out, the stroke watch and the start timeout decide a system
    reset, whose first cause stands; a watchdog and a lockstep mismatch reset the cores; damage to critical state resets
    the module and damage elsewhere is logged. What the manual leaves open here is as log entry 15 says. -/
def Obligations.ResetCauses : Prop :=
  ∀ (s : State) (r : SramRegion) (addr : Word),
    let dueWith (cause : Nat) (t : Block) : Prop := t.boot.due = some (s.blk.boot.due.getD { cause := cause })
    let watch := s.blk.strk.watchFrom + ((2 * max (s.blk.rd Reg.SYS_STROKE_NS_PERIOD) s.blk.strk.watchP * 1000) + 10 * usPs)
    let core (k : Nat) (t : Block) : Prop := t.boot.coreReset = true ∧ t.jv.queue = [] ∧ t.jv.cache = []
      ∧ t.rd Reg.RST_CORE_CAUSE_CAUSE = 2 ^ k ∧ t.on Reg.SYS_CMD_STAT_RESTARTED = true ∧ t.boot.due = s.blk.boot.due
    let sram : Occ := { source := 3, extra := addr.toNat }
    let parity : Occ := { source := 4, extra := addr.toNat }
    (s.blk.released 0 = true →
      (Does .resetNPin s fun t => dueWith 2 t ∧ RegsBut [] s.blk t ∧ Keeps [.boot] s.blk t)
      ∧ (Does .brownout s fun t => dueWith 1 t ∧ 2 ≤ t.rd Reg.SAFE_STAT_STATE
        ∧ RegsBut [Reg.SAFE_STAT_STATE, Reg.SAFE_STAT_CAUSE] s.blk t ∧ Keeps [.regs, .boot, .safe] s.blk t))
    ∧ (s.blk.released 0 = false → ∀ c ∈ [Instr.resetNPin, .brownout], Does c s fun t => RegsBut [] s.blk t ∧ Keeps [] s.blk t)
    ∧ (s.blk.strk.ticking = true → s.blk.boot.configured = true →
      Does .strokeWatchExpiry s fun t => dueWith 6 t ∧ watch ≤ t.tb.up ∧ 2 ≤ t.rd Reg.SAFE_STAT_STATE
        ∧ Keeps [.regs, .tb, .boot, .safe] s.blk t)
    ∧ (s.blk.released 2 = true → s.blk.released 7 = false → s.blk.boot.plinth = false → s.blk.pair.waiting = false →
      Does .startTimeout s fun t => dueWith 10 t ∧ s.blk.boot.d2At + s.blk.boot.waited + 5000 * msPs ≤ t.tb.up
        ∧ 2 ≤ t.rd Reg.SAFE_STAT_STATE ∧ Keeps [.regs, .tb, .boot, .safe] s.blk t)
    ∧ (s.blk.cores = true → s.blk.castHeld = false → s.blk.boot.coreResets = [] →
      (s.blk.boot.wdAt = none → Loggable s.blk { source := 35 } →
        Does .watchdogExpiry s fun t => core 0 t ∧ Logs { source := 35 } s.blk t ∧ t.boot.wdAt = some s.blk.tb.up
          ∧ Keeps (.jv :: .boot :: raiseParts) s.blk t)
      ∧ (Loggable s.blk { source := 34 } →
        Does .lockstepMismatch s fun t => core 2 t ∧ Logs { source := 34 } s.blk t
          ∧ Keeps (.jv :: .boot :: raiseParts) s.blk t)
      ∧ (Loggable s.blk sram →
        Does (.sramUncorr .management addr) s fun t => core 3 t ∧ Logs sram s.blk t
          ∧ Keeps (.jv :: .boot :: raiseParts) s.blk t))
    ∧ (∀ t0, s.blk.cores = true → s.blk.boot.wdAt = some t0 → s.blk.tb.up ≤ t0 + 10000 * msPs →
      Loggable s.blk { source := 35 } →
      Does .watchdogExpiry s fun t => dueWith 3 t ∧ Logs { source := 35 } s.blk t ∧ Keeps (.boot :: raiseParts) s.blk t)
    ∧ (sramCritical r = true → Loggable s.blk sram →
      Does (.sramUncorr r addr) s fun t => dueWith 7 t ∧ Logs sram s.blk t ∧ Keeps (.boot :: raiseParts) s.blk t)
    ∧ (r = .maquette → Loggable s.blk sram →
      Does (.sramUncorr r addr) s fun t => Logs sram s.blk t ∧ t.cst.armed = none ∧ t.cst.dirty = []
        ∧ t.cst.maq = t.regs.crOnly ∧ Keeps (.cst :: .jv :: raiseParts) s.blk t)
    ∧ (r ∈ [.imageFilling, .imageFrozen, .dmaTelemetry, .eventStaging] → Loggable s.blk sram →
      Does (.sramUncorr r addr) s fun t => Logs sram s.blk t ∧ Keeps raiseParts s.blk t)
    ∧ (s.blk.injects 1 0 = false → Loggable s.blk parity →
      (criticalReg addr.toNat = true → Does (.regParity addr) s fun t => dueWith 8 t ∧ Logs parity s.blk t
        ∧ Keeps (.boot :: raiseParts) s.blk t)
      ∧ (criticalReg addr.toNat = false → Does (.regParity addr) s fun t => Logs parity s.blk t ∧ Keeps raiseParts s.blk t))

/-- What resets leave (R18, R332, R396 to R398, R402, R403): after a power-on every register field of the table is at its
    reset value but for the non-volatile ones, which stay; of those the table of bands holds its factory defaults again, and
    the ledger's hold what its last commit left in flash; a system reset that was decided takes effect with its cause recorded,
    starts from D1, empties the command queue, and keeps the images in flash. What the manual leaves open here is as log
    entries 4, 15 and 16 say. -/
def Obligations.ResetEffects : Prop :=
  ∀ (s : State),
    Does .powerOnReset s (fun t => t.images = s.blk.images ∧ t.evt.ring = s.blk.evt.ring ∧ t.strk = StrokeSt.reset
        ∧ t.jv = JarvasSt.reset ∧ t.tb = TimeBase.reset ∧ t.cells.streams = s.blk.cells.flash
        ∧ t.boot.staged = []
        ∧ ∀ f : Field, fieldOfKey f.key = some f →
          f.key ∉ [Reg.EVT_NEXT_NUM.key, Reg.EVT_OLDEST_NUM.key, Reg.EVT_UNACK_COUNT.key, Reg.SYS_CMD_STAT_RESTARTED.key] →
          (ledgerReg f.addr = false → (s.blk.boot.staged.any fun e => e.1 == 0) = false →
            t.rd f = if f.kept = .nv ∧ bandReg f.addr = false then s.blk.rd f else f.reset)
          ∧ (ledgerReg f.addr = true → s.blk.cells.flashRegs = [] → t.rd f = f.reset))
    ∧ (∀ d, s.blk.boot.due = some d → d.cause < 12 →
      Does .systemResetPrep s fun t => t.images = s.blk.images ∧ t.boot.due = none ∧ t.boot.staged = [] ∧ t.jv.queue = []
        ∧ t.strk = StrokeSt.reset ∧ t.on (causeFields.getD d.cause Reg.RST_CAUSE_POR) = true
        ∧ (∀ k < 12, k ≠ d.cause → t.on (causeFields.getD k Reg.RST_CAUSE_POR) = false)
        ∧ t.rd Reg.RST_STAGE_RELEASED = 1 ∧ t.rd Reg.RST_STAGE_WAIT = 1 ∧ t.on Reg.SYS_CMD_STAT_RESTARTED = true)
    ∧ (s.blk.boot.due = none → Does .systemResetPrep s fun t => RegsBut [] s.blk t ∧ Keeps [] s.blk t)

/-- Start-up (R404 to R410): a domain whose turn it is is released after its gap, D3 starts the time base from 0, and none
    is released out of turn; the third failed start leads to plinth mode; without a good image the default configuration
    is placed for the first stroke; a start completes one second after D7; and the cores restart after their reset. What
    the manual leaves open here is as log entries 6, 11, 12, 13 and 122 say. -/
def Obligations.StartUp : Prop :=
  ∀ (s : State) (d : Fin 8) (mask : BitVec 8),
    let ready := s.blk.released d = false ∧ s.blk.rd Reg.RST_STAGE_WAIT = d ∧ s.blk.rd Reg.SYS_PWR_STAT_STATE ≠ 4
      ∧ s.blk.releaseCond d = true ∧ s.blk.monitorsPass d = true
    (ready → d.val ∈ [0, 1, 4, 5] →
      Does (.domainRelease d) s fun t => t.released d = true ∧ t.rd Reg.RST_STAGE_WAIT = s.blk.domainAfter d
        ∧ (d.val ≠ 0 → s.blk.boot.releasedAt + s.blk.releaseGap ≤ t.tb.up) ∧ (d.val = 0 → t.tb.up = 0)
        ∧ t.boot.releasedAt = t.tb.up
        ∧ RegsBut ([Reg.RST_STAGE_RELEASED, Reg.RST_STAGE_WAIT] ++ adjFields) s.blk t
        ∧ Keeps [.regs, .tb, .boot, .safe] s.blk t)
    ∧ (ready → d.val = 6 → s.blk.boot.coreReset = false → s.blk.boot.plinth = false →
      Does (.domainRelease d) s fun t => t.released d = true ∧ t.rd Reg.RST_STAGE_WAIT = 7 ∧ t.cores = true
        ∧ t.evt.held.head?.map (·.source) = some 32 ∧ t.evt.held.tail = s.blk.evt.held ∧ t.clk.copied = true
        ∧ Keeps [.regs, .tb, .evt, .boot, .clk] s.blk t)
    ∧ (ready → d.val = 7 →
      Does (.domainRelease d) s fun t => t.released d = true ∧ t.rd Reg.RST_STAGE_WAIT = 15 ∧ t.boot.d7At = t.tb.up
        ∧ Keeps [.regs, .tb, .boot, .lv, .safe, .out] s.blk t)
    ∧ (ready → d.val = 3 →
      Does (.domainRelease d) s fun t => t.released d = true ∧ t.rd Reg.RST_STAGE_WAIT = 4 ∧ t.tb.run = true ∧ t.tb.now = 0
        ∧ Keeps [.regs, .tb, .boot] s.blk t)
    ∧ (ready → d.val = 2 → 3 ≤ s.blk.rd Reg.RST_BOOT_FAILS →
      Does (.domainRelease d) s fun t => t.released d = true ∧ t.boot.plinth = true ∧ t.boot.why = 1
        ∧ t.images = s.blk.images)
    ∧ (s.blk.rd Reg.RST_STAGE_WAIT ≠ d → Does (.domainRelease d) s fun t => RegsBut [] s.blk t ∧ Keeps [] s.blk t)
    ∧ Does (.debugOverride mask) s (fun t => t.on Reg.RST_DBG_DBG_EN = true
        ∧ (∀ k : Fin 8, t.bit Reg.RST_DBG_OVERRIDE k
            = (s.blk.bit Reg.RST_DBG_OVERRIDE k || (decide (2 ≤ k.val) && mask.toNat.testBit k)))
        ∧ RegsBut [Reg.RST_DBG_OVERRIDE, Reg.RST_DBG_DBG_EN] s.blk t ∧ Keeps [.regs] s.blk t)
    ∧ (s.blk.cores = true → s.blk.boot.plinth = false → s.blk.released 5 = true → s.blk.boot.configured = false →
      s.blk.boot.starting = false →
      s.blk.goodImage .maquette s.blk.boot.cfg (s.blk.rd Reg.RST_BOOT_CFG_HALF) = none →
      Does .startConfigLoad s fun t => t.boot.starting = true ∧ t.on Reg.RST_CAUSE_CFG_DEFAULT = true
        ∧ t.strk.ticking = true ∧ t.strk.num = 0
        ∧ (∀ f : Field, fieldOfKey f.key = some f → f.isCr = true → t.rd f = f.reset)
        ∧ Keeps [.regs, .strk, .cst, .boot, .pair, .ptp] s.blk t)
    ∧ (s.blk.released 7 = true → s.blk.boot.configured = true → s.blk.cores = true → s.blk.on Reg.RST_BOOT_DONE = false →
      s.blk.rd (Reg.EVT_SRCk_CLASS 37) = 0 →
      Does .startComplete s fun t => t.rd Reg.RST_BOOT_FAILS = 0 ∧ t.on Reg.RST_BOOT_DONE = true
        ∧ s.blk.boot.d7At + 1000 * msPs ≤ t.tb.up
        ∧ Logs { source := 37, code := s.blk.boot.cfgCode, extra := s.blk.rd Reg.RST_BOOT_RUNNING } s.blk t
        ∧ Keeps [.regs, .tb, .evt] s.blk t)
    ∧ (s.blk.boot.coreReset = true → s.blk.bootedGood = false →
      let valid := Reg.NVM_SLOTk_STAT_VALID (s.blk.rd Reg.RST_BOOT_RUNNING)
      Does .coreResetRestart s fun t => t.on valid = false ∧ RegsBut [valid] s.blk t ∧ Keeps [.regs] s.blk t)
    ∧ (s.blk.boot.coreReset = true → s.blk.bootedGood = true →
      Does .coreResetRestart s fun t => t.boot = { s.blk.boot with coreReset := false }
        ∧ t.on Reg.SYS_CMD_STAT_RESTARTED = true ∧ t.jv = s.blk.jv)
    ∧ (s.blk.boot.coreReset = false → Does .coreResetRestart s fun t => RegsBut [] s.blk t ∧ Keeps [] s.blk t)
end

