-- ==== Sys2Proof/Laws/State.lean ====
section
/-! SUPPORT. One lemma per component of the block per operation on it: what each of the block's plainest operations
    leaves as it was, and what it makes of the component it changes. -/

namespace Sys2Proof.Machine

variable (b : Block)

/-! ### `Block.wr` -/

@[simp] theorem Block.wr_frozen (f : Field) (v : Nat) : (b.wr f v).frozen = b.frozen := rfl
@[simp] theorem Block.wr_tb (f : Field) (v : Nat) : (b.wr f v).tb = b.tb := rfl
@[simp] theorem Block.wr_strk (f : Field) (v : Nat) : (b.wr f v).strk = b.strk := rfl
@[simp] theorem Block.wr_cst (f : Field) (v : Nat) : (b.wr f v).cst = b.cst := rfl
@[simp] theorem Block.wr_jv (f : Field) (v : Nat) : (b.wr f v).jv = b.jv := rfl
@[simp] theorem Block.wr_evt (f : Field) (v : Nat) : (b.wr f v).evt = b.evt := rfl
@[simp] theorem Block.wr_lv (f : Field) (v : Nat) : (b.wr f v).lv = b.lv := rfl
@[simp] theorem Block.wr_lanes (f : Field) (v : Nat) : (b.wr f v).lanes = b.lanes := rfl
@[simp] theorem Block.wr_cells (f : Field) (v : Nat) : (b.wr f v).cells = b.cells := rfl
@[simp] theorem Block.wr_ctxs (f : Field) (v : Nat) : (b.wr f v).ctxs = b.ctxs := rfl
@[simp] theorem Block.wr_chs (f : Field) (v : Nat) : (b.wr f v).chs = b.chs := rfl
@[simp] theorem Block.wr_conv (f : Field) (v : Nat) : (b.wr f v).conv = b.conv := rfl
@[simp] theorem Block.wr_adc (f : Field) (v : Nat) : (b.wr f v).adc = b.adc := rfl
@[simp] theorem Block.wr_ptp (f : Field) (v : Nat) : (b.wr f v).ptp = b.ptp := rfl
@[simp] theorem Block.wr_dma (f : Field) (v : Nat) : (b.wr f v).dma = b.dma := rfl
@[simp] theorem Block.wr_safe (f : Field) (v : Nat) : (b.wr f v).safe = b.safe := rfl
@[simp] theorem Block.wr_pow (f : Field) (v : Nat) : (b.wr f v).pow = b.pow := rfl
@[simp] theorem Block.wr_boot (f : Field) (v : Nat) : (b.wr f v).boot = b.boot := rfl
@[simp] theorem Block.wr_pair (f : Field) (v : Nat) : (b.wr f v).pair = b.pair := rfl
@[simp] theorem Block.wr_clk (f : Field) (v : Nat) : (b.wr f v).clk = b.clk := rfl
@[simp] theorem Block.wr_draws (f : Field) (v : Nat) : (b.wr f v).draws = b.draws := rfl
@[simp] theorem Block.wr_out (f : Field) (v : Nat) : (b.wr f v).out = b.out := rfl

/-! ### `Block.flag` -/

@[simp] theorem Block.flag_frozen (f : Field) (p : Bool) : (b.flag f p).frozen = b.frozen := rfl
@[simp] theorem Block.flag_tb (f : Field) (p : Bool) : (b.flag f p).tb = b.tb := rfl
@[simp] theorem Block.flag_strk (f : Field) (p : Bool) : (b.flag f p).strk = b.strk := rfl
@[simp] theorem Block.flag_cst (f : Field) (p : Bool) : (b.flag f p).cst = b.cst := rfl
@[simp] theorem Block.flag_jv (f : Field) (p : Bool) : (b.flag f p).jv = b.jv := rfl
@[simp] theorem Block.flag_evt (f : Field) (p : Bool) : (b.flag f p).evt = b.evt := rfl
@[simp] theorem Block.flag_lv (f : Field) (p : Bool) : (b.flag f p).lv = b.lv := rfl
@[simp] theorem Block.flag_lanes (f : Field) (p : Bool) : (b.flag f p).lanes = b.lanes := rfl
@[simp] theorem Block.flag_cells (f : Field) (p : Bool) : (b.flag f p).cells = b.cells := rfl
@[simp] theorem Block.flag_ctxs (f : Field) (p : Bool) : (b.flag f p).ctxs = b.ctxs := rfl
@[simp] theorem Block.flag_chs (f : Field) (p : Bool) : (b.flag f p).chs = b.chs := rfl
@[simp] theorem Block.flag_conv (f : Field) (p : Bool) : (b.flag f p).conv = b.conv := rfl
@[simp] theorem Block.flag_adc (f : Field) (p : Bool) : (b.flag f p).adc = b.adc := rfl
@[simp] theorem Block.flag_ptp (f : Field) (p : Bool) : (b.flag f p).ptp = b.ptp := rfl
@[simp] theorem Block.flag_dma (f : Field) (p : Bool) : (b.flag f p).dma = b.dma := rfl
@[simp] theorem Block.flag_safe (f : Field) (p : Bool) : (b.flag f p).safe = b.safe := rfl
@[simp] theorem Block.flag_pow (f : Field) (p : Bool) : (b.flag f p).pow = b.pow := rfl
@[simp] theorem Block.flag_boot (f : Field) (p : Bool) : (b.flag f p).boot = b.boot := rfl
@[simp] theorem Block.flag_pair (f : Field) (p : Bool) : (b.flag f p).pair = b.pair := rfl
@[simp] theorem Block.flag_clk (f : Field) (p : Bool) : (b.flag f p).clk = b.clk := rfl
@[simp] theorem Block.flag_draws (f : Field) (p : Bool) : (b.flag f p).draws = b.draws := rfl
@[simp] theorem Block.flag_out (f : Field) (p : Bool) : (b.flag f p).out = b.out := rfl

/-! ### `Block.wrS` -/

@[simp] theorem Block.wrS_frozen (f : Field) (x : Int) : (b.wrS f x).frozen = b.frozen := rfl
@[simp] theorem Block.wrS_tb (f : Field) (x : Int) : (b.wrS f x).tb = b.tb := rfl
@[simp] theorem Block.wrS_strk (f : Field) (x : Int) : (b.wrS f x).strk = b.strk := rfl
@[simp] theorem Block.wrS_cst (f : Field) (x : Int) : (b.wrS f x).cst = b.cst := rfl
@[simp] theorem Block.wrS_jv (f : Field) (x : Int) : (b.wrS f x).jv = b.jv := rfl
@[simp] theorem Block.wrS_evt (f : Field) (x : Int) : (b.wrS f x).evt = b.evt := rfl
@[simp] theorem Block.wrS_lv (f : Field) (x : Int) : (b.wrS f x).lv = b.lv := rfl
@[simp] theorem Block.wrS_lanes (f : Field) (x : Int) : (b.wrS f x).lanes = b.lanes := rfl
@[simp] theorem Block.wrS_cells (f : Field) (x : Int) : (b.wrS f x).cells = b.cells := rfl
@[simp] theorem Block.wrS_ctxs (f : Field) (x : Int) : (b.wrS f x).ctxs = b.ctxs := rfl
@[simp] theorem Block.wrS_chs (f : Field) (x : Int) : (b.wrS f x).chs = b.chs := rfl
@[simp] theorem Block.wrS_conv (f : Field) (x : Int) : (b.wrS f x).conv = b.conv := rfl
@[simp] theorem Block.wrS_adc (f : Field) (x : Int) : (b.wrS f x).adc = b.adc := rfl
@[simp] theorem Block.wrS_ptp (f : Field) (x : Int) : (b.wrS f x).ptp = b.ptp := rfl
@[simp] theorem Block.wrS_dma (f : Field) (x : Int) : (b.wrS f x).dma = b.dma := rfl
@[simp] theorem Block.wrS_safe (f : Field) (x : Int) : (b.wrS f x).safe = b.safe := rfl
@[simp] theorem Block.wrS_pow (f : Field) (x : Int) : (b.wrS f x).pow = b.pow := rfl
@[simp] theorem Block.wrS_boot (f : Field) (x : Int) : (b.wrS f x).boot = b.boot := rfl
@[simp] theorem Block.wrS_pair (f : Field) (x : Int) : (b.wrS f x).pair = b.pair := rfl
@[simp] theorem Block.wrS_clk (f : Field) (x : Int) : (b.wrS f x).clk = b.clk := rfl
@[simp] theorem Block.wrS_draws (f : Field) (x : Int) : (b.wrS f x).draws = b.draws := rfl
@[simp] theorem Block.wrS_out (f : Field) (x : Int) : (b.wrS f x).out = b.out := rfl

/-! ### `Block.count` -/

@[simp] theorem Block.count_frozen (f : Field) (n : Nat) : (b.count f n).frozen = b.frozen := rfl
@[simp] theorem Block.count_tb (f : Field) (n : Nat) : (b.count f n).tb = b.tb := rfl
@[simp] theorem Block.count_strk (f : Field) (n : Nat) : (b.count f n).strk = b.strk := rfl
@[simp] theorem Block.count_cst (f : Field) (n : Nat) : (b.count f n).cst = b.cst := rfl
@[simp] theorem Block.count_jv (f : Field) (n : Nat) : (b.count f n).jv = b.jv := rfl
@[simp] theorem Block.count_evt (f : Field) (n : Nat) : (b.count f n).evt = b.evt := rfl
@[simp] theorem Block.count_lv (f : Field) (n : Nat) : (b.count f n).lv = b.lv := rfl
@[simp] theorem Block.count_lanes (f : Field) (n : Nat) : (b.count f n).lanes = b.lanes := rfl
@[simp] theorem Block.count_cells (f : Field) (n : Nat) : (b.count f n).cells = b.cells := rfl
@[simp] theorem Block.count_ctxs (f : Field) (n : Nat) : (b.count f n).ctxs = b.ctxs := rfl
@[simp] theorem Block.count_chs (f : Field) (n : Nat) : (b.count f n).chs = b.chs := rfl
@[simp] theorem Block.count_conv (f : Field) (n : Nat) : (b.count f n).conv = b.conv := rfl
@[simp] theorem Block.count_adc (f : Field) (n : Nat) : (b.count f n).adc = b.adc := rfl
@[simp] theorem Block.count_ptp (f : Field) (n : Nat) : (b.count f n).ptp = b.ptp := rfl
@[simp] theorem Block.count_dma (f : Field) (n : Nat) : (b.count f n).dma = b.dma := rfl
@[simp] theorem Block.count_safe (f : Field) (n : Nat) : (b.count f n).safe = b.safe := rfl
@[simp] theorem Block.count_pow (f : Field) (n : Nat) : (b.count f n).pow = b.pow := rfl
@[simp] theorem Block.count_boot (f : Field) (n : Nat) : (b.count f n).boot = b.boot := rfl
@[simp] theorem Block.count_pair (f : Field) (n : Nat) : (b.count f n).pair = b.pair := rfl
@[simp] theorem Block.count_clk (f : Field) (n : Nat) : (b.count f n).clk = b.clk := rfl
@[simp] theorem Block.count_draws (f : Field) (n : Nat) : (b.count f n).draws = b.draws := rfl
@[simp] theorem Block.count_out (f : Field) (n : Nat) : (b.count f n).out = b.out := rfl

/-! ### `Block.bump` -/

@[simp] theorem Block.bump_frozen (f : Field) : (b.bump f).frozen = b.frozen := rfl
@[simp] theorem Block.bump_tb (f : Field) : (b.bump f).tb = b.tb := rfl
@[simp] theorem Block.bump_strk (f : Field) : (b.bump f).strk = b.strk := rfl
@[simp] theorem Block.bump_cst (f : Field) : (b.bump f).cst = b.cst := rfl
@[simp] theorem Block.bump_jv (f : Field) : (b.bump f).jv = b.jv := rfl
@[simp] theorem Block.bump_evt (f : Field) : (b.bump f).evt = b.evt := rfl
@[simp] theorem Block.bump_lv (f : Field) : (b.bump f).lv = b.lv := rfl
@[simp] theorem Block.bump_lanes (f : Field) : (b.bump f).lanes = b.lanes := rfl
@[simp] theorem Block.bump_cells (f : Field) : (b.bump f).cells = b.cells := rfl
@[simp] theorem Block.bump_ctxs (f : Field) : (b.bump f).ctxs = b.ctxs := rfl
@[simp] theorem Block.bump_chs (f : Field) : (b.bump f).chs = b.chs := rfl
@[simp] theorem Block.bump_conv (f : Field) : (b.bump f).conv = b.conv := rfl
@[simp] theorem Block.bump_adc (f : Field) : (b.bump f).adc = b.adc := rfl
@[simp] theorem Block.bump_ptp (f : Field) : (b.bump f).ptp = b.ptp := rfl
@[simp] theorem Block.bump_dma (f : Field) : (b.bump f).dma = b.dma := rfl
@[simp] theorem Block.bump_safe (f : Field) : (b.bump f).safe = b.safe := rfl
@[simp] theorem Block.bump_pow (f : Field) : (b.bump f).pow = b.pow := rfl
@[simp] theorem Block.bump_boot (f : Field) : (b.bump f).boot = b.boot := rfl
@[simp] theorem Block.bump_pair (f : Field) : (b.bump f).pair = b.pair := rfl
@[simp] theorem Block.bump_clk (f : Field) : (b.bump f).clk = b.clk := rfl
@[simp] theorem Block.bump_draws (f : Field) : (b.bump f).draws = b.draws := rfl
@[simp] theorem Block.bump_out (f : Field) : (b.bump f).out = b.out := rfl

/-! ### `Block.setBit` -/

@[simp] theorem Block.setBit_frozen (f : Field) (i : Nat) (p : Bool) : (b.setBit f i p).frozen = b.frozen := rfl
@[simp] theorem Block.setBit_tb (f : Field) (i : Nat) (p : Bool) : (b.setBit f i p).tb = b.tb := rfl
@[simp] theorem Block.setBit_strk (f : Field) (i : Nat) (p : Bool) : (b.setBit f i p).strk = b.strk := rfl
@[simp] theorem Block.setBit_cst (f : Field) (i : Nat) (p : Bool) : (b.setBit f i p).cst = b.cst := rfl
@[simp] theorem Block.setBit_jv (f : Field) (i : Nat) (p : Bool) : (b.setBit f i p).jv = b.jv := rfl
@[simp] theorem Block.setBit_evt (f : Field) (i : Nat) (p : Bool) : (b.setBit f i p).evt = b.evt := rfl
@[simp] theorem Block.setBit_lv (f : Field) (i : Nat) (p : Bool) : (b.setBit f i p).lv = b.lv := rfl
@[simp] theorem Block.setBit_lanes (f : Field) (i : Nat) (p : Bool) : (b.setBit f i p).lanes = b.lanes := rfl
@[simp] theorem Block.setBit_cells (f : Field) (i : Nat) (p : Bool) : (b.setBit f i p).cells = b.cells := rfl
@[simp] theorem Block.setBit_ctxs (f : Field) (i : Nat) (p : Bool) : (b.setBit f i p).ctxs = b.ctxs := rfl
@[simp] theorem Block.setBit_chs (f : Field) (i : Nat) (p : Bool) : (b.setBit f i p).chs = b.chs := rfl
@[simp] theorem Block.setBit_conv (f : Field) (i : Nat) (p : Bool) : (b.setBit f i p).conv = b.conv := rfl
@[simp] theorem Block.setBit_adc (f : Field) (i : Nat) (p : Bool) : (b.setBit f i p).adc = b.adc := rfl
@[simp] theorem Block.setBit_ptp (f : Field) (i : Nat) (p : Bool) : (b.setBit f i p).ptp = b.ptp := rfl
@[simp] theorem Block.setBit_dma (f : Field) (i : Nat) (p : Bool) : (b.setBit f i p).dma = b.dma := rfl
@[simp] theorem Block.setBit_safe (f : Field) (i : Nat) (p : Bool) : (b.setBit f i p).safe = b.safe := rfl
@[simp] theorem Block.setBit_pow (f : Field) (i : Nat) (p : Bool) : (b.setBit f i p).pow = b.pow := rfl
@[simp] theorem Block.setBit_boot (f : Field) (i : Nat) (p : Bool) : (b.setBit f i p).boot = b.boot := rfl
@[simp] theorem Block.setBit_pair (f : Field) (i : Nat) (p : Bool) : (b.setBit f i p).pair = b.pair := rfl
@[simp] theorem Block.setBit_clk (f : Field) (i : Nat) (p : Bool) : (b.setBit f i p).clk = b.clk := rfl
@[simp] theorem Block.setBit_draws (f : Field) (i : Nat) (p : Bool) : (b.setBit f i p).draws = b.draws := rfl
@[simp] theorem Block.setBit_out (f : Field) (i : Nat) (p : Bool) : (b.setBit f i p).out = b.out := rfl

/-! ### `Block.wr64` -/

@[simp] theorem Block.wr64_frozen (lo hi : Field) (v : Nat) : (b.wr64 lo hi v).frozen = b.frozen := rfl
@[simp] theorem Block.wr64_tb (lo hi : Field) (v : Nat) : (b.wr64 lo hi v).tb = b.tb := rfl
@[simp] theorem Block.wr64_strk (lo hi : Field) (v : Nat) : (b.wr64 lo hi v).strk = b.strk := rfl
@[simp] theorem Block.wr64_cst (lo hi : Field) (v : Nat) : (b.wr64 lo hi v).cst = b.cst := rfl
@[simp] theorem Block.wr64_jv (lo hi : Field) (v : Nat) : (b.wr64 lo hi v).jv = b.jv := rfl
@[simp] theorem Block.wr64_evt (lo hi : Field) (v : Nat) : (b.wr64 lo hi v).evt = b.evt := rfl
@[simp] theorem Block.wr64_lv (lo hi : Field) (v : Nat) : (b.wr64 lo hi v).lv = b.lv := rfl
@[simp] theorem Block.wr64_lanes (lo hi : Field) (v : Nat) : (b.wr64 lo hi v).lanes = b.lanes := rfl
@[simp] theorem Block.wr64_cells (lo hi : Field) (v : Nat) : (b.wr64 lo hi v).cells = b.cells := rfl
@[simp] theorem Block.wr64_ctxs (lo hi : Field) (v : Nat) : (b.wr64 lo hi v).ctxs = b.ctxs := rfl
@[simp] theorem Block.wr64_chs (lo hi : Field) (v : Nat) : (b.wr64 lo hi v).chs = b.chs := rfl
@[simp] theorem Block.wr64_conv (lo hi : Field) (v : Nat) : (b.wr64 lo hi v).conv = b.conv := rfl
@[simp] theorem Block.wr64_adc (lo hi : Field) (v : Nat) : (b.wr64 lo hi v).adc = b.adc := rfl
@[simp] theorem Block.wr64_ptp (lo hi : Field) (v : Nat) : (b.wr64 lo hi v).ptp = b.ptp := rfl
@[simp] theorem Block.wr64_dma (lo hi : Field) (v : Nat) : (b.wr64 lo hi v).dma = b.dma := rfl
@[simp] theorem Block.wr64_safe (lo hi : Field) (v : Nat) : (b.wr64 lo hi v).safe = b.safe := rfl
@[simp] theorem Block.wr64_pow (lo hi : Field) (v : Nat) : (b.wr64 lo hi v).pow = b.pow := rfl
@[simp] theorem Block.wr64_boot (lo hi : Field) (v : Nat) : (b.wr64 lo hi v).boot = b.boot := rfl
@[simp] theorem Block.wr64_pair (lo hi : Field) (v : Nat) : (b.wr64 lo hi v).pair = b.pair := rfl
@[simp] theorem Block.wr64_clk (lo hi : Field) (v : Nat) : (b.wr64 lo hi v).clk = b.clk := rfl
@[simp] theorem Block.wr64_draws (lo hi : Field) (v : Nat) : (b.wr64 lo hi v).draws = b.draws := rfl
@[simp] theorem Block.wr64_out (lo hi : Field) (v : Nat) : (b.wr64 lo hi v).out = b.out := rfl

/-! ### `Block.emit` -/

@[simp] theorem Block.emit_regs (o : Output) : (b.emit o).regs = b.regs := rfl
@[simp] theorem Block.emit_frozen (o : Output) : (b.emit o).frozen = b.frozen := rfl
@[simp] theorem Block.emit_tb (o : Output) : (b.emit o).tb = b.tb := rfl
@[simp] theorem Block.emit_strk (o : Output) : (b.emit o).strk = b.strk := rfl
@[simp] theorem Block.emit_cst (o : Output) : (b.emit o).cst = b.cst := rfl
@[simp] theorem Block.emit_jv (o : Output) : (b.emit o).jv = b.jv := rfl
@[simp] theorem Block.emit_evt (o : Output) : (b.emit o).evt = b.evt := rfl
@[simp] theorem Block.emit_lv (o : Output) : (b.emit o).lv = b.lv := rfl
@[simp] theorem Block.emit_lanes (o : Output) : (b.emit o).lanes = b.lanes := rfl
@[simp] theorem Block.emit_cells (o : Output) : (b.emit o).cells = b.cells := rfl
@[simp] theorem Block.emit_ctxs (o : Output) : (b.emit o).ctxs = b.ctxs := rfl
@[simp] theorem Block.emit_chs (o : Output) : (b.emit o).chs = b.chs := rfl
@[simp] theorem Block.emit_conv (o : Output) : (b.emit o).conv = b.conv := rfl
@[simp] theorem Block.emit_adc (o : Output) : (b.emit o).adc = b.adc := rfl
@[simp] theorem Block.emit_ptp (o : Output) : (b.emit o).ptp = b.ptp := rfl
@[simp] theorem Block.emit_dma (o : Output) : (b.emit o).dma = b.dma := rfl
@[simp] theorem Block.emit_safe (o : Output) : (b.emit o).safe = b.safe := rfl
@[simp] theorem Block.emit_pow (o : Output) : (b.emit o).pow = b.pow := rfl
@[simp] theorem Block.emit_boot (o : Output) : (b.emit o).boot = b.boot := rfl
@[simp] theorem Block.emit_pair (o : Output) : (b.emit o).pair = b.pair := rfl
@[simp] theorem Block.emit_clk (o : Output) : (b.emit o).clk = b.clk := rfl
@[simp] theorem Block.emit_draws (o : Output) : (b.emit o).draws = b.draws := rfl
@[simp] theorem Block.emit_rd (o : Output) (r : Field) : (b.emit o).rd r = b.rd r := rfl
@[simp] theorem Block.emit_out (o : Output) : (b.emit o).out = o :: b.out := rfl

/-! ### `Block.drawn` -/

@[simp] theorem Block.drawn_regs : (b.drawn).regs = b.regs := rfl
@[simp] theorem Block.drawn_frozen : (b.drawn).frozen = b.frozen := rfl
@[simp] theorem Block.drawn_tb : (b.drawn).tb = b.tb := rfl
@[simp] theorem Block.drawn_strk : (b.drawn).strk = b.strk := rfl
@[simp] theorem Block.drawn_cst : (b.drawn).cst = b.cst := rfl
@[simp] theorem Block.drawn_jv : (b.drawn).jv = b.jv := rfl
@[simp] theorem Block.drawn_evt : (b.drawn).evt = b.evt := rfl
@[simp] theorem Block.drawn_lv : (b.drawn).lv = b.lv := rfl
@[simp] theorem Block.drawn_lanes : (b.drawn).lanes = b.lanes := rfl
@[simp] theorem Block.drawn_cells : (b.drawn).cells = b.cells := rfl
@[simp] theorem Block.drawn_ctxs : (b.drawn).ctxs = b.ctxs := rfl
@[simp] theorem Block.drawn_chs : (b.drawn).chs = b.chs := rfl
@[simp] theorem Block.drawn_conv : (b.drawn).conv = b.conv := rfl
@[simp] theorem Block.drawn_adc : (b.drawn).adc = b.adc := rfl
@[simp] theorem Block.drawn_ptp : (b.drawn).ptp = b.ptp := rfl
@[simp] theorem Block.drawn_dma : (b.drawn).dma = b.dma := rfl
@[simp] theorem Block.drawn_safe : (b.drawn).safe = b.safe := rfl
@[simp] theorem Block.drawn_pow : (b.drawn).pow = b.pow := rfl
@[simp] theorem Block.drawn_boot : (b.drawn).boot = b.boot := rfl
@[simp] theorem Block.drawn_pair : (b.drawn).pair = b.pair := rfl
@[simp] theorem Block.drawn_clk : (b.drawn).clk = b.clk := rfl
@[simp] theorem Block.drawn_out : (b.drawn).out = b.out := rfl
@[simp] theorem Block.drawn_rd  (r : Field) : (b.drawn).rd r = b.rd r := rfl
@[simp] theorem Block.drawn_draws : b.drawn.draws = b.draws + 1 := rfl

/-! ### `Block.updLeg` -/

@[simp] theorem Block.updLeg_regs (l : Nat) (f : Leg → Leg) : (b.updLeg l f).regs = b.regs := rfl
@[simp] theorem Block.updLeg_frozen (l : Nat) (f : Leg → Leg) : (b.updLeg l f).frozen = b.frozen := rfl
@[simp] theorem Block.updLeg_tb (l : Nat) (f : Leg → Leg) : (b.updLeg l f).tb = b.tb := rfl
@[simp] theorem Block.updLeg_strk (l : Nat) (f : Leg → Leg) : (b.updLeg l f).strk = b.strk := rfl
@[simp] theorem Block.updLeg_cst (l : Nat) (f : Leg → Leg) : (b.updLeg l f).cst = b.cst := rfl
@[simp] theorem Block.updLeg_jv (l : Nat) (f : Leg → Leg) : (b.updLeg l f).jv = b.jv := rfl
@[simp] theorem Block.updLeg_evt (l : Nat) (f : Leg → Leg) : (b.updLeg l f).evt = b.evt := rfl
@[simp] theorem Block.updLeg_lanes (l : Nat) (f : Leg → Leg) : (b.updLeg l f).lanes = b.lanes := rfl
@[simp] theorem Block.updLeg_cells (l : Nat) (f : Leg → Leg) : (b.updLeg l f).cells = b.cells := rfl
@[simp] theorem Block.updLeg_ctxs (l : Nat) (f : Leg → Leg) : (b.updLeg l f).ctxs = b.ctxs := rfl
@[simp] theorem Block.updLeg_chs (l : Nat) (f : Leg → Leg) : (b.updLeg l f).chs = b.chs := rfl
@[simp] theorem Block.updLeg_conv (l : Nat) (f : Leg → Leg) : (b.updLeg l f).conv = b.conv := rfl
@[simp] theorem Block.updLeg_adc (l : Nat) (f : Leg → Leg) : (b.updLeg l f).adc = b.adc := rfl
@[simp] theorem Block.updLeg_ptp (l : Nat) (f : Leg → Leg) : (b.updLeg l f).ptp = b.ptp := rfl
@[simp] theorem Block.updLeg_dma (l : Nat) (f : Leg → Leg) : (b.updLeg l f).dma = b.dma := rfl
@[simp] theorem Block.updLeg_safe (l : Nat) (f : Leg → Leg) : (b.updLeg l f).safe = b.safe := rfl
@[simp] theorem Block.updLeg_pow (l : Nat) (f : Leg → Leg) : (b.updLeg l f).pow = b.pow := rfl
@[simp] theorem Block.updLeg_boot (l : Nat) (f : Leg → Leg) : (b.updLeg l f).boot = b.boot := rfl
@[simp] theorem Block.updLeg_pair (l : Nat) (f : Leg → Leg) : (b.updLeg l f).pair = b.pair := rfl
@[simp] theorem Block.updLeg_clk (l : Nat) (f : Leg → Leg) : (b.updLeg l f).clk = b.clk := rfl
@[simp] theorem Block.updLeg_draws (l : Nat) (f : Leg → Leg) : (b.updLeg l f).draws = b.draws := rfl
@[simp] theorem Block.updLeg_out (l : Nat) (f : Leg → Leg) : (b.updLeg l f).out = b.out := rfl
@[simp] theorem Block.updLeg_rd (l : Nat) (f : Leg → Leg) (r : Field) : (b.updLeg l f).rd r = b.rd r := rfl

/-! ### `Block.updPort` -/

@[simp] theorem Block.updPort_regs (p : Nat) (f : PortSt → PortSt) : (b.updPort p f).regs = b.regs := rfl
@[simp] theorem Block.updPort_frozen (p : Nat) (f : PortSt → PortSt) : (b.updPort p f).frozen = b.frozen := rfl
@[simp] theorem Block.updPort_tb (p : Nat) (f : PortSt → PortSt) : (b.updPort p f).tb = b.tb := rfl
@[simp] theorem Block.updPort_strk (p : Nat) (f : PortSt → PortSt) : (b.updPort p f).strk = b.strk := rfl
@[simp] theorem Block.updPort_cst (p : Nat) (f : PortSt → PortSt) : (b.updPort p f).cst = b.cst := rfl
@[simp] theorem Block.updPort_jv (p : Nat) (f : PortSt → PortSt) : (b.updPort p f).jv = b.jv := rfl
@[simp] theorem Block.updPort_evt (p : Nat) (f : PortSt → PortSt) : (b.updPort p f).evt = b.evt := rfl
@[simp] theorem Block.updPort_lanes (p : Nat) (f : PortSt → PortSt) : (b.updPort p f).lanes = b.lanes := rfl
@[simp] theorem Block.updPort_cells (p : Nat) (f : PortSt → PortSt) : (b.updPort p f).cells = b.cells := rfl
@[simp] theorem Block.updPort_ctxs (p : Nat) (f : PortSt → PortSt) : (b.updPort p f).ctxs = b.ctxs := rfl
@[simp] theorem Block.updPort_chs (p : Nat) (f : PortSt → PortSt) : (b.updPort p f).chs = b.chs := rfl
@[simp] theorem Block.updPort_conv (p : Nat) (f : PortSt → PortSt) : (b.updPort p f).conv = b.conv := rfl
@[simp] theorem Block.updPort_adc (p : Nat) (f : PortSt → PortSt) : (b.updPort p f).adc = b.adc := rfl
@[simp] theorem Block.updPort_ptp (p : Nat) (f : PortSt → PortSt) : (b.updPort p f).ptp = b.ptp := rfl
@[simp] theorem Block.updPort_dma (p : Nat) (f : PortSt → PortSt) : (b.updPort p f).dma = b.dma := rfl
@[simp] theorem Block.updPort_safe (p : Nat) (f : PortSt → PortSt) : (b.updPort p f).safe = b.safe := rfl
@[simp] theorem Block.updPort_pow (p : Nat) (f : PortSt → PortSt) : (b.updPort p f).pow = b.pow := rfl
@[simp] theorem Block.updPort_boot (p : Nat) (f : PortSt → PortSt) : (b.updPort p f).boot = b.boot := rfl
@[simp] theorem Block.updPort_pair (p : Nat) (f : PortSt → PortSt) : (b.updPort p f).pair = b.pair := rfl
@[simp] theorem Block.updPort_clk (p : Nat) (f : PortSt → PortSt) : (b.updPort p f).clk = b.clk := rfl
@[simp] theorem Block.updPort_draws (p : Nat) (f : PortSt → PortSt) : (b.updPort p f).draws = b.draws := rfl
@[simp] theorem Block.updPort_out (p : Nat) (f : PortSt → PortSt) : (b.updPort p f).out = b.out := rfl
@[simp] theorem Block.updPort_rd (p : Nat) (f : PortSt → PortSt) (r : Field) : (b.updPort p f).rd r = b.rd r := rfl

/-! ### `Block.updDiag` -/

@[simp] theorem Block.updDiag_regs (g : Nat) (f : DiagSt → DiagSt) : (b.updDiag g f).regs = b.regs := rfl
@[simp] theorem Block.updDiag_frozen (g : Nat) (f : DiagSt → DiagSt) : (b.updDiag g f).frozen = b.frozen := rfl
@[simp] theorem Block.updDiag_tb (g : Nat) (f : DiagSt → DiagSt) : (b.updDiag g f).tb = b.tb := rfl
@[simp] theorem Block.updDiag_strk (g : Nat) (f : DiagSt → DiagSt) : (b.updDiag g f).strk = b.strk := rfl
@[simp] theorem Block.updDiag_cst (g : Nat) (f : DiagSt → DiagSt) : (b.updDiag g f).cst = b.cst := rfl
@[simp] theorem Block.updDiag_jv (g : Nat) (f : DiagSt → DiagSt) : (b.updDiag g f).jv = b.jv := rfl
@[simp] theorem Block.updDiag_evt (g : Nat) (f : DiagSt → DiagSt) : (b.updDiag g f).evt = b.evt := rfl
@[simp] theorem Block.updDiag_lanes (g : Nat) (f : DiagSt → DiagSt) : (b.updDiag g f).lanes = b.lanes := rfl
@[simp] theorem Block.updDiag_cells (g : Nat) (f : DiagSt → DiagSt) : (b.updDiag g f).cells = b.cells := rfl
@[simp] theorem Block.updDiag_ctxs (g : Nat) (f : DiagSt → DiagSt) : (b.updDiag g f).ctxs = b.ctxs := rfl
@[simp] theorem Block.updDiag_chs (g : Nat) (f : DiagSt → DiagSt) : (b.updDiag g f).chs = b.chs := rfl
@[simp] theorem Block.updDiag_conv (g : Nat) (f : DiagSt → DiagSt) : (b.updDiag g f).conv = b.conv := rfl
@[simp] theorem Block.updDiag_adc (g : Nat) (f : DiagSt → DiagSt) : (b.updDiag g f).adc = b.adc := rfl
@[simp] theorem Block.updDiag_ptp (g : Nat) (f : DiagSt → DiagSt) : (b.updDiag g f).ptp = b.ptp := rfl
@[simp] theorem Block.updDiag_dma (g : Nat) (f : DiagSt → DiagSt) : (b.updDiag g f).dma = b.dma := rfl
@[simp] theorem Block.updDiag_safe (g : Nat) (f : DiagSt → DiagSt) : (b.updDiag g f).safe = b.safe := rfl
@[simp] theorem Block.updDiag_pow (g : Nat) (f : DiagSt → DiagSt) : (b.updDiag g f).pow = b.pow := rfl
@[simp] theorem Block.updDiag_boot (g : Nat) (f : DiagSt → DiagSt) : (b.updDiag g f).boot = b.boot := rfl
@[simp] theorem Block.updDiag_pair (g : Nat) (f : DiagSt → DiagSt) : (b.updDiag g f).pair = b.pair := rfl
@[simp] theorem Block.updDiag_clk (g : Nat) (f : DiagSt → DiagSt) : (b.updDiag g f).clk = b.clk := rfl
@[simp] theorem Block.updDiag_draws (g : Nat) (f : DiagSt → DiagSt) : (b.updDiag g f).draws = b.draws := rfl
@[simp] theorem Block.updDiag_out (g : Nat) (f : DiagSt → DiagSt) : (b.updDiag g f).out = b.out := rfl
@[simp] theorem Block.updDiag_rd (g : Nat) (f : DiagSt → DiagSt) (r : Field) : (b.updDiag g f).rd r = b.rd r := rfl

/-! ### `Block.updLane` -/

@[simp] theorem Block.updLane_regs (l : Nat) (f : Lane → Lane) : (b.updLane l f).regs = b.regs := rfl
@[simp] theorem Block.updLane_frozen (l : Nat) (f : Lane → Lane) : (b.updLane l f).frozen = b.frozen := rfl
@[simp] theorem Block.updLane_tb (l : Nat) (f : Lane → Lane) : (b.updLane l f).tb = b.tb := rfl
@[simp] theorem Block.updLane_strk (l : Nat) (f : Lane → Lane) : (b.updLane l f).strk = b.strk := rfl
@[simp] theorem Block.updLane_cst (l : Nat) (f : Lane → Lane) : (b.updLane l f).cst = b.cst := rfl
@[simp] theorem Block.updLane_jv (l : Nat) (f : Lane → Lane) : (b.updLane l f).jv = b.jv := rfl
@[simp] theorem Block.updLane_evt (l : Nat) (f : Lane → Lane) : (b.updLane l f).evt = b.evt := rfl
@[simp] theorem Block.updLane_lv (l : Nat) (f : Lane → Lane) : (b.updLane l f).lv = b.lv := rfl
@[simp] theorem Block.updLane_cells (l : Nat) (f : Lane → Lane) : (b.updLane l f).cells = b.cells := rfl
@[simp] theorem Block.updLane_ctxs (l : Nat) (f : Lane → Lane) : (b.updLane l f).ctxs = b.ctxs := rfl
@[simp] theorem Block.updLane_chs (l : Nat) (f : Lane → Lane) : (b.updLane l f).chs = b.chs := rfl
@[simp] theorem Block.updLane_conv (l : Nat) (f : Lane → Lane) : (b.updLane l f).conv = b.conv := rfl
@[simp] theorem Block.updLane_adc (l : Nat) (f : Lane → Lane) : (b.updLane l f).adc = b.adc := rfl
@[simp] theorem Block.updLane_ptp (l : Nat) (f : Lane → Lane) : (b.updLane l f).ptp = b.ptp := rfl
@[simp] theorem Block.updLane_dma (l : Nat) (f : Lane → Lane) : (b.updLane l f).dma = b.dma := rfl
@[simp] theorem Block.updLane_safe (l : Nat) (f : Lane → Lane) : (b.updLane l f).safe = b.safe := rfl
@[simp] theorem Block.updLane_pow (l : Nat) (f : Lane → Lane) : (b.updLane l f).pow = b.pow := rfl
@[simp] theorem Block.updLane_boot (l : Nat) (f : Lane → Lane) : (b.updLane l f).boot = b.boot := rfl
@[simp] theorem Block.updLane_pair (l : Nat) (f : Lane → Lane) : (b.updLane l f).pair = b.pair := rfl
@[simp] theorem Block.updLane_clk (l : Nat) (f : Lane → Lane) : (b.updLane l f).clk = b.clk := rfl
@[simp] theorem Block.updLane_draws (l : Nat) (f : Lane → Lane) : (b.updLane l f).draws = b.draws := rfl
@[simp] theorem Block.updLane_out (l : Nat) (f : Lane → Lane) : (b.updLane l f).out = b.out := rfl
@[simp] theorem Block.updLane_rd (l : Nat) (f : Lane → Lane) (r : Field) : (b.updLane l f).rd r = b.rd r := rfl

/-! ### `Block.updCell` -/

@[simp] theorem Block.updCell_regs (s : Nat) (f : Cell → Cell) : (b.updCell s f).regs = b.regs := rfl
@[simp] theorem Block.updCell_frozen (s : Nat) (f : Cell → Cell) : (b.updCell s f).frozen = b.frozen := rfl
@[simp] theorem Block.updCell_tb (s : Nat) (f : Cell → Cell) : (b.updCell s f).tb = b.tb := rfl
@[simp] theorem Block.updCell_strk (s : Nat) (f : Cell → Cell) : (b.updCell s f).strk = b.strk := rfl
@[simp] theorem Block.updCell_cst (s : Nat) (f : Cell → Cell) : (b.updCell s f).cst = b.cst := rfl
@[simp] theorem Block.updCell_jv (s : Nat) (f : Cell → Cell) : (b.updCell s f).jv = b.jv := rfl
@[simp] theorem Block.updCell_evt (s : Nat) (f : Cell → Cell) : (b.updCell s f).evt = b.evt := rfl
@[simp] theorem Block.updCell_lv (s : Nat) (f : Cell → Cell) : (b.updCell s f).lv = b.lv := rfl
@[simp] theorem Block.updCell_lanes (s : Nat) (f : Cell → Cell) : (b.updCell s f).lanes = b.lanes := rfl
@[simp] theorem Block.updCell_ctxs (s : Nat) (f : Cell → Cell) : (b.updCell s f).ctxs = b.ctxs := rfl
@[simp] theorem Block.updCell_chs (s : Nat) (f : Cell → Cell) : (b.updCell s f).chs = b.chs := rfl
@[simp] theorem Block.updCell_conv (s : Nat) (f : Cell → Cell) : (b.updCell s f).conv = b.conv := rfl
@[simp] theorem Block.updCell_adc (s : Nat) (f : Cell → Cell) : (b.updCell s f).adc = b.adc := rfl
@[simp] theorem Block.updCell_ptp (s : Nat) (f : Cell → Cell) : (b.updCell s f).ptp = b.ptp := rfl
@[simp] theorem Block.updCell_dma (s : Nat) (f : Cell → Cell) : (b.updCell s f).dma = b.dma := rfl
@[simp] theorem Block.updCell_safe (s : Nat) (f : Cell → Cell) : (b.updCell s f).safe = b.safe := rfl
@[simp] theorem Block.updCell_pow (s : Nat) (f : Cell → Cell) : (b.updCell s f).pow = b.pow := rfl
@[simp] theorem Block.updCell_boot (s : Nat) (f : Cell → Cell) : (b.updCell s f).boot = b.boot := rfl
@[simp] theorem Block.updCell_pair (s : Nat) (f : Cell → Cell) : (b.updCell s f).pair = b.pair := rfl
@[simp] theorem Block.updCell_clk (s : Nat) (f : Cell → Cell) : (b.updCell s f).clk = b.clk := rfl
@[simp] theorem Block.updCell_draws (s : Nat) (f : Cell → Cell) : (b.updCell s f).draws = b.draws := rfl
@[simp] theorem Block.updCell_out (s : Nat) (f : Cell → Cell) : (b.updCell s f).out = b.out := rfl
@[simp] theorem Block.updCell_rd (s : Nat) (f : Cell → Cell) (r : Field) : (b.updCell s f).rd r = b.rd r := rfl

/-! ### `Block.updCtx` -/

@[simp] theorem Block.updCtx_regs (c : Nat) (f : Ctx → Ctx) : (b.updCtx c f).regs = b.regs := rfl
@[simp] theorem Block.updCtx_frozen (c : Nat) (f : Ctx → Ctx) : (b.updCtx c f).frozen = b.frozen := rfl
@[simp] theorem Block.updCtx_tb (c : Nat) (f : Ctx → Ctx) : (b.updCtx c f).tb = b.tb := rfl
@[simp] theorem Block.updCtx_strk (c : Nat) (f : Ctx → Ctx) : (b.updCtx c f).strk = b.strk := rfl
@[simp] theorem Block.updCtx_cst (c : Nat) (f : Ctx → Ctx) : (b.updCtx c f).cst = b.cst := rfl
@[simp] theorem Block.updCtx_jv (c : Nat) (f : Ctx → Ctx) : (b.updCtx c f).jv = b.jv := rfl
@[simp] theorem Block.updCtx_evt (c : Nat) (f : Ctx → Ctx) : (b.updCtx c f).evt = b.evt := rfl
@[simp] theorem Block.updCtx_lv (c : Nat) (f : Ctx → Ctx) : (b.updCtx c f).lv = b.lv := rfl
@[simp] theorem Block.updCtx_lanes (c : Nat) (f : Ctx → Ctx) : (b.updCtx c f).lanes = b.lanes := rfl
@[simp] theorem Block.updCtx_cells (c : Nat) (f : Ctx → Ctx) : (b.updCtx c f).cells = b.cells := rfl
@[simp] theorem Block.updCtx_chs (c : Nat) (f : Ctx → Ctx) : (b.updCtx c f).chs = b.chs := rfl
@[simp] theorem Block.updCtx_conv (c : Nat) (f : Ctx → Ctx) : (b.updCtx c f).conv = b.conv := rfl
@[simp] theorem Block.updCtx_adc (c : Nat) (f : Ctx → Ctx) : (b.updCtx c f).adc = b.adc := rfl
@[simp] theorem Block.updCtx_ptp (c : Nat) (f : Ctx → Ctx) : (b.updCtx c f).ptp = b.ptp := rfl
@[simp] theorem Block.updCtx_dma (c : Nat) (f : Ctx → Ctx) : (b.updCtx c f).dma = b.dma := rfl
@[simp] theorem Block.updCtx_safe (c : Nat) (f : Ctx → Ctx) : (b.updCtx c f).safe = b.safe := rfl
@[simp] theorem Block.updCtx_pow (c : Nat) (f : Ctx → Ctx) : (b.updCtx c f).pow = b.pow := rfl
@[simp] theorem Block.updCtx_boot (c : Nat) (f : Ctx → Ctx) : (b.updCtx c f).boot = b.boot := rfl
@[simp] theorem Block.updCtx_pair (c : Nat) (f : Ctx → Ctx) : (b.updCtx c f).pair = b.pair := rfl
@[simp] theorem Block.updCtx_clk (c : Nat) (f : Ctx → Ctx) : (b.updCtx c f).clk = b.clk := rfl
@[simp] theorem Block.updCtx_draws (c : Nat) (f : Ctx → Ctx) : (b.updCtx c f).draws = b.draws := rfl
@[simp] theorem Block.updCtx_out (c : Nat) (f : Ctx → Ctx) : (b.updCtx c f).out = b.out := rfl
@[simp] theorem Block.updCtx_rd (c : Nat) (f : Ctx → Ctx) (r : Field) : (b.updCtx c f).rd r = b.rd r := rfl

/-! ### `Block.updCh` -/

@[simp] theorem Block.updCh_regs (s : Nat) (f : ChCell → ChCell) : (b.updCh s f).regs = b.regs := rfl
@[simp] theorem Block.updCh_frozen (s : Nat) (f : ChCell → ChCell) : (b.updCh s f).frozen = b.frozen := rfl
@[simp] theorem Block.updCh_tb (s : Nat) (f : ChCell → ChCell) : (b.updCh s f).tb = b.tb := rfl
@[simp] theorem Block.updCh_strk (s : Nat) (f : ChCell → ChCell) : (b.updCh s f).strk = b.strk := rfl
@[simp] theorem Block.updCh_cst (s : Nat) (f : ChCell → ChCell) : (b.updCh s f).cst = b.cst := rfl
@[simp] theorem Block.updCh_jv (s : Nat) (f : ChCell → ChCell) : (b.updCh s f).jv = b.jv := rfl
@[simp] theorem Block.updCh_evt (s : Nat) (f : ChCell → ChCell) : (b.updCh s f).evt = b.evt := rfl
@[simp] theorem Block.updCh_lv (s : Nat) (f : ChCell → ChCell) : (b.updCh s f).lv = b.lv := rfl
@[simp] theorem Block.updCh_lanes (s : Nat) (f : ChCell → ChCell) : (b.updCh s f).lanes = b.lanes := rfl
@[simp] theorem Block.updCh_cells (s : Nat) (f : ChCell → ChCell) : (b.updCh s f).cells = b.cells := rfl
@[simp] theorem Block.updCh_ctxs (s : Nat) (f : ChCell → ChCell) : (b.updCh s f).ctxs = b.ctxs := rfl
@[simp] theorem Block.updCh_conv (s : Nat) (f : ChCell → ChCell) : (b.updCh s f).conv = b.conv := rfl
@[simp] theorem Block.updCh_adc (s : Nat) (f : ChCell → ChCell) : (b.updCh s f).adc = b.adc := rfl
@[simp] theorem Block.updCh_ptp (s : Nat) (f : ChCell → ChCell) : (b.updCh s f).ptp = b.ptp := rfl
@[simp] theorem Block.updCh_dma (s : Nat) (f : ChCell → ChCell) : (b.updCh s f).dma = b.dma := rfl
@[simp] theorem Block.updCh_safe (s : Nat) (f : ChCell → ChCell) : (b.updCh s f).safe = b.safe := rfl
@[simp] theorem Block.updCh_pow (s : Nat) (f : ChCell → ChCell) : (b.updCh s f).pow = b.pow := rfl
@[simp] theorem Block.updCh_boot (s : Nat) (f : ChCell → ChCell) : (b.updCh s f).boot = b.boot := rfl
@[simp] theorem Block.updCh_pair (s : Nat) (f : ChCell → ChCell) : (b.updCh s f).pair = b.pair := rfl
@[simp] theorem Block.updCh_clk (s : Nat) (f : ChCell → ChCell) : (b.updCh s f).clk = b.clk := rfl
@[simp] theorem Block.updCh_draws (s : Nat) (f : ChCell → ChCell) : (b.updCh s f).draws = b.draws := rfl
@[simp] theorem Block.updCh_out (s : Nat) (f : ChCell → ChCell) : (b.updCh s f).out = b.out := rfl
@[simp] theorem Block.updCh_rd (s : Nat) (f : ChCell → ChCell) (r : Field) : (b.updCh s f).rd r = b.rd r := rfl

/-! ### `Block.updArm` -/

@[simp] theorem Block.updArm_regs (k : Nat) (f : ArmK → ArmK) : (b.updArm k f).regs = b.regs := rfl
@[simp] theorem Block.updArm_frozen (k : Nat) (f : ArmK → ArmK) : (b.updArm k f).frozen = b.frozen := rfl
@[simp] theorem Block.updArm_tb (k : Nat) (f : ArmK → ArmK) : (b.updArm k f).tb = b.tb := rfl
@[simp] theorem Block.updArm_strk (k : Nat) (f : ArmK → ArmK) : (b.updArm k f).strk = b.strk := rfl
@[simp] theorem Block.updArm_cst (k : Nat) (f : ArmK → ArmK) : (b.updArm k f).cst = b.cst := rfl
@[simp] theorem Block.updArm_jv (k : Nat) (f : ArmK → ArmK) : (b.updArm k f).jv = b.jv := rfl
@[simp] theorem Block.updArm_evt (k : Nat) (f : ArmK → ArmK) : (b.updArm k f).evt = b.evt := rfl
@[simp] theorem Block.updArm_lv (k : Nat) (f : ArmK → ArmK) : (b.updArm k f).lv = b.lv := rfl
@[simp] theorem Block.updArm_lanes (k : Nat) (f : ArmK → ArmK) : (b.updArm k f).lanes = b.lanes := rfl
@[simp] theorem Block.updArm_cells (k : Nat) (f : ArmK → ArmK) : (b.updArm k f).cells = b.cells := rfl
@[simp] theorem Block.updArm_ctxs (k : Nat) (f : ArmK → ArmK) : (b.updArm k f).ctxs = b.ctxs := rfl
@[simp] theorem Block.updArm_chs (k : Nat) (f : ArmK → ArmK) : (b.updArm k f).chs = b.chs := rfl
@[simp] theorem Block.updArm_adc (k : Nat) (f : ArmK → ArmK) : (b.updArm k f).adc = b.adc := rfl
@[simp] theorem Block.updArm_ptp (k : Nat) (f : ArmK → ArmK) : (b.updArm k f).ptp = b.ptp := rfl
@[simp] theorem Block.updArm_dma (k : Nat) (f : ArmK → ArmK) : (b.updArm k f).dma = b.dma := rfl
@[simp] theorem Block.updArm_safe (k : Nat) (f : ArmK → ArmK) : (b.updArm k f).safe = b.safe := rfl
@[simp] theorem Block.updArm_pow (k : Nat) (f : ArmK → ArmK) : (b.updArm k f).pow = b.pow := rfl
@[simp] theorem Block.updArm_boot (k : Nat) (f : ArmK → ArmK) : (b.updArm k f).boot = b.boot := rfl
@[simp] theorem Block.updArm_pair (k : Nat) (f : ArmK → ArmK) : (b.updArm k f).pair = b.pair := rfl
@[simp] theorem Block.updArm_clk (k : Nat) (f : ArmK → ArmK) : (b.updArm k f).clk = b.clk := rfl
@[simp] theorem Block.updArm_draws (k : Nat) (f : ArmK → ArmK) : (b.updArm k f).draws = b.draws := rfl
@[simp] theorem Block.updArm_out (k : Nat) (f : ArmK → ArmK) : (b.updArm k f).out = b.out := rfl
@[simp] theorem Block.updArm_rd (k : Nat) (f : ArmK → ArmK) (r : Field) : (b.updArm k f).rd r = b.rd r := rfl

/-! ### `Block.updRecov` -/

@[simp] theorem Block.updRecov_regs (k : Nat) (f : Recov → Recov) : (b.updRecov k f).regs = b.regs := rfl
@[simp] theorem Block.updRecov_frozen (k : Nat) (f : Recov → Recov) : (b.updRecov k f).frozen = b.frozen := rfl
@[simp] theorem Block.updRecov_tb (k : Nat) (f : Recov → Recov) : (b.updRecov k f).tb = b.tb := rfl
@[simp] theorem Block.updRecov_strk (k : Nat) (f : Recov → Recov) : (b.updRecov k f).strk = b.strk := rfl
@[simp] theorem Block.updRecov_cst (k : Nat) (f : Recov → Recov) : (b.updRecov k f).cst = b.cst := rfl
@[simp] theorem Block.updRecov_jv (k : Nat) (f : Recov → Recov) : (b.updRecov k f).jv = b.jv := rfl
@[simp] theorem Block.updRecov_lv (k : Nat) (f : Recov → Recov) : (b.updRecov k f).lv = b.lv := rfl
@[simp] theorem Block.updRecov_lanes (k : Nat) (f : Recov → Recov) : (b.updRecov k f).lanes = b.lanes := rfl
@[simp] theorem Block.updRecov_cells (k : Nat) (f : Recov → Recov) : (b.updRecov k f).cells = b.cells := rfl
@[simp] theorem Block.updRecov_ctxs (k : Nat) (f : Recov → Recov) : (b.updRecov k f).ctxs = b.ctxs := rfl
@[simp] theorem Block.updRecov_chs (k : Nat) (f : Recov → Recov) : (b.updRecov k f).chs = b.chs := rfl
@[simp] theorem Block.updRecov_conv (k : Nat) (f : Recov → Recov) : (b.updRecov k f).conv = b.conv := rfl
@[simp] theorem Block.updRecov_adc (k : Nat) (f : Recov → Recov) : (b.updRecov k f).adc = b.adc := rfl
@[simp] theorem Block.updRecov_ptp (k : Nat) (f : Recov → Recov) : (b.updRecov k f).ptp = b.ptp := rfl
@[simp] theorem Block.updRecov_dma (k : Nat) (f : Recov → Recov) : (b.updRecov k f).dma = b.dma := rfl
@[simp] theorem Block.updRecov_safe (k : Nat) (f : Recov → Recov) : (b.updRecov k f).safe = b.safe := rfl
@[simp] theorem Block.updRecov_pow (k : Nat) (f : Recov → Recov) : (b.updRecov k f).pow = b.pow := rfl
@[simp] theorem Block.updRecov_boot (k : Nat) (f : Recov → Recov) : (b.updRecov k f).boot = b.boot := rfl
@[simp] theorem Block.updRecov_pair (k : Nat) (f : Recov → Recov) : (b.updRecov k f).pair = b.pair := rfl
@[simp] theorem Block.updRecov_clk (k : Nat) (f : Recov → Recov) : (b.updRecov k f).clk = b.clk := rfl
@[simp] theorem Block.updRecov_draws (k : Nat) (f : Recov → Recov) : (b.updRecov k f).draws = b.draws := rfl
@[simp] theorem Block.updRecov_out (k : Nat) (f : Recov → Recov) : (b.updRecov k f).out = b.out := rfl
@[simp] theorem Block.updRecov_rd (k : Nat) (f : Recov → Recov) (r : Field) : (b.updRecov k f).rd r = b.rd r := rfl

/-! ### `Block.updConv` -/

@[simp] theorem Block.updConv_regs (f : ConvSt → ConvSt) : (b.updConv f).regs = b.regs := rfl
@[simp] theorem Block.updConv_frozen (f : ConvSt → ConvSt) : (b.updConv f).frozen = b.frozen := rfl
@[simp] theorem Block.updConv_tb (f : ConvSt → ConvSt) : (b.updConv f).tb = b.tb := rfl
@[simp] theorem Block.updConv_strk (f : ConvSt → ConvSt) : (b.updConv f).strk = b.strk := rfl
@[simp] theorem Block.updConv_cst (f : ConvSt → ConvSt) : (b.updConv f).cst = b.cst := rfl
@[simp] theorem Block.updConv_jv (f : ConvSt → ConvSt) : (b.updConv f).jv = b.jv := rfl
@[simp] theorem Block.updConv_evt (f : ConvSt → ConvSt) : (b.updConv f).evt = b.evt := rfl
@[simp] theorem Block.updConv_lv (f : ConvSt → ConvSt) : (b.updConv f).lv = b.lv := rfl
@[simp] theorem Block.updConv_lanes (f : ConvSt → ConvSt) : (b.updConv f).lanes = b.lanes := rfl
@[simp] theorem Block.updConv_cells (f : ConvSt → ConvSt) : (b.updConv f).cells = b.cells := rfl
@[simp] theorem Block.updConv_ctxs (f : ConvSt → ConvSt) : (b.updConv f).ctxs = b.ctxs := rfl
@[simp] theorem Block.updConv_chs (f : ConvSt → ConvSt) : (b.updConv f).chs = b.chs := rfl
@[simp] theorem Block.updConv_adc (f : ConvSt → ConvSt) : (b.updConv f).adc = b.adc := rfl
@[simp] theorem Block.updConv_ptp (f : ConvSt → ConvSt) : (b.updConv f).ptp = b.ptp := rfl
@[simp] theorem Block.updConv_dma (f : ConvSt → ConvSt) : (b.updConv f).dma = b.dma := rfl
@[simp] theorem Block.updConv_safe (f : ConvSt → ConvSt) : (b.updConv f).safe = b.safe := rfl
@[simp] theorem Block.updConv_pow (f : ConvSt → ConvSt) : (b.updConv f).pow = b.pow := rfl
@[simp] theorem Block.updConv_boot (f : ConvSt → ConvSt) : (b.updConv f).boot = b.boot := rfl
@[simp] theorem Block.updConv_pair (f : ConvSt → ConvSt) : (b.updConv f).pair = b.pair := rfl
@[simp] theorem Block.updConv_clk (f : ConvSt → ConvSt) : (b.updConv f).clk = b.clk := rfl
@[simp] theorem Block.updConv_draws (f : ConvSt → ConvSt) : (b.updConv f).draws = b.draws := rfl
@[simp] theorem Block.updConv_out (f : ConvSt → ConvSt) : (b.updConv f).out = b.out := rfl
@[simp] theorem Block.updConv_rd (f : ConvSt → ConvSt) (r : Field) : (b.updConv f).rd r = b.rd r := rfl
@[simp] theorem Block.updConv_conv (f : ConvSt → ConvSt) : (b.updConv f).conv = f b.conv := rfl

/-! ### `Block.updSafe` -/

@[simp] theorem Block.updSafe_regs (f : SafeSt → SafeSt) : (b.updSafe f).regs = b.regs := rfl
@[simp] theorem Block.updSafe_frozen (f : SafeSt → SafeSt) : (b.updSafe f).frozen = b.frozen := rfl
@[simp] theorem Block.updSafe_tb (f : SafeSt → SafeSt) : (b.updSafe f).tb = b.tb := rfl
@[simp] theorem Block.updSafe_strk (f : SafeSt → SafeSt) : (b.updSafe f).strk = b.strk := rfl
@[simp] theorem Block.updSafe_cst (f : SafeSt → SafeSt) : (b.updSafe f).cst = b.cst := rfl
@[simp] theorem Block.updSafe_jv (f : SafeSt → SafeSt) : (b.updSafe f).jv = b.jv := rfl
@[simp] theorem Block.updSafe_evt (f : SafeSt → SafeSt) : (b.updSafe f).evt = b.evt := rfl
@[simp] theorem Block.updSafe_lv (f : SafeSt → SafeSt) : (b.updSafe f).lv = b.lv := rfl
@[simp] theorem Block.updSafe_lanes (f : SafeSt → SafeSt) : (b.updSafe f).lanes = b.lanes := rfl
@[simp] theorem Block.updSafe_cells (f : SafeSt → SafeSt) : (b.updSafe f).cells = b.cells := rfl
@[simp] theorem Block.updSafe_ctxs (f : SafeSt → SafeSt) : (b.updSafe f).ctxs = b.ctxs := rfl
@[simp] theorem Block.updSafe_chs (f : SafeSt → SafeSt) : (b.updSafe f).chs = b.chs := rfl
@[simp] theorem Block.updSafe_conv (f : SafeSt → SafeSt) : (b.updSafe f).conv = b.conv := rfl
@[simp] theorem Block.updSafe_adc (f : SafeSt → SafeSt) : (b.updSafe f).adc = b.adc := rfl
@[simp] theorem Block.updSafe_ptp (f : SafeSt → SafeSt) : (b.updSafe f).ptp = b.ptp := rfl
@[simp] theorem Block.updSafe_dma (f : SafeSt → SafeSt) : (b.updSafe f).dma = b.dma := rfl
@[simp] theorem Block.updSafe_pow (f : SafeSt → SafeSt) : (b.updSafe f).pow = b.pow := rfl
@[simp] theorem Block.updSafe_boot (f : SafeSt → SafeSt) : (b.updSafe f).boot = b.boot := rfl
@[simp] theorem Block.updSafe_pair (f : SafeSt → SafeSt) : (b.updSafe f).pair = b.pair := rfl
@[simp] theorem Block.updSafe_clk (f : SafeSt → SafeSt) : (b.updSafe f).clk = b.clk := rfl
@[simp] theorem Block.updSafe_draws (f : SafeSt → SafeSt) : (b.updSafe f).draws = b.draws := rfl
@[simp] theorem Block.updSafe_out (f : SafeSt → SafeSt) : (b.updSafe f).out = b.out := rfl
@[simp] theorem Block.updSafe_rd (f : SafeSt → SafeSt) (r : Field) : (b.updSafe f).rd r = b.rd r := rfl
@[simp] theorem Block.updSafe_safe (f : SafeSt → SafeSt) : (b.updSafe f).safe = f b.safe := rfl

/-! ### `Block.updPair` -/

@[simp] theorem Block.updPair_regs (f : PairSt → PairSt) : (b.updPair f).regs = b.regs := rfl
@[simp] theorem Block.updPair_frozen (f : PairSt → PairSt) : (b.updPair f).frozen = b.frozen := rfl
@[simp] theorem Block.updPair_tb (f : PairSt → PairSt) : (b.updPair f).tb = b.tb := rfl
@[simp] theorem Block.updPair_strk (f : PairSt → PairSt) : (b.updPair f).strk = b.strk := rfl
@[simp] theorem Block.updPair_cst (f : PairSt → PairSt) : (b.updPair f).cst = b.cst := rfl
@[simp] theorem Block.updPair_jv (f : PairSt → PairSt) : (b.updPair f).jv = b.jv := rfl
@[simp] theorem Block.updPair_evt (f : PairSt → PairSt) : (b.updPair f).evt = b.evt := rfl
@[simp] theorem Block.updPair_lv (f : PairSt → PairSt) : (b.updPair f).lv = b.lv := rfl
@[simp] theorem Block.updPair_lanes (f : PairSt → PairSt) : (b.updPair f).lanes = b.lanes := rfl
@[simp] theorem Block.updPair_cells (f : PairSt → PairSt) : (b.updPair f).cells = b.cells := rfl
@[simp] theorem Block.updPair_ctxs (f : PairSt → PairSt) : (b.updPair f).ctxs = b.ctxs := rfl
@[simp] theorem Block.updPair_chs (f : PairSt → PairSt) : (b.updPair f).chs = b.chs := rfl
@[simp] theorem Block.updPair_conv (f : PairSt → PairSt) : (b.updPair f).conv = b.conv := rfl
@[simp] theorem Block.updPair_adc (f : PairSt → PairSt) : (b.updPair f).adc = b.adc := rfl
@[simp] theorem Block.updPair_ptp (f : PairSt → PairSt) : (b.updPair f).ptp = b.ptp := rfl
@[simp] theorem Block.updPair_dma (f : PairSt → PairSt) : (b.updPair f).dma = b.dma := rfl
@[simp] theorem Block.updPair_safe (f : PairSt → PairSt) : (b.updPair f).safe = b.safe := rfl
@[simp] theorem Block.updPair_pow (f : PairSt → PairSt) : (b.updPair f).pow = b.pow := rfl
@[simp] theorem Block.updPair_boot (f : PairSt → PairSt) : (b.updPair f).boot = b.boot := rfl
@[simp] theorem Block.updPair_clk (f : PairSt → PairSt) : (b.updPair f).clk = b.clk := rfl
@[simp] theorem Block.updPair_draws (f : PairSt → PairSt) : (b.updPair f).draws = b.draws := rfl
@[simp] theorem Block.updPair_out (f : PairSt → PairSt) : (b.updPair f).out = b.out := rfl
@[simp] theorem Block.updPair_rd (f : PairSt → PairSt) (r : Field) : (b.updPair f).rd r = b.rd r := rfl
@[simp] theorem Block.updPair_pair (f : PairSt → PairSt) : (b.updPair f).pair = f b.pair := rfl

/-! ### `Block.updStrk` -/

@[simp] theorem Block.updStrk_regs (f : StrokeSt → StrokeSt) : (b.updStrk f).regs = b.regs := rfl
@[simp] theorem Block.updStrk_frozen (f : StrokeSt → StrokeSt) : (b.updStrk f).frozen = b.frozen := rfl
@[simp] theorem Block.updStrk_tb (f : StrokeSt → StrokeSt) : (b.updStrk f).tb = b.tb := rfl
@[simp] theorem Block.updStrk_cst (f : StrokeSt → StrokeSt) : (b.updStrk f).cst = b.cst := rfl
@[simp] theorem Block.updStrk_jv (f : StrokeSt → StrokeSt) : (b.updStrk f).jv = b.jv := rfl
@[simp] theorem Block.updStrk_evt (f : StrokeSt → StrokeSt) : (b.updStrk f).evt = b.evt := rfl
@[simp] theorem Block.updStrk_lv (f : StrokeSt → StrokeSt) : (b.updStrk f).lv = b.lv := rfl
@[simp] theorem Block.updStrk_lanes (f : StrokeSt → StrokeSt) : (b.updStrk f).lanes = b.lanes := rfl
@[simp] theorem Block.updStrk_cells (f : StrokeSt → StrokeSt) : (b.updStrk f).cells = b.cells := rfl
@[simp] theorem Block.updStrk_ctxs (f : StrokeSt → StrokeSt) : (b.updStrk f).ctxs = b.ctxs := rfl
@[simp] theorem Block.updStrk_chs (f : StrokeSt → StrokeSt) : (b.updStrk f).chs = b.chs := rfl
@[simp] theorem Block.updStrk_conv (f : StrokeSt → StrokeSt) : (b.updStrk f).conv = b.conv := rfl
@[simp] theorem Block.updStrk_adc (f : StrokeSt → StrokeSt) : (b.updStrk f).adc = b.adc := rfl
@[simp] theorem Block.updStrk_ptp (f : StrokeSt → StrokeSt) : (b.updStrk f).ptp = b.ptp := rfl
@[simp] theorem Block.updStrk_dma (f : StrokeSt → StrokeSt) : (b.updStrk f).dma = b.dma := rfl
@[simp] theorem Block.updStrk_safe (f : StrokeSt → StrokeSt) : (b.updStrk f).safe = b.safe := rfl
@[simp] theorem Block.updStrk_pow (f : StrokeSt → StrokeSt) : (b.updStrk f).pow = b.pow := rfl
@[simp] theorem Block.updStrk_boot (f : StrokeSt → StrokeSt) : (b.updStrk f).boot = b.boot := rfl
@[simp] theorem Block.updStrk_pair (f : StrokeSt → StrokeSt) : (b.updStrk f).pair = b.pair := rfl
@[simp] theorem Block.updStrk_clk (f : StrokeSt → StrokeSt) : (b.updStrk f).clk = b.clk := rfl
@[simp] theorem Block.updStrk_draws (f : StrokeSt → StrokeSt) : (b.updStrk f).draws = b.draws := rfl
@[simp] theorem Block.updStrk_out (f : StrokeSt → StrokeSt) : (b.updStrk f).out = b.out := rfl
@[simp] theorem Block.updStrk_rd (f : StrokeSt → StrokeSt) (r : Field) : (b.updStrk f).rd r = b.rd r := rfl
@[simp] theorem Block.updStrk_strk (f : StrokeSt → StrokeSt) : (b.updStrk f).strk = f b.strk := rfl

/-! ### `Block.updCst` -/

@[simp] theorem Block.updCst_regs (f : CastSt → CastSt) : (b.updCst f).regs = b.regs := rfl
@[simp] theorem Block.updCst_frozen (f : CastSt → CastSt) : (b.updCst f).frozen = b.frozen := rfl
@[simp] theorem Block.updCst_tb (f : CastSt → CastSt) : (b.updCst f).tb = b.tb := rfl
@[simp] theorem Block.updCst_strk (f : CastSt → CastSt) : (b.updCst f).strk = b.strk := rfl
@[simp] theorem Block.updCst_jv (f : CastSt → CastSt) : (b.updCst f).jv = b.jv := rfl
@[simp] theorem Block.updCst_evt (f : CastSt → CastSt) : (b.updCst f).evt = b.evt := rfl
@[simp] theorem Block.updCst_lv (f : CastSt → CastSt) : (b.updCst f).lv = b.lv := rfl
@[simp] theorem Block.updCst_lanes (f : CastSt → CastSt) : (b.updCst f).lanes = b.lanes := rfl
@[simp] theorem Block.updCst_cells (f : CastSt → CastSt) : (b.updCst f).cells = b.cells := rfl
@[simp] theorem Block.updCst_ctxs (f : CastSt → CastSt) : (b.updCst f).ctxs = b.ctxs := rfl
@[simp] theorem Block.updCst_chs (f : CastSt → CastSt) : (b.updCst f).chs = b.chs := rfl
@[simp] theorem Block.updCst_conv (f : CastSt → CastSt) : (b.updCst f).conv = b.conv := rfl
@[simp] theorem Block.updCst_adc (f : CastSt → CastSt) : (b.updCst f).adc = b.adc := rfl
@[simp] theorem Block.updCst_ptp (f : CastSt → CastSt) : (b.updCst f).ptp = b.ptp := rfl
@[simp] theorem Block.updCst_dma (f : CastSt → CastSt) : (b.updCst f).dma = b.dma := rfl
@[simp] theorem Block.updCst_safe (f : CastSt → CastSt) : (b.updCst f).safe = b.safe := rfl
@[simp] theorem Block.updCst_pow (f : CastSt → CastSt) : (b.updCst f).pow = b.pow := rfl
@[simp] theorem Block.updCst_boot (f : CastSt → CastSt) : (b.updCst f).boot = b.boot := rfl
@[simp] theorem Block.updCst_pair (f : CastSt → CastSt) : (b.updCst f).pair = b.pair := rfl
@[simp] theorem Block.updCst_clk (f : CastSt → CastSt) : (b.updCst f).clk = b.clk := rfl
@[simp] theorem Block.updCst_draws (f : CastSt → CastSt) : (b.updCst f).draws = b.draws := rfl
@[simp] theorem Block.updCst_out (f : CastSt → CastSt) : (b.updCst f).out = b.out := rfl
@[simp] theorem Block.updCst_rd (f : CastSt → CastSt) (r : Field) : (b.updCst f).rd r = b.rd r := rfl
@[simp] theorem Block.updCst_cst (f : CastSt → CastSt) : (b.updCst f).cst = f b.cst := rfl

/-! ### `Block.updEvt` -/

@[simp] theorem Block.updEvt_regs (f : EvtSt → EvtSt) : (b.updEvt f).regs = b.regs := rfl
@[simp] theorem Block.updEvt_frozen (f : EvtSt → EvtSt) : (b.updEvt f).frozen = b.frozen := rfl
@[simp] theorem Block.updEvt_tb (f : EvtSt → EvtSt) : (b.updEvt f).tb = b.tb := rfl
@[simp] theorem Block.updEvt_strk (f : EvtSt → EvtSt) : (b.updEvt f).strk = b.strk := rfl
@[simp] theorem Block.updEvt_cst (f : EvtSt → EvtSt) : (b.updEvt f).cst = b.cst := rfl
@[simp] theorem Block.updEvt_jv (f : EvtSt → EvtSt) : (b.updEvt f).jv = b.jv := rfl
@[simp] theorem Block.updEvt_lv (f : EvtSt → EvtSt) : (b.updEvt f).lv = b.lv := rfl
@[simp] theorem Block.updEvt_lanes (f : EvtSt → EvtSt) : (b.updEvt f).lanes = b.lanes := rfl
@[simp] theorem Block.updEvt_cells (f : EvtSt → EvtSt) : (b.updEvt f).cells = b.cells := rfl
@[simp] theorem Block.updEvt_ctxs (f : EvtSt → EvtSt) : (b.updEvt f).ctxs = b.ctxs := rfl
@[simp] theorem Block.updEvt_chs (f : EvtSt → EvtSt) : (b.updEvt f).chs = b.chs := rfl
@[simp] theorem Block.updEvt_conv (f : EvtSt → EvtSt) : (b.updEvt f).conv = b.conv := rfl
@[simp] theorem Block.updEvt_adc (f : EvtSt → EvtSt) : (b.updEvt f).adc = b.adc := rfl
@[simp] theorem Block.updEvt_ptp (f : EvtSt → EvtSt) : (b.updEvt f).ptp = b.ptp := rfl
@[simp] theorem Block.updEvt_dma (f : EvtSt → EvtSt) : (b.updEvt f).dma = b.dma := rfl
@[simp] theorem Block.updEvt_safe (f : EvtSt → EvtSt) : (b.updEvt f).safe = b.safe := rfl
@[simp] theorem Block.updEvt_pow (f : EvtSt → EvtSt) : (b.updEvt f).pow = b.pow := rfl
@[simp] theorem Block.updEvt_boot (f : EvtSt → EvtSt) : (b.updEvt f).boot = b.boot := rfl
@[simp] theorem Block.updEvt_pair (f : EvtSt → EvtSt) : (b.updEvt f).pair = b.pair := rfl
@[simp] theorem Block.updEvt_clk (f : EvtSt → EvtSt) : (b.updEvt f).clk = b.clk := rfl
@[simp] theorem Block.updEvt_draws (f : EvtSt → EvtSt) : (b.updEvt f).draws = b.draws := rfl
@[simp] theorem Block.updEvt_out (f : EvtSt → EvtSt) : (b.updEvt f).out = b.out := rfl
@[simp] theorem Block.updEvt_rd (f : EvtSt → EvtSt) (r : Field) : (b.updEvt f).rd r = b.rd r := rfl
@[simp] theorem Block.updEvt_evt (f : EvtSt → EvtSt) : (b.updEvt f).evt = f b.evt := rfl

/-! ### `Block.updBoot` -/

@[simp] theorem Block.updBoot_regs (f : BootSt → BootSt) : (b.updBoot f).regs = b.regs := rfl
@[simp] theorem Block.updBoot_frozen (f : BootSt → BootSt) : (b.updBoot f).frozen = b.frozen := rfl
@[simp] theorem Block.updBoot_tb (f : BootSt → BootSt) : (b.updBoot f).tb = b.tb := rfl
@[simp] theorem Block.updBoot_strk (f : BootSt → BootSt) : (b.updBoot f).strk = b.strk := rfl
@[simp] theorem Block.updBoot_cst (f : BootSt → BootSt) : (b.updBoot f).cst = b.cst := rfl
@[simp] theorem Block.updBoot_jv (f : BootSt → BootSt) : (b.updBoot f).jv = b.jv := rfl
@[simp] theorem Block.updBoot_evt (f : BootSt → BootSt) : (b.updBoot f).evt = b.evt := rfl
@[simp] theorem Block.updBoot_lv (f : BootSt → BootSt) : (b.updBoot f).lv = b.lv := rfl
@[simp] theorem Block.updBoot_lanes (f : BootSt → BootSt) : (b.updBoot f).lanes = b.lanes := rfl
@[simp] theorem Block.updBoot_cells (f : BootSt → BootSt) : (b.updBoot f).cells = b.cells := rfl
@[simp] theorem Block.updBoot_ctxs (f : BootSt → BootSt) : (b.updBoot f).ctxs = b.ctxs := rfl
@[simp] theorem Block.updBoot_chs (f : BootSt → BootSt) : (b.updBoot f).chs = b.chs := rfl
@[simp] theorem Block.updBoot_conv (f : BootSt → BootSt) : (b.updBoot f).conv = b.conv := rfl
@[simp] theorem Block.updBoot_adc (f : BootSt → BootSt) : (b.updBoot f).adc = b.adc := rfl
@[simp] theorem Block.updBoot_ptp (f : BootSt → BootSt) : (b.updBoot f).ptp = b.ptp := rfl
@[simp] theorem Block.updBoot_dma (f : BootSt → BootSt) : (b.updBoot f).dma = b.dma := rfl
@[simp] theorem Block.updBoot_safe (f : BootSt → BootSt) : (b.updBoot f).safe = b.safe := rfl
@[simp] theorem Block.updBoot_pow (f : BootSt → BootSt) : (b.updBoot f).pow = b.pow := rfl
@[simp] theorem Block.updBoot_pair (f : BootSt → BootSt) : (b.updBoot f).pair = b.pair := rfl
@[simp] theorem Block.updBoot_clk (f : BootSt → BootSt) : (b.updBoot f).clk = b.clk := rfl
@[simp] theorem Block.updBoot_draws (f : BootSt → BootSt) : (b.updBoot f).draws = b.draws := rfl
@[simp] theorem Block.updBoot_out (f : BootSt → BootSt) : (b.updBoot f).out = b.out := rfl
@[simp] theorem Block.updBoot_rd (f : BootSt → BootSt) (r : Field) : (b.updBoot f).rd r = b.rd r := rfl
@[simp] theorem Block.updBoot_boot (f : BootSt → BootSt) : (b.updBoot f).boot = f b.boot := rfl

/-! ### `Block.updDma` -/

@[simp] theorem Block.updDma_regs (f : DmaSt → DmaSt) : (b.updDma f).regs = b.regs := rfl
@[simp] theorem Block.updDma_frozen (f : DmaSt → DmaSt) : (b.updDma f).frozen = b.frozen := rfl
@[simp] theorem Block.updDma_tb (f : DmaSt → DmaSt) : (b.updDma f).tb = b.tb := rfl
@[simp] theorem Block.updDma_strk (f : DmaSt → DmaSt) : (b.updDma f).strk = b.strk := rfl
@[simp] theorem Block.updDma_cst (f : DmaSt → DmaSt) : (b.updDma f).cst = b.cst := rfl
@[simp] theorem Block.updDma_jv (f : DmaSt → DmaSt) : (b.updDma f).jv = b.jv := rfl
@[simp] theorem Block.updDma_evt (f : DmaSt → DmaSt) : (b.updDma f).evt = b.evt := rfl
@[simp] theorem Block.updDma_lv (f : DmaSt → DmaSt) : (b.updDma f).lv = b.lv := rfl
@[simp] theorem Block.updDma_lanes (f : DmaSt → DmaSt) : (b.updDma f).lanes = b.lanes := rfl
@[simp] theorem Block.updDma_cells (f : DmaSt → DmaSt) : (b.updDma f).cells = b.cells := rfl
@[simp] theorem Block.updDma_ctxs (f : DmaSt → DmaSt) : (b.updDma f).ctxs = b.ctxs := rfl
@[simp] theorem Block.updDma_chs (f : DmaSt → DmaSt) : (b.updDma f).chs = b.chs := rfl
@[simp] theorem Block.updDma_conv (f : DmaSt → DmaSt) : (b.updDma f).conv = b.conv := rfl
@[simp] theorem Block.updDma_adc (f : DmaSt → DmaSt) : (b.updDma f).adc = b.adc := rfl
@[simp] theorem Block.updDma_ptp (f : DmaSt → DmaSt) : (b.updDma f).ptp = b.ptp := rfl
@[simp] theorem Block.updDma_safe (f : DmaSt → DmaSt) : (b.updDma f).safe = b.safe := rfl
@[simp] theorem Block.updDma_pow (f : DmaSt → DmaSt) : (b.updDma f).pow = b.pow := rfl
@[simp] theorem Block.updDma_boot (f : DmaSt → DmaSt) : (b.updDma f).boot = b.boot := rfl
@[simp] theorem Block.updDma_pair (f : DmaSt → DmaSt) : (b.updDma f).pair = b.pair := rfl
@[simp] theorem Block.updDma_clk (f : DmaSt → DmaSt) : (b.updDma f).clk = b.clk := rfl
@[simp] theorem Block.updDma_draws (f : DmaSt → DmaSt) : (b.updDma f).draws = b.draws := rfl
@[simp] theorem Block.updDma_out (f : DmaSt → DmaSt) : (b.updDma f).out = b.out := rfl
@[simp] theorem Block.updDma_rd (f : DmaSt → DmaSt) (r : Field) : (b.updDma f).rd r = b.rd r := rfl
@[simp] theorem Block.updDma_dma (f : DmaSt → DmaSt) : (b.updDma f).dma = f b.dma := rfl

/-! ### `Block.updPow` -/

@[simp] theorem Block.updPow_regs (f : PowerSt → PowerSt) : (b.updPow f).regs = b.regs := rfl
@[simp] theorem Block.updPow_frozen (f : PowerSt → PowerSt) : (b.updPow f).frozen = b.frozen := rfl
@[simp] theorem Block.updPow_tb (f : PowerSt → PowerSt) : (b.updPow f).tb = b.tb := rfl
@[simp] theorem Block.updPow_strk (f : PowerSt → PowerSt) : (b.updPow f).strk = b.strk := rfl
@[simp] theorem Block.updPow_cst (f : PowerSt → PowerSt) : (b.updPow f).cst = b.cst := rfl
@[simp] theorem Block.updPow_jv (f : PowerSt → PowerSt) : (b.updPow f).jv = b.jv := rfl
@[simp] theorem Block.updPow_evt (f : PowerSt → PowerSt) : (b.updPow f).evt = b.evt := rfl
@[simp] theorem Block.updPow_lv (f : PowerSt → PowerSt) : (b.updPow f).lv = b.lv := rfl
@[simp] theorem Block.updPow_lanes (f : PowerSt → PowerSt) : (b.updPow f).lanes = b.lanes := rfl
@[simp] theorem Block.updPow_cells (f : PowerSt → PowerSt) : (b.updPow f).cells = b.cells := rfl
@[simp] theorem Block.updPow_ctxs (f : PowerSt → PowerSt) : (b.updPow f).ctxs = b.ctxs := rfl
@[simp] theorem Block.updPow_chs (f : PowerSt → PowerSt) : (b.updPow f).chs = b.chs := rfl
@[simp] theorem Block.updPow_conv (f : PowerSt → PowerSt) : (b.updPow f).conv = b.conv := rfl
@[simp] theorem Block.updPow_adc (f : PowerSt → PowerSt) : (b.updPow f).adc = b.adc := rfl
@[simp] theorem Block.updPow_ptp (f : PowerSt → PowerSt) : (b.updPow f).ptp = b.ptp := rfl
@[simp] theorem Block.updPow_dma (f : PowerSt → PowerSt) : (b.updPow f).dma = b.dma := rfl
@[simp] theorem Block.updPow_safe (f : PowerSt → PowerSt) : (b.updPow f).safe = b.safe := rfl
@[simp] theorem Block.updPow_boot (f : PowerSt → PowerSt) : (b.updPow f).boot = b.boot := rfl
@[simp] theorem Block.updPow_pair (f : PowerSt → PowerSt) : (b.updPow f).pair = b.pair := rfl
@[simp] theorem Block.updPow_clk (f : PowerSt → PowerSt) : (b.updPow f).clk = b.clk := rfl
@[simp] theorem Block.updPow_draws (f : PowerSt → PowerSt) : (b.updPow f).draws = b.draws := rfl
@[simp] theorem Block.updPow_out (f : PowerSt → PowerSt) : (b.updPow f).out = b.out := rfl
@[simp] theorem Block.updPow_rd (f : PowerSt → PowerSt) (r : Field) : (b.updPow f).rd r = b.rd r := rfl
@[simp] theorem Block.updPow_pow (f : PowerSt → PowerSt) : (b.updPow f).pow = f b.pow := rfl

/-! ### `Block.updCells` -/

@[simp] theorem Block.updCells_regs (f : CellsSt → CellsSt) : (b.updCells f).regs = b.regs := rfl
@[simp] theorem Block.updCells_frozen (f : CellsSt → CellsSt) : (b.updCells f).frozen = b.frozen := rfl
@[simp] theorem Block.updCells_tb (f : CellsSt → CellsSt) : (b.updCells f).tb = b.tb := rfl
@[simp] theorem Block.updCells_strk (f : CellsSt → CellsSt) : (b.updCells f).strk = b.strk := rfl
@[simp] theorem Block.updCells_cst (f : CellsSt → CellsSt) : (b.updCells f).cst = b.cst := rfl
@[simp] theorem Block.updCells_jv (f : CellsSt → CellsSt) : (b.updCells f).jv = b.jv := rfl
@[simp] theorem Block.updCells_evt (f : CellsSt → CellsSt) : (b.updCells f).evt = b.evt := rfl
@[simp] theorem Block.updCells_lv (f : CellsSt → CellsSt) : (b.updCells f).lv = b.lv := rfl
@[simp] theorem Block.updCells_lanes (f : CellsSt → CellsSt) : (b.updCells f).lanes = b.lanes := rfl
@[simp] theorem Block.updCells_ctxs (f : CellsSt → CellsSt) : (b.updCells f).ctxs = b.ctxs := rfl
@[simp] theorem Block.updCells_chs (f : CellsSt → CellsSt) : (b.updCells f).chs = b.chs := rfl
@[simp] theorem Block.updCells_conv (f : CellsSt → CellsSt) : (b.updCells f).conv = b.conv := rfl
@[simp] theorem Block.updCells_adc (f : CellsSt → CellsSt) : (b.updCells f).adc = b.adc := rfl
@[simp] theorem Block.updCells_ptp (f : CellsSt → CellsSt) : (b.updCells f).ptp = b.ptp := rfl
@[simp] theorem Block.updCells_dma (f : CellsSt → CellsSt) : (b.updCells f).dma = b.dma := rfl
@[simp] theorem Block.updCells_safe (f : CellsSt → CellsSt) : (b.updCells f).safe = b.safe := rfl
@[simp] theorem Block.updCells_pow (f : CellsSt → CellsSt) : (b.updCells f).pow = b.pow := rfl
@[simp] theorem Block.updCells_boot (f : CellsSt → CellsSt) : (b.updCells f).boot = b.boot := rfl
@[simp] theorem Block.updCells_pair (f : CellsSt → CellsSt) : (b.updCells f).pair = b.pair := rfl
@[simp] theorem Block.updCells_clk (f : CellsSt → CellsSt) : (b.updCells f).clk = b.clk := rfl
@[simp] theorem Block.updCells_draws (f : CellsSt → CellsSt) : (b.updCells f).draws = b.draws := rfl
@[simp] theorem Block.updCells_out (f : CellsSt → CellsSt) : (b.updCells f).out = b.out := rfl
@[simp] theorem Block.updCells_rd (f : CellsSt → CellsSt) (r : Field) : (b.updCells f).rd r = b.rd r := rfl
@[simp] theorem Block.updCells_cells (f : CellsSt → CellsSt) : (b.updCells f).cells = f b.cells := rfl

/-! ### `Block.updLv` -/

@[simp] theorem Block.updLv_regs (f : LvSt → LvSt) : (b.updLv f).regs = b.regs := rfl
@[simp] theorem Block.updLv_frozen (f : LvSt → LvSt) : (b.updLv f).frozen = b.frozen := rfl
@[simp] theorem Block.updLv_tb (f : LvSt → LvSt) : (b.updLv f).tb = b.tb := rfl
@[simp] theorem Block.updLv_strk (f : LvSt → LvSt) : (b.updLv f).strk = b.strk := rfl
@[simp] theorem Block.updLv_cst (f : LvSt → LvSt) : (b.updLv f).cst = b.cst := rfl
@[simp] theorem Block.updLv_jv (f : LvSt → LvSt) : (b.updLv f).jv = b.jv := rfl
@[simp] theorem Block.updLv_evt (f : LvSt → LvSt) : (b.updLv f).evt = b.evt := rfl
@[simp] theorem Block.updLv_lanes (f : LvSt → LvSt) : (b.updLv f).lanes = b.lanes := rfl
@[simp] theorem Block.updLv_cells (f : LvSt → LvSt) : (b.updLv f).cells = b.cells := rfl
@[simp] theorem Block.updLv_ctxs (f : LvSt → LvSt) : (b.updLv f).ctxs = b.ctxs := rfl
@[simp] theorem Block.updLv_chs (f : LvSt → LvSt) : (b.updLv f).chs = b.chs := rfl
@[simp] theorem Block.updLv_conv (f : LvSt → LvSt) : (b.updLv f).conv = b.conv := rfl
@[simp] theorem Block.updLv_adc (f : LvSt → LvSt) : (b.updLv f).adc = b.adc := rfl
@[simp] theorem Block.updLv_ptp (f : LvSt → LvSt) : (b.updLv f).ptp = b.ptp := rfl
@[simp] theorem Block.updLv_dma (f : LvSt → LvSt) : (b.updLv f).dma = b.dma := rfl
@[simp] theorem Block.updLv_safe (f : LvSt → LvSt) : (b.updLv f).safe = b.safe := rfl
@[simp] theorem Block.updLv_pow (f : LvSt → LvSt) : (b.updLv f).pow = b.pow := rfl
@[simp] theorem Block.updLv_boot (f : LvSt → LvSt) : (b.updLv f).boot = b.boot := rfl
@[simp] theorem Block.updLv_pair (f : LvSt → LvSt) : (b.updLv f).pair = b.pair := rfl
@[simp] theorem Block.updLv_clk (f : LvSt → LvSt) : (b.updLv f).clk = b.clk := rfl
@[simp] theorem Block.updLv_draws (f : LvSt → LvSt) : (b.updLv f).draws = b.draws := rfl
@[simp] theorem Block.updLv_out (f : LvSt → LvSt) : (b.updLv f).out = b.out := rfl
@[simp] theorem Block.updLv_rd (f : LvSt → LvSt) (r : Field) : (b.updLv f).rd r = b.rd r := rfl
@[simp] theorem Block.updLv_lv (f : LvSt → LvSt) : (b.updLv f).lv = f b.lv := rfl

/-! ### `Block.updAdc` -/

@[simp] theorem Block.updAdc_regs (f : AdcSt → AdcSt) : (b.updAdc f).regs = b.regs := rfl
@[simp] theorem Block.updAdc_frozen (f : AdcSt → AdcSt) : (b.updAdc f).frozen = b.frozen := rfl
@[simp] theorem Block.updAdc_tb (f : AdcSt → AdcSt) : (b.updAdc f).tb = b.tb := rfl
@[simp] theorem Block.updAdc_strk (f : AdcSt → AdcSt) : (b.updAdc f).strk = b.strk := rfl
@[simp] theorem Block.updAdc_cst (f : AdcSt → AdcSt) : (b.updAdc f).cst = b.cst := rfl
@[simp] theorem Block.updAdc_jv (f : AdcSt → AdcSt) : (b.updAdc f).jv = b.jv := rfl
@[simp] theorem Block.updAdc_evt (f : AdcSt → AdcSt) : (b.updAdc f).evt = b.evt := rfl
@[simp] theorem Block.updAdc_lv (f : AdcSt → AdcSt) : (b.updAdc f).lv = b.lv := rfl
@[simp] theorem Block.updAdc_lanes (f : AdcSt → AdcSt) : (b.updAdc f).lanes = b.lanes := rfl
@[simp] theorem Block.updAdc_cells (f : AdcSt → AdcSt) : (b.updAdc f).cells = b.cells := rfl
@[simp] theorem Block.updAdc_ctxs (f : AdcSt → AdcSt) : (b.updAdc f).ctxs = b.ctxs := rfl
@[simp] theorem Block.updAdc_chs (f : AdcSt → AdcSt) : (b.updAdc f).chs = b.chs := rfl
@[simp] theorem Block.updAdc_conv (f : AdcSt → AdcSt) : (b.updAdc f).conv = b.conv := rfl
@[simp] theorem Block.updAdc_ptp (f : AdcSt → AdcSt) : (b.updAdc f).ptp = b.ptp := rfl
@[simp] theorem Block.updAdc_dma (f : AdcSt → AdcSt) : (b.updAdc f).dma = b.dma := rfl
@[simp] theorem Block.updAdc_safe (f : AdcSt → AdcSt) : (b.updAdc f).safe = b.safe := rfl
@[simp] theorem Block.updAdc_pow (f : AdcSt → AdcSt) : (b.updAdc f).pow = b.pow := rfl
@[simp] theorem Block.updAdc_boot (f : AdcSt → AdcSt) : (b.updAdc f).boot = b.boot := rfl
@[simp] theorem Block.updAdc_pair (f : AdcSt → AdcSt) : (b.updAdc f).pair = b.pair := rfl
@[simp] theorem Block.updAdc_clk (f : AdcSt → AdcSt) : (b.updAdc f).clk = b.clk := rfl
@[simp] theorem Block.updAdc_draws (f : AdcSt → AdcSt) : (b.updAdc f).draws = b.draws := rfl
@[simp] theorem Block.updAdc_out (f : AdcSt → AdcSt) : (b.updAdc f).out = b.out := rfl
@[simp] theorem Block.updAdc_rd (f : AdcSt → AdcSt) (r : Field) : (b.updAdc f).rd r = b.rd r := rfl
@[simp] theorem Block.updAdc_adc (f : AdcSt → AdcSt) : (b.updAdc f).adc = f b.adc := rfl

/-! ### `Block.updPtp` -/

@[simp] theorem Block.updPtp_regs (f : PtpSt → PtpSt) : (b.updPtp f).regs = b.regs := rfl
@[simp] theorem Block.updPtp_frozen (f : PtpSt → PtpSt) : (b.updPtp f).frozen = b.frozen := rfl
@[simp] theorem Block.updPtp_tb (f : PtpSt → PtpSt) : (b.updPtp f).tb = b.tb := rfl
@[simp] theorem Block.updPtp_strk (f : PtpSt → PtpSt) : (b.updPtp f).strk = b.strk := rfl
@[simp] theorem Block.updPtp_cst (f : PtpSt → PtpSt) : (b.updPtp f).cst = b.cst := rfl
@[simp] theorem Block.updPtp_jv (f : PtpSt → PtpSt) : (b.updPtp f).jv = b.jv := rfl
@[simp] theorem Block.updPtp_evt (f : PtpSt → PtpSt) : (b.updPtp f).evt = b.evt := rfl
@[simp] theorem Block.updPtp_lv (f : PtpSt → PtpSt) : (b.updPtp f).lv = b.lv := rfl
@[simp] theorem Block.updPtp_lanes (f : PtpSt → PtpSt) : (b.updPtp f).lanes = b.lanes := rfl
@[simp] theorem Block.updPtp_cells (f : PtpSt → PtpSt) : (b.updPtp f).cells = b.cells := rfl
@[simp] theorem Block.updPtp_ctxs (f : PtpSt → PtpSt) : (b.updPtp f).ctxs = b.ctxs := rfl
@[simp] theorem Block.updPtp_chs (f : PtpSt → PtpSt) : (b.updPtp f).chs = b.chs := rfl
@[simp] theorem Block.updPtp_conv (f : PtpSt → PtpSt) : (b.updPtp f).conv = b.conv := rfl
@[simp] theorem Block.updPtp_adc (f : PtpSt → PtpSt) : (b.updPtp f).adc = b.adc := rfl
@[simp] theorem Block.updPtp_dma (f : PtpSt → PtpSt) : (b.updPtp f).dma = b.dma := rfl
@[simp] theorem Block.updPtp_safe (f : PtpSt → PtpSt) : (b.updPtp f).safe = b.safe := rfl
@[simp] theorem Block.updPtp_pow (f : PtpSt → PtpSt) : (b.updPtp f).pow = b.pow := rfl
@[simp] theorem Block.updPtp_boot (f : PtpSt → PtpSt) : (b.updPtp f).boot = b.boot := rfl
@[simp] theorem Block.updPtp_pair (f : PtpSt → PtpSt) : (b.updPtp f).pair = b.pair := rfl
@[simp] theorem Block.updPtp_clk (f : PtpSt → PtpSt) : (b.updPtp f).clk = b.clk := rfl
@[simp] theorem Block.updPtp_draws (f : PtpSt → PtpSt) : (b.updPtp f).draws = b.draws := rfl
@[simp] theorem Block.updPtp_out (f : PtpSt → PtpSt) : (b.updPtp f).out = b.out := rfl
@[simp] theorem Block.updPtp_rd (f : PtpSt → PtpSt) (r : Field) : (b.updPtp f).rd r = b.rd r := rfl
@[simp] theorem Block.updPtp_ptp (f : PtpSt → PtpSt) : (b.updPtp f).ptp = f b.ptp := rfl

/-! ### `Block.updTb` -/

@[simp] theorem Block.updTb_regs (f : TimeBase → TimeBase) : (b.updTb f).regs = b.regs := rfl
@[simp] theorem Block.updTb_frozen (f : TimeBase → TimeBase) : (b.updTb f).frozen = b.frozen := rfl
@[simp] theorem Block.updTb_strk (f : TimeBase → TimeBase) : (b.updTb f).strk = b.strk := rfl
@[simp] theorem Block.updTb_cst (f : TimeBase → TimeBase) : (b.updTb f).cst = b.cst := rfl
@[simp] theorem Block.updTb_jv (f : TimeBase → TimeBase) : (b.updTb f).jv = b.jv := rfl
@[simp] theorem Block.updTb_evt (f : TimeBase → TimeBase) : (b.updTb f).evt = b.evt := rfl
@[simp] theorem Block.updTb_lv (f : TimeBase → TimeBase) : (b.updTb f).lv = b.lv := rfl
@[simp] theorem Block.updTb_lanes (f : TimeBase → TimeBase) : (b.updTb f).lanes = b.lanes := rfl
@[simp] theorem Block.updTb_cells (f : TimeBase → TimeBase) : (b.updTb f).cells = b.cells := rfl
@[simp] theorem Block.updTb_ctxs (f : TimeBase → TimeBase) : (b.updTb f).ctxs = b.ctxs := rfl
@[simp] theorem Block.updTb_chs (f : TimeBase → TimeBase) : (b.updTb f).chs = b.chs := rfl
@[simp] theorem Block.updTb_conv (f : TimeBase → TimeBase) : (b.updTb f).conv = b.conv := rfl
@[simp] theorem Block.updTb_adc (f : TimeBase → TimeBase) : (b.updTb f).adc = b.adc := rfl
@[simp] theorem Block.updTb_ptp (f : TimeBase → TimeBase) : (b.updTb f).ptp = b.ptp := rfl
@[simp] theorem Block.updTb_dma (f : TimeBase → TimeBase) : (b.updTb f).dma = b.dma := rfl
@[simp] theorem Block.updTb_safe (f : TimeBase → TimeBase) : (b.updTb f).safe = b.safe := rfl
@[simp] theorem Block.updTb_pow (f : TimeBase → TimeBase) : (b.updTb f).pow = b.pow := rfl
@[simp] theorem Block.updTb_boot (f : TimeBase → TimeBase) : (b.updTb f).boot = b.boot := rfl
@[simp] theorem Block.updTb_pair (f : TimeBase → TimeBase) : (b.updTb f).pair = b.pair := rfl
@[simp] theorem Block.updTb_clk (f : TimeBase → TimeBase) : (b.updTb f).clk = b.clk := rfl
@[simp] theorem Block.updTb_draws (f : TimeBase → TimeBase) : (b.updTb f).draws = b.draws := rfl
@[simp] theorem Block.updTb_out (f : TimeBase → TimeBase) : (b.updTb f).out = b.out := rfl
@[simp] theorem Block.updTb_rd (f : TimeBase → TimeBase) (r : Field) : (b.updTb f).rd r = b.rd r := rfl
@[simp] theorem Block.updTb_tb (f : TimeBase → TimeBase) : (b.updTb f).tb = f b.tb := rfl

/-! ### `Block.updJv` -/

@[simp] theorem Block.updJv_regs (f : JarvasSt → JarvasSt) : (b.updJv f).regs = b.regs := rfl
@[simp] theorem Block.updJv_frozen (f : JarvasSt → JarvasSt) : (b.updJv f).frozen = b.frozen := rfl
@[simp] theorem Block.updJv_tb (f : JarvasSt → JarvasSt) : (b.updJv f).tb = b.tb := rfl
@[simp] theorem Block.updJv_strk (f : JarvasSt → JarvasSt) : (b.updJv f).strk = b.strk := rfl
@[simp] theorem Block.updJv_cst (f : JarvasSt → JarvasSt) : (b.updJv f).cst = b.cst := rfl
@[simp] theorem Block.updJv_evt (f : JarvasSt → JarvasSt) : (b.updJv f).evt = b.evt := rfl
@[simp] theorem Block.updJv_lv (f : JarvasSt → JarvasSt) : (b.updJv f).lv = b.lv := rfl
@[simp] theorem Block.updJv_lanes (f : JarvasSt → JarvasSt) : (b.updJv f).lanes = b.lanes := rfl
@[simp] theorem Block.updJv_cells (f : JarvasSt → JarvasSt) : (b.updJv f).cells = b.cells := rfl
@[simp] theorem Block.updJv_ctxs (f : JarvasSt → JarvasSt) : (b.updJv f).ctxs = b.ctxs := rfl
@[simp] theorem Block.updJv_chs (f : JarvasSt → JarvasSt) : (b.updJv f).chs = b.chs := rfl
@[simp] theorem Block.updJv_conv (f : JarvasSt → JarvasSt) : (b.updJv f).conv = b.conv := rfl
@[simp] theorem Block.updJv_adc (f : JarvasSt → JarvasSt) : (b.updJv f).adc = b.adc := rfl
@[simp] theorem Block.updJv_ptp (f : JarvasSt → JarvasSt) : (b.updJv f).ptp = b.ptp := rfl
@[simp] theorem Block.updJv_dma (f : JarvasSt → JarvasSt) : (b.updJv f).dma = b.dma := rfl
@[simp] theorem Block.updJv_safe (f : JarvasSt → JarvasSt) : (b.updJv f).safe = b.safe := rfl
@[simp] theorem Block.updJv_pow (f : JarvasSt → JarvasSt) : (b.updJv f).pow = b.pow := rfl
@[simp] theorem Block.updJv_boot (f : JarvasSt → JarvasSt) : (b.updJv f).boot = b.boot := rfl
@[simp] theorem Block.updJv_pair (f : JarvasSt → JarvasSt) : (b.updJv f).pair = b.pair := rfl
@[simp] theorem Block.updJv_clk (f : JarvasSt → JarvasSt) : (b.updJv f).clk = b.clk := rfl
@[simp] theorem Block.updJv_draws (f : JarvasSt → JarvasSt) : (b.updJv f).draws = b.draws := rfl
@[simp] theorem Block.updJv_out (f : JarvasSt → JarvasSt) : (b.updJv f).out = b.out := rfl
@[simp] theorem Block.updJv_rd (f : JarvasSt → JarvasSt) (r : Field) : (b.updJv f).rd r = b.rd r := rfl
@[simp] theorem Block.updJv_jv (f : JarvasSt → JarvasSt) : (b.updJv f).jv = f b.jv := rfl

/-! ### The state -/

@[simp] theorem State.onBlk_next (f : Block → Block) (s : State) : s.onBlk f = .next { s with blk := f s.blk } := rfl

end Sys2Proof.Machine
end

