-- ==== Sys2Proof/Laws/Bank.lean ====
section
/-! SUPPORT. Sparse collections and banks of register fields: what a write leaves readable, and the canonical form
    that every write keeps. -/

namespace Sys2Proof.Machine

/-! ### Reading back -/

theorem SMap.look_erase_same {α : Type} (d : α) (i : Nat) (m : SMap α) : SMap.look d (SMap.erase i m) i = d := by
  induction m with
  | nil => rfl
  | cons e r ih =>
    unfold SMap.erase
    split
    · exact ih
    · next h => rw [SMap.look, if_neg h, ih]

theorem SMap.look_erase_ne {α : Type} (d : α) (i j : Nat) (m : SMap α) (h : j ≠ i) :
    SMap.look d (SMap.erase i m) j = SMap.look d m j := by
  induction m with
  | nil => rfl
  | cons e r ih =>
    unfold SMap.erase
    split
    · next he => rw [ih, SMap.look, if_neg (fun hj : e.1 = j => h (hj ▸ he))]
    · rw [SMap.look, SMap.look, ih]

theorem SMap.look_insert_same {α : Type} (d : α) (i : Nat) (v : α) (m : SMap α) :
    SMap.look d (SMap.insert i v (SMap.erase i m)) i = v := by
  induction m with
  | nil => simp [SMap.erase, SMap.insert, SMap.look]
  | cons e r ih =>
    unfold SMap.erase
    split
    · exact ih
    · next h =>
      unfold SMap.insert
      split
      · simp [SMap.look]
      · rw [SMap.look, if_neg h, ih]

theorem SMap.look_insert_ne {α : Type} (d : α) (i j : Nat) (v : α) (m : SMap α) (h : j ≠ i) :
    SMap.look d (SMap.insert i v m) j = SMap.look d m j := by
  induction m with
  | nil => simp [SMap.insert, SMap.look, Ne.symm h]
  | cons e r ih =>
    unfold SMap.insert
    split
    · rw [SMap.look, if_neg (Ne.symm h)]
    · rw [SMap.look, SMap.look, ih]

theorem SMap.look_store_same {α : Type} [DecidableEq α] (d : α) (i : Nat) (v : α) (m : SMap α) :
    SMap.look d (SMap.store d i v m) i = v := by
  unfold SMap.store
  split
  · next h => rw [SMap.look_erase_same, h]
  · exact SMap.look_insert_same d i v m

theorem SMap.look_store_ne {α : Type} [DecidableEq α] (d : α) (i j : Nat) (v : α) (m : SMap α) (h : j ≠ i) :
    SMap.look d (SMap.store d i v m) j = SMap.look d m j := by
  unfold SMap.store
  split
  · exact SMap.look_erase_ne d i j m h
  · rw [SMap.look_insert_ne d i j v _ h, SMap.look_erase_ne d i j m h]

/-- A field of a bank reads as what was written, cut to its width. -/
theorem Bank.fld_setFld_same (f : Field) (v : Nat) (m : Bank) : Bank.fld (Bank.setFld f v m) f = v % 2 ^ f.width :=
  SMap.look_store_same _ _ _ _

/-- A write to one field leaves every field at another place as it was. -/
theorem Bank.fld_setFld_ne (f g : Field) (v : Nat) (m : Bank) (h : g.key ≠ f.key) :
    Bank.fld (Bank.setFld f v m) g = Bank.fld m g := by
  unfold Bank.fld Bank.setFld SMap.store
  split
  · exact SMap.look_erase_ne _ _ _ _ h
  · rw [SMap.look_insert_ne _ _ _ _ _ h, SMap.look_erase_ne _ _ _ _ h]

theorem Block.rd_wr_same (f : Field) (v : Nat) (b : Block) : (b.wr f v).rd f = v % 2 ^ f.width :=
  Bank.fld_setFld_same f v b.regs

theorem Block.rd_wr_ne (f g : Field) (v : Nat) (b : Block) (h : g.key ≠ f.key) : (b.wr f v).rd g = b.rd g :=
  Bank.fld_setFld_ne f g v b.regs h

theorem Block.rd_flag_same (f : Field) (p : Bool) (b : Block) (h : 0 < f.width) :
    (b.flag f p).rd f = if p then 1 else 0 := by
  have : 1 < 2 ^ f.width := Nat.one_lt_two_pow (by omega)
  rw [Block.flag, Block.rd_wr_same]
  split
  · exact Nat.mod_eq_of_lt this
  · exact Nat.zero_mod _

theorem Block.on_flag_same (f : Field) (p : Bool) (b : Block) (h : 0 < f.width) : (b.flag f p).on f = p := by
  rw [Block.on, Block.rd_flag_same f p b h]; cases p <;> rfl

theorem Block.rd_flag_ne (f g : Field) (p : Bool) (b : Block) (h : g.key ≠ f.key) : (b.flag f p).rd g = b.rd g :=
  Block.rd_wr_ne f g _ b h

theorem Block.rd_count_same (f : Field) (n : Nat) (b : Block) (h : b.rd f + n < 2 ^ f.width) :
    (b.count f n).rd f = b.rd f + n := by
  rw [Block.count, Block.rd_wr_same, satNat, if_pos h, Nat.mod_eq_of_lt h]

theorem Block.rd_count_ne (f g : Field) (n : Nat) (b : Block) (h : g.key ≠ f.key) : (b.count f n).rd g = b.rd g :=
  Block.rd_wr_ne f g _ b h

theorem Block.rd_bump_ne (f g : Field) (b : Block) (h : g.key ≠ f.key) : (b.bump f).rd g = b.rd g :=
  Block.rd_wr_ne f g _ b h

theorem Block.rd_wrS_ne (f g : Field) (x : Int) (b : Block) (h : g.key ≠ f.key) : (b.wrS f x).rd g = b.rd g :=
  Block.rd_wr_ne f g _ b h

theorem Block.rd_setBit_ne (f g : Field) (i : Nat) (p : Bool) (b : Block) (h : g.key ≠ f.key) :
    (b.setBit f i p).rd g = b.rd g :=
  Block.rd_wr_ne f g _ b h

theorem Block.rd_wr64_ne (lo hi g : Field) (v : Nat) (b : Block) (h : g.key ≠ lo.key) (h' : g.key ≠ hi.key) :
    (b.wr64 lo hi v).rd g = b.rd g := by
  rw [Block.wr64, Block.rd_wr_ne _ _ _ _ h', Block.rd_wr_ne _ _ _ _ h]

/-! ### Units -/

theorem Block.leg_updLeg_same (b : Block) (l : Nat) (f : Leg → Leg) : (b.updLeg l f).leg l = f (b.leg l) :=
  SMap.look_store_same _ _ _ _

theorem Block.port_updPort_same (b : Block) (p : Nat) (f : PortSt → PortSt) : (b.updPort p f).port p = f (b.port p) :=
  SMap.look_store_same _ _ _ _

theorem Block.lane_updLane_same (b : Block) (l : Nat) (f : Lane → Lane) : (b.updLane l f).lane l = f (b.lane l) :=
  SMap.look_store_same _ _ _ _

theorem Block.cell_updCell_same (b : Block) (s : Nat) (f : Cell → Cell) : (b.updCell s f).cell s = f (b.cell s) :=
  SMap.look_store_same _ _ _ _

theorem Block.ctx_updCtx_same (b : Block) (c : Nat) (f : Ctx → Ctx) : (b.updCtx c f).ctx c = f (b.ctx c) :=
  SMap.look_store_same _ _ _ _

theorem Block.recov_updRecov_same (b : Block) (k : Nat) (f : Recov → Recov) :
    (b.updRecov k f).recov k = f (b.recov k) :=
  SMap.look_store_same _ _ _ _

theorem Block.recov_updRecov_ne (b : Block) (j k : Nat) (f : Recov → Recov) (h : j ≠ k) :
    (b.updRecov k f).recov j = b.recov j :=
  SMap.look_store_ne _ _ _ _ _ h

theorem Block.lane_updLane_ne (b : Block) (i j : Nat) (f : Lane → Lane) (h : j ≠ i) :
    (b.updLane i f).lane j = b.lane j :=
  SMap.look_store_ne _ _ _ _ _ h

theorem Block.cell_updCell_ne (b : Block) (i j : Nat) (f : Cell → Cell) (h : j ≠ i) :
    (b.updCell i f).cell j = b.cell j :=
  SMap.look_store_ne _ _ _ _ _ h

/-! ### The canonical form -/

theorem SMap.erase_mem {α : Type} (i : Nat) (m : SMap α) (e : Nat × α) :
    e ∈ SMap.erase i m ↔ e ∈ m ∧ e.1 ≠ i := by
  induction m with
  | nil => simp [SMap.erase]
  | cons a r ih =>
    unfold SMap.erase
    split <;> simp only [List.mem_cons, ih]
    · next h =>
      constructor
      · exact fun ⟨p, q⟩ => ⟨.inr p, q⟩
      · rintro ⟨rfl | p, q⟩
        · exact absurd h q
        · exact ⟨p, q⟩
    · next h =>
      constructor
      · rintro (rfl | ⟨p, q⟩)
        · exact ⟨.inl rfl, h⟩
        · exact ⟨.inr p, q⟩
      · rintro ⟨rfl | p, q⟩
        · exact .inl rfl
        · exact .inr ⟨p, q⟩

theorem SMap.insert_mem {α : Type} (i : Nat) (v : α) (m : SMap α) (e : Nat × α) :
    e ∈ SMap.insert i v m ↔ e = (i, v) ∨ e ∈ m := by
  induction m with
  | nil => simp [SMap.insert]
  | cons a r ih =>
    unfold SMap.insert
    split
    · simp
    · simp only [List.mem_cons, ih]; tauto

/-- The keys rise strictly: the same said of every pair of entries. -/
theorem SMap.sorted_iff {α : Type} (m : SMap α) :
    SMap.sorted m = true ↔ List.Pairwise (fun x y : Nat × α => x.1 < y.1) m := by
  induction m with
  | nil => simp [SMap.sorted]
  | cons a r ih =>
    cases r with
    | nil => simp [SMap.sorted]
    | cons c r =>
      rw [SMap.sorted, Bool.and_eq_true, ih, decide_eq_true_eq, List.pairwise_cons (a := a)]
      refine and_congr_left fun p => ⟨fun h x hx => ?_, fun h => h c List.mem_cons_self⟩
      rcases List.mem_cons.mp hx with rfl | hx
      · exact h
      · exact Nat.lt_trans h ((List.pairwise_cons.mp p).1 x hx)

theorem SMap.erase_sublist {α : Type} (i : Nat) (m : SMap α) : (SMap.erase i m).Sublist m := by
  induction m with
  | nil => exact List.Sublist.slnil
  | cons e r ih =>
    unfold SMap.erase
    split
    · exact List.Sublist.cons _ ih
    · exact List.Sublist.cons_cons _ ih

theorem SMap.sorted_erase {α : Type} (i : Nat) (m : SMap α) (h : SMap.sorted m = true) :
    SMap.sorted (SMap.erase i m) = true :=
  (SMap.sorted_iff _).2 (((SMap.sorted_iff _).1 h).sublist (SMap.erase_sublist i m))

theorem SMap.sorted_insert {α : Type} (i : Nat) (v : α) (m : SMap α) (h : SMap.sorted m = true)
    (hi : ∀ e ∈ m, e.1 ≠ i) : SMap.sorted (SMap.insert i v m) = true := by
  rw [SMap.sorted_iff] at h ⊢
  induction m with
  | nil => exact List.pairwise_singleton _ _
  | cons a r ih =>
    have ha := List.pairwise_cons.mp h
    have hne := hi a List.mem_cons_self
    unfold SMap.insert
    split
    · next hlt =>
      refine List.pairwise_cons.mpr ⟨fun x hx => ?_, h⟩
      rcases List.mem_cons.mp hx with rfl | hx
      · exact hlt
      · exact Nat.lt_trans hlt (ha.1 x hx)
    · next hlt =>
      refine List.pairwise_cons.mpr ⟨fun x hx => ?_, ih ha.2 fun e he => hi e (List.mem_cons_of_mem _ he)⟩
      rcases (SMap.insert_mem i v r x).mp hx with rfl | hx
      · exact Nat.lt_of_le_of_ne (Nat.le_of_not_lt hlt) hne
      · exact ha.1 x hx

/-- A store keeps the keys rising. -/
theorem SMap.sorted_store {α : Type} [DecidableEq α] (d : α) (i : Nat) (v : α) (m : SMap α)
    (h : SMap.sorted m = true) : SMap.sorted (SMap.store d i v m) = true := by
  unfold SMap.store
  split
  · exact SMap.sorted_erase i m h
  · exact SMap.sorted_insert i v _ (SMap.sorted_erase i m h) fun e he => ((SMap.erase_mem i m e).mp he).2

theorem Bank.wf_nil : Bank.wf [] := ⟨rfl, fun _ h => absurd h List.not_mem_nil⟩

/-- Writing a field of the register map keeps a bank in its canonical form. -/
theorem Bank.wf_setFld (f : Field) (v : Nat) (m : Bank) (hf : fieldOfKey f.key = some f) (h : Bank.wf m) :
    Bank.wf (Bank.setFld f v m) := by
  refine ⟨SMap.sorted_store _ _ _ _ h.1, fun e he => ?_⟩
  unfold Bank.setFld SMap.store at he
  split at he
  · exact h.2 e ((SMap.erase_mem _ _ _).mp he).1
  · next hv =>
    rcases (SMap.insert_mem _ _ _ _).mp he with rfl | he
    · simpa [hf] using fun hr => hv hr.symm
    · exact h.2 e ((SMap.erase_mem _ _ _).mp he).1

end Sys2Proof.Machine
end

