-- ==== Sys2Proof/Laws/Serve.lean ====
section
/-! SUPPORT. A Jarvas command at its turn (R64 to R68): what serving it comes to, and what ending it leaves as it was. -/

namespace Sys2Proof.Machine

/-- The command at its turn is at the head of the queue. -/
theorem AtTurn.queue {b : Block} {rq : Req} {op : Nat} (h : AtTurn b rq op) :
    ∃ r, b.jv.queue = { req := rq, op := BitVec.ofNat 8 op, wait := .turn, disarmed := false } :: r := by
  obtain ⟨-, h⟩ := h
  cases hq : b.jv.queue with
  | nil => simp [hq] at h
  | cons q r => exact ⟨r, by simpa [hq] using h⟩

theorem Block.serve_atTurn {b : Block} {rq : Req} {op : Nat} (h : AtTurn b rq op) (hop : op < 256) {touches : Bool}
    (f : Block → Block × Ans) : b.serve rq op true touches f = b.execute touches f := by
  obtain ⟨r, hq⟩ := h.queue
  have hc := h.1
  have : (BitVec.ofNat 8 op).toNat = op := by simp; omega
  simp [Block.serve, hc, hq, this]

theorem Block.execute_done {b c : Block} {touches : Bool} {f : Block → Block × Ans} {st d : Nat} {p : List Byte}
    (hr : (touches && b.resyncing) = false) (hf : f b = (c, .done st d p)) : b.execute touches f = c.finish st d p := by
  simp [Block.execute, hr, hf]

theorem Block.execute_wait {b c : Block} {touches : Bool} {f : Block → Block × Ans} {w : Wait}
    (hr : (touches && b.resyncing) = false) (hf : f b = (c, .wait w)) : b.execute touches f = c.waitFor w := by
  simp [Block.execute, hr, hf]

/-- What the end of the command at the head of the queue comes to. -/
theorem Block.finish_head {b : Block} {q : QCmd} {r : List QCmd} {st d : Nat} {p : List Byte}
    (hq : b.jv.queue = q :: r) (hw : q.wait ≠ .castOrphan) :
    Answered b (b.finish st d p) q.req q.op.toNat st d p := by
  unfold Block.finish
  rw [hq]
  simp only [hw, if_false]
  refine ⟨?_, ?_, ?_, ?_⟩
  · rw [hq]; rfl
  · rw [Block.send, Block.rd_flag_ne _ _ _ _ (by decide), Block.emit_rd, Block.updJv_rd, Block.updJv_rd,
      Block.rd_flag_ne _ _ _ _ (by decide), Block.rd_wr_same]
    exact Nat.mod_eq_of_lt q.req.seq.isLt
  · rw [Block.on, Block.send, Block.rd_flag_ne _ _ _ _ (by decide), Block.emit_rd, Block.updJv_rd, Block.updJv_rd,
      Block.rd_flag_same _ _ _ (by decide)]
    rfl
  · exact ⟨_, rfl, rfl, rfl, rfl, rfl, rfl, rfl⟩

theorem Block.finish_rd {b : Block} {st d : Nat} {p : List Byte} {g : Field} (hg : g.key ∉ endFields.map Field.key) :
    (b.finish st d p).rd g = b.rd g := by
  have h1 : g.key ≠ Reg.SYS_SEQ_LAST_SEQ.key := fun h => hg (by rw [h]; decide)
  have h2 : g.key ≠ Reg.SYS_CMD_STAT_SEQ_VALID.key := fun h => hg (by rw [h]; decide)
  have h3 : g.key ≠ Reg.SYS_CMD_STAT_RESTARTED.key := fun h => hg (by rw [h]; decide)
  unfold Block.finish
  split
  · rfl
  · simp only
    split
    · rw [Block.updJv_rd, Block.rd_flag_ne _ _ _ _ h2, Block.rd_wr_ne _ _ _ _ h1]
    · rw [Block.send, Block.rd_flag_ne _ _ _ _ h3, Block.emit_rd, Block.updJv_rd, Block.updJv_rd,
        Block.rd_flag_ne _ _ _ _ h2, Block.rd_wr_ne _ _ _ _ h1]

/-- A command at its turn that is carried out at once ends with its reply. -/
theorem Block.serve_done {b c : Block} {rq : Req} {op : Nat} (h : AtTurn b rq op) (hop : op < 256) {touches : Bool}
    {f : Block → Block × Ans} {st d : Nat} {p : List Byte} (hr : (touches && b.resyncing) = false)
    (hf : f b = (c, .done st d p)) (hq : c.jv.queue = b.jv.queue) :
    b.serve rq op true touches f = c.finish st d p ∧ Answered b (b.serve rq op true touches f) rq op st d p := by
  have he : b.serve rq op true touches f = c.finish st d p :=
    (Block.serve_atTurn h hop f).trans (Block.execute_done hr hf)
  refine ⟨he, ?_⟩
  obtain ⟨r, hb⟩ := h.queue
  have := Block.finish_head (st := st) (d := d) (p := p) (hq.trans hb) (by simp)
  rw [he]
  have ho : (BitVec.ofNat 8 op).toNat = op := by simp; omega
  simpa [Answered, hq, ho] using this

/-- A command at its turn whose effect ends later waits, and sends no reply yet. -/
theorem Block.serve_wait {b c : Block} {rq : Req} {op : Nat} (h : AtTurn b rq op) (hop : op < 256) {touches : Bool}
    {f : Block → Block × Ans} {w : Wait} (hr : (touches && b.resyncing) = false) (hf : f b = (c, .wait w))
    (hq : c.jv.queue = b.jv.queue) (ho : c.out = b.out) :
    b.serve rq op true touches f = c.waitFor w ∧ Waits b (b.serve rq op true touches f) w := by
  have he : b.serve rq op true touches f = c.waitFor w :=
    (Block.serve_atTurn h hop f).trans (Block.execute_wait hr hf)
  refine ⟨he, ?_⟩
  obtain ⟨r, hb⟩ := h.queue
  rw [he]
  have hc := hq.trans hb
  simp [Waits, Block.waitFor, Block.headWait, hc, hb, ho]

/-! ### What the end of a command leaves as it was -/

@[simp] theorem Block.finish_frozen {b : Block} {st d : Nat} {p : List Byte} : (b.finish st d p).frozen = b.frozen := by
  unfold Block.finish; repeat' split
  all_goals rfl

@[simp] theorem Block.finish_tb {b : Block} {st d : Nat} {p : List Byte} : (b.finish st d p).tb = b.tb := by
  unfold Block.finish; repeat' split
  all_goals rfl

@[simp] theorem Block.finish_strk {b : Block} {st d : Nat} {p : List Byte} : (b.finish st d p).strk = b.strk := by
  unfold Block.finish; repeat' split
  all_goals rfl

@[simp] theorem Block.finish_cst {b : Block} {st d : Nat} {p : List Byte} : (b.finish st d p).cst = b.cst := by
  unfold Block.finish; repeat' split
  all_goals rfl

@[simp] theorem Block.finish_evt {b : Block} {st d : Nat} {p : List Byte} : (b.finish st d p).evt = b.evt := by
  unfold Block.finish; repeat' split
  all_goals rfl

@[simp] theorem Block.finish_lv {b : Block} {st d : Nat} {p : List Byte} : (b.finish st d p).lv = b.lv := by
  unfold Block.finish; repeat' split
  all_goals rfl

@[simp] theorem Block.finish_lanes {b : Block} {st d : Nat} {p : List Byte} : (b.finish st d p).lanes = b.lanes := by
  unfold Block.finish; repeat' split
  all_goals rfl

@[simp] theorem Block.finish_cells {b : Block} {st d : Nat} {p : List Byte} : (b.finish st d p).cells = b.cells := by
  unfold Block.finish; repeat' split
  all_goals rfl

@[simp] theorem Block.finish_ctxs {b : Block} {st d : Nat} {p : List Byte} : (b.finish st d p).ctxs = b.ctxs := by
  unfold Block.finish; repeat' split
  all_goals rfl

@[simp] theorem Block.finish_chs {b : Block} {st d : Nat} {p : List Byte} : (b.finish st d p).chs = b.chs := by
  unfold Block.finish; repeat' split
  all_goals rfl

@[simp] theorem Block.finish_conv {b : Block} {st d : Nat} {p : List Byte} : (b.finish st d p).conv = b.conv := by
  unfold Block.finish; repeat' split
  all_goals rfl

@[simp] theorem Block.finish_adc {b : Block} {st d : Nat} {p : List Byte} : (b.finish st d p).adc = b.adc := by
  unfold Block.finish; repeat' split
  all_goals rfl

@[simp] theorem Block.finish_ptp {b : Block} {st d : Nat} {p : List Byte} : (b.finish st d p).ptp = b.ptp := by
  unfold Block.finish; repeat' split
  all_goals rfl

@[simp] theorem Block.finish_dma {b : Block} {st d : Nat} {p : List Byte} : (b.finish st d p).dma = b.dma := by
  unfold Block.finish; repeat' split
  all_goals rfl

@[simp] theorem Block.finish_safe {b : Block} {st d : Nat} {p : List Byte} : (b.finish st d p).safe = b.safe := by
  unfold Block.finish; repeat' split
  all_goals rfl

@[simp] theorem Block.finish_pow {b : Block} {st d : Nat} {p : List Byte} : (b.finish st d p).pow = b.pow := by
  unfold Block.finish; repeat' split
  all_goals rfl

@[simp] theorem Block.finish_boot {b : Block} {st d : Nat} {p : List Byte} : (b.finish st d p).boot = b.boot := by
  unfold Block.finish; repeat' split
  all_goals rfl

@[simp] theorem Block.finish_pair {b : Block} {st d : Nat} {p : List Byte} : (b.finish st d p).pair = b.pair := by
  unfold Block.finish; repeat' split
  all_goals rfl

@[simp] theorem Block.finish_clk {b : Block} {st d : Nat} {p : List Byte} : (b.finish st d p).clk = b.clk := by
  unfold Block.finish; repeat' split
  all_goals rfl

@[simp] theorem Block.finish_draws {b : Block} {st d : Nat} {p : List Byte} : (b.finish st d p).draws = b.draws := by
  unfold Block.finish; repeat' split
  all_goals rfl

@[simp] theorem Block.waitFor_frozen {b : Block} {w : Wait} : (b.waitFor w).frozen = b.frozen := rfl

@[simp] theorem Block.waitFor_tb {b : Block} {w : Wait} : (b.waitFor w).tb = b.tb := rfl

@[simp] theorem Block.waitFor_strk {b : Block} {w : Wait} : (b.waitFor w).strk = b.strk := rfl

@[simp] theorem Block.waitFor_cst {b : Block} {w : Wait} : (b.waitFor w).cst = b.cst := rfl

@[simp] theorem Block.waitFor_evt {b : Block} {w : Wait} : (b.waitFor w).evt = b.evt := rfl

@[simp] theorem Block.waitFor_lv {b : Block} {w : Wait} : (b.waitFor w).lv = b.lv := rfl

@[simp] theorem Block.waitFor_lanes {b : Block} {w : Wait} : (b.waitFor w).lanes = b.lanes := rfl

@[simp] theorem Block.waitFor_cells {b : Block} {w : Wait} : (b.waitFor w).cells = b.cells := rfl

@[simp] theorem Block.waitFor_ctxs {b : Block} {w : Wait} : (b.waitFor w).ctxs = b.ctxs := rfl

@[simp] theorem Block.waitFor_chs {b : Block} {w : Wait} : (b.waitFor w).chs = b.chs := rfl

@[simp] theorem Block.waitFor_conv {b : Block} {w : Wait} : (b.waitFor w).conv = b.conv := rfl

@[simp] theorem Block.waitFor_adc {b : Block} {w : Wait} : (b.waitFor w).adc = b.adc := rfl

@[simp] theorem Block.waitFor_ptp {b : Block} {w : Wait} : (b.waitFor w).ptp = b.ptp := rfl

@[simp] theorem Block.waitFor_dma {b : Block} {w : Wait} : (b.waitFor w).dma = b.dma := rfl

@[simp] theorem Block.waitFor_safe {b : Block} {w : Wait} : (b.waitFor w).safe = b.safe := rfl

@[simp] theorem Block.waitFor_pow {b : Block} {w : Wait} : (b.waitFor w).pow = b.pow := rfl

@[simp] theorem Block.waitFor_boot {b : Block} {w : Wait} : (b.waitFor w).boot = b.boot := rfl

@[simp] theorem Block.waitFor_pair {b : Block} {w : Wait} : (b.waitFor w).pair = b.pair := rfl

@[simp] theorem Block.waitFor_clk {b : Block} {w : Wait} : (b.waitFor w).clk = b.clk := rfl

@[simp] theorem Block.waitFor_draws {b : Block} {w : Wait} : (b.waitFor w).draws = b.draws := rfl

@[simp] theorem Block.waitFor_regs {b : Block} {w : Wait} : (b.waitFor w).regs = b.regs := rfl

@[simp] theorem Block.waitFor_out {b : Block} {w : Wait} : (b.waitFor w).out = b.out := rfl

@[simp] theorem Block.waitFor_rd {b : Block} {w : Wait} {g : Field} : (b.waitFor w).rd g = b.rd g := rfl

/-! ### Frames -/

theorem Keeps.refl (l : List Part) (b : Block) : Keeps l b b := fun p _ => by cases p <;> rfl

/-- The end of a command changes nothing but its fields, the queue and the outputs. -/
theorem Block.finish_keeps {b : Block} {st d : Nat} {p : List Byte} : Keeps endParts b (b.finish st d p) := by
  intro q hq
  cases q <;> first | (exact absurd (by decide) hq) | (simp only [Part.same, Block.finish_frozen, Block.finish_tb,
    Block.finish_strk, Block.finish_cst, Block.finish_evt, Block.finish_lv, Block.finish_lanes, Block.finish_cells,
    Block.finish_ctxs, Block.finish_chs, Block.finish_conv, Block.finish_adc, Block.finish_ptp, Block.finish_dma,
    Block.finish_safe, Block.finish_pow, Block.finish_boot, Block.finish_pair, Block.finish_clk, Block.finish_draws])

/-- What an operation keeps, it keeps with the end of the command behind it. -/
theorem Keeps.finish {l : List Part} {b c : Block} {st d : Nat} {p : List Byte} (h : Keeps l b c)
    (hl : ∀ x ∈ endParts, x ∈ l) : Keeps l b (c.finish st d p) := by
  intro q hq
  have h1 := h q hq
  have h2 := Block.finish_keeps (b := c) (st := st) (d := d) (p := p) q fun hm => hq (hl q hm)
  cases q <;> simp only [Part.same] at h1 h2 ⊢ <;> exact h2.trans h1

theorem RegsBut.finish {fs : List Field} {b c : Block} {st d : Nat} {p : List Byte}
    (h : ∀ g : Field, g.key ∉ fs.map Field.key → c.rd g = b.rd g) : RegsBut (fs ++ endFields) b (c.finish st d p) := by
  intro g hg
  rw [List.map_append, List.mem_append, not_or] at hg
  rw [Block.finish_rd hg.2, h g hg.1]

end Sys2Proof.Machine
end

