-- ==== Sys2Proof/Laws/Access.lean ====
section
/-! SUPPORT. Commands that write or read one register (R71, R72): what serving one comes to when no rule forbids it. -/

namespace Sys2Proof.Machine

theorem Block.writeCommand_one {b : Block} {a v : Nat} {fs : List Field} {p : List Byte} (hf : writeFields a = some fs)
    (hl : (b.cst.armed.isSome && writesMaq a) = false) (hd : b.denyWrite a v = 0) :
    b.writeCommand [(a, v)] p = (b.writeOne a v fs, ok p) := by
  simp [Block.writeCommand, Block.writeAll, hf, hd] at hl ⊢
  intro h1 h2
  simp [hl h1] at h2

theorem Block.writeCommand_denied {b : Block} {a v d : Nat} {fs : List Field} {p : List Byte}
    (hf : writeFields a = some fs) (hl : (b.cst.armed.isSome && writesMaq a) = false) (hd : b.denyWrite a v = d)
    (h0 : d ≠ 0) : b.writeCommand [(a, v)] p = (b, denied d) := by
  have hl' : (b.cst.armed.isSome && [(a, v)].any fun w => writesMaq w.1) = false := by simpa using hl
  unfold Block.writeCommand
  rw [if_neg (by simp [hf]), if_neg (by rw [hl']; decide)]
  simp only [Block.writeAll, hd, h0, ne_eq, not_false_eq_true, if_true]

/-- A command that writes one register, at its turn, allowed: its effect, then its reply. -/
theorem Block.serveWrite_done {b : Block} {rq : Req} {a v : Nat} {fs : List Field} (h : AtTurn b rq 0x11)
    (hf : writeFields a = some fs) (hr : (writesMaq a && b.resyncing) = false)
    (hl : (b.cst.armed.isSome && writesMaq a) = false) (hd : b.denyWrite a v = 0)
    (hq : (b.writeOne a v fs).jv.queue = b.jv.queue) :
    b.serveWrite rq a v = (b.writeOne a v fs).finish stOk 0 (be 4 a)
      ∧ Answered b (b.serveWrite rq a v) rq 0x11 stOk 0 (be 4 a) :=
  Block.serve_done h (by decide) hr (Block.writeCommand_one hf hl hd) hq

/-- A command that writes one register, at its turn, forbidden: nothing but the reply. -/
theorem Block.serveWrite_denied {b : Block} {rq : Req} {a v d : Nat} {fs : List Field} (h : AtTurn b rq 0x11)
    (hf : writeFields a = some fs) (hr : (writesMaq a && b.resyncing) = false)
    (hl : (b.cst.armed.isSome && writesMaq a) = false) (hd : b.denyWrite a v = d) (h0 : d ≠ 0) :
    b.serveWrite rq a v = b.finish stDenied d []
      ∧ Answered b (b.serveWrite rq a v) rq 0x11 stDenied d [] :=
  Block.serve_done h (by decide) hr (Block.writeCommand_denied hf hl hd h0) rfl

/-- A command that reads one register, at its turn. -/
theorem Block.serveRead_done {b c : Block} {rq : Req} {a w : Nat} (h : AtTurn b rq 0x10)
    (hr : (aliasAt a && b.resyncing) = false) (hw : b.readOne a = some (w, c)) (hq : c.jv.queue = b.jv.queue) :
    b.serveRead rq a = c.finish stOk 0 (be 4 a ++ be 4 w ++ be 8 (b.readNum [a]))
      ∧ Answered b (b.serveRead rq a) rq 0x10 stOk 0 (be 4 a ++ be 4 w ++ be 8 (b.readNum [a])) :=
  Block.serve_done h (by decide) hr (by simp [Block.readCommand, hw, ok]) hq

/-- A command that writes one register of no CR field, at its turn and allowed, completes: what holds of its effect before
    the reply, stated of the block the reply leaves, holds after it. -/
theorem does_write {c : Instr} {s : State} {rq : Req} {a v : Nat} (fs : List Field) {post : Block → Prop}
    (hx : exec c s = s.onBlk (·.serveWrite rq a v)) (ht : AtTurn s.blk rq 0x11) (hf : writeFields a = some fs)
    (hm : writesMaq a = false) (hd : s.blk.denyWrite a v = 0) (hq : (s.blk.writeOne a v fs).jv.queue = s.blk.jv.queue)
    (hp : post ((s.blk.writeOne a v fs).finish stOk 0 (be 4 a))) :
    Does c s fun t => Answered s.blk t rq 0x11 stOk 0 (be 4 a) ∧ post t := by
  obtain ⟨he, ha⟩ := Block.serveWrite_done ht hf (by simp [hm]) (by simp [hm]) hd hq
  refine ⟨_, hx, rfl, ha, ?_⟩
  show post (s.blk.serveWrite rq a v)
  rwa [he]

/-- A command that writes one register of no CR field, at its turn and forbidden, completes with the detail code. -/
theorem does_denied {c : Instr} {s : State} {rq : Req} {a v d : Nat} {fs : List Field}
    (hx : exec c s = s.onBlk (·.serveWrite rq a v)) (ht : AtTurn s.blk rq 0x11) (hf : writeFields a = some fs)
    (hm : writesMaq a = false) (hd : s.blk.denyWrite a v = d) (h0 : d ≠ 0) :
    Does c s fun t => Answered s.blk t rq 0x11 stDenied d [] ∧ RegsBut endFields s.blk t ∧ Keeps endParts s.blk t := by
  obtain ⟨he, ha⟩ := Block.serveWrite_denied ht hf (by simp [hm]) (by simp [hm]) hd h0
  refine ⟨_, hx, rfl, ha, ?_⟩
  show RegsBut endFields s.blk (s.blk.serveWrite rq a v) ∧ Keeps endParts s.blk (s.blk.serveWrite rq a v)
  rw [he]
  exact ⟨fun g hg => Block.finish_rd hg, Block.finish_keeps⟩

end Sys2Proof.Machine
end

