-- ==== Sys2Proof/Laws/Raise.lean ====
section
/-! SUPPORT. What the occurrence of an event leaves alone (R339 to R354): all but the register fields, the event log, the
    local stage, the cells and contexts it fences, the converter's and the pair's requests, the safety monitor and the
    outputs.  One lemma per operation that an occurrence may come to. -/

namespace Sys2Proof.Machine

/-- The components that no occurrence of an event touches. -/
def Block.still (b : Block) : (Bank × TimeBase × StrokeSt × CastSt × JarvasSt) × (SMap Lane × SMap ChCell × AdcSt × PtpSt)
    × DmaSt × PowerSt × BootSt × ClkSt × Nat :=
  ((b.frozen, b.tb, b.strk, b.cst, b.jv), (b.lanes, b.chs, b.adc, b.ptp), b.dma, b.pow, b.boot, b.clk, b.draws)

theorem Block.still_ite (c : Prop) [Decidable c] (x y : Block) :
    (if c then x else y).still = if c then x.still else y.still := by split <;> rfl

theorem Block.still_keep (b : Block) (regs evt lv cells ctxs conv safe pair out) : Block.still ⟨regs,
    b.frozen, b.tb, b.strk, b.cst, b.jv, evt, lv, b.lanes, cells, ctxs, b.chs, conv, b.adc, b.ptp, b.dma,
    safe, b.pow, b.boot, pair, b.clk, b.draws, out⟩ = b.still := rfl

theorem Block.wr_still (f : Field) (v : Nat) (b : Block) : (Block.wr f v b).still = b.still := by
  simp only [Block.wr, Block.still_keep]

theorem Block.flag_still (f : Field) (p : Bool) (b : Block) : (Block.flag f p b).still = b.still := by
  simp only [Block.flag, Block.wr_still]

theorem Block.count_still (f : Field) (n : Nat) (b : Block) : (Block.count f n b).still = b.still := by
  simp only [Block.count, Block.wr_still]

theorem Block.setBit_still (f : Field) (i : Nat) (p : Bool) (b : Block) :
    (Block.setBit f i p b).still = b.still := by
  simp only [Block.setBit, Block.wr_still]

theorem Block.each_still (n : Nat) (f : Nat → Block → Block) (b : Block) (h : ∀ i b, (f i b).still = b.still)
    : (b.each n f).still = b.still := by
  unfold Block.each
  induction (List.range n) generalizing b with
  | nil => rfl
  | cons i r ih => rw [List.foldl_cons, ih, h]

theorem Block.eachOf_still {α : Type} (l : List α) (f : α → Block → Block) (b : Block) (h : ∀ i b, (f i
    b).still = b.still) : (b.eachOf l f).still = b.still := by
  unfold Block.eachOf
  induction l generalizing b with
  | nil => rfl
  | cons i r ih => rw [List.foldl_cons, ih, h]

theorem Block.emit_still (o : Output) (b : Block) : (Block.emit o b).still = b.still := by
  simp only [Block.emit, Block.still_keep]

/-! ### Machine/Units.lean -/

theorem Block.updLeg_still (l : Nat) (f : Leg → Leg) (b : Block) : (Block.updLeg l f b).still = b.still := by
  simp only [Block.updLeg, Block.still_keep]

theorem Block.updPort_still (p : Nat) (f : PortSt → PortSt) (b : Block) :
    (Block.updPort p f b).still = b.still := by
  simp only [Block.updPort, Block.still_keep]

theorem Block.updDiag_still (g : Nat) (f : DiagSt → DiagSt) (b : Block) :
    (Block.updDiag g f b).still = b.still := by
  simp only [Block.updDiag, Block.still_keep]

theorem Block.updCell_still (s : Nat) (f : Cell → Cell) (b : Block) :
    (Block.updCell s f b).still = b.still := by
  simp only [Block.updCell, Block.still_keep]

theorem Block.updCtx_still (c : Nat) (f : Ctx → Ctx) (b : Block) : (Block.updCtx c f b).still = b.still := by
  simp only [Block.updCtx, Block.still_keep]

theorem Block.updRecov_still (k : Nat) (f : Recov → Recov) (b : Block) :
    (Block.updRecov k f b).still = b.still := by
  simp only [Block.updRecov, Block.still_keep]

theorem Block.updConv_still (f : ConvSt → ConvSt) (b : Block) : (Block.updConv f b).still = b.still := by
  simp only [Block.updConv, Block.still_keep]

theorem Block.updSafe_still (f : SafeSt → SafeSt) (b : Block) : (Block.updSafe f b).still = b.still := by
  simp only [Block.updSafe, Block.still_keep]

theorem Block.updPair_still (f : PairSt → PairSt) (b : Block) : (Block.updPair f b).still = b.still := by
  simp only [Block.updPair, Block.still_keep]

theorem Block.updEvt_still (f : EvtSt → EvtSt) (b : Block) : (Block.updEvt f b).still = b.still := by
  simp only [Block.updEvt, Block.still_keep]

theorem Block.updLv_still (f : LvSt → LvSt) (b : Block) : (Block.updLv f b).still = b.still := by
  simp only [Block.updLv, Block.still_keep]

/-! ### Machine/Log.lean -/

theorem Block.record_still (o : Occ) (cls : Nat) (recurs : Bool) (lockout : Bool) (b : Block) :
    (Block.record o cls recurs lockout b).still = b.still := by
  simp only [Block.record, Block.still_ite, ite_self, Block.count_still, Block.updEvt_still]

theorem Block.onFence_still (k : Nat) (allows : Bool) (b : Block) :
    (Block.onFence k allows b).still = b.still := by
  simp only [Block.onFence, Block.still_ite, ite_self, Block.updRecov_still, Block.flag_still]

theorem Block.onRecurrence_still (k : Nat) (b : Block) : (Block.onRecurrence k b).still = b.still := by
  simp only [Block.onRecurrence, Block.still_ite, ite_self, Block.updCell_still, Block.updRecov_still]

theorem Block.holdFenced_still (k : Nat) (b : Block) : (Block.holdFenced k b).still = b.still := by
  simp only [Block.holdFenced, Block.updRecov_still]

/-! ### Machine/Stage.lean -/

theorem Block.openSwitch_still (p : Nat) (soft : Bool) (b : Block) :
    (Block.openSwitch p soft b).still = b.still := by
  simp only [Block.openSwitch, Block.still_ite, ite_self, Block.updPort_still, Block.setBit_still,
      Block.flag_still, Block.emit_still]

theorem Block.tryOpen_still (p : Nat) (b : Block) : (Block.tryOpen p b).still = b.still := by
  simp only [Block.tryOpen, Block.still_ite, ite_self, Block.openSwitch_still]

theorem Block.settleLeg_still (l : Nat) (b : Block) : (Block.settleLeg l b).still = b.still := by
  unfold Block.settleLeg
  repeat' (first | with_reducible rfl | intro _ | split
                 | simp only [Block.updLeg_still, Block.flag_still,
                       Block.emit_still, Block.wr_still])

theorem Block.brakeStop_still (o : Output) (b : Block) : (Block.brakeStop o b).still = b.still := by
  simp only [Block.brakeStop, Block.still_ite, ite_self, Block.emit_still, Block.updLv_still,
      Block.flag_still, Block.wr_still]

theorem Block.holdLeg_still (l : Nat) (soft : Bool) (b : Block) :
    (Block.holdLeg l soft b).still = b.still := by
  simp only [Block.holdLeg, Block.still_ite, ite_self, Block.updLeg_still, Block.wr_still,
      Block.brakeStop_still, Block.emit_still, Block.flag_still, Block.settleLeg_still]

theorem Block.stopPort_still (p : Nat) (soft : Bool) (b : Block) :
    (Block.stopPort p soft b).still = b.still := by
  simp only [Block.stopPort, implies_true, Block.holdLeg_still, Block.updPort_still, Block.tryOpen_still,
      Block.eachOf_still]

theorem Block.portState_still (p : Nat) (st : Nat) (b : Block) :
    (Block.portState p st b).still = b.still := by
  simp only [Block.portState, Block.still_ite, ite_self, Block.updPort_still, Block.wr_still]

theorem Block.portToWait_still (p : Nat) (soft : Bool) (b : Block) :
    (Block.portToWait p soft b).still = b.still := by
  simp only [Block.portToWait, Block.still_ite, ite_self, Block.stopPort_still, Block.updRecov_still,
      Block.wr_still, Block.portState_still]

theorem Block.groupFenced_still (g : Nat) (b : Block) : (Block.groupFenced g b).still = b.still := by
  simp only [Block.groupFenced, Block.updDiag_still]

theorem Block.fenceLeg_still (l : Nat) (cause : Nat) (soft : Bool) (b : Block) :
    (Block.fenceLeg l cause soft b).still = b.still := by
  unfold Block.fenceLeg
  repeat' (first | with_reducible rfl | intro _ | split
                 | simp only [Block.still_ite, ite_self, implies_true, Block.holdLeg_still, Block.wr_still,
                       Block.flag_still, Block.groupFenced_still, Block.portToWait_still, Block.eachOf_still])

theorem Block.fencePort_still (p : Nat) (cause : Nat) (b : Block) :
    (Block.fencePort p cause b).still = b.still := by
  simp only [Block.fencePort, Block.still_ite, ite_self, Block.stopPort_still, Block.groupFenced_still,
      Block.wr_still, Block.portState_still]

theorem Block.fenceCtx_still (c : Nat) (b : Block) : (Block.fenceCtx c b).still = b.still := by
  simp only [Block.fenceCtx, Block.updCtx_still]

theorem Block.decideFence_still (s : Nat) (cause : Nat) (b : Block) :
    (Block.decideFence s cause b).still = b.still := by
  simp only [Block.decideFence, Block.still_ite, ite_self, Block.updCell_still]

theorem Block.blockStage_still (soft : Bool) (b : Block) : (Block.blockStage soft b).still = b.still := by
  simp only [Block.blockStage, implies_true, Block.holdLeg_still, Block.stopPort_still, Block.each_still,
      Block.eachOf_still]

/-! ### Machine/Demand.lean -/

theorem Block.decideRemoval_still (kind : Nat) (b : Block) :
    (Block.decideRemoval kind b).still = b.still := by
  simp only [Block.decideRemoval, Block.updSafe_still]

theorem Block.demandCause_still (cause : Nat) (b : Block) : (Block.demandCause cause b).still = b.still := by
  simp only [Block.demandCause, Block.still_ite, ite_self, Block.wr_still]

theorem Block.remove_still (partly : Bool) (b : Block) : (Block.remove partly b).still = b.still := by
  simp only [Block.remove, Block.still_ite, ite_self, Block.updSafe_still, Block.decideRemoval_still,
      Block.wr_still]

theorem Block.demandHalt_still (partly : Bool) (b : Block) : (Block.demandHalt partly b).still = b.still := by
  simp only [Block.demandHalt, Block.wr_still, Block.remove_still, Block.demandCause_still, Block.count_still]

/-! ### Machine/Events.lean -/

theorem Block.fenceUnit_still (ut : Nat) (i : Nat) (cause : Nat) (b : Block) :
    (Block.fenceUnit ut i cause b).still = b.still := by
  unfold Block.fenceUnit
  repeat' (first | with_reducible rfl | intro _ | split
                 | simp only [Block.decideFence_still, Block.fenceLeg_still, Block.fencePort_still,
                       Block.fenceCtx_still])

theorem Block.latch_still (k : Nat) (cls : Nat) (b : Block) : (Block.latch k cls b).still = b.still := by
  simp only [Block.latch, Block.updEvt_still, Block.flag_still]

theorem Block.blockAct_still (source : Nat) (b : Block) : (Block.blockAct source b).still = b.still := by
  simp only [Block.blockAct, Block.still_ite, ite_self, Block.blockStage_still, Block.updPair_still,
      Block.updEvt_still]

theorem Block.keepHalt_still (source : Nat) (b : Block) : (Block.keepHalt source b).still = b.still := by
  simp only [Block.keepHalt, Block.still_ite, ite_self, Block.flag_still, Block.wr_still]

theorem Block.classAct_still (source : Nat) (cls : Nat) (b : Block) :
    (Block.classAct source cls b).still = b.still := by
  unfold Block.classAct
  repeat' (first | with_reducible rfl | intro _ | split
                 | simp only [Block.still_ite, ite_self, Block.latch_still, Block.updConv_still,
                       Block.blockAct_still, Block.demandHalt_still, Block.keepHalt_still])

theorem Block.markHalt_still (k : Nat) (cls : Nat) (b : Block) :
    (Block.markHalt k cls b).still = b.still := by
  simp only [Block.markHalt, Block.still_ite, ite_self, Block.updRecov_still]

theorem Block.recurs_still (o : Occ) (k : Nat) (cls : Nat) (own : Option Nat) (b : Block) :
    (Block.recurs o k cls own b).still = b.still := by
  simp only [Block.recurs, Block.still_ite, ite_self, Block.onRecurrence_still, Block.record_still,
      Block.holdFenced_still, Block.decideFence_still]

theorem Block.raiseUnit_still (o : Occ) (cls : Nat) (own : Option Nat) (b : Block) :
    (Block.raiseUnit o cls own b).still = b.still := by
  unfold Block.raiseUnit
  repeat' (first | with_reducible rfl | intro _ | split
                 | simp only [Block.still_ite, ite_self, Block.record_still, Block.markHalt_still,
                       Block.recurs_still, Block.fenceUnit_still, Block.onFence_still])

theorem Block.raiseOwn_still (o : Occ) (own : Option Nat) (b : Block) :
    (Block.raiseOwn o own b).still = b.still := by
  simp only [Block.raiseOwn, Block.still_ite, ite_self, Block.classAct_still, Block.raiseUnit_still]

theorem Block.raise_still (o : Occ) (b : Block) : (Block.raise o b).still = b.still := by
  simp only [Block.raise, Block.raiseOwn_still]

end Sys2Proof.Machine
end

