-- ==== Sys2Proof/Laws/Held.lean ====
section
/-! SUPPORT. The log of an occurrence (R346, R350): no operation that an occurrence may come to but the record itself
    touches the records that wait to be numbered, and an occurrence that is detected and not held off adds exactly one. -/

namespace Sys2Proof.Machine

/-- The records that wait to be numbered. -/
def Block.heldRecs (b : Block) : List Rec := b.evt.held

theorem Block.heldRecs_ite (c : Prop) [Decidable c] (x y : Block) :
    (if c then x else y).heldRecs = if c then x.heldRecs else y.heldRecs := by split <;> rfl

theorem Block.heldRecs_keep (b : Block) (regs frozen tb strk cst jv lv lanes cells ctxs chs conv adc ptp dma
    safe pow boot pair clk draws out) : Block.heldRecs ⟨regs, frozen, tb, strk, cst, jv, b.evt, lv, lanes,
    cells, ctxs, chs, conv, adc, ptp, dma, safe, pow, boot, pair, clk, draws, out⟩ = b.heldRecs := rfl

theorem Block.wr_heldRecs (f : Field) (v : Nat) (b : Block) : (Block.wr f v b).heldRecs = b.heldRecs := by
  simp only [Block.wr, Block.heldRecs_keep]

theorem Block.flag_heldRecs (f : Field) (p : Bool) (b : Block) :
    (Block.flag f p b).heldRecs = b.heldRecs := by
  simp only [Block.flag, Block.wr_heldRecs]

theorem Block.count_heldRecs (f : Field) (n : Nat) (b : Block) :
    (Block.count f n b).heldRecs = b.heldRecs := by
  simp only [Block.count, Block.wr_heldRecs]

theorem Block.setBit_heldRecs (f : Field) (i : Nat) (p : Bool) (b : Block) :
    (Block.setBit f i p b).heldRecs = b.heldRecs := by
  simp only [Block.setBit, Block.wr_heldRecs]

theorem Block.each_heldRecs (n : Nat) (f : Nat → Block → Block) (b : Block) (h : ∀ i b, (f i b).heldRecs =
    b.heldRecs) : (b.each n f).heldRecs = b.heldRecs := by
  unfold Block.each
  induction (List.range n) generalizing b with
  | nil => rfl
  | cons i r ih => rw [List.foldl_cons, ih, h]

theorem Block.eachOf_heldRecs {α : Type} (l : List α) (f : α → Block → Block) (b : Block) (h : ∀ i b, (f i
    b).heldRecs = b.heldRecs) : (b.eachOf l f).heldRecs = b.heldRecs := by
  unfold Block.eachOf
  induction l generalizing b with
  | nil => rfl
  | cons i r ih => rw [List.foldl_cons, ih, h]

theorem Block.emit_heldRecs (o : Output) (b : Block) : (Block.emit o b).heldRecs = b.heldRecs := by
  simp only [Block.emit, Block.heldRecs_keep]

/-! ### Machine/Units.lean -/

theorem Block.updLeg_heldRecs (l : Nat) (f : Leg → Leg) (b : Block) :
    (Block.updLeg l f b).heldRecs = b.heldRecs := by
  simp only [Block.updLeg, Block.heldRecs_keep]

theorem Block.updPort_heldRecs (p : Nat) (f : PortSt → PortSt) (b : Block) :
    (Block.updPort p f b).heldRecs = b.heldRecs := by
  simp only [Block.updPort, Block.heldRecs_keep]

theorem Block.updDiag_heldRecs (g : Nat) (f : DiagSt → DiagSt) (b : Block) :
    (Block.updDiag g f b).heldRecs = b.heldRecs := by
  simp only [Block.updDiag, Block.heldRecs_keep]

theorem Block.updCell_heldRecs (s : Nat) (f : Cell → Cell) (b : Block) :
    (Block.updCell s f b).heldRecs = b.heldRecs := by
  simp only [Block.updCell, Block.heldRecs_keep]

theorem Block.updCtx_heldRecs (c : Nat) (f : Ctx → Ctx) (b : Block) :
    (Block.updCtx c f b).heldRecs = b.heldRecs := by
  simp only [Block.updCtx, Block.heldRecs_keep]

theorem Block.updRecov_heldRecs (k : Nat) (f : Recov → Recov) (b : Block) :
    (b.updRecov k f).heldRecs = b.heldRecs := rfl

theorem Block.updConv_heldRecs (f : ConvSt → ConvSt) (b : Block) :
    (Block.updConv f b).heldRecs = b.heldRecs := by
  simp only [Block.updConv, Block.heldRecs_keep]

theorem Block.updSafe_heldRecs (f : SafeSt → SafeSt) (b : Block) :
    (Block.updSafe f b).heldRecs = b.heldRecs := by
  simp only [Block.updSafe, Block.heldRecs_keep]

theorem Block.updPair_heldRecs (f : PairSt → PairSt) (b : Block) :
    (Block.updPair f b).heldRecs = b.heldRecs := by
  simp only [Block.updPair, Block.heldRecs_keep]

theorem Block.updEvt_heldRecs (f : EvtSt → EvtSt) (b : Block) (h : (f b.evt).held = b.evt.held) :
    (b.updEvt f).heldRecs = b.heldRecs := h

theorem Block.updLv_heldRecs (f : LvSt → LvSt) (b : Block) : (Block.updLv f b).heldRecs = b.heldRecs := by
  simp only [Block.updLv, Block.heldRecs_keep]

/-! ### Machine/Log.lean -/

theorem Block.onFence_heldRecs (k : Nat) (allows : Bool) (b : Block) :
    (Block.onFence k allows b).heldRecs = b.heldRecs := by
  simp only [Block.onFence, Block.heldRecs_ite, ite_self, Block.updRecov_heldRecs, Block.flag_heldRecs]

theorem Block.onRecurrence_heldRecs (k : Nat) (b : Block) :
    (Block.onRecurrence k b).heldRecs = b.heldRecs := by
  simp only [Block.onRecurrence, Block.heldRecs_ite, ite_self, Block.updCell_heldRecs, Block.updRecov_heldRecs]

/-! ### Machine/Stage.lean -/

theorem Block.openSwitch_heldRecs (p : Nat) (soft : Bool) (b : Block) :
    (Block.openSwitch p soft b).heldRecs = b.heldRecs := by
  simp only [Block.openSwitch, Block.heldRecs_ite, ite_self, Block.updPort_heldRecs, Block.setBit_heldRecs,
      Block.flag_heldRecs, Block.emit_heldRecs]

theorem Block.tryOpen_heldRecs (p : Nat) (b : Block) : (Block.tryOpen p b).heldRecs = b.heldRecs := by
  simp only [Block.tryOpen, Block.heldRecs_ite, ite_self, Block.openSwitch_heldRecs]

theorem Block.settleLeg_heldRecs (l : Nat) (b : Block) : (Block.settleLeg l b).heldRecs = b.heldRecs := by
  unfold Block.settleLeg
  repeat' (first | with_reducible rfl | intro _ | split
                 | simp only [Block.updLeg_heldRecs, Block.flag_heldRecs,
                       Block.emit_heldRecs, Block.wr_heldRecs])

theorem Block.brakeStop_heldRecs (o : Output) (b : Block) : (Block.brakeStop o b).heldRecs = b.heldRecs := by
  simp only [Block.brakeStop, Block.heldRecs_ite, ite_self, Block.emit_heldRecs, Block.updLv_heldRecs,
      Block.flag_heldRecs, Block.wr_heldRecs]

theorem Block.holdLeg_heldRecs (l : Nat) (soft : Bool) (b : Block) :
    (Block.holdLeg l soft b).heldRecs = b.heldRecs := by
  simp only [Block.holdLeg, Block.heldRecs_ite, ite_self, Block.updLeg_heldRecs, Block.wr_heldRecs,
      Block.brakeStop_heldRecs, Block.emit_heldRecs, Block.flag_heldRecs, Block.settleLeg_heldRecs]

theorem Block.stopPort_heldRecs (p : Nat) (soft : Bool) (b : Block) :
    (Block.stopPort p soft b).heldRecs = b.heldRecs := by
  simp only [Block.stopPort, implies_true, Block.holdLeg_heldRecs, Block.updPort_heldRecs,
      Block.tryOpen_heldRecs, Block.eachOf_heldRecs]

theorem Block.portState_heldRecs (p : Nat) (st : Nat) (b : Block) :
    (Block.portState p st b).heldRecs = b.heldRecs := by
  simp only [Block.portState, Block.heldRecs_ite, ite_self, Block.updPort_heldRecs, Block.wr_heldRecs]

theorem Block.portToWait_heldRecs (p : Nat) (soft : Bool) (b : Block) :
    (Block.portToWait p soft b).heldRecs = b.heldRecs := by
  simp only [Block.portToWait, Block.heldRecs_ite, ite_self, Block.stopPort_heldRecs, Block.updRecov_heldRecs,
      Block.wr_heldRecs, Block.portState_heldRecs]

theorem Block.groupFenced_heldRecs (g : Nat) (b : Block) : (Block.groupFenced g b).heldRecs = b.heldRecs := by
  simp only [Block.groupFenced, Block.updDiag_heldRecs]

theorem Block.fenceLeg_heldRecs (l : Nat) (cause : Nat) (soft : Bool) (b : Block) :
    (Block.fenceLeg l cause soft b).heldRecs = b.heldRecs := by
  unfold Block.fenceLeg
  repeat' (first | with_reducible rfl | intro _ | split
                 | simp only [Block.heldRecs_ite, ite_self, implies_true, Block.holdLeg_heldRecs,
                       Block.wr_heldRecs, Block.flag_heldRecs, Block.groupFenced_heldRecs,
                       Block.portToWait_heldRecs, Block.eachOf_heldRecs])

theorem Block.fencePort_heldRecs (p : Nat) (cause : Nat) (b : Block) :
    (Block.fencePort p cause b).heldRecs = b.heldRecs := by
  simp only [Block.fencePort, Block.heldRecs_ite, ite_self, Block.stopPort_heldRecs,
      Block.groupFenced_heldRecs, Block.wr_heldRecs, Block.portState_heldRecs]

theorem Block.fenceCtx_heldRecs (c : Nat) (b : Block) : (Block.fenceCtx c b).heldRecs = b.heldRecs := by
  simp only [Block.fenceCtx, Block.updCtx_heldRecs]

theorem Block.decideFence_heldRecs (s : Nat) (cause : Nat) (b : Block) :
    (Block.decideFence s cause b).heldRecs = b.heldRecs := by
  simp only [Block.decideFence, Block.heldRecs_ite, ite_self, Block.updCell_heldRecs]

theorem Block.blockStage_heldRecs (soft : Bool) (b : Block) :
    (Block.blockStage soft b).heldRecs = b.heldRecs := by
  simp only [Block.blockStage, implies_true, Block.holdLeg_heldRecs, Block.stopPort_heldRecs,
      Block.each_heldRecs, Block.eachOf_heldRecs]

/-! ### Machine/Demand.lean -/

theorem Block.decideRemoval_heldRecs (kind : Nat) (b : Block) :
    (Block.decideRemoval kind b).heldRecs = b.heldRecs := by
  simp only [Block.decideRemoval, Block.updSafe_heldRecs]

theorem Block.demandCause_heldRecs (cause : Nat) (b : Block) :
    (Block.demandCause cause b).heldRecs = b.heldRecs := by
  simp only [Block.demandCause, Block.heldRecs_ite, ite_self, Block.wr_heldRecs]

theorem Block.remove_heldRecs (partly : Bool) (b : Block) :
    (Block.remove partly b).heldRecs = b.heldRecs := by
  simp only [Block.remove, Block.heldRecs_ite, ite_self, Block.updSafe_heldRecs, Block.decideRemoval_heldRecs,
      Block.wr_heldRecs]

theorem Block.demandHalt_heldRecs (partly : Bool) (b : Block) :
    (Block.demandHalt partly b).heldRecs = b.heldRecs := by
  simp only [Block.demandHalt, Block.wr_heldRecs, Block.remove_heldRecs, Block.demandCause_heldRecs,
      Block.count_heldRecs]

/-! ### Machine/Events.lean -/

theorem Block.fenceUnit_heldRecs (ut : Nat) (i : Nat) (cause : Nat) (b : Block) :
    (Block.fenceUnit ut i cause b).heldRecs = b.heldRecs := by
  unfold Block.fenceUnit
  repeat' (first | with_reducible rfl | intro _ | split
                 | simp only [Block.decideFence_heldRecs, Block.fenceLeg_heldRecs, Block.fencePort_heldRecs,
                       Block.fenceCtx_heldRecs])

theorem Block.latch_heldRecs (k : Nat) (cls : Nat) (b : Block) :
    (Block.latch k cls b).heldRecs = b.heldRecs := by
  simp only [Block.latch, Block.updEvt_heldRecs, Block.flag_heldRecs]

theorem Block.blockAct_heldRecs (source : Nat) (b : Block) :
    (Block.blockAct source b).heldRecs = b.heldRecs := by
  simp only [Block.blockAct, Block.heldRecs_ite, ite_self, Block.blockStage_heldRecs, Block.updPair_heldRecs,
      Block.updEvt_heldRecs]

theorem Block.keepHalt_heldRecs (source : Nat) (b : Block) :
    (Block.keepHalt source b).heldRecs = b.heldRecs := by
  simp only [Block.keepHalt, Block.heldRecs_ite, ite_self, Block.flag_heldRecs, Block.wr_heldRecs]

theorem Block.classAct_heldRecs (source : Nat) (cls : Nat) (b : Block) :
    (Block.classAct source cls b).heldRecs = b.heldRecs := by
  unfold Block.classAct
  repeat' (first | with_reducible rfl | intro _ | split
                 | simp only [Block.heldRecs_ite, ite_self, Block.latch_heldRecs, Block.updConv_heldRecs,
                       Block.blockAct_heldRecs, Block.demandHalt_heldRecs, Block.keepHalt_heldRecs])

theorem Block.markHalt_heldRecs (k : Nat) (cls : Nat) (b : Block) :
    (Block.markHalt k cls b).heldRecs = b.heldRecs := by
  simp only [Block.markHalt, Block.heldRecs_ite, ite_self, Block.updRecov_heldRecs]

/-! ### The record of an occurrence -/

theorem Block.record_held (o : Occ) (cls : Nat) (recurs lockout : Bool) (b : Block) (h : b.heldOff o cls = false) :
    ∃ r, (b.record o cls recurs lockout).evt.held = b.evt.held ++ [r] ∧ r.source = o.source ∧ r.cls = cls
      ∧ r.unitType = o.unitType ∧ r.idx = (if o.unitType = 0 then 0 else o.idx) ∧ r.code = o.code := by
  have hk : (b.count (Reg.EVT_SRCk_COUNT o.source) 1).heldOff o cls = b.heldOff o cls := by
    unfold Block.heldOff
    rw [Block.rd_count_ne _ _ _ _ (by simp [Field.key, Reg.EVT_GCFG_HOLDOFF_MS, Reg.EVT_SRCk_COUNT]; omega)]
    rfl
  unfold Block.record
  simp only [hk, h]
  exact ⟨_, rfl, rfl, rfl, rfl, rfl, rfl⟩

theorem Block.onFence_heldOff (k : Nat) (allows : Bool) (o : Occ) (cls : Nat) (b : Block) :
    (b.onFence k allows).heldOff o cls = b.heldOff o cls := by
  unfold Block.heldOff
  have he : (b.onFence k allows).evt.logged = b.evt.logged := by unfold Block.onFence; split <;> rfl
  have ht : (b.onFence k allows).tb = b.tb := by unfold Block.onFence; split <;> rfl
  have hr : (b.onFence k allows).rd Reg.EVT_GCFG_HOLDOFF_MS = b.rd Reg.EVT_GCFG_HOLDOFF_MS := by
    unfold Block.onFence
    split
    · rw [Block.rd_flag_ne _ _ _ _ (by simp [Field.key, Reg.EVT_GCFG_HOLDOFF_MS, Reg.CELL_SLOT_STAT_LOCKOUT]; omega)]
      rfl
    · rfl
  rw [he, ht, hr]

theorem Block.markHalt_heldOff (k c : Nat) (o : Occ) (cls : Nat) (b : Block) :
    (b.markHalt k c).heldOff o cls = b.heldOff o cls := by
  unfold Block.markHalt
  split <;> rfl

theorem Block.recurs_heldRecs (o : Occ) (k cls : Nat) (own : Option Nat) (b : Block) :
    (b.recurs o k cls own).heldRecs = (b.record o cls true false).heldRecs := by
  simp only [Block.recurs, Block.holdFenced, Block.heldRecs_ite, ite_self, Block.decideFence_heldRecs,
    Block.updRecov_heldRecs, Block.onRecurrence_heldRecs]

theorem Block.recurs_held (o : Occ) (k cls : Nat) (own : Option Nat) (b : Block) :
    (b.recurs o k cls own).evt.held = (b.record o cls true false).evt.held := Block.recurs_heldRecs o k cls own b

/-- An occurrence that is detected and not held off is logged, whatever else it comes to. -/
theorem Block.raise_logs (o : Occ) (b : Block) (h : Loggable b o) : Logs o b (b.raise o) := by
  obtain ⟨hd, hh⟩ := h
  unfold Block.raise Block.raiseOwn
  rw [if_pos hd]
  unfold Logs
  have hc := Block.classAct_heldRecs o.source (b.classOf o) (b.raiseUnit o (b.classOf o) none)
  simp only [Block.heldRecs] at hc
  rw [hc]
  unfold Block.raiseUnit
  split
  · exact Block.record_held o (b.classOf o) _ _ b hh
  next k _ =>
  dsimp only
  have hm := Block.markHalt_heldRecs k (b.classOf o) b
  simp only [Block.heldRecs] at hm
  rw [← hm]
  have hh' : (b.markHalt k (b.classOf o)).heldOff o (b.classOf o) = false := by rw [Block.markHalt_heldOff, hh]
  generalize b.markHalt k (b.classOf o) = c at hh' ⊢
  have hr := fun x y => Block.record_held o (b.classOf o) x y c hh'
  split
  · exact hr _ _
  split
  · rw [Block.recurs_held]
    exact hr _ _
  split
  · generalize Option.getD _ _ = cause
    generalize c.allowsReadmit o (b.classOf o) cause = al
    have hf := Block.fenceUnit_heldRecs o.unitType o.idx cause
      ((c.onFence k al).record o (b.classOf o) false (c.locksOut k al))
    have hg := Block.onFence_heldRecs k al c
    simp only [Block.heldRecs] at hf hg
    rw [hf, ← hg]
    exact Block.record_held _ _ _ _ _ (by rw [Block.onFence_heldOff]; exact hh')
  · exact hr _ _

/-- An occurrence of class INFO that names no unit is logged, and nothing else happens (R341). -/
theorem Block.raise_info (o : Occ) (b : Block) (hd : b.detects o = true) (hc : b.classOf o = 0)
    (hk : unitKey o.unitType o.idx = none) : b.raise o = b.record o 0 false false := by
  simp [Block.raise, Block.raiseOwn, hd, hc, Block.raiseUnit, hk, Block.classAct]

theorem Block.record_rd (o : Occ) (cls : Nat) (recurs lockout : Bool) (b : Block) (g : Field)
    (h1 : g.key ≠ (Reg.EVT_SRCk_COUNT o.source).key) (h2 : g.key ≠ Reg.EVT_SUPP_CNT_COUNT.key) :
    (b.record o cls recurs lockout).rd g = b.rd g := by
  unfold Block.record
  dsimp only
  split
  · rw [Block.rd_count_ne _ _ _ _ h2, Block.updEvt_rd, Block.rd_count_ne _ _ _ _ h1]
  · rw [Block.updEvt_rd, Block.rd_count_ne _ _ _ _ h1]

/-! ### The components an occurrence leaves alone -/

@[simp] theorem Block.raise_frozen (o : Occ) (b : Block) : (b.raise o).frozen = b.frozen :=
  congrArg (fun x => x.1.1) (Block.raise_still o b)

@[simp] theorem Block.raise_tb (o : Occ) (b : Block) : (b.raise o).tb = b.tb :=
  congrArg (fun x => x.1.2.1) (Block.raise_still o b)

@[simp] theorem Block.raise_strk (o : Occ) (b : Block) : (b.raise o).strk = b.strk :=
  congrArg (fun x => x.1.2.2.1) (Block.raise_still o b)

@[simp] theorem Block.raise_cst (o : Occ) (b : Block) : (b.raise o).cst = b.cst :=
  congrArg (fun x => x.1.2.2.2.1) (Block.raise_still o b)

@[simp] theorem Block.raise_jv (o : Occ) (b : Block) : (b.raise o).jv = b.jv :=
  congrArg (fun x => x.1.2.2.2.2) (Block.raise_still o b)

@[simp] theorem Block.raise_lanes (o : Occ) (b : Block) : (b.raise o).lanes = b.lanes :=
  congrArg (fun x => x.2.1.1) (Block.raise_still o b)

@[simp] theorem Block.raise_chs (o : Occ) (b : Block) : (b.raise o).chs = b.chs :=
  congrArg (fun x => x.2.1.2.1) (Block.raise_still o b)

@[simp] theorem Block.raise_adc (o : Occ) (b : Block) : (b.raise o).adc = b.adc :=
  congrArg (fun x => x.2.1.2.2.1) (Block.raise_still o b)

@[simp] theorem Block.raise_ptp (o : Occ) (b : Block) : (b.raise o).ptp = b.ptp :=
  congrArg (fun x => x.2.1.2.2.2) (Block.raise_still o b)

@[simp] theorem Block.raise_dma (o : Occ) (b : Block) : (b.raise o).dma = b.dma :=
  congrArg (fun x => x.2.2.1) (Block.raise_still o b)

@[simp] theorem Block.raise_pow (o : Occ) (b : Block) : (b.raise o).pow = b.pow :=
  congrArg (fun x => x.2.2.2.1) (Block.raise_still o b)

@[simp] theorem Block.raise_boot (o : Occ) (b : Block) : (b.raise o).boot = b.boot :=
  congrArg (fun x => x.2.2.2.2.1) (Block.raise_still o b)

@[simp] theorem Block.raise_clk (o : Occ) (b : Block) : (b.raise o).clk = b.clk :=
  congrArg (fun x => x.2.2.2.2.2.1) (Block.raise_still o b)

@[simp] theorem Block.raise_draws (o : Occ) (b : Block) : (b.raise o).draws = b.draws :=
  congrArg (fun x => x.2.2.2.2.2.2) (Block.raise_still o b)

end Sys2Proof.Machine
end

