-- ==== Sys2Proof/Laws/Quiet.lean ====
section
/-! SUPPORT. What no operation of the block touches but the few that exist for it: the increment and the
    adjustment of the time base (R312, R313), the transceivers in the cages (R449) and the images in flash
    (R412 to R414). One lemma per operation: `_quiet` says that it leaves all three alone, `_kept` that it
    leaves the cages and the images alone and may touch the increment or the adjustment. -/

namespace Sys2Proof.Machine

/-- The increment and the adjustment; the cages; the firmware, option and maquette images. -/
def Block.quiet (b : Block) : (Nat × Int) × SMap XcvrType × (SMap Img × SMap Img × SMap Img) :=
  ((b.tb.inc, b.tb.delta), b.pow.cages, (b.boot.fw, b.boot.opt, b.boot.cfg))

theorem Block.quiet_ite (c : Prop) [Decidable c] (x y : Block) :
    (if c then x else y).quiet = if c then x.quiet else y.quiet := by split <;> rfl

theorem Block.kept_ite (c : Prop) [Decidable c] (x y : Block) :
    (if c then x else y).quiet.2 = if c then x.quiet.2 else y.quiet.2 := by split <;> rfl

theorem Block.quiet_fst_ite {α : Type} (c : Prop) [Decidable c] (x y : Block × α) :
    (if c then x else y).1.quiet = if c then x.1.quiet else y.1.quiet := by split <;> rfl

theorem Block.quiet_keep (b : Block) (regs frozen strk cst jv evt lv lanes cells ctxs chs conv adc ptp dma
    safe pair clk draws out) : Block.quiet ⟨regs, frozen, b.tb, strk, cst, jv, evt, lv, lanes, cells, ctxs,
    chs, conv, adc, ptp, dma, safe, b.pow, b.boot, pair, clk, draws, out⟩ = b.quiet := rfl

theorem Block.quiet_tb (b : Block) (now : BitVec 96) (run : Bool) (step : Option (Int × Nat)) (up : Nat) :
    Block.quiet { b with tb := ⟨now, run, b.tb.inc, b.tb.delta, step, up⟩ } = b.quiet := rfl

theorem Block.wr_quiet (f : Field) (v : Nat) (b : Block) : (Block.wr f v b).quiet = b.quiet := by
  simp only [Block.wr, Block.quiet_keep]

theorem Block.flag_quiet (f : Field) (p : Bool) (b : Block) : (Block.flag f p b).quiet = b.quiet := by
  simp only [Block.flag, Block.wr_quiet]

theorem Block.wrS_quiet (f : Field) (x : Int) (b : Block) : (Block.wrS f x b).quiet = b.quiet := by
  simp only [Block.wrS, Block.wr_quiet]

theorem Block.count_quiet (f : Field) (n : Nat) (b : Block) : (Block.count f n b).quiet = b.quiet := by
  simp only [Block.count, Block.wr_quiet]

theorem Block.bump_quiet (f : Field) (b : Block) : (Block.bump f b).quiet = b.quiet := by
  simp only [Block.bump, Block.wr_quiet]

theorem Block.setBit_quiet (f : Field) (i : Nat) (p : Bool) (b : Block) :
    (Block.setBit f i p b).quiet = b.quiet := by
  simp only [Block.setBit, Block.wr_quiet]

theorem Block.wr64_quiet (lo : Field) (hi : Field) (v : Nat) (b : Block) :
    (Block.wr64 lo hi v b).quiet = b.quiet := by
  simp only [Block.wr64, Block.wr_quiet]

theorem Block.each_quiet (n : Nat) (f : Nat → Block → Block) (b : Block) (h : ∀ i b, (f i b).quiet = b.quiet)
    : (b.each n f).quiet = b.quiet := by
  unfold Block.each
  induction (List.range n) generalizing b with
  | nil => rfl
  | cons i r ih => rw [List.foldl_cons, ih, h]

theorem Block.eachOf_quiet {α : Type} (l : List α) (f : α → Block → Block) (b : Block) (h : ∀ i b, (f i
    b).quiet = b.quiet) : (b.eachOf l f).quiet = b.quiet := by
  unfold Block.eachOf
  induction l generalizing b with
  | nil => rfl
  | cons i r ih => rw [List.foldl_cons, ih, h]

theorem Block.eachOf_kept {α : Type} (l : List α) (f : α → Block → Block) (b : Block) (h : ∀ i b, (f i
    b).quiet.2 = b.quiet.2) : (b.eachOf l f).quiet.2 = b.quiet.2 := by
  unfold Block.eachOf
  induction l generalizing b with
  | nil => rfl
  | cons i r ih => rw [List.foldl_cons, ih, h]

theorem Block.emit_quiet (o : Output) (b : Block) : (Block.emit o b).quiet = b.quiet := by
  simp only [Block.emit, Block.quiet_keep]

theorem Block.emitLane_quiet (o : Output) (b : Block) : (Block.emitLane o b).quiet = b.quiet := by
  simp only [Block.emitLane, Block.quiet_ite, ite_self, Block.emit_quiet]

theorem Block.drawn_quiet (b : Block) : (Block.drawn b).quiet = b.quiet := by
  simp only [Block.drawn, Block.quiet_keep]

theorem Block.advance_quiet (n : Nat) (b : Block) : (b.advance n).quiet = b.quiet := by
  simp only [Block.advance, Block.quiet_ite, Block.quiet_tb, Block.flag_quiet, Block.wr_quiet, ite_self]

theorem Block.until_quiet (t : Nat) (b : Block) : (Block.until t b).quiet = b.quiet := by
  simp only [Block.until, Block.quiet_ite, ite_self, Block.advance_quiet]

theorem Block.untilUp_quiet (t : Nat) (b : Block) : (Block.untilUp t b).quiet = b.quiet := by
  simp only [Block.untilUp, Block.advance_quiet]

/-! ### Machine/Units.lean -/

theorem Block.updLeg_quiet (l : Nat) (f : Leg → Leg) (b : Block) : (Block.updLeg l f b).quiet = b.quiet := by
  simp only [Block.updLeg, Block.quiet_keep]

theorem Block.updPort_quiet (p : Nat) (f : PortSt → PortSt) (b : Block) :
    (Block.updPort p f b).quiet = b.quiet := by
  simp only [Block.updPort, Block.quiet_keep]

theorem Block.updDiag_quiet (g : Nat) (f : DiagSt → DiagSt) (b : Block) :
    (Block.updDiag g f b).quiet = b.quiet := by
  simp only [Block.updDiag, Block.quiet_keep]

theorem Block.updLane_quiet (l : Nat) (f : Lane → Lane) (b : Block) :
    (Block.updLane l f b).quiet = b.quiet := by
  simp only [Block.updLane, Block.quiet_keep]

theorem Block.updCell_quiet (s : Nat) (f : Cell → Cell) (b : Block) :
    (Block.updCell s f b).quiet = b.quiet := by
  simp only [Block.updCell, Block.quiet_keep]

theorem Block.updCtx_quiet (c : Nat) (f : Ctx → Ctx) (b : Block) : (Block.updCtx c f b).quiet = b.quiet := by
  simp only [Block.updCtx, Block.quiet_keep]

theorem Block.updCh_quiet (s : Nat) (f : ChCell → ChCell) (b : Block) :
    (Block.updCh s f b).quiet = b.quiet := by
  simp only [Block.updCh, Block.quiet_keep]

theorem Block.updArm_quiet (k : Nat) (f : ArmK → ArmK) (b : Block) :
    (Block.updArm k f b).quiet = b.quiet := by
  simp only [Block.updArm, Block.quiet_keep]

theorem Block.updRecov_quiet (k : Nat) (f : Recov → Recov) (b : Block) :
    (Block.updRecov k f b).quiet = b.quiet := by
  simp only [Block.updRecov, Block.quiet_keep]

theorem Block.updConv_quiet (f : ConvSt → ConvSt) (b : Block) : (Block.updConv f b).quiet = b.quiet := by
  simp only [Block.updConv, Block.quiet_keep]

theorem Block.updSafe_quiet (f : SafeSt → SafeSt) (b : Block) : (Block.updSafe f b).quiet = b.quiet := by
  simp only [Block.updSafe, Block.quiet_keep]

theorem Block.updPair_quiet (f : PairSt → PairSt) (b : Block) : (Block.updPair f b).quiet = b.quiet := by
  simp only [Block.updPair, Block.quiet_keep]

theorem Block.updStrk_quiet (f : StrokeSt → StrokeSt) (b : Block) : (Block.updStrk f b).quiet = b.quiet := by
  simp only [Block.updStrk, Block.quiet_keep]

theorem Block.updCst_quiet (f : CastSt → CastSt) (b : Block) : (Block.updCst f b).quiet = b.quiet := by
  simp only [Block.updCst, Block.quiet_keep]

theorem Block.updEvt_quiet (f : EvtSt → EvtSt) (b : Block) : (Block.updEvt f b).quiet = b.quiet := by
  simp only [Block.updEvt, Block.quiet_keep]

theorem Block.updBoot_quiet (f : BootSt → BootSt) (b : Block) (h1 : (f b.boot).fw = b.boot.fw) (h2 : (f
    b.boot).opt = b.boot.opt) (h3 : (f b.boot).cfg = b.boot.cfg) : (b.updBoot f).quiet = b.quiet := by
  simp only [Block.updBoot, Block.quiet, h1, h2, h3]

theorem Block.updDma_quiet (f : DmaSt → DmaSt) (b : Block) : (Block.updDma f b).quiet = b.quiet := by
  simp only [Block.updDma, Block.quiet_keep]

theorem Block.updPow_quiet (f : PowerSt → PowerSt) (b : Block) (h : (f b.pow).cages = b.pow.cages) :
    (b.updPow f).quiet = b.quiet := by
  simp only [Block.updPow, Block.quiet, h]

theorem Block.updCells_quiet (f : CellsSt → CellsSt) (b : Block) : (Block.updCells f b).quiet = b.quiet := by
  simp only [Block.updCells, Block.quiet_keep]

theorem Block.updLv_quiet (f : LvSt → LvSt) (b : Block) : (Block.updLv f b).quiet = b.quiet := by
  simp only [Block.updLv, Block.quiet_keep]

theorem Block.updAdc_quiet (f : AdcSt → AdcSt) (b : Block) : (Block.updAdc f b).quiet = b.quiet := by
  simp only [Block.updAdc, Block.quiet_keep]

theorem Block.updPtp_quiet (f : PtpSt → PtpSt) (b : Block) : (Block.updPtp f b).quiet = b.quiet := by
  simp only [Block.updPtp, Block.quiet_keep]

theorem Block.updTb_quiet (f : TimeBase → TimeBase) (b : Block) (h1 : (f b.tb).inc = b.tb.inc) (h2 : (f
    b.tb).delta = b.tb.delta) : (b.updTb f).quiet = b.quiet := by
  simp only [Block.updTb, Block.quiet, h1, h2]

theorem Block.updJv_quiet (f : JarvasSt → JarvasSt) (b : Block) : (Block.updJv f b).quiet = b.quiet := by
  simp only [Block.updJv, Block.quiet_keep]

theorem Block.holdShown_quiet (b : Block) : (Block.holdShown b).quiet = b.quiet := by
  simp only [Block.holdShown, Block.updPair_quiet]

theorem Block.untilI_quiet (t : Int) (b : Block) : (Block.untilI t b).quiet = b.quiet := by
  simp only [Block.untilI, Block.quiet_ite, ite_self, Block.advance_quiet]

/-! ### Machine/Log.lean -/

theorem Block.record_quiet (o : Occ) (cls : Nat) (recurs : Bool) (lockout : Bool) (b : Block) :
    (Block.record o cls recurs lockout b).quiet = b.quiet := by
  simp only [Block.record, Block.quiet_ite, ite_self, Block.count_quiet, Block.updEvt_quiet]

theorem Block.note_quiet (o : Occ) (b : Block) : (Block.note o b).quiet = b.quiet := by
  simp only [Block.note, Block.quiet_ite, ite_self, Block.record_quiet]

theorem Block.onFence_quiet (k : Nat) (allows : Bool) (b : Block) :
    (Block.onFence k allows b).quiet = b.quiet := by
  simp only [Block.onFence, Block.quiet_ite, ite_self, Block.updRecov_quiet, Block.flag_quiet]

theorem Block.onRecurrence_quiet (k : Nat) (b : Block) : (Block.onRecurrence k b).quiet = b.quiet := by
  simp only [Block.onRecurrence, Block.quiet_ite, ite_self, Block.updCell_quiet, Block.updRecov_quiet]

theorem Block.onReadmitDone_quiet (ut : Nat) (i : Nat) (k : Nat) (b : Block) :
    (Block.onReadmitDone ut i k b).quiet = b.quiet := by
  simp only [Block.onReadmitDone, Block.quiet_ite, ite_self, Block.updRecov_quiet, Block.flag_quiet,
      Block.note_quiet]

theorem Block.holdFenced_quiet (k : Nat) (b : Block) : (Block.holdFenced k b).quiet = b.quiet := by
  simp only [Block.holdFenced, Block.updRecov_quiet]

theorem Block.onFaultClear_quiet (k : Nat) (b : Block) : (Block.onFaultClear k b).quiet = b.quiet := by
  simp only [Block.onFaultClear, Block.quiet_ite, ite_self, Block.updRecov_quiet, Block.flag_quiet]

/-! ### Machine/Stage.lean -/

theorem Block.openSwitch_quiet (p : Nat) (soft : Bool) (b : Block) :
    (Block.openSwitch p soft b).quiet = b.quiet := by
  simp only [Block.openSwitch, Block.quiet_ite, ite_self, Block.updPort_quiet, Block.setBit_quiet,
      Block.flag_quiet, Block.emit_quiet]

theorem Block.tryOpen_quiet (p : Nat) (b : Block) : (Block.tryOpen p b).quiet = b.quiet := by
  simp only [Block.tryOpen, Block.quiet_ite, ite_self, Block.openSwitch_quiet]

theorem Block.settleLeg_quiet (l : Nat) (b : Block) : (Block.settleLeg l b).quiet = b.quiet := by
  unfold Block.settleLeg
  repeat' (first | with_reducible rfl | intro _ | split
                 | simp only [Block.updLeg_quiet, Block.flag_quiet, Block.emit_quiet, Block.wr_quiet])

theorem Block.brakeStop_quiet (o : Output) (b : Block) : (Block.brakeStop o b).quiet = b.quiet := by
  simp only [Block.brakeStop, Block.quiet_ite, ite_self, Block.emit_quiet, Block.updLv_quiet,
      Block.flag_quiet, Block.wr_quiet]

theorem Block.holdLeg_quiet (l : Nat) (soft : Bool) (b : Block) :
    (Block.holdLeg l soft b).quiet = b.quiet := by
  simp only [Block.holdLeg, Block.quiet_ite, ite_self, Block.settleLeg_quiet, Block.updLeg_quiet,
      Block.wr_quiet, Block.brakeStop_quiet, Block.emit_quiet, Block.flag_quiet]

theorem Block.stopPort_quiet (p : Nat) (soft : Bool) (b : Block) :
    (Block.stopPort p soft b).quiet = b.quiet := by
  simp only [Block.stopPort, implies_true, Block.holdLeg_quiet, Block.updPort_quiet, Block.tryOpen_quiet,
      Block.eachOf_quiet]

theorem Block.portState_quiet (p : Nat) (st : Nat) (b : Block) :
    (Block.portState p st b).quiet = b.quiet := by
  simp only [Block.portState, Block.quiet_ite, ite_self, Block.updPort_quiet, Block.wr_quiet]

theorem Block.portToWait_quiet (p : Nat) (soft : Bool) (b : Block) :
    (Block.portToWait p soft b).quiet = b.quiet := by
  simp only [Block.portToWait, Block.quiet_ite, ite_self, Block.stopPort_quiet, Block.updRecov_quiet,
      Block.wr_quiet, Block.portState_quiet]

theorem Block.groupFenced_quiet (g : Nat) (b : Block) : (Block.groupFenced g b).quiet = b.quiet := by
  simp only [Block.groupFenced, Block.updDiag_quiet]

theorem Block.fenceLeg_quiet (l : Nat) (cause : Nat) (soft : Bool) (b : Block) :
    (Block.fenceLeg l cause soft b).quiet = b.quiet := by
  unfold Block.fenceLeg
  repeat' (first | with_reducible rfl | intro _ | split
                 | simp only [Block.quiet_ite, ite_self, implies_true, Block.holdLeg_quiet, Block.wr_quiet,
                       Block.flag_quiet, Block.groupFenced_quiet, Block.portToWait_quiet, Block.eachOf_quiet])

theorem Block.fencePort_quiet (p : Nat) (cause : Nat) (b : Block) :
    (Block.fencePort p cause b).quiet = b.quiet := by
  simp only [Block.fencePort, Block.quiet_ite, ite_self, Block.stopPort_quiet, Block.groupFenced_quiet,
      Block.wr_quiet, Block.portState_quiet]

theorem Block.latchPort_quiet (p : Nat) (cause : Nat) (soft : Bool) (b : Block) :
    (Block.latchPort p cause soft b).quiet = b.quiet := by
  simp only [Block.latchPort, Block.quiet_ite, ite_self, Block.stopPort_quiet, Block.holdFenced_quiet,
      Block.wr_quiet, Block.portState_quiet]

theorem Block.fenceCtx_quiet (c : Nat) (b : Block) : (Block.fenceCtx c b).quiet = b.quiet := by
  simp only [Block.fenceCtx, Block.updCtx_quiet]

theorem Block.decideFence_quiet (s : Nat) (cause : Nat) (b : Block) :
    (Block.decideFence s cause b).quiet = b.quiet := by
  simp only [Block.decideFence, Block.quiet_ite, ite_self, Block.updCell_quiet]

theorem Block.blockStage_quiet (soft : Bool) (b : Block) : (Block.blockStage soft b).quiet = b.quiet := by
  simp only [Block.blockStage, implies_true, Block.holdLeg_quiet, Block.stopPort_quiet, Block.each_quiet,
      Block.eachOf_quiet]

/-! ### Machine/Demand.lean -/

theorem Block.decideRemoval_quiet (kind : Nat) (b : Block) :
    (Block.decideRemoval kind b).quiet = b.quiet := by
  simp only [Block.decideRemoval, Block.updSafe_quiet]

theorem Block.demandCause_quiet (cause : Nat) (b : Block) : (Block.demandCause cause b).quiet = b.quiet := by
  simp only [Block.demandCause, Block.quiet_ite, ite_self, Block.wr_quiet]

theorem Block.remove_quiet (partly : Bool) (b : Block) : (Block.remove partly b).quiet = b.quiet := by
  simp only [Block.remove, Block.quiet_ite, ite_self, Block.updSafe_quiet, Block.decideRemoval_quiet,
      Block.wr_quiet]

theorem Block.demandSF2_quiet (cause : Nat) (partly : Bool) (b : Block) :
    (Block.demandSF2 cause partly b).quiet = b.quiet := by
  simp only [Block.demandSF2, Block.quiet_ite, ite_self, Block.remove_quiet, Block.demandCause_quiet,
      Block.count_quiet, Block.updConv_quiet]

theorem Block.startRamp_quiet (b : Block) : (Block.startRamp b).quiet = b.quiet := by
  simp only [Block.startRamp, Block.updSafe_quiet, Block.wr_quiet]

theorem Block.demandSF1_quiet (cause : Nat) (b : Block) : (Block.demandSF1 cause b).quiet = b.quiet := by
  simp only [Block.demandSF1, Block.quiet_ite, ite_self, Block.demandSF2_quiet, Block.count_quiet,
      Block.updSafe_quiet, Block.startRamp_quiet, Block.demandCause_quiet, Block.updConv_quiet,
      Block.decideRemoval_quiet]

theorem Block.demandHalt_quiet (partly : Bool) (b : Block) : (Block.demandHalt partly b).quiet = b.quiet := by
  simp only [Block.demandHalt, Block.wr_quiet, Block.remove_quiet, Block.demandCause_quiet, Block.count_quiet]

/-! ### Machine/Events.lean -/

theorem Block.fenceUnit_quiet (ut : Nat) (i : Nat) (cause : Nat) (b : Block) :
    (Block.fenceUnit ut i cause b).quiet = b.quiet := by
  unfold Block.fenceUnit
  repeat' (first | with_reducible rfl | intro _ | split
                 | simp only [Block.decideFence_quiet, Block.fenceLeg_quiet, Block.fencePort_quiet,
                       Block.fenceCtx_quiet])

theorem Block.latch_quiet (k : Nat) (cls : Nat) (b : Block) : (Block.latch k cls b).quiet = b.quiet := by
  simp only [Block.latch, Block.updEvt_quiet, Block.flag_quiet]

theorem Block.blockAct_quiet (source : Nat) (b : Block) : (Block.blockAct source b).quiet = b.quiet := by
  simp only [Block.blockAct, Block.quiet_ite, ite_self, Block.blockStage_quiet, Block.updPair_quiet,
      Block.updEvt_quiet]

theorem Block.keepHalt_quiet (source : Nat) (b : Block) : (Block.keepHalt source b).quiet = b.quiet := by
  simp only [Block.keepHalt, Block.quiet_ite, ite_self, Block.flag_quiet, Block.wr_quiet]

theorem Block.classAct_quiet (source : Nat) (cls : Nat) (b : Block) :
    (Block.classAct source cls b).quiet = b.quiet := by
  unfold Block.classAct
  repeat' (first | with_reducible rfl | intro _ | split
                 | simp only [Block.quiet_ite, ite_self, Block.latch_quiet, Block.updConv_quiet,
                       Block.blockAct_quiet, Block.demandHalt_quiet, Block.keepHalt_quiet])

theorem Block.markHalt_quiet (k : Nat) (cls : Nat) (b : Block) :
    (Block.markHalt k cls b).quiet = b.quiet := by
  simp only [Block.markHalt, Block.quiet_ite, ite_self, Block.updRecov_quiet]

theorem Block.recurs_quiet (o : Occ) (k : Nat) (cls : Nat) (own : Option Nat) (b : Block) :
    (Block.recurs o k cls own b).quiet = b.quiet := by
  simp only [Block.recurs, Block.quiet_ite, ite_self, Block.onRecurrence_quiet, Block.record_quiet,
      Block.holdFenced_quiet, Block.decideFence_quiet]

theorem Block.raiseUnit_quiet (o : Occ) (cls : Nat) (own : Option Nat) (b : Block) :
    (Block.raiseUnit o cls own b).quiet = b.quiet := by
  unfold Block.raiseUnit
  repeat' (first | with_reducible rfl | intro _ | split
                 | simp only [Block.quiet_ite, ite_self, Block.record_quiet, Block.markHalt_quiet,
                       Block.recurs_quiet, Block.fenceUnit_quiet, Block.onFence_quiet])

theorem Block.raiseOwn_quiet (o : Occ) (own : Option Nat) (b : Block) :
    (Block.raiseOwn o own b).quiet = b.quiet := by
  simp only [Block.raiseOwn, Block.quiet_ite, ite_self, Block.classAct_quiet, Block.raiseUnit_quiet]

theorem Block.raise_quiet (o : Occ) (b : Block) : (Block.raise o b).quiet = b.quiet := by
  simp only [Block.raise, Block.raiseOwn_quiet]

theorem Block.diagFail_quiet (code : Nat) (b : Block) : (Block.diagFail code b).quiet = b.quiet := by
  simp only [Block.diagFail, Block.raise_quiet]

theorem Block.checked_quiet (k : Nat) (i : Nat) (b : Block) : (Block.checked k i b).quiet = b.quiet := by
  simp only [Block.checked, Block.quiet_ite, ite_self, Block.wr_quiet]

theorem Block.dropMark_quiet (k : Nat) (on : Bool) (b : Block) : (Block.dropMark k on b).quiet = b.quiet := by
  simp only [Block.dropMark, Block.updEvt_quiet]

/-! ### Machine/Link.lean -/

theorem Block.laneLeave_quiet (l : Nat) (b : Block) : (Block.laneLeave l b).quiet = b.quiet := by
  simp only [Block.laneLeave, Block.quiet_ite, ite_self, Block.wr_quiet, Block.count_quiet, Block.flag_quiet]

theorem Block.laneTo_quiet (l : Nat) (st : Nat) (b : Block) : (Block.laneTo l st b).quiet = b.quiet := by
  simp only [Block.laneTo, Block.quiet_ite, ite_self, Block.wr_quiet, Block.laneLeave_quiet, Block.flag_quiet,
      Block.updLane_quiet]

theorem Block.laneReject_quiet (l : Nat) (cause : Nat) (b : Block) :
    (Block.laneReject l cause b).quiet = b.quiet := by
  simp only [Block.laneReject, Block.raise_quiet, Block.wr_quiet, Block.laneTo_quiet]

theorem Block.laneDown_quiet (l : Nat) (to_ : Nat) (lostReports : Bool) (b : Block) :
    (Block.laneDown l to_ lostReports b).quiet = b.quiet := by
  simp only [Block.laneDown, Block.quiet_ite, ite_self, Block.raiseOwn_quiet, Block.laneTo_quiet]

theorem Block.powerEngines_quiet (b : Block) : (Block.powerEngines b).quiet = b.quiet := by
  simp only [Block.powerEngines, Block.wr_quiet]

theorem Block.judgeLanes_quiet (b : Block) : (Block.judgeLanes b).quiet = b.quiet := by
  simp only [Block.judgeLanes, Block.quiet_ite, ite_self, implies_true, Block.powerEngines_quiet,
      Block.laneTo_quiet, Block.laneDown_quiet, Block.each_quiet]

theorem Block.retrainRejected_quiet (b : Block) : (Block.retrainRejected b).quiet = b.quiet := by
  simp only [Block.retrainRejected, Block.quiet_ite, ite_self, implies_true, Block.laneTo_quiet,
      Block.each_quiet]

theorem Block.lanesQuiet_quiet (b : Block) : (Block.lanesQuiet b).quiet = b.quiet := by
  simp only [Block.lanesQuiet, Block.quiet_ite, ite_self, implies_true, Block.laneTo_quiet, Block.each_quiet]

theorem Block.lanesWake_quiet (b : Block) : (Block.lanesWake b).quiet = b.quiet := by
  simp only [Block.lanesWake, Block.quiet_ite, ite_self, implies_true, Block.laneTo_quiet,
      Block.updLane_quiet, Block.each_quiet]

theorem Block.sendBlock_quiet (l : Nat) (b : Block) : (Block.sendBlock l b).quiet = b.quiet := by
  simp only [Block.sendBlock, Block.emitLane_quiet, Block.updLane_quiet]

theorem Block.sendBlocks_quiet (b : Block) : (Block.sendBlocks b).quiet = b.quiet := by
  simp only [Block.sendBlocks, Block.quiet_ite, ite_self, implies_true, Block.sendBlock_quiet, Block.each_quiet]

theorem Block.laneSettles_quiet (l : Nat) (b : Block) : (Block.laneSettles l b).quiet = b.quiet := by
  simp only [Block.laneSettles, Block.quiet_ite, ite_self, Block.laneDown_quiet]

theorem Block.lanesBoundary_quiet (b : Block) : (Block.lanesBoundary b).quiet = b.quiet := by
  simp only [Block.lanesBoundary, Block.quiet_ite, ite_self, implies_true, Block.updLane_quiet,
      Block.laneTo_quiet, Block.sendBlock_quiet, Block.laneSettles_quiet, Block.each_quiet]

theorem Block.testStart_quiet (l : Nat) (pattern : Nat) (len : Nat) (b : Block) :
    (Block.testStart l pattern len b).quiet = b.quiet := by
  simp only [Block.testStart, Block.laneTo_quiet, Block.flag_quiet, Block.wr64_quiet, Block.wr_quiet,
      Block.emitLane_quiet, Block.updLane_quiet]

theorem Block.testResult_quiet (l : Nat) (pass : Bool) (inj : Bool) (b : Block) :
    (Block.testResult l pass inj b).quiet = b.quiet := by
  simp only [Block.testResult, Block.quiet_ite, ite_self, Block.flag_quiet, Block.updLane_quiet,
      Block.raise_quiet]

theorem Block.addBits_quiet (l : Nat) (t : Nat) (b : Block) : (Block.addBits l t b).quiet = b.quiet := by
  unfold Block.addBits
  repeat' (first | with_reducible rfl | intro _ | split | simp only [Block.updLane_quiet, Block.wr64_quiet])

theorem Block.syncStops_quiet (l : Nat) (t : Nat) (b : Block) : (Block.syncStops l t b).quiet = b.quiet := by
  simp only [Block.syncStops, Block.flag_quiet, Block.updLane_quiet, Block.addBits_quiet]

theorem Block.testEnds_quiet (l : Nat) (t : Nat) (fenced : Bool) (b : Block) :
    (Block.testEnds l t fenced b).quiet = b.quiet := by
  simp only [Block.testEnds, Block.quiet_ite, ite_self, Block.syncStops_quiet, Block.updLane_quiet,
      Block.testResult_quiet, Block.wr_quiet]

theorem Block.testStop_quiet (l : Nat) (b : Block) : (Block.testStop l b).quiet = b.quiet := by
  simp only [Block.testStop, Block.quiet_ite, ite_self, Block.drawn_quiet, Block.count_quiet,
      Block.testEnds_quiet]

theorem Block.testShow_quiet (b : Block) : (Block.testShow b).quiet = b.quiet := by
  simp only [Block.testShow, Block.quiet_ite, ite_self, implies_true, Block.addBits_quiet, Block.each_quiet]

theorem Block.frozenMore_quiet (f : Field) (b : Block) : (Block.frozenMore f b).quiet = b.quiet := by
  simp only [Block.frozenMore, Block.quiet_keep, Block.drawn_quiet]

theorem Block.testErrors_quiet (b : Block) : (Block.testErrors b).quiet = b.quiet := by
  simp only [Block.testErrors, Block.quiet_ite, Block.frozenMore_quiet, ite_self, implies_true, Block.each_quiet]

theorem Block.takeSerial_quiet (s : Nat) (sn : Nat) (b : Block) :
    (Block.takeSerial s sn b).quiet = b.quiet := by
  simp only [Block.takeSerial, Block.quiet_ite, ite_self, Block.raise_quiet, Block.wr64_quiet, Block.wr_quiet,
      Block.updCells_quiet]

theorem Block.takeCap_quiet (l : Nat) (bs : List Byte) (b : Block) :
    (Block.takeCap l bs b).quiet = b.quiet := by
  simp only [Block.takeCap, implies_true, Block.wr_quiet, Block.wr64_quiet, Block.each_quiet]

theorem Block.uplinkCheck_quiet (l : Nat) (bs : List Byte) (b : Block) :
    (Block.uplinkCheck l bs b).quiet = b.quiet := by
  simp only [Block.uplinkCheck, Block.quiet_ite, ite_self, Block.checked_quiet, Block.wr_quiet,
      Block.updLane_quiet, Block.count_quiet]

theorem Block.capJudge_quiet (l : Nat) (bs : List Byte) (b : Block) :
    (Block.capJudge l bs b).quiet = b.quiet := by
  unfold Block.capJudge
  repeat' (first | with_reducible rfl | intro _ | split
                 | simp only [Block.testResult_quiet, Block.wr_quiet, Block.laneReject_quiet,
                       Block.updLane_quiet, Block.takeSerial_quiet, Block.takeCap_quiet])

theorem Block.capabilityFrameRx_quiet (l : Nat) (bs : List Byte) (b : Block) :
    (Block.capabilityFrameRx l bs b).quiet = b.quiet := by
  simp only [Block.capabilityFrameRx, Block.quiet_ite, ite_self, Block.uplinkCheck_quiet, Block.capJudge_quiet]

theorem Block.reportFrameRx_quiet (l : Nat) (bs : List Byte) (b : Block) :
    (Block.reportFrameRx l bs b).quiet = b.quiet := by
  simp only [Block.reportFrameRx, Block.quiet_ite, ite_self, Block.uplinkCheck_quiet, Block.updLane_quiet]

theorem Block.beaconBurstSend_quiet (l : Nat) (b : Block) : (Block.beaconBurstSend l b).quiet = b.quiet := by
  unfold Block.beaconBurstSend
  repeat' (first | with_reducible rfl | intro _ | split
                 | simp only [Block.quiet_ite, ite_self, Block.untilUp_quiet, Block.emitLane_quiet,
                       Block.updLane_quiet])

theorem Block.beaconAnswerRx_quiet (l : Nat) (b : Block) : (Block.beaconAnswerRx l b).quiet = b.quiet := by
  unfold Block.beaconAnswerRx
  repeat' (first | with_reducible rfl | intro _ | split
                 | simp only [Block.quiet_ite, Block.updLane_quiet, Block.laneTo_quiet])

theorem Block.lightLoss_quiet (l : Nat) (b : Block) : (Block.lightLoss l b).quiet = b.quiet := by
  unfold Block.lightLoss
  repeat' (first | with_reducible rfl | intro _ | split
                 | simp only [Block.flag_quiet, Block.laneTo_quiet, Block.laneDown_quiet])

theorem Block.lightReturn_quiet (l : Nat) (b : Block) : (Block.lightReturn l b).quiet = b.quiet := by
  simp only [Block.lightReturn, Block.flag_quiet]

theorem Block.bitLockChange_quiet (l : Nat) (on : Bool) (b : Block) :
    (Block.bitLockChange l on b).quiet = b.quiet := by
  simp only [Block.bitLockChange, Block.flag_quiet]

theorem Block.blockLockGain_quiet (l : Nat) (b : Block) : (Block.blockLockGain l b).quiet = b.quiet := by
  simp only [Block.blockLockGain, Block.quiet_ite, ite_self, Block.flag_quiet]

theorem Block.blockLockLoss_quiet (l : Nat) (b : Block) : (Block.blockLockLoss l b).quiet = b.quiet := by
  simp only [Block.blockLockLoss, Block.quiet_ite, ite_self, Block.flag_quiet, Block.count_quiet,
      Block.laneDown_quiet]

theorem Block.markerRx_quiet (l : Nat) (far : Bool) (b : Block) :
    (Block.markerRx l far b).quiet = b.quiet := by
  simp only [Block.markerRx, Block.quiet_ite, ite_self, Block.flag_quiet]

theorem Block.trainLocked_quiet (l : Nat) (b : Block) : (Block.trainLocked l b).quiet = b.quiet := by
  simp only [Block.trainLocked, Block.quiet_ite, ite_self, implies_true, Block.updLane_quiet,
      Block.emitLane_quiet, Block.each_quiet]

theorem Block.trainTimeout_quiet (l : Nat) (b : Block) : (Block.trainTimeout l b).quiet = b.quiet := by
  simp only [Block.trainTimeout, Block.quiet_ite, ite_self, Block.laneTo_quiet, Block.untilUp_quiet]

theorem Block.echoRspRx_quiet (l : Nat) (num : Nat) (loop : Nat) (b : Block) :
    (Block.echoRspRx l num loop b).quiet = b.quiet := by
  simp only [Block.echoRspRx, Block.quiet_ite, ite_self, Block.updLane_quiet, Block.wr_quiet,
      Block.laneReject_quiet, Block.laneTo_quiet]

theorem Block.echoTimeout_quiet (l : Nat) (b : Block) : (Block.echoTimeout l b).quiet = b.quiet := by
  simp only [Block.echoTimeout, Block.quiet_ite, ite_self, Block.laneReject_quiet, Block.untilUp_quiet]

theorem Block.capexTimeout_quiet (l : Nat) (b : Block) : (Block.capexTimeout l b).quiet = b.quiet := by
  simp only [Block.capexTimeout, Block.quiet_ite, ite_self, Block.untilUp_quiet, Block.laneReject_quiet,
      Block.updLane_quiet, Block.laneTo_quiet]

theorem Block.testPatternStart_quiet (l : Nat) (b : Block) :
    (Block.testPatternStart l b).quiet = b.quiet := by
  simp only [Block.testPatternStart, Block.quiet_ite, ite_self, Block.updLane_quiet, Block.untilUp_quiet]

theorem Block.prbsSyncGain_quiet (l : Nat) (b : Block) : (Block.prbsSyncGain l b).quiet = b.quiet := by
  simp only [Block.prbsSyncGain, Block.quiet_ite, ite_self, Block.updLane_quiet, Block.flag_quiet]

theorem Block.prbsSyncLoss_quiet (l : Nat) (b : Block) : (Block.prbsSyncLoss l b).quiet = b.quiet := by
  simp only [Block.prbsSyncLoss, Block.quiet_ite, ite_self, Block.flag_quiet, Block.count_quiet,
      Block.syncStops_quiet]

theorem Block.testEnd_quiet (l : Nat) (errs : Nat) (b : Block) :
    (Block.testEnd l errs b).quiet = b.quiet := by
  simp only [Block.testEnd, Block.quiet_ite, ite_self, Block.testEnds_quiet, Block.count_quiet,
      Block.untilUp_quiet]

theorem Block.testDarkEnd_quiet (l : Nat) (b : Block) : (Block.testDarkEnd l b).quiet = b.quiet := by
  simp only [Block.testDarkEnd, Block.quiet_ite, ite_self, Block.updLane_quiet, Block.untilUp_quiet,
      Block.laneTo_quiet, Block.powerEngines_quiet]

theorem Block.testResultTimeout_quiet (l : Nat) (b : Block) :
    (Block.testResultTimeout l b).quiet = b.quiet := by
  unfold Block.testResultTimeout
  repeat' (first | with_reducible rfl | intro _ | split
                 | simp only [Block.testResult_quiet, Block.untilUp_quiet])

/-! ### Machine/Flash.lean -/

theorem Block.updChan_quiet (n : Nat) (f : ChanSt → ChanSt) (b : Block) :
    (Block.updChan n f b).quiet = b.quiet := by
  simp only [Block.updChan, Block.updDma_quiet]

theorem Block.chanBusy_quiet (k : Nat) (on : Bool) (b : Block) : (Block.chanBusy k on b).quiet = b.quiet := by
  simp only [Block.chanBusy, Block.flag_quiet]

theorem Block.fwBegin_quiet (n : Nat) (bursts : Nat) (b : Block) :
    (Block.fwBegin n bursts b).quiet = b.quiet := by
  simp only [Block.fwBegin, Block.quiet_ite, ite_self, Block.chanBusy_quiet, Block.updChan_quiet]

theorem Block.fwEnd_quiet (n : Nat) (ok : Bool) (b : Block) : (Block.fwEnd n ok b).quiet = b.quiet := by
  simp only [Block.fwEnd, Block.quiet_ite, ite_self, Block.updDma_quiet, Block.chanBusy_quiet,
      Block.updChan_quiet, Block.bump_quiet]

theorem Block.blockErased_quiet (p : Nat) (b : Block) : (Block.blockErased p b).quiet = b.quiet := by
  simp only [Block.blockErased, Block.updBoot_quiet, Block.wr_quiet]

theorem Block.homeErased_quiet (h : Nat) (b : Block) : (Block.homeErased h b).quiet = b.quiet := by
  simp only [Block.homeErased, Block.blockErased_quiet]

theorem Block.blockMoves_quiet (b : Block) : b.blockMoves.quiet = b.quiet := by
  unfold Block.blockMoves
  generalize wearBlocks = w
  generalize flashHomes = f
  split
  · rfl
  · dsimp only
    rw [Block.blockErased_quiet]
    split
    · exact Block.updBoot_quiet _ _ rfl rfl rfl
    · rfl

/-! ### Machine/Ledger.lean -/

theorem Block.ledgerSample_quiet (record : Nat) (g : Nat) (x : Int) (b : Block) :
    (Block.ledgerSample record g x b).quiet = b.quiet := by
  simp only [Block.ledgerSample, Block.quiet_ite, ite_self, Block.updCells_quiet, Block.count_quiet]

theorem Block.ledgerStroke_quiet (b : Block) : (Block.ledgerStroke b).quiet = b.quiet := by
  unfold Block.ledgerStroke
  repeat' (first | with_reducible rfl | intro _ | split
                 | simp only [Block.quiet_ite, ite_self, implies_true, Block.ledgerSample_quiet,
                       Block.each_quiet]
                 | refine (Block.each_quiet _ _ _ ?_).trans ?_)

theorem Block.wearIndexCompute_quiet (b : Block) : (Block.wearIndexCompute b).quiet = b.quiet := by
  simp only [Block.wearIndexCompute, Block.quiet_ite, ite_self, implies_true, Block.wr_quiet, Block.each_quiet]

theorem Block.ledgerCommitted_quiet (b : Block) : (Block.ledgerCommitted b).quiet = b.quiet := by
  simp only [Block.ledgerCommitted, implies_true, Block.updCells_quiet, Block.homeErased_quiet,
      Block.eachOf_quiet]

theorem Block.ledgerBack_quiet (m : Bank) (b : Block) : (Block.ledgerBack m b).quiet = b.quiet := by
  unfold Block.ledgerBack
  repeat' (first | with_reducible rfl | intro _ | split | simp only [Block.quiet_keep, Block.wr_quiet]
                 | refine (Block.each_quiet _ _ _ ?_).trans ?_
                 | refine (Block.eachOf_quiet _ _ _ ?_).trans ?_)

theorem Block.ledgerCommitDone_quiet (ok : Bool) (b : Block) :
    (Block.ledgerCommitDone ok b).quiet = b.quiet := by
  simp only [Block.ledgerCommitDone, Block.quiet_ite, ite_self, Block.fwEnd_quiet, Block.updCells_quiet,
      Block.raise_quiet, Block.flag_quiet, Block.ledgerCommitted_quiet]

theorem Block.ledgerBegin_quiet (b : Block) : (Block.ledgerBegin b).quiet = b.quiet := by
  simp only [Block.ledgerBegin, Block.quiet_ite, ite_self, Block.fwBegin_quiet, Block.updCells_quiet,
      Block.updDma_quiet, Block.ledgerCommitDone_quiet]

theorem Block.ledgerShow_quiet (b : Block) : (Block.ledgerShow b).quiet = b.quiet := by
  simp only [Block.ledgerShow, implies_true, Block.wr_quiet, Block.each_quiet]

/-! ### Machine/Cells.lean -/

theorem Block.svcTo_quiet (s : Nat) (st : Nat) (spare : Bool) (b : Block) :
    (Block.svcTo s st spare b).quiet = b.quiet := by
  simp only [Block.svcTo, Block.wr_quiet, Block.flag_quiet, Block.updCell_quiet]

theorem Block.enterProbing_quiet (s : Nat) (short : Bool) (b : Block) :
    (Block.enterProbing s short b).quiet = b.quiet := by
  simp only [Block.enterProbing, Block.quiet_ite, ite_self, Block.flag_quiet, Block.wr_quiet,
      Block.svcTo_quiet, Block.updCell_quiet, Block.laneTo_quiet]

theorem Block.populate_quiet (short : Bool) (b : Block) : (Block.populate short b).quiet = b.quiet := by
  simp only [Block.populate, Block.quiet_ite, ite_self, implies_true, Block.enterProbing_quiet,
      Block.updRecov_quiet, Block.updCell_quiet, Block.flag_quiet, Block.wr_quiet, Block.svcTo_quiet,
      Block.each_quiet]

theorem Block.probeAll_quiet (b : Block) : (Block.probeAll b).quiet = b.quiet := by
  simp only [Block.probeAll, Block.quiet_ite, ite_self, implies_true, Block.enterProbing_quiet,
      Block.each_quiet]

theorem Block.fenceSlot_quiet (s : Nat) (cause : Nat) (allows : Bool) (b : Block) :
    (Block.fenceSlot s cause allows b).quiet = b.quiet := by
  simp only [Block.fenceSlot, Block.quiet_ite, ite_self, Block.onFence_quiet, Block.holdFenced_quiet,
      Block.decideFence_quiet]

theorem Block.probeFail_quiet (s : Nat) (b : Block) : (Block.probeFail s b).quiet = b.quiet := by
  simp only [Block.probeFail, Block.quiet_ite, ite_self, Block.updRecov_quiet, Block.fenceSlot_quiet,
      Block.raiseOwn_quiet]

theorem Block.endProbeTest_quiet (s : Nat) (b : Block) : (Block.endProbeTest s b).quiet = b.quiet := by
  simp only [Block.endProbeTest, Block.quiet_ite, ite_self, Block.testEnds_quiet]

theorem Block.fenceTakes_quiet (s : Nat) (cause : Nat) (b : Block) :
    (Block.fenceTakes s cause b).quiet = b.quiet := by
  simp only [Block.fenceTakes, Block.endProbeTest_quiet, Block.flag_quiet, Block.wr_quiet, Block.svcTo_quiet,
      Block.updCell_quiet]

theorem Block.swapEnds_quiet (k : Nat) (b : Block) : (Block.swapEnds k b).quiet = b.quiet := by
  simp only [Block.swapEnds, Block.flag_quiet, Block.wr_quiet]

theorem Block.promote_quiet (k : Nat) (b : Block) : (Block.promote k b).quiet = b.quiet := by
  unfold Block.promote
  repeat' (first | with_reducible rfl | intro _ | split | simp only [Block.svcTo_quiet])

theorem Block.fencesTake_quiet (k : Nat) (takes : List Nat) (b : Block) :
    (Block.fencesTake k takes b).quiet = b.quiet := by
  simp only [Block.fencesTake, Block.quiet_ite, ite_self, implies_true, Block.fenceTakes_quiet,
      Block.swapEnds_quiet, Block.promote_quiet, Block.eachOf_quiet]

theorem Block.armFences_quiet (k : Nat) (b : Block) : (Block.armFences k b).quiet = b.quiet := by
  simp only [Block.armFences, Block.fencesTake_quiet]

theorem Block.spareEnd_quiet (k : Nat) (before : Nat) (b : Block) :
    (Block.spareEnd k before b).quiet = b.quiet := by
  simp only [Block.spareEnd, Block.quiet_ite, ite_self, Block.raise_quiet]

theorem Block.fencesNow_quiet (k : Nat) (b : Block) : (Block.fencesNow k b).quiet = b.quiet := by
  simp only [Block.fencesNow, Block.spareEnd_quiet, Block.fencesTake_quiet]

theorem Block.armReseats_quiet (k : Nat) (b : Block) : (Block.armReseats k b).quiet = b.quiet := by
  simp only [Block.armReseats, Block.quiet_ite, ite_self, implies_true, Block.enterProbing_quiet,
      Block.flag_quiet, Block.updRecov_quiet, Block.eachOf_quiet]

theorem Block.probeStep_quiet (s : Nat) (b : Block) : (Block.probeStep s b).quiet = b.quiet := by
  unfold Block.probeStep
  repeat' (first | with_reducible rfl | intro _ | split
                 | simp only [Block.quiet_ite, ite_self, Block.updCell_quiet, Block.probeFail_quiet,
                       Block.testStart_quiet])

theorem Block.formSpares_quiet (k : Nat) (b : Block) : (Block.formSpares k b).quiet = b.quiet := by
  unfold Block.formSpares
  repeat' (first | with_reducible rfl | intro _ | split
                 | simp only [implies_true, Block.svcTo_quiet, Block.eachOf_quiet]
                 | refine (Block.each_quiet _ _ _ ?_).trans ?_)

theorem Block.reduce_quiet (k : Nat) (b : Block) : (Block.reduce k b).quiet = b.quiet := by
  unfold Block.reduce
  repeat' (first | with_reducible rfl | intro _ | split
                 | simp only [Block.quiet_ite, ite_self, Block.swapEnds_quiet, Block.svcTo_quiet])

theorem Block.armSpares_quiet (k : Nat) (b : Block) : (Block.armSpares k b).quiet = b.quiet := by
  simp only [Block.armSpares, Block.quiet_ite, ite_self, Block.formSpares_quiet, Block.reduce_quiet]

theorem Block.chargeOrJoin_quiet (s : Nat) (b : Block) : (Block.chargeOrJoin s b).quiet = b.quiet := by
  simp only [Block.chargeOrJoin, Block.svcTo_quiet, Block.updCell_quiet]

theorem Block.svcAdvance_quiet (s : Nat) (b : Block) : (Block.svcAdvance s b).quiet = b.quiet := by
  simp only [Block.svcAdvance, Block.quiet_ite, ite_self, Block.svcTo_quiet, Block.updCell_quiet,
      Block.wr_quiet]

theorem Block.armAdmits_quiet (k : Nat) (b : Block) : (Block.armAdmits k b).quiet = b.quiet := by
  unfold Block.armAdmits
  repeat' (first | with_reducible rfl | intro _ | split
                 | simp only [Block.quiet_ite, implies_true, Block.updCell_quiet, Block.svcTo_quiet,
                       Block.chargeOrJoin_quiet, Block.eachOf_quiet])

theorem Block.armSwap_quiet (k : Nat) (b : Block) : (Block.armSwap k b).quiet = b.quiet := by
  simp only [Block.armSwap, Block.quiet_ite, ite_self, Block.swapEnds_quiet]

theorem Block.armService_quiet (k : Nat) (b : Block) : (Block.armService k b).quiet = b.quiet := by
  simp only [Block.armService, Block.quiet_ite, ite_self, implies_true, Block.probeStep_quiet,
      Block.armSwap_quiet, Block.armReseats_quiet, Block.armFences_quiet, Block.armSpares_quiet,
      Block.svcAdvance_quiet, Block.spareEnd_quiet, Block.armAdmits_quiet, Block.eachOf_quiet]

theorem Block.serviceBoundary_quiet (b : Block) : (Block.serviceBoundary b).quiet = b.quiet := by
  simp only [Block.serviceBoundary, Block.quiet_ite, ite_self, implies_true, Block.updCells_quiet,
      Block.armService_quiet, Block.each_quiet]

theorem Block.judgeReport_quiet (s : Nat) (r : Report) (b : Block) :
    (Block.judgeReport s r b).quiet = b.quiet := by
  simp only [Block.judgeReport, Block.quiet_ite, ite_self, Block.updCell_quiet, Block.raiseOwn_quiet,
      Block.fenceSlot_quiet]

theorem Block.probeReport_quiet (s : Nat) (r : Report) (b : Block) :
    (Block.probeReport s r b).quiet = b.quiet := by
  simp only [Block.probeReport, Block.quiet_ite, ite_self, Block.probeFail_quiet, Block.updCell_quiet,
      Block.updCells_quiet, Block.onReadmitDone_quiet]

theorem Block.bypassCheck_quiet (s : Nat) (r : Report) (b : Block) :
    (Block.bypassCheck s r b).quiet = b.quiet := by
  unfold Block.bypassCheck
  repeat' (first | with_reducible rfl | intro _ | split
                 | simp only [Block.updCell_quiet, Block.wr_quiet, Block.raise_quiet, Block.updRecov_quiet])

theorem Block.cellReport_quiet (s : Nat) (b : Block) : (Block.cellReport s b).quiet = b.quiet := by
  unfold Block.cellReport
  repeat' (first | with_reducible rfl | intro _ | split
                 | simp only [Block.quiet_ite, ite_self, Block.flag_quiet, Block.wr_quiet,
                       Block.judgeReport_quiet, Block.onRecurrence_quiet, Block.probeReport_quiet,
                       Block.bypassCheck_quiet, Block.updCell_quiet])

theorem Block.chargeBand_quiet (s : Nat) (b : Block) : (Block.chargeBand s b).quiet = b.quiet := by
  simp only [Block.chargeBand, Block.quiet_ite, ite_self, Block.updCell_quiet]

theorem Block.probeStepTimeout_quiet (s : Nat) (b : Block) :
    (Block.probeStepTimeout s b).quiet = b.quiet := by
  simp only [Block.probeStepTimeout, Block.quiet_ite, ite_self, Block.probeFail_quiet, Block.untilUp_quiet]

theorem Block.chargingTimeout_quiet (s : Nat) (b : Block) : (Block.chargingTimeout s b).quiet = b.quiet := by
  simp only [Block.chargingTimeout, Block.quiet_ite, ite_self, Block.untilUp_quiet, Block.fenceSlot_quiet,
      Block.raiseOwn_quiet]

theorem Block.chargeHoldMet_quiet (s : Nat) (b : Block) : (Block.chargeHoldMet s b).quiet = b.quiet := by
  simp only [Block.chargeHoldMet, Block.quiet_ite, ite_self, Block.svcAdvance_quiet]

theorem Block.joiningComplete_quiet (s : Nat) (b : Block) : (Block.joiningComplete s b).quiet = b.quiet := by
  simp only [Block.joiningComplete, Block.quiet_ite, ite_self, Block.svcAdvance_quiet]

theorem Block.swapBegins_quiet (k : Nat) (s : Nat) (b : Block) :
    (Block.swapBegins k s b).quiet = b.quiet := by
  unfold Block.swapBegins
  repeat' (first | with_reducible rfl | intro _ | split | simp only [Block.flag_quiet, Block.wr_quiet])

theorem Block.spareRotation_quiet (k : Nat) (b : Block) : (Block.spareRotation k b).quiet = b.quiet := by
  unfold Block.spareRotation
  repeat' (first | with_reducible rfl | intro _ | split
                 | simp only [Block.quiet_ite, ite_self, Block.swapBegins_quiet, Block.updCells_quiet])

theorem Block.blockDecision_quiet (b : Block) : (Block.blockDecision b).quiet = b.quiet := by
  simp only [Block.blockDecision, Block.quiet_ite, ite_self, Block.updEvt_quiet, Block.sendBlocks_quiet]

/-! ### Machine/Signals.lean -/

theorem Block.sortArm_quiet (k : Nat) (b : Block) : (Block.sortArm k b).quiet = b.quiet := by
  simp only [Block.sortArm, Block.updArm_quiet]

theorem Block.direction_quiet (k : Nat) (b : Block) : (Block.direction k b).quiet = b.quiet := by
  simp only [Block.direction, Block.quiet_ite, ite_self, Block.updArm_quiet]

theorem Block.track_quiet (b : Block) : (Block.track b).1.quiet = b.quiet := by
  simp only [Block.track, Block.quiet_ite, ite_self, Block.drawn_quiet, Block.updConv_quiet]

theorem Block.formSignals_quiet (b : Block) : (Block.formSignals b).quiet = b.quiet := by
  simp only [Block.formSignals, Block.quiet_ite, ite_self, Block.track_quiet, Block.updConv_quiet]

theorem Block.gatherCounts_quiet (b : Block) : (Block.gatherCounts b).quiet = b.quiet := by
  simp only [Block.gatherCounts, Block.quiet_ite, ite_self, Block.updConv_quiet]

theorem Block.gather_quiet (b : Block) : (Block.gather b).quiet = b.quiet := by
  simp only [Block.gather, implies_true, Block.sortArm_quiet, Block.chargeBand_quiet,
      Block.gatherCounts_quiet, Block.formSignals_quiet, Block.direction_quiet, Block.each_quiet]

/-! ### Machine/Pwm.lean -/

theorem Block.powerChannels_quiet (b : Block) : (Block.powerChannels b).quiet = b.quiet := by
  simp only [Block.powerChannels, Block.quiet_ite, ite_self, implies_true, Block.flag_quiet,
      Block.brakeStop_quiet, Block.openSwitch_quiet, Block.each_quiet]

theorem Block.takeCfg_quiet (l : Nat) (c : LegCfg) (b : Block) : (Block.takeCfg l c b).quiet = b.quiet := by
  simp only [Block.takeCfg, Block.updLeg_quiet]

theorem Block.keepFormer_quiet (b : Block) : (Block.keepFormer b).quiet = b.quiet := by
  simp only [Block.keepFormer, Block.updLv_quiet]

theorem Block.leaveHeld_quiet (l : Nat) (b : Block) : (Block.leaveHeld l b).quiet = b.quiet := by
  simp only [Block.leaveHeld, Block.flag_quiet, Block.updLeg_quiet, Block.takeCfg_quiet]

theorem Block.judgeLeg_quiet (l : Nat) (b : Block) : (Block.judgeLeg l b).quiet = b.quiet := by
  simp only [Block.judgeLeg, Block.quiet_ite, ite_self, Block.holdLeg_quiet, Block.leaveHeld_quiet]

theorem Block.legFields_quiet (l : Nat) (b : Block) : (Block.legFields l b).quiet = b.quiet := by
  simp only [Block.legFields, Block.quiet_ite, ite_self, Block.flag_quiet, Block.takeCfg_quiet,
      Block.updLeg_quiet]

theorem Block.clampAct_quiet (l : Nat) (b : Block) : (Block.clampAct l b).quiet = b.quiet := by
  simp only [Block.clampAct, Block.quiet_ite, ite_self, Block.raise_quiet, Block.flag_quiet]

theorem Block.legTo_quiet (l : Nat) (t : Int) (dt : Nat) (upper : Bool) (b : Block) :
    (Block.legTo l t dt upper b).quiet = b.quiet := by
  simp only [Block.legTo, Block.settleLeg_quiet, Block.flag_quiet, Block.wr_quiet, Block.updLeg_quiet,
      Block.emit_quiet, Block.updLv_quiet]

theorem Block.buildEdges_quiet (l : Nat) (b : Block) : (Block.buildEdges l b).quiet = b.quiet := by
  simp only [Block.buildEdges, Block.quiet_ite, ite_self, Block.wr_quiet, Block.count_quiet,
      Block.updLeg_quiet, Block.legTo_quiet]

theorem Block.legStroke_quiet (l : Nat) (b : Block) : (Block.legStroke l b).quiet = b.quiet := by
  simp only [Block.legStroke, Block.updLeg_quiet, Block.flag_quiet]

theorem Block.multiBlock_quiet (b : Block) : (Block.multiBlock b).quiet = b.quiet := by
  simp only [Block.multiBlock, implies_true, Block.flag_quiet, Block.blockStage_quiet, Block.portToWait_quiet,
      Block.raise_quiet, Block.each_quiet]

theorem Block.latchLeg_quiet (l : Nat) (b : Block) : (Block.latchLeg l b).quiet = b.quiet := by
  simp only [Block.latchLeg, Block.quiet_ite, ite_self, Block.portToWait_quiet, Block.flag_quiet,
      Block.setBit_quiet, Block.holdLeg_quiet]

theorem Block.tripAct_quiet (k : Nat) (b : Block) : (Block.tripAct k b).quiet = b.quiet := by
  simp only [Block.tripAct, Block.quiet_ite, ite_self, Block.updLv_quiet, Block.setBit_quiet,
      Block.raiseOwn_quiet, Block.latchLeg_quiet, Block.multiBlock_quiet]

theorem Block.tripJudge_quiet (k : Nat) (b : Block) : (Block.tripJudge k b).quiet = b.quiet := by
  unfold Block.tripJudge
  repeat' (first | with_reducible rfl | intro _ | split
                 | simp only [Block.quiet_ite, ite_self, Block.setBit_quiet, Block.updLv_quiet,
                       Block.tripAct_quiet])

theorem Block.tripsJudge_quiet (b : Block) : (Block.tripsJudge b).quiet = b.quiet := by
  simp only [Block.tripsJudge, implies_true, Block.tripJudge_quiet, Block.each_quiet]

theorem Block.tripInput_quiet (k : Nat) (level : Bool) (b : Block) :
    (Block.tripInput k level b).quiet = b.quiet := by
  simp only [Block.tripInput, Block.tripJudge_quiet, Block.updLv_quiet]

theorem Block.pwmUpdatePoint_quiet (l : Nat) (b : Block) : (Block.pwmUpdatePoint l b).quiet = b.quiet := by
  simp only [Block.pwmUpdatePoint, Block.quiet_ite, ite_self, Block.judgeLeg_quiet, Block.tripsJudge_quiet,
      Block.untilI_quiet, Block.buildEdges_quiet, Block.clampAct_quiet, Block.legFields_quiet]

theorem Block.bootstrapRefresh_quiet (l : Nat) (b : Block) :
    (Block.bootstrapRefresh l b).quiet = b.quiet := by
  simp only [Block.bootstrapRefresh, Block.quiet_ite, ite_self, Block.settleLeg_quiet, Block.tripsJudge_quiet,
      Block.untilUp_quiet, Block.legTo_quiet, Block.count_quiet, Block.updLeg_quiet]

theorem Block.forceBrake_quiet (l : Nat) (b : Block) : (Block.forceBrake l b).quiet = b.quiet := by
  simp only [Block.forceBrake, Block.quiet_ite, ite_self, Block.updLv_quiet, Block.flag_quiet,
      Block.count_quiet]

theorem Block.interlockAct_quiet (l : Nat) (b : Block) : (Block.interlockAct l b).quiet = b.quiet := by
  simp only [Block.interlockAct, Block.quiet_ite, ite_self, Block.count_quiet, Block.wr_quiet,
      Block.flag_quiet, Block.emit_quiet, Block.updLeg_quiet, Block.forceBrake_quiet, Block.raise_quiet]

theorem Block.fenceQuiet_quiet (ut : Nat) (i : Nat) (cause : Nat) (b : Block) :
    (Block.fenceQuiet ut i cause b).quiet = b.quiet := by
  unfold Block.fenceQuiet
  repeat' (first | with_reducible rfl | intro _ | split
                 | simp only [Block.fenceUnit_quiet, Block.onFence_quiet])

theorem Block.interlockPersist_quiet (l : Nat) (b : Block) :
    (Block.interlockPersist l b).quiet = b.quiet := by
  unfold Block.interlockPersist
  repeat' (first | with_reducible rfl | intro _ | split
                 | simp only [Block.fenceQuiet_quiet, Block.untilUp_quiet])

theorem Block.forceApply_quiet (l : Nat) (b : Block) : (Block.forceApply l b).quiet = b.quiet := by
  simp only [Block.forceApply, Block.quiet_ite, ite_self, Block.interlockAct_quiet, Block.forceBrake_quiet,
      Block.legTo_quiet, Block.holdLeg_quiet]

theorem Block.forceLeg_quiet (l : Nat) (b : Block) : (Block.forceLeg l b).quiet = b.quiet := by
  simp only [Block.forceLeg, Block.quiet_ite, ite_self, Block.holdLeg_quiet, Block.updLeg_quiet,
      Block.judgeLeg_quiet, Block.tripsJudge_quiet, Block.takeCfg_quiet, Block.forceApply_quiet]

theorem Block.legAgain_quiet (l : Nat) (b : Block) : (Block.legAgain l b).quiet = b.quiet := by
  simp only [Block.legAgain, Block.quiet_ite, ite_self, Block.forceApply_quiet, Block.judgeLeg_quiet]

theorem Block.countShort_quiet (l : Nat) (b : Block) : (Block.countShort l b).quiet = b.quiet := by
  simp only [Block.countShort, Block.quiet_ite, ite_self, Block.updLv_quiet, Block.multiBlock_quiet]

theorem Block.legShort_quiet (l : Nat) (cause : Nat) (code : Nat) (b : Block) :
    (Block.legShort l cause code b).quiet = b.quiet := by
  simp only [Block.legShort, Block.updLv_quiet, Block.latchLeg_quiet, Block.countShort_quiet,
      Block.raiseOwn_quiet]

theorem Block.desatDetect_quiet (l : Nat) (upper : Bool) (b : Block) :
    (Block.desatDetect l upper b).quiet = b.quiet := by
  simp only [Block.desatDetect, Block.quiet_ite, ite_self, Block.legShort_quiet, Block.flag_quiet]

theorem Block.fastCurrentTrip_quiet (l : Nat) (b : Block) : (Block.fastCurrentTrip l b).quiet = b.quiet := by
  simp only [Block.fastCurrentTrip, Block.quiet_ite, ite_self, Block.legShort_quiet]

theorem Block.gateStuck_quiet (p : Nat) (b : Block) : (Block.gateStuck p b).quiet = b.quiet := by
  simp only [Block.gateStuck, Block.quiet_ite, ite_self, Block.untilUp_quiet, Block.updPort_quiet,
      Block.setBit_quiet, Block.raise_quiet]

theorem Block.gateOffConfirmed_quiet (p : Nat) (b : Block) :
    (Block.gateOffConfirmed p b).quiet = b.quiet := by
  simp only [Block.gateOffConfirmed, implies_true, Block.tryOpen_quiet, Block.flag_quiet, Block.eachOf_quiet]

theorem Block.staticShort_quiet (p : Nat) (b : Block) : (Block.staticShort p b).quiet = b.quiet := by
  simp only [Block.staticShort, Block.quiet_ite, ite_self, Block.latchPort_quiet, Block.openSwitch_quiet,
      Block.flag_quiet, Block.raise_quiet]

theorem Block.legEdge_quiet (l : Nat) (b : Block) : (Block.legEdge l b).quiet = b.quiet := by
  unfold Block.legEdge
  repeat' (first | with_reducible rfl | intro _ | split
                 | simp only [Block.tripsJudge_quiet, Block.untilI_quiet, Block.legTo_quiet,
                       Block.updLeg_quiet])

theorem Block.gateUvlo_quiet (ch : Nat) (low : Bool) (b : Block) :
    (Block.gateUvlo ch low b).quiet = b.quiet := by
  simp only [Block.gateUvlo, Block.quiet_ite, ite_self, Block.flag_quiet, Block.openSwitch_quiet,
      Block.raiseOwn_quiet, Block.holdLeg_quiet]

theorem Block.startDiag_quiet (g : Nat) (b : Block) : (Block.startDiag g b).quiet = b.quiet := by
  simp only [Block.startDiag, Block.quiet_ite, ite_self, implies_true, Block.holdLeg_quiet,
      Block.openSwitch_quiet, Block.wr_quiet, Block.setBit_quiet, Block.updDiag_quiet, Block.eachOf_quiet]

theorem Block.testStage_quiet (b : Block) : (Block.testStage b).quiet = b.quiet := by
  simp only [Block.testStage, Block.quiet_ite, ite_self, implies_true, Block.startDiag_quiet, Block.each_quiet]

theorem Block.legBack_quiet (l : Nat) (b : Block) : (Block.legBack l b).quiet = b.quiet := by
  simp only [Block.legBack, Block.quiet_ite, ite_self, Block.wr_quiet, Block.flag_quiet, Block.setBit_quiet,
      Block.updLv_quiet, Block.onReadmitDone_quiet]

theorem Block.groupBack_quiet (g : Nat) (b : Block) : (Block.groupBack g b).quiet = b.quiet := by
  simp only [Block.groupBack, Block.quiet_ite, ite_self, implies_true, Block.wr_quiet, Block.flag_quiet,
      Block.legBack_quiet, Block.eachOf_quiet]

theorem Block.diagEnd_quiet (g : Nat) (b : Block) : (Block.diagEnd g b).quiet = b.quiet := by
  simp only [Block.diagEnd, Block.quiet_ite, ite_self, implies_true, Block.setBit_quiet,
      Block.groupBack_quiet, Block.updDiag_quiet, Block.legAgain_quiet, Block.raiseOwn_quiet, Block.wr_quiet,
      Block.eachOf_quiet]

theorem Block.diagPhaseEnd_quiet (g : Nat) (v : Int) (b : Block) :
    (Block.diagPhaseEnd g v b).quiet = b.quiet := by
  unfold Block.diagPhaseEnd
  repeat' (first | with_reducible rfl | intro _ | split
                 | simp only [Block.untilUp_quiet, Block.updDiag_quiet, Block.wr_quiet, Block.diagEnd_quiet])

theorem Block.brakeOn_quiet (b : Block) : (Block.brakeOn b).quiet = b.quiet := by
  simp only [Block.brakeOn, Block.quiet_ite, ite_self, Block.untilUp_quiet, Block.wr_quiet, Block.flag_quiet,
      Block.emit_quiet, Block.updLv_quiet, Block.count_quiet]

theorem Block.brakeOff_quiet (b : Block) : (Block.brakeOff b).quiet = b.quiet := by
  simp only [Block.brakeOff, Block.quiet_ite, ite_self, Block.untilUp_quiet, Block.brakeStop_quiet]

theorem Block.brakeLong_quiet (b : Block) : (Block.brakeLong b).quiet = b.quiet := by
  simp only [Block.brakeLong, Block.quiet_ite, ite_self, Block.untilUp_quiet, Block.raise_quiet,
      Block.updLv_quiet]

theorem Block.gate24Change_quiet (ok : Bool) (b : Block) : (Block.gate24Change ok b).quiet = b.quiet := by
  simp only [Block.gate24Change, Block.powerChannels_quiet, Block.flag_quiet]

/-! ### Machine/Port.lean -/

theorem Block.portMeasure_quiet (p : Nat) (b : Block) : (Block.portMeasure p b).quiet = b.quiet := by
  simp only [Block.portMeasure, Block.wr_quiet, Block.flag_quiet, Block.wrS_quiet]

theorem Block.judgeFallback_quiet (b : Block) : (Block.judgeFallback b).quiet = b.quiet := by
  unfold Block.judgeFallback
  repeat' (first | with_reducible rfl | intro _ | split
                 | simp only [Block.flag_quiet, Block.raise_quiet, Block.updPort_quiet]
                 | refine (Block.each_quiet _ _ _ ?_).trans ?_)

theorem Block.hostLossJudge_quiet (b : Block) : (Block.hostLossJudge b).quiet = b.quiet := by
  simp only [Block.hostLossJudge, Block.quiet_ite, ite_self, Block.judgeFallback_quiet, Block.flag_quiet]

theorem Block.fallbackHostLoss_quiet (b : Block) : (Block.fallbackHostLoss b).quiet = b.quiet := by
  simp only [Block.fallbackHostLoss, Block.quiet_ite, ite_self, Block.until_quiet, Block.hostLossJudge_quiet]

theorem Block.resumeTakes_quiet (b : Block) : (Block.resumeTakes b).quiet = b.quiet := by
  simp only [Block.resumeTakes, Block.quiet_ite, ite_self, Block.judgeFallback_quiet, Block.flag_quiet,
      Block.updLv_quiet]

theorem Block.fallbackBoundary_quiet (b : Block) : (Block.fallbackBoundary b).quiet = b.quiet := by
  simp only [Block.fallbackBoundary, Block.hostLossJudge_quiet, Block.resumeTakes_quiet]

theorem Block.fallbackAgain_quiet (b : Block) : (Block.fallbackAgain b).quiet = b.quiet := by
  simp only [Block.fallbackAgain, Block.judgeFallback_quiet, Block.flag_quiet]

theorem Block.fallbackPin_quiet (low : Bool) (b : Block) : (Block.fallbackPin low b).quiet = b.quiet := by
  simp only [Block.fallbackPin, Block.fallbackAgain_quiet, Block.updLv_quiet]

theorem Block.vselSample_quiet (v : Nat) (b : Block) : (Block.vselSample v b).quiet = b.quiet := by
  simp only [Block.vselSample, Block.wr_quiet]

theorem Block.enterSoft_quiet (p : Nat) (b : Block) : (Block.enterSoft p b).quiet = b.quiet := by
  simp only [Block.enterSoft, implies_true, Block.portState_quiet, Block.updPort_quiet, Block.updLeg_quiet,
      Block.takeCfg_quiet, Block.updCtx_quiet, Block.eachOf_quiet]

theorem Block.portStopping_quiet (p : Nat) (b : Block) : (Block.portStopping p b).quiet = b.quiet := by
  simp only [Block.portStopping, Block.updPort_quiet, Block.portState_quiet]

theorem Block.portOpens_quiet (p : Nat) (b : Block) : (Block.portOpens p b).quiet = b.quiet := by
  simp only [Block.portOpens, Block.quiet_ite, ite_self, Block.openSwitch_quiet]

theorem Block.portStopped_quiet (p : Nat) (b : Block) : (Block.portStopped p b).quiet = b.quiet := by
  simp only [Block.portStopped, implies_true, Block.holdLeg_quiet, Block.portState_quiet,
      Block.portOpens_quiet, Block.eachOf_quiet]

theorem Block.portWaitDiag_quiet (p : Nat) (b : Block) : (Block.portWaitDiag p b).quiet = b.quiet := by
  simp only [Block.portWaitDiag, Block.quiet_ite, ite_self, Block.startDiag_quiet]

theorem Block.portRetry_quiet (p : Nat) (b : Block) : (Block.portRetry p b).quiet = b.quiet := by
  simp only [Block.portRetry, Block.enterSoft_quiet, Block.count_quiet]

theorem Block.portCloseJudge_quiet (p : Nat) (b : Block) : (Block.portCloseJudge p b).quiet = b.quiet := by
  simp only [Block.portCloseJudge, Block.quiet_ite, ite_self, Block.raiseOwn_quiet]

theorem Block.portBoundary_quiet (p : Nat) (leaving : Bool) (faulted : Bool) (b : Block) :
    (Block.portBoundary p leaving faulted b).quiet = b.quiet := by
  unfold Block.portBoundary
  repeat' (first | with_reducible rfl | intro _ | split
                 | simp only [Block.stopPort_quiet, Block.portState_quiet, Block.portWaitDiag_quiet,
                       Block.updPort_quiet, Block.emit_quiet, Block.portStopped_quiet,
                       Block.portStopping_quiet, Block.enterSoft_quiet, Block.portRetry_quiet,
                       Block.wr_quiet])

theorem Block.portRefStep_quiet (p : Nat) (b : Block) : (Block.portRefStep p b).quiet = b.quiet := by
  simp only [Block.portRefStep, Block.wr_quiet, Block.updPort_quiet]

theorem Block.portOverload_quiet (p : Nat) (b : Block) : (Block.portOverload p b).quiet = b.quiet := by
  simp only [Block.portOverload, Block.quiet_ite, ite_self, Block.wr_quiet, Block.raiseOwn_quiet]

theorem Block.portCloseSettled_quiet (p : Nat) (b : Block) :
    (Block.portCloseSettled p b).quiet = b.quiet := by
  simp only [Block.portCloseSettled, Block.quiet_ite, ite_self, Block.untilUp_quiet, Block.updPort_quiet,
      Block.setBit_quiet, Block.flag_quiet, Block.enterSoft_quiet]

theorem Block.portCloseFail_quiet (p : Nat) (b : Block) : (Block.portCloseFail p b).quiet = b.quiet := by
  simp only [Block.portCloseFail, Block.quiet_ite, ite_self, Block.updPort_quiet, Block.untilUp_quiet,
      Block.portCloseJudge_quiet]

theorem Block.portStopComplete_quiet (p : Nat) (b : Block) :
    (Block.portStopComplete p b).quiet = b.quiet := by
  simp only [Block.portStopComplete, Block.quiet_ite, ite_self, implies_true, Block.settleLeg_quiet,
      Block.portOpens_quiet, Block.untilUp_quiet, Block.portStopped_quiet, Block.eachOf_quiet]

theorem Block.portRetryReset_quiet (p : Nat) (b : Block) : (Block.portRetryReset p b).quiet = b.quiet := by
  simp only [Block.portRetryReset, Block.quiet_ite, ite_self, Block.wr_quiet, Block.untilUp_quiet]

theorem Block.hiccup_quiet (p : Nat) (detail : Nat) (b : Block) :
    (Block.hiccup p detail b).quiet = b.quiet := by
  simp only [Block.hiccup, Block.quiet_ite, ite_self, Block.updPort_quiet, Block.portState_quiet,
      Block.raise_quiet, Block.count_quiet, Block.latchPort_quiet]

theorem Block.softStartCheck_quiet (p : Nat) (b : Block) : (Block.softStartCheck p b).quiet = b.quiet := by
  simp only [Block.softStartCheck, Block.quiet_ite, ite_self, Block.untilUp_quiet, Block.hiccup_quiet]

theorem Block.hiccupCondition_quiet (p : Nat) (b : Block) : (Block.hiccupCondition p b).quiet = b.quiet := by
  simp only [Block.hiccupCondition, Block.quiet_ite, ite_self, Block.hiccup_quiet]

theorem Block.hiccupOffEnd_quiet (p : Nat) (b : Block) : (Block.hiccupOffEnd p b).quiet = b.quiet := by
  simp only [Block.hiccupOffEnd, Block.quiet_ite, ite_self, Block.untilUp_quiet, Block.portRetry_quiet]

theorem Block.portForm_quiet (p : Nat) (u : Int) (b : Block) : (Block.portForm p u b).quiet = b.quiet := by
  simp only [Block.portForm, Block.updPort_quiet, Block.wr_quiet]

theorem Block.portRipple_quiet (p : Nat) (t : Int) (b : Block) :
    (Block.portRipple p t b).quiet = b.quiet := by
  simp only [Block.portRipple, Block.updPort_quiet]

theorem Block.startOn_quiet (p : Nat) (t : Int) (b : Block) : (Block.startOn p t b).quiet = b.quiet := by
  simp only [Block.startOn, Block.quiet_ite, ite_self, Block.takeCfg_quiet, Block.updPort_quiet,
      Block.count_quiet, Block.tripsJudge_quiet, Block.untilI_quiet, Block.legTo_quiet,
      Block.portRipple_quiet]

theorem Block.cotComparatorFire_quiet (p : Nat) (b : Block) :
    (Block.cotComparatorFire p b).quiet = b.quiet := by
  unfold Block.cotComparatorFire
  repeat' (first | with_reducible rfl | intro _ | split
                 | simp only [Block.quiet_ite, Block.updPort_quiet, Block.startOn_quiet])

theorem Block.endOn_quiet (p : Nat) (second : Bool) (t : Int) (b : Block) :
    (Block.endOn p second t b).quiet = b.quiet := by
  simp only [Block.endOn, Block.quiet_ite, ite_self, Block.tripsJudge_quiet, Block.untilI_quiet,
      Block.portRipple_quiet, Block.legTo_quiet, Block.updLeg_quiet, Block.updPort_quiet, Block.startOn_quiet]

theorem Block.onTimeEnd_quiet (p : Nat) (second : Bool) (b : Block) :
    (Block.onTimeEnd p second b).quiet = b.quiet := by
  unfold Block.onTimeEnd
  repeat' (first | with_reducible rfl | intro _ | split | simp only [Block.endOn_quiet, Block.updPort_quiet])

theorem Block.diodeEmulationEnd_quiet (p : Nat) (second : Bool) (b : Block) :
    (Block.diodeEmulationEnd p second b).quiet = b.quiet := by
  simp only [Block.diodeEmulationEnd, Block.quiet_ite, ite_self, Block.settleLeg_quiet, Block.updLeg_quiet,
      Block.flag_quiet, Block.wr_quiet, Block.emit_quiet, Block.updPort_quiet]

theorem Block.fastLimitTrip_quiet (p : Nat) (second : Bool) (b : Block) :
    (Block.fastLimitTrip p second b).quiet = b.quiet := by
  unfold Block.fastLimitTrip
  repeat' (first | with_reducible rfl | intro _ | split
                 | simp only [Block.quiet_ite, ite_self, Block.flag_quiet, Block.count_quiet,
                       Block.updPort_quiet, Block.endOn_quiet, Block.hiccup_quiet])

/-! ### Machine/Armature.lean -/

theorem Block.setHist_quiet (c : Nat) (es : List Int) (ys : List Int) (b : Block) :
    (Block.setHist c es ys b).quiet = b.quiet := by
  simp only [Block.setHist, implies_true, Block.wrS_quiet, Block.eachOf_quiet]

theorem Block.ctxStart_quiet (c : Nat) (b : Block) : (Block.ctxStart c b).quiet = b.quiet := by
  simp only [Block.ctxStart, Block.wr_quiet, Block.setHist_quiet, Block.wrS_quiet, Block.updCtx_quiet]

theorem Block.ctxStep_quiet (c : Nat) (w : WinSum) (b : Block) : (Block.ctxStep c w b).1.quiet = b.quiet := by
  simp only [Block.ctxStep, Block.quiet_ite, ite_self, Block.ctxStart_quiet, Block.wrS_quiet,
      Block.setHist_quiet, Block.flag_quiet, Block.wr_quiet, Block.bump_quiet, Block.updCtx_quiet]

theorem runPass_quiet (l : List Nat) (o : List (Nat × Int)) (w : WinSum) (b : Block) :
    (runPass l o w b).1.quiet = b.quiet := by
  induction l generalizing o w b with
  | nil => rfl
  | cons c r ih => unfold runPass; split <;> simp only [ih, Block.ctxStep_quiet]

theorem Block.pass_quiet (p : Nat) (bw : Block × WinSum) : (Block.pass p bw).1.quiet = bw.1.quiet := by
  simp only [Block.pass, Block.eachOf_quiet, runPass_quiet, Block.wrS_quiet, implies_true]

theorem Block.ctxDecide_quiet (c : Nat) (b : Block) : (Block.ctxDecide c b).quiet = b.quiet := by
  simp only [Block.ctxDecide, Block.quiet_ite, ite_self, Block.updCtx_quiet, Block.flag_quiet, Block.wrS_quiet]

theorem Block.ctxSourceLost_quiet (c : Nat) (b : Block) : (Block.ctxSourceLost c b).quiet = b.quiet := by
  simp only [Block.ctxSourceLost, Block.quiet_ite, ite_self, Block.raise_quiet, Block.updCtx_quiet]

theorem Block.ctxCount_quiet (c : Nat) (b : Block) : (Block.ctxCount c b).quiet = b.quiet := by
  simp only [Block.ctxCount, Block.ctxSourceLost_quiet, Block.updCtx_quiet]

theorem Block.passes_quiet (l : List Nat) (bw : Block × WinSum) :
    (l.foldl (fun bw p => Block.pass p bw) bw).1.quiet = bw.1.quiet := by
  induction l generalizing bw with
  | nil => rfl
  | cons p r ih => rw [List.foldl_cons, ih, Block.pass_quiet]

theorem Block.armature_quiet (b : Block) : b.armature.quiet = b.quiet := by
  simp only [Block.armature, Block.eachOf_quiet, Block.each_quiet, Block.ctxCount_quiet, Block.raise_quiet,
      Block.wr_quiet,
    Block.updCtx_quiet, Block.ctxDecide_quiet, Block.passes_quiet, Block.flag_quiet, implies_true]

theorem Block.ctxTurn_quiet (c : Nat) (b : Block) : (Block.ctxTurn c b).quiet = b.quiet := by
  simp only [Block.ctxTurn, Block.quiet_ite, ite_self, Block.flag_quiet, Block.updCtx_quiet,
      Block.onReadmitDone_quiet]

theorem Block.ctxBoundary_quiet (b : Block) : (Block.ctxBoundary b).quiet = b.quiet := by
  simp only [Block.ctxBoundary, implies_true, Block.ctxTurn_quiet, Block.eachOf_quiet]

theorem Block.ctxReadmit_quiet (c : Nat) (b : Block) : (Block.ctxReadmit c b).quiet = b.quiet := by
  simp only [Block.ctxReadmit, Block.updCtx_quiet]

theorem Block.syncCount_quiet (b : Block) : (Block.syncCount b).quiet = b.quiet := by
  simp only [Block.syncCount, Block.quiet_ite, ite_self, Block.updConv_quiet]

/-! ### Machine/Adc.lean -/

theorem Block.updAin_quiet (i : Nat) (f : AinSt → AinSt) (b : Block) :
    (Block.updAin i f b).quiet = b.quiet := by
  simp only [Block.updAin, Block.updAdc_quiet]

theorem Block.updSeq_quiet (k : Nat) (f : SeqSt → SeqSt) (b : Block) :
    (Block.updSeq k f b).quiet = b.quiet := by
  simp only [Block.updSeq, Block.updAdc_quiet]

theorem Block.updKconv_quiet (m : Nat) (f : ConvAdc → ConvAdc) (b : Block) :
    (Block.updKconv m f b).quiet = b.quiet := by
  simp only [Block.updKconv, Block.updAdc_quiet]

theorem Block.takeEntry_quiet (k : Nat) (j : Nat) (b : Block) : (Block.takeEntry k j b).quiet = b.quiet := by
  simp only [Block.takeEntry, Block.updSeq_quiet]

theorem Block.beginSeq_quiet (k : Nat) (b : Block) : (Block.beginSeq k b).quiet = b.quiet := by
  unfold Block.beginSeq
  repeat' (first | with_reducible rfl | intro _ | split
                 | simp only [Block.quiet_ite, ite_self, Block.updSeq_quiet, Block.takeEntry_quiet])

theorem Block.wakeSeq_quiet (k : Nat) (b : Block) : (Block.wakeSeq k b).quiet = b.quiet := by
  simp only [Block.wakeSeq, Block.beginSeq_quiet, Block.updSeq_quiet]

theorem Block.nextEntry_quiet (k : Nat) (b : Block) : (Block.nextEntry k b).quiet = b.quiet := by
  unfold Block.nextEntry
  repeat' (first | with_reducible rfl | intro _ | split
                 | simp only [Block.beginSeq_quiet, Block.updSeq_quiet, Block.takeEntry_quiet])

theorem Block.openWire_quiet (i : Nat) (c : Int) (b : Block) : (Block.openWire i c b).quiet = b.quiet := by
  simp only [Block.openWire, Block.quiet_ite, ite_self, Block.updAin_quiet, Block.raise_quiet]

theorem Block.dataReg_quiet (k : Nat) (i : Nat) (c : Int) (taken : Bool) (b : Block) :
    (Block.dataReg k i c taken b).quiet = b.quiet := by
  simp only [Block.dataReg, Block.quiet_ite, ite_self, Block.flag_quiet, Block.wr_quiet, Block.wrS_quiet,
      Block.setBit_quiet, Block.raise_quiet, Block.updAdc_quiet]

theorem Block.capture_quiet (k : Nat) (i : Nat) (c : Int) (t : Int) (b : Block) :
    (Block.capture k i c t b).quiet = b.quiet := by
  simp only [Block.capture, Block.quiet_ite, ite_self, Block.updAin_quiet]

theorem Block.keepResult_quiet (k : Nat) (c : Int) (t : Int) (mean : Option Int) (b : Block) :
    (Block.keepResult k c t mean b).quiet = b.quiet := by
  unfold Block.keepResult
  repeat' (first | with_reducible rfl | intro _ | split
                 | simp only [Block.quiet_ite, ite_self, Block.dataReg_quiet, Block.updAin_quiet,
                       Block.capture_quiet, Block.openWire_quiet])

theorem Block.adcSlotConversion_quiet (k : Nat) (raw : Int) (b : Block) :
    (Block.adcSlotConversion k raw b).quiet = b.quiet := by
  unfold Block.adcSlotConversion
  repeat' (first | with_reducible rfl | intro _ | split
                 | simp only [Block.quiet_ite, ite_self, Block.until_quiet, Block.keepResult_quiet,
                       Block.updSeq_quiet, Block.beginSeq_quiet, Block.nextEntry_quiet])

theorem Block.latchIn_quiet (i : Nat) (t : Int) (prev : Option Int) (b : Block) :
    (Block.latchIn i t prev b).quiet = b.quiet := by
  simp only [Block.latchIn, Block.quiet_ite, ite_self, Block.wrS_quiet, Block.flag_quiet, Block.wr_quiet]

theorem Block.owJudge_quiet (b : Block) : (Block.owJudge b).quiet = b.quiet := by
  simp only [Block.owJudge, Block.quiet_ite, ite_self, implies_true, Block.updAin_quiet, Block.each_quiet]

theorem Block.latchInputs_quiet (t : Int) (prev : Option Int) (b : Block) :
    (Block.latchInputs t prev b).quiet = b.quiet := by
  simp only [Block.latchInputs, implies_true, Block.latchIn_quiet, Block.each_quiet]

theorem Block.restartSeq_quiet (k : Nat) (t : Int) (b : Block) :
    (Block.restartSeq k t b).quiet = b.quiet := by
  simp only [Block.restartSeq, Block.quiet_ite, ite_self, Block.wakeSeq_quiet, Block.beginSeq_quiet,
      Block.updSeq_quiet]

theorem Block.adcBoundary_quiet (t : Int) (b : Block) : (Block.adcBoundary t b).quiet = b.quiet := by
  simp only [Block.adcBoundary, Block.quiet_ite, ite_self, implies_true, Block.updAdc_quiet,
      Block.restartSeq_quiet, Block.each_quiet]

theorem Block.adcStep_quiet (d : Int) (b : Block) : (Block.adcStep d b).quiet = b.quiet := by
  simp only [Block.adcStep, implies_true, Block.updAin_quiet, Block.updSeq_quiet, Block.each_quiet]

theorem Block.adcLeaveOff_quiet (b : Block) : (Block.adcLeaveOff b).quiet = b.quiet := by
  simp only [Block.adcLeaveOff, Block.wr_quiet, Block.flag_quiet]

theorem Block.calStart_quiet (m : Nat) (b : Block) : (Block.calStart m b).quiet = b.quiet := by
  simp only [Block.calStart, Block.updKconv_quiet, Block.wr_quiet]

theorem Block.takeCal_quiet (m : Nat) (cal : List CalRange) (full : Bool) (b : Block) :
    (Block.takeCal m cal full b).quiet = b.quiet := by
  simp only [Block.takeCal, Block.flag_quiet, Block.updKconv_quiet, Block.wrS_quiet]

theorem Block.exclude_quiet (m : Nat) (b : Block) : (Block.exclude m b).quiet = b.quiet := by
  simp only [Block.exclude, Block.raise_quiet, Block.flag_quiet, Block.wr_quiet]

theorem Block.assignConvs_quiet (b : Block) : (Block.assignConvs b).quiet = b.quiet := by
  unfold Block.assignConvs
  repeat' (first | with_reducible rfl | intro _ | split
                 | simp only [implies_true, Block.setBit_quiet, Block.wr_quiet, Block.calStart_quiet,
                       Block.updAdc_quiet, Block.wakeSeq_quiet, Block.each_quiet]
                 | refine (Block.each_quiet _ _ _ ?_).trans ?_)

theorem Block.adcCalComplete_quiet (m : Nat) (cal : List CalRange) (b : Block) :
    (Block.adcCalComplete m cal b).quiet = b.quiet := by
  simp only [Block.adcCalComplete, Block.quiet_ite, ite_self, Block.untilUp_quiet, Block.updKconv_quiet,
      Block.takeCal_quiet, Block.exclude_quiet, Block.assignConvs_quiet, Block.wr_quiet]

theorem Block.adcHandover_quiet (b : Block) : (Block.adcHandover b).quiet = b.quiet := by
  unfold Block.adcHandover
  repeat' (first | with_reducible rfl | intro _ | split
                 | simp only [Block.untilUp_quiet, Block.until_quiet, Block.wr_quiet, Block.updAdc_quiet,
                       Block.calStart_quiet])

theorem Block.rotResume_quiet (b : Block) : (Block.rotResume b).quiet = b.quiet := by
  unfold Block.rotResume
  repeat' (first | with_reducible rfl | intro _ | split | simp only [Block.calStart_quiet, Block.updAdc_quiet])

theorem Block.rotHolds_quiet (b : Block) : (Block.rotHolds b).quiet = b.quiet := by
  unfold Block.rotHolds
  repeat' (first | with_reducible rfl | intro _ | split | simp only [Block.wr_quiet])

theorem Block.convBack_quiet (cs : List (Nat × Nat × Nat)) (m : Nat) (b : Block) :
    (Block.convBack cs m b).quiet = b.quiet := by
  simp only [Block.convBack, Block.takeCal_quiet, Block.wr_quiet]

theorem Block.adcPowerUp_quiet (b : Block) : (Block.adcPowerUp b).quiet = b.quiet := by
  unfold Block.adcPowerUp
  repeat' (first | with_reducible rfl | intro _ | split
                 | simp only [implies_true, Block.updAdc_quiet, Block.convBack_quiet, Block.wr_quiet,
                       Block.rotResume_quiet, Block.wakeSeq_quiet, Block.updKconv_quiet, Block.each_quiet])

theorem Block.scanMaskWrite_quiet (b : Block) : (Block.scanMaskWrite b).quiet = b.quiet := by
  simp only [Block.scanMaskWrite, Block.quiet_ite, ite_self, implies_true, Block.wakeSeq_quiet,
      Block.each_quiet]

theorem Block.adcPowerDown_quiet (b : Block) : (Block.adcPowerDown b).quiet = b.quiet := by
  simp only [Block.adcPowerDown, implies_true, Block.flag_quiet, Block.updAdc_quiet, Block.each_quiet]

theorem Block.adcWake_quiet (b : Block) : (Block.adcWake b).quiet = b.quiet := by
  simp only [Block.adcWake, implies_true, Block.updAdc_quiet, Block.rotResume_quiet, Block.wakeSeq_quiet,
      Block.each_quiet]

/-! ### Machine/Chisel.lean -/

theorem Block.buildPositions_quiet (k : Nat) (b : Block) : (Block.buildPositions k b).quiet = b.quiet := by
  simp only [Block.buildPositions, implies_true, Block.updCh_quiet, Block.each_quiet, Block.eachOf_quiet]

theorem Block.buildLevels_quiet (k : Nat) (b : Block) : (Block.buildLevels k b).quiet = b.quiet := by
  simp only [Block.buildLevels, implies_true, Block.updArm_quiet, Block.updCh_quiet, Block.eachOf_quiet]

theorem Block.armCommand_quiet (k : Nat) (b : Block) : (Block.armCommand k b).quiet = b.quiet := by
  simp only [Block.armCommand, Block.quiet_ite, ite_self, Block.updArm_quiet, Block.buildLevels_quiet,
      Block.buildPositions_quiet]

theorem Block.showCell_quiet (s : Nat) (o : Option CellOut) (b : Block) :
    (Block.showCell s o b).quiet = b.quiet := by
  unfold Block.showCell
  repeat' (first | with_reducible rfl | intro _ | split
                 | simp only [Block.wr_quiet, Block.flag_quiet, Block.wrS_quiet, Block.count_quiet])

theorem Block.keepCell_quiet (s : Nat) (o : Option CellOut) (b : Block) :
    (Block.keepCell s o b).quiet = b.quiet := by
  simp only [Block.keepCell, Block.updCh_quiet]

theorem Block.dispatch_quiet (s : Nat) (words : List Nat) (b : Block) :
    (Block.dispatch s words b).quiet = b.quiet := by
  simp only [Block.dispatch, Block.quiet_ite, ite_self, Block.emitLane_quiet, Block.updCell_quiet]

theorem Block.chiselCell_quiet (s : Nat) (bw : Block × ChisSum) :
    (Block.chiselCell s bw).1.quiet = bw.1.quiet := by
  unfold Block.chiselCell
  dsimp only
  split <;> simp only [Block.quiet_ite, ite_self, Block.dispatch_quiet, Block.each_quiet, Block.wr_quiet,
    Block.keepCell_quiet, Block.showCell_quiet, implies_true]

theorem Block.capRequest_quiet (l : Nat) (b : Block) : (Block.capRequest l b).quiet = b.quiet := by
  simp only [Block.capRequest, Block.quiet_ite, ite_self, Block.emitLane_quiet]

theorem Block.clearCount_quiet (l : Nat) (b : Block) : (Block.clearCount l b).quiet = b.quiet := by
  simp only [Block.clearCount, Block.quiet_ite, ite_self, Block.updLane_quiet]

theorem Block.inverterForm_quiet (l : Nat) (b : Block) : (Block.inverterForm l b).quiet = b.quiet := by
  simp only [Block.inverterForm, Block.quiet_ite, ite_self, Block.updLeg_quiet]

theorem Block.portsForm_quiet (b : Block) : (Block.portsForm b).quiet = b.quiet := by
  simp only [Block.portsForm, implies_true, Block.portForm_quiet, Block.each_quiet]

theorem Block.chiselCells_quiet (l : List Nat) (bw : Block × ChisSum) :
    (l.foldl (fun bw s => Block.chiselCell s bw) bw).1.quiet = bw.1.quiet := by
  induction l generalizing bw with
  | nil => rfl
  | cons p r ih => rw [List.foldl_cons, ih, Block.chiselCell_quiet]

theorem Block.chiselCompile_quiet (b : Block) : b.chiselCompile.quiet = b.quiet := by
  simp only [Block.chiselCompile, Block.quiet_ite, ite_self, Block.updStrk_quiet, Block.portsForm_quiet,
    Block.eachOf_quiet, Block.inverterForm_quiet, Block.flag_quiet, Block.wr_quiet, Block.each_quiet,
    Block.capRequest_quiet, Block.clearCount_quiet, Block.chiselCells_quiet, Block.until_quiet,
        Block.armCommand_quiet, implies_true]

/-! ### Machine/Converter.lean -/

theorem Block.faultEntry_quiet (b : Block) : (Block.faultEntry b).quiet = b.quiet := by
  simp only [Block.faultEntry, Block.quiet_ite, ite_self, Block.blockStage_quiet, Block.sendBlocks_quiet]

theorem Block.resetDirections_quiet (b : Block) : (Block.resetDirections b).quiet = b.quiet := by
  simp only [Block.resetDirections, implies_true, Block.updArm_quiet, Block.each_quiet]

theorem Block.leaveOff_quiet (b : Block) : (Block.leaveOff b).quiet = b.quiet := by
  simp only [Block.leaveOff, Block.quiet_ite, ite_self, implies_true, Block.adcLeaveOff_quiet,
      Block.forceLeg_quiet, Block.flag_quiet, Block.each_quiet]

theorem Block.exitOff_quiet (b : Block) : (Block.exitOff b).quiet = b.quiet := by
  simp only [Block.exitOff, Block.leaveOff_quiet, Block.resetDirections_quiet]

theorem Block.convEnter_quiet (new : Nat) (cause : Nat) (b : Block) :
    (Block.convEnter new cause b).quiet = b.quiet := by
  simp only [Block.convEnter, Block.quiet_ite, ite_self, Block.faultEntry_quiet, Block.exitOff_quiet,
      Block.testStage_quiet, Block.wr_quiet, Block.flag_quiet, Block.updConv_quiet]

theorem Block.kCount_quiet (b : Block) : (Block.kCount b).quiet = b.quiet := by
  simp only [Block.kCount, Block.updConv_quiet]

theorem Block.kFall_quiet (b : Block) : (Block.kFall b).quiet = b.quiet := by
  simp only [Block.kFall, Block.quiet_ite, ite_self, Block.updConv_quiet]

theorem Block.timingLost_quiet (n : Nat) (b : Block) : (Block.timingLost n b).quiet = b.quiet := by
  simp only [Block.timingLost, Block.quiet_ite, ite_self, Block.raise_quiet, Block.updConv_quiet]

theorem Block.untimedCount_quiet (b : Block) : (Block.untimedCount b).quiet = b.quiet := by
  simp only [Block.untimedCount, Block.quiet_ite, ite_self, Block.timingLost_quiet, Block.wr_quiet,
      Block.updConv_quiet]

theorem Block.headroomChange_quiet (b : Block) : (Block.headroomChange b).quiet = b.quiet := by
  simp only [Block.headroomChange, Block.quiet_ite, ite_self, Block.flag_quiet]

theorem Block.convShow_quiet (b : Block) : (Block.convShow b).quiet = b.quiet := by
  simp only [Block.convShow, Block.wrS_quiet, Block.wr_quiet, Block.flag_quiet]

theorem Block.convDecide_quiet (b : Block) : (Block.convDecide b).quiet = b.quiet := by
  unfold Block.convDecide
  repeat' (first | with_reducible rfl | intro _ | split | simp only [Block.convEnter_quiet])

theorem Block.convBoundary_quiet (b : Block) : (Block.convBoundary b).quiet = b.quiet := by
  simp only [Block.convBoundary, Block.updConv_quiet, Block.convDecide_quiet, Block.convShow_quiet,
      Block.kCount_quiet, Block.headroomChange_quiet, Block.untimedCount_quiet, Block.kFall_quiet]

theorem Block.armShortfall_quiet (b : Block) : (Block.armShortfall b).quiet = b.quiet := by
  simp only [Block.armShortfall, Block.quiet_ite, ite_self, implies_true, Block.updArm_quiet,
      Block.raise_quiet, Block.each_quiet]

theorem Block.convCondition_quiet (frm : Nat) (b : Block) : (Block.convCondition frm b).quiet = b.quiet := by
  simp only [Block.convCondition, Block.quiet_ite, ite_self, Block.convDecide_quiet]

theorem Block.prechargeTimeout_quiet (b : Block) : (Block.prechargeTimeout b).quiet = b.quiet := by
  simp only [Block.prechargeTimeout, Block.quiet_ite, ite_self, Block.until_quiet, Block.raise_quiet,
      Block.updConv_quiet]

theorem Block.syncTimeout_quiet (b : Block) : (Block.syncTimeout b).quiet = b.quiet := by
  simp only [Block.syncTimeout, Block.quiet_ite, ite_self, Block.until_quiet, Block.raise_quiet,
      Block.updConv_quiet]

theorem Block.gridLock_quiet (b : Block) : (Block.gridLock b).quiet = b.quiet := by
  simp only [Block.gridLock, Block.quiet_ite, ite_self, Block.updConv_quiet]

theorem Block.gridLost_quiet (b : Block) : (Block.gridLost b).quiet = b.quiet := by
  simp only [Block.gridLost, Block.quiet_ite, ite_self, Block.updConv_quiet, Block.raise_quiet]

theorem Block.headroomRow_quiet (b : Block) : (Block.headroomRow b).quiet = b.quiet := by
  simp only [Block.headroomRow, Block.quiet_ite, ite_self, Block.headroomChange_quiet]

/-! ### Machine/SafeMon.lean -/

theorem Block.showDiscrep_quiet (b : Block) : (Block.showDiscrep b).quiet = b.quiet := by
  simp only [Block.showDiscrep, Block.flag_quiet]

theorem Block.discrepancy_quiet (pairB : Bool) (code : Nat) (b : Block) :
    (Block.discrepancy pairB code b).quiet = b.quiet := by
  simp only [Block.discrepancy, Block.quiet_ite, ite_self, Block.showDiscrep_quiet, Block.updSafe_quiet,
      Block.demandSF2_quiet, Block.raise_quiet]

theorem Block.clearLatch_quiet (b : Block) : (Block.clearLatch b).quiet = b.quiet := by
  simp only [Block.clearLatch, Block.updSafe_quiet, Block.flag_quiet, Block.wr_quiet, Block.raise_quiet,
      Block.powerChannels_quiet]

theorem Block.safeReset_quiet (b : Block) : (Block.safeReset b).quiet = b.quiet := by
  simp only [Block.safeReset, Block.quiet_ite, ite_self, Block.clearLatch_quiet]

theorem Block.autoWatch_quiet (b : Block) : (Block.autoWatch b).quiet = b.quiet := by
  simp only [Block.autoWatch, Block.quiet_ite, ite_self, Block.updSafe_quiet]

theorem Block.safeAutoStart_quiet (b : Block) : (Block.safeAutoStart b).quiet = b.quiet := by
  unfold Block.safeAutoStart
  repeat' (first | with_reducible rfl | intro _ | split
                 | simp only [Block.quiet_ite, ite_self, Block.untilUp_quiet, Block.clearLatch_quiet,
                       Block.updSafe_quiet])

theorem Block.contactOpen_quiet (c : Contact) (b : Block) : (Block.contactOpen c b).quiet = b.quiet := by
  simp only [Block.contactOpen, Block.quiet_ite, ite_self, Block.setBit_quiet, Block.updSafe_quiet,
      Block.raise_quiet, Block.demandSF2_quiet, Block.demandSF1_quiet, Block.autoWatch_quiet]

theorem Block.contactClose_quiet (c : Contact) (b : Block) : (Block.contactClose c b).quiet = b.quiet := by
  simp only [Block.contactClose, Block.quiet_ite, ite_self, Block.setBit_quiet, Block.showDiscrep_quiet,
      Block.updSafe_quiet, Block.autoWatch_quiet]

theorem Block.discrepancyTime_quiet (pairB : Bool) (b : Block) :
    (Block.discrepancyTime pairB b).quiet = b.quiet := by
  unfold Block.discrepancyTime
  repeat' (first | with_reducible rfl | intro _ | split
                 | simp only [Block.autoWatch_quiet, Block.discrepancy_quiet, Block.untilUp_quiet])

theorem Block.testPulseStart_quiet (tp2 : Bool) (b : Block) :
    (Block.testPulseStart tp2 b).quiet = b.quiet := by
  simp only [Block.testPulseStart, Block.quiet_ite, ite_self, Block.untilUp_quiet, Block.updSafe_quiet]

theorem Block.testPulseEnd_quiet (tp2 : Bool) (stuck : List Contact) (b : Block) :
    (Block.testPulseEnd tp2 stuck b).quiet = b.quiet := by
  simp only [Block.testPulseEnd, Block.quiet_ite, ite_self, implies_true, Block.untilUp_quiet,
      Block.updSafe_quiet, Block.autoWatch_quiet, Block.discrepancy_quiet, Block.eachOf_quiet]

theorem Block.safeResetEdge_quiet (b : Block) : (Block.safeResetEdge b).quiet = b.quiet := by
  simp only [Block.safeResetEdge, Block.safeReset_quiet, Block.flag_quiet, Block.updSafe_quiet]

theorem Block.sendStatus_quiet (b : Block) : (Block.sendStatus b).quiet = b.quiet := by
  simp only [Block.sendStatus, Block.quiet_ite, ite_self, Block.updSafe_quiet, Block.emit_quiet]

theorem Block.frameMismatch_quiet (code : Nat) (b : Block) :
    (Block.frameMismatch code b).quiet = b.quiet := by
  simp only [Block.frameMismatch, Block.demandSF2_quiet, Block.raise_quiet, Block.count_quiet]

theorem Block.acceptPair_quiet (bs : List Byte) (b : Block) : (Block.acceptPair bs b).quiet = b.quiet := by
  simp only [Block.acceptPair, Block.quiet_ite, ite_self, Block.updSafe_quiet, Block.wr_quiet,
      Block.dropMark_quiet, Block.demandSF1_quiet, Block.raise_quiet, Block.demandSF2_quiet,
      Block.safeReset_quiet, Block.sendStatus_quiet]

theorem Block.takeCopy_quiet (port : Stn) (bs : List Byte) (b : Block) :
    (Block.takeCopy port bs b).quiet = b.quiet := by
  unfold Block.takeCopy
  repeat' (first | with_reducible rfl | intro _ | split
                 | simp only [Block.updSafe_quiet, Block.frameMismatch_quiet, Block.acceptPair_quiet])

theorem Block.safeFrameRx_quiet (port : Stn) (bs : List Byte) (b : Block) :
    (Block.safeFrameRx port bs b).quiet = b.quiet := by
  simp only [Block.safeFrameRx, Block.quiet_ite, ite_self, Block.autoWatch_quiet, Block.checked_quiet,
      Block.dropMark_quiet, Block.count_quiet, Block.frameMismatch_quiet, Block.takeCopy_quiet]

theorem Block.safeCopyExpiry_quiet (b : Block) : (Block.safeCopyExpiry b).quiet = b.quiet := by
  unfold Block.safeCopyExpiry
  repeat' (first | with_reducible rfl | intro _ | split
                 | simp only [Block.untilUp_quiet, Block.autoWatch_quiet, Block.frameMismatch_quiet,
                       Block.updSafe_quiet])

theorem Block.safeFrameWatch_quiet (b : Block) : (Block.safeFrameWatch b).quiet = b.quiet := by
  simp only [Block.safeFrameWatch, Block.quiet_ite, ite_self, Block.untilUp_quiet, Block.autoWatch_quiet,
      Block.frameMismatch_quiet, Block.updSafe_quiet]

theorem Block.rampFails_quiet (o : Occ) (cause : Nat) (b : Block) :
    (Block.rampFails o cause b).quiet = b.quiet := by
  simp only [Block.rampFails, Block.quiet_ite, ite_self, Block.raise_quiet, Block.remove_quiet,
      Block.wr_quiet, Block.updConv_quiet]

theorem Block.envelope_quiet (t0 : Nat) (p0 : Int) (p : Int) (b : Block) :
    (Block.envelope t0 p0 p b).quiet = b.quiet := by
  simp only [Block.envelope, Block.quiet_ite, ite_self, Block.wr_quiet, Block.rampFails_quiet]

theorem Block.safeBoundary_quiet (b : Block) : (Block.safeBoundary b).quiet = b.quiet := by
  unfold Block.safeBoundary
  repeat' (first | with_reducible rfl | intro _ | split
                 | simp only [Block.wrS_quiet, Block.remove_quiet, Block.updConv_quiet, Block.rampFails_quiet,
                       Block.updSafe_quiet, Block.envelope_quiet])

theorem Block.safeRampTimeout_quiet (b : Block) : (Block.safeRampTimeout b).quiet = b.quiet := by
  unfold Block.safeRampTimeout
  repeat' (first | with_reducible rfl | intro _ | split
                 | simp only [Block.rampFails_quiet, Block.untilUp_quiet])

theorem Block.openSupplies_quiet (b : Block) : (Block.openSupplies b).quiet = b.quiet := by
  simp only [Block.openSupplies, Block.quiet_ite, ite_self, implies_true, Block.flag_quiet,
      Block.updSafe_quiet, Block.powerChannels_quiet, Block.openSwitch_quiet, Block.each_quiet]

theorem Block.gateRemoval_quiet (b : Block) : (Block.gateRemoval b).quiet = b.quiet := by
  unfold Block.gateRemoval
  repeat' (first | with_reducible rfl | intro _ | split
                 | simp only [Block.updSafe_quiet, Block.flag_quiet, Block.openSupplies_quiet,
                       Block.blockStage_quiet, Block.sendBlocks_quiet])

theorem Block.removalReadbackFail_quiet (r : Readback) (b : Block) :
    (Block.removalReadbackFail r b).quiet = b.quiet := by
  unfold Block.removalReadbackFail
  repeat' (first | with_reducible rfl | intro _ | split
                 | simp only [Block.diagFail_quiet, Block.flag_quiet, Block.untilUp_quiet])

theorem Block.restoreReadbackFail_quiet (b : Block) : (Block.restoreReadbackFail b).quiet = b.quiet := by
  unfold Block.restoreReadbackFail
  repeat' (first | with_reducible rfl | intro _ | split
                 | simp only [Block.diagFail_quiet, Block.updSafe_quiet, Block.untilUp_quiet])

theorem Block.errorLatch_quiet (b : Block) : (Block.errorLatch b).quiet = b.quiet := by
  simp only [Block.errorLatch, Block.remove_quiet, Block.demandCause_quiet]

theorem Block.safeSystemReset_quiet (b : Block) : (Block.safeSystemReset b).quiet = b.quiet := by
  simp only [Block.safeSystemReset, Block.quiet_ite, ite_self, Block.remove_quiet, Block.updSafe_quiet,
      Block.gateRemoval_quiet]

/-! ### Machine/Pair.lean -/

theorem Block.pairSend_quiet (b : Block) : (Block.pairSend b).quiet = b.quiet := by
  simp only [Block.pairSend, Block.quiet_ite, ite_self, Block.updPair_quiet, Block.emit_quiet]

theorem Block.tokenDown_quiet (b : Block) : (Block.tokenDown b).quiet = b.quiet := by
  simp only [Block.tokenDown, Block.updPair_quiet, Block.flag_quiet, Block.wr_quiet,
      Block.fallbackAgain_quiet, Block.blockStage_quiet, Block.updConv_quiet]

theorem Block.learnGen_quiet (g : Nat) (b : Block) : (Block.learnGen g b).quiet = b.quiet := by
  simp only [Block.learnGen, Block.updPair_quiet]

theorem Block.showGen_quiet (b : Block) : (Block.showGen b).quiet = b.quiet := by
  simp only [Block.showGen, Block.wr_quiet]

theorem Block.tokenJudge_quiet (b : Block) : (Block.tokenJudge b).quiet = b.quiet := by
  simp only [Block.tokenJudge, Block.quiet_ite, ite_self, Block.raise_quiet, Block.tokenDown_quiet]

theorem Block.takeDemand_quiet (b : Block) : (Block.takeDemand b).quiet = b.quiet := by
  simp only [Block.takeDemand, Block.quiet_ite, ite_self, Block.updConv_quiet]

theorem Block.rotationCounted_quiet (b : Block) : (Block.rotationCounted b).quiet = b.quiet := by
  simp only [Block.rotationCounted, Block.quiet_ite, ite_self, Block.updCells_quiet]

theorem Block.takeToken_quiet (inj : Bool) (b : Block) : (Block.takeToken inj b).quiet = b.quiet := by
  simp only [Block.takeToken, Block.quiet_ite, ite_self, implies_true, Block.leaveOff_quiet, Block.bump_quiet,
      Block.wr_quiet, Block.flag_quiet, Block.updLv_quiet, Block.updPair_quiet, Block.updConv_quiet,
      Block.rotationCounted_quiet, Block.takeDemand_quiet, Block.fallbackAgain_quiet, Block.raise_quiet,
      Block.updCell_quiet, Block.onFence_quiet, Block.fencesNow_quiet, Block.each_quiet]

theorem Block.firstToken_quiet (b : Block) : (Block.firstToken b).quiet = b.quiet := by
  simp only [Block.firstToken, Block.fallbackAgain_quiet, Block.updPair_quiet, Block.wr_quiet,
      Block.flag_quiet, Block.holdShown_quiet]

theorem Block.mirrorCtx_quiet (bs : List Byte) (c : Nat) (b : Block) :
    (Block.mirrorCtx bs c b).quiet = b.quiet := by
  simp only [Block.mirrorCtx, Block.wr_quiet, Block.setHist_quiet, Block.updCtx_quiet]

theorem Block.mirrorCell_quiet (bs : List Byte) (s : Nat) (b : Block) :
    (Block.mirrorCell bs s b).quiet = b.quiet := by
  simp only [Block.mirrorCell, Block.quiet_ite, ite_self, Block.updCell_quiet, Block.wr_quiet]

theorem Block.standbyTest_quiet (b : Block) : (Block.standbyTest b).quiet = b.quiet := by
  simp only [Block.standbyTest, Block.updLv_quiet, Block.testStage_quiet]

theorem Block.standbyAgain_quiet (b : Block) : (Block.standbyAgain b).quiet = b.quiet := by
  unfold Block.standbyAgain
  repeat' (first | with_reducible rfl | intro _ | split | simp only [Block.standbyTest_quiet])

theorem Block.mirrorSpares_quiet (b : Block) : (Block.mirrorSpares b).quiet = b.quiet := by
  simp only [Block.mirrorSpares, Block.updCells_quiet]

theorem Block.mirror_quiet (bs : List Byte) (b : Block) : (Block.mirror bs b).quiet = b.quiet := by
  simp only [Block.mirror, Block.quiet_ite, ite_self, implies_true, Block.updPair_quiet,
      Block.standbyTest_quiet, Block.resetDirections_quiet, Block.mirrorSpares_quiet, Block.updConv_quiet,
      Block.mirrorCtx_quiet, Block.mirrorCell_quiet, Block.each_quiet]

theorem Block.pairJudge_quiet (bs : List Byte) (n : Nat) (t : Nat) (b : Block) :
    (Block.pairJudge bs n t b).quiet = b.quiet := by
  simp only [Block.pairJudge, Block.quiet_ite, ite_self, Block.flag_quiet, Block.wr_quiet,
      Block.learnGen_quiet, Block.updPair_quiet, Block.raise_quiet]

theorem Block.pairLost_quiet (b : Block) : (Block.pairLost b).quiet = b.quiet := by
  simp only [Block.pairLost, Block.quiet_ite, ite_self, Block.raise_quiet, Block.updPair_quiet]

theorem Block.pairMiss_quiet (b : Block) : (Block.pairMiss b).quiet = b.quiet := by
  simp only [Block.pairMiss, Block.pairLost_quiet, Block.updPair_quiet, Block.count_quiet, Block.flag_quiet]

theorem Block.pairBoundary_quiet (n : Nat) (t : Nat) (b : Block) :
    (Block.pairBoundary n t b).quiet = b.quiet := by
  unfold Block.pairBoundary
  repeat' (first | with_reducible rfl | intro _ | split
                 | simp only [Block.updPair_quiet, Block.tokenDown_quiet, Block.tokenJudge_quiet,
                       Block.showGen_quiet, Block.pairMiss_quiet, Block.pairJudge_quiet, Block.mirror_quiet,
                       Block.takeToken_quiet])

theorem Block.pairWindow_quiet (b : Block) : b.pairWindow.quiet = b.quiet := by
  simp only [Block.pairWindow, Block.quiet_ite, Block.raise_quiet, Block.takeToken_quiet, Block.holdShown_quiet,
      Block.updPair_quiet, ite_self]
  split
  · rfl
  · refine Block.each_quiet _ _ _ fun s b => ?_
    split <;> simp only [Block.learnGen_quiet]

theorem Block.pairBegin_quiet (num : Nat) (at_ : Nat) (next : Nat) (b : Block) :
    (Block.pairBegin num at_ next b).quiet = b.quiet := by
  simp only [Block.pairBegin, Block.updStrk_quiet, Block.updPair_quiet, Block.updBoot_quiet]

theorem Block.pairFrameRx_quiet (bs : List Byte) (b : Block) : (Block.pairFrameRx bs b).quiet = b.quiet := by
  simp only [Block.pairFrameRx, Block.quiet_ite, ite_self, Block.dropMark_quiet, Block.checked_quiet,
      Block.pairBegin_quiet, Block.learnGen_quiet, Block.firstToken_quiet, Block.updPair_quiet]

theorem Block.pairWaitTimeout_quiet (b : Block) : (Block.pairWaitTimeout b).quiet = b.quiet := by
  simp only [Block.pairWaitTimeout, Block.quiet_ite, ite_self, Block.untilUp_quiet, Block.firstToken_quiet,
      Block.pairBegin_quiet]

/-! ### Machine/Time.lean -/

theorem Block.setInc_kept (x : Nat) (b : Block) : (b.setInc x).quiet.2 = b.quiet.2 := rfl

theorem Block.adjEnd_kept (b : Block) : b.adjEnd.quiet.2 = b.quiet.2 := rfl

theorem Block.adjustBy_kept (d : Int) (n : Nat) (b : Block) : (b.adjustBy d n).quiet.2 = b.quiet.2 := by
  unfold Block.adjustBy; split <;> rfl

theorem Block.setAdj_kept (cnt : Nat) (b : Block) : (Block.setAdj cnt b).quiet.2 = b.quiet.2 := by
  simp only [Block.setAdj, Block.adjustBy_kept]

theorem Block.stepRequest_quiet (d : Int) (b : Block) : (Block.stepRequest d b).quiet = b.quiet := by
  simp only [Block.stepRequest, Block.flag_quiet, Block.updTb_quiet]

theorem Block.setCtrl_kept (step : Bool) (adjStop : Bool) (b : Block) :
    (Block.setCtrl step adjStop b).quiet.2 = b.quiet.2 := by
  simp only [Block.setCtrl, Block.kept_ite, ite_self, Block.adjEnd_kept, Block.stepRequest_quiet]

theorem Block.adjustmentEnd_quiet (b : Block) : (Block.adjustmentEnd b).quiet = b.quiet := by
  simp only [Block.adjustmentEnd, Block.quiet_ite, ite_self, Block.advance_quiet]

theorem Block.latchNow_quiet (b : Block) : (Block.latchNow b).quiet = b.quiet := by
  simp only [Block.latchNow, Block.wr64_quiet, Block.wr_quiet]

theorem Block.stampShow_quiet (k : Nat) (l : List (BitVec 96 × Bool)) (b : Block) :
    (Block.stampShow k l b).quiet = b.quiet := by
  simp only [Block.stampShow, Block.wr_quiet, Block.updPtp_quiet, Block.flag_quiet, Block.wr64_quiet]

theorem Block.stampPop_quiet (k : Nat) (b : Block) : (Block.stampPop k b).quiet = b.quiet := by
  simp only [Block.stampPop, Block.stampShow_quiet]

theorem Block.tsEdge_quiet (k : Nat) (rising : Bool) (b : Block) :
    (Block.tsEdge k rising b).quiet = b.quiet := by
  simp only [Block.tsEdge, Block.quiet_ite, ite_self, Block.stampShow_quiet, Block.raise_quiet,
      Block.flag_quiet]

theorem Block.updDom_quiet (x : Nat) (f : DomSt → DomSt) (b : Block) :
    (Block.updDom x f b).quiet = b.quiet := by
  simp only [Block.updDom, Block.updPtp_quiet]

theorem Block.domTo_quiet (x : Nat) (st : Nat) (b : Block) : (Block.domTo x st b).quiet = b.quiet := by
  simp only [Block.domTo, Block.quiet_ite, ite_self, Block.wr_quiet, Block.flag_quiet]

theorem Block.domRestart_quiet (x : Nat) (b : Block) : (Block.domRestart x b).quiet = b.quiet := by
  simp only [Block.domRestart, Block.domTo_quiet, Block.updDom_quiet, Block.wr_quiet, Block.wr64_quiet]

theorem Block.timeShow_quiet (b : Block) : (Block.timeShow b).quiet = b.quiet := by
  simp only [Block.timeShow, Block.flag_quiet, Block.wr_quiet]

theorem Block.timeSwitch_quiet (x : Nat) (inj : Bool) (b : Block) :
    (Block.timeSwitch x inj b).quiet = b.quiet := by
  simp only [Block.timeSwitch, Block.timeShow_quiet, Block.raise_quiet, Block.wr_quiet]

theorem Block.switchJudge_quiet (inj : Bool) (b : Block) : (Block.switchJudge inj b).quiet = b.quiet := by
  simp only [Block.switchJudge, Block.quiet_ite, ite_self, Block.timeShow_quiet, Block.timeSwitch_quiet]

theorem Block.limitJudge_quiet (x : Nat) (offs : Int) (b : Block) :
    (Block.limitJudge x offs b).quiet = b.quiet := by
  simp only [Block.limitJudge, Block.quiet_ite, ite_self, Block.updDom_quiet, Block.flag_quiet,
      Block.raise_quiet]

theorem Block.stepPtp_quiet (d : Int) (b : Block) : (Block.stepPtp d b).quiet = b.quiet := by
  simp only [Block.stepPtp, implies_true, Block.updPtp_quiet, Block.updDom_quiet, Block.each_quiet]

theorem Block.stepApply_quiet (d : Int) (b : Block) : (Block.stepApply d b).quiet = b.quiet := by
  simp only [Block.stepApply, Block.quiet_ite, ite_self, implies_true, Block.raise_quiet, Block.flag_quiet,
      Block.updTb_quiet, Block.wr64_quiet, Block.limitJudge_quiet, Block.adcStep_quiet, Block.timeShow_quiet,
      Block.stepPtp_quiet, Block.each_quiet]

theorem Block.domDrop_quiet (x : Nat) (st : Nat) (b : Block) : (Block.domDrop x st b).quiet = b.quiet := by
  simp only [Block.domDrop, Block.quiet_ite, ite_self, Block.updDom_quiet, Block.domTo_quiet, Block.raise_quiet]

theorem Block.domLose_quiet (x : Nat) (st : Nat) (b : Block) : (Block.domLose x st b).quiet = b.quiet := by
  simp only [Block.domLose, Block.switchJudge_quiet, Block.domDrop_quiet]

theorem Block.domAfresh_quiet (x : Nat) (b : Block) : (Block.domAfresh x b).quiet = b.quiet := by
  simp only [Block.domAfresh, Block.quiet_ite, ite_self, Block.domLose_quiet, Block.updDom_quiet,
      Block.domRestart_quiet]

/-! ### Machine/Units.lean -/

theorem Block.updTb_kept (f : TimeBase → TimeBase) (b : Block) : (b.updTb f).quiet.2 = b.quiet.2 := rfl

/-! ### Machine/Time.lean -/

theorem Block.servo_kept (x : Int) (b : Block) : (b.servo x).quiet.2 = b.quiet.2 := by
  simp only [Block.servo, Block.kept_ite, Block.stepRequest_quiet, Block.adjEnd_kept, Block.adjustBy_kept,
      Block.wrS_quiet,
    Block.updTb_kept, Block.wr_quiet, Block.drawn_quiet, ite_self]

theorem Block.measure_kept (x : Nat) (t : Int) (rx : Int) (b : Block) :
    (Block.measure x t rx b).quiet.2 = b.quiet.2 := by
  unfold Block.measure
  repeat' (first | with_reducible rfl | intro _ | split
                 | simp only [Block.kept_ite, ite_self, Block.wr64_quiet, Block.wrS_quiet, Block.updDom_quiet,
                       Block.domTo_quiet, Block.switchJudge_quiet, Block.limitJudge_quiet, Block.servo_kept])

theorem Block.masterGone_quiet (x : Nat) (lost : Bool) (b : Block) :
    (Block.masterGone x lost b).quiet = b.quiet := by
  simp only [Block.masterGone, Block.quiet_ite, ite_self, Block.updDom_quiet, Block.domLose_quiet,
      Block.domTo_quiet]

theorem Block.ptpAnnounce_quiet (x : Nat) (m : PtpMsg) (b : Block) :
    (Block.ptpAnnounce x m b).quiet = b.quiet := by
  unfold Block.ptpAnnounce
  repeat' (first | with_reducible rfl | intro _ | split
                 | simp only [Block.masterGone_quiet, Block.wr64_quiet, Block.updDom_quiet,
                       Block.domLose_quiet, Block.domTo_quiet])

theorem Block.ptpSync_kept (x : Nat) (m : PtpMsg) (b : Block) :
    (Block.ptpSync x m b).quiet.2 = b.quiet.2 := by
  simp only [Block.ptpSync, Block.kept_ite, ite_self, Block.updDom_quiet, Block.dropMark_quiet,
      Block.measure_kept]

theorem Block.ptpFollowUp_kept (x : Nat) (m : PtpMsg) (b : Block) :
    (Block.ptpFollowUp x m b).quiet.2 = b.quiet.2 := by
  simp only [Block.ptpFollowUp, Block.kept_ite, ite_self, Block.measure_kept, Block.updDom_quiet]

theorem Block.ptpDelay_quiet (p : Nat) (dl : Int) (b : Block) : (Block.ptpDelay p dl b).quiet = b.quiet := by
  simp only [Block.ptpDelay, implies_true, Block.wrS_quiet, Block.updDom_quiet, Block.eachOf_quiet]

theorem Block.pdelayResp_quiet (m : PtpMsg) (b : Block) : (Block.pdelayResp m b).quiet = b.quiet := by
  simp only [Block.pdelayResp, Block.quiet_ite, ite_self, Block.updPtp_quiet, Block.ptpDelay_quiet]

theorem Block.pdelayFollowUp_quiet (m : PtpMsg) (b : Block) : (Block.pdelayFollowUp m b).quiet = b.quiet := by
  simp only [Block.pdelayFollowUp, Block.quiet_ite, ite_self, Block.ptpDelay_quiet]

theorem Block.ptpMessageRx_kept (m : PtpMsg) (b : Block) : (Block.ptpMessageRx m b).quiet.2 = b.quiet.2 := by
  unfold Block.ptpMessageRx
  repeat' (first | with_reducible rfl | intro _ | split
                 | simp only [Block.kept_ite, ite_self, implies_true, Block.checked_quiet,
                       Block.dropMark_quiet, Block.ptpAnnounce_quiet, Block.ptpSync_kept,
                       Block.ptpFollowUp_kept, Block.emit_quiet, Block.pdelayResp_quiet,
                       Block.pdelayFollowUp_quiet, Block.eachOf_quiet, Block.eachOf_kept])

theorem Block.pdelayReqSend_quiet (port : Stn) (b : Block) :
    (Block.pdelayReqSend port b).quiet = b.quiet := by
  simp only [Block.pdelayReqSend, Block.quiet_ite, ite_self, Block.emit_quiet, Block.updPtp_quiet]

theorem Block.ptpDomainLost_quiet (x : Nat) (b : Block) : (Block.ptpDomainLost x b).quiet = b.quiet := by
  simp only [Block.ptpDomainLost, Block.quiet_ite, ite_self, Block.masterGone_quiet, Block.untilUp_quiet]

theorem Block.timeCast_quiet (b : Block) : (Block.timeCast b).quiet = b.quiet := by
  simp only [Block.timeCast, Block.quiet_ite, ite_self, implies_true, Block.domAfresh_quiet,
      Block.limitJudge_quiet, Block.timeSwitch_quiet, Block.switchJudge_quiet, Block.each_quiet]

theorem Block.timeStarts_quiet (b : Block) : (Block.timeStarts b).quiet = b.quiet := by
  simp only [Block.timeStarts, Block.domRestart_quiet, Block.timeShow_quiet, Block.wr_quiet]

theorem Block.timeRestart_quiet (b : Block) : (Block.timeRestart b).quiet = b.quiet := by
  simp only [Block.timeRestart, implies_true, Block.domDrop_quiet, Block.updDom_quiet, Block.timeStarts_quiet,
      Block.eachOf_quiet]

theorem Block.pllLock_quiet (n : Nat) (on : Bool) (b : Block) : (Block.pllLock n on b).quiet = b.quiet := by
  unfold Block.pllLock
  repeat' (first | with_reducible rfl | intro _ | split | simp only [Block.flag_quiet, Block.setBit_quiet])

theorem Block.holdoverOf_quiet (n : Nat) (b : Block) : (Block.holdoverOf n b).quiet = b.quiet := by
  simp only [Block.holdoverOf, Block.quiet_ite, Block.quiet_keep, ite_self, Block.pllLock_quiet,
      Block.wr_quiet, Block.count_quiet, Block.flag_quiet, Block.updStrk_quiet, Block.drawn_quiet]

theorem Block.pllRelock_quiet (n : Nat) (b : Block) : (Block.pllRelock n b).quiet = b.quiet := by
  simp only [Block.pllRelock, Block.quiet_ite, Block.quiet_keep, ite_self, Block.pllLock_quiet,
      Block.flag_quiet]

theorem Block.pllBandFail_quiet (n : Nat) (b : Block) : (Block.pllBandFail n b).quiet = b.quiet := by
  simp only [Block.pllBandFail, Block.quiet_ite, Block.quiet_keep, ite_self, Block.raise_quiet]

theorem Block.timingRestored_quiet (b : Block) : (Block.timingRestored b).quiet = b.quiet := by
  simp only [Block.timingRestored, Block.quiet_ite, ite_self, Block.updStrk_quiet]

theorem Block.groupUnlock_quiet (e : Nat) (b : Block) : (Block.groupUnlock e b).quiet = b.quiet := by
  simp only [Block.groupUnlock, Block.quiet_ite, ite_self, implies_true, Block.flag_quiet,
      Block.laneDown_quiet, Block.eachOf_quiet]

theorem Block.stationLink_quiet (p : Stn) (up : Bool) (b : Block) :
    (Block.stationLink p up b).quiet = b.quiet := by
  simp only [Block.stationLink, Block.quiet_ite, ite_self, implies_true, Block.updDma_quiet,
      Block.masterGone_quiet, Block.domLose_quiet, Block.domTo_quiet, Block.eachOf_quiet]

theorem Block.clockMonitorFail_quiet (n : Nat) (b : Block) :
    (Block.clockMonitorFail n b).quiet = b.quiet := by
  unfold Block.clockMonitorFail
  repeat' (first | with_reducible rfl | intro _ | split
                 | simp only [Block.quiet_ite, Block.quiet_keep, ite_self, implies_true, Block.flag_quiet,
                       Block.raise_quiet, Block.holdoverOf_quiet, Block.updStrk_quiet,
                       Block.stationLink_quiet, Block.groupUnlock_quiet, Block.setBit_quiet,
                       Block.eachOf_quiet])

theorem Block.clockMonitorPass_quiet (n : Nat) (b : Block) :
    (Block.clockMonitorPass n b).quiet = b.quiet := by
  simp only [Block.clockMonitorPass, Block.quiet_ite, Block.quiet_keep, ite_self, Block.flag_quiet]

/-! ### Machine/Flags.lean -/

theorem Block.recovShow_quiet (k : Nat) (rec : Field) (lock : Field) (quiet : Field) (left : Field) (b :
    Block) : (Block.recovShow k rec lock quiet left b).quiet = b.quiet := by
  simp only [Block.recovShow, Block.wr_quiet, Block.flag_quiet]

theorem Block.refreshEvt_quiet (a : Nat) (b : Block) : (Block.refreshEvt a b).quiet = b.quiet := by
  simp only [Block.refreshEvt, Block.quiet_ite, ite_self, Block.wr_quiet, Block.flag_quiet,
      Block.recovShow_quiet]

theorem Block.refreshAge_quiet (x : Nat) (b : Block) : (Block.refreshAge x b).quiet = b.quiet := by
  unfold Block.refreshAge
  repeat' (first | with_reducible rfl | intro _ | split | simp only [Block.wr_quiet])

theorem Block.refreshHeaders_quiet (l : Nat) (b : Block) : (Block.refreshHeaders l b).quiet = b.quiet := by
  simp only [Block.refreshHeaders, Block.quiet_ite, ite_self, Block.drawn_quiet, Block.count_quiet]

theorem Block.refresh_quiet (a : Nat) (b : Block) : (Block.refresh a b).quiet = b.quiet := by
  unfold Block.refresh
  repeat' (first | with_reducible rfl | intro _ | split
                 | simp only [Block.flag_quiet, Block.wr_quiet, Block.drawn_quiet, Block.latchNow_quiet,
                       Block.refreshAge_quiet, Block.refreshEvt_quiet, Block.refreshHeaders_quiet])

theorem Block.showMasks_quiet (b : Block) : (Block.showMasks b).quiet = b.quiet := by
  simp only [Block.showMasks, implies_true, Block.wr_quiet, Block.each_quiet]

theorem Block.showImage_quiet (b : Block) : (Block.showImage b).quiet = b.quiet := by
  simp only [Block.showImage, implies_true, Block.wr_quiet, Block.ledgerShow_quiet, Block.showMasks_quiet,
      Block.wr64_quiet, Block.flag_quiet, Block.each_quiet]

/-! ### Machine/Jarvas.lean -/

theorem Block.send_quiet (r : Reply) (b : Block) : (Block.send r b).quiet = b.quiet := by
  simp only [Block.send, Block.flag_quiet, Block.emit_quiet]

theorem Block.refuse_quiet (rq : Req) (op : Nat) (status : Nat) (detail : Nat) (b : Block) :
    (Block.refuse rq op status detail b).quiet = b.quiet := by
  simp only [Block.refuse, Block.send_quiet, Block.count_quiet]

theorem Block.finish_quiet (status : Nat) (detail : Nat) (payload : List Byte) (b : Block) :
    (Block.finish status detail payload b).quiet = b.quiet := by
  unfold Block.finish
  repeat' (first | with_reducible rfl | intro _ | split
                 | simp only [Block.flag_quiet, Block.wr_quiet, Block.updJv_quiet, Block.send_quiet])

theorem Block.waitFor_quiet (w : Wait) (b : Block) : (Block.waitFor w b).quiet = b.quiet := by
  simp only [Block.waitFor, Block.updJv_quiet]

theorem Block.finishIf_quiet (w : Wait) (status : Nat) (detail : Nat) (payload : List Byte) (b : Block) :
    (Block.finishIf w status detail payload b).quiet = b.quiet := by
  simp only [Block.finishIf, Block.quiet_ite, ite_self, Block.finish_quiet]

theorem Block.disarm_quiet (b : Block) : (Block.disarm b).quiet = b.quiet := by
  unfold Block.disarm
  repeat' (first | with_reducible rfl | intro _ | split
                 | simp only [Block.quiet_ite, ite_self, Block.updCst_quiet, Block.flag_quiet,
                       Block.wr64_quiet, Block.wr_quiet, Block.finish_quiet])

theorem Block.earlyDiscard_quiet (b : Block) : (Block.earlyDiscard b).quiet = b.quiet := by
  simp only [Block.earlyDiscard, Block.quiet_ite, ite_self, Block.updJv_quiet, Block.disarm_quiet]

theorem Block.accept_quiet (rq : Req) (op : Nat) (b : Block) : (Block.accept rq op b).1.quiet = b.quiet := by
  unfold Block.accept
  repeat' (first | with_reducible rfl | intro _ | split
                 | simp only [Block.refuse_quiet, Block.emit_quiet, Block.wr64_quiet, Block.wr_quiet,
                       Block.updJv_quiet, Block.earlyDiscard_quiet])

theorem Block.execute_quiet (t : Bool) (f : Block → Block × Ans) (b : Block) (h : ∀ b, (f b).1.quiet =
    b.quiet) : (b.execute t f).quiet = b.quiet := by
  unfold Block.execute
  split
  · rfl
  · have := h b
    split <;> simp_all only [Block.finish_quiet, Block.waitFor_quiet]

theorem Block.serve_quiet (rq : Req) (op : Nat) (p t : Bool) (f : Block → Block × Ans) (b : Block) (h : ∀ b,
    (f b).1.quiet = b.quiet) : (b.serve rq op p t f).quiet = b.quiet := by
  unfold Block.serve
  have ha := Block.accept_quiet rq op b
  repeat' split
  all_goals simp_all only [Block.refuse_quiet, Block.execute_quiet, implies_true]

/-! ### Machine/Dma.lean -/

theorem Block.setStream_quiet (k : Nat) (x : StreamSt) (b : Block) :
    (Block.setStream k x b).quiet = b.quiet := by
  simp only [Block.setStream, Block.updDma_quiet]

theorem Block.streamOpen_quiet (d : StreamDesc) (b : Block) : (Block.streamOpen d b).1.quiet = b.quiet := by
  unfold Block.streamOpen
  repeat' (first | with_reducible rfl | intro _ | split
                 | simp only [Block.setStream_quiet, Block.setBit_quiet, Block.wr_quiet])

theorem Block.dropStream_quiet (k : Nat) (b : Block) : (Block.dropStream k b).quiet = b.quiet := by
  simp only [Block.dropStream, Block.updDma_quiet, Block.setBit_quiet, Block.wr_quiet, Block.flag_quiet]

theorem Block.streamClose_quiet (k : Nat) (b : Block) : (Block.streamClose k b).1.quiet = b.quiet := by
  unfold Block.streamClose
  repeat' (first | with_reducible rfl | intro _ | split
                 | simp only [Block.setStream_quiet, Block.dropStream_quiet])

theorem Block.streamSettle_quiet (k : Nat) (b : Block) : (Block.streamSettle k b).quiet = b.quiet := by
  unfold Block.streamSettle
  repeat' (first | with_reducible rfl | intro _ | split
                 | simp only [Block.finishIf_quiet, Block.dropStream_quiet])

theorem Block.closeAll_quiet (b : Block) : (Block.closeAll b).quiet = b.quiet := by
  simp only [Block.closeAll, Block.quiet_ite, ite_self, implies_true, Block.dropStream_quiet, Block.each_quiet]

theorem Block.streamSkip_quiet (k : Nat) (b : Block) : (Block.streamSkip k b).quiet = b.quiet := by
  unfold Block.streamSkip
  repeat' (first | with_reducible rfl | intro _ | split
                 | simp only [Block.setStream_quiet, Block.streamSettle_quiet, Block.count_quiet,
                       Block.setBit_quiet, Block.chanBusy_quiet])

theorem Block.cutStreams_quiet (b : Block) : (Block.cutStreams b).quiet = b.quiet := by
  simp only [Block.cutStreams, Block.quiet_ite, ite_self, implies_true, Block.flag_quiet, Block.raise_quiet,
      Block.count_quiet, Block.streamSkip_quiet, Block.eachOf_quiet]

theorem Block.dueStreams_quiet (b : Block) : (Block.dueStreams b).quiet = b.quiet := by
  unfold Block.dueStreams
  repeat' (first | with_reducible rfl | intro _ | split
                 | simp only [Block.streamSkip_quiet, Block.chanBusy_quiet, Block.setStream_quiet]
                 | refine (Block.each_quiet _ _ _ ?_).trans ?_)

theorem Block.placeCopy_quiet (p : Nat) (k : Nat) (x : StreamSt) (bs : List Byte) (b : Block) :
    (Block.placeCopy p k x bs b).quiet = b.quiet := by
  simp only [Block.placeCopy, Block.updDma_quiet, Block.emit_quiet]

theorem Block.copyTo_quiet (p : Nat) (k : Nat) (b : Block) : (Block.copyTo p k b).quiet = b.quiet := by
  unfold Block.copyTo
  repeat' (first | with_reducible rfl | intro _ | split
                 | simp only [Block.setStream_quiet, Block.placeCopy_quiet])

theorem Block.channelDone_quiet (k : Nat) (b : Block) : (Block.channelDone k b).quiet = b.quiet := by
  unfold Block.channelDone
  repeat' (first | with_reducible rfl | intro _ | split
                 | simp only [Block.setStream_quiet, Block.streamSettle_quiet, Block.wr_quiet,
                       Block.chanBusy_quiet])

theorem Block.strokeChannelRun_quiet (k : Nat) (b : Block) :
    (Block.strokeChannelRun k b).quiet = b.quiet := by
  unfold Block.strokeChannelRun
  repeat' (first | with_reducible rfl | intro _ | split
                 | simp only [Block.setStream_quiet, Block.channelDone_quiet, Block.copyTo_quiet])

theorem Block.streamDrained_quiet (p : Nat) (b : Block) : (Block.streamDrained p b).quiet = b.quiet := by
  unfold Block.streamDrained
  repeat' (first | with_reducible rfl | intro _ | split
                 | simp only [Block.channelDone_quiet, Block.copyTo_quiet, Block.untilUp_quiet])

theorem Block.copyDropped_quiet (p : Nat) (b : Block) : (Block.copyDropped p b).quiet = b.quiet := by
  unfold Block.copyDropped
  repeat' (first | with_reducible rfl | intro _ | split
                 | simp only [Block.channelDone_quiet, Block.copyTo_quiet])

theorem Block.stationLinkChange_quiet (port : Stn) (up : Bool) (b : Block) :
    (Block.stationLinkChange port up b).quiet = b.quiet := by
  simp only [Block.stationLinkChange, Block.copyDropped_quiet, Block.stationLink_quiet]

theorem Block.startTransfer_quiet (n : Nat) (b : Block) : (Block.startTransfer n b).quiet = b.quiet := by
  simp only [Block.startTransfer, Block.flag_quiet, Block.updChan_quiet]

theorem Block.loadSet_quiet (n : Nat) (s : ChanSet) (b : Block) : (Block.loadSet n s b).quiet = b.quiet := by
  simp only [Block.loadSet, Block.quiet_ite, ite_self, Block.updChan_quiet, Block.flag_quiet, Block.wr_quiet,
      Block.startTransfer_quiet]

theorem Block.chanLoad_quiet (n : Nat) (b : Block) : (Block.chanLoad n b).quiet = b.quiet := by
  simp only [Block.chanLoad, Block.quiet_ite, ite_self, Block.flag_quiet, Block.loadSet_quiet]

theorem Block.chanStop_quiet (n : Nat) (b : Block) : (Block.chanStop n b).quiet = b.quiet := by
  simp only [Block.chanStop, Block.quiet_ite, ite_self, Block.flag_quiet, Block.updChan_quiet]

theorem Block.ringWrite_quiet (n : Nat) (ws : List Nat) (b : Block) :
    (b.ringWrite n ws).quiet = b.quiet := by
  unfold Block.ringWrite
  dsimp only
  generalize (b.chan n).act = s
  induction ws generalizing b with
  | nil => rfl
  | cons w r ih =>
    rw [List.foldl_cons, ih]
    simp only [Block.quiet_ite, ite_self, Block.bump_quiet, Block.wr_quiet]

theorem Block.ringRecord_quiet (n : Nat) (flags : Nat) (data : List Nat) (b : Block) :
    (Block.ringRecord n flags data b).quiet = b.quiet := by
  simp only [Block.ringRecord, Block.quiet_ite, ite_self, Block.count_quiet, Block.ringWrite_quiet,
      Block.updChan_quiet]

theorem Block.transferEnd_quiet (n : Nat) (b : Block) : (Block.transferEnd n b).quiet = b.quiet := by
  simp only [Block.transferEnd, Block.quiet_ite, ite_self, Block.flag_quiet, Block.updChan_quiet,
      Block.loadSet_quiet]

theorem Block.transferDone_quiet (n : Nat) (b : Block) : (Block.transferDone n b).quiet = b.quiet := by
  simp only [Block.transferDone, Block.transferEnd_quiet, Block.bump_quiet, Block.ringRecord_quiet]

theorem Block.bulkBurst_quiet (m : Nat) (b : Block) : (Block.bulkBurst m b).quiet = b.quiet := by
  simp only [Block.bulkBurst, Block.quiet_ite, ite_self, Block.updDma_quiet, Block.transferDone_quiet,
      Block.updChan_quiet]

theorem Block.bulkRun_quiet (n k : Nat) (b : Block) : (Block.bulkRun n k b).quiet = b.quiet := by
  induction k generalizing b with
  | zero => rfl
  | succ k ih =>
    unfold Block.bulkRun
    split
    · rfl
    · split
      · exact Block.bulkBurst_quiet _ _
      · rw [ih, Block.bulkBurst_quiet]

theorem Block.bulkShare_quiet (n : Nat) (b : Block) : (Block.bulkShare n b).quiet = b.quiet := by
  simp only [Block.bulkShare, Block.quiet_ite, ite_self, Block.bulkRun_quiet]

theorem Block.hostChannelDone_quiet (n : Nat) (b : Block) : (Block.hostChannelDone n b).quiet = b.quiet := by
  simp only [Block.hostChannelDone, Block.quiet_ite, ite_self, Block.bulkShare_quiet]

theorem Block.tear_quiet (n : Nat) (b : Block) : (Block.tear n b).quiet = b.quiet := by
  simp only [Block.tear, Block.quiet_ite, ite_self, Block.transferEnd_quiet, Block.ringRecord_quiet,
      Block.count_quiet, Block.flag_quiet]

theorem Block.trigger_quiet (n : Nat) (b : Block) : (Block.trigger n b).quiet = b.quiet := by
  simp only [Block.trigger, Block.quiet_ite, ite_self, Block.updChan_quiet, Block.flag_quiet,
      Block.startTransfer_quiet]

theorem Block.hostFreeze_quiet (b : Block) : (Block.hostFreeze b).quiet = b.quiet := by
  simp only [Block.hostFreeze, Block.quiet_ite, ite_self, implies_true, Block.trigger_quiet, Block.tear_quiet,
      Block.eachOf_quiet]

theorem Block.dropStaged_quiet (b : Block) : (Block.dropStaged b).quiet = b.quiet := by
  unfold Block.dropStaged
  repeat' (first | with_reducible rfl | intro _ | split
                 | simp only [Block.flag_quiet, Block.count_quiet, Block.updEvt_quiet])

theorem Block.imageFails_quiet (b : Block) : (Block.imageFails b).quiet = b.quiet := by
  unfold Block.imageFails
  repeat' (first | with_reducible rfl | intro _ | split
                 | simp only [Block.fwEnd_quiet, Block.updBoot_quiet, Block.finish_quiet, Block.flag_quiet,
                       Block.wr_quiet])

theorem Block.dmaHalt_quiet (b : Block) : (Block.dmaHalt b).quiet = b.quiet := by
  simp only [Block.dmaHalt, Block.quiet_ite, ite_self, implies_true, Block.flag_quiet, Block.streamSkip_quiet,
      Block.transferEnd_quiet, Block.ledgerCommitDone_quiet, Block.imageFails_quiet, Block.eachOf_quiet]

theorem Block.retry_quiet (n : Nat) (b : Block) : (Block.retry n b).quiet = b.quiet := by
  simp only [Block.retry, Block.quiet_ite, ite_self, Block.updDma_quiet, Block.ledgerCommitDone_quiet,
      Block.imageFails_quiet]

theorem Block.dmaSkip_quiet (n : Nat) (b : Block) : (Block.dmaSkip n b).quiet = b.quiet := by
  simp only [Block.dmaSkip, Block.quiet_ite, ite_self, Block.flag_quiet, Block.streamSkip_quiet,
      Block.count_quiet, Block.dropStaged_quiet, Block.retry_quiet, Block.transferEnd_quiet,
      Block.ringRecord_quiet]

theorem Block.busError_quiet (n : Nat) (kind : Nat) (addr : Nat) (inj : Bool) (b : Block) :
    (Block.busError n kind addr inj b).quiet = b.quiet := by
  simp only [Block.busError, Block.quiet_ite, ite_self, Block.raise_quiet, Block.wr_quiet,
      Block.dmaSkip_quiet, Block.dmaHalt_quiet]

theorem Block.dmaBusError_quiet (n : Nat) (kind : Nat) (addr : Nat) (b : Block) :
    (Block.dmaBusError n kind addr b).quiet = b.quiet := by
  simp only [Block.dmaBusError, Block.quiet_ite, ite_self, Block.busError_quiet]

theorem Block.flashCorr_quiet (told : Option Nat) (b : Block) : (Block.flashCorr told b).quiet = b.quiet := by
  cases told with
  | none => simp only [Block.flashCorr, Block.quiet_ite, ite_self, Block.raise_quiet, Block.drawn_quiet]
  | some n => exact Block.each_quiet n _ b fun _ _ => Block.raise_quiet _ _

theorem Block.flashCheck_quiet (told : Option Nat) (b : Block) : (Block.flashCheck told b).quiet = b.quiet := by
  simp only [Block.flashCheck, Block.quiet_ite, ite_self, Block.raise_quiet, Block.checked_quiet,
      Block.flashCorr_quiet]

theorem Block.flashRead_quiet (n : Nat) (told : Option Nat) (b : Block) : (Block.flashRead n told b).quiet = b.quiet := by
  simp only [Block.flashRead, Block.quiet_ite, ite_self, Block.busError_quiet, Block.checked_quiet,
      Block.flashCorr_quiet]

theorem Block.flashReads_quiet (n : Nat) (told : Option Nat) (b : Block) : (Block.flashReads n told b).quiet = b.quiet := by
  simp only [Block.flashReads, Block.quiet_ite, ite_self, Block.flashRead_quiet]

theorem Block.dmaRestart_quiet (b : Block) : (Block.dmaRestart b).quiet = b.quiet := by
  simp only [Block.dmaRestart, Block.flag_quiet]

theorem Block.dmaStop_quiet (b : Block) : (Block.dmaStop b).quiet = b.quiet := by
  simp only [Block.dmaStop, implies_true, Block.flag_quiet, Block.chanBusy_quiet, Block.updDma_quiet,
      Block.closeAll_quiet, Block.eachOf_quiet]

theorem Block.copiesSettle_quiet (b : Block) : (Block.copiesSettle b).quiet = b.quiet := by
  simp only [Block.copiesSettle, Block.copyDropped_quiet]

/-! ### Machine/Cast.lean -/

theorem Block.castErr_quiet (err : Nat) (addr : Nat) (b : Block) :
    (Block.castErr err addr b).quiet = b.quiet := by
  simp only [Block.castErr, Block.wr_quiet]

theorem Block.armAt_quiet (t : Nat) (timed : Bool) (b : Block) : (Block.armAt t timed b).quiet = b.quiet := by
  simp only [Block.armAt, Block.updCst_quiet, Block.flag_quiet, Block.wr_quiet, Block.wr64_quiet]

theorem Block.castCommand_quiet (b : Block) : (Block.castCommand b).1.quiet = b.quiet := by
  unfold Block.castCommand
  repeat' (first | with_reducible rfl | intro _ | split | simp only [Block.castErr_quiet, Block.armAt_quiet])

theorem Block.retarget_quiet (t : Nat) (a : Armed) (b : Block) : (b.retarget t a).1.quiet = b.quiet := by
  simp only [Block.retarget, Block.quiet_fst_ite, Block.castErr_quiet, Block.wr64_quiet, Block.updCst_quiet,
      ite_self]

theorem Block.castAtCommand_quiet (t : Nat) (b : Block) : (b.castAtCommand t).1.quiet = b.quiet := by
  rcases ha : b.cst.armed with _ | a <;> rcases hv : b.validate with _ | ⟨e, x⟩ <;>
    simp only [Block.castAtCommand, ha, hv, Block.quiet_fst_ite, Block.retarget_quiet, Block.castErr_quiet,
      Block.armAt_quiet, ite_self]

theorem Block.maqReset_quiet (b : Block) : (Block.maqReset b).quiet = b.quiet := by
  simp only [Block.maqReset, Block.wr_quiet, Block.updCst_quiet]

theorem Block.discardCommand_quiet (b : Block) : (Block.discardCommand b).1.quiet = b.quiet := by
  unfold Block.discardCommand
  repeat' (first | with_reducible rfl | intro _ | split | simp only [Block.disarm_quiet, Block.maqReset_quiet])

theorem Block.exchange_quiet (b : Block) : (Block.exchange b).quiet = b.quiet := by
  simp only [Block.exchange, Block.quiet_keep]

theorem Block.campusPhase_quiet (b : Block) : (Block.campusPhase b).quiet = b.quiet := by
  simp only [Block.campusPhase, Block.wrS_quiet]

theorem Block.configTaken_quiet (retrain : Bool) (b : Block) :
    (Block.configTaken retrain b).quiet = b.quiet := by
  simp only [Block.configTaken, Block.quiet_ite, ite_self, Block.campusPhase_quiet, Block.populate_quiet,
      Block.retrainRejected_quiet, Block.tripsJudge_quiet, Block.fallbackAgain_quiet, Block.timeCast_quiet,
      Block.powerChannels_quiet]

theorem Block.castEffect_quiet (b : Block) : (Block.castEffect b).quiet = b.quiet := by
  simp only [Block.castEffect, Block.quiet_ite, ite_self, Block.updCst_quiet, Block.exchange_quiet,
      Block.keepFormer_quiet, Block.wr_quiet, Block.updStrk_quiet, Block.bump_quiet, Block.wr64_quiet,
      Block.flag_quiet, Block.configTaken_quiet, Block.finish_quiet]

theorem Block.castTimeout_quiet (b : Block) : (Block.castTimeout b).quiet = b.quiet := by
  simp only [Block.castTimeout, Block.updCst_quiet, Block.flag_quiet, Block.wr64_quiet, Block.wr_quiet,
      Block.finish_quiet]

theorem Block.castAtBoundary_quiet (b : Block) : (Block.castAtBoundary b).quiet = b.quiet := by
  unfold Block.castAtBoundary
  repeat' (first | with_reducible rfl | intro _ | split
                 | simp only [Block.quiet_ite, ite_self, Block.castEffect_quiet, Block.raise_quiet,
                       Block.updCst_quiet, Block.castTimeout_quiet])

theorem Block.resyncEnd_quiet (b : Block) : (Block.resyncEnd b).quiet = b.quiet := by
  unfold Block.resyncEnd
  repeat' (first | with_reducible rfl | intro _ | split
                 | simp only [Block.until_quiet, Block.wr_quiet, Block.updCst_quiet])

/-! ### Machine/Access.lean -/

theorem Block.clearRc_quiet (fs : List Field) (b : Block) : (Block.clearRc fs b).quiet = b.quiet := by
  simp only [Block.clearRc, Block.quiet_ite, ite_self, implies_true, Block.wr_quiet, Block.eachOf_quiet]

theorem Block.readOne_quiet (a : Nat) (b c : Block) (w : Nat) (h : b.readOne a = some (w, c)) :
    c.quiet = b.quiet := by
  unfold Block.readOne at h
  dsimp only at h
  repeat' split at h
  all_goals simp only [Option.map_eq_some_iff, Option.some.injEq, Prod.mk.injEq, reduceCtorEq] at h
  · obtain ⟨_, _, _, rfl⟩ := h; rfl
  · obtain ⟨_, _, _, rfl⟩ := h; rfl
  · obtain ⟨_, rfl⟩ := h; rw [Block.clearRc_quiet, Block.refresh_quiet]

theorem Block.readAll_quiet (l : List Nat) (b c : Block) (ws : List Nat) (h : b.readAll l = some (ws, c)) :
    c.quiet = b.quiet := by
  induction l generalizing b ws with
  | nil => simp only [Block.readAll, Option.some.injEq, Prod.mk.injEq] at h; rw [h.2]
  | cons a r ih =>
    unfold Block.readAll at h
    split at h
    · cases h
    · rename_i hr
      simp only [Option.map_eq_some_iff, Prod.mk.injEq] at h
      obtain ⟨⟨ws', c'⟩, h1, _, rfl⟩ := h
      rw [ih _ _ h1, Block.readOne_quiet _ _ _ _ hr]

theorem Block.dirty_quiet (a : Nat) (b : Block) : (Block.dirty a b).quiet = b.quiet := by
  simp only [Block.dirty, Block.updCst_quiet, Block.wr_quiet]

theorem Block.writeMaq_quiet (fs : List Field) (v : Nat) (b : Block) :
    (Block.writeMaq fs v b).quiet = b.quiet := by
  unfold Block.writeMaq
  repeat' (first | with_reducible rfl | intro _ | split | simp only [Block.dirty_quiet, Block.updCst_quiet])

theorem Block.writeLive_quiet (fs : List Field) (v : Nat) (b : Block) :
    (Block.writeLive fs v b).quiet = b.quiet := by
  unfold Block.writeLive
  repeat' (first | with_reducible rfl | intro _ | split | simp only [Block.wr_quiet]
                 | refine (Block.each_quiet _ _ _ ?_).trans ?_
                 | refine (Block.eachOf_quiet _ _ _ ?_).trans ?_)

theorem Block.testControl_quiet (l : Nat) (v : Nat) (b : Block) :
    (Block.testControl l v b).quiet = b.quiet := by
  simp only [Block.testControl, Block.quiet_ite, ite_self, Block.testStart_quiet, Block.powerEngines_quiet,
      Block.updLane_quiet, Block.testStop_quiet]

theorem Block.handover_quiet (b : Block) : (Block.handover b).quiet = b.quiet := by
  simp only [Block.handover, Block.quiet_ite, ite_self, Block.updPair_quiet]

theorem Block.fallbackResume_quiet (b : Block) : (Block.fallbackResume b).quiet = b.quiet := by
  simp only [Block.fallbackResume, Block.updLv_quiet]

theorem Block.adcControl_quiet (held : Bool) (b : Block) : (Block.adcControl held b).quiet = b.quiet := by
  simp only [Block.adcControl, Block.quiet_ite, ite_self, Block.rotResume_quiet, Block.rotHolds_quiet]

theorem Block.writeAct_kept (a : Nat) (v : Nat) (held : Bool) (b : Block) :
    (Block.writeAct a v held b).quiet.2 = b.quiet.2 := by
  simp only [Block.writeAct, Block.kept_ite, ite_self, implies_true, Block.handover_quiet, Block.setInc_kept,
      Block.setAdj_kept, Block.setCtrl_kept, Block.stampPop_quiet, Block.testControl_quiet,
      Block.ledgerBegin_quiet, Block.forceLeg_quiet, Block.startDiag_quiet, Block.fallbackResume_quiet,
      Block.adcControl_quiet, Block.scanMaskWrite_quiet, Block.chanLoad_quiet, Block.chanStop_quiet,
      Block.dmaRestart_quiet, Block.eachOf_quiet]

theorem Block.writeOne_kept (a : Nat) (v : Nat) (fs : List Field) (b : Block) :
    (Block.writeOne a v fs b).quiet.2 = b.quiet.2 := by
  simp only [Block.writeOne, Block.kept_ite, ite_self, Block.writeAct_kept, Block.writeLive_quiet,
      Block.writeMaq_quiet]

theorem Block.writeAll_kept (l : List (Nat × Nat)) (b : Block) : (b.writeAll l).2.quiet.2 = b.quiet.2 := by
  induction l generalizing b with
  | nil => rfl
  | cons w r ih =>
    unfold Block.writeAll
    dsimp only
    split
    · rfl
    · rw [ih, Block.writeOne_kept]

theorem Block.writeCommand_kept (ws : List (Nat × Nat)) (reply : List Byte) (b : Block) :
    (b.writeCommand ws reply).1.quiet.2 = b.quiet.2 := by
  unfold Block.writeCommand
  repeat' split
  · rfl
  · rfl
  · rename_i h; rw [← Block.writeAll_kept ws b, h]
  · rfl

theorem Block.readCommand_quiet (a : Nat) (b : Block) : (b.readCommand a).1.quiet = b.quiet := by
  unfold Block.readCommand
  split
  · rfl
  · rename_i h; exact Block.readOne_quiet _ _ _ _ h

theorem Block.readBlock_quiet (a n : Nat) (b : Block) : (b.readBlock a n).1.quiet = b.quiet := by
  unfold Block.readBlock
  split
  · rfl
  · rename_i h; exact Block.readAll_quiet _ _ _ _ h

/-! ### Machine/Jarvas.lean -/

theorem Block.execute_kept (t : Bool) (f : Block → Block × Ans) (b : Block) (h : ∀ b, (f b).1.quiet.2 =
    b.quiet.2) : (b.execute t f).quiet.2 = b.quiet.2 := by
  unfold Block.execute
  split
  · rfl
  · have := h b
    split <;> simp_all only [Block.finish_quiet, Block.waitFor_quiet]

theorem Block.serve_kept (rq : Req) (op : Nat) (p t : Bool) (f : Block → Block × Ans) (b : Block) (h : ∀ b, (f
    b).1.quiet.2 = b.quiet.2) : (b.serve rq op p t f).quiet.2 = b.quiet.2 := by
  unfold Block.serve
  have ha := Block.accept_quiet rq op b
  repeat' split
  all_goals simp_all only [Block.refuse_quiet, Block.execute_kept, implies_true]

/-! ### Machine/Access.lean -/

theorem Block.serveWrite_kept (rq : Req) (a v : Nat) (b : Block) :
    (b.serveWrite rq a v).quiet.2 = b.quiet.2 := by
  simp only [Block.serveWrite, Block.serve_kept, Block.writeCommand_kept, implies_true]

theorem Block.serveRead_quiet (rq : Req) (a : Nat) (b : Block) :
    (Block.serveRead rq a b).quiet = b.quiet := by
  simp only [Block.serveRead, implies_true, Block.serve_quiet, Block.readCommand_quiet]

theorem Block.servePart_kept (rq : Req) (a : Nat) (f : Block → Nat) (b : Block) :
    (b.servePart rq a f).quiet.2 = b.quiet.2 := by
  simp only [Block.servePart, Block.serveWrite_kept]

/-! ### Machine/EventLog.lean -/

theorem Block.ringShow_quiet (b : Block) : (Block.ringShow b).quiet = b.quiet := by
  simp only [Block.ringShow, Block.wr_quiet]

theorem Block.stage_quiet (r : Rec) (b : Block) : (Block.stage r b).quiet = b.quiet := by
  simp only [Block.stage, Block.quiet_ite, ite_self, Block.updEvt_quiet, Block.flag_quiet, Block.count_quiet]

theorem Block.eventNumbering_quiet (b : Block) : (Block.eventNumbering b).quiet = b.quiet := by
  unfold Block.eventNumbering
  repeat' (first | with_reducible rfl | intro _ | split
                 | simp only [Block.untilUp_quiet, Block.updEvt_quiet, Block.bump_quiet, Block.ringShow_quiet,
                       Block.stage_quiet])

theorem Block.numberHeld_quiet (b : Block) : (Block.numberHeld b).quiet = b.quiet := by
  simp only [Block.numberHeld, implies_true, Block.eventNumbering_quiet, Block.each_quiet]

theorem Block.commitStaged_quiet (b : Block) : (Block.commitStaged b).quiet = b.quiet := by
  simp only [Block.commitStaged, implies_true, Block.homeErased_quiet, Block.ringShow_quiet,
      Block.updEvt_quiet, Block.eachOf_quiet]

theorem Block.eventCommit_quiet (b : Block) : (Block.eventCommit b).quiet = b.quiet := by
  simp only [Block.eventCommit, Block.quiet_ite, ite_self, Block.commitStaged_quiet, Block.fwEnd_quiet,
      Block.bulkShare_quiet, Block.fwBegin_quiet]

theorem Block.eventRead_quiet (first : Nat) (m : Nat) (b : Block) :
    (Block.eventRead first m b).1.quiet = b.quiet := by
  simp only [Block.eventRead, Block.quiet_ite, ite_self, Block.flashCheck_quiet]

theorem Block.eventAck_quiet (n : Nat) (b : Block) : (Block.eventAck n b).1.quiet = b.quiet := by
  simp only [Block.eventAck, Block.quiet_ite, ite_self, Block.wr_quiet, Block.ringShow_quiet]

theorem Block.inject_quiet (checker : Nat) (idx : Nat) (n : Nat) (b : Block) :
    (Block.inject checker idx n b).1.quiet = b.quiet := by
  unfold Block.inject
  repeat' (first | with_reducible rfl | intro _ | split | simp only [Block.wr_quiet])

/-! ### Machine/Recovery.lean -/

theorem Block.legReturn_quiet (l : Nat) (b : Block) : (Block.legReturn l b).quiet = b.quiet := by
  unfold Block.legReturn
  repeat' (first | with_reducible rfl | intro _ | split
                 | simp only [Block.startDiag_quiet, Block.legBack_quiet])

theorem Block.portReadmit_quiet (p : Nat) (b : Block) : (Block.portReadmit p b).quiet = b.quiet := by
  simp only [Block.portReadmit, Block.quiet_ite, ite_self, Block.onReadmitDone_quiet, Block.wr_quiet,
      Block.portState_quiet]

theorem Block.beginReturn_quiet (ut : Nat) (i : Nat) (k : Nat) (auto : Bool) (b : Block) :
    (Block.beginReturn ut i k auto b).quiet = b.quiet := by
  unfold Block.beginReturn
  repeat' (first | with_reducible rfl | intro _ | split
                 | simp only [Block.updRecov_quiet, Block.updCell_quiet, Block.legReturn_quiet,
                       Block.ctxReadmit_quiet])

theorem Block.lastingCause_quiet (k : Nat) (b : Block) : (Block.lastingCause k b).quiet = b.quiet := by
  simp only [Block.lastingCause, Block.quiet_ite, ite_self, Block.onRecurrence_quiet]

theorem Block.lastingCauses_quiet (b : Block) : (Block.lastingCauses b).quiet = b.quiet := by
  simp only [Block.lastingCauses, implies_true, Block.lastingCause_quiet, Block.eachOf_quiet]

theorem Block.autoReadmit_quiet (ut : Nat) (i : Nat) (k : Nat) (b : Block) :
    (Block.autoReadmit ut i k b).quiet = b.quiet := by
  simp only [Block.autoReadmit, Block.quiet_ite, ite_self, Block.untilUp_quiet, Block.onRecurrence_quiet,
      Block.beginReturn_quiet]

theorem Block.clearSource_quiet (k : Nat) (b : Block) : (Block.clearSource k b).1.quiet = b.quiet := by
  unfold Block.clearSource
  repeat' (first | with_reducible rfl | intro _ | split | simp only [Block.updEvt_quiet, Block.flag_quiet])

theorem Block.clearFault_quiet (ut : Nat) (i : Nat) (k : Nat) (b : Block) :
    (Block.clearFault ut i k b).quiet = b.quiet := by
  unfold Block.clearFault
  repeat' (first | with_reducible rfl | intro _ | split
                 | simp only [Block.quiet_ite, ite_self, Block.updCell_quiet, Block.updLv_quiet,
                       Block.setBit_quiet, Block.flag_quiet, Block.beginReturn_quiet])

theorem Block.clearUnit_quiet (say : Block → Block) (ut i : Nat) (b : Block) (h : ∀ b, (say b).quiet =
    b.quiet) : (Block.clearUnit say ut i b).1.quiet = b.quiet := by
  unfold Block.clearUnit
  repeat' (first | with_reducible rfl | split | simp only [Block.clearFault_quiet, h, Block.onFaultClear_quiet])

theorem Block.clearEach_quiet (l : List Nat) (f : Nat → Block → Block × Cleared) (bn : Block × Nat) (h : ∀ i
    b, (f i b).1.quiet = b.quiet) : (Block.clearEach l f bn).1.quiet = bn.1.quiet := by
  unfold Block.clearEach
  induction l generalizing bn with
  | nil => rfl
  | cons i r ih =>
    rw [List.foldl_cons, ih]
    have := h i bn.1
    split <;> simp_all only

theorem Block.clearMulti_quiet (bn : Block × Nat) : (Block.clearMulti bn).1.quiet = bn.1.quiet := by
  unfold Block.clearMulti
  split <;> simp only [Block.flag_quiet]

theorem Block.clearAll_quiet (b : Block) : b.clearAll.1.quiet = b.quiet := by
  simp only [Block.clearAll, Block.clearMulti_quiet, Block.clearEach_quiet, Block.clearUnit_quiet,
      Block.clearSource_quiet,
    id_eq, implies_true]

theorem Block.sayCleared_quiet (ut : Nat) (i : Nat) (b : Block) :
    (Block.sayCleared ut i b).quiet = b.quiet := by
  simp only [Block.sayCleared, Block.raise_quiet]

theorem Block.faultCleared_quiet (ut : Nat) (i : Nat) (n : Nat) (b : Block) :
    (Block.faultCleared ut i n b).1.quiet = b.quiet := by
  simp only [Block.faultCleared, Block.quiet_ite, ite_self, Block.updConv_quiet]

theorem Block.clearOne_quiet (ut i : Nat) (b : Block) :
    (if ut = 6 then b.clearSource i else b.clearUnit (Block.sayCleared ut i) ut i).1.quiet = b.quiet := by
  split
  · exact Block.clearSource_quiet _ _
  · exact Block.clearUnit_quiet _ _ _ _ (Block.sayCleared_quiet _ _)

theorem Block.faultClear_quiet (ut i : Nat) (b : Block) : (b.faultClear ut i).1.quiet = b.quiet := by
  unfold Block.faultClear
  by_cases h0 : ut = 0
  · have hp := Block.clearAll_quiet b
    rw [if_pos h0]
    generalize b.clearAll = p at hp ⊢
    obtain ⟨c, n⟩ := p
    simp only [Block.faultCleared_quiet, Block.sayCleared_quiet, hp]
  rw [if_neg h0]
  by_cases h1 : clearable ut ≤ i
  · rw [if_pos h1]
  rw [if_neg h1]
  have hl : (if ut = 1 then b.updLane i fun x => { x with clear := 4 } else b).quiet = b.quiet := by
    rw [Block.quiet_ite, Block.updLane_quiet, ite_self]
  have hc := Block.clearOne_quiet ut i (if ut = 1 then b.updLane i fun x => { x with clear := 4 } else b)
  dsimp only
  generalize (if ut = 6 then _ else _ : Block × Cleared) = p at hc ⊢
  obtain ⟨c, r⟩ := p
  cases r <;> simp only [Block.faultCleared_quiet, Block.quiet_ite, Block.sayCleared_quiet, ite_self] <;> rw
      [hc, hl]

/-! ### Machine/Reset.lean -/

theorem Block.stageShow_quiet (b : Block) : (Block.stageShow b).quiet = b.quiet := by
  simp only [Block.stageShow, implies_true, Block.flag_quiet, Block.wr_quiet, Block.each_quiet]

theorem Block.slotShow_quiet (k : Nat) (i : Option Img) (valid : Bool) (b : Block) :
    (Block.slotShow k i valid b).quiet = b.quiet := by
  simp only [Block.slotShow, Block.wr_quiet, Block.flag_quiet]

theorem Block.dropStages_quiet (b : Block) : (Block.dropStages b).quiet = b.quiet := by
  simp only [Block.dropStages, Block.quiet_ite, ite_self, Block.stageShow_quiet, Block.updBoot_quiet,
      Block.slotShow_quiet]

theorem Block.dropInjections_quiet (b : Block) : (Block.dropInjections b).quiet = b.quiet := by
  simp only [Block.dropInjections, implies_true, Block.wr_quiet, Block.each_quiet]

theorem Block.headExecuted_quiet (b : Block) : (Block.headExecuted b).quiet = b.quiet := by
  unfold Block.headExecuted
  repeat' (first | with_reducible rfl | intro _ | split | simp only [Block.flag_quiet, Block.wr_quiet])

theorem Block.dropRequest_quiet (b : Block) : (Block.dropRequest b).quiet = b.quiet := by
  unfold Block.dropRequest
  repeat' (first | with_reducible rfl | intro _ | split
                 | simp only [Block.headExecuted_quiet, Block.updConv_quiet, Block.updCell_quiet])

theorem Block.dropCommands_quiet (b : Block) : (Block.dropCommands b).quiet = b.quiet := by
  unfold Block.dropCommands
  repeat' (first | with_reducible rfl | intro _ | split
                 | simp only [Block.wr_quiet, Block.updJv_quiet, Block.dropRequest_quiet])

theorem Block.resetDue_quiet (cause : Nat) (b : Block) : (Block.resetDue cause b).quiet = b.quiet := by
  simp only [Block.resetDue, Block.updBoot_quiet]

theorem Block.errorReset_quiet (cause : Nat) (b : Block) : (Block.errorReset cause b).quiet = b.quiet := by
  simp only [Block.errorReset, Block.resetDue_quiet, Block.errorLatch_quiet]

theorem Block.coreReset_quiet (bit : Nat) (b : Block) : (Block.coreReset bit b).quiet = b.quiet := by
  simp only [Block.coreReset, Block.quiet_ite, ite_self, implies_true, Block.flag_quiet,
      Block.dropInjections_quiet, Block.dropCommands_quiet, Block.updBoot_quiet, Block.fwEnd_quiet,
      Block.updCells_quiet, Block.dropStages_quiet, Block.count_quiet, Block.wr_quiet, Block.errorReset_quiet,
      Block.each_quiet]

theorem Block.resetPrep_quiet (graceful : Bool) (b : Block) :
    (Block.resetPrep graceful b).quiet = b.quiet := by
  simp only [Block.resetPrep, Block.quiet_ite, ite_self, Block.sendBlocks_quiet, Block.advance_quiet,
      Block.blockStage_quiet, Block.ledgerCommitted_quiet, Block.commitStaged_quiet, Block.numberHeld_quiet]

theorem Block.restartDomains_kept (l : Level) (next : Nat) (b : Block) :
    (b.restartDomains l next).quiet.2 = b.quiet.2 := by
  simp only [Block.restartDomains, Block.powerChannels_quiet, Block.wr_quiet, Block.setBit_quiet,
      Block.flag_quiet,
    Block.kept_ite, Block.ringShow_quiet, ite_self]
  show b.dropStages.quiet.2 = b.quiet.2
  rw [Block.dropStages_quiet]

theorem Block.recordCause_quiet (cause : Nat) (b : Block) : (Block.recordCause cause b).quiet = b.quiet := by
  simp only [Block.recordCause, implies_true, Block.flag_quiet, Block.count_quiet, Block.eachOf_quiet]

theorem Block.systemReset_kept (cause : Nat) (b : Block) :
    (Block.systemReset cause b).quiet.2 = b.quiet.2 := by
  simp only [Block.systemReset, Block.safeSystemReset_quiet, Block.resetPrep_quiet, Block.recordCause_quiet,
      Block.restartDomains_kept]

theorem Block.resetTakes_kept (b : Block) : (Block.resetTakes b).quiet.2 = b.quiet.2 := by
  unfold Block.resetTakes
  repeat' (first | with_reducible rfl | intro _ | split | simp only [Block.systemReset_kept])

theorem Block.powerOnReset_kept (b : Block) : b.powerOnReset.quiet.2 = b.quiet.2 := by
  simp only [Block.powerOnReset, Block.flag_quiet, Block.ringShow_quiet, Block.wr_quiet, Block.quiet_keep,
    Block.ledgerBack_quiet]
  show b.dropStages.quiet.2 = b.quiet.2
  rw [Block.dropStages_quiet]

theorem Block.brownout_quiet (b : Block) : (Block.brownout b).quiet = b.quiet := by
  simp only [Block.brownout, Block.quiet_ite, ite_self, Block.errorReset_quiet]

theorem Block.resetPin_quiet (b : Block) : (Block.resetPin b).quiet = b.quiet := by
  simp only [Block.resetPin, Block.quiet_ite, ite_self, Block.resetDue_quiet]

theorem Block.watchdogExpiry_quiet (b : Block) : (Block.watchdogExpiry b).quiet = b.quiet := by
  simp only [Block.watchdogExpiry, Block.quiet_ite, ite_self, Block.raise_quiet, Block.errorReset_quiet,
      Block.coreReset_quiet, Block.updBoot_quiet]

theorem Block.lockstepMismatch_quiet (b : Block) : (Block.lockstepMismatch b).quiet = b.quiet := by
  simp only [Block.lockstepMismatch, Block.quiet_ite, ite_self, Block.coreReset_quiet, Block.raise_quiet]

theorem Block.strokeWatchExpiry_quiet (b : Block) : (Block.strokeWatchExpiry b).quiet = b.quiet := by
  simp only [Block.strokeWatchExpiry, Block.quiet_ite, ite_self, Block.errorReset_quiet, Block.untilUp_quiet]

theorem Block.startTimeout_quiet (b : Block) : (Block.startTimeout b).quiet = b.quiet := by
  simp only [Block.startTimeout, Block.quiet_ite, ite_self, Block.errorReset_quiet, Block.untilUp_quiet]

theorem Block.sramUncorr_quiet (r : SramRegion) (addr : Nat) (inj : Bool) (b : Block) :
    (Block.sramUncorr r addr inj b).quiet = b.quiet := by
  simp only [Block.sramUncorr, Block.quiet_ite, ite_self, Block.raise_quiet, Block.errorReset_quiet,
      Block.coreReset_quiet, Block.maqReset_quiet, Block.disarm_quiet]

theorem Block.regParity_quiet (addr : Nat) (b : Block) : (Block.regParity addr b).quiet = b.quiet := by
  simp only [Block.regParity, Block.quiet_ite, ite_self, Block.raise_quiet, Block.checked_quiet,
      Block.errorReset_quiet]

/-! ### Machine/Images.lean -/

theorem Block.showDigest_quiet (f : Nat → Field) (d : Nat) (b : Block) :
    (Block.showDigest f d b).quiet = b.quiet := by
  simp only [Block.showDigest, implies_true, Block.wr_quiet, Block.each_quiet]

theorem Block.setStaged_quiet (t : ImgType) (i : Option Img) (b : Block) :
    (Block.setStaged t i b).quiet = b.quiet := by
  simp only [Block.setStaged, Block.stageShow_quiet, Block.updBoot_quiet]

theorem Block.imageWriteTimeout_quiet (t : ImgType) (b : Block) :
    (Block.imageWriteTimeout t b).quiet = b.quiet := by
  simp only [Block.imageWriteTimeout, Block.quiet_ite, ite_self, Block.finish_quiet, Block.fwEnd_quiet,
      Block.setStaged_quiet]

theorem Block.imageVerify_quiet (type : Nat) (b : Block) : (Block.imageVerify type b).1.quiet = b.quiet := by
  unfold Block.imageVerify
  repeat' (first | with_reducible rfl | intro _ | split | simp only [Block.fwBegin_quiet])

theorem Block.verifyRead_quiet (b : Block) : (Block.verifyRead b).quiet = b.quiet := by
  simp only [Block.verifyRead, Block.flashReads_quiet]

theorem Block.imageVerifyDone_quiet (t : ImgType) (b : Block) :
    (Block.imageVerifyDone t b).quiet = b.quiet := by
  unfold Block.imageVerifyDone
  repeat' (first | with_reducible rfl | intro _ | split
                 | simp only [Block.verifyRead_quiet, Block.bulkShare_quiet, Block.fwEnd_quiet,
                       Block.setStaged_quiet, Block.finish_quiet, Block.slotShow_quiet])

theorem Block.replaceMaq_quiet (ws : List (Nat × Nat)) (b : Block) :
    (Block.replaceMaq ws b).quiet = b.quiet := by
  simp only [Block.replaceMaq, Block.wr_quiet, Block.updCst_quiet]

theorem Block.attest_quiet (nonce : List Byte) (b : Block) : (Block.attest nonce b).1.quiet = b.quiet := by
  simp only [Block.attest]

/-! ### Machine/Boot.lean -/

theorem Block.enterPlinth_quiet (why : Nat) (b : Block) : (Block.enterPlinth why b).quiet = b.quiet := by
  simp only [Block.enterPlinth, Block.quiet_ite, ite_self, Block.flag_quiet, Block.updBoot_quiet,
      Block.adcPowerUp_quiet]

theorem Block.loadFields_quiet (ws : List (Nat × Nat)) (b : Block) :
    (Block.loadFields ws b).quiet = b.quiet := by
  simp only [Block.loadFields, implies_true, Block.wr_quiet, Block.eachOf_quiet]

theorem Block.copyBands_quiet (b : Block) : (Block.copyBands b).quiet = b.quiet := by
  simp only [Block.copyBands, Block.quiet_keep, implies_true, Block.wr_quiet, Block.each_quiet,
      Block.eachOf_quiet]

theorem Block.burn_quiet (k : Nat) (f : Block → Block) (b : Block) (h : ∀ b, (f b).quiet = b.quiet) :
    (b.burn k f).quiet = b.quiet := by
  simp only [Block.burn, Block.quiet_ite, h, Block.setBit_quiet, Block.drawn_quiet, ite_self]

theorem Block.keyOps_quiet (ws : List (Nat × Nat)) (b : Block) : (Block.keyOps ws b).quiet = b.quiet := by
  simp only [Block.keyOps, Block.quiet_ite, ite_self, implies_true, Block.burn_quiet, Block.showDigest_quiet,
      Block.setBit_quiet, Block.each_quiet]

theorem Block.loadOptions_quiet (i : Img) (b : Block) : (Block.loadOptions i b).quiet = b.quiet := by
  simp only [Block.loadOptions, Block.showDigest_quiet, Block.loadFields_quiet, Block.keyOps_quiet,
      Block.updBoot_quiet, Block.adcPowerUp_quiet, Block.powerChannels_quiet]

theorem Block.runSlot_quiet (slot : Nat) (i : Img) (b : Block) :
    (Block.runSlot slot i b).quiet = b.quiet := by
  simp only [Block.runSlot, Block.flag_quiet, Block.wr_quiet, Block.updBoot_quiet, Block.showDigest_quiet]

theorem Block.pickFirmware_quiet (c : Nat) (b : Block) : (Block.pickFirmware c b).quiet = b.quiet := by
  unfold Block.pickFirmware
  repeat' (first | with_reducible rfl | intro _ | split
                 | simp only [Block.flag_quiet, Block.runSlot_quiet, Block.enterPlinth_quiet])

theorem Block.loader_quiet (b : Block) : (Block.loader b).quiet = b.quiet := by
  unfold Block.loader
  repeat' (first | with_reducible rfl | intro _ | split
                 | simp only [Block.quiet_ite, Block.enterPlinth_quiet, Block.wr_quiet,
                       Block.pickFirmware_quiet, Block.loadOptions_quiet, Block.flag_quiet])

theorem Block.coresStart_quiet (b : Block) : (Block.coresStart b).quiet = b.quiet := by
  simp only [Block.coresStart, Block.quiet_ite, ite_self, Block.note_quiet, Block.updEvt_quiet,
      Block.copyBands_quiet]

theorem Block.domainStarts_quiet (d : Nat) (b : Block) : (Block.domainStarts d b).quiet = b.quiet := by
  unfold Block.domainStarts
  repeat' (first | with_reducible rfl | intro _ | split
                 | simp only [Block.loader_quiet, Block.updBoot_quiet, Block.updTb_quiet,
                       Block.coresStart_quiet, Block.autoWatch_quiet, Block.powerChannels_quiet])

theorem Block.uptimeStarts_quiet (b : Block) : b.uptimeStarts.quiet = b.quiet := by
  simp only [Block.uptimeStarts, Block.updSafe_quiet, Block.quiet_tb]

theorem Block.domainRelease_quiet (d : Nat) (b : Block) : (Block.domainRelease d b).quiet = b.quiet := by
  simp only [Block.domainRelease, Block.quiet_ite, ite_self, Block.uptimeStarts_quiet, Block.untilUp_quiet,
      Block.updBoot_quiet, Block.setBit_quiet, Block.raise_quiet, Block.domainStarts_quiet, Block.wr_quiet]

theorem Block.debugOverride_quiet (mask : Nat) (b : Block) :
    (Block.debugOverride mask b).quiet = b.quiet := by
  simp only [Block.debugOverride, Block.quiet_ite, ite_self, implies_true, Block.flag_quiet,
      Block.setBit_quiet, Block.eachOf_quiet]

theorem Block.startMaq_quiet (b : Block) : (Block.startMaq b).1.quiet = b.quiet := by
  unfold Block.startMaq
  repeat' (first | with_reducible rfl | intro _ | split
                 | simp only [Block.updCst_quiet, Block.castErr_quiet, Block.showDigest_quiet,
                       Block.updBoot_quiet])

theorem Block.startConfigLoad_quiet (b : Block) : (Block.startConfigLoad b).quiet = b.quiet := by
  simp only [Block.startConfigLoad, Block.quiet_ite, ite_self, Block.startMaq_quiet, Block.updBoot_quiet,
      Block.flag_quiet, Block.timeStarts_quiet, Block.updCst_quiet, Block.exchange_quiet, Block.updPair_quiet,
      Block.pairBegin_quiet]

theorem Block.configStarts_quiet (b : Block) : (Block.configStarts b).quiet = b.quiet := by
  simp only [Block.configStarts, Block.quiet_ite, ite_self, Block.updBoot_quiet, Block.wr64_quiet,
      Block.bump_quiet, Block.updStrk_quiet, Block.updCst_quiet, Block.tripsJudge_quiet,
      Block.fallbackAgain_quiet, Block.timeCast_quiet, Block.powerChannels_quiet, Block.campusPhase_quiet,
      Block.probeAll_quiet]

theorem Block.startComplete_quiet (b : Block) : (Block.startComplete b).quiet = b.quiet := by
  simp only [Block.startComplete, Block.quiet_ite, ite_self, Block.flag_quiet, Block.wr_quiet,
      Block.untilUp_quiet, Block.note_quiet]

theorem Block.raiseAgain_quiet (b : Block) : (Block.raiseAgain b).quiet = b.quiet := by
  simp only [Block.raiseAgain, Block.quiet_ite, ite_self, implies_true, Block.raise_quiet, Block.each_quiet,
      Block.eachOf_quiet]

theorem Block.coreRestart_quiet (b : Block) : (Block.coreRestart b).quiet = b.quiet := by
  simp only [Block.coreRestart, Block.quiet_ite, ite_self, Block.flag_quiet, Block.updBoot_quiet,
      Block.raiseAgain_quiet, Block.note_quiet, Block.timeRestart_quiet]

/-! ### Machine/Thermal.lean -/

theorem Block.sensorFail_quiet (k : Nat) (code : Nat) (b : Block) :
    (Block.sensorFail k code b).quiet = b.quiet := by
  simp only [Block.sensorFail, Block.raise_quiet, Block.count_quiet]

theorem Block.sensorRead_quiet (k : Nat) (r : SensorReading) (b : Block) :
    (Block.sensorRead k r b).quiet = b.quiet := by
  simp only [Block.sensorRead, Block.quiet_ite, ite_self, Block.flag_quiet, Block.wrS_quiet,
      Block.sensorFail_quiet]

theorem Block.spotLevel_quiet (h : Nat) (f : Field) (th : Int) (source : Nat) (b : Block) :
    (Block.spotLevel h f th source b).quiet = b.quiet := by
  simp only [Block.spotLevel, Block.quiet_ite, ite_self, Block.flag_quiet, Block.raise_quiet]

theorem Block.spotRead_quiet (h : Nat) (b : Block) : (Block.spotRead h b).quiet = b.quiet := by
  simp only [Block.spotRead, Block.quiet_ite, ite_self, Block.wrS_quiet, Block.spotLevel_quiet,
      Block.raise_quiet, Block.flag_quiet]

theorem Block.thermalShow_quiet (b : Block) : (Block.thermalShow b).quiet = b.quiet := by
  simp only [Block.thermalShow, Block.flag_quiet, Block.wrS_quiet, Block.wr_quiet]

theorem Block.thermalRead_quiet (rs : List SensorReading) (b : Block) :
    (Block.thermalRead rs b).quiet = b.quiet := by
  simp only [Block.thermalRead, implies_true, Block.sensorRead_quiet, Block.thermalShow_quiet,
      Block.spotRead_quiet, Block.each_quiet, Block.eachOf_quiet]

theorem Block.sensorDisagree_quiet (h : Nat) (on : Bool) (b : Block) :
    (Block.sensorDisagree h on b).quiet = b.quiet := by
  simp only [Block.sensorDisagree, Block.quiet_ite, ite_self, Block.flag_quiet, Block.sensorFail_quiet]

theorem Block.derateShow_quiet (b : Block) : (Block.derateShow b).quiet = b.quiet := by
  simp only [Block.derateShow, Block.wrS_quiet]

/-! ### Machine/Power.lean -/

theorem Block.exitShow_quiet (from_ : Nat) (b : Block) : (Block.exitShow from_ b).quiet = b.quiet := by
  simp only [Block.exitShow, Block.wr_quiet]

theorem Block.lightMove_quiet (want : Nat) (b : Block) : (Block.lightMove want b).quiet = b.quiet := by
  simp only [Block.lightMove, Block.quiet_ite, ite_self, Block.wr_quiet, Block.exitShow_quiet]

theorem Block.wakeUnits_quiet (b : Block) : (Block.wakeUnits b).quiet = b.quiet := by
  simp only [Block.wakeUnits, Block.quiet_keep, implies_true, Block.updAdc_quiet, Block.wr_quiet,
      Block.updLv_quiet, Block.updCells_quiet, Block.updRecov_quiet, Block.adcWake_quiet,
      Block.probeAll_quiet, Block.each_quiet]

theorem Block.exitBegins_quiet (b : Block) : (Block.exitBegins b).quiet = b.quiet := by
  simp only [Block.exitBegins, Block.quiet_ite, ite_self, Block.lanesWake_quiet, Block.judgeLanes_quiet,
      Block.wakeUnits_quiet]

theorem Block.exitEnds_quiet (b : Block) : (Block.exitEnds b).quiet = b.quiet := by
  simp only [Block.exitEnds, Block.quiet_ite, ite_self, Block.wr_quiet, Block.exitShow_quiet,
      Block.powerChannels_quiet]

theorem Block.enterP4_kept (b : Block) : (Block.enterP4 b).quiet.2 = b.quiet.2 := by
  simp only [Block.enterP4, Block.ledgerCommitted_quiet, Block.commitStaged_quiet, Block.numberHeld_quiet,
      Block.advance_quiet, Block.updAdc_quiet, Block.restartDomains_kept, Block.wr_quiet, Block.updSafe_quiet]

theorem Block.enterLow_kept (st : Nat) (b : Block) : (Block.enterLow st b).quiet.2 = b.quiet.2 := by
  simp only [Block.enterLow, Block.kept_ite, ite_self, Block.lanesQuiet_quiet, Block.wr_quiet,
      Block.flag_quiet, Block.dmaStop_quiet, Block.powerChannels_quiet, Block.adcPowerDown_quiet,
      Block.judgeLanes_quiet, Block.enterP4_kept]

theorem Block.moveEnds_quiet (st : Nat) (b : Block) : (Block.moveEnds st b).quiet = b.quiet := by
  simp only [Block.moveEnds, Block.finishIf_quiet, Block.flag_quiet, Block.updPow_quiet]

theorem Block.moveBegins_quiet (want : Nat) (b : Block) : (Block.moveBegins want b).quiet = b.quiet := by
  simp only [Block.moveBegins, Block.flag_quiet, Block.updPow_quiet, Block.exitBegins_quiet]

theorem Block.judgePower_quiet (b : Block) : (Block.judgePower b).quiet = b.quiet := by
  simp only [Block.judgePower, Block.quiet_ite, ite_self, Block.lightMove_quiet, Block.moveBegins_quiet]

theorem Block.moveDone_kept (b : Block) : (Block.moveDone b).quiet.2 = b.quiet.2 := by
  unfold Block.moveDone
  repeat' (first | with_reducible rfl | intro _ | split
                 | simp only [Block.exitEnds_quiet, Block.moveEnds_quiet, Block.enterLow_kept])

theorem Block.latencyTol_quiet (tol : Nat) (b : Block) : (Block.latencyTol tol b).1.quiet = b.quiet := by
  unfold Block.latencyTol
  repeat' (first | with_reducible rfl | intro _ | split | simp only [Block.judgePower_quiet, Block.wr_quiet])

theorem Block.wakeN_quiet (b : Block) : (Block.wakeN b).quiet = b.quiet := by
  simp only [Block.wakeN, Block.quiet_ite, ite_self, Block.recordCause_quiet, Block.updPow_quiet,
      Block.wr_quiet]

theorem Block.wakeJudge_quiet (b : Block) : (Block.wakeJudge b).quiet = b.quiet := by
  simp only [Block.wakeJudge, Block.quiet_ite, ite_self, Block.updPow_quiet, Block.exitShow_quiet]

theorem Block.sagTo_quiet (level : Nat) (b : Block) : (Block.sagTo level b).quiet = b.quiet := by
  simp only [Block.sagTo, Block.wr_quiet, Block.raise_quiet]

theorem Block.supplySag_quiet (b : Block) : (Block.supplySag b).quiet = b.quiet := by
  simp only [Block.supplySag, Block.quiet_ite, ite_self, Block.updPow_quiet, Block.sagTo_quiet,
      Block.count_quiet]

theorem Block.sagLevel2_quiet (b : Block) : (Block.sagLevel2 b).quiet = b.quiet := by
  simp only [Block.sagLevel2, Block.quiet_ite, ite_self, Block.sagTo_quiet, Block.count_quiet,
      Block.untilUp_quiet]

theorem Block.sagRecover_quiet (b : Block) : (Block.sagRecover b).quiet = b.quiet := by
  simp only [Block.sagRecover, Block.quiet_ite, ite_self, Block.sagTo_quiet]

/-! ### Machine/Commands.lean -/

theorem Block.outOfBand_quiet (rq : Req) (op : Nat) (f : Block → Block × List Byte) (b : Block) (h : ∀ b, (f
    b).1.quiet = b.quiet) : (b.outOfBand rq op f).quiet = b.quiet := by
  simp only [Block.outOfBand, Block.quiet_ite, Block.send_quiet, h, Block.refuse_quiet, ite_self]

theorem Block.queryLast_quiet (b : Block) : (Block.queryLast b).1.quiet = b.quiet := by
  simp only [Block.queryLast]

theorem Block.safeStop_quiet (b : Block) : (Block.safeStop b).1.quiet = b.quiet := by
  simp only [Block.safeStop, Block.demandSF1_quiet, Block.raise_quiet]

theorem Block.startCommand_quiet (b : Block) : (Block.startCommand b).1.quiet = b.quiet := by
  unfold Block.startCommand
  repeat' (first | with_reducible rfl | intro _ | split | simp only [Block.wr_quiet, Block.updConv_quiet])

theorem Block.stopCommand_quiet (b : Block) : (Block.stopCommand b).1.quiet = b.quiet := by
  unfold Block.stopCommand
  repeat' (first | with_reducible rfl | intro _ | split | simp only [Block.updConv_quiet])

theorem Block.fenceCommand_quiet (s : Nat) (b : Block) : (Block.fenceCommand s b).1.quiet = b.quiet := by
  unfold Block.fenceCommand
  repeat' (first | with_reducible rfl | intro _ | split
                 | simp only [Block.fenceSlot_quiet, Block.endProbeTest_quiet, Block.updCell_quiet])

theorem Block.reseatCommand_quiet (s : Nat) (b : Block) : (Block.reseatCommand s b).1.quiet = b.quiet := by
  unfold Block.reseatCommand
  repeat' (first | with_reducible rfl | intro _ | split | simp only [Block.updRecov_quiet, Block.updCell_quiet])

theorem Block.imageRead_quiet (off : Nat) (len : Nat) (b : Block) :
    (Block.imageRead off len b).1.quiet = b.quiet := by
  unfold Block.imageRead
  repeat' (first | with_reducible rfl | intro _ | split)

theorem Block.resetCommand_quiet (level : Nat) (key : Nat) (b : Block) :
    (Block.resetCommand level key b).1.quiet = b.quiet := by
  unfold Block.resetCommand
  repeat' (first | with_reducible rfl | intro _ | split | simp only [Block.updBoot_quiet, Block.resetDue_quiet])

theorem Block.plinthExit_quiet (key : Nat) (b : Block) : (Block.plinthExit key b).1.quiet = b.quiet := by
  unfold Block.plinthExit
  repeat' (first | with_reducible rfl | intro _ | split | simp only [Block.resetDue_quiet, Block.wr_quiet])

theorem Block.coreTakes_quiet (b : Block) : (Block.coreTakes b).quiet = b.quiet := by
  simp only [Block.coreTakes, Block.quiet_ite, ite_self, Block.coreReset_quiet, Block.updBoot_quiet]

theorem Block.takePacket_quiet (src : Src) (bytes : List Byte) (b : Block) :
    (Block.takePacket src bytes b).quiet = b.quiet := by
  simp only [Block.takePacket, Block.quiet_ite, ite_self, implies_true, Block.refuse_quiet,
      Block.outOfBand_quiet, Block.queryLast_quiet, Block.safeStop_quiet, Block.accept_quiet]

theorem Block.packetRx_quiet (p : RxPacket) (b : Block) : (Block.packetRx p b).quiet = b.quiet := by
  simp only [Block.packetRx, Block.quiet_ite, ite_self, Block.checked_quiet, Block.count_quiet,
      Block.takePacket_quiet]

theorem Block.arpRequest_quiet (port : Stn) (target : BitVec 32) (senderIp : BitVec 32) (senderMac : Mac) (b :
    Block) : (Block.arpRequest port target senderIp senderMac b).quiet = b.quiet := by
  simp only [Block.arpRequest, Block.quiet_ite, ite_self, Block.emit_quiet]

/-! ### Machine/Stroke.lean -/

theorem Block.stepTakes_quiet (b : Block) : (Block.stepTakes b).quiet = b.quiet := by
  unfold Block.stepTakes
  repeat' (first | with_reducible rfl | intro _ | split | simp only [Block.stepApply_quiet])

theorem Block.watchTick_quiet (t : Nat) (was : Nat) (moved : Bool) (b : Block) :
    (Block.watchTick t was moved b).quiet = b.quiet := by
  simp only [Block.watchTick, Block.updStrk_quiet]

theorem Block.settleDecisions_quiet (b : Block) : (Block.settleDecisions b).quiet = b.quiet := by
  simp only [Block.settleDecisions, Block.quiet_ite, ite_self, Block.gateRemoval_quiet,
      Block.blockDecision_quiet]

theorem Block.strokeBegins_quiet (b : Block) : (Block.strokeBegins b).quiet = b.quiet := by
  simp only [Block.strokeBegins, Block.stepTakes_quiet, Block.pairBoundary_quiet, Block.updStrk_quiet]

theorem Block.strokeConfig_quiet (b : Block) : (Block.strokeConfig b).quiet = b.quiet := by
  simp only [Block.strokeConfig, Block.quiet_ite, ite_self, Block.configStarts_quiet,
      Block.castAtBoundary_quiet, Block.updStrk_quiet]

theorem Block.strokePorts_quiet (faulted : Bool) (b : Block) :
    (Block.strokePorts faulted b).quiet = b.quiet := by
  simp only [Block.strokePorts, Block.quiet_ite, ite_self, implies_true, Block.settleLeg_quiet,
      Block.portCloseJudge_quiet, Block.portReadmit_quiet, Block.portOverload_quiet, Block.portBoundary_quiet,
      Block.portRefStep_quiet, Block.portMeasure_quiet, Block.each_quiet, Block.eachOf_quiet]

theorem Block.strokeRipples_quiet (t : Int) (b : Block) : (Block.strokeRipples t b).quiet = b.quiet := by
  simp only [Block.strokeRipples, Block.quiet_ite, ite_self, implies_true, Block.portRipple_quiet,
      Block.each_quiet]

theorem Block.strokeEngines_quiet (prev : Option Int) (b : Block) :
    (Block.strokeEngines prev b).quiet = b.quiet := by
  simp only [Block.strokeEngines, implies_true, Block.derateShow_quiet, Block.safeBoundary_quiet,
      Block.adcBoundary_quiet, Block.latchInputs_quiet, Block.owJudge_quiet, Block.strokeRipples_quiet,
      Block.judgePower_quiet, Block.convBoundary_quiet, Block.strokePorts_quiet, Block.tripsJudge_quiet,
      Block.fallbackBoundary_quiet, Block.legAgain_quiet, Block.legStroke_quiet, Block.standbyAgain_quiet,
      Block.armShortfall_quiet, Block.serviceBoundary_quiet, Block.wakeJudge_quiet, Block.lastingCauses_quiet,
      Block.ctxBoundary_quiet, Block.judgeLanes_quiet, Block.lanesBoundary_quiet, Block.each_quiet]

theorem Block.strokeAnswers_quiet (b : Block) : (Block.strokeAnswers b).quiet = b.quiet := by
  unfold Block.strokeAnswers
  repeat' (first | with_reducible rfl | intro _ | split
                 | simp only [Block.quiet_ite, ite_self, Block.finish_quiet, Block.wr_quiet])

theorem Block.strokeTick_kept (b : Block) : (Block.strokeTick b).quiet.2 = b.quiet.2 := by
  simp only [Block.strokeTick, Block.kept_ite, ite_self, Block.resetTakes_kept, Block.until_quiet,
      Block.settleDecisions_quiet, Block.strokeConfig_quiet, Block.strokeBegins_quiet, Block.watchTick_quiet,
      Block.strokeAnswers_quiet, Block.strokeEngines_quiet]

theorem Block.showReport_quiet (l : Nat) (r : Report) (b : Block) :
    (Block.showReport l r b).quiet = b.quiet := by
  simp only [Block.showReport, Block.wr_quiet, Block.wrS_quiet]

theorem Block.reportMissing_quiet (l : Nat) (b : Block) : (Block.reportMissing l b).quiet = b.quiet := by
  simp only [Block.reportMissing, Block.quiet_ite, ite_self, Block.wr_quiet, Block.count_quiet,
      Block.flag_quiet, Block.laneDown_quiet]

theorem Block.laneReport_quiet (l : Nat) (b : Block) : (Block.laneReport l b).quiet = b.quiet := by
  unfold Block.laneReport
  repeat' (first | with_reducible rfl | intro _ | split
                 | simp only [Block.updLane_quiet, Block.wr_quiet, Block.showReport_quiet,
                       Block.reportMissing_quiet])

theorem Block.reportWindowClose_quiet (b : Block) : (Block.reportWindowClose b).quiet = b.quiet := by
  simp only [Block.reportWindowClose, Block.quiet_ite, ite_self, implies_true, Block.until_quiet,
      Block.flag_quiet, Block.wr_quiet, Block.pairWindow_quiet, Block.laneReport_quiet,
      Block.ledgerStroke_quiet, Block.cellReport_quiet, Block.gather_quiet, Block.armature_quiet,
      Block.updStrk_quiet, Block.syncCount_quiet, Block.each_quiet]

theorem Block.imageFreeze_quiet (b : Block) : (Block.imageFreeze b).quiet = b.quiet := by
  simp only [Block.imageFreeze, Block.quiet_ite, Block.quiet_keep, ite_self, implies_true,
      Block.testShow_quiet, Block.cutStreams_quiet, Block.until_quiet, Block.showImage_quiet,
      Block.settleLeg_quiet, Block.testErrors_quiet, Block.updStrk_quiet, Block.pairSend_quiet,
      Block.hostFreeze_quiet, Block.dueStreams_quiet, Block.each_quiet]

/-! ### Machine/Background.lean -/

theorem Block.scrubRead_quiet (r : SramRegion) (addr : Nat) (b : Block) :
    (Block.scrubRead r addr b).quiet = b.quiet := by
  simp only [Block.scrubRead, Block.quiet_ite, ite_self, Block.sramUncorr_quiet, Block.checked_quiet]

theorem Block.scrubPass_quiet (corrected : Nat) (reads : List (SramRegion × Word)) (b : Block) :
    (Block.scrubPass corrected reads b).quiet = b.quiet := by
  simp only [Block.scrubPass, Block.quiet_ite, ite_self, implies_true, Block.untilUp_quiet, Block.wr_quiet,
      Block.bump_quiet, Block.updDma_quiet, Block.raise_quiet, Block.count_quiet, Block.scrubRead_quiet,
      Block.each_quiet, Block.eachOf_quiet]

theorem Block.eyeAdvance_quiet (l : Nat) (b : Block) : (Block.eyeAdvance l b).quiet = b.quiet := by
  simp only [Block.eyeAdvance, Block.quiet_ite, ite_self, Block.updDma_quiet, Block.wr_quiet]

theorem Block.eyeScan_quiet (l : Nat) (height : Nat) (width : Nat) (b : Block) :
    (Block.eyeScan l height width b).quiet = b.quiet := by
  simp only [Block.eyeScan, Block.quiet_ite, ite_self, Block.untilUp_quiet, Block.wr_quiet, Block.raise_quiet,
      Block.eyeAdvance_quiet]

theorem Block.wearMove_quiet (corrected : Nat) (b : Block) : (Block.wearMove corrected b).quiet = b.quiet := by
  unfold Block.wearMove
  repeat' (first | with_reducible rfl | intro _ | split
                 | simp only [Block.quiet_ite, ite_self, Block.untilUp_quiet, Block.fwBegin_quiet,
                       Block.updDma_quiet, Block.flashCheck_quiet, Block.flashReads_quiet, Block.fwEnd_quiet,
                       Block.count_quiet, Block.blockMoves_quiet, Block.bulkShare_quiet])

theorem Block.cageDown_quiet (c : Cage) (b : Block) : (Block.cageDown c b).quiet = b.quiet := by
  unfold Block.cageDown
  repeat' (first | with_reducible rfl | intro _ | split | simp only [Block.stationLinkChange_quiet])

end Sys2Proof.Machine
end

