-- ==== Sys2Proof/WellFormed.lean ====
section
/-! DEFINITION. Which commands are well formed: the lists a command carries have the lengths that its sender can give
    them.  Every other operand has a type that holds no ill-formed value. -/

namespace Sys2Proof

/-- The lengths of a command's lists: a PING payload (R60), the words of a REG_WRITE_BLOCK (R72), the ranges of a stream
    (R75), the data of an IMAGE_WRITE (R86), the nonce of an ATTEST (R88), the four ranges of a converter's calibration
    (R295), the stuck contacts of a test pulse, each named once (R370), and the readings of the twenty sensors (R382). -/
def Instr.wf : Instr → Bool
  | .jarvasPacketRx _ => true
  | .arpRequestRx _ _ _ _ => true
  | .ping _ payload => decide (payload.length ≤ 1400)
  | .ident _ => true
  | .regRead _ _ => true
  | .regWrite _ _ _ => true
  | .regReadBlock _ _ _ => true
  | .regWriteBlock _ _ vals => decide (1 ≤ vals.length ∧ vals.length ≤ 348)
  | .cast _ => true
  | .castAt _ _ => true
  | .maquetteDiscard _ => true
  | .imageRead _ _ _ => true
  | .streamOpen _ desc => decide (1 ≤ desc.ranges.length ∧ desc.ranges.length ≤ 8)
  | .streamClose _ _ => true
  | .converterStart _ => true
  | .converterStop _ => true
  | .safeStop _ => true
  | .cellFence _ _ => true
  | .cellReseat _ _ => true
  | .eventRead _ _ _ => true
  | .eventAck _ _ => true
  | .faultClear _ _ _ => true
  | .inject _ _ _ _ => true
  | .latencyTol _ _ => true
  | .imageWrite _ _ _ data => decide (4 ≤ data.length ∧ data.length ≤ 1392 ∧ data.length % 4 = 0)
  | .imageVerify _ _ => true
  | .imageActivate _ _ => true
  | .attest _ nonce => decide (16 ≤ nonce.length ∧ nonce.length ≤ 64)
  | .queryLast _ => true
  | .reset _ _ _ => true
  | .plinthExit _ _ => true
  | .maquetteWrite _ _ _ => true
  | .regFieldWrite _ _ _ => true
  | .timeIncIntWrite _ _ => true
  | .timeIncFracWrite _ _ => true
  | .timeAdjDeltaWrite _ _ => true
  | .timeAdjCntWrite _ _ => true
  | .adjStop _ => true
  | .timeStepRequest _ => true
  | .timeNowRead _ => true
  | .tsPop _ _ => true
  | .pwmLegForceWrite _ _ _ => true
  | .adcScanSelect _ _ => true
  | .adcCaptureHalt _ _ => true
  | .adcRotHold _ _ => true
  | .adcHostTake _ _ => true
  | .adcScanMaskWrite _ _ _ => true
  | .adcDataRead _ _ => true
  | .linkTestStart _ _ => true
  | .linkTestStop _ _ => true
  | .pwmDiagStart _ _ => true
  | .pairHandover _ => true
  | .ledgerCommitRequest _ => true
  | .fallbackResume _ => true
  | .dmaChLoad _ _ => true
  | .dmaChStop _ _ => true
  | .dmaRestart _ => true
  | .strokeTick => true
  | .reportWindowClose => true
  | .chiselCompile => true
  | .maquetteResyncEnd => true
  | .imageFreeze => true
  | .strokeChannelRun _ => true
  | .hostChannelTransferDone _ => true
  | .dmaBusError _ _ _ => true
  | .timingRestored => true
  | .timingLost => true
  | .prechargeComplete => true
  | .syncComplete => true
  | .stopComplete => true
  | .prechargeTimeout => true
  | .syncTimeout => true
  | .gridTrackerLock => true
  | .gridLost => true
  | .headroomChange => true
  | .ctxSourceLost _ => true
  | .pairFrameRx _ => true
  | .pairLost => true
  | .pairWaitTimeout => true
  | .beaconBurstSend _ => true
  | .beaconAnswerRx _ => true
  | .lightLoss _ => true
  | .blockLockGain _ => true
  | .blockLockLoss _ => true
  | .markerRx _ _ => true
  | .trainLocked _ => true
  | .trainTimeout _ => true
  | .echoRspRx _ _ _ => true
  | .echoTimeout _ => true
  | .capabilityFrameRx _ _ => true
  | .capexTimeout _ => true
  | .reportFrameRx _ _ => true
  | .testPatternStart _ => true
  | .testEnd _ _ => true
  | .testDarkEnd _ => true
  | .testResultTimeout _ => true
  | .eyeScan _ _ _ => true
  | .blockDecision => true
  | .probeStepTimeout _ => true
  | .chargeHoldMet _ => true
  | .joiningComplete _ => true
  | .chargingTimeout _ => true
  | .spareRotation _ => true
  | .autoReadmit _ => true
  | .wearIndexCompute => true
  | .ledgerCommit => true
  | .ledgerCommitDone _ => true
  | .pwmUpdatePoint _ => true
  | .legEdge _ => true
  | .bootstrapRefresh _ => true
  | .interlockAct _ => true
  | .interlockPersist _ => true
  | .desatDetect _ _ => true
  | .fastCurrentTrip _ => true
  | .gateStuck _ => true
  | .staticShort _ => true
  | .tripInput _ _ => true
  | .gateUvlo _ _ => true
  | .diagPhaseEnd _ _ => true
  | .brakeOn => true
  | .brakeOff => true
  | .brakeLong => true
  | .portCloseSettled _ => true
  | .portCloseFail _ => true
  | .cotComparatorFire _ => true
  | .onTimeEnd _ _ => true
  | .diodeEmulationEnd _ _ => true
  | .fastLimitTrip _ _ => true
  | .hiccupCondition _ => true
  | .softStartCheck _ => true
  | .hiccupOffEnd _ => true
  | .portStopComplete _ => true
  | .portRetryReset _ => true
  | .fallbackHostLoss => true
  | .fallbackPin _ => true
  | .vselSample _ => true
  | .adcSlotConversion _ _ => true
  | .adcHandover => true
  | .adcCalComplete _ cal => decide (cal.length = 4)
  | .adjustmentEnd => true
  | .ptpMessageRx _ => true
  | .pdelayReqSend _ => true
  | .ptpDomainLost _ => true
  | .tsEdge _ _ => true
  | .pllHoldover _ => true
  | .pllRelock _ => true
  | .pllBandFail _ => true
  | .clockMonitorFail _ => true
  | .clockMonitorPass _ => true
  | .transceiverInsert _ _ _ => true
  | .eventNumbering => true
  | .eventCommit => true
  | .contactPairOpen _ => true
  | .testPulseEnd _ stuck => decide stuck.Nodup
  | .discrepancyTime _ => true
  | .safeResetEdge => true
  | .safeFrameRx _ _ => true
  | .safeCopyWindowExpiry => true
  | .safeFrameWatch => true
  | .safeRampTimeout => true
  | .gateRemoval => true
  | .removalReadbackFail _ => true
  | .safeChannelMismatch => true
  | .safeAutoStart => true
  | .thermalRead readings => decide (readings.length = 20)
  | .sensorDisagree _ _ => true
  | .powerStateMoveDone => true
  | .wakeN => true
  | .supplySag _ => true
  | .sagLevel2 => true
  | .sagRecover => true
  | .brownout => true
  | .powerOnReset => true
  | .resetNPin => true
  | .systemResetPrep => true
  | .watchdogExpiry => true
  | .lockstepMismatch => true
  | .sramUncorr _ _ => true
  | .regParity _ => true
  | .sramScrubPass _ _ => true
  | .wearLevelMove _ => true
  | .coreResetRestart => true
  | .strokeWatchExpiry => true
  | .domainRelease _ => true
  | .startConfigLoad => true
  | .startComplete => true
  | .startTimeout => true
  | .contactPairClose _ => true
  | .testPulseStart _ => true
  | .gateOffConfirmed _ => true
  | .gate24Change _ => true
  | .prbsSyncGain _ => true
  | .prbsSyncLoss _ => true
  | .bitLockChange _ _ => true
  | .lightReturn _ => true
  | .streamBufferDrained _ => true
  | .transceiverRemove _ => true
  | .stationLinkChange _ _ => true
  | .imageProgramDone _ => true
  | .imageWriteTimeout _ => true
  | .imageVerifyDone _ => true
  | .safeRestoreReadbackFail => true
  | .debugOverride _ => true

end Sys2Proof
end

