-- ==== Sys2Proof/Tests/Slice0.lean ====
section
/-! SUPPORT. Tests of one step each, of the well-formedness checks, and for every statement with hypotheses a witness:
    states and operands that meet the hypotheses of each of its clauses. -/

open Sys2Proof Sys2Proof.Machine

namespace Sys2Proof.Tests

set_option Elab.async false
set_option linter.unusedVariables false

/-! ### Helpers -/

/-- A request over station port B. -/
def rq0 : Req := { src := { port := .stnB, mac := 0x0250C2000002, udp := none, vlan := none }, seq := 0xFFFFFFFF }

/-- After reset with every domain released and the station links up, the fields written and the block changed as told. -/
def mk (fs : List (Field × Nat)) (ms : List (Block → Block) := []) : State :=
  let b := fs.foldl (fun b x => b.wr x.1 x.2) (State.reset.blk.wr Reg.RST_STAGE_RELEASED 255)
  let b := b.updDma fun d => { d with linkA := true, linkB := true }
  { State.reset with blk := ms.foldl (fun b f => f b) b }

/-- A Jarvas command at its turn. -/
def turn (rq : Req) (op : Nat) (b : Block) : Block :=
  { b with jv := { b.jv with queue := [{ req := rq, op := BitVec.ofNat 8 op, wait := .turn, disarmed := false }] } }

/-- The stroke's boundary. -/
def boundary (b : Block) : Block := b.updStrk fun x => { x with ticking := true, phase := .begun }

/-- A module of a pair, with a transceiver in its PAIR cage. -/
def partnered (b : Block) : Block :=
  { b.flag Reg.SYS_PAIR_CFG_EN true with pow := { b.pow with cages := [(0, .base100Sr4)] } }

/-- A calibration without errors. -/
def goodCal : List CalRange := List.replicate 4 { o := 0, g := 0, ppm := 0 }

/-- A stream of one word, on port A. -/
def sd0 : StreamDesc :=
  { id := 7, route := 1, dec := 1, mac := 0x0250C2000002, ip := 0, udpPort := 0, ranges := [{ off := 0, len := 4 }] }

/-- A PING over the service port. -/
def pk0 : RxPacket :=
  { port := .svc, mac := 2, toUs := true, fcsOk := true, prpDup := false, vlan := none, etherType := 0x88B5, udp := none
    bytes := be 1 1 ++ be 1 1 ++ be 2 0 ++ be 4 1 ++ be 2 0 ++ zeros 6 }

/-- A PTP message of domain 0 on port B. -/
def pm0 : PtpMsg :=
  { port := .b, kind := .sync, domain := 0, seq := 1, source := 7, grandmaster := 7, origin := 1000, correction := 0
    twoStep := false, logInterval := -4, dataset := 5, inProfile := true, fcsOk := true }

/-- A frame of `n` bytes and its CRC. -/
def sealed (n : Nat) (b : List Byte) : List Byte :=
  let c := b ++ zeros (n - b.length)
  c ++ be 4 (crc32 c)

/-- A safety frame and its CRC. -/
def sealedC (b : List Byte) : List Byte :=
  let c := b ++ zeros (28 - b.length)
  c ++ be 4 (crc32c c)

/-! ### Well-formedness: an ill-formed term for each check, which the check refuses -/

theorem wf_ping : (Instr.ping rq0 (zeros 1400)).wf = true ∧ (Instr.ping rq0 (zeros 1401)).wf = false := by decide +kernel
theorem wf_regWriteBlock : (Instr.regWriteBlock rq0 0x104 [1]).wf = true ∧ (Instr.regWriteBlock rq0 0x104 []).wf = false
    ∧ (Instr.regWriteBlock rq0 0x104 (List.replicate 349 0)).wf = false := by decide +kernel
theorem wf_streamOpen : (Instr.streamOpen rq0 sd0).wf = true ∧ (Instr.streamOpen rq0 { sd0 with ranges := [] }).wf = false
    ∧ (Instr.streamOpen rq0 { sd0 with ranges := List.replicate 9 { off := 0, len := 4 } }).wf = false := by decide +kernel
theorem wf_imageWrite : (Instr.imageWrite rq0 0 0 (zeros 1392)).wf = true ∧ (Instr.imageWrite rq0 0 0 (zeros 1396)).wf = false
    ∧ (Instr.imageWrite rq0 0 0 (zeros 6)).wf = false ∧ (Instr.imageWrite rq0 0 0 []).wf = false := by decide +kernel
theorem wf_attest : (Instr.attest rq0 (zeros 16)).wf = true ∧ (Instr.attest rq0 (zeros 15)).wf = false
    ∧ (Instr.attest rq0 (zeros 65)).wf = false := by decide +kernel
theorem wf_adcCalComplete : (Instr.adcCalComplete 8 goodCal).wf = true ∧ (Instr.adcCalComplete 8 []).wf = false := by decide
theorem wf_testPulseEnd : (Instr.testPulseEnd true [.a1, .b2]).wf = true ∧ (Instr.testPulseEnd true [.a1, .a1]).wf = false := by
  decide
theorem wf_thermalRead : (Instr.thermalRead (List.replicate 20 .open)).wf = true ∧ (Instr.thermalRead [.open]).wf = false := by
  decide

/-! ### Words: no row of the table has bits, so no word spells a command -/

theorem test_no_word_spells_a_command (s : State) (n w : Nat) :
    decodeTableWord n w = none ∧ s.withFetchWord n w = s := ⟨rfl, rfl⟩

/-! ### Frame checks -/

theorem crcBit_lt {p r : Nat} (hp : p < 2 ^ 32) (hr : r < 2 ^ 32) : crcBit p r < 2 ^ 32 := by
  have h : r / 2 < 2 ^ 32 := by omega
  unfold crcBit
  split
  · exact Nat.xor_lt_two_pow h hp
  · exact h

theorem crcByte_lt {p r : Nat} (x : Byte) (hp : p < 2 ^ 32) (hr : r < 2 ^ 32) : crcByte p r x < 2 ^ 32 := by
  have h : r ^^^ x.toNat < 2 ^ 32 := Nat.xor_lt_two_pow hr (by have := x.isLt; omega)
  unfold crcByte
  repeat first | exact h | refine crcBit_lt hp ?_

theorem foldl_crc_lt {p : Nat} (hp : p < 2 ^ 32) (bs : List Byte) :
    ∀ r, r < 2 ^ 32 → bs.foldl (crcByte p) r < 2 ^ 32 := by
  induction bs with
  | nil => exact fun r h => h
  | cons x xs ih => exact fun r h => ih _ (crcByte_lt x hp h)

theorem crc32_lt (bs : List Byte) : crc32 bs < 2 ^ 32 :=
  Nat.xor_lt_two_pow (foldl_crc_lt (by decide) bs _ (by decide)) (by decide)

theorem beNat_be4 {v : Nat} (h : v < 2 ^ 32) : beNat (be 4 v) = v := by
  simp only [beNat, be, List.foldl, BitVec.toNat_ofNat]
  omega

/-- A sealed frame has its length and carries its CRC. -/
theorem sealed_good {n : Nat} {b : List Byte} (h : b.length ≤ n) :
    (sealed n b).length = n + 4 ∧ crc32 ((sealed n b).take n) = field (sealed n b) n 4 := by
  have hl : (b ++ zeros (n - b.length)).length = n := by simp [zeros]; omega
  refine ⟨by simp only [sealed, List.length_append, hl]; rfl, ?_⟩
  have h4 : (be 4 (crc32 (b ++ zeros (n - b.length)))).take 4 = be 4 (crc32 (b ++ zeros (n - b.length))) :=
    List.take_of_length_le (by simp [be])
  simp only [sealed, field, List.take_left' hl, List.drop_left' hl, h4, beNat_be4 (crc32_lt _)]

/-- CRC-32 and CRC-32C of the nine digits, the check values by which the two polynomials are known. -/
theorem test_crc_check_values :
    crc32 [0x31, 0x32, 0x33, 0x34, 0x35, 0x36, 0x37, 0x38, 0x39] = 0xCBF43926
    ∧ crc32c [0x31, 0x32, 0x33, 0x34, 0x35, 0x36, 0x37, 0x38, 0x39] = 0xE3069283 := by decide +kernel

/-! ### Witnesses: states and operands that meet the hypotheses of every clause of each statement -/

theorem witness_StepRunsTheFrontCommand :
    (let s : State := { State.reset with pending := [.gridTrackerLock, .wakeN] }
     s.pending = .gridTrackerLock :: [.wakeN]) ∧ State.reset.pending = [] := ⟨rfl, rfl⟩

theorem witness_EveryStepKeepsTimeWindow :
    ∃ t, State.reset.blk.tb.inWindow ∧ step State.reset = .next t := ⟨_, by decide, rfl⟩

theorem witness_EveryStepKeepsCages :
    let s := mk [] [fun b => { b with pow := { b.pow with cages := [(0, .base100Sr4), (2, .base1Lx)] } }]
    (∀ c ty, (cageNum c, ty) ∈ s.blk.pow.cages → accepts c ty = true) ∧ ∃ t, step s = .next t :=
  ⟨fun c ty => by cases c <;> cases ty <;> decide +kernel, _, rfl⟩

theorem witness_ImagesChangeOnlyByImageCommands :
    ∃ t, exec .gridTrackerLock State.reset = .next t
      ∧ (∀ rq type off data, Instr.gridTrackerLock ≠ .imageWrite rq type off data)
      ∧ ∀ ty, Instr.gridTrackerLock = .imageProgramDone ty → State.reset.blk.headWait ≠ some (.activate ty) :=
  ⟨_, rfl, nofun, nofun⟩

/-- No register of the DMA unit is brought up to date by a read. -/
theorem refresh_dma {a : Nat} {b : Block} (h : 0x680000 ≤ a) (h' : a < 0x690000) : b.refresh a = b := by
  unfold Block.refresh
  repeat rw [if_neg (by omega)]

theorem witness_RegisterReads :
    (let s := mk [] [turn rq0 0x10]
     let a : Word := 0x110
     ∃ fs, AtTurn s.blk rq0 0x10 ∧ a.toNat % 4 = 0 ∧ a.toNat < 0x1000000 ∧ fieldsAt a.toNat = some fs
       ∧ identityWord a.toNat = none) ∧
    (let s := mk [] [turn rq0 0x10]
     let a : Word := 0x1000110
     ∃ fs, AtTurn s.blk rq0 0x10 ∧ a.toNat % 4 = 0 ∧ 0x1000000 ≤ a.toNat ∧ a.toNat < 0x1FF0000
       ∧ fieldsAt (a.toNat - 0x1000000) = some fs ∧ imageServed (a.toNat - 0x1000000) fs = true) ∧
    (let s := mk [] [turn rq0 0x10]
     let a : Word := 0x2000104
     ∃ fs, AtTurn s.blk rq0 0x10 ∧ a.toNat % 4 = 0 ∧ aliasAt a.toNat = true ∧ s.blk.resyncing = false
       ∧ fieldsAt (a.toNat - 0x2000000) = some fs ∧ fs.any Field.isCr = true) ∧
    (let s := mk [] [turn rq0 0x12]
     let a : Word := 0x680000
     let n : BitVec 16 := 346
     AtTurn s.blk rq0 0x12 ∧ 1 ≤ n.toNat ∧ n.toNat ≤ 346 ∧ ∀ x ∈ blockAddrs a.toNat n.toNat,
       x % 4 = 0 ∧ x < 0x1000000 ∧ s.blk.refresh x = s.blk ∧ ∃ gs, fieldsAt x = some gs ∧ ∀ g ∈ gs, g.acc ≠ .rc) ∧
    (let s := mk [] [turn rq0 0x12]
     let a : Word := 0xF00000
     let n : BitVec 16 := 2
     AtTurn s.blk rq0 0x12 ∧ 1 ≤ n.toNat ∧ n.toNat ≤ 346 ∧ (∃ x ∈ blockAddrs a.toNat n.toNat, x < 0x1000000 ∧ fieldsAt x = none)
       ∧ ((blockAddrs a.toNat n.toNat).any aliasAt && s.blk.resyncing) = false) ∧
    (let s := mk [] [turn rq0 0x10]
     let a : Word := 0x110
     ∃ w c, s.blk.readOne a.toNat = some (w, c) ∧ (aliasAt a.toNat && s.blk.resyncing) = false ∧ AtTurn s.blk rq0 0x10) ∧
    (let s := mk [] [turn rq0 0x12]
     let a : Word := 0x680000
     let n : BitVec 16 := 1
     ∃ ws c, 1 ≤ n.toNat ∧ n.toNat ≤ 346 ∧ s.blk.readAll (blockAddrs a.toNat n.toNat) = some (ws, c)
       ∧ ((blockAddrs a.toNat n.toNat).any aliasAt && s.blk.resyncing) = false ∧ AtTurn s.blk rq0 0x12) ∧
    (let s := mk [] [turn rq0 0x10]
     let a : Word := 0x10001
     s.blk.readOne a.toNat = none ∧ (aliasAt a.toNat && s.blk.resyncing) = false ∧ AtTurn s.blk rq0 0x10) := by
  refine ⟨⟨(fieldsAt 0x110).getD [], by decide +kernel⟩, ⟨(fieldsAt 0x110).getD [], by decide +kernel⟩,
    ⟨(fieldsAt 0x104).getD [], by decide +kernel⟩, ⟨by decide +kernel, by decide, by decide, ?_⟩, by decide +kernel, ?_, ?_,
    by decide +kernel⟩
  · have h : ∀ x ∈ blockAddrs 0x680000 346, x % 4 = 0 ∧ 0x680000 ≤ x ∧ x < 0x690000
        ∧ (fieldsAt x).isSome = true ∧ ∀ g ∈ (fieldsAt x).getD [], g.acc ≠ .rc := by decide +kernel
    intro x hx
    obtain ⟨h1, h2, h3, h4, h5⟩ := h x hx
    obtain ⟨gs, hg⟩ := Option.isSome_iff_exists.mp h4
    exact ⟨h1, by omega, refresh_dma h2 h3, gs, hg, by simpa [hg] using h5⟩
  · obtain ⟨x, h⟩ := Option.isSome_iff_exists.mp
      (show ((mk [] [turn rq0 0x10]).blk.readOne 0x110).isSome = true by decide +kernel)
    exact ⟨x.1, x.2, h, by decide +kernel, by decide +kernel⟩
  · obtain ⟨x, h⟩ := Option.isSome_iff_exists.mp
      (show ((mk [] [turn rq0 0x12]).blk.readAll (blockAddrs 0x680000 1)).isSome = true by decide +kernel)
    exact ⟨x.1, x.2, by decide, by decide, h, by decide +kernel, by decide +kernel⟩

theorem witness_PlainRegisterWrites :
    let s := mk [] [turn rq0 0x11]
    let v : Word := 0xFFFFFFFF
    ∀ a ∈ [(0x30020 : Word), 0x20004], ∃ fs, AtTurn s.blk rq0 0x11 ∧ writeFields a.toNat = some fs
      ∧ (∀ f ∈ fs, f.isCr = false ∧ f.key ∉ endFields.map Field.key) ∧ moduleChannel a.toNat = false
      ∧ s.blk.denyWrite a.toNat v.toNat = 0 ∧ (∀ b held, Block.writeAct a.toNat v.toNat held b = b)
      ∧ fs.any (fun f => decide (f.acc = .rw ∨ f.acc = .w1c)) = true := by
  intro s v a h
  simp only [List.mem_cons, List.not_mem_nil, or_false] at h
  rcases h with rfl | rfl
  · exact ⟨(writeFields 0x30020).getD [], by decide +kernel, by decide +kernel, by decide +kernel, rfl, by decide +kernel,
      fun _ _ => rfl, by decide +kernel⟩
  · exact ⟨(writeFields 0x20004).getD [], by decide +kernel, by decide +kernel, by decide +kernel, rfl, by decide +kernel,
      fun _ _ => rfl, by decide +kernel⟩

theorem witness_BlockRegisterWrite :
    (let s := mk [] [turn rq0 0x13]
     let a : Word := 0x30020
     let v : Word := 0xFFFFFFFF
     ∃ fs gs, AtTurn s.blk rq0 0x13 ∧ writeFields a.toNat = some fs ∧ writeFields (a.toNat + 4) = some gs
       ∧ (∀ f ∈ fs ++ gs, f.isCr = false ∧ f.key ∉ endFields.map Field.key) ∧ moduleChannel a.toNat = false
       ∧ moduleChannel (a.toNat + 4) = false ∧ (∀ b, Block.denyWrite a.toNat v.toNat b = 0)
       ∧ (∀ b, Block.denyWrite (a.toNat + 4) v.toNat b = 0) ∧ (∀ b held, Block.writeAct a.toNat v.toNat held b = b)
       ∧ ∀ b held, Block.writeAct (a.toNat + 4) v.toNat held b = b) ∧
    (let s := mk [] [turn rq0 0x10]
     s.blk.resyncing = false ∧ AtTurn s.blk rq0 0x10 ∧ (fieldsAt 0xF00000).isSome = false ∧ 0x111 % 4 ≠ 0) ∧
    (let s := mk [] [turn rq0 0x11]
     s.blk.resyncing = false ∧ AtTurn s.blk rq0 0x11 ∧ windowAt 0x1000110 = true
       ∧ (s.blk.windowWord 0x110).isSome = true) ∧
    (let s := mk [] [turn rq0 0x12]
     let reads := blockAddrs 0x2000000 346
     s.blk.resyncing = false ∧ AtTurn s.blk rq0 0x12 ∧ ∃ x ∈ reads, x % 4 = 0 ∧ windowAt x = false ∧ aliasAt x = true
       ∧ (s.blk.aliasWord (x - 0x2000000)).isSome = false) ∧
    (let s := mk [] [turn rq0 0x13]
     let vals : List Word := [1, 2]
     s.blk.resyncing = false ∧ AtTurn s.blk rq0 0x13 ∧ 1 ≤ vals.length ∧ vals.length ≤ 348
       ∧ ∃ x ∈ blockAddrs 0x10000FC vals.length, windowAt x = true) ∧
    (let s := mk [] [turn rq0 0x12]
     let reads := blockAddrs 0x680000 346
     ∃ ws b, s.blk.resyncing = false ∧ AtTurn s.blk rq0 0x12 ∧ s.blk.readAll reads = some (ws, b)) ∧
    (let s := mk [] [turn rq0 0x13]
     let vals : List Word := [1, 2]
     let writes := blockAddrs 0x30020 vals.length
     ∃ b, s.blk.resyncing = false ∧ AtTurn s.blk rq0 0x13 ∧ (∀ x ∈ writes, (writeFields x).isSome = true)
       ∧ s.blk.cst.armed = none ∧ s.blk.writeAll (writes.zip (vals.map (·.toNat))) = (0, b)) := by
  refine ⟨⟨(writeFields 0x30020).getD [], (writeFields 0x30024).getD [], by decide +kernel, by decide +kernel, by decide +kernel,
    by decide +kernel, rfl, rfl, fun _ => rfl, fun _ => rfl, fun _ _ => rfl, fun _ _ => rfl⟩, by decide +kernel,
    by decide +kernel, by decide +kernel, by decide +kernel, ?_, ?_⟩
  · obtain ⟨x, h⟩ := Option.isSome_iff_exists.mp
      (show ((mk [] [turn rq0 0x12]).blk.readAll (blockAddrs 0x680000 346)).isSome = true by decide +kernel)
    exact ⟨x.1, x.2, by decide +kernel, by decide +kernel, h⟩
  · have h : ((mk [] [turn rq0 0x13]).blk.writeAll ((blockAddrs 0x30020 2).zip [1, 2])).1 = 0 := by decide +kernel
    exact ⟨_, by decide +kernel, by decide +kernel, by decide +kernel, by decide +kernel, Prod.ext h rfl⟩

theorem witness_MaquetteWrites :
    (let s := mk [] [turn rq0 0x11]
     let a : Word := 0x104
     let v : Word := 100000
     ∃ fs, AtTurn s.blk rq0 0x11 ∧ writeFields a.toNat = some fs ∧ fs.any Field.isCr = true
       ∧ (∀ f ∈ fs, f.key ∉ endFields.map Field.key) ∧ moduleChannel a.toNat = false
       ∧ s.blk.denyWrite a.toNat v.toNat = 0 ∧ (∀ b held, Block.writeAct a.toNat v.toNat held b = b)
       ∧ s.blk.cst.armed = none ∧ s.blk.resyncing = false) ∧
    (let s := mk [] [turn rq0 0x11, Block.updCst fun x =>
       { x with armed := some { b := 100000, timed := true, at_ := 0, deferred := false } }]
     let a : Word := 0x343004
     AtTurn s.blk rq0 0x11 ∧ writesMaq a.toNat = true ∧ s.blk.cst.armed.isSome = true ∧ s.blk.resyncing = false) :=
  ⟨⟨(writeFields 0x104).getD [], by decide +kernel, by decide +kernel, by decide +kernel, by decide +kernel, rfl,
    by decide +kernel, fun _ _ => rfl, rfl, rfl⟩, by decide +kernel, by decide +kernel, rfl, rfl⟩

theorem witness_PairLink :
    (∀ bs ∈ [sealed 11072 (be 1 1), sealed 11072 (be 1 1 ++ be 1 1 ++ zeros 6 ++ be 8 77 ++ be 8 123456)],
      bs.length = 11076 ∧ field bs 0 1 = 1 ∧ crc32 (bs.take 11072) = field bs 11072 4) ∧
    (field (sealed 11072 (be 1 1 ++ be 1 1 ++ zeros 6 ++ be 8 77 ++ be 8 123456)) 1 1).testBit 0 = true ∧
    (let s := mk [] [partnered, Block.updPair fun x => { x with waiting := false }]
     s.blk.pairUp = true ∧ s.blk.injects 3 2 = false ∧ s.blk.pair.waiting = false) ∧
    (let bs : List Byte := [1]
     let s := mk [] [partnered]
     s.blk.pairUp = true ∧ ¬ (bs.length = 11076 ∧ field bs 0 1 = 1 ∧ crc32 (bs.take 11072) = field bs 11072 4)) ∧
    (mk []).blk.pairUp = false ∧
    (let s := mk [] [partnered, Block.updPair fun x => { x with waiting := true }]
     s.blk.pairUp = true ∧ s.blk.injects 3 2 = false ∧ s.blk.pair.waiting = true) ∧
    (let s := mk [(Reg.SYS_PAIR_CFG_EN, 1)] [Block.updPair fun x => { x with lostRaised := false, missRun := 255 }]
     s.blk.on Reg.SYS_PAIR_CFG_EN = true ∧ s.blk.pair.lostRaised = false
       ∧ s.blk.rd Reg.SYS_PAIR_CFG_LOSS ≤ s.blk.pair.missRun ∧ Loggable s.blk { source := 135 }) ∧
    (mk [] [Block.updPair fun x => { x with lostRaised := true }]).blk.pair.lostRaised = true ∧
    (let s := mk [(Reg.PORT_FB_STAT_HOST, 0), (Reg.PORT_FB_CFG_PIN_EN, 0)]
       [Block.updPair fun x => { x with waiting := true }]
     s.blk.pair.waiting = true ∧ s.blk.on Reg.PORT_FB_STAT_HOST = false
       ∧ (s.blk.on Reg.PORT_FB_CFG_PIN_EN && s.blk.lv.fbPin) = false
       ∧ ∀ p : Fin 8, (s.blk.port p).fallback = none) := by
  refine ⟨?_, by decide +kernel, by decide +kernel, by decide +kernel, by decide +kernel, by decide +kernel,
    by decide +kernel, rfl, by decide +kernel⟩
  intro bs h
  simp only [List.mem_cons, List.not_mem_nil, or_false] at h
  rcases h with rfl | rfl
  all_goals exact ⟨(sealed_good (by decide)).1, by decide +kernel, (sealed_good (by decide)).2⟩

theorem validate_turn (b : Block) (rq : Req) (op : Nat) : (turn rq op b).validate = b.validate := rfl

theorem validate_mk : (mk []).blk.validate = none := by decide +kernel

/-- A maquette that populates more slots than an arm has. -/
def badMaq (b : Block) : Block := b.updCst fun x => { x with maq := [(Reg.SYS_CONV_POP_NPOP.key, 127)] }

theorem validate_badMaq : (mk [] [badMaq]).blk.validate = some (2, 0x404) := by decide +kernel

theorem witness_Casts :
    (let s := mk [] [turn rq0 0x20]
     s.blk.cst.resync = none ∧ AtTurn s.blk rq0 0x20 ∧ s.blk.cst.armed = none ∧ s.blk.validate = none) ∧
    (let s := mk [] [turn rq0 0x21]
     s.blk.cst.resync = none ∧ AtTurn s.blk rq0 0x21 ∧ s.blk.cst.armed = none ∧ s.blk.validate = none ∧
     ((s.blk.tooFar 1 = false ∧ (s.blk.ns : Int) + 1000 ≤ s.blk.castBoundary 1) ∧ s.blk.tooFar 3600000000001 = true ∧
      (s.blk.tooFar 0 = false ∧ s.blk.castBoundary 0 < (s.blk.ns : Int) + 1000))) ∧
    (let s (a : Armed) := mk [] [turn rq0 0x21, Block.updCst fun x => { x with armed := some a }]
     let a : Armed := { b := 100000, timed := true, at_ := 0, deferred := false }
     (∀ x ∈ [a, { a with timed := false }, { a with b := 999 }], (s x).blk.cst.resync = none
       ∧ AtTurn (s x).blk rq0 0x21 ∧ (s x).blk.cst.armed = some x) ∧
     (s a).blk.tooFar 3600000000001 = true ∧
     ((s { a with b := 999 }).blk.tooFar 100000 = false ∧ ¬ (s { a with b := 999 }).blk.ns + 1000 ≤ 999) ∧
     ((s a).blk.tooFar 0 = false ∧ (s a).blk.ns + 1000 ≤ a.b ∧ (s a).blk.castBoundary 0 < ((s a).blk.ns : Int) + 1000) ∧
     ((s a).blk.tooFar 150000 = false ∧ ((s a).blk.ns : Int) + 1000 ≤ (s a).blk.castBoundary 150000)) ∧
    (let s := mk [] [badMaq, turn rq0 0x20]
     s.blk.cst.resync = none ∧ s.blk.cst.armed = none ∧ s.blk.validate = some (2, 0x404) ∧ AtTurn s.blk rq0 0x20) ∧
    (let s := mk [] [badMaq, turn rq0 0x21]
     s.blk.cst.resync = none ∧ s.blk.cst.armed = none ∧ s.blk.validate = some (2, 0x404) ∧ AtTurn s.blk rq0 0x21) ∧
    (let a : Armed := { b := 100000, timed := true, at_ := 0, deferred := false }
     let s := mk [] [turn rq0 0x20, Block.updCst fun x => { x with armed := some a }]
     s.blk.cst.resync = none ∧ AtTurn s.blk rq0 0x20 ∧ s.blk.cst.armed.isSome = true) ∧
    (let s := mk [] [turn rq0 0x22]
     AtTurn s.blk rq0 0x22 ∧ s.blk.cst.resync = none ∧ s.blk.cst.armed = none) ∧
    (let a : Armed := { b := 100000, timed := true, at_ := 0, deferred := false }
     let s := mk [] [turn rq0 0x22, Block.updCst fun x => { x with armed := some a }]
     AtTurn s.blk rq0 0x22 ∧ s.blk.cst.resync = none ∧ s.blk.cst.armed = some a ∧ s.blk.ns + 1000 ≤ a.b) ∧
    (let f := Reg.SYS_STROKE_NS_PERIOD
     let s := mk [] [Block.updCst fun x => { x with resync := some 5000, resyncWords := [f.addr] }]
     s.blk.cst.resync = some 5000 ∧ (s.blk.strk.phase = .begun → s.blk.strk.castHere = false)
       ∧ s.blk.cst.resyncWords = [f.addr] ∧ fieldsAt f.addr = some [f] ∧ f.isCr = true
       ∧ f.key ∉ adjFields.map Field.key) :=
  ⟨⟨rfl, by decide +kernel, rfl, validate_mk⟩, ⟨rfl, by decide +kernel, rfl, validate_mk, by decide +kernel⟩,
   by decide +kernel,
   ⟨rfl, rfl, validate_badMaq, by decide +kernel⟩, ⟨rfl, rfl, validate_badMaq, by decide +kernel⟩, by decide +kernel,
   by decide +kernel, by decide +kernel, by decide +kernel⟩

theorem witness_StrokeCommands :
    (let d := ({ cause := 11 } : Due)
     let s := mk [] [Block.updBoot fun x => { x with due := some d }]
     s.blk.boot.due = some d) ∧
    (let s := mk []
         [Block.updBoot fun x => { x with due := none },
          Block.updStrk fun x => { x with ticking := true },
          Block.updPair fun x => { x with waiting := false },
          Block.updTb fun x => { x with step := none }]
     let k := s.blk.strk
     s.blk.boot.due = none ∧ k.ticking = true ∧ s.blk.pair.waiting = false ∧ s.blk.tb.step = none) ∧
    (let a := ({ b := 100000, timed := true, at_ := 0, deferred := false } : Armed)
     let s := mk [(Reg.SYS_STROKE_CFG_UPDATE, 0), (Reg.SYS_STROKE_NS_PERIOD, 25000)]
         [Block.updJv fun y => { y with queue := [({ req := rq0, op := 0x20, wait := .cast, disarmed := false } : QCmd)] },
          Block.updBoot fun x => { x with due := none, starting := false },
          Block.updStrk fun x => { x with ticking := true, next := 100000, timingBad := false },
          Block.updPair fun x => { x with waiting := false },
          Block.updTb fun x => { x with step := none },
          Block.updCst fun x => { x with armed := some a }]
     let k := s.blk.strk
     s.blk.boot.due = none ∧ k.ticking = true ∧ s.blk.pair.waiting = false ∧ s.blk.tb.step = none ∧
     s.blk.boot.starting = false ∧ s.blk.cst.armed = some a ∧ a.b ≤ k.next ∧ k.next < 2 ^ 64 ∧ k.timingBad = false ∧
     s.blk.on Reg.SYS_STROKE_CFG_UPDATE = false ∧ Bank.wf s.blk.regs ∧ Bank.wf s.blk.cst.maq) ∧
    (let a := ({ b := 100000, timed := true, at_ := 0, deferred := false } : Armed)
     let s := mk []
         [Block.updBoot fun x => { x with due := none, starting := false },
          Block.updStrk fun x => { x with ticking := true, next := 100000, timingBad := true },
          Block.updPair fun x => { x with waiting := false },
          Block.updTb fun x => { x with step := none },
          Block.updCst fun x => { x with armed := some a }]
     let k := s.blk.strk
     s.blk.boot.due = none ∧ k.ticking = true ∧ s.blk.pair.waiting = false ∧ s.blk.tb.step = none ∧
     s.blk.boot.starting = false ∧ s.blk.cst.armed = some a ∧ a.b ≤ k.next ∧ k.next < 2 ^ 64 ∧ k.timingBad = true ∧
     s.blk.castHeld = false ∨ k.next < a.at_ + 100000000) ∧
    (let a := ({ b := 100000, timed := true, at_ := 0, deferred := false } : Armed)
     let q := ({ req := rq0, op := 0x20, wait := .cast, disarmed := false } : QCmd)
     let s := mk []
         [Block.updJv fun y => { y with queue := [q] },
          Block.updBoot fun x => { x with due := none, starting := false },
          Block.updStrk fun x => { x with ticking := true, next := 100000000, timingBad := true },
          Block.updPair fun x => { x with waiting := false },
          Block.updTb fun x => { x with step := none },
          Block.updCst fun x => { x with armed := some a },
          Block.updJv fun x => { x with queue := [q] }]
     let k := s.blk.strk
     s.blk.boot.due = none ∧ k.ticking = true ∧ s.blk.pair.waiting = false ∧ s.blk.tb.step = none ∧
     s.blk.boot.starting = false ∧ s.blk.cst.armed = some a ∧ a.b ≤ k.next ∧ k.next < 2 ^ 64 ∧ k.timingBad = true ∧
     s.blk.jv.queue = [q] ∧ q.wait = .cast ∧ a.at_ + 100000000 ≤ k.next) ∧
    (let j : Nat := 4
     let s := mk [(Reg.SYS_STROKE_NS_PERIOD, 25000)]
         [Block.updBoot fun x => { x with due := none, starting := false },
          Block.updStrk fun x => { x with ticking := true, next := 100000 },
          Block.updPair fun x => { x with waiting := false },
          Block.updTb fun x => { x with step := none }]
     let k := s.blk.strk
     let p := s.blk.rd Reg.SYS_STROKE_NS_PERIOD
     s.blk.boot.due = none ∧ k.ticking = true ∧ s.blk.pair.waiting = false ∧ s.blk.tb.step = none ∧
     s.blk.boot.starting = false ∧ (∀ a, s.blk.cst.armed = some a → k.next < a.b ∧ s.blk.castHeld = false) ∧
     k.next = s.blk.epoch + j * p ∧ 10000 ≤ p ∧ k.next < 2 ^ 64) ∧
    (let s := mk [] [Block.updBoot fun x => { x with due := none }, Block.updStrk fun x => { x with ticking := false }]
     let k := s.blk.strk
     s.blk.boot.due = none ∧ (k.ticking = false ∨ s.blk.pair.waiting = true)) ∧
    (let s := mk [] [Block.updStrk fun x => { x with ticking := true, phase := .begun }]
     let k := s.blk.strk
     k.ticking = true ∧ k.phase = .begun) ∧
    (let l : Fin 192 := 191
     let s := mk [(Reg.SYS_PAIR_CFG_EN, 0)] [Block.updStrk fun x => { x with ticking := true, phase := .begun }]
     let k := s.blk.strk
     k.ticking = true ∧ k.phase = .begun ∧ s.blk.on Reg.SYS_PAIR_CFG_EN = false ∧ s.blk.rd (Reg.LINK_STAT_STATE l) ≠ 4) ∧
    (let l : Fin 192 := 191
     let r := reportOf (be 1 1 ++ zeros 95)
     let s := mk [(Reg.SYS_PAIR_CFG_EN, 0), ((Reg.LINK_STAT_STATE l), 4)]
         [Block.updStrk fun x => { x with ticking := true, phase := .begun },
          Block.updLane l fun x => { x with rpt := some r }]
     let k := s.blk.strk
     k.ticking = true ∧ k.phase = .begun ∧ s.blk.on Reg.SYS_PAIR_CFG_EN = false ∧ s.blk.rd (Reg.LINK_STAT_STATE l) = 4 ∧
     (s.blk.lane l).rpt = some r) ∧
    (let l : Fin 192 := 191
     let s := mk [(Reg.SYS_PAIR_CFG_EN, 0), ((Reg.LINK_STAT_STATE l), 4), (Reg.SYS_CONV_POP_NPOP, 64),
         (Reg.LINK_GCFG_MISS_LIM, 15), ((Reg.LINK_STAT_MISS_RUN l), 13)]
         [Block.updStrk fun x => { x with ticking := true, phase := .begun },
          Block.updLane l fun x => { x with rpt := none, strokes := 2 }]
     let k := s.blk.strk
     k.ticking = true ∧ k.phase = .begun ∧ s.blk.on Reg.SYS_PAIR_CFG_EN = false ∧ s.blk.rd (Reg.LINK_STAT_STATE l) = 4 ∧
     (s.blk.lane l).rpt = none ∧ s.blk.populated l = true ∧ 2 ≤ (s.blk.lane l).strokes ∧
     s.blk.rd (Reg.LINK_STAT_MISS_RUN l) < 15 ∧ s.blk.rd (Reg.LINK_STAT_MISS_RUN l) + 1 < s.blk.rd Reg.LINK_GCFG_MISS_LIM) ∧
    (let s := mk [] [Block.updStrk fun x => { x with ticking := true, phase := .begun }]
     let k := s.blk.strk
     k.ticking = true ∧ k.phase = .begun) ∧
    (let s := mk [((Reg.LINK_STAT_STATE 0), 4), ((Reg.CELL_SLOT_STAT_STATE 0), 5), ((Reg.LINK_STAT_STATE 5), 3),
         ((Reg.LINK_STAT_STATE 6), 4), ((Reg.CELL_SLOT_STAT_STATE 6), 3), (Reg.SYS_CONV_POP_NPOP, 8)]
         [Block.updLane 0 fun x => { x with clear := 1 },
          Block.updStrk fun x => { x with ticking := true, phase := .reported },
          Block.updBoot fun x => { x with configured := true }]
     let k := s.blk.strk
     k.ticking = true ∧ k.phase = .reported) ∧
    (let s := mk [] [Block.updStrk fun x => { x with ticking := true, phase := .reported }]
     let k := s.blk.strk
     k.ticking = true ∧ k.phase = .reported ∧ (∀ l : Fin 192, s.blk.rd (Reg.LINK_STAT_STATE l) ∉ [3, 4])) ∧
    (let s := mk [] [Block.updStrk fun x => { x with ticking := true, phase := .compiled }]
     let k := s.blk.strk
     k.ticking = true ∧ k.phase = .compiled) ∧
    (let b : Block := (mk [(Reg.ARM_CTX_STAT_REGION 255, 0)] [Block.updCtx 255 fun x => { x with was := true }]).blk
     let c : Fin 256 := 255
     let g : Nat := (0 : Nat)
     (b.ctx c).was = true ∧ (b.ctx c).init = false ∧ g = b.ctxRegion c ∧ b.rd (Reg.ARM_CTX_STAT_REGION c) = g ∧
     b.formerBank.coefs c g = b.regs.coefs c g) ∧
    (let b : Block := (mk [(Reg.ARM_CTX_CFG_FORCE_EN 255, 0)]).blk
     let c : Fin 256 := 255
     let p : Nat := (0 : Nat)
     b.rd (Reg.ARM_CTX_CFG_PASS c) = p ∧ b.on (Reg.ARM_CTX_STAT_ACTIVE c) = false) ∧
    (let b : Block := (mk [(Reg.ARM_CTX_CFG_FORCE_EN 255, 1)]).blk
     let c : Fin 256 := 255
     b.on (Reg.ARM_CTX_CFG_FORCE_EN c) = true) ∧
    (let b : Block := (mk [(Reg.ARM_CTX_CFG_FORCE_EN 255, 0)]).blk
     let c : Fin 256 := 255
     b.on (Reg.ARM_CTX_CFG_FORCE_EN c) = false) := by
  refine ⟨?_, ?_, ?_, ?_, ?_, ?_, ?_, ?_, ?_, ?_, ?_, ?_, ?_, ?_, ?_, ?_, ?_, ?_, ?_⟩ <;> decide +kernel

theorem witness_ConverterRows :
    (let s := mk [(Reg.SYS_CONV_STAT_STATE, 1)]
         [boundary,
          Block.updStrk fun x => { x with untimed := false },
          Block.updConv fun x => { x with prechg := 64 }]
     let st := s.blk.rd Reg.SYS_CONV_STAT_STATE
     let v := s.blk.conv
     let there := s.blk.atBoundary = true ∧ v.settled = v ∧ s.blk.holds = true ∧ s.blk.strk.untimed = false
     there ∧ st = 1 ∧ 64 ≤ v.prechg) ∧
    (let s := mk [(Reg.SYS_CONV_STAT_STATE, 2)]
         [boundary,
          Block.updStrk fun x => { x with untimed := false },
          Block.updConv fun x => { x with sync := 1024 }]
     let st := s.blk.rd Reg.SYS_CONV_STAT_STATE
     let v := s.blk.conv
     let there := s.blk.atBoundary = true ∧ v.settled = v ∧ s.blk.holds = true ∧ s.blk.strk.untimed = false
     there ∧ st = 2 ∧ 1024 ≤ v.sync) ∧
    (let s := mk [(Reg.SYS_CONV_STAT_STATE, 4)]
         [boundary,
          Block.updStrk fun x => { x with untimed := false },
          Block.updConv fun x => { x with safe := false, kZero := 2 }]
     let st := s.blk.rd Reg.SYS_CONV_STAT_STATE
     let v := s.blk.conv
     let there := s.blk.atBoundary = true ∧ v.settled = v ∧ s.blk.holds = true ∧ s.blk.strk.untimed = false
     there ∧ st = 4 ∧ v.safe = false ∧ 2 ≤ v.kZero) ∧
    (let s := mk []
     s.blk.atBoundary = false) ∧
    (let s := mk [] [boundary, Block.updStrk fun x => { x with untimed := false }]
     let st := s.blk.rd Reg.SYS_CONV_STAT_STATE
     let v := s.blk.conv
     let there := s.blk.atBoundary = true ∧ v.settled = v ∧ s.blk.holds = true ∧ s.blk.strk.untimed = false
     there ∧ st ≠ 1) ∧
    (let s := mk [] [boundary, Block.updStrk fun x => { x with untimed := false }]
     let st := s.blk.rd Reg.SYS_CONV_STAT_STATE
     let v := s.blk.conv
     let there := s.blk.atBoundary = true ∧ v.settled = v ∧ s.blk.holds = true ∧ s.blk.strk.untimed = false
     there ∧ st ≠ 2) ∧
    (let s := mk [] [boundary, Block.updStrk fun x => { x with untimed := false }]
     let st := s.blk.rd Reg.SYS_CONV_STAT_STATE
     let v := s.blk.conv
     let there := s.blk.atBoundary = true ∧ v.settled = v ∧ s.blk.holds = true ∧ s.blk.strk.untimed = false
     there ∧ st ≠ 4) ∧
    (let s := mk [(Reg.SYS_CONV_STAT_STATE, 1)] [boundary, Block.updStrk fun x => { x with untimed := false }]
     let st := s.blk.rd Reg.SYS_CONV_STAT_STATE
     let v := s.blk.conv
     let there := s.blk.atBoundary = true ∧ v.settled = v ∧ s.blk.holds = true ∧ s.blk.strk.untimed = false
     there ∧ st = 1 ∧ v.prechg < 64) ∧
    (let s := mk [(Reg.SYS_CONV_STAT_STATE, 2)] [boundary, Block.updStrk fun x => { x with untimed := false }]
     let st := s.blk.rd Reg.SYS_CONV_STAT_STATE
     let v := s.blk.conv
     let there := s.blk.atBoundary = true ∧ v.settled = v ∧ s.blk.holds = true ∧ s.blk.strk.untimed = false
     there ∧ st = 2 ∧ v.sync < 1024) ∧
    (let s := mk [(Reg.SYS_CONV_STAT_STATE, 4)]
         [boundary,
          Block.updStrk fun x => { x with untimed := false },
          Block.updConv fun x => { x with safe := false }]
     let st := s.blk.rd Reg.SYS_CONV_STAT_STATE
     let v := s.blk.conv
     let there := s.blk.atBoundary = true ∧ v.settled = v ∧ s.blk.holds = true ∧ s.blk.strk.untimed = false
     there ∧ st = 4 ∧ v.safe = false ∧ v.kZero < 2) ∧
    (let s := mk [] [boundary, Block.updStrk fun x => { x with untimed := false }]
     let v := s.blk.conv
     let there := s.blk.atBoundary = true ∧ v.settled = v ∧ s.blk.holds = true ∧ s.blk.strk.untimed = false
     there ∧ v.hrShort < 64 ∧ v.hrOk < 64) ∧
    (let s := mk []
     let st := s.blk.rd Reg.SYS_CONV_STAT_STATE
     let v := s.blk.conv
     (st ≠ 1 ∨ v.timeoutRaised = true)) ∧
    (let s := mk []
     let st := s.blk.rd Reg.SYS_CONV_STAT_STATE
     let v := s.blk.conv
     (st ≠ 2 ∨ v.timeoutRaised = true)) ∧
    (let s := mk [(Reg.SYS_CONV_STAT_STATE, 1)] [Block.updConv fun x => { x with timeoutRaised := false }]
     let st := s.blk.rd Reg.SYS_CONV_STAT_STATE
     let v := s.blk.conv
     let pre := s.blk.until (v.entered + s.blk.rd Reg.SYS_CONV_TIMEOUT_PRECHG_MS * 1000000)
     st = 1 ∧ v.timeoutRaised = false ∧ Loggable pre { source := 130 }) ∧
    (let s := mk [(Reg.SYS_CONV_STAT_STATE, 2)] [Block.updConv fun x => { x with timeoutRaised := false }]
     let st := s.blk.rd Reg.SYS_CONV_STAT_STATE
     let v := s.blk.conv
     let syn := s.blk.until (v.entered + s.blk.rd Reg.SYS_CONV_TIMEOUT_SYNC_MS * 1000000)
     st = 2 ∧ v.timeoutRaised = false ∧ Loggable syn { source := 131 }) ∧
    (let s := mk [] [Block.updConv fun x => { x with trkGood := 1024 }]
     let v := s.blk.conv
     1024 ≤ v.trkGood) ∧
    (let s := mk []
     let v := s.blk.conv
     v.trkGood < 1024) ∧
    (let s := mk [(Reg.SYS_CONV_STAT_STATE, 4)] [Block.updConv fun x => { x with trkBad := 64, locked := true }]
     let st := s.blk.rd Reg.SYS_CONV_STAT_STATE
     let v := s.blk.conv
     64 ≤ v.trkBad ∧ v.locked = true ∧ st ∈ [3, 4] ∧ Loggable s.blk { source := 132 }) ∧
    (let s := mk [] [Block.updConv fun x => { x with trkBad := 64, locked := true }]
     let st := s.blk.rd Reg.SYS_CONV_STAT_STATE
     let v := s.blk.conv
     64 ≤ v.trkBad ∧ v.locked = true ∧ st ∉ [3, 4]) ∧
    (let s := mk []
     let v := s.blk.conv
     (v.trkBad < 64 ∨ v.locked = false)) ∧
    (let s := mk [] [boundary, Block.updConv fun x => { x with hrShort := 64 }]
     let v := s.blk.conv
     s.blk.atBoundary = true ∧ 64 ≤ v.hrShort) ∧
    (let s := mk [] [boundary, Block.updConv fun x => { x with hrOk := 64 }]
     let v := s.blk.conv
     s.blk.atBoundary = true ∧ v.hrShort < 64 ∧ 64 ≤ v.hrOk) ∧
    (let s := mk [(Reg.SYS_CONV_STAT_UNTIMED, 255), (Reg.SYS_CONV_STAT_STATE, 4)]
         [Block.updConv fun x => { x with timingLost := false }]
     let v := s.blk.conv
     s.blk.running = true ∧ s.blk.rd Reg.SYS_CONV_STOP_UNTIMED_LIM < s.blk.rd Reg.SYS_CONV_STAT_UNTIMED ∧
     v.timingLost = false ∧ Loggable s.blk { source := 133 }) ∧
    (let s := mk []
     let v := s.blk.conv
     (v.timingLost = true ∨ s.blk.running = false ∨ s.blk.rd Reg.SYS_CONV_STAT_UNTIMED ≤ s.blk.rd Reg.SYS_CONV_STOP_UNTIMED_LIM)) ∧
    (let c : Fin 256 := 255
     let s := mk [] [Block.updCtx c fun x => { x with lost := false, stale := 255 }]
     let lost : Occ := { source := 129, unitType := 5, idx := c }
     s.blk.rd Reg.ARM_STALE_LIM_LIMIT ≤ (s.blk.ctx c).stale ∧ (s.blk.ctx c).lost = false ∧ Loggable s.blk lost) ∧
    (let c : Fin 256 := 255
     let s := mk []
     ((s.blk.ctx c).lost = true ∨ (s.blk.ctx c).stale < s.blk.rd Reg.ARM_STALE_LIM_LIMIT)) := by
  refine ⟨?_, ?_, ?_, ?_, ?_, ?_, ?_, ?_, ?_, ?_, ?_, ?_, ?_, ?_, ?_, ?_, ?_, ?_, ?_, ?_, ?_, ?_, ?_, ?_, ?_, ?_⟩ <;> decide +kernel

theorem witness_SafetyContacts :
    (let c : Contact := .b2
     let s := mk [((Reg.EVT_SRCk_CLASS 224), 0), ((Reg.EVT_SRCk_CLASS 225), 0), ((Reg.EVT_SRCk_CLASS 231), 0),
         (Reg.SAFE_STAT_STATE, 0), (Reg.SAFE_IN_CONTACTS, 15), (Reg.SAFE_OPT0_B_FUNC, 1)]
     let p := contactOfB c
     let func := if p then Reg.SAFE_OPT0_B_FUNC else Reg.SAFE_OPT0_A_FUNC
     let info := s.blk.rd (Reg.EVT_SRCk_CLASS 224) = 0 ∧ s.blk.rd (Reg.EVT_SRCk_CLASS 225) = 0 ∧ s.blk.rd
         (Reg.EVT_SRCk_CLASS 231) = 0
     info ∧ s.blk.closed (contactBit c) = true ∧ s.blk.pairHealthy p = true ∧ s.blk.rd Reg.SAFE_STAT_STATE = 0 ∧
     s.blk.on func = true) ∧
    (let c : Contact := .b2
     let s := mk [((Reg.EVT_SRCk_CLASS 224), 0), ((Reg.EVT_SRCk_CLASS 225), 0), ((Reg.EVT_SRCk_CLASS 231), 0),
         (Reg.SAFE_STAT_STATE, 0), (Reg.SYS_CONV_STAT_STATE, 4), (Reg.SAFE_IN_CONTACTS, 15), (Reg.SAFE_OPT0_B_FUNC, 0)]
     let p := contactOfB c
     let func := if p then Reg.SAFE_OPT0_B_FUNC else Reg.SAFE_OPT0_A_FUNC
     let info := s.blk.rd (Reg.EVT_SRCk_CLASS 224) = 0 ∧ s.blk.rd (Reg.EVT_SRCk_CLASS 225) = 0 ∧ s.blk.rd
         (Reg.EVT_SRCk_CLASS 231) = 0
     info ∧ s.blk.closed (contactBit c) = true ∧ s.blk.pairHealthy p = true ∧ s.blk.rd Reg.SAFE_STAT_STATE = 0 ∧
     s.blk.on func = false ∧ s.blk.holds = true ∧ s.blk.rd Reg.SYS_CONV_STAT_STATE ∈ [2, 3, 4]) ∧
    (let c : Contact := .b2
     let s := mk [(Reg.SAFE_IN_CONTACTS, 8)]
     let p := contactOfB c
     s.blk.closed (contactBit c) = true ∧ s.blk.pairHealthy p = false) ∧
    (let c : Contact := .b2
     let s := mk []
     s.blk.closed (contactBit c) = false) ∧
    (let c : Contact := .b2
     let s := mk [(Reg.SAFE_IN_CONTACTS, 15)]
     s.blk.closed (contactBit c) = true) ∧
    (let s := mk [(Reg.SAFE_OPT0_TP_EN, 1)]
     s.blk.on Reg.SAFE_OPT0_TP_EN = true) ∧
    (let tp2 : Bool := true
     let s := mk [] [Block.updSafe fun x => { x with tp2 := true }]
     (if tp2 then s.blk.safe.tp2 else s.blk.safe.tp1) = true) ∧
    (let tp2 : Bool := true
     let s := mk [((Reg.EVT_SRCk_CLASS 224), 0), ((Reg.EVT_SRCk_CLASS 225), 0), ((Reg.EVT_SRCk_CLASS 231), 0),
         (Reg.SAFE_STAT_DISCREP, 0), (Reg.SAFE_STAT_STATE, 0)]
         [Block.updSafe fun x => { x with tp2 := true }]
     let info := s.blk.rd (Reg.EVT_SRCk_CLASS 224) = 0 ∧ s.blk.rd (Reg.EVT_SRCk_CLASS 225) = 0 ∧ s.blk.rd
         (Reg.EVT_SRCk_CLASS 231) = 0
     (if tp2 then s.blk.safe.tp2 else s.blk.safe.tp1) = true ∧ info ∧ s.blk.on Reg.SAFE_STAT_DISCREP = false ∧
     s.blk.rd Reg.SAFE_STAT_STATE = 0) ∧
    (let pairB : Bool := true
     let t0 := (0 : Nat)
     let s := mk [((Reg.EVT_SRCk_CLASS 224), 0), ((Reg.EVT_SRCk_CLASS 225), 0), ((Reg.EVT_SRCk_CLASS 231), 0),
         (Reg.SAFE_STAT_DISCREP, 0), (Reg.SAFE_STAT_STATE, 0)]
         [Block.updSafe fun x => { x with diffB := some 0 }]
     let q := SafeSt.diff s.blk.safe
     let info := s.blk.rd (Reg.EVT_SRCk_CLASS 224) = 0 ∧ s.blk.rd (Reg.EVT_SRCk_CLASS 225) = 0 ∧ s.blk.rd
         (Reg.EVT_SRCk_CLASS 231) = 0
     info ∧ q pairB = some t0 ∧ s.blk.on Reg.SAFE_STAT_DISCREP = false ∧ s.blk.rd Reg.SAFE_STAT_STATE = 0) ∧
    (let pairB : Bool := true
     let s := mk []
     let q := SafeSt.diff s.blk.safe
     q pairB = none) ∧
    (let s := mk [((Reg.EVT_SRCk_CLASS 224), 0), ((Reg.EVT_SRCk_CLASS 225), 0), ((Reg.EVT_SRCk_CLASS 231), 0),
         (Reg.SAFE_IN_CONTACTS, 15), (Reg.SAFE_STAT_STATE, 2)]
     let info := s.blk.rd (Reg.EVT_SRCk_CLASS 224) = 0 ∧ s.blk.rd (Reg.EVT_SRCk_CLASS 225) = 0 ∧ s.blk.rd
         (Reg.EVT_SRCk_CLASS 231) = 0
     info ∧ s.blk.mayReset = true) ∧
    (let s := mk []
     s.blk.mayReset = false) ∧
    (let t0 := (0 : Nat)
     let s := mk [((Reg.EVT_SRCk_CLASS 224), 0), ((Reg.EVT_SRCk_CLASS 225), 0), ((Reg.EVT_SRCk_CLASS 231), 0),
         (Reg.SAFE_OPT0_AUTO_START, 1), (Reg.SAFE_IN_CONTACTS, 15), (Reg.SAFE_STAT_STATE, 2), (Reg.SAFE_STAT_CAUSE, 1)]
         [Block.updSafe fun x => { x with autoSince := some t0, autoDone := false }]
     let info := s.blk.rd (Reg.EVT_SRCk_CLASS 224) = 0 ∧ s.blk.rd (Reg.EVT_SRCk_CLASS 225) = 0 ∧ s.blk.rd
         (Reg.EVT_SRCk_CLASS 231) = 0
     info ∧ s.blk.safe.autoSince = some t0 ∧ s.blk.on Reg.SAFE_OPT0_AUTO_START = true ∧ s.blk.safe.autoDone = false ∧
     s.blk.rd Reg.SAFE_STAT_CAUSE = 1 ∧ (s.blk.untilUp (t0 + 500 * msPs)).mayReset = true) ∧
    (let s := mk [] [Block.updSafe fun x => { x with autoSince := none }]
     s.blk.safe.autoSince = none) := by
  refine ⟨?_, ?_, ?_, ?_, ?_, ?_, ?_, ?_, ?_, ?_, ?_, ?_, ?_, ?_⟩ <;> decide +kernel

theorem witness_SafetyFramesAndRemoval :
    (let port : Stn := .b
     let s := mk []
     (s.blk.on Reg.SAFE_OPT0_SF_EN = false ∨ s.blk.released 4 = false ∨ s.blk.dma.link (stnNum port) = false)) ∧
    (let port : Stn := .b
     let bs : List Byte := []
     let s := mk [(Reg.SAFE_OPT0_SF_EN, 1)]
     let i := if port = .a then 0 else 1
     let taken := s.blk.on Reg.SAFE_OPT0_SF_EN = true ∧ s.blk.released 4 = true ∧ s.blk.dma.link (stnNum port) = true
     taken ∧ s.blk.injects 3 i = false ∧
     (bs.length < 32 ∨ crc32c (bs.take 28) ≠ field bs 28 4 ∨ field bs 4 4 ≠ s.blk.rd Reg.SAFE_OPT6_CONN_ID)) ∧
    (let port : Stn := .b
     let s := mk [(Reg.SAFE_OPT0_SF_EN, 1), ((Reg.EVT_INJk_REMAIN 3), 5), ((Reg.EVT_INJk_INDEX 3), 1)]
     let i := if port = .a then 0 else 1
     let taken := s.blk.on Reg.SAFE_OPT0_SF_EN = true ∧ s.blk.released 4 = true ∧ s.blk.dma.link (stnNum port) = true
     taken ∧ s.blk.injects 3 i = true) ∧
    (let port : Stn := .b
     let bs : List Byte := sealedC (be 1 1 ++ be 1 1 ++ zeros 6 ++ be 4 9 ++ be 2 0 ++ be 2 65535)
     let s := mk [(Reg.SAFE_OPT0_SF_EN, 1)] [Block.updSafe fun x => { x with accepted := false, copies := [] }]
     let i := if port = .a then 0 else 1
     let sound := bs.length = 32 ∧ crc32c (bs.take 28) = field bs 28 4 ∧ field bs 4 4 = s.blk.rd
         Reg.SAFE_OPT6_CONN_ID ∧ s.blk.injects 3 i = false
     let request := field bs 0 1 = 1 ∧ field bs 1 1 = 1 ∧ field bs 12 2 = 0 ∧ field bs 14 2 = 0xFFFF
     let taken := s.blk.on Reg.SAFE_OPT0_SF_EN = true ∧ s.blk.released 4 = true ∧ s.blk.dma.link (stnNum port) = true
     taken ∧ sound ∧ request ∧ s.blk.safe.accepted = false ∧ s.blk.safe.copies = []) ∧
    (let port : Stn := .b
     let bs : List Byte := sealedC (be 1 1 ++ be 1 1 ++ zeros 6 ++ be 4 9 ++ be 2 0 ++ be 2 65535)
     let cs : List Byte := sealedC (be 1 1 ++ be 1 1 ++ zeros 6 ++ be 4 9 ++ be 2 0 ++ be 2 65535)
     let t0 : Nat := 1
     let other : Stn := .a
     let s := mk [(Reg.SAFE_OPT0_SF_EN, 1)]
         [Block.updSafe fun x => { x with accepted := false, copies := [(cs, other, t0)] }]
     let i := if port = .a then 0 else 1
     let sound := bs.length = 32 ∧ crc32c (bs.take 28) = field bs 28 4 ∧ field bs 4 4 = s.blk.rd
         Reg.SAFE_OPT6_CONN_ID ∧ s.blk.injects 3 i = false
     let request := field bs 0 1 = 1 ∧ field bs 1 1 = 1 ∧ field bs 12 2 = 0 ∧ field bs 14 2 = 0xFFFF
     let taken := s.blk.on Reg.SAFE_OPT0_SF_EN = true ∧ s.blk.released 4 = true ∧ s.blk.dma.link (stnNum port) = true
     taken ∧ sound ∧ request ∧ s.blk.safe.accepted = false ∧ s.blk.safe.copies = [(cs, other, t0)] ∧ other ≠ port ∧
     field cs 8 4 = field bs 8 4 ∧ cs.take 28 = bs.take 28 ∧ s.blk.tb.up ≤ t0 + s.blk.rd Reg.SAFE_OPT7_WIN_MS * msPs ∧
     s.blk.dma.link (1 - stnNum port) = true) ∧
    (let cs : List Byte := []
     let t0 : Nat := 1
     let other : Stn := .b
     let r := ([] : List (List Byte × Stn × Nat))
     let s := mk [((Reg.EVT_SRCk_CLASS 227), 0), ((Reg.EVT_SRCk_CLASS 229), 0), (Reg.SAFE_STAT_STATE, 0)]
         [Block.updSafe fun x => { x with copies := (cs, other, t0) :: r }]
     let info := s.blk.rd (Reg.EVT_SRCk_CLASS 227) = 0 ∧ s.blk.rd (Reg.EVT_SRCk_CLASS 229) = 0
     info ∧ s.blk.safe.copies = (cs, other, t0) :: r ∧ s.blk.rd Reg.SAFE_STAT_STATE = 0) ∧
    (let s := mk [((Reg.EVT_SRCk_CLASS 227), 0), ((Reg.EVT_SRCk_CLASS 229), 0), (Reg.SAFE_OPT0_SF_EN, 1),
         (Reg.SAFE_STAT_STATE, 0)]
         [Block.updSafe fun x => { x with watchRaised := false }]
     let info := s.blk.rd (Reg.EVT_SRCk_CLASS 227) = 0 ∧ s.blk.rd (Reg.EVT_SRCk_CLASS 229) = 0
     info ∧ s.blk.on Reg.SAFE_OPT0_SF_EN = true ∧ s.blk.released 0 = true ∧ s.blk.safe.watchRaised = false ∧
     s.blk.rd Reg.SAFE_STAT_STATE = 0) ∧
    (let t0 : Nat := 1
     let s := mk [((Reg.EVT_SRCk_CLASS 227), 0), ((Reg.EVT_SRCk_CLASS 229), 0), (Reg.SAFE_STAT_STATE, 1)]
         [Block.updSafe fun x => { x with ramp := some t0 }]
     let info := s.blk.rd (Reg.EVT_SRCk_CLASS 227) = 0 ∧ s.blk.rd (Reg.EVT_SRCk_CLASS 229) = 0
     info ∧ s.blk.safe.ramp = some t0 ∧ s.blk.rd Reg.SAFE_STAT_STATE = 1) ∧
    (let s := mk [] [Block.updSafe fun x => { x with ramp := none }]
     s.blk.safe.ramp = none) ∧
    (let s := mk [] [Block.updSafe fun x => { x with removal := some 0 }]
     s.blk.safe.removal = some 0) ∧
    (let s := mk [] [Block.updSafe fun x => { x with removal := some 1 }]
     s.blk.safe.removal = some 1) ∧
    (let s := mk [] [Block.updSafe fun x => { x with removal := some 2 }]
     s.blk.safe.removal = some 2) ∧
    (let s := mk [] [Block.updSafe fun x => { x with removal := none }]
     s.blk.safe.removal = none) ∧
    (let which : Readback := .out2
     let d := (0 : Nat)
     let s := mk [((readbackField which), 0)] [Block.updSafe fun x => { x with outputsAt := some d, switchesAt := some d }]
     let at_ := d + if readbackCode which = 2 then 50 * usPs else msPs
     let b := (s.blk.untilUp at_).flag (readbackField which) true
     (if readbackCode which = 2 then s.blk.safe.switchesAt else s.blk.safe.outputsAt) = some d ∧ s.blk.tb.up ≤ at_ ∧
     s.blk.on (readbackField which) = false ∧ Loggable b { source := 232, code := readbackCode which }) ∧
    (let which : Readback := .out2
     let d := (0 : Nat)
     let s := mk [((readbackField which), 1)] [Block.updSafe fun x => { x with outputsAt := some d, switchesAt := some d }]
     let at_ := d + if readbackCode which = 2 then 50 * usPs else msPs
     (if readbackCode which = 2 then s.blk.safe.switchesAt else s.blk.safe.outputsAt) = some d ∧
     (at_ < s.blk.tb.up ∨ s.blk.on (readbackField which) = true)) ∧
    (let which : Readback := .out2
     let s := mk []
     (if readbackCode which = 2 then s.blk.safe.switchesAt else s.blk.safe.outputsAt) = none) ∧
    (let t0 : Nat := 1
     let s := mk [] [Block.updSafe fun x => { x with restoring := some t0 }]
     let b := s.blk.untilUp (t0 + 10 * msPs)
     s.blk.safe.restoring = some t0 ∧ s.blk.tb.up ≤ t0 + 10 * msPs ∧ Loggable b { source := 232, code := 4 }) ∧
    (let s := mk []
     Loggable s.blk { source := 232, code := 1 }) := by
  refine ⟨?_, ?_, ?_, ?_, ?_, ?_, ?_, ?_, ?_, ?_, ?_, ?_, ?_, ?_, ?_, ?_, ?_, ?_⟩ <;> decide +kernel

theorem witness_OccurrenceLogsAndFrames :
    (let b : Block := (mk []).blk
     let o : Occ := { source := 40 }
     Loggable b o) := by
  decide +kernel

theorem witness_TimeRegisterWrites :
    (let rq : Req := rq0
     let s := mk [] [turn rq 0x11]
     AtTurn s.blk rq 0x11 ∧ s.blk.servoOwns = false) ∧
    (let rq : Req := rq0
     let v : Word := BitVec.ofInt 32 (incMax - 2 ^ 32)
     let s := mk [] [turn rq 0x11]
     AtTurn s.blk rq 0x11 ∧ s.blk.servoOwns = false ∧ inWindow (s.blk.incOf v.toNat) = true ∧
     inWindow (s.blk.incOf v.toNat + s.blk.adjNow) = true) ∧
    (let rq : Req := rq0
     let s := mk [] [turn rq 0x11]
     AtTurn s.blk rq 0x11 ∧ s.blk.servoOwns = false) ∧
    (let rq : Req := rq0
     let v : Word := 1
     let s := mk [] [turn rq 0x11]
     AtTurn s.blk rq 0x11 ∧ s.blk.servoOwns = false ∧ inWindow (s.blk.tb.inc + s.blk.rdS Reg.TIME_ADJ_DELTA_DELTA) = true ∧
     v.toNat ≠ 0) ∧
    (let rq : Req := rq0
     let s := mk [] [turn rq 0x11]
     AtTurn s.blk rq 0x11 ∧ s.blk.servoOwns = false) ∧
    (let rq : Req := rq0
     let s := mk [(Reg.SYS_CONV_STAT_STATE, 0)] [turn rq 0x11, Block.updCst fun x => { x with armed := none }]
     AtTurn s.blk rq 0x11 ∧ s.blk.servoOwns = false ∧ s.blk.rd Reg.SYS_CONV_STAT_STATE = 0 ∧ s.blk.cst.armed = none) ∧
    (let rq : Req := rq0
     let v : Word := BitVec.ofInt 32 (incMax - 2 ^ 32) + 1
     let s := mk [] [turn rq 0x11]
     AtTurn s.blk rq 0x11 ∧ s.blk.servoOwns = false ∧ inWindow (s.blk.incOf v.toNat) = false) ∧
    (let rq : Req := rq0
     let s := mk [(Reg.TIME_SERVO_MODE, 1)] [turn rq 0x11]
     AtTurn s.blk rq 0x11 ∧ s.blk.servoOwns = true) ∧
    (let rq : Req := rq0
     let s := mk [(Reg.SYS_CONV_STAT_STATE, 1)] [turn rq 0x11]
     AtTurn s.blk rq 0x11 ∧ s.blk.rd Reg.SYS_CONV_STAT_STATE ≠ 0) := by
  refine ⟨?_, ?_, ?_, ?_, ?_, ?_, ?_, ?_, ?_⟩ <;> decide +kernel

theorem witness_TimeReadingsAndStamps :
    (let s := mk [] [Block.updTb fun x => { x with run := true }]
     s.blk.tb.run = true) ∧
    (let rq := rq0
     let s := mk [] [turn rq 0x10]
     AtTurn s.blk rq 0x10) ∧
    (let rq := rq0
     let k : Fin 16 := 15
     let x := ((5 : BitVec 96), true)
     let r := ([] : List (BitVec 96 × Bool))
     let s := mk [] [turn rq 0x11, Block.stampShow k (x :: r)]
     AtTurn s.blk rq 0x11 ∧ s.blk.stamps k = x :: r) ∧
    (let k : Fin 16 := 15
     let rising : Bool := true
     let s := mk [((Reg.TIME_TS_CFGk_EDGE k), 3)] [Block.stampShow k (List.replicate 15 (0, true))]
     (s.blk.rd (Reg.TIME_TS_CFGk_EDGE k)).testBit (if rising then 0 else 1) = true ∧ (s.blk.stamps k).length < 16) ∧
    (let k : Fin 16 := 15
     let rising : Bool := true
     let s := mk [((Reg.TIME_TS_STATk_OVF k), 0), ((Reg.TIME_TS_CFGk_EDGE k), 3)]
         [Block.stampShow k (List.replicate 16 (0, true))]
     (s.blk.rd (Reg.TIME_TS_CFGk_EDGE k)).testBit (if rising then 0 else 1) = true ∧ (s.blk.stamps k).length = 16 ∧
     s.blk.on (Reg.TIME_TS_STATk_OVF k) = false ∧ Loggable s.blk { source := 68, unitType := 9, idx := k }) := by
  refine ⟨?_, ?_, ?_, ?_, ?_⟩ <;> decide +kernel

theorem witness_PtpDomains :
    (let m : PtpMsg := { pm0 with kind := .announce }
     let x : Fin 2 := 1
     let s := mk [((Reg.TIME_DOM_CFG_EN 1), 1), ((Reg.TIME_DOM_CFG_PORT 1), 1), ((Reg.TIME_DOM_STAT_STATE 1), 1)]
         [Block.updDom x fun x => { x with best := none }]
     m.fcsOk = true ∧ s.blk.injects 3 (stnNum m.port) = false ∧ m.inProfile = true ∧ s.blk.cores = true ∧
     s.blk.dma.link (stnNum m.port) = true ∧ s.blk.domsOn (stnNum m.port) m.domain.toNat = [x.val] ∧
     s.blk.servoOwns = false ∧ m.kind = .announce ∧ (s.blk.dom x).best = none) ∧
    (let m : PtpMsg := { pm0 with kind := .sync, twoStep := true }
     let x : Fin 2 := 1
     let s := mk [((Reg.TIME_DOM_CFG_EN 1), 1), ((Reg.TIME_DOM_CFG_PORT 1), 1)]
         [Block.updDom x fun x => { x with best := some (5, 7) }]
     m.fcsOk = true ∧ s.blk.injects 3 (stnNum m.port) = false ∧ m.inProfile = true ∧ s.blk.cores = true ∧
     s.blk.dma.link (stnNum m.port) = true ∧ s.blk.domsOn (stnNum m.port) m.domain.toNat = [x.val] ∧
     s.blk.servoOwns = false ∧ m.kind = .sync ∧ m.twoStep = true ∧ (s.blk.dom x).best.map (·.2) = some m.source) ∧
    (let m : PtpMsg := { pm0 with kind := .sync }
     let x : Fin 2 := 1
     let s := mk [((Reg.TIME_DOM_CFG_EN 1), 1), ((Reg.TIME_DOM_CFG_PORT 1), 1)]
         [Block.updDom x fun x => { x with best := some (5, 7) }]
     let offs : Int := rdiv (m.origin.toNat * 65536 + m.correction + (s.blk.dom x).delay16 - s.blk.rxStamp (stnNum
         m.port)) 65536
     m.fcsOk = true ∧ s.blk.injects 3 (stnNum m.port) = false ∧ m.inProfile = true ∧ s.blk.cores = true ∧
     s.blk.dma.link (stnNum m.port) = true ∧ s.blk.domsOn (stnNum m.port) m.domain.toNat = [x.val] ∧
     s.blk.servoOwns = false ∧ m.kind = .sync ∧ m.twoStep = false ∧ (s.blk.dom x).best.map (·.2) = some m.source ∧
     offs = rdiv (m.origin.toNat * 65536 + m.correction + (s.blk.dom x).delay16 - s.blk.rxStamp (stnNum m.port)) 65536) ∧
    (let m : PtpMsg := { pm0 with kind := .followUp }
     let x : Fin 2 := 1
     let s := mk [((Reg.TIME_DOM_CFG_EN 1), 1), ((Reg.TIME_DOM_CFG_PORT 1), 1)]
         [Block.updDom x fun x => { x with best := some (5, 7), syncSeq := some 1 }]
     let offs : Int := rdiv (m.origin.toNat * 65536 + m.correction + (s.blk.dom x).delay16 - (s.blk.dom x).syncRx) 65536
     m.fcsOk = true ∧ s.blk.injects 3 (stnNum m.port) = false ∧ m.inProfile = true ∧ s.blk.cores = true ∧
     s.blk.dma.link (stnNum m.port) = true ∧ s.blk.domsOn (stnNum m.port) m.domain.toNat = [x.val] ∧
     s.blk.servoOwns = false ∧ m.kind = .followUp ∧ (s.blk.dom x).best.map (·.2) = some m.source ∧
     (s.blk.dom x).syncSeq = some m.seq ∧
     offs = rdiv (m.origin.toNat * 65536 + m.correction + (s.blk.dom x).delay16 - (s.blk.dom x).syncRx) 65536) ∧
    (let m : PtpMsg := { pm0 with kind := .pdelayReq }
     let x : Fin 2 := 1
     let s := mk [((Reg.TIME_DOM_CFG_EN 1), 1), ((Reg.TIME_DOM_CFG_PORT 1), 1)]
     m.fcsOk = true ∧ s.blk.injects 3 (stnNum m.port) = false ∧ m.inProfile = true ∧ s.blk.cores = true ∧
     s.blk.dma.link (stnNum m.port) = true ∧ s.blk.domsOn (stnNum m.port) m.domain.toNat = [x.val] ∧
     s.blk.servoOwns = false ∧ m.kind = .pdelayReq) ∧
    (let m : PtpMsg := { pm0 with kind := .pdelayResp }
     let x : Fin 2 := 1
     let s := mk [((Reg.TIME_DOM_CFG_EN 1), 1), ((Reg.TIME_DOM_CFG_PORT 1), 1)]
         [Block.updPtp fun x => { x with pdSeq := [(1, 2)] }]
     m.fcsOk = true ∧ s.blk.injects 3 (stnNum m.port) = false ∧ m.inProfile = true ∧ s.blk.cores = true ∧
     s.blk.dma.link (stnNum m.port) = true ∧ s.blk.domsOn (stnNum m.port) m.domain.toNat = [x.val] ∧
     s.blk.servoOwns = false ∧ m.kind = .pdelayResp ∧ m.twoStep = false ∧
     SMap.look 0 s.blk.ptp.pdSeq (stnNum m.port) = m.seq.toNat + 1) ∧
    (let m : PtpMsg := pm0
     let s := mk [] [Block.updDma fun x => { x with linkA := false, linkB := false }]
     s.blk.injects 3 (stnNum m.port) = false ∧ m.fcsOk = true ∧ s.blk.dma.link (stnNum m.port) = false) ∧
    (let port : Stn := .b
     let x : Fin 2 := 1
     let s := mk [((Reg.TIME_DOM_CFG_EN x), 1), ((Reg.TIME_DOM_CFG_PORT x), stnNum port)]
     s.blk.cores = true ∧ s.blk.dma.link (stnNum port) = true ∧ s.blk.on (Reg.TIME_DOM_CFG_EN x) = true ∧
     s.blk.rd (Reg.TIME_DOM_CFG_PORT x) = stnNum port) ∧
    (let x : Fin 2 := 1
     let t0 : Nat := 1
     let s := mk [((Reg.TIME_DOM_STAT_STATE x), 3)] [Block.updDom x fun x => { x with syncAt := some t0 }]
     let due := min ((s.blk.dom x).announceAt + 3 * ptpInterval (s.blk.dom x).announceIv) (t0 + 3 * ptpInterval
         (s.blk.dom x).interval)
     s.blk.cores = true ∧ s.blk.rd (Reg.TIME_DOM_STAT_STATE x) = 3 ∧ s.blk.servoOwns = false ∧
     (s.blk.dom x).syncAt = some t0 ∧ Loggable (s.blk.untilUp due) { source := 64, unitType := 13, idx := x }) := by
  refine ⟨?_, ?_, ?_, ?_, ?_, ?_, ?_, ?_, ?_⟩ <;> decide +kernel

theorem witness_ClocksAndMonitors :
    (let pll := Pll.core
     let s := mk [] [fun b => { b with clk := { b.clk with failed := [], holdover := [] } }]
     pllNum pll ∉ s.blk.clk.holdover) ∧
    (let pll := Pll.core
     let s := mk [] [fun b => { b with clk := { b.clk with failed := [], holdover := [] } }]
     0 ∉ s.blk.clk.failed ∧ (∀ e : Fin 16, pll = .lane e → s.blk.bit Reg.LINK_ENGINES_ON e = true)) ∧
    (let pll := Pll.stn
     let s := mk [] [fun b => { b with clk := { b.clk with failed := [], holdover := [] } }]
     (∀ e, pll ≠ .lane e) ∧ Loggable s.blk { source := 45, unitType := 12, idx := pllNum pll - 1 }) ∧
    (let e : Fin 16 := 15
     let s := mk []
         [Block.setBit Reg.LINK_ENGINES_ON e true,
          fun b => { b with clk := { b.clk with failed := [], holdover := [] } }]
     s.blk.bit Reg.LINK_ENGINES_ON e = true ∧ Loggable s.blk { source := 45, unitType := 12, idx := e }) ∧
    (let e : Fin 16 := 15
     let s := mk [] [fun b => { b with clk := { b.clk with failed := [], holdover := [] } }]
     s.blk.bit Reg.LINK_ENGINES_ON e = false) ∧
    (let s := mk [] [fun b => { b with clk := { b.clk with failed := [], holdover := [] } }]
     let news (n : Nat) : Prop := n ∉ s.blk.clk.failed ∨ n ∉ s.blk.clk.reported
     news 1 ∧ Loggable s.blk { source := 40 }) ∧
    (let s := mk [] [fun b => { b with clk := { b.clk with failed := [], holdover := [] } }]
     let news (n : Nat) : Prop := n ∉ s.blk.clk.failed ∨ n ∉ s.blk.clk.reported
     news 2 ∧ Loggable s.blk { source := 41 }) ∧
    (let s := mk [(Reg.SYS_PAIR_CFG_EN, 1)] [fun b => { b with clk := { b.clk with failed := [], holdover := [] } }]
     let news (n : Nat) : Prop := n ∉ s.blk.clk.failed ∨ n ∉ s.blk.clk.reported
     news 3 ∧ s.blk.on Reg.SYS_PAIR_CFG_EN = true ∧ Loggable s.blk { source := 43, unitType := 12 }) ∧
    (let s := mk [] [fun b => { b with clk := { b.clk with failed := [], holdover := [] } }]
     let news (n : Nat) : Prop := n ∉ s.blk.clk.failed ∨ n ∉ s.blk.clk.reported
     news 0 ∧ Loggable s.blk { source := 39 }) ∧
    (let s := mk [] [fun b => { b with clk := { b.clk with failed := [], holdover := [] } }]
     let news (n : Nat) : Prop := n ∉ s.blk.clk.failed ∨ n ∉ s.blk.clk.reported
     news 4 ∧ (∀ x : Fin 2, s.blk.on (Reg.TIME_DOM_CFG_EN x) = false) ∧ Loggable s.blk { source := 44, unitType := 12 }) ∧
    (let e : Fin 16 := 15
     let s := mk []
         [Block.setBit Reg.LINK_ENGINES_ON e true,
          fun b => { b with clk := { b.clk with failed := [], holdover := [] } }]
     let news (n : Nat) : Prop := n ∉ s.blk.clk.failed ∨ n ∉ s.blk.clk.reported
     news (5 + e) ∧ s.blk.bit Reg.LINK_ENGINES_ON e = true ∧
     (∀ i : Fin 12, s.blk.rd (Reg.LINK_STAT_STATE (i + 12 * e)) ≠ 4) ∧
     Loggable s.blk { source := 42, unitType := 12, idx := e }) ∧
    (let mon := Monitor.lane 15
     let s := mk []
         [fun b => { b with clk := { b.clk with failed := [], holdover := [] } },
          fun b => { b with clk := { b.clk with failed := [monNum mon], reported := [monNum mon] } }]
     monNum mon ∈ s.blk.clk.failed ∧ monNum mon ∈ s.blk.clk.reported) ∧
    (let s := mk [] [fun b => { b with clk := { b.clk with failed := [], holdover := [] } }]
     1 ∉ s.blk.clk.holdover ∧ 1 ∉ s.blk.clk.failed) := by
  refine ⟨?_, ?_, ?_, ?_, ?_, ?_, ?_, ?_, ?_, ?_, ?_, ?_, ?_⟩ <;> decide +kernel

theorem witness_AdcControlAndData :
    (let rq : Req := rq0
     let s := mk [(Reg.SYS_CONV_STAT_STATE, 0)] [turn rq 0x11]
     let ctrl := [Reg.ADC_CTRL_SCAN, Reg.ADC_CTRL_CAPTURE_HALT, Reg.ADC_CTRL_ROT_HOLD, Reg.ADC_CTRL_HOST,
         Reg.ADC_CTRL_SCAN_DELAY]
     AtTurn s.blk rq 0x11 ∧ s.blk.rd Reg.SYS_CONV_STAT_STATE = 0 ∧ (∀ f ∈ ctrl, s.blk.rd f < 2 ^ f.width)) ∧
    (let rq : Req := rq0
     let s := mk [(Reg.SYS_CONV_STAT_STATE, 0)] [turn rq 0x11]
     let ctrl := [Reg.ADC_CTRL_SCAN, Reg.ADC_CTRL_CAPTURE_HALT, Reg.ADC_CTRL_ROT_HOLD, Reg.ADC_CTRL_HOST,
         Reg.ADC_CTRL_SCAN_DELAY]
     let rests (n : Nat) : Bool := s.blk.rd (Reg.ADC_CONVk_STATE n) != 1
     AtTurn s.blk rq 0x11 ∧ s.blk.rd Reg.SYS_CONV_STAT_STATE = 0 ∧ (∀ f ∈ ctrl, s.blk.rd f < 2 ^ f.width) ∧
     (s.blk.adc.on = false ∨ (List.range 9).all rests = true)) ∧
    (let rq : Req := rq0
     let on : Bool := true
     let m : Fin 9 := 8
     let s := mk [(Reg.SYS_CONV_STAT_STATE, 0), (Reg.ADC_CTRL_ROT_HOLD, 0), ((Reg.ADC_CONVk_STATE m), 1)]
         [turn rq 0x11,
          Block.updAdc fun x => { x with on := true }]
     let ctrl := [Reg.ADC_CTRL_SCAN, Reg.ADC_CTRL_CAPTURE_HALT, Reg.ADC_CTRL_ROT_HOLD, Reg.ADC_CTRL_HOST,
         Reg.ADC_CTRL_SCAN_DELAY]
     let rests (n : Nat) : Bool := s.blk.rd (Reg.ADC_CONVk_STATE n) != 1
     AtTurn s.blk rq 0x11 ∧ s.blk.rd Reg.SYS_CONV_STAT_STATE = 0 ∧ (∀ f ∈ ctrl, s.blk.rd f < 2 ^ f.width) ∧
     s.blk.adc.on = true ∧ s.blk.shortCal = false ∧ s.blk.on Reg.ADC_CTRL_ROT_HOLD = false ∧
     s.blk.rd (Reg.ADC_CONVk_STATE m) = 1 ∧ (List.range m).all rests = true) ∧
    (let rq : Req := rq0
     let s := mk [(Reg.SYS_CONV_STAT_STATE, 0)] [turn rq 0x11]
     let ctrl := [Reg.ADC_CTRL_SCAN, Reg.ADC_CTRL_CAPTURE_HALT, Reg.ADC_CTRL_ROT_HOLD, Reg.ADC_CTRL_HOST,
         Reg.ADC_CTRL_SCAN_DELAY]
     AtTurn s.blk rq 0x11 ∧ s.blk.rd Reg.SYS_CONV_STAT_STATE = 0 ∧ (∀ f ∈ ctrl, s.blk.rd f < 2 ^ f.width) ∧
     (s.blk.on Reg.ADC_CTRL_ROT_HOLD = false ∨ s.blk.adc.on = false)) ∧
    (let rq : Req := rq0
     let on : Bool := true
     let m : Fin 9 := 8
     let s := mk [(Reg.SYS_CONV_STAT_STATE, 0), (Reg.ADC_CTRL_ROT_HOLD, 1), (Reg.ADC_STAT_NOROT, 0),
         ((Reg.ADC_CONVk_STATE m), 2)]
         [turn rq 0x11,
          Block.updAdc fun x => { x with on := true }]
     let ctrl := [Reg.ADC_CTRL_SCAN, Reg.ADC_CTRL_CAPTURE_HALT, Reg.ADC_CTRL_ROT_HOLD, Reg.ADC_CTRL_HOST,
         Reg.ADC_CTRL_SCAN_DELAY]
     let rests (n : Nat) : Bool := s.blk.rd (Reg.ADC_CONVk_STATE n) != 1
     AtTurn s.blk rq 0x11 ∧ s.blk.rd Reg.SYS_CONV_STAT_STATE = 0 ∧ (∀ f ∈ ctrl, s.blk.rd f < 2 ^ f.width) ∧
     s.blk.on Reg.ADC_CTRL_ROT_HOLD = true ∧ s.blk.on Reg.ADC_STAT_NOROT = false ∧ s.blk.adc.on = true ∧
     s.blk.shortCal = false ∧ s.blk.rd (Reg.ADC_CONVk_STATE m) = 2 ∧
     (List.range m).all (fun n => rests n && s.blk.rd (Reg.ADC_CONVk_STATE n) != 2) = true) ∧
    (let rq : Req := rq0
     let s := mk [(Reg.SYS_CONV_STAT_STATE, 0)] [turn rq 0x11]
     let ctrl := [Reg.ADC_CTRL_SCAN, Reg.ADC_CTRL_CAPTURE_HALT, Reg.ADC_CTRL_ROT_HOLD, Reg.ADC_CTRL_HOST,
         Reg.ADC_CTRL_SCAN_DELAY]
     AtTurn s.blk rq 0x11 ∧ s.blk.rd Reg.SYS_CONV_STAT_STATE = 0 ∧ (∀ f ∈ ctrl, s.blk.rd f < 2 ^ f.width) ∧
     (s.blk.adc.on && s.blk.adc.scanning) = false) ∧
    (let rq : Req := rq0
     let on : Bool := true
     let s := mk [(Reg.SYS_CONV_STAT_STATE, 0)]
         [turn rq 0x11,
          Block.updAdc fun x => { x with on := true, scanning := true }]
     let ctrl := [Reg.ADC_CTRL_SCAN, Reg.ADC_CTRL_CAPTURE_HALT, Reg.ADC_CTRL_ROT_HOLD, Reg.ADC_CTRL_HOST,
         Reg.ADC_CTRL_SCAN_DELAY]
     AtTurn s.blk rq 0x11 ∧ s.blk.rd Reg.SYS_CONV_STAT_STATE = 0 ∧ (∀ f ∈ ctrl, s.blk.rd f < 2 ^ f.width) ∧
     s.blk.adc.on = true ∧ s.blk.adc.scanning = true) ∧
    (let rq : Req := rq0
     let s := mk [] [turn rq 0x10]
     AtTurn s.blk rq 0x10) := by
  refine ⟨?_, ?_, ?_, ?_, ?_, ?_, ?_, ?_⟩ <;> decide +kernel

theorem witness_AdcConversions :
    (let k : Fin 8 := 7
     let m : Nat := 3
     let s := mk [((Reg.ADC_CONVk_SEQ 3), 7), ((Reg.ADC_CONVk_STATE 3), 0)]
         [Block.updAdc fun x => { x with on := true },
          Block.updSeq k fun x => { x with running := true, restart := false, d := 2, done := 0 }]
     s.blk.adc.on = true ∧ s.blk.serving k = some m ∧ (s.blk.sequ k).running = true ∧ (s.blk.sequ k).restart = false ∧
     (s.blk.sequ k).done < (s.blk.sequ k).d ∧ ((s.blk.sequ k).done + 1 < (s.blk.sequ k).d ∨ 1 ≤ (s.blk.sequ k).n)) ∧
    (let k : Fin 8 := 7
     let m : Nat := 3
     let s := mk [((Reg.ADC_DATAk_VALID k), 0), ((Reg.ADC_CONVk_SEQ 3), 7), ((Reg.ADC_CONVk_STATE 3), 0),
         ((Reg.ADC_IN_CFGi_OW 9), 0)]
         [Block.updAdc fun x => { x with on := true },
          Block.updSeq k fun x => { x with running := true, restart := false, d := 1, done := 1, n := 1, ain := 9 }]
     s.blk.adc.on = true ∧ s.blk.serving k = some m ∧ (s.blk.sequ k).running = true ∧ (s.blk.sequ k).restart = false ∧
     (s.blk.sequ k).d ≤ (s.blk.sequ k).done ∧ s.blk.on (Reg.ADC_DATAk_VALID k) = false ∧
     s.blk.rd (Reg.ADC_IN_CFGi_OW (s.blk.sequ k).ain) = 0) := by
  refine ⟨?_, ?_⟩ <;> decide +kernel

theorem witness_AdcCalibrationAndRotation :
    (let m : Fin 9 := 8
     let cal : List CalRange := goodCal
     let s := mk [((Reg.ADC_CONVk_STATE m), 1)]
         [Block.updAdc fun x => { x with on := true },
          Block.updKconv m fun x => { x with short := false }]
     s.blk.adc.on = true ∧ s.blk.rd (Reg.ADC_CONVk_STATE m) = 1 ∧ (s.blk.kconv m).short = false ∧ calPass cal = true) ∧
    (let m : Fin 9 := 8
     let s := mk [((Reg.ADC_CONVk_STATE m), 1)]
         [Block.updAdc fun x => { x with on := true },
          Block.updKconv m fun x => { x with short := true, shortDone := none }]
     s.blk.adc.on = true ∧ s.blk.rd (Reg.ADC_CONVk_STATE m) = 1 ∧ (s.blk.kconv m).short = true ∧
     (s.blk.kconv m).shortDone = none ∧ (∃ i : Fin 9, i ≠ m ∧ (s.blk.kconv i).shortDone = none)) ∧
    (let m : Fin 9 := 8
     let cal : List CalRange := []
     let s := mk [((Reg.ADC_CONVk_STATE m), 1)]
         [Block.updAdc fun x => { x with on := true },
          Block.updKconv m fun x => { x with short := false }]
     s.blk.adc.on = true ∧ s.blk.rd (Reg.ADC_CONVk_STATE m) = 1 ∧ (s.blk.kconv m).short = false ∧ calPass cal = false ∧
     Loggable (s.blk.untilUp ((s.blk.kconv m).calAt + 10000 * msPs)) { source := 7, unitType := 11, idx := m }) ∧
    (let s := mk [(Reg.ADC_STAT_NOROT, 1)] [Block.updAdc fun x => { x with on := true }]
     s.blk.adc.on = true ∧ s.blk.on Reg.ADC_STAT_NOROT = true) ∧
    (let m : Fin 9 := 8
     let o : Nat := 0
     let s := mk [(Reg.ADC_CTRL_ROT_HOLD, 0), (Reg.ADC_STAT_NOROT, 0), ((Reg.ADC_CONVk_STATE 8), 2),
         ((Reg.ADC_CONVk_STATE 0), 0), ((Reg.ADC_CONVk_SEQ 0), 0)]
         [Block.updAdc fun x => { x with on := true }]
     s.blk.adc.on = true ∧ (List.range 9).find? (fun j => s.blk.rd (Reg.ADC_CONVk_STATE j) == 2) = some m.val ∧
     s.blk.serving s.blk.adc.rotNext = some o ∧ s.blk.on Reg.ADC_CTRL_ROT_HOLD = false ∧ s.blk.on Reg.ADC_STAT_NOROT = false) := by
  refine ⟨?_, ?_, ?_, ?_, ?_⟩ <;> decide +kernel

theorem witness_LinkTestCommands :
    (let rq : Req := rq0
     let l : Fin 192 := 191
     let s := mk [((Reg.LINK_TEST_CTRL_PATTERN l), 3), ((Reg.LINK_TEST_CTRL_LEN l), 63), (Reg.SYS_CONV_POP_NPOP, 0)]
         [turn rq 0x11]
     AtTurn s.blk rq 0x11 ∧ s.blk.rd (Reg.LINK_TEST_CTRL_PATTERN l) < 4 ∧ s.blk.rd (Reg.LINK_TEST_CTRL_LEN l) < 64 ∧
     s.blk.denyTest l (2 ^ 16) = 0) ∧
    (let rq : Req := rq0
     let l : Fin 192 := 191
     let s := mk [((Reg.LINK_TEST_CTRL_PATTERN l), 3), ((Reg.LINK_TEST_CTRL_LEN l), 63),
         (Reg.SYS_CONV_POP_NPOP, 64), ((Reg.LINK_STAT_STATE l), 4)]
         [turn rq 0x11]
     AtTurn s.blk rq 0x11 ∧ s.blk.rd (Reg.LINK_TEST_CTRL_PATTERN l) < 4 ∧ s.blk.rd (Reg.LINK_TEST_CTRL_LEN l) < 64 ∧
     s.blk.denyTest l (2 ^ 16) ≠ 0) ∧
    (let rq : Req := rq0
     let l : Fin 192 := 191
     let s := mk [((Reg.LINK_TEST_CTRL_PATTERN l), 3), ((Reg.LINK_TEST_CTRL_LEN l), 63),
         ((Reg.LINK_STAT_STATE l), 5), (Reg.SYS_CONV_POP_NPOP, 64)]
         [turn rq 0x11,
          Block.updLane l fun x => { x with dark := false, lenExp := 0 }]
     AtTurn s.blk rq 0x11 ∧ s.blk.rd (Reg.LINK_TEST_CTRL_PATTERN l) < 4 ∧ s.blk.rd (Reg.LINK_TEST_CTRL_LEN l) < 64 ∧
     s.blk.rd (Reg.LINK_STAT_STATE l) = 5 ∧ (s.blk.lane l).dark = false ∧ (s.blk.lane l).lenExp = 0 ∧
     s.blk.populated l = true) ∧
    (let rq : Req := rq0
     let l : Fin 192 := 191
     let s := mk [((Reg.LINK_TEST_CTRL_PATTERN l), 3), ((Reg.LINK_TEST_CTRL_LEN l), 63),
         ((Reg.LINK_STAT_STATE l), 5), (Reg.SYS_CONV_POP_NPOP, 0)]
         [turn rq 0x11,
          Block.updLane l fun x => { x with dark := false, lenExp := 0 }]
     AtTurn s.blk rq 0x11 ∧ s.blk.rd (Reg.LINK_TEST_CTRL_PATTERN l) < 4 ∧ s.blk.rd (Reg.LINK_TEST_CTRL_LEN l) < 64 ∧
     s.blk.rd (Reg.LINK_STAT_STATE l) = 5 ∧ (s.blk.lane l).dark = false ∧ (s.blk.lane l).lenExp = 0 ∧
     s.blk.populated l = false) := by
  refine ⟨?_, ?_, ?_, ?_⟩ <;> decide +kernel

theorem witness_HostChannelCommands :
    (let rq : Req := rq0
     let n : Fin 32 := 31
     let s := mk [((Reg.DMA_CH_STAT_BUSY n), 0), (Reg.SYS_PWR_STAT_STATE, 2),
         ((Reg.DMA_CH_SRC_SRC n), 0x1FFFFFC), ((Reg.DMA_CH_LEN_LEN n), 4), ((Reg.DMA_CH_CTRL_DEC n), 1),
         ((Reg.DMA_CH_RING_BASE_BASE n), 0x7FFC0), ((Reg.DMA_CH_RING_SIZE_SIZE n), 64)]
         [turn rq 0x11]
     AtTurn s.blk rq 0x11 ∧ 16 ≤ n.val ∧ s.blk.denyLoad n = 0 ∧ s.blk.on (Reg.DMA_CH_STAT_BUSY n) = false ∧
     s.blk.rd Reg.SYS_PWR_STAT_STATE < 3) ∧
    (let rq : Req := rq0
     let n : Fin 32 := 31
     let s := mk [((Reg.DMA_CH_SRC_SRC n), 0x1FFFFFC), ((Reg.DMA_CH_LEN_LEN n), 4), ((Reg.DMA_CH_CTRL_DEC n), 1),
         ((Reg.DMA_CH_RING_BASE_BASE n), 0x7FFC0), ((Reg.DMA_CH_RING_SIZE_SIZE n), 64), (Reg.SYS_PWR_STAT_STATE, 3)]
         [turn rq 0x11]
     AtTurn s.blk rq 0x11 ∧ 16 ≤ n.val ∧ s.blk.denyLoad n = 0 ∧ 3 ≤ s.blk.rd Reg.SYS_PWR_STAT_STATE) ∧
    (let rq : Req := rq0
     let n : Fin 32 := 31
     let s := mk [((Reg.DMA_CH_STAT_BUSY n), 1), (Reg.SYS_PWR_STAT_STATE, 2),
         ((Reg.DMA_CH_SRC_SRC n), 0x1FFFFFC), ((Reg.DMA_CH_LEN_LEN n), 4), ((Reg.DMA_CH_CTRL_DEC n), 1),
         ((Reg.DMA_CH_RING_BASE_BASE n), 0x7FFC0), ((Reg.DMA_CH_RING_SIZE_SIZE n), 64)]
         [turn rq 0x11]
     AtTurn s.blk rq 0x11 ∧ 16 ≤ n.val ∧ s.blk.denyLoad n = 0 ∧ s.blk.on (Reg.DMA_CH_STAT_BUSY n) = true ∧
     s.blk.rd Reg.SYS_PWR_STAT_STATE < 3) ∧
    (let rq : Req := rq0
     let n : Fin 32 := 31
     let s := mk [] [turn rq 0x11]
     AtTurn s.blk rq 0x11 ∧ 16 ≤ n.val ∧ s.blk.denyLoad n ≠ 0) ∧
    (let rq : Req := rq0
     let n : Fin 32 := 31
     let s := mk [((Reg.DMA_CH_STAT_BUSY n), 0)] [turn rq 0x11]
     AtTurn s.blk rq 0x11 ∧ 16 ≤ n.val ∧ s.blk.on (Reg.DMA_CH_STAT_BUSY n) = false) ∧
    (let rq : Req := rq0
     let n : Fin 32 := 31
     let s := mk [((Reg.DMA_CH_STAT_BUSY n), 1)] [turn rq 0x11]
     AtTurn s.blk rq 0x11 ∧ 16 ≤ n.val ∧ s.blk.on (Reg.DMA_CH_STAT_BUSY n) = true) ∧
    (let rq : Req := rq0
     let n : Fin 32 := 15
     let s := mk [] [turn rq 0x11]
     AtTurn s.blk rq 0x11 ∧ n.val < 16) := by
  refine ⟨?_, ?_, ?_, ?_, ?_, ?_, ?_⟩ <;> decide +kernel

theorem witness_OtherControlWrites :
    (let rq : Req := rq0
     let s := mk [] [turn rq 0x11]
     AtTurn s.blk rq 0x11) ∧
    (let rq : Req := rq0
     let s := mk [(Reg.DMA_STAT_HALTED, 0)] [turn rq 0x11]
     AtTurn s.blk rq 0x11 ∧ s.blk.on Reg.DMA_STAT_HALTED = false) ∧
    (let rq : Req := rq0
     let s := mk [(Reg.SYS_PAIR_CFG_EN, 1), (Reg.SYS_PAIR_STAT_TOKEN, 1), (Reg.SYS_PAIR_STAT_PEER_READY, 1)] [turn rq 0x11]
     AtTurn s.blk rq 0x11 ∧ s.blk.on Reg.SYS_PAIR_CFG_EN = true ∧ s.blk.on Reg.SYS_PAIR_STAT_TOKEN = true ∧
     s.blk.on Reg.SYS_PAIR_STAT_PEER_READY = true) ∧
    (let rq : Req := rq0
     let s := mk [(Reg.SYS_CONV_STAT_STATE, 0)] [turn rq 0x11]
     AtTurn s.blk rq 0x11 ∧ s.blk.rd Reg.SYS_CONV_STAT_STATE = 0) := by
  refine ⟨?_, ?_, ?_, ?_⟩ <;> decide +kernel

theorem witness_StreamCommands :
    (let rq : Req := rq0
     let d : StreamDesc := sd0
     let s := mk [] [turn rq 0x31, fun b => { b with pow := { b.pow with cages := [(1, .base10Sr)] } }]
     AtTurn s.blk rq 0x31 ∧ 1 ≤ d.ranges.length ∧ d.ranges.length ≤ 8 ∧ s.blk.streamRefusal d = none) ∧
    (let rq : Req := rq0
     let x : StreamSt := { (default : StreamSt) with desc := sd0, sent := 5 }
     let k : BitVec 8 := 7
     let s := mk [] [turn rq 0x32, Block.setStream 7 x]
     AtTurn s.blk rq 0x32 ∧ k.toNat ≤ 7 ∧ s.blk.streamOf k.toNat = some x ∧ x.busy = false) ∧
    (let rq : Req := rq0
     let x : StreamSt := { (default : StreamSt) with desc := sd0, sent := 5, busy := true }
     let k : BitVec 8 := 7
     let s := mk [] [turn rq 0x32, Block.setStream 7 x]
     AtTurn s.blk rq 0x32 ∧ k.toNat ≤ 7 ∧ s.blk.streamOf k.toNat = some x ∧ x.busy = true) := by
  refine ⟨?_, ?_, ?_⟩ <;> decide +kernel

theorem witness_StreamPackets :
    (let k : Fin 8 := 7
     let x : StreamSt := { (default : StreamSt) with desc := sd0, busy := true }
     let port : Stn := .a
     let s := mk [] [Block.setStream k x]
     let p := stnNum port
     let fits := s.blk.roomAt p (s.blk.wireBytes x.desc) ≤ s.blk.tb.up
     let one := x.desc.route.toNat.testBit p = true ∧ x.desc.route.toNat.testBit (1 - p) = false
     let ready := s.blk.streamOf k = some x ∧ x.busy = true ∧ x.packet = none ∧ ∀ j < k.val, j ∉ s.blk.busyStreams
     ready ∧ one ∧ x.closing = false ∧ s.blk.dma.link p = true ∧ fits) ∧
    (let k : Fin 8 := 7
     let x : StreamSt := { (default : StreamSt) with desc := sd0, busy := true }
     let port : Stn := .a
     let s := mk [] [Block.setStream k x, Block.updDma fun x => { x with linkA := false, linkB := true }]
     let p := stnNum port
     let one := x.desc.route.toNat.testBit p = true ∧ x.desc.route.toNat.testBit (1 - p) = false
     let ready := s.blk.streamOf k = some x ∧ x.busy = true ∧ x.packet = none ∧ ∀ j < k.val, j ∉ s.blk.busyStreams
     ready ∧ one ∧ x.closing = false ∧ s.blk.dma.link p = false) ∧
    (let k : Fin 8 := 7
     let x : StreamSt := { (default : StreamSt) with desc := sd0, busy := true }
     let port : Stn := .a
     let s := mk [] [Block.setStream k x, Block.updDma fun x => { x with emptyA := 10 ^ 12 }]
     let p := stnNum port
     let fits := s.blk.roomAt p (s.blk.wireBytes x.desc) ≤ s.blk.tb.up
     let one := x.desc.route.toNat.testBit p = true ∧ x.desc.route.toNat.testBit (1 - p) = false
     let ready := s.blk.streamOf k = some x ∧ x.busy = true ∧ x.packet = none ∧ ∀ j < k.val, j ∉ s.blk.busyStreams
     ready ∧ one ∧ s.blk.dma.link p = true ∧ ¬ fits) ∧
    (let k : Fin 8 := 7
     let x : StreamSt := { (default : StreamSt) with desc := { sd0 with route := 3 }, busy := true }
     let port : Stn := .a
     let s := mk [] [Block.setStream k x, Block.updDma fun x => { x with linkA := true, linkB := false }]
     let p := stnNum port
     let fits := s.blk.roomAt p (s.blk.wireBytes x.desc) ≤ s.blk.tb.up
     let ready := s.blk.streamOf k = some x ∧ x.busy = true ∧ x.packet = none ∧ ∀ j < k.val, j ∉ s.blk.busyStreams
     ready ∧ x.desc.route.toNat.testBit 0 = true ∧ x.desc.route.toNat.testBit 1 = true ∧ x.closing = false ∧
     s.blk.dma.link p = true ∧ fits ∧ s.blk.dma.link (1 - p) = false) ∧
    (let k : Fin 8 := 7
     let x : StreamSt := { (default : StreamSt) with desc := { sd0 with route := 3 }, busy := true }
     let port : Stn := .a
     let s := mk [] [Block.setStream k x]
     let p := stnNum port
     let fits := s.blk.roomAt p (s.blk.wireBytes x.desc) ≤ s.blk.tb.up
     let ready := s.blk.streamOf k = some x ∧ x.busy = true ∧ x.packet = none ∧ ∀ j < k.val, j ∉ s.blk.busyStreams
     ready ∧ x.desc.route.toNat.testBit 0 = true ∧ x.desc.route.toNat.testBit 1 = true ∧ x.closing = false ∧
     s.blk.dma.link p = true ∧ fits ∧ s.blk.dma.link (1 - p) = true ∧
     s.blk.roomAt (1 - p) (s.blk.wireBytes x.desc) ≤ s.blk.tb.up) ∧
    (let k : Fin 8 := 7
     let x : StreamSt := { (default : StreamSt) with desc := sd0, busy := true, closing := true }
     let port : Stn := .a
     let q := ({ req := rq0, op := 0x41, wait := .streamClose k, disarmed := false } : QCmd)
     let s := mk []
         [Block.setStream k x,
          Block.updJv fun y => { y with queue := [q] },
          Block.updJv fun x => { x with queue := [q] }]
     let p := stnNum port
     let fits := s.blk.roomAt p (s.blk.wireBytes x.desc) ≤ s.blk.tb.up
     let one := x.desc.route.toNat.testBit p = true ∧ x.desc.route.toNat.testBit (1 - p) = false
     let ready := s.blk.streamOf k = some x ∧ x.busy = true ∧ x.packet = none ∧ ∀ j < k.val, j ∉ s.blk.busyStreams
     ready ∧ one ∧ x.closing = true ∧ s.blk.dma.link p = true ∧ fits ∧ s.blk.cores = true ∧ s.blk.jv.queue = [q] ∧
     q.wait = .streamClose k) ∧
    (let k : Fin 8 := 7
     let x : StreamSt := { (default : StreamSt) with desc := sd0, busy := true, packet := some [1] }
     let s := mk [] [Block.setStream k x]
     (s.blk.streamOf k = none ∨ s.blk.streamOf k = some x ∧ (x.busy = false ∨ x.packet ≠ none ∨ ∃ j < k.val, j ∈ s.blk.busyStreams))) ∧
    (let k : Fin 8 := 7
     let x : StreamSt := { (default : StreamSt) with desc := sd0, busy := true, packet := some [1, 2], toA := true }
     let port : Stn := .a
     let pkt := ([1, 2] : List Byte)
     let s := mk [] [Block.setStream k x]
     let p := stnNum port
     s.blk.streamOf k = some x ∧ x.busy = true ∧ x.closing = false ∧ x.packet = some pkt ∧
     (if p = 0 then x.toA else x.toB) = true ∧ s.blk.waitsFor p = some k.val ∧ s.blk.dma.link p = true ∧
     (if p = 0 then x.toB else x.toA) = false) ∧
    (let k : Fin 8 := 7
     let x : StreamSt := { (default : StreamSt) with desc := { sd0 with route := 3 }, busy := true, packet := some [1, 2], toA := true, toB := true }
     let port : Stn := .a
     let pkt := ([1, 2] : List Byte)
     let s := mk [] [Block.setStream k x]
     let p := stnNum port
     s.blk.streamOf k = some x ∧ x.busy = true ∧ x.closing = false ∧ x.packet = some pkt ∧
     (if p = 0 then x.toA else x.toB) = true ∧ s.blk.waitsFor p = some k.val ∧ s.blk.dma.link p = true ∧
     (if p = 0 then x.toB else x.toA) = true) ∧
    (let port : Stn := .b
     let s := mk []
     let p := stnNum port
     s.blk.waitsFor p = none) := by
  refine ⟨?_, ?_, ?_, ?_, ?_, ?_, ?_, ?_, ?_, ?_⟩ <;> decide +kernel

theorem witness_LinksAndTransceivers :
    (let port : Stn := .b
     let s := mk [] [fun b => { b with pow := { b.pow with cages := [(2, .base10Sr)] } }]
     (∀ x : Fin 2, s.blk.on (Reg.TIME_DOM_CFG_EN x) = false) ∧ s.blk.waitsFor (stnNum port) = none) ∧
    (let port : Stn := .a
     let k : Fin 8 := 7
     let x : StreamSt := { (default : StreamSt) with desc := sd0, busy := true, packet := some [1], toA := true }
     let s := mk [] [Block.setStream k x]
     (∀ d : Fin 2, s.blk.on (Reg.TIME_DOM_CFG_EN d) = false) ∧ s.blk.waitsFor (stnNum port) = some k.val ∧
     s.blk.streamOf k = some x ∧ x.closing = false ∧ (if stnNum port = 0 then x.toB else x.toA) = false) ∧
    (let c : Cage := .pair
     let ty : XcvrType := .base100Sr4
     let mW : Nat := 3500
     let s := mk [] [fun b => { b with pow := { b.pow with cages := [(0, .base100Cr4)] } }]
     accepts c ty = true ∧ mW ≤ allowance c) ∧
    (let c : Cage := .pair
     let ty : XcvrType := .unlisted
     let mW : Nat := 1
     let s := mk [] [fun b => { b with pow := { b.pow with cages := [(0, .base100Cr4)] } }]
     ¬ (accepts c ty = true ∧ mW ≤ allowance c)) := by
  refine ⟨?_, ?_, ?_, ?_⟩ <;> decide +kernel

theorem witness_HostChannelRecords :
    (let n : Fin 32 := 31
     let s := mk [((Reg.DMA_CH_STAT_BUSY n), 1), (Reg.DMA_STAT_HALTED, 0), ((Reg.DMA_CH_STAT_SHADOW n), 0)]
         [Block.updChan n fun x => { x with
             stopping := false, act := { (default : ChanSet) with trig := true, size := 64 } }]
     let c := s.blk.chan n
     let only := 16 ≤ n.val ∧ s.blk.on (Reg.DMA_CH_STAT_BUSY n) = true ∧ s.blk.on Reg.DMA_STAT_HALTED = false ∧
         s.blk.busyStreams = [] ∧ ∀ m ∈ s.blk.bulkReady, m = n.val
     only ∧ s.blk.on (Reg.DMA_CH_STAT_SHADOW n) = false ∧ c.stopping = false ∧ c.act.trig = true) ∧
    (let n : Fin 32 := 31
     let s := mk [((Reg.DMA_CH_STAT_BUSY n), 1), (Reg.DMA_STAT_HALTED, 0), ((Reg.DMA_CH_STAT_SHADOW n), 0)]
     let c := s.blk.chan n
     let only := 16 ≤ n.val ∧ s.blk.on (Reg.DMA_CH_STAT_BUSY n) = true ∧ s.blk.on Reg.DMA_STAT_HALTED = false ∧
         s.blk.busyStreams = [] ∧ ∀ m ∈ s.blk.bulkReady, m = n.val
     only ∧ s.blk.on (Reg.DMA_CH_STAT_SHADOW n) = false ∧ (c.stopping = true ∨ c.act.trig = false)) ∧
    (let n : Fin 32 := 31
     let s := mk [(Reg.DMA_STAT_HALTED, 0), ((Reg.DMA_CH_SRC_SRC n), 0x1FFFFFC), ((Reg.DMA_CH_LEN_LEN n), 4),
         ((Reg.DMA_CH_CTRL_DEC n), 1), ((Reg.DMA_CH_RING_BASE_BASE n), 0x7FFC0),
         ((Reg.DMA_CH_RING_SIZE_SIZE n), 64), ((Reg.DMA_CH_STAT_BUSY n), 1), ((Reg.DMA_CH_STAT_SHADOW n), 1),
         ((Reg.DMA_CH_CTRL_TRIG n), 1)]
     let only := 16 ≤ n.val ∧ s.blk.on (Reg.DMA_CH_STAT_BUSY n) = true ∧ s.blk.on Reg.DMA_STAT_HALTED = false ∧
         s.blk.busyStreams = [] ∧ ∀ m ∈ s.blk.bulkReady, m = n.val
     only ∧ s.blk.on (Reg.DMA_CH_STAT_SHADOW n) = true ∧ s.blk.denyLoad n = 0 ∧ (s.blk.shadow n).trig = true) ∧
    (let n : Fin 32 := 31
     let s := mk []
     (n.val < 16 ∨ s.blk.on (Reg.DMA_CH_STAT_BUSY n) = false ∨ s.blk.busyStreams ≠ [] ∨ s.blk.on Reg.DMA_STAT_HALTED = true)) ∧
    (let b : Block := (mk []).blk
     let n : Fin 32 := 31
     let c := b.chan n
     c.missed = false) ∧
    (let n : Fin 32 := 31
     let kind : BitVec 2 := 2
     let addr : Word := 1
     let s := mk [((Reg.EVT_SRCk_CLASS 3), 0), ((Reg.EVT_SRCk_CLASS 6), 0), ((Reg.EVT_SRCk_CLASS 10), 0),
         ((Reg.DMA_CH_STAT_BUSY n), 0), (Reg.DMA_OPT_ERR_MODE, 1)]
     let o : Occ := { source := 10, unitType := 15, idx := n }
     let b := if kind = 1 then s.blk.raise { source := 3, extra := addr.toNat } else if kind = 2 then s.blk.raise
         { source := 6 } else s.blk
     16 ≤ n.val ∧ kind ≠ 0 ∧ s.blk.rd (Reg.EVT_SRCk_CLASS 3) = 0 ∧ s.blk.rd (Reg.EVT_SRCk_CLASS 6) = 0 ∧
     s.blk.rd (Reg.EVT_SRCk_CLASS 10) = 0 ∧ Loggable b o ∧ s.blk.on (Reg.DMA_CH_STAT_BUSY n) = false ∧
     s.blk.on Reg.DMA_OPT_ERR_MODE = true) ∧
    (let n : Fin 32 := 31
     let kind : BitVec 2 := 2
     let addr : Word := 1
     let s := mk [((Reg.EVT_SRCk_CLASS 3), 0), ((Reg.EVT_SRCk_CLASS 6), 0), ((Reg.EVT_SRCk_CLASS 10), 0),
         ((Reg.DMA_CH_STAT_BUSY n), 0), (Reg.DMA_OPT_ERR_MODE, 0)]
         [Block.updCells fun x => { x with committing := false }]
     let o : Occ := { source := 10, unitType := 15, idx := n }
     let b := if kind = 1 then s.blk.raise { source := 3, extra := addr.toNat } else if kind = 2 then s.blk.raise
         { source := 6 } else s.blk
     16 ≤ n.val ∧ kind ≠ 0 ∧ s.blk.rd (Reg.EVT_SRCk_CLASS 3) = 0 ∧ s.blk.rd (Reg.EVT_SRCk_CLASS 6) = 0 ∧
     s.blk.rd (Reg.EVT_SRCk_CLASS 10) = 0 ∧ Loggable b o ∧ s.blk.on (Reg.DMA_CH_STAT_BUSY n) = false ∧
     s.blk.on Reg.DMA_OPT_ERR_MODE = false ∧ s.blk.busyStreams = [] ∧ s.blk.cells.committing = false ∧
     (∀ ty ∈ [ImgType.firmware, .option, .maquette], s.blk.headWait ∉ [some (.program ty), some (.verify ty), some (.activate ty)]) ∧
     (∀ m : Fin 32, s.blk.on (Reg.DMA_CH_STAT_BUSY m) = false)) ∧
    (let n : Fin 32 := 31
     let kind : BitVec 2 := 0
     let s := mk []
     (kind = 0 ∨ 12 ≤ n.val ∧ n.val < 16)) := by
  refine ⟨?_, ?_, ?_, ?_, ?_, ?_, ?_, ?_⟩ <;> decide +kernel

theorem witness_BackgroundWork :
    (let s := mk []
     s.blk.released 2 = true ∧ s.blk.injects 0 0 = false) ∧
    (let s := mk []
     s.blk.released 2 = true) ∧
    (let s := mk [(Reg.RST_STAGE_RELEASED, 3)]
     s.blk.released 2 = false) ∧
    (let l : Fin 192 := 191
     let width : BitVec 8 := 255
     let s := mk [((Reg.LINK_STAT_STATE l), 4)]
     let due := s.blk.cores = true ∧ s.blk.rd (Reg.LINK_STAT_STATE l) = 4 ∧ s.blk.eyeDue = l.val
     due ∧ s.blk.rd Reg.LINK_GCFG_EYE_MIN ≤ width.toNat) ∧
    (let l : Fin 192 := 191
     let width : BitVec 8 := 1
     let s := mk [((Reg.LINK_STAT_STATE l), 4)]
     let scanned := s.blk.untilUp (max s.blk.dma.eyeAt s.blk.boot.d7At + s.blk.sagged 50)
     let due := s.blk.cores = true ∧ s.blk.rd (Reg.LINK_STAT_STATE l) = 4 ∧ s.blk.eyeDue = l.val
     due ∧ width.toNat < s.blk.rd Reg.LINK_GCFG_EYE_MIN ∧ s.blk.eyeLow (s.blk.rd (Reg.LINK_EYE_WIDTH l)) = false ∧
     Loggable scanned { source := 99, unitType := 2, idx := l }) ∧
    (let l : Fin 192 := 191
     let s := mk []
     let due := s.blk.cores = true ∧ s.blk.rd (Reg.LINK_STAT_STATE l) = 4 ∧ s.blk.eyeDue = l.val
     ¬ due) ∧
    (let s := mk [(Reg.DMA_STAT_HALTED, 0)]
     let idle := s.blk.cores = true ∧ s.blk.flashBusy = false ∧ s.blk.on Reg.DMA_STAT_HALTED = false
     idle ∧ s.blk.injects 4 0 = false) ∧
    (let src := ((firstLeast State.reset.blk.erasesOf wearBlocks).getD 0)
     let s := mk []
     firstLeast s.blk.erasesOf wearBlocks = some src) ∧
    (let src := ((firstLeast State.reset.blk.erasesOf wearBlocks).getD 0)
     let q := (5000 : Nat)
     let s := mk []
     firstLeast s.blk.erasesOf wearBlocks = some src ∧ q ≠ src) ∧
    (let s := mk [(Reg.DMA_STAT_HALTED, 1)]
     let idle := s.blk.cores = true ∧ s.blk.flashBusy = false ∧ s.blk.on Reg.DMA_STAT_HALTED = false
     ¬ idle) := by
  refine ⟨?_, ?_, ?_, ?_, ?_, ?_, ?_, ?_, ?_, ?_⟩ <;> decide +kernel

theorem witness_LegWindowsEdgesAndRefresh :
    (let l : Fin 24 := 23
     let s := mk [((Reg.PWM_LEG_CFG_SRC l), 1), (Reg.SYS_CONV_STAT_STATE, 3), (Reg.PWM_DIAG_STAT_PASS, 0xFFF),
         ((Reg.GATE_CH_STAT_POWERED 46), 1), ((Reg.GATE_CH_STAT_POWERED 47), 1), ((Reg.PWM_TRIPk_LEG 0), 23)]
         [Block.updLv fun v => { v with tripPins := [(0, true)] },
          Block.updLeg l fun x => { x with
             switching := true, period := 12800, cmpOn := 100, cmpOff := 6400, carrier := true, grid := 0,
             nextU := 0, trips := [{ leg := 23, action := 1, pol := true, blank := 0 }] }]
     let judged := (s.blk.untilI (s.blk.leg l).nextU).tripsJudge
     s.blk.mayRun l = true ∧ (s.blk.leg l).switching = true ∧ (judged.leg l).switching = false) ∧
    (let l : Fin 24 := 23
     let g := true
     let s := mk [((Reg.PWM_LEG_CFG_SRC l), 1), (Reg.SYS_CONV_STAT_STATE, 3), (Reg.PWM_DIAG_STAT_PASS, 0xFFF),
         ((Reg.GATE_CH_STAT_POWERED 46), 1), ((Reg.GATE_CH_STAT_POWERED 47), 1)]
         [Block.updLeg l fun x => { x with
             switching := true, period := 12800, cmpOn := 100, cmpOff := 6400, carrier := true, grid := 0,
             nextU := 0, gen := some true }]
     let judged := (s.blk.untilI (s.blk.leg l).nextU).tripsJudge
     let b := judged.legFields l
     let x := b.leg l
     s.blk.mayRun l = true ∧ (s.blk.leg l).switching = true ∧ (judged.leg l).switching = true ∧ x.count = false ∧
     x.gen = some g) ∧
    (let l : Fin 24 := 23
     let s := mk [((Reg.PWM_LEG_CFG_SRC l), 1), (Reg.SYS_CONV_STAT_STATE, 3), (Reg.PWM_DIAG_STAT_PASS, 0xFFF),
         ((Reg.GATE_CH_STAT_POWERED 46), 1), ((Reg.GATE_CH_STAT_POWERED 47), 1)]
         [Block.updLeg l fun x => { x with
             switching := true, period := 12800, cmpOn := 100, cmpOff := 6400, carrier := true, grid := 0, nextU := 0 }]
     let judged := (s.blk.untilI (s.blk.leg l).nextU).tripsJudge
     let b := judged.legFields l
     let x := b.leg l
     s.blk.mayRun l = true ∧ (s.blk.leg l).switching = true ∧ (judged.leg l).switching = true ∧ x.count = false ∧
     x.gen = none) ∧
    (let l : Fin 24 := 23
     let at_ : Int := 3200
     let upper : Bool := true
     let rest : List (Int × Bool) := [(6400, false)]
     let s := mk [] [Block.updLeg l fun x => { x with edges := (at_, upper) :: rest }]
     let b := (s.blk.untilI at_).tripsJudge
     (s.blk.leg l).edges = (at_, upper) :: rest ∧ (b.leg l).edges = (at_, upper) :: rest) ∧
    (let l : Fin 24 := 23
     let s := mk [] [Block.updLeg l fun x => { x with edges := [] }]
     (s.blk.leg l).edges = []) ∧
    (let l : Fin 24 := 23
     let s := mk [((Reg.PWM_LEG_CFG_SRC l), 1), ((Reg.PWM_LEG_STAT_STATE l), 2), ((Reg.PWM_TRIPk_LEG 0), 23)]
         [Block.updLv fun v => { v with tripPins := [(0, true)] },
          Block.updLeg l fun x => { x with
             switching := true, period := 12800, cmpOn := 100, cmpOff := 6400, carrier := true, grid := 0,
             nextU := 0, trips := [{ leg := 23, action := 1, pol := true, blank := 0 }] }]
     let b0 := s.blk.settleLeg l
     let x := b0.leg l
     let state := fun b : Block => b.rd (Reg.PWM_LEG_STAT_STATE l)
     let b := (b0.untilUp (x.upperSince + x.tmax * usPs)).tripsJudge
     b0.rd (Reg.PWM_LEG_CFG_SRC l) ∈ [1, 2, 3] ∧ state b0 = 2 ∧ state b ≠ 2) ∧
    (let l : Fin 24 := 23
     let s := mk [((Reg.PWM_LEG_CFG_SRC l), 1), ((Reg.PWM_LEG_STAT_STATE l), 2)]
         [Block.updLeg l fun x => { x with
             switching := true, period := 12800, cmpOn := 100, cmpOff := 6400, carrier := true, grid := 0, nextU := 0 }]
     let b0 := s.blk.settleLeg l
     let x := b0.leg l
     let state := fun b : Block => b.rd (Reg.PWM_LEG_STAT_STATE l)
     let b := (b0.untilUp (x.upperSince + x.tmax * usPs)).tripsJudge
     b0.rd (Reg.PWM_LEG_CFG_SRC l) ∈ [1, 2, 3] ∧ state b0 = 2 ∧ state b = 2) ∧
    (let l : Fin 24 := 15
     let s := mk [((Reg.PWM_LEG_CFG_SRC l), 3), ((Reg.PWM_TRIPk_LEG 0), 15)]
         [Block.updLv fun v => { v with tripPins := [(0, true)] },
          Block.updLeg l fun x => { x with
             switching := true, period := 12800, cmpOn := 100, cmpOff := 6400, carrier := true, grid := 0,
             nextU := 0, trips := [{ leg := 15, action := 1, pol := true, blank := 0 }] }]
     let b0 := s.blk.settleLeg l
     let x := b0.leg l
     let b := (b0.untilUp (x.lowerLast + x.intv * usPs)).tripsJudge
     b0.resting l = true ∧ b.resting l = false) ∧
    (let l : Fin 24 := 23
     let s := mk [((Reg.PWM_LEG_CFG_SRC l), 3)] [Block.updLeg l fun x => { x with switching := true }]
     let b0 := s.blk.settleLeg l
     let x := b0.leg l
     let b := (b0.untilUp (x.lowerLast + x.intv * usPs)).tripsJudge
     b0.resting l = true ∧ b.resting l = true) ∧
    (let l : Fin 24 := 23
     let fin := (0 : Int)
     let s := mk [((Reg.PWM_LEG_STAT_STATE l), 1), ((Reg.GATE_CH_STAT_POWERED 46), 1),
         ((Reg.GATE_CH_STAT_POWERED 47), 1)]
         [Block.updLeg l fun x => { x with restAt := some fin }]
     (s.blk.leg l).restAt = some fin ∧ fin ≤ s.blk.tickIn 0) := by
  refine ⟨?_, ?_, ?_, ?_, ?_, ?_, ?_, ?_, ?_, ?_⟩ <;> decide +kernel

theorem witness_InterlockAndForce :
    (let l : Fin 24 := 23
     let s := mk [] [Block.updLeg l fun x => { x with shot := true }]
     (s.blk.leg l).shot = true) ∧
    (let l : Fin 24 := 23
     let s := mk [] [Block.updLeg l fun x => { x with shot := false }]
     (s.blk.leg l).shot = false ∧ Loggable s.blk { source := 164, unitType := 3, idx := l }) ∧
    (let l : Fin 24 := 23
     let since := 5
     let s := mk [((Reg.PWM_LEG_STAT_FENCED l), 0)]
         [Block.updLeg l fun x => { x with lockSince := some since },
          Block.updRecov (256 + l) fun x => { x with fenced := false }]
     (s.blk.leg l).lockSince = some since ∧ (s.blk.recov (256 + l)).fenced = false ∧
     s.blk.on (Reg.PWM_LEG_STAT_FENCED l) = false) ∧
    (let rq : Req := rq0
     let v : Word := 1
     let s := mk [(Reg.SYS_CONV_STAT_STATE, 3)] [turn rq 0x11]
     let off := s.blk.rd Reg.SYS_CONV_STAT_STATE = 0
     AtTurn s.blk rq 0x11 ∧ v.toNat.testBit 0 = true ∧ ¬ off) ∧
    (let rq : Req := rq0
     let v : Word := 1
     let s := mk [(Reg.SYS_CONV_STAT_STATE, 0), (Reg.SYS_PAIR_CFG_EN, 1)] [turn rq 0x11]
     let off := s.blk.rd Reg.SYS_CONV_STAT_STATE = 0
     AtTurn s.blk rq 0x11 ∧ v.toNat.testBit 0 = true ∧ off ∧ s.blk.holds = false) ∧
    (let rq : Req := rq0
     let l : Fin 24 := 23
     let v : Word := 3
     let s := mk [((Reg.GATE_CH_STAT_POWERED (2 * l)), 1), ((Reg.GATE_CH_STAT_POWERED (2 * l + 1)), 1),
         ((Reg.PWM_LEG_STAT_FENCED l), 0), (Reg.SYS_CONV_STAT_STATE, 0), ((Reg.GATE_CH_STAT_POWERED 46), 1),
         ((Reg.GATE_CH_STAT_POWERED 47), 1)]
         [turn rq 0x11,
          Block.updLv fun x => { x with tripPins := [] }]
     let off := s.blk.rd Reg.SYS_CONV_STAT_STATE = 0
     let through := s.blk.on (Reg.GATE_CH_STAT_POWERED (2 * l)) = true ∧ s.blk.on (Reg.GATE_CH_STAT_POWERED (2 * l
         + 1)) = true ∧ s.blk.on (Reg.PWM_LEG_STAT_FENCED l) = false ∧ (s.blk.on Reg.PWM_STAT_MULTI = false ∨
         l.val = 20) ∧ ∀ g, groupOf l = some g → s.blk.bit Reg.PWM_DIAG_STAT_BUSY g = false
     AtTurn s.blk rq 0x11 ∧ v.toNat.testBit 0 = true ∧ off ∧ s.blk.holds = true ∧ s.blk.lv.tripPins = [] ∧ through ∧
     v.toNat.testBit 1 = true ∧ v.toNat.testBit 2 = false) ∧
    (let rq : Req := rq0
     let l : Fin 24 := 23
     let v : Word := 5
     let s := mk [((Reg.GATE_CH_STAT_POWERED (2 * l)), 1), ((Reg.GATE_CH_STAT_POWERED (2 * l + 1)), 1),
         ((Reg.PWM_LEG_STAT_FENCED l), 0), (Reg.SYS_CONV_STAT_STATE, 0), ((Reg.GATE_CH_STAT_POWERED 46), 1),
         ((Reg.GATE_CH_STAT_POWERED 47), 1)]
         [turn rq 0x11,
          Block.updLv fun x => { x with tripPins := [] }]
     let off := s.blk.rd Reg.SYS_CONV_STAT_STATE = 0
     let through := s.blk.on (Reg.GATE_CH_STAT_POWERED (2 * l)) = true ∧ s.blk.on (Reg.GATE_CH_STAT_POWERED (2 * l
         + 1)) = true ∧ s.blk.on (Reg.PWM_LEG_STAT_FENCED l) = false ∧ (s.blk.on Reg.PWM_STAT_MULTI = false ∨
         l.val = 20) ∧ ∀ g, groupOf l = some g → s.blk.bit Reg.PWM_DIAG_STAT_BUSY g = false
     AtTurn s.blk rq 0x11 ∧ v.toNat.testBit 0 = true ∧ off ∧ s.blk.holds = true ∧ s.blk.lv.tripPins = [] ∧ through ∧
     v.toNat.testBit 1 = false ∧ v.toNat.testBit 2 = true) ∧
    (let rq : Req := rq0
     let l : Fin 24 := 23
     let v : Word := 1
     let s := mk [((Reg.GATE_CH_STAT_POWERED (2 * l)), 1), ((Reg.GATE_CH_STAT_POWERED (2 * l + 1)), 1),
         ((Reg.PWM_LEG_STAT_FENCED l), 0), (Reg.SYS_CONV_STAT_STATE, 0), ((Reg.GATE_CH_STAT_POWERED 46), 1),
         ((Reg.GATE_CH_STAT_POWERED 47), 1)]
         [turn rq 0x11,
          Block.updLv fun x => { x with tripPins := [] }]
     let off := s.blk.rd Reg.SYS_CONV_STAT_STATE = 0
     let through := s.blk.on (Reg.GATE_CH_STAT_POWERED (2 * l)) = true ∧ s.blk.on (Reg.GATE_CH_STAT_POWERED (2 * l
         + 1)) = true ∧ s.blk.on (Reg.PWM_LEG_STAT_FENCED l) = false ∧ (s.blk.on Reg.PWM_STAT_MULTI = false ∨
         l.val = 20) ∧ ∀ g, groupOf l = some g → s.blk.bit Reg.PWM_DIAG_STAT_BUSY g = false
     AtTurn s.blk rq 0x11 ∧ v.toNat.testBit 0 = true ∧ off ∧ s.blk.holds = true ∧ s.blk.lv.tripPins = [] ∧ through ∧
     v.toNat.testBit 1 = false ∧ v.toNat.testBit 2 = false) ∧
    (let rq : Req := rq0
     let l : Fin 24 := 23
     let v : Word := 7
     let s := mk [((Reg.GATE_CH_STAT_POWERED (2 * l)), 1), ((Reg.GATE_CH_STAT_POWERED (2 * l + 1)), 1),
         ((Reg.PWM_LEG_STAT_FENCED l), 0), (Reg.SYS_CONV_STAT_STATE, 0), ((Reg.GATE_CH_STAT_POWERED 46), 1),
         ((Reg.GATE_CH_STAT_POWERED 47), 1)]
         [turn rq 0x11,
          Block.updLv fun x => { x with tripPins := [] },
          Block.updLeg l fun x => { x with shot := true }]
     let off := s.blk.rd Reg.SYS_CONV_STAT_STATE = 0
     let through := s.blk.on (Reg.GATE_CH_STAT_POWERED (2 * l)) = true ∧ s.blk.on (Reg.GATE_CH_STAT_POWERED (2 * l
         + 1)) = true ∧ s.blk.on (Reg.PWM_LEG_STAT_FENCED l) = false ∧ (s.blk.on Reg.PWM_STAT_MULTI = false ∨
         l.val = 20) ∧ ∀ g, groupOf l = some g → s.blk.bit Reg.PWM_DIAG_STAT_BUSY g = false
     AtTurn s.blk rq 0x11 ∧ v.toNat.testBit 0 = true ∧ off ∧ s.blk.holds = true ∧ s.blk.lv.tripPins = [] ∧ through ∧
     v.toNat.testBit 1 = true ∧ v.toNat.testBit 2 = true ∧ (s.blk.leg l).shot = true) ∧
    (let rq : Req := rq0
     let l : Fin 24 := 23
     let v : Word := 7
     let s := mk [(Reg.SYS_CONV_STAT_STATE, 0)] [turn rq 0x11, Block.updLv fun x => { x with tripPins := [] }]
     let off := s.blk.rd Reg.SYS_CONV_STAT_STATE = 0
     let through := s.blk.on (Reg.GATE_CH_STAT_POWERED (2 * l)) = true ∧ s.blk.on (Reg.GATE_CH_STAT_POWERED (2 * l
         + 1)) = true ∧ s.blk.on (Reg.PWM_LEG_STAT_FENCED l) = false ∧ (s.blk.on Reg.PWM_STAT_MULTI = false ∨
         l.val = 20) ∧ ∀ g, groupOf l = some g → s.blk.bit Reg.PWM_DIAG_STAT_BUSY g = false
     AtTurn s.blk rq 0x11 ∧ v.toNat.testBit 0 = true ∧ off ∧ s.blk.holds = true ∧ s.blk.lv.tripPins = [] ∧ ¬ through) ∧
    (let rq : Req := rq0
     let l : Fin 24 := 23
     let v : Word := 0
     let s := mk [] [turn rq 0x11, Block.updLeg l fun x => { x with forced := true }]
     AtTurn s.blk rq 0x11 ∧ v.toNat.testBit 0 = false ∧ (s.blk.leg l).forced = true) ∧
    (let rq : Req := rq0
     let l : Fin 24 := 23
     let v : Word := 0
     let s := mk [] [turn rq 0x11, Block.updLeg l fun x => { x with forced := false }]
     AtTurn s.blk rq 0x11 ∧ v.toNat.testBit 0 = false ∧ (s.blk.leg l).forced = false) := by
  refine ⟨?_, ?_, ?_, ?_, ?_, ?_, ?_, ?_, ?_, ?_, ?_, ?_⟩ <;> decide +kernel

theorem witness_LegProtection :
    (let l : Fin 24 := 23
     let upper : Bool := true
     let s := mk []
         [Block.updLv fun x => { x with lastShort := none },
          Block.updLeg l fun x => { x with switching := true, desatUp := true }]
     let c := s.blk.legInForce l
     (if upper then c.desatUp else c.desatLo) = true ∧ s.blk.lv.lastShort = none ∧
     Loggable s.blk { source := 160, unitType := 3, idx := l, code := if upper then 1 else 2 }) ∧
    (let l : Fin 24 := 23
     let upper : Bool := true
     let s := mk [] [Block.updLeg l fun x => { x with switching := true }]
     let c := s.blk.legInForce l
     (if upper then c.desatUp else c.desatLo) = false) ∧
    (let l : Fin 24 := 23
     let s := mk [] [Block.updLeg l fun x => { x with switching := true }]
     let c := s.blk.legInForce l
     c.ocEn = false) ∧
    (let l : Fin 24 := 23
     let s := mk []
         [Block.updLv fun x => { x with lastShort := none },
          Block.updLeg l fun x => { x with switching := true, ocEn := true }]
     let c := s.blk.legInForce l
     c.ocEn = true ∧ s.blk.lv.lastShort = none ∧ Loggable s.blk { source := 160, unitType := 3, idx := l, code := 3 }) ∧
    (let l : Fin 24 := 23
     let level : Bool := true
     let k : Fin 16 := 15
     let s := mk [((Reg.PWM_TRIPk_LEG k), l)]
         [Block.updLeg l fun x => { x with
             switching := true, trips := List.replicate 16 { leg := 23, action := 1, pol := true, blank := 1 },
             lastEdge := some (-1600) }]
     let trip := s.blk.tripOf k
     let clear := ∀ e, (s.blk.leg l).lastEdge = some e → (trip.blank * 25 * 64 : Nat) ≤ s.blk.tickIn 0 - e
     level = trip.pol ∧ trip.leg = l ∧ clear ∧ trip.action = 1 ∧ k.val ∉ s.blk.lv.tripDone ∧
     Loggable s.blk { source := 166, unitType := 3, idx := l }) ∧
    (let l : Fin 24 := 23
     let level : Bool := true
     let k : Fin 16 := 15
     let s := mk [((Reg.PWM_TRIPk_LEG k), l)]
         [Block.updLeg l fun x => { x with
             switching := true, trips := List.replicate 16 { leg := 23, action := 2, pol := true, blank := 0 } }]
     let trip := s.blk.tripOf k
     let clear := ∀ e, (s.blk.leg l).lastEdge = some e → (trip.blank * 25 * 64 : Nat) ≤ s.blk.tickIn 0 - e
     level = trip.pol ∧ trip.leg = l ∧ clear ∧ trip.action = 2 ∧ k.val ∉ s.blk.lv.tripDone) ∧
    (let l : Fin 24 := 23
     let level : Bool := true
     let k : Fin 16 := 15
     let s := mk [((Reg.PWM_TRIPk_LEG k), l)]
         [Block.updLeg l fun x => { x with
             switching := true, trips := List.replicate 16 { leg := 23, action := 1, pol := true, blank := 1 },
             lastEdge := some (-1599) }]
     let trip := s.blk.tripOf k
     let clear := ∀ e, (s.blk.leg l).lastEdge = some e → (trip.blank * 25 * 64 : Nat) ≤ s.blk.tickIn 0 - e
     level = trip.pol ∧ trip.leg = l ∧ ¬ clear) ∧
    (let l : Fin 24 := 23
     let level : Bool := false
     let k : Fin 16 := 15
     let s := mk [((Reg.PWM_TRIPk_LEG k), l)]
         [Block.updLeg l fun x => { x with
             switching := true, trips := List.replicate 16 { leg := 23, action := 1, pol := true, blank := 0 } }]
     let trip := s.blk.tripOf k
     level ≠ trip.pol) ∧
    (let ch : Fin 56 := 55
     let s := mk [((Reg.GATE_CH_STAT_POWERED ch), 1), ((Reg.GATE_CH_STAT_UVLO ch), 0)]
     s.blk.on (Reg.GATE_CH_STAT_POWERED ch) = true ∧ s.blk.on (Reg.GATE_CH_STAT_UVLO ch) = false) := by
  refine ⟨?_, ?_, ?_, ?_, ?_, ?_, ?_, ?_, ?_⟩ <;> decide +kernel

theorem witness_SwitchesAndGateSupply :
    (let p : Fin 8 := 7
     let s := mk [] [Block.updPort p fun x => { x with opening := true }]
     let b := s.blk.untilUp ((s.blk.port p).heldAt + 2 * usPs)
     (s.blk.port p).opening = true ∧ Loggable b { source := 163, unitType := 4, idx := p }) ∧
    (let p : Fin 8 := 7
     let s := mk [((Reg.GATE_CH_STAT_POWERED 28), 1), ((Reg.GATE_CH_STAT_POWERED 29), 1),
         ((Reg.GATE_CH_STAT_POWERED 30), 1), ((Reg.GATE_CH_STAT_POWERED 31), 1)]
         [Block.setBit Reg.GATE_SS_STAT_CLOSED p true,
          Block.updPort p fun x => { x with opening := true }]
     s.blk.bit Reg.GATE_SS_STAT_CLOSED p = true ∧ (s.blk.port p).opening = true ∧
     (∀ i : Fin 4, s.blk.on (Reg.GATE_CH_STAT_POWERED (4 * p + i)) = true)) ∧
    (let p : Fin 8 := 7
     let s := mk [] [Block.updPort p fun x => { x with opening := false }]
     (s.blk.port p).opening = false) ∧
    (let p : Fin 8 := 7
     let s := mk [] [Block.updLeg 14 fun x => { x with switching := true }]
     (s.blk.legInForce (2 * p)).desatSs = false) ∧
    (let p : Fin 8 := 7
     let s := mk [((Reg.PORT_STAT_STATE p), 8)]
     (s.blk.legInForce (2 * p)).desatSs = true ∧ s.blk.rd (Reg.PORT_STAT_STATE p) = 8 ∧
     Loggable s.blk { source := 161, unitType := 4, idx := p }) ∧
    (let p : Fin 8 := 7
     let s := mk [((Reg.EVT_SRCk_CLASS 161), 0), ((Reg.EVT_SRCk_CLASS 193), 0)]
     (s.blk.legInForce (2 * p)).desatSs = true ∧ s.blk.rd (Reg.PORT_STAT_STATE p) ≠ 8 ∧
     s.blk.rd (Reg.EVT_SRCk_CLASS 161) = 0 ∧ s.blk.rd (Reg.EVT_SRCk_CLASS 193) = 0) := by
  refine ⟨?_, ?_, ?_, ?_, ?_, ?_⟩ <;> decide +kernel

theorem witness_ChopperAndDiagnostics :
    (let s := mk [(Reg.PWM_BRK_STAT_ON, 0), (Reg.PWM_BRK_STAT_ARMED, 1), (Reg.GATE_STAT_GATE24_OK, 1)]
     s.blk.brakeReady = true ∧ s.blk.on Reg.PWM_BRK_STAT_ON = false) ∧
    (let s := mk [((Reg.PWM_LEG_FORCE_EN 20), 1)]
     s.blk.on (Reg.PWM_LEG_FORCE_EN 20) = true) ∧
    (let s := mk [(Reg.PWM_BRK_STAT_ON, 1), ((Reg.PWM_LEG_FORCE_EN 20), 0)]
     s.blk.on Reg.PWM_BRK_STAT_ON = true ∧ s.blk.on (Reg.PWM_LEG_FORCE_EN 20) = false) ∧
    (let s := mk [(Reg.PWM_BRK_STAT_ON, 1)] [Block.updLv fun x => { x with brakeLong := false }]
     let b := s.blk.untilUp (s.blk.lv.brakeAt + s.blk.rd Reg.PWM_BRK_CFG_TMAX_MS * msPs)
     s.blk.on Reg.PWM_BRK_STAT_ON = true ∧ s.blk.lv.brakeLong = false ∧ Loggable b { source := 169 }) ∧
    (let g : Fin 12 := 11
     let s := mk [] [Block.setBit Reg.PWM_DIAG_STAT_BUSY g true, Block.updDiag g fun x => { x with phase := 0 }]
     let d := s.blk.diag g
     s.blk.bit Reg.PWM_DIAG_STAT_BUSY g = true ∧ d.phase = 0) ∧
    (let g : Fin 12 := 11
     let s := mk [] [Block.setBit Reg.PWM_DIAG_STAT_BUSY g true, Block.updDiag g fun x => { x with phase := 1 }]
     let d := s.blk.diag g
     s.blk.bit Reg.PWM_DIAG_STAT_BUSY g = true ∧ d.phase = 1) ∧
    (let g : Fin 12 := 11
     let s := mk [] [Block.setBit Reg.PWM_DIAG_STAT_BUSY g true, Block.updDiag g fun x => { x with phase := 2 }]
     let d := s.blk.diag g
     s.blk.bit Reg.PWM_DIAG_STAT_BUSY g = true ∧ d.phase = 2) ∧
    (let g : Fin 12 := 0
     let m := 24
     let s := mk [] [Block.setBit Reg.PWM_DIAG_STAT_BUSY g true, Block.updDiag g fun x => { x with node := 1, phase := 3 }]
     let d := s.blk.diag g
     s.blk.bit Reg.PWM_DIAG_STAT_BUSY g = true ∧ d.phase = 3 ∧ nextNode d.node (groupNodes g) = some m) ∧
    (let g : Fin 12 := 11
     let s := mk []
         [Block.setBit Reg.PWM_DIAG_STAT_BUSY g true,
          Block.updDiag g fun x => { x with node := 23, phase := 3, ok := true, v0 := 14000 }]
     let d := s.blk.diag g
     let c := s.blk.nodeClass d.node d.v0 d.v1 d.v2
     s.blk.bit Reg.PWM_DIAG_STAT_BUSY g = true ∧ d.phase = 3 ∧ nextNode d.node (groupNodes g) = none ∧ d.ok = true ∧ c = 2) ∧
    (let g : Fin 12 := 11
     let s := mk [] [Block.setBit Reg.PWM_DIAG_STAT_BUSY g true, Block.updDiag g fun x => { x with phase := 3 }]
     let d := s.blk.diag g
     let c := s.blk.nodeClass d.node d.v0 d.v1 d.v2
     s.blk.bit Reg.PWM_DIAG_STAT_BUSY g = true ∧ d.phase = 3 ∧ nextNode d.node (groupNodes g) = none ∧ d.ok = false ∨ c ≠ 2) := by
  refine ⟨?_, ?_, ?_, ?_, ?_, ?_, ?_, ?_, ?_, ?_⟩ <;> decide +kernel

theorem witness_PortMoves :
    (let p : Fin 8 := 7
     let s := mk [((Reg.PORT_STAT_STATE p), 2), ((Reg.PORT_SEQ_T_CLOSE_MS p), 0)] [boundary]
     let at_ := (s.blk.port p).entered + s.blk.rd (Reg.PORT_SEQ_T_CLOSE_MS p) * msPs
     s.blk.rd (Reg.PORT_STAT_STATE p) = 2 ∧ (s.blk.untilUp at_).atBoundary = true) ∧
    (let p : Fin 8 := 7
     let s := mk [((Reg.PORT_STAT_STATE p), 2)]
     let at_ := (s.blk.port p).entered + s.blk.rd (Reg.PORT_SEQ_T_CLOSE_MS p) * msPs
     s.blk.rd (Reg.PORT_STAT_STATE p) = 2 ∧ (s.blk.untilUp at_).atBoundary = false) ∧
    (let p : Fin 8 := 7
     let s := mk [((Reg.PORT_STAT_STATE p), 2)] [boundary]
     let o : Occ := { source := 196, unitType := 4, idx := p }
     let b := s.blk.untilUp ((s.blk.port p).entered + msPs)
     s.blk.rd (Reg.PORT_STAT_STATE p) = 2 ∧ s.blk.bit Reg.GATE_SS_STAT_CLOSED p = false ∧ b.atBoundary = true ∧ Loggable b o) ∧
    (let p : Fin 8 := 7
     let s := mk [((Reg.PORT_STAT_STATE p), 2)]
     let b := s.blk.untilUp ((s.blk.port p).entered + msPs)
     s.blk.rd (Reg.PORT_STAT_STATE p) = 2 ∧ s.blk.bit Reg.GATE_SS_STAT_CLOSED p = false ∧ b.atBoundary = false) ∧
    (let p : Fin 8 := 7
     let s := mk [((Reg.PORT_STAT_STATE p), 2)] [Block.setBit Reg.GATE_SS_STAT_CLOSED p true]
     s.blk.rd (Reg.PORT_STAT_STATE p) = 2 ∧ s.blk.bit Reg.GATE_SS_STAT_CLOSED p = true) ∧
    (let p : Fin 8 := 7
     let s := mk [((Reg.PORT_STAT_STATE p), 2)] [Block.updPort p fun x => { x with closeFail := true }]
     let o : Occ := { source := 196, unitType := 4, idx := p }
     s.blk.rd (Reg.PORT_STAT_STATE p) = 2 ∧ (s.blk.port p).closeFail = true ∧ Loggable s.blk o) ∧
    (let p : Fin 8 := 7
     let s := mk [((Reg.PORT_STAT_STATE p), 6)] [boundary, Block.updPort p fun x => { x with atOnce := false }]
     let settled := s.blk.eachOf [2 * p.val, 2 * p.val + 1] fun l b => b.settleLeg l
     let rests := settled.portRests p && !(settled.port p).opening
     let b := if rests then settled else settled.untilUp ((s.blk.port p).entered + msPs)
     s.blk.rd (Reg.PORT_STAT_STATE p) = 6 ∧ (s.blk.port p).atOnce = false ∧ b.atBoundary = true) ∧
    (let p : Fin 8 := 7
     let s := mk [((Reg.PORT_STAT_STATE p), 6), ((Reg.PWM_LEG_STAT_STATE 14), 1)]
         [Block.updPort p fun x => { x with atOnce := false }]
     let settled := s.blk.eachOf [2 * p.val, 2 * p.val + 1] fun l b => b.settleLeg l
     let rests := settled.portRests p && !(settled.port p).opening
     let b := if rests then settled else settled.untilUp ((s.blk.port p).entered + msPs)
     s.blk.rd (Reg.PORT_STAT_STATE p) = 6 ∧ (s.blk.port p).atOnce = false ∧ b.atBoundary = false ∧ rests = false) ∧
    (let p : Fin 8 := 7
     let s := mk [((Reg.PORT_STAT_STATE p), 4)]
     s.blk.rd (Reg.PORT_STAT_STATE p) = 4) ∧
    (let p : Fin 8 := 7
     let s := mk [((Reg.PORT_STAT_STATE p), 5), ((Reg.PORT_HIC_OFF_MS p), 0)] [boundary]
     let at_ := (s.blk.port p).entered + s.blk.rd (Reg.PORT_HIC_OFF_MS p) * msPs
     s.blk.rd (Reg.PORT_STAT_STATE p) = 5 ∧ (s.blk.untilUp at_).atBoundary = true) ∧
    (let p : Fin 8 := 7
     let s := mk [((Reg.PORT_STAT_STATE p), 5)]
     let at_ := (s.blk.port p).entered + s.blk.rd (Reg.PORT_HIC_OFF_MS p) * msPs
     s.blk.rd (Reg.PORT_STAT_STATE p) = 5 ∧ (s.blk.untilUp at_).atBoundary = false) ∧
    (let p : Fin 8 := 7
     let b : Block := (mk [(Reg.PORT_CFG_RUN 7, 1), (Reg.PORT_STAT_STATE 7, 2), (Reg.GATE_SS_STAT_CLOSED, 255), (Reg.PORT_SEQ_T_CLOSE_MS 7, 0)]).blk
     let s := mk []
     b.runReq p = true ∧ b.rd (Reg.PORT_STAT_STATE p) = 2 ∧ b.portClosed p = true) ∧
    (let p : Fin 8 := 7
     let b : Block := (mk [(Reg.PORT_CFG_RUN 7, 1), (Reg.PORT_STAT_STATE 7, 5), (Reg.PORT_HIC_OFF_MS 7, 0)]).blk
     let s := mk []
     b.runReq p = true ∧ b.rd (Reg.PORT_STAT_STATE p) = 5 ∧ b.portOffOver p = true) := by
  refine ⟨?_, ?_, ?_, ?_, ?_, ?_, ?_, ?_, ?_, ?_, ?_, ?_, ?_⟩ <;> decide +kernel

theorem witness_PortHiccups :
    (let p : Fin 8 := 7
     let s := mk [((Reg.PORT_STAT_STATE p), 4), ((Reg.PORT_STAT_RETRIES p), 2), ((Reg.EVT_SRCk_CLASS 192), 0)]
         [Block.updPort p fun x => { x with trunc := 8 }]
     8 ≤ (s.blk.port p).trunc ∧ s.blk.rd (Reg.PORT_STAT_STATE p) ∈ [3, 4] ∧ s.blk.rd (Reg.PORT_STAT_RETRIES p) < 3 ∧
     s.blk.rd (Reg.EVT_SRCk_CLASS 192) = 0 ∧ Loggable s.blk { source := 192, unitType := 4, idx := p, extra := 1 }) ∧
    (let p : Fin 8 := 7
     let s := mk [((Reg.PORT_STAT_STATE p), 4), ((Reg.PORT_STAT_RETRIES p), 3)]
         [Block.updPort p fun x => { x with trunc := 8 }]
     8 ≤ (s.blk.port p).trunc ∧ s.blk.rd (Reg.PORT_STAT_STATE p) ∈ [3, 4] ∧ s.blk.rd (Reg.PORT_STAT_RETRIES p) = 3 ∧
     Loggable s.blk { source := 193, unitType := 4, idx := p }) ∧
    (let p : Fin 8 := 7
     let s := mk [((Reg.PORT_STAT_STATE p), 3), ((Reg.PORT_STAT_RETRIES p), 2), ((Reg.EVT_SRCk_CLASS 192), 0)]
         [Block.updPort p fun x => { x with r := 48000000 }]
     let settled := s.blk.untilUp ((s.blk.port p).entered + (s.blk.rd (Reg.PORT_SLEW_SS_MS p) + 5) * msPs)
     s.blk.rd (Reg.PORT_STAT_STATE p) = 3 ∧ settled.softFails p = true ∧ s.blk.rd (Reg.PORT_STAT_RETRIES p) < 3 ∧
     s.blk.rd (Reg.EVT_SRCk_CLASS 192) = 0 ∧ Loggable settled { source := 192, unitType := 4, idx := p, extra := 2 }) ∧
    (let p : Fin 8 := 7
     let s := mk [((Reg.PORT_STAT_STATE p), 3)]
     let settled := s.blk.untilUp ((s.blk.port p).entered + (s.blk.rd (Reg.PORT_SLEW_SS_MS p) + 5) * msPs)
     s.blk.rd (Reg.PORT_STAT_STATE p) = 3 ∧ settled.softFails p = false) := by
  refine ⟨?_, ?_, ?_, ?_⟩ <;> decide +kernel

theorem witness_PortOnTimes :
    (let p : Fin 8 := 7
     let second : Bool := true
     let s := mk [((Reg.PORT_STAT_STATE p), 4)]
         [Block.updLv fun x => { x with tripPins := [] },
          Block.updLeg (2 * p) fun x => { x with switching := true },
          Block.updLeg (2 * p + 1) fun x => { x with switching := true },
          Block.updPort p fun x => { x with formed := none, turn := true, ton := 100000, vcmp := 10 ^ 12 },
          Block.updLeg 14 fun x => { x with switching := true },
          Block.updLeg 15 fun x => { x with switching := true }]
     let x := s.blk.port p
     let l := if second then 2 * p.val + 1 else 2 * p.val
     let both := (s.blk.leg (2 * p)).switching = true ∧ (s.blk.leg (2 * p + 1)).switching = true
     let start := s.blk.tickIn 40
     let y := (s.blk.takeCfg l (s.blk.cfgAt l start)).leg l
     let now := s.blk.tickIn 0
     let low := s.blk.comparatorLow p now = true
     s.blk.lv.tripPins = [] ∧ s.blk.rd (Reg.PORT_STAT_STATE p) ∈ [3, 4] ∧ both ∧ low ∧ x.turn = second ∧
     x.onOf second = none ∧ x.formed = none ∧ (if second then x.offB else x.offA) = none ∧ y.lastEdge = none ∧
     y.refreshEnd = none ∧ y.restAt = none ∧ y.tmin ≤ x.ton) ∧
    (let p : Fin 8 := 7
     let second : Bool := true
     let s := mk [((Reg.PORT_STAT_STATE p), 4)]
         [Block.updLeg (2 * p) fun x => { x with switching := true },
          Block.updLeg (2 * p + 1) fun x => { x with switching := true },
          Block.updPort p fun x => { x with turn := true, onB := some 500, vcmp := 10 ^ 12 },
          Block.updLeg 14 fun x => { x with switching := true },
          Block.updLeg 15 fun x => { x with switching := true }]
     let x := s.blk.port p
     let both := (s.blk.leg (2 * p)).switching = true ∧ (s.blk.leg (2 * p + 1)).switching = true
     let now := s.blk.tickIn 0
     let low := s.blk.comparatorLow p now = true
     s.blk.rd (Reg.PORT_STAT_STATE p) ∈ [3, 4] ∧ both ∧ low ∧ x.turn = second ∧ x.onOf second ≠ none) ∧
    (let p : Fin 8 := 7
     let s := mk [((Reg.PORT_STAT_STATE p), 3)]
         [Block.updPort p fun x => { x with turn := true },
          Block.updLeg 14 fun x => { x with switching := true },
          Block.updLeg 15 fun x => { x with switching := true }]
     let both := (s.blk.leg (2 * p)).switching = true ∧ (s.blk.leg (2 * p + 1)).switching = true
     let now := s.blk.tickIn 0
     let low := s.blk.comparatorLow p now = true
     (s.blk.rd (Reg.PORT_STAT_STATE p) ∉ [3, 4] ∨ ¬ both ∨ ¬ low)) ∧
    (let p : Fin 8 := 7
     let second : Bool := true
     let e := (500 : Int)
     let s := mk [((Reg.PWM_LEG_STAT_STATE (if second then 2 * p.val + 1 else 2 * p.val)), 2)]
         [Block.updLv fun x => { x with tripPins := [] },
          Block.updPort p fun x => { x with waiting := false, onB := some e },
          Block.updLeg (if second then 2 * p.val + 1 else 2 * p.val) fun x => { x with switching := true, restAt := none }]
     let x := s.blk.port p
     let l := if second then 2 * p.val + 1 else 2 * p.val
     s.blk.lv.tripPins = [] ∧ x.onOf second = some e ∧ x.waiting = false ∧ (s.blk.leg l).switching = true ∧
     2 ≤ s.blk.rd (Reg.PWM_LEG_STAT_STATE l) ∧ (s.blk.leg l).restAt = none) ∧
    (let p : Fin 8 := 7
     let second : Bool := true
     let e := (500 : Int)
     let s := mk [((Reg.PWM_LEG_STAT_STATE (if second then 2 * p.val + 1 else 2 * p.val)), 2)]
         [Block.updLv fun x => { x with tripPins := [] },
          Block.updPort p fun x => { x with waiting := false, trunc := 6, onB := some e },
          Block.updLeg (if second then 2 * p.val + 1 else 2 * p.val) fun x => { x with switching := true, restAt := none }]
     let x := s.blk.port p
     let l := if second then 2 * p.val + 1 else 2 * p.val
     s.blk.lv.tripPins = [] ∧ x.onOf second = some e ∧ x.waiting = false ∧ (s.blk.leg l).switching = true ∧
     2 ≤ s.blk.rd (Reg.PWM_LEG_STAT_STATE l) ∧ (s.blk.leg l).restAt = none ∧ x.trunc < 7) ∧
    (let p : Fin 8 := 7
     let second : Bool := true
     let e := (500 : Int)
     let s := mk [((Reg.PWM_LEG_STAT_STATE (if second then 2 * p.val + 1 else 2 * p.val)), 1)]
         [Block.updLv fun x => { x with tripPins := [] },
          Block.updPort p fun x => { x with waiting := false, onB := some e },
          Block.updLeg (if second then 2 * p.val + 1 else 2 * p.val) fun x => { x with switching := true }]
     let x := s.blk.port p
     let l := if second then 2 * p.val + 1 else 2 * p.val
     s.blk.lv.tripPins = [] ∧ x.onOf second = some e ∧ x.waiting = false ∧ (s.blk.leg l).switching = true ∧
     s.blk.rd (Reg.PWM_LEG_STAT_STATE l) < 2) ∧
    (let p : Fin 8 := 7
     let second : Bool := true
     let e := (500 : Int)
     let s := mk []
         [Block.updLv fun x => { x with tripPins := [] },
          Block.updPort p fun x => { x with waiting := false, onB := some e },
          Block.updLeg (if second then 2 * p.val + 1 else 2 * p.val) fun x => { x with switching := false }]
     let x := s.blk.port p
     let l := if second then 2 * p.val + 1 else 2 * p.val
     s.blk.lv.tripPins = [] ∧ x.onOf second = some e ∧ x.waiting = false ∧ (s.blk.leg l).switching = false) ∧
    (let p : Fin 8 := 7
     let second : Bool := true
     let s := mk [((Reg.PWM_LEG_CFG_SRC 15), 3), ((Reg.PWM_LEG_STAT_STATE 15), 1)]
     let l := if second then 2 * p.val + 1 else 2 * p.val
     let b := s.blk.settleLeg l
     b.rd (Reg.PWM_LEG_STAT_STATE l) = 1 ∧ b.portLeg l = true) := by
  refine ⟨?_, ?_, ?_, ?_, ?_, ?_, ?_, ?_⟩ <;> decide +kernel

theorem witness_Fallback :
    (let s := mk [(Reg.PORT_FB_CFG_TIMEOUT_MS, 1)]
         [Block.updStrk fun x => { x with b := 1000000, ticking := true, phase := .begun },
          Block.updTb fun x => { x with run := true }]
     let lostAt := s.blk.rd64 Reg.SYS_HOST_RX_LO_TIME Reg.SYS_HOST_RX_HI_TIME + s.blk.rd
         Reg.PORT_FB_CFG_TIMEOUT_MS * 1000000
     s.blk.rd Reg.PORT_FB_CFG_TIMEOUT_MS ≠ 0 ∧ s.blk.holds = true ∧ (s.blk.until lostAt).atBoundary = true ∧
     lostAt ≤ (s.blk.until lostAt).ns) ∧
    (let s := mk [(Reg.PORT_FB_CFG_TIMEOUT_MS, 1)]
     let lostAt := s.blk.rd64 Reg.SYS_HOST_RX_LO_TIME Reg.SYS_HOST_RX_HI_TIME + s.blk.rd
         Reg.PORT_FB_CFG_TIMEOUT_MS * 1000000
     s.blk.rd Reg.PORT_FB_CFG_TIMEOUT_MS ≠ 0 ∧ s.blk.holds = true ∧ (s.blk.until lostAt).atBoundary = false) ∧
    (let s := mk [(Reg.PORT_FB_CFG_PIN_EN, 1), (Reg.PORT_FB_STAT_HOST, 0)]
     s.blk.on Reg.PORT_FB_CFG_PIN_EN = true ∧ s.blk.holds = true ∧ s.blk.on Reg.PORT_FB_STAT_HOST = false) ∧
    (let s := mk [(Reg.PORT_FB_CFG_PIN_EN, 0)]
     s.blk.on Reg.PORT_FB_CFG_PIN_EN = false) ∧
    (let rq : Req := rq0
     let s := mk [(Reg.PORT_FB_STAT_PIN, 1)] [turn rq 0x11]
     AtTurn s.blk rq 0x11 ∧ s.blk.on Reg.PORT_FB_STAT_PIN = true) ∧
    (let rq : Req := rq0
     let s := mk [(Reg.PORT_FB_STAT_PIN, 0)] [turn rq 0x11]
     AtTurn s.blk rq 0x11 ∧ s.blk.on Reg.PORT_FB_STAT_PIN = false) ∧
    (let s := mk [(Reg.PORT_FB_STAT_PIN, 0)] [Block.updLv fun x => { x with fbResume := true }]
     s.blk.lv.fbResume = true ∧ s.blk.on Reg.PORT_FB_STAT_PIN = false) ∧
    (let s := mk [(Reg.PORT_FB_STAT_PIN, 0)] [Block.updLv fun x => { x with fbResume := true }]
     s.blk.lv.fbResume = true ∧ s.blk.on Reg.PORT_FB_STAT_PIN = false) ∧
    (let s := mk [(Reg.PORT_FB_STAT_PIN, 0)] [Block.updLv fun x => { x with fbResume := true }]
     s.blk.lv.fbResume = true ∧ s.blk.on Reg.PORT_FB_STAT_PIN = false) := by
  refine ⟨?_, ?_, ?_, ?_, ?_, ?_, ?_, ?_, ?_⟩ <;> decide +kernel

theorem witness_PacketAcceptance :
    (let p : RxPacket := { pk0 with bytes := be 1 1 ++ be 1 0x22 ++ be 2 0 ++ be 4 1 ++ be 2 0 ++ zeros 6 }
     let s := mk []
         [Block.updCst fun x => { x with armed := some { b := 100000, timed := true, at_ := 0, deferred := false } },
          Block.updBoot fun x => { x with coreReset := false }]
     let h := p.bytes ++ zeros 16
     let op := field h 1 1
     let rq : Req := { src := packetSrc p, seq := BitVec.ofNat 32 (field h 4 4) }
     let body := (p.bytes.drop 16).take (field h 8 2)
     let heard := s.blk.portServed p.port = true ∧ s.blk.duplicate p = false ∧ (checkerPort p.port < 2 →
         s.blk.injects 3 (checkerPort p.port) = false)
     let whole := p.fcsOk = true ∧ fragment p = false ∧ (p.port = .svc ∨ (p.toUs = true ∧ s.blk.tagOk p.vlan =
         true ∧ s.blk.kindOk p = true ∧ sumOk p = true))
     let sound := (field h 2 2).testBit 0 = false ∧ s.blk.boot.coreReset = false ∧ field h 0 1 = 1 ∧ field h 8 2 ≤
         1400 ∧ field h 8 2 ≤ body.length ∧ lengthFits op body = true ∧ opDefined op = true ∧ op ≠ 0x90 ∧ op ≠
         0x42 ∧ (s.blk.boot.plinth = true → op ∈ plinthOps)
     let fresh := (s.blk.jv.queue.any fun q => q.req.seq == rq.seq && q.op.toNat == op) = false ∧
         (s.blk.jv.cache.find? fun r => r.seq == rq.seq && r.op.toNat == op && sameSource r.src rq.src) = none ∧
         seqNewer rq.seq.toNat (s.blk.rd Reg.SYS_SEQ_ACCEPTED_SEQ) = true
     heard ∧ whole ∧ sound ∧ fresh ∧ op = 0x22 ∧ s.blk.jv.queue.length < 32 ∧ s.blk.mayDisarm = true ∧
     s.blk.castHeld = false) ∧
    (let p : RxPacket := { pk0 with bytes := be 1 1 ++ be 1 0x22 ++ be 2 0 ++ be 4 1 ++ be 2 0 ++ zeros 6 }
     let q := ({ req := { rq0 with seq := 5 }, op := 0x20, wait := .cast, disarmed := false } : QCmd)
     let r := ([] : List QCmd)
     let s := mk []
         [Block.updCst fun x => { x with armed := some { b := 100000, timed := true, at_ := 0, deferred := false } },
          Block.updJv fun y => { y with queue := q :: r },
          Block.updBoot fun x => { x with coreReset := false },
          Block.updJv fun x => { x with queue := q :: r }]
     let h := p.bytes ++ zeros 16
     let op := field h 1 1
     let rq : Req := { src := packetSrc p, seq := BitVec.ofNat 32 (field h 4 4) }
     let body := (p.bytes.drop 16).take (field h 8 2)
     let heard := s.blk.portServed p.port = true ∧ s.blk.duplicate p = false ∧ (checkerPort p.port < 2 →
         s.blk.injects 3 (checkerPort p.port) = false)
     let whole := p.fcsOk = true ∧ fragment p = false ∧ (p.port = .svc ∨ (p.toUs = true ∧ s.blk.tagOk p.vlan =
         true ∧ s.blk.kindOk p = true ∧ sumOk p = true))
     let sound := (field h 2 2).testBit 0 = false ∧ s.blk.boot.coreReset = false ∧ field h 0 1 = 1 ∧ field h 8 2 ≤
         1400 ∧ field h 8 2 ≤ body.length ∧ lengthFits op body = true ∧ opDefined op = true ∧ op ≠ 0x90 ∧ op ≠
         0x42 ∧ (s.blk.boot.plinth = true → op ∈ plinthOps)
     let fresh := (s.blk.jv.queue.any fun q => q.req.seq == rq.seq && q.op.toNat == op) = false ∧
         (s.blk.jv.cache.find? fun r => r.seq == rq.seq && r.op.toNat == op && sameSource r.src rq.src) = none ∧
         seqNewer rq.seq.toNat (s.blk.rd Reg.SYS_SEQ_ACCEPTED_SEQ) = true
     heard ∧ whole ∧ sound ∧ fresh ∧ op = 0x22 ∧ s.blk.jv.queue.length < 32 ∧ s.blk.mayDisarm = true ∧
     s.blk.jv.queue = q :: r ∧ q.wait = .cast) ∧
    (let p : RxPacket := pk0
     let s := mk [] [Block.updBoot fun x => { x with coreReset := false }]
     let h := p.bytes ++ zeros 16
     let op := field h 1 1
     let rq : Req := { src := packetSrc p, seq := BitVec.ofNat 32 (field h 4 4) }
     let body := (p.bytes.drop 16).take (field h 8 2)
     let heard := s.blk.portServed p.port = true ∧ s.blk.duplicate p = false ∧ (checkerPort p.port < 2 →
         s.blk.injects 3 (checkerPort p.port) = false)
     let whole := p.fcsOk = true ∧ fragment p = false ∧ (p.port = .svc ∨ (p.toUs = true ∧ s.blk.tagOk p.vlan =
         true ∧ s.blk.kindOk p = true ∧ sumOk p = true))
     let sound := (field h 2 2).testBit 0 = false ∧ s.blk.boot.coreReset = false ∧ field h 0 1 = 1 ∧ field h 8 2 ≤
         1400 ∧ field h 8 2 ≤ body.length ∧ lengthFits op body = true ∧ opDefined op = true ∧ op ≠ 0x90 ∧ op ≠
         0x42 ∧ (s.blk.boot.plinth = true → op ∈ plinthOps)
     let fresh := (s.blk.jv.queue.any fun q => q.req.seq == rq.seq && q.op.toNat == op) = false ∧
         (s.blk.jv.cache.find? fun r => r.seq == rq.seq && r.op.toNat == op && sameSource r.src rq.src) = none ∧
         seqNewer rq.seq.toNat (s.blk.rd Reg.SYS_SEQ_ACCEPTED_SEQ) = true
     heard ∧ whole ∧ sound ∧ fresh ∧ op ≠ 0x22 ∨ s.blk.mayDisarm = false ∧ s.blk.jv.queue.length < 32) ∧
    (let p : RxPacket := pk0
     let s := mk []
         [Block.updJv fun x => { x with
             queue := List.replicate 32 { req := rq0, op := 2, wait := .turn, disarmed := false } },
          Block.updBoot fun x => { x with coreReset := false }]
     let h := p.bytes ++ zeros 16
     let op := field h 1 1
     let rq : Req := { src := packetSrc p, seq := BitVec.ofNat 32 (field h 4 4) }
     let body := (p.bytes.drop 16).take (field h 8 2)
     let heard := s.blk.portServed p.port = true ∧ s.blk.duplicate p = false ∧ (checkerPort p.port < 2 →
         s.blk.injects 3 (checkerPort p.port) = false)
     let whole := p.fcsOk = true ∧ fragment p = false ∧ (p.port = .svc ∨ (p.toUs = true ∧ s.blk.tagOk p.vlan =
         true ∧ s.blk.kindOk p = true ∧ sumOk p = true))
     let sound := (field h 2 2).testBit 0 = false ∧ s.blk.boot.coreReset = false ∧ field h 0 1 = 1 ∧ field h 8 2 ≤
         1400 ∧ field h 8 2 ≤ body.length ∧ lengthFits op body = true ∧ opDefined op = true ∧ op ≠ 0x90 ∧ op ≠
         0x42 ∧ (s.blk.boot.plinth = true → op ∈ plinthOps)
     let fresh := (s.blk.jv.queue.any fun q => q.req.seq == rq.seq && q.op.toNat == op) = false ∧
         (s.blk.jv.cache.find? fun r => r.seq == rq.seq && r.op.toNat == op && sameSource r.src rq.src) = none ∧
         seqNewer rq.seq.toNat (s.blk.rd Reg.SYS_SEQ_ACCEPTED_SEQ) = true
     heard ∧ whole ∧ sound ∧ fresh ∧ 32 ≤ s.blk.jv.queue.length) ∧
    (let p : RxPacket := { pk0 with fcsOk := false }
     let s := mk []
     let heard := s.blk.portServed p.port = true ∧ s.blk.duplicate p = false ∧ (checkerPort p.port < 2 →
         s.blk.injects 3 (checkerPort p.port) = false)
     heard ∧ p.fcsOk = false) ∧
    (let p : RxPacket := pk0
     let s := mk [(Reg.RST_STAGE_RELEASED, 0)]
     s.blk.portServed p.port = false) := by
  refine ⟨?_, ?_, ?_, ?_, ?_, ?_⟩ <;> decide +kernel

theorem witness_AnsweringCommands :
    (let rq : Req := rq0
     let payload : List Byte := []
     let s := mk [] [turn rq 0x01]
     AtTurn s.blk rq 0x01 ∧ payload.length ≤ 1400) ∧
    (let rq : Req := rq0
     let s := mk [] [turn rq 0x02]
     AtTurn s.blk rq 0x02) ∧
    (let rq : Req := rq0
     let off : Word := 0xFFFA98
     let len : BitVec 16 := 1384
     let s := mk [] [turn rq 0x30]
     AtTurn s.blk rq 0x30 ∧ 4 ≤ len.toNat ∧ len.toNat ≤ 1384 ∧ len.toNat % 4 = 0 ∧ off.toNat % 4 = 0 ∧
     off.toNat + len.toNat ≤ 0x1000000) ∧
    (let rq : Req := rq0
     let off : Word := 0xFFFFFC
     let len : BitVec 16 := 8
     let s := mk [] [turn rq 0x30]
     AtTurn s.blk rq 0x30 ∧ 4 ≤ len.toNat ∧ len.toNat ≤ 1384 ∧ len.toNat % 4 = 0 ∧
     (off.toNat % 4 ≠ 0 ∨ 0x1000000 < off.toNat + len.toNat)) ∧
    (let s := mk []
     s.blk.released 6 = true) ∧
    (let port : Stn := .b
     let ip : BitVec 32 := 5
     let s := mk [(Reg.SYS_JARVAS_IP_IPV4, 5), (Reg.SYS_JARVAS_CFG_UDP_EN, 1)]
         [Block.updBoot fun x => { x with configured := true }]
     s.blk.released 4 = true ∧ s.blk.dma.link (stnNum port) = true ∧ s.blk.cores = true ∧ s.blk.udpOn = true ∧
     ip.toNat = s.blk.rd Reg.SYS_JARVAS_IP_IPV4) ∧
    (let port : Stn := .b
     let ip : BitVec 32 := 1
     let s := mk []
     ip.toNat ≠ s.blk.rd Reg.SYS_JARVAS_IP_IPV4 ∨ s.blk.dma.link (stnNum port) = false) := by
  refine ⟨?_, ?_, ?_, ?_, ?_, ?_, ?_⟩ <;> decide +kernel

theorem witness_ConverterAndCellCommands :
    (let rq : Req := rq0
     let s := mk [(Reg.SYS_CONV_STAT_STATE, 0), (Reg.SYS_CONV_POP_NMIN, 0), (Reg.GATE_STAT_GATE24_OK, 1),
         (Reg.SAFE_STAT_STATE, 0)]
         [turn rq 0x40]
     AtTurn s.blk rq 0x40 ∧ s.blk.rd Reg.SYS_CONV_STAT_STATE = 0 ∧ s.blk.startErr = 0) ∧
    (let rq : Req := rq0
     let s := mk [(Reg.SYS_CONV_STAT_STATE, 0)] [turn rq 0x40]
     AtTurn s.blk rq 0x40 ∧ s.blk.rd Reg.SYS_CONV_STAT_STATE = 0 ∧ s.blk.startErr ≠ 0) ∧
    (let rq : Req := rq0
     let s := mk [(Reg.SYS_CONV_STAT_STATE, 1)] [turn rq 0x40]
     AtTurn s.blk rq 0x40 ∧ s.blk.rd Reg.SYS_CONV_STAT_STATE ≠ 0) ∧
    (let rq : Req := rq0
     let s := mk [(Reg.SYS_CONV_STAT_STATE, 3)] [turn rq 0x41]
     AtTurn s.blk rq 0x41 ∧ s.blk.rd Reg.SYS_CONV_STAT_STATE = 3) ∧
    (let rq : Req := rq0
     let s := mk [] [turn rq 0x41]
     AtTurn s.blk rq 0x41 ∧ s.blk.rd Reg.SYS_CONV_STAT_STATE ≠ 3) ∧
    (let rq : Req := rq0
     let slot : BitVec 16 := 1
     let s := mk [(Reg.SYS_CONV_POP_NPOP, 64), ((Reg.CELL_SLOT_STAT_STATE slot.toNat), 3)] [turn rq 0x50]
     AtTurn s.blk rq 0x50 ∧ slot.toNat ≤ 191 ∧ s.blk.populated slot.toNat = true ∧ s.blk.holds = true ∧
     3 ≤ s.blk.svc slot.toNat) ∧
    (let rq : Req := rq0
     let slot : BitVec 16 := 1
     let s := mk [(Reg.SYS_CONV_POP_NPOP, 64), ((Reg.CELL_SLOT_STAT_STATE slot.toNat), 1)] [turn rq 0x50]
     AtTurn s.blk rq 0x50 ∧ slot.toNat ≤ 191 ∧ s.blk.populated slot.toNat = true ∧ s.blk.svc slot.toNat = 1) ∧
    (let rq : Req := rq0
     let slot : BitVec 16 := 1
     let s := mk [(Reg.SYS_CONV_POP_NPOP, 64), ((Reg.CELL_SLOT_STAT_STATE slot.toNat), 1), (Reg.SYS_PWR_STAT_STATE, 1)]
         [turn rq 0x51]
     AtTurn s.blk rq 0x51 ∧ slot.toNat ≤ 191 ∧ s.blk.populated slot.toNat = true ∧ s.blk.holds = true ∧
     s.blk.svc slot.toNat = 1 ∧ s.blk.rd Reg.SYS_PWR_STAT_STATE < 2) ∧
    (let rq : Req := rq0
     let slot : BitVec 16 := 1
     let s := mk [(Reg.SYS_CONV_POP_NPOP, 64), (Reg.SYS_PAIR_CFG_EN, 1),
         ((Reg.CELL_SLOT_STAT_STATE slot.toNat), 1), (Reg.SYS_PWR_STAT_STATE, 1)]
         [turn rq 0x51]
     AtTurn s.blk rq 0x51 ∧ slot.toNat ≤ 191 ∧ s.blk.populated slot.toNat = true ∧ s.blk.holds = false ∧
     s.blk.svc slot.toNat = 1 ∧ s.blk.rd Reg.SYS_PWR_STAT_STATE < 2) ∧
    (let rq : Req := rq0
     let slot : BitVec 16 := 1
     let s := mk [(Reg.SYS_CONV_POP_NPOP, 64), (Reg.SYS_PWR_STAT_STATE, 2)] [turn rq 0x51]
     AtTurn s.blk rq 0x51 ∧ slot.toNat ≤ 191 ∧ s.blk.populated slot.toNat = true ∧ 2 ≤ s.blk.rd Reg.SYS_PWR_STAT_STATE) ∧
    (let rq : Req := rq0
     let slot : BitVec 16 := 1
     let s := mk [(Reg.SYS_CONV_POP_NPOP, 64), (Reg.SYS_PAIR_CFG_EN, 1)] [turn rq 0x50]
     AtTurn s.blk rq 0x50 ∧ slot.toNat ≤ 191 ∧ s.blk.populated slot.toNat = true ∧ s.blk.svc slot.toNat ≠ 1 ∧
     s.blk.holds = false) ∧
    (let rq : Req := rq0
     let slot : BitVec 16 := 1
     let s := mk [(Reg.SYS_CONV_POP_NPOP, 64), (Reg.SYS_PWR_STAT_STATE, 1)] [turn rq 0x51]
     AtTurn s.blk rq 0x51 ∧ slot.toNat ≤ 191 ∧ s.blk.populated slot.toNat = true ∧ s.blk.svc slot.toNat ≠ 1 ∧
     s.blk.rd Reg.SYS_PWR_STAT_STATE < 2) ∧
    (let rq : Req := rq0
     let slot : BitVec 16 := 192
     let s := mk [] [turn rq 0x50]
     AtTurn s.blk rq 0x50 ∧ 191 < slot.toNat) ∧
    (let rq : Req := rq0
     let slot : BitVec 16 := 192
     let s := mk [] [turn rq 0x51]
     AtTurn s.blk rq 0x51 ∧ 191 < slot.toNat) ∧
    (let s := mk [(Reg.SAFE_STAT_STATE, 0), (Reg.SYS_CONV_STAT_STATE, 4), ((Reg.EVT_SRCk_CLASS 230), 0)]
         [Block.updBoot fun x => { x with plinth := false }]
     s.blk.cores = true ∧ s.blk.boot.plinth = false ∧ s.blk.holds = true ∧ s.blk.rd Reg.SAFE_STAT_STATE = 0 ∧
     s.blk.rd Reg.SYS_CONV_STAT_STATE ∈ [2, 3, 4] ∧ s.blk.rd (Reg.EVT_SRCk_CLASS 230) = 0 ∧ Loggable s.blk { source := 230 }) := by
  refine ⟨?_, ?_, ?_, ?_, ?_, ?_, ?_, ?_, ?_, ?_, ?_, ?_, ?_, ?_, ?_⟩ <;> decide +kernel

theorem witness_ResetCommands :
    (let rq : Req := rq0
     let s := mk [] [turn rq 0xA0, Block.updBoot fun x => { x with coreDue := false, coreResets := [] }]
     s.blk.boot.coreDue = false ∧ AtTurn s.blk rq 0xA0 ∧ s.blk.jv.queue.length = 1 ∧ s.blk.boot.coreResets = []) ∧
    (let rq : Req := rq0
     let s := mk [(Reg.SYS_CONV_STAT_STATE, 0)]
         [turn rq 0xA0,
          Block.updBoot fun x => { x with coreDue := false, due := none }]
     s.blk.boot.coreDue = false ∧ AtTurn s.blk rq 0xA0 ∧ s.blk.rd Reg.SYS_CONV_STAT_STATE = 0 ∧ s.blk.boot.due = none) ∧
    (let rq : Req := rq0
     let s := mk [(Reg.SYS_CONV_STAT_STATE, 1)] [turn rq 0xA0, Block.updBoot fun x => { x with coreDue := false }]
     s.blk.boot.coreDue = false ∧ AtTurn s.blk rq 0xA0 ∧ s.blk.rd Reg.SYS_CONV_STAT_STATE ≠ 0) ∧
    (let rq : Req := rq0
     let level : BitVec 8 := 1
     let key : BitVec 24 := 1
     let s := mk [] [turn rq 0xA0, Block.updBoot fun x => { x with coreDue := false }]
     s.blk.boot.coreDue = false ∧ AtTurn s.blk rq 0xA0 ∧ (1 < level.toNat ∨ key ≠ 0xA55AC3)) ∧
    (let rq : Req := rq0
     let s := mk [] [turn rq 0xA1, Block.updBoot fun x => { x with coreDue := false, plinth := true, due := none }]
     s.blk.boot.coreDue = false ∧ AtTurn s.blk rq 0xA1 ∧ s.blk.boot.plinth = true ∧ s.blk.boot.due = none) ∧
    (let rq : Req := rq0
     let pkey : BitVec 32 := 1
     let s := mk [] [turn rq 0xA1, Block.updBoot fun x => { x with coreDue := false }]
     s.blk.boot.coreDue = false ∧ AtTurn s.blk rq 0xA1 ∧ (s.blk.boot.plinth = false ∨ pkey ≠ 0xA55AC3)) := by
  refine ⟨?_, ?_, ?_, ?_, ?_, ?_⟩ <;> decide +kernel

theorem witness_LaneSignals :
    (let l : Fin 192 := 191
     let s := mk [((Reg.LINK_STAT_STATE l), 2)]
     let st := s.blk.rd (Reg.LINK_STAT_STATE l)
     st = 2) ∧
    (let l : Fin 192 := 191
     let s := mk []
     let st := s.blk.rd (Reg.LINK_STAT_STATE l)
     st ≠ 2 ∧ st ≠ 4) ∧
    (let l : Fin 192 := 191
     let s := mk [((Reg.LINK_STAT_STATE l), 4), (Reg.SYS_CONV_POP_NPOP, 64)]
     let st := s.blk.rd (Reg.LINK_STAT_STATE l)
     let down : Occ := { source := 96, unitType := 2, idx := l, injected := (s.blk.lane l).inj }
     st = 4 ∧ s.blk.populated l = true ∧ Loggable s.blk down) ∧
    (let l : Fin 192 := 191
     let s := mk [((Reg.LINK_STAT_STATE l), 6), ((Reg.LINK_STAT_LOS l), 0)]
     let st := s.blk.rd (Reg.LINK_STAT_STATE l)
     st ∈ [2, 3, 4, 6] ∧ s.blk.on (Reg.LINK_STAT_LOS l) = false) ∧
    (let l : Fin 192 := 191
     let s := mk [((Reg.LINK_STAT_STATE l), 6)]
     let st := s.blk.rd (Reg.LINK_STAT_STATE l)
     st ∈ [2, 3, 6]) ∧
    (let l : Fin 192 := 191
     let s := mk [((Reg.LINK_STAT_BLOCK_LOCK l), 1)]
     s.blk.on (Reg.LINK_STAT_BLOCK_LOCK l) = true) := by
  refine ⟨?_, ?_, ?_, ?_, ?_, ?_⟩ <;> decide +kernel

theorem witness_LaneBringUp :
    (let l : Fin 192 := 191
     let s := mk [((Reg.LINK_STAT_STATE l), 7), (Reg.CLK_EARLY_DOMAINS, 0)]
         [Block.updBoot fun x => { x with configured := true }]
     let st := s.blk.rd (Reg.LINK_STAT_STATE l)
     st ∈ [1, 7] ∧ s.blk.boot.configured = true ∧ s.blk.rd Reg.CLK_EARLY_DOMAINS = 0) ∧
    (let l : Fin 192 := 191
     let t1 := (0 : Nat)
     let s := mk [] [Block.updLane l fun x => { x with burstPrev := some t1 }]
     let x := s.blk.lane l
     x.burstPrev = some t1 ∧ s.blk.tb.up ≤ t1 + 110240000) ∧
    (let l : Fin 192 := 191
     let t0 := (0 : Nat)
     let s := mk [((Reg.LINK_STAT_STATE l), 7)]
         [Block.updLane l fun x => { x with burstPrev := none, burstAt := some t0, burstOpen := true }]
     let st := s.blk.rd (Reg.LINK_STAT_STATE l)
     let x := s.blk.lane l
     st = 7 ∧ x.burstPrev = none ∧ x.burstAt = some t0 ∧ x.burstOpen = true ∧ s.blk.tb.up ≤ t0 + 110240000) ∧
    (let l : Fin 192 := 191
     let t0 := (0 : Nat)
     let s := mk [((Reg.LINK_STAT_STATE l), 1), ((Reg.LINK_STAT_LOS l), 0)]
         [Block.updLane l fun x => { x with burstPrev := none, burstAt := some t0, burstOpen := true, answered := 1 }]
     let st := s.blk.rd (Reg.LINK_STAT_STATE l)
     let x := s.blk.lane l
     st = 1 ∧ x.burstPrev = none ∧ x.burstAt = some t0 ∧ x.burstOpen = true ∧ s.blk.tb.up ≤ t0 + 110240000 ∧
     s.blk.on (Reg.LINK_STAT_LOS l) = false ∧ 1 ≤ x.answered) ∧
    (let l : Fin 192 := 191
     let t0 := (0 : Nat)
     let s := mk [((Reg.LINK_STAT_STATE l), 1), ((Reg.LINK_STAT_LOS l), 0)]
         [Block.updLane l fun x => { x with burstPrev := none, burstAt := some t0, burstOpen := true, answered := 0 }]
     let st := s.blk.rd (Reg.LINK_STAT_STATE l)
     let x := s.blk.lane l
     st = 1 ∧ x.burstPrev = none ∧ x.burstAt = some t0 ∧ x.burstOpen = true ∧ s.blk.tb.up ≤ t0 + 110240000 ∧
     s.blk.on (Reg.LINK_STAT_LOS l) = false ∧ x.answered = 0) ∧
    (let l : Fin 192 := 191
     let s := mk [((Reg.LINK_STAT_STATE l), 2), ((Reg.LINK_STAT_BLOCK_LOCK l), 1),
         ((Reg.LINK_STAT_FAR_LOCK l), 1), (Reg.CLK_EARLY_DOMAINS, 0)]
         [Block.updBoot fun x => { x with configured := true },
          Block.updLane l fun x => { x with echoing := false, ready := false, fast := true }]
     let st := s.blk.rd (Reg.LINK_STAT_STATE l)
     let x := s.blk.lane l
     st = 2 ∧ x.echoing = false ∧ x.ready = false ∧ s.blk.on (Reg.LINK_STAT_BLOCK_LOCK l) = true ∧
     s.blk.on (Reg.LINK_STAT_FAR_LOCK l) = true ∧ s.blk.boot.configured = true ∧ s.blk.rd Reg.CLK_EARLY_DOMAINS = 0 ∧
     x.fast = true) ∧
    (let l : Fin 192 := 191
     let s := mk [((Reg.LINK_STAT_STATE l), 2), ((Reg.LINK_STAT_BLOCK_LOCK l), 1),
         ((Reg.LINK_STAT_FAR_LOCK l), 1), (Reg.CLK_EARLY_DOMAINS, 0)]
         [Block.updBoot fun x => { x with configured := true },
          Block.updLane l fun x => { x with echoing := false, ready := false, fast := false }]
     let st := s.blk.rd (Reg.LINK_STAT_STATE l)
     let x := s.blk.lane l
     st = 2 ∧ x.echoing = false ∧ x.ready = false ∧ s.blk.on (Reg.LINK_STAT_BLOCK_LOCK l) = true ∧
     s.blk.on (Reg.LINK_STAT_FAR_LOCK l) = true ∧ s.blk.boot.configured = true ∧ s.blk.rd Reg.CLK_EARLY_DOMAINS = 0 ∧
     x.fast = false) ∧
    (let l : Fin 192 := 191
     let s := mk [((Reg.LINK_STAT_STATE l), 2)]
     let st := s.blk.rd (Reg.LINK_STAT_STATE l)
     st = 2) ∧
    (let l : Fin 192 := 191
     let loop : BitVec 32 := 25600
     let s := mk [((Reg.LINK_STAT_STATE l), 2)]
         [Block.updLane l fun x => { x with echoing := true, loops := List.replicate 14 100 }]
     let st := s.blk.rd (Reg.LINK_STAT_STATE l)
     let x := s.blk.lane l
     st = 2 ∧ x.echoing = true ∧ loop.toNat ≤ 25600 ∧ x.loops.length < 15) ∧
    (let l : Fin 192 := 191
     let loop : BitVec 32 := 104
     let s := mk [((Reg.LINK_STAT_STATE l), 2)]
         [Block.updLane l fun x => { x with echoing := true, loops := List.replicate 15 100 }]
     let st := s.blk.rd (Reg.LINK_STAT_STATE l)
     let x := s.blk.lane l
     let ls := x.loops ++ [loop.toNat]
     let spread := ls.foldl max 0 - ls.foldl min loop.toNat
     st = 2 ∧ x.echoing = true ∧ loop.toNat ≤ 25600 ∧ x.loops.length = 15 ∧ spread ≤ 4) ∧
    (let l : Fin 192 := 191
     let loop : BitVec 32 := 105
     let s := mk [((Reg.LINK_STAT_STATE l), 2)]
         [Block.updLane l fun x => { x with echoing := true, loops := List.replicate 15 100 }]
     let st := s.blk.rd (Reg.LINK_STAT_STATE l)
     let x := s.blk.lane l
     let rejected : Occ := { source := 98, unitType := 2, idx := l }
     let ls := x.loops ++ [loop.toNat]
     let spread := ls.foldl max 0 - ls.foldl min loop.toNat
     st = 2 ∧ x.echoing = true ∧ loop.toNat ≤ 25600 ∧ x.loops.length = 15 ∧ 4 < spread ∧ Loggable s.blk rejected) ∧
    (let l : Fin 192 := 191
     let s := mk [((Reg.LINK_STAT_STATE l), 2)] [Block.updLane l fun x => { x with echoing := true }]
     let st := s.blk.rd (Reg.LINK_STAT_STATE l)
     let x := s.blk.lane l
     let rejected : Occ := { source := 98, unitType := 2, idx := l }
     let b := s.blk.untilUp (x.echoAt + (x.loops.length + 2) * usPs)
     st = 2 ∧ x.echoing = true ∧ Loggable b rejected) ∧
    (let l : Fin 192 := 191
     let s := mk [((Reg.LINK_STAT_STATE l), 3)] [Block.updLane l fun x => { x with ready := false, attempts := 1 }]
     let st := s.blk.rd (Reg.LINK_STAT_STATE l)
     let x := s.blk.lane l
     st = 3 ∧ x.ready = false ∧ x.attempts < 2) ∧
    (let l : Fin 192 := 191
     let s := mk [((Reg.LINK_STAT_STATE l), 3)] [Block.updLane l fun x => { x with ready := false, attempts := 2 }]
     let st := s.blk.rd (Reg.LINK_STAT_STATE l)
     let x := s.blk.lane l
     let rejected : Occ := { source := 98, unitType := 2, idx := l }
     let third : Occ := { rejected with injected := x.inj }
     let b := s.blk.untilUp (x.entered + 10000000000)
     st = 3 ∧ x.ready = false ∧ 2 ≤ x.attempts ∧ Loggable b third) := by
  refine ⟨?_, ?_, ?_, ?_, ?_, ?_, ?_, ?_, ?_, ?_, ?_, ?_, ?_, ?_⟩ <;> decide +kernel

theorem witness_LaneFrames :
    (let l : Fin 192 := 191
     let bs : List Byte := sealed 92 (be 1 1 ++ be 1 1)
     let s := mk [((Reg.LINK_STAT_STATE l), 4)] [Block.updStrk fun x => { x with phase := .begun }]
     let st := s.blk.rd (Reg.LINK_STAT_STATE l)
     let good := bs.length = 96 ∧ crc32 (bs.take 92) = field bs 92 4 ∧ field bs 0 1 = 1 ∧ s.blk.injects 2 l = false
     good ∧ st = 4 ∧ field bs 1 1 = 1 ∧ field bs 4 8 = s.blk.strk.num ∧ s.blk.strk.phase = .begun ∧
     s.blk.tb.now.toNat ≤ (s.blk.strk.b + 270) * 2 ^ 32) ∧
    (let l : Fin 192 := 191
     let bs : List Byte := sealed 92 (be 1 1 ++ be 1 1)
     let s := mk [((Reg.LINK_STAT_STATE l), 4)]
     let st := s.blk.rd (Reg.LINK_STAT_STATE l)
     let good := bs.length = 96 ∧ crc32 (bs.take 92) = field bs 92 4 ∧ field bs 0 1 = 1 ∧ s.blk.injects 2 l = false
     let late := s.blk.strk.phase ≠ .begun ∨ (s.blk.strk.b + 270) * 2 ^ 32 < s.blk.tb.now.toNat
     good ∧ st = 4 ∧ late) ∧
    (let l : Fin 192 := 191
     let bs : List Byte := zeros 96
     let s := mk [((Reg.LINK_STAT_STATE l), 6)]
     let st := s.blk.rd (Reg.LINK_STAT_STATE l)
     bs.length = 96 ∧ st ∈ [2, 3, 4, 6] ∧ s.blk.injects 2 l = false ∧ crc32 (bs.take 92) ≠ field bs 92 4) ∧
    (let l : Fin 192 := 191
     let bs : List Byte := sealed 92 (be 1 1 ++ be 1 2 ++ zeros 18 ++ be 2 100 ++ zeros 4 ++ be 2 65535 ++ zeros 4 ++ be 1 1 ++ zeros 1 ++ be 2 1)
     let s := mk [((Reg.LINK_STAT_STATE l), 3)] [Block.updLane l fun x => { x with ready := false, resultBy := none }]
     let st := s.blk.rd (Reg.LINK_STAT_STATE l)
     let x := s.blk.lane l
     let good := bs.length = 96 ∧ crc32 (bs.take 92) = field bs 92 4 ∧ field bs 0 1 = 1 ∧ s.blk.injects 2 l = false
     let delay := rdiv ((x.loop : Int) - (field bs 28 2 : Int)) 2
     good ∧ st = 3 ∧ field bs 1 1 = 2 ∧ x.ready = false ∧ x.resultBy = none ∧ s.blk.capCause bs delay = none ∧
     x.cap ≠ some bs) ∧
    (let l : Fin 192 := 191
     let bs : List Byte := sealed 92 (be 1 1 ++ be 1 2 ++ zeros 18 ++ be 2 100 ++ zeros 4 ++ be 2 65535 ++ zeros 4 ++ be 1 1 ++ zeros 1 ++ be 2 1)
     let s := mk [((Reg.LINK_STAT_STATE l), 3)]
         [Block.updLane l fun x => { x with ready := false, resultBy := none, cap := some bs }]
     let st := s.blk.rd (Reg.LINK_STAT_STATE l)
     let x := s.blk.lane l
     let good := bs.length = 96 ∧ crc32 (bs.take 92) = field bs 92 4 ∧ field bs 0 1 = 1 ∧ s.blk.injects 2 l = false
     let delay := rdiv ((x.loop : Int) - (field bs 28 2 : Int)) 2
     good ∧ st = 3 ∧ field bs 1 1 = 2 ∧ x.ready = false ∧ x.resultBy = none ∧ s.blk.capCause bs delay = none ∧
     x.cap = some bs ∧ s.blk.rd64 (Reg.CELL_SN_LO_SN l) (Reg.CELL_SN_HI_SN l) = field bs 12 8) ∧
    (let l : Fin 192 := 191
     let bs : List Byte := sealed 92 (be 1 1 ++ be 1 2 ++ zeros 18 ++ be 2 19 ++ zeros 4 ++ be 2 65535 ++ zeros 4 ++ be 1 1 ++ zeros 1 ++ be 2 1)
     let c := (1 : Nat)
     let s := mk [((Reg.LINK_STAT_STATE l), 3)] [Block.updLane l fun x => { x with ready := false, resultBy := none }]
     let st := s.blk.rd (Reg.LINK_STAT_STATE l)
     let x := s.blk.lane l
     let good := bs.length = 96 ∧ crc32 (bs.take 92) = field bs 92 4 ∧ field bs 0 1 = 1 ∧ s.blk.injects 2 l = false
     let delay := rdiv ((x.loop : Int) - (field bs 28 2 : Int)) 2
     good ∧ st = 3 ∧ field bs 1 1 = 2 ∧ x.ready = false ∧ x.resultBy = none ∧ s.blk.capCause bs delay = some c ∧
     Loggable s.blk { source := 98, unitType := 2, idx := l }) := by
  refine ⟨?_, ?_, ?_, ?_, ?_, ?_⟩ <;> decide +kernel

theorem witness_LaneTests :
    (let l : Fin 192 := 191
     let s := mk [((Reg.LINK_STAT_STATE l), 5)] [Block.updLane l fun x => { x with pattern := false, dark := false }]
     let x := s.blk.lane l
     s.blk.rd (Reg.LINK_STAT_STATE l) = 5 ∧ x.pattern = false ∧ x.dark = false) ∧
    (let l : Fin 192 := 191
     let s := mk [] [Block.updLane l fun x => { x with pattern := true, syncAt := none }]
     let x := s.blk.lane l
     x.pattern = true ∧ x.syncAt = none) ∧
    (let l : Fin 192 := 191
     let t0 := (0 : Nat)
     let s := mk [] [Block.updLane l fun x => { x with syncAt := some t0 }]
     let x := s.blk.lane l
     x.syncAt = some t0) ∧
    (let l : Fin 192 := 191
     let s := mk [(Reg.SYS_CONV_POP_NPOP, 64)] [Block.updLane l fun x => { x with pattern := true, lenExp := 63 }]
     let x := s.blk.lane l
     x.pattern = true ∧ x.lenExp ≠ 0 ∧ s.blk.populated l = true) ∧
    (let l : Fin 192 := 191
     let s := mk [(Reg.SYS_CONV_POP_NPOP, 0)]
         [Block.updLane l fun x => { x with pattern := true, lenExp := 20, hostTest := true }]
     let x := s.blk.lane l
     x.pattern = true ∧ x.lenExp ≠ 0 ∧ s.blk.populated l = false) ∧
    (let l : Fin 192 := 191
     let s := mk []
     let x := s.blk.lane l
     x.pattern = false ∨ x.lenExp = 0) ∧
    (let l : Fin 192 := 191
     let s := mk [(Reg.SYS_CONV_POP_NPOP, 64)]
         [Block.updBoot fun x => { x with configured := true },
          Block.updLane l fun x => { x with dark := true }]
     let x := s.blk.lane l
     x.dark = true ∧ s.blk.lanesUp = true ∧ s.blk.boot.configured = true ∧ s.blk.populated l = true) ∧
    (let l : Fin 192 := 191
     let s := mk [(Reg.SYS_CONV_POP_NPOP, 0)]
         [Block.updBoot fun x => { x with configured := true },
          Block.updLane l fun x => { x with dark := true }]
     let x := s.blk.lane l
     x.dark = true ∧ s.blk.lanesUp = true ∧ (s.blk.boot.configured && s.blk.populated l) = false) ∧
    (let l : Fin 192 := 191
     let t0 := (0 : Nat)
     let s := mk [] [Block.updLane l fun x => { x with resultBy := some t0 }]
     let x := s.blk.lane l
     let b := s.blk.untilUp (t0 + s.blk.rd Reg.CELL_TIMEOUT_LINK_MS * msPs)
     x.resultBy = some t0 ∧ Loggable b { source := 100, unitType := 2, idx := l }) := by
  refine ⟨?_, ?_, ?_, ?_, ?_, ?_, ?_, ?_, ?_⟩ <;> decide +kernel

theorem witness_EventLog :
    (let idx : BitVec 16 := 1
     let r := ({ num := 0, time := 0, source := 40, cls := 0, injected := false, recurrence := false, lockout := false, loss := false, unitType := 0, repeats := 0, idx := 0, code := 0, data := 0, at_ := 0 } : Rec)
     let s := mk [] [Block.updEvt fun x => { x with held := [r] }]
     s.blk.released 6 = true ∧ firstHeld s.blk.evt.held = some r ∧ s.blk.evt.staged.length < stagingSize) ∧
    (let s := mk []
     (s.blk.evt.held = [] ∨ s.blk.released 6 = false)) ∧
    (let m : BitVec 16 := 1
     let s := mk [(Reg.DMA_STAT_HALTED, 0)]
     s.blk.cores = true ∧ s.blk.on Reg.DMA_STAT_HALTED = false ∧ (∀ m ∈ s.blk.bulkReady, m = 8)) ∧
    (let s := mk [(Reg.DMA_STAT_HALTED, 1)]
     s.blk.on Reg.DMA_STAT_HALTED = true) ∧
    (let rq : Req := rq0
     let first : BitVec 32 := 1
     let m : BitVec 16 := 1
     let idx : BitVec 16 := 1
     let r := { ({ num := 0, time := 0, source := 40, cls := 0, injected := false, recurrence := false, lockout := false, loss := false, unitType := 0, repeats := 0, idx := 0, code := 0, data := 0, at_ := 0 } : Rec) with num := 1 }
     let rs := ([] : List Rec)
     let s := mk [] [turn rq 0x60, Block.updEvt fun x => { x with staged := [r] }]
     let asked := (s.blk.evt.log.filter fun r => if first = 0xFFFFFFFF then unacked (s.blk.rd Reg.EVT_ACKED_NUM)
         r.num else notBefore r.num first.toNat).take m.toNat
     AtTurn s.blk rq 0x60 ∧ 1 ≤ m.toNat ∧ m.toNat ≤ 43 ∧ s.blk.injects 4 0 = false ∧ asked = r :: rs) ∧
    (let rq : Req := rq0
     let first : BitVec 32 := 1
     let m : BitVec 16 := 1
     let s := mk [] [turn rq 0x60]
     let asked := (s.blk.evt.log.filter fun r => if first = 0xFFFFFFFF then unacked (s.blk.rd Reg.EVT_ACKED_NUM)
         r.num else notBefore r.num first.toNat).take m.toNat
     AtTurn s.blk rq 0x60 ∧ 1 ≤ m.toNat ∧ m.toNat ≤ 43 ∧ asked = []) ∧
    (let rq : Req := rq0
     let first : BitVec 32 := 5
     let s := mk [(Reg.EVT_NEXT_NUM, 9)] [turn rq 0x61]
     AtTurn s.blk rq 0x61 ∧ unacked (s.blk.rd Reg.EVT_ACKED_NUM) first.toNat = true) ∧
    (let rq : Req := rq0
     let k : BitVec 8 := 4
     let idx : BitVec 16 := 1
     let n : BitVec 16 := 1
     let s := mk [] [turn rq 0x63]
     AtTurn s.blk rq 0x63 ∧ 1 ≤ n.toNat ∧ k.toNat ≤ 4 ∧ (k.toNat = 2 → idx.toNat ≤ 191) ∧ (k.toNat = 3 → idx.toNat ≤ 2) ∧
     (k.toNat ∈ [2, 3] ∨ s.blk.rd Reg.SYS_CONV_STAT_STATE = 0)) ∧
    (let rq : Req := rq0
     let k : BitVec 8 := 4
     let n : BitVec 16 := 1
     let s := mk [(Reg.SYS_CONV_STAT_STATE, 1)] [turn rq 0x63]
     AtTurn s.blk rq 0x63 ∧ 1 ≤ n.toNat ∧ k.toNat ∈ [0, 1, 4] ∧ s.blk.rd Reg.SYS_CONV_STAT_STATE ≠ 0) := by
  refine ⟨?_, ?_, ?_, ?_, ?_, ?_, ?_, ?_, ?_⟩ <;> decide +kernel

theorem witness_Recovery :
    (let p : Fin 8 := 7
     let s := mk [(Reg.SYS_CONV_STAT_STATE, 4), ((Reg.PORT_CFG_AUTO p), 1)]
         [Block.updRecov (512 + p) fun x => { x with fenced := true }]
     let quiet (key : Nat) : Prop := (s.blk.recov key).fenced = true ∧ (s.blk.recov key).lockout = false ∧
         (s.blk.recov key).manual = false ∧ (s.blk.recov key).returning = false ∧ s.blk.autoPolicy key = true
     quiet (512 + p) ∧ s.blk.rd (Reg.PORT_STAT_STATE p) ≠ 8 ∧ s.blk.causePresent 4 p = false ∧
     s.blk.rd Reg.SYS_CONV_STAT_STATE < 5) ∧
    (let p : Fin 8 := 7
     let s := mk [((Reg.PORT_CFG_AUTO p), 1), ((Reg.PORT_THETA_THETA p), 0x800000)]
         [Block.updRecov (512 + p) fun x => { x with fenced := true }]
     let quiet (key : Nat) : Prop := (s.blk.recov key).fenced = true ∧ (s.blk.recov key).lockout = false ∧
         (s.blk.recov key).manual = false ∧ (s.blk.recov key).returning = false ∧ s.blk.autoPolicy key = true
     quiet (512 + p) ∧ s.blk.rd (Reg.PORT_STAT_STATE p) ≠ 8 ∧ s.blk.causePresent 4 p = true) ∧
    (let slot : Fin 192 := 191
     let s := mk [(Reg.SYS_CONV_STAT_STATE, 4), ((Reg.CELL_SLOT_CFG_AUTO slot), 1)]
         [Block.updRecov slot fun x => { x with fenced := true }]
     let quiet (key : Nat) : Prop := (s.blk.recov key).fenced = true ∧ (s.blk.recov key).lockout = false ∧
         (s.blk.recov key).manual = false ∧ (s.blk.recov key).returning = false ∧ s.blk.autoPolicy key = true
     quiet slot ∧ s.blk.holds = true ∧ s.blk.causePresent 1 slot = false ∧ s.blk.rd Reg.SYS_CONV_STAT_STATE < 5 ∧
     s.blk.rd (Reg.LINK_STAT_STATE slot) ≠ 5) ∧
    (let p : Fin 8 := 7
     let s := mk [((Reg.PORT_STAT_STATE p), 8)]
     s.blk.rd (Reg.PORT_STAT_STATE p) = 8) ∧
    (let l : Fin 24 := 23
     let s := mk [] [Block.updRecov (256 + l) fun x => { x with fenced := false }]
     (s.blk.recov (256 + l)).fenced = false) ∧
    (let rq : Req := rq0
     let k : Fin 256 := 255
     let idx : BitVec 16 := 255
     let s := mk [((Reg.EVT_SRCk_CLASS 13), 0)] [turn rq 0x62, Block.updEvt fun x => { x with latchCls := [(255, 1)] }]
     let c := SMap.look 0 s.blk.evt.latchCls k
     AtTurn s.blk rq 0x62 ∧ idx.toNat = k ∧ c ≠ 0 ∧ c ≠ 4 ∧ s.blk.latchCause k = false ∧
     s.blk.rd Reg.SYS_CONV_STAT_STATE ≠ 5 ∧ s.blk.rd (Reg.EVT_SRCk_CLASS 13) = 0) ∧
    (let rq : Req := rq0
     let k : Fin 256 := 255
     let idx : BitVec 16 := 255
     let s := mk [] [turn rq 0x62, Block.updEvt fun x => { x with latchCls := [(255, 4)] }]
     let c := SMap.look 0 s.blk.evt.latchCls k
     AtTurn s.blk rq 0x62 ∧ idx.toNat = k ∧ c ≠ 0 ∧ (c = 4 ∨ s.blk.latchCause k = true)) ∧
    (let rq : Req := rq0
     let l : Fin 24 := 23
     let idx : BitVec 16 := 23
     let s := mk [((Reg.PWM_LEG_STAT_FENCED l), 1), ((Reg.EVT_SRCk_CLASS 13), 0)] [turn rq 0x62]
     AtTurn s.blk rq 0x62 ∧ idx.toNat = l ∧ l.val ≠ 20 ∧ s.blk.on (Reg.PWM_LEG_STAT_FENCED l) = true ∧
     s.blk.unitHalted 3 l = false ∧ s.blk.causePresent 3 l = false ∧ s.blk.rd Reg.SYS_CONV_STAT_STATE ≠ 5 ∧
     s.blk.rd (Reg.EVT_SRCk_CLASS 13) = 0) ∧
    (let rq : Req := rq0
     let unit : BitVec 8 := 3
     let idx : BitVec 16 := 24
     let s := mk [] [turn rq 0x62]
     AtTurn s.blk rq 0x62 ∧ unit.toNat ≠ 0 ∧ clearable unit.toNat ≤ idx.toNat) := by
  refine ⟨?_, ?_, ?_, ?_, ?_, ?_, ?_, ?_, ?_⟩ <;> decide +kernel

theorem witness_PowerStates :
    (let rq : Req := rq0
     let tol : BitVec 32 := 200
     let s := mk [(Reg.SYS_CONV_STAT_STATE, 1)] [turn rq 0x70]
     let off := s.blk.rd Reg.SYS_CONV_STAT_STATE = 0
     AtTurn s.blk rq 0x70 ∧ ¬ off ∧ 200 ≤ tol.toNat) ∧
    (let rq : Req := rq0
     let tol : BitVec 32 := 2000000
     let s := mk [(Reg.SYS_CONV_STAT_STATE, 0)]
         [turn rq 0x70,
          Block.updCst fun x => { x with armed := some { b := 100000, timed := true, at_ := 0, deferred := false } }]
     let off := s.blk.rd Reg.SYS_CONV_STAT_STATE = 0
     AtTurn s.blk rq 0x70 ∧ off ∧ 2000000 ≤ tol.toNat ∧ (s.blk.cst.armed.isSome = true ∨ s.blk.boot.staged ≠ [])) ∧
    (let rq : Req := rq0
     let tol : BitVec 32 := 199
     let s := mk [(Reg.SYS_CONV_STAT_STATE, 0), (Reg.SYS_PWR_STAT_STATE, 0)]
         [turn rq 0x70,
          Block.updPow fun x => { x with target := none }]
     let st := s.blk.rd Reg.SYS_PWR_STAT_STATE
     let off := s.blk.rd Reg.SYS_CONV_STAT_STATE = 0
     AtTurn s.blk rq 0x70 ∧ off ∧ st = 0 ∧ s.blk.pow.target = none ∧ 5 ≤ tol.toNat ∧ tol.toNat < 200) ∧
    (let rq : Req := rq0
     let tol : BitVec 32 := 200
     let s := mk [(Reg.SYS_CONV_STAT_STATE, 0), (Reg.SYS_PWR_STAT_STATE, 1)]
         [turn rq 0x70,
          Block.updPow fun x => { x with target := none }]
     let st := s.blk.rd Reg.SYS_PWR_STAT_STATE
     let off := s.blk.rd Reg.SYS_CONV_STAT_STATE = 0
     AtTurn s.blk rq 0x70 ∧ off ∧ st < 2 ∧ s.blk.pow.target = none ∧ 200 ≤ tol.toNat ∧ tol.toNat < 2000000) ∧
    (let q := ({ req := rq0, op := 0x70, wait := .power, disarmed := false } : QCmd)
     let r := ([] : List QCmd)
     let s := mk [(Reg.SYS_PWR_STAT_STATE, 1)]
         [Block.updPow fun x => { x with target := some 2 },
          Block.updJv fun x => { x with queue := q :: r }]
     let st := s.blk.rd Reg.SYS_PWR_STAT_STATE
     st < 2 ∧ s.blk.pow.target = some 2 ∧ s.blk.jv.queue = q :: r ∧ q.wait = .power) ∧
    (let s := mk [] [Block.updPow fun x => { x with target := none }]
     s.blk.pow.target = none) ∧
    (let s := mk [(Reg.SYS_PWR_STAT_STATE, 4)]
     let st := s.blk.rd Reg.SYS_PWR_STAT_STATE
     st = 4) ∧
    (let rq : Req := rq0
     let tol : BitVec 32 := 199
     let s := mk [(Reg.SYS_CONV_STAT_STATE, 5)] [turn rq 0x70, Block.updPow fun x => { x with target := none }]
     AtTurn s.blk rq 0x70 ∧ 5 ≤ s.blk.rd Reg.SYS_CONV_STAT_STATE ∧ s.blk.pow.target = none ∧ tol.toNat < 200) ∧
    (let rq : Req := rq0
     let tol : BitVec 32 := 4
     let s := mk [(Reg.SYS_CONV_STAT_STATE, 0), (Reg.SYS_PWR_STAT_STATE, 1)]
         [turn rq 0x70,
          Block.updPow fun x => { x with target := none }]
     let st := s.blk.rd Reg.SYS_PWR_STAT_STATE
     let off := s.blk.rd Reg.SYS_CONV_STAT_STATE = 0
     AtTurn s.blk rq 0x70 ∧ off ∧ st = 1 ∧ s.blk.pow.target = none ∧ tol.toNat < 5) ∧
    (let s := mk []
     let st := s.blk.rd Reg.SYS_PWR_STAT_STATE
     st ≠ 4) := by
  refine ⟨?_, ?_, ?_, ?_, ?_, ?_, ?_, ?_, ?_, ?_⟩ <;> decide +kernel

theorem witness_SagAndTemperatures :
    (let s := mk [((Reg.EVT_SRCk_CLASS 36), 0), (Reg.SYS_PWR_STAT_SAG, 0)]
     let l := s.blk.rd Reg.SYS_PWR_STAT_SAG
     s.blk.rd (Reg.EVT_SRCk_CLASS 36) = 0 ∧ l = 0 ∧ Loggable s.blk { source := 36, code := 1 }) ∧
    (let s := mk [((Reg.EVT_SRCk_CLASS 36), 0), (Reg.SYS_PWR_STAT_SAG, 1)]
     let l := s.blk.rd Reg.SYS_PWR_STAT_SAG
     s.blk.rd (Reg.EVT_SRCk_CLASS 36) = 0 ∧ l ≠ 0) ∧
    (let s := mk [((Reg.EVT_SRCk_CLASS 36), 0), (Reg.SYS_PWR_STAT_SAG, 1)]
     let l := s.blk.rd Reg.SYS_PWR_STAT_SAG
     let b := s.blk.untilUp (s.blk.pow.sagAt + 5 * msPs)
     s.blk.rd (Reg.EVT_SRCk_CLASS 36) = 0 ∧ l = 1 ∧ Loggable b { source := 36, code := 2 }) ∧
    (let s := mk [((Reg.EVT_SRCk_CLASS 36), 0)]
     let l := s.blk.rd Reg.SYS_PWR_STAT_SAG
     s.blk.rd (Reg.EVT_SRCk_CLASS 36) = 0 ∧ l ≠ 1) ∧
    (let s := mk [((Reg.EVT_SRCk_CLASS 36), 0), (Reg.SYS_PWR_STAT_SAG, 2)]
     let l := s.blk.rd Reg.SYS_PWR_STAT_SAG
     s.blk.rd (Reg.EVT_SRCk_CLASS 36) = 0 ∧ l ∈ [1, 2] ∧ Loggable s.blk { source := 36, code := l - 1 }) ∧
    (let s := mk [((Reg.EVT_SRCk_CLASS 36), 0), (Reg.SYS_PWR_STAT_SAG, 0)]
     let l := s.blk.rd Reg.SYS_PWR_STAT_SAG
     s.blk.rd (Reg.EVT_SRCk_CLASS 36) = 0 ∧ l = 0) ∧
    (let rs : List SensorReading := List.replicate 20 (.temp 400)
     let s := mk [((Reg.EVT_SRCk_CLASS 233), 0), ((Reg.EVT_SRCk_CLASS 234), 0), ((Reg.EVT_SRCk_CLASS 236), 0)]
     let temp (k : Nat) : Int := (rs[k]?.map readingTemp).getD (s.blk.rdS (Reg.THRM_SENSk_TEMP k))
     let spot (k : Nat) : Int := max (temp (2 * k)) (temp (2 * k + 1))
     s.blk.rd (Reg.EVT_SRCk_CLASS 233) = 0 ∧ s.blk.rd (Reg.EVT_SRCk_CLASS 234) = 0 ∧ s.blk.rd (Reg.EVT_SRCk_CLASS 236) = 0 ∧
     rs.length = 20 ∧ (∀ k : Fin 10, spot k < s.blk.threshold Reg.THRM_OPT_SHUTDOWN_C)) ∧
    (let h : Fin 10 := 9
     let on : Bool := false
     let s := mk []
     (on = false ∨ s.blk.on (Reg.THRM_SPOTh_DISAGREE h) = true)) ∧
    (let h : Fin 10 := 9
     let s := mk [((Reg.THRM_SPOTh_DISAGREE h), 0)]
     let o : Occ := { source := 236, unitType := 14, idx := 2 * h, code := 2 }
     s.blk.on (Reg.THRM_SPOTh_DISAGREE h) = false ∧ Loggable s.blk o) := by
  refine ⟨?_, ?_, ?_, ?_, ?_, ?_, ?_, ?_, ?_⟩ <;> decide +kernel

theorem witness_CellService :
    (let n : Fin 192 := 191
     let s := mk [((Reg.CELL_SLOT_STAT_STATE n), 2)] [Block.updCell n fun x => { x with fence := none, probe := .reports }]
     let c := s.blk.cell n
     let b1 := s.blk.untilUp (c.entered + s.blk.rd Reg.CELL_TIMEOUT_LINK_MS * msPs)
     s.blk.svc n = 2 ∧ s.blk.holds = true ∧ c.probe ∈ [.link1, .link2, .reports] ∧ c.fence = none ∧
     Loggable b1 { source := 102, unitType := 1, idx := n }) ∧
    (let n : Fin 192 := 191
     let s := mk [((Reg.CELL_SLOT_STAT_STATE n), 3)] [Block.updCell n fun x => { x with fence := none }]
     let c := s.blk.cell n
     let b2 := s.blk.untilUp (c.entered + s.blk.rd Reg.CELL_TIMEOUT_CHG_MS * msPs)
     s.blk.svc n = 3 ∧ s.blk.holds = true ∧ c.fence = none ∧ Loggable b2 { source := 103, unitType := 1, idx := n }) ∧
    (let n : Fin 192 := 191
     let s := mk [(Reg.SYS_CONV_STAT_STATE, 4), ((Reg.CELL_SLOT_STAT_STATE n), 3)]
         [boundary,
          Block.updStrk fun x => { x with carrier := true, untimed := false },
          Block.updCell n fun x => { x with fence := none, run := 65535 }]
     let c := s.blk.cell n
     s.blk.holds = true ∧ s.blk.atBoundary = true ∧ s.blk.strk.carrier = true ∧ s.blk.running = true ∧
     s.blk.strk.untimed = false ∧ s.blk.runState ≠ 0 ∧ c.fence = none ∧ s.blk.svc n = 3 ∧
     s.blk.rd Reg.CELL_GCFG_HOLD ≤ c.run) ∧
    (let n : Fin 192 := 191
     let s := mk [(Reg.SYS_CONV_STAT_STATE, 4), ((Reg.CELL_SLOT_STAT_STATE n), 4), ((Reg.CELL_SLOT_STAT_JOIN_CNT n), 64)]
         [boundary,
          Block.updStrk fun x => { x with carrier := true, untimed := false },
          Block.updCell n fun x => { x with fence := none, run := 2 }]
     let c := s.blk.cell n
     s.blk.holds = true ∧ s.blk.atBoundary = true ∧ s.blk.strk.carrier = true ∧ s.blk.running = true ∧
     s.blk.strk.untimed = false ∧ s.blk.runState ≠ 0 ∧ c.fence = none ∧ s.blk.svc n = 4 ∧
     s.blk.rd (Reg.CELL_SLOT_STAT_JOIN_CNT n) = 64 ∧ 2 ≤ c.run) ∧
    (let s := mk []
     s.blk.atBoundary = false) ∧
    (let k : Fin 3 := 2
     let spare := (128 : Nat)
     let out := (129 : Nat)
     let s := mk [((Reg.CELL_ARM_SWAP_ACTIVE k), 0), ((Reg.CELL_SLOT_STAT_STATE 128), 5),
         ((Reg.CELL_SLOT_STAT_SPARE 128), 1), ((Reg.CELL_SLOT_STAT_STATE 129), 5), (Reg.SYS_CONV_STAT_STATE, 3)]
         [Block.updLane 128 fun x => { x with fresh := true },
          Block.updArm 2 fun x => { x with vCnt := 1, vSum := 1 },
          Block.updStrk fun x => { x with untimed := false }]
     s.blk.holds = true ∧ s.blk.runState = 3 ∧ s.blk.on (Reg.CELL_ARM_SWAP_ACTIVE k) = false ∧
     (∀ i : Fin 64, s.blk.svc (i + 64 * k) ≠ 2) ∧ s.blk.armBusy k = false ∧ s.blk.strk.untimed = false ∧
     s.blk.sagging k = some spare ∧ s.blk.mostWorn (s.blk.activesOf k) = some out) ∧
    (let s := mk [(Reg.CLK_EARLY_DOMAINS, 0)]
         [Block.updEvt fun x => { x with blockDue := true },
          Block.updBoot fun x => { x with configured := true }]
     s.blk.evt.blockDue = true ∧ s.blk.boot.configured = true ∧ s.blk.rd Reg.CLK_EARLY_DOMAINS = 0) ∧
    (let s := mk [] [Block.updEvt fun x => { x with blockDue := false }]
     s.blk.evt.blockDue = false) := by
  refine ⟨?_, ?_, ?_, ?_, ?_, ?_, ?_, ?_⟩ <;> decide +kernel

theorem witness_PatinaLedger :
    (let s := mk []
         [fun b => { b with cells := { b.cells with streams := [(767, { (default : Stream) with bins := [(127, 5)] })] } }]
     s.blk.cores = true) ∧
    (let s := mk [(Reg.DMA_STAT_HALTED, 0)]
     s.blk.cores = true ∧ s.blk.on Reg.DMA_STAT_HALTED = false) ∧
    (let s := mk [] [Block.updCells fun x => { x with committing := true }]
     s.blk.cells.committing = true ∧ (∀ m ∈ s.blk.bulkReady, m = 9)) ∧
    (let s := mk [((Reg.EVT_SRCk_CLASS 11), 0)] [Block.updCells fun x => { x with committing := true }]
     s.blk.cells.committing = true ∧ (∀ m ∈ s.blk.bulkReady, m = 9) ∧ s.blk.rd (Reg.EVT_SRCk_CLASS 11) = 0 ∧
     Loggable s.blk { source := 11 }) ∧
    (let s := mk [] [Block.updCells fun x => { x with committing := false }]
     s.blk.cells.committing = false) := by
  refine ⟨?_, ?_, ?_, ?_, ?_⟩ <;> decide +kernel

theorem witness_ImageCommands :
    (let rq : Req := rq0
     let data : List Byte := zeros 1392
     let s := mk [] [turn rq 0x80]
     AtTurn s.blk rq 0x80 ∧ imageDataFits data.length = true) ∧
    (let rq : Req := rq0
     let ty : ImgType := .maquette
     let off : Word := 4
     let data : List Byte := zeros 4
     let s := mk [] [turn rq 0x80, Block.updBoot fun x => { x with staged := [(2, rawImage (zeros 4))] }]
     let old := ((s.blk.stagedOf ty).map (·.bytes)).getD []
     AtTurn s.blk rq 0x80 ∧ imageDataFits data.length = true ∧ off.toNat = old.length ∧ 0 < old.length ∧
     off.toNat + data.length ≤ imgLimit ty) ∧
    (let rq : Req := rq0
     let ty : ImgType := .maquette
     let off : Word := 4
     let data : List Byte := zeros 4
     let s := mk [] [turn rq 0x80]
     let old := ((s.blk.stagedOf ty).map (·.bytes)).getD []
     AtTurn s.blk rq 0x80 ∧ imageDataFits data.length = true ∧ off.toNat ≠ 0 ∧ off.toNat ≠ old.length) ∧
    (let ty : ImgType := .maquette
     let q := ({ req := rq0, op := 0x80, wait := .program .maquette, disarmed := false } : QCmd)
     let r := ([] : List QCmd)
     let s := mk [(Reg.DMA_STAT_HALTED, 0)] [Block.updJv fun x => { x with queue := q :: r }]
     let alone := s.blk.on Reg.DMA_STAT_HALTED = false ∧ ∀ m ∈ s.blk.bulkReady, m = 11
     s.blk.jv.queue = q :: r ∧ q.wait = .program ty ∧ alone) ∧
    (let ty : ImgType := .maquette
     let q := ({ req := rq0, op := 0x80, wait := .program .maquette, disarmed := false } : QCmd)
     let r := ([] : List QCmd)
     let s := mk [(Reg.DMA_STAT_HALTED, 1)] [Block.updJv fun x => { x with queue := q :: r }]
     s.blk.jv.queue = q :: r ∧ q.wait = .program ty ∧ s.blk.on Reg.DMA_STAT_HALTED = true) ∧
    (let ty : ImgType := .maquette
     let q := ({ req := rq0, op := 0x80, wait := .program .maquette, disarmed := false } : QCmd)
     let r := ([] : List QCmd)
     let s := mk [] [Block.updJv fun x => { x with queue := q :: r }]
     s.blk.jv.queue = q :: r ∧ q.wait = .program ty) ∧
    (let rq : Req := rq0
     let ty : ImgType := .maquette
     let s := mk [] [turn rq 0x81, Block.updBoot fun x => { x with staged := [(2, rawImage (zeros 4))] }]
     AtTurn s.blk rq 0x81 ∧ s.blk.stagedOf ty ≠ none) ∧
    (let rq : Req := rq0
     let ty : ImgType := .maquette
     let s := mk [] [turn rq 0x81]
     AtTurn s.blk rq 0x81 ∧ s.blk.stagedOf ty = none) ∧
    (let ty : ImgType := .maquette
     let q := ({ req := rq0, op := 0x81, wait := .verify .maquette, disarmed := false } : QCmd)
     let r := ([] : List QCmd)
     let i := rawImage (zeros 4)
     let s := mk [(Reg.DMA_STAT_HALTED, 0)]
         [Block.updBoot fun x => { x with staged := [(2, rawImage (zeros 4))] },
          Block.updJv fun x => { x with queue := q :: r }]
     let alone := s.blk.on Reg.DMA_STAT_HALTED = false ∧ ∀ m ∈ s.blk.bulkReady, m = 11
     s.blk.jv.queue = q :: r ∧ q.wait = .verify ty ∧ s.blk.stagedOf ty = some i ∧ s.blk.injects 4 0 = false ∧ alone) ∧
    (let rq : Req := rq0
     let ty : ImgType := .maquette
     let i := { rawImage (zeros 4) with verified := true }
     let s := mk []
         [turn rq 0x82,
          Block.updBoot fun x => { x with staged := [(2, { rawImage (zeros 4) with verified := true })] },
          Block.updCst fun x => { x with armed := none, resync := none }]
     AtTurn s.blk rq 0x82 ∧ s.blk.stagedOf ty = some i ∧ i.verified = true ∧ s.blk.cst.armed = none ∧
     s.blk.cst.resync = none) ∧
    (let rq : Req := rq0
     let ty : ImgType := .maquette
     let i := { rawImage (zeros 4) with verified := true }
     let s := mk []
         [turn rq 0x82,
          Block.updBoot fun x => { x with staged := [(2, { rawImage (zeros 4) with verified := true })] },
          Block.updCst fun x => { x with armed := some { b := 100000, timed := true, at_ := 0, deferred := false } },
          Block.updCst fun x => { x with resync := none }]
     AtTurn s.blk rq 0x82 ∧ ty = .maquette ∧ s.blk.stagedOf ty = some i ∧ i.verified = true ∧ s.blk.cst.armed ≠ none ∧
     s.blk.cst.resync = none) ∧
    (let ty : ImgType := .maquette
     let q := ({ req := rq0, op := 0x82, wait := .activate .maquette, disarmed := false } : QCmd)
     let r := ([] : List QCmd)
     let i := { rawImage (zeros 4) with verified := true }
     let s := mk [(Reg.DMA_STAT_HALTED, 0)]
         [Block.updBoot fun x => { x with staged := [(2, { rawImage (zeros 4) with verified := true })] },
          Block.updJv fun x => { x with queue := q :: r }]
     let alone := s.blk.on Reg.DMA_STAT_HALTED = false ∧ ∀ m ∈ s.blk.bulkReady, m = 11
     s.blk.jv.queue = q :: r ∧ q.wait = .activate ty ∧ s.blk.stagedOf ty = some i ∧ alone) ∧
    (let rq : Req := rq0
     let ty : ImgType := .maquette
     let s := mk [] [turn rq 0x82, Block.updCst fun x => { x with resync := none }]
     AtTurn s.blk rq 0x82 ∧ s.blk.cst.resync = none ∧ (∀ i, s.blk.stagedOf ty = some i → i.verified = false)) ∧
    (let rq : Req := rq0
     let nonce : List Byte := zeros 64
     let s := mk [] [turn rq 0x83]
     AtTurn s.blk rq 0x83 ∧ 16 ≤ nonce.length ∧ nonce.length ≤ 64) := by
  refine ⟨?_, ?_, ?_, ?_, ?_, ?_, ?_, ?_, ?_, ?_, ?_, ?_, ?_, ?_⟩ <;> decide +kernel

theorem witness_ResetCauses :
    (let s := mk []
     s.blk.released 0 = true) ∧
    (let s := mk [(Reg.RST_STAGE_RELEASED, 0)]
     s.blk.released 0 = false) ∧
    (let s := mk []
         [Block.updStrk fun x => { x with ticking := true },
          Block.updBoot fun x => { x with configured := true }]
     s.blk.strk.ticking = true ∧ s.blk.boot.configured = true) ∧
    (let s := mk [(Reg.RST_STAGE_RELEASED, 127)]
         [Block.updBoot fun x => { x with plinth := false },
          Block.updPair fun x => { x with waiting := false }]
     s.blk.released 2 = true ∧ s.blk.released 7 = false ∧ s.blk.boot.plinth = false ∧ s.blk.pair.waiting = false) ∧
    (let s := mk [] [Block.updBoot fun x => { x with coreResets := [], wdAt := none }]
     s.blk.cores = true ∧ s.blk.castHeld = false ∧ s.blk.boot.coreResets = [] ∧ s.blk.boot.wdAt = none ∧
     Loggable s.blk { source := 35 }) ∧
    (let s := mk [] [Block.updBoot fun x => { x with coreResets := [] }]
     s.blk.cores = true ∧ s.blk.castHeld = false ∧ s.blk.boot.coreResets = [] ∧ Loggable s.blk { source := 34 }) ∧
    (let addr : Word := 1
     let s := mk [] [Block.updBoot fun x => { x with coreResets := [] }]
     let sram : Occ := { source := 3, extra := addr.toNat }
     s.blk.cores = true ∧ s.blk.castHeld = false ∧ s.blk.boot.coreResets = [] ∧ Loggable s.blk sram) ∧
    (let t0 := (0 : Nat)
     let s := mk [] [Block.updBoot fun x => { x with wdAt := some t0 }]
     s.blk.cores = true ∧ s.blk.boot.wdAt = some t0 ∧ s.blk.tb.up ≤ t0 + 10000 * msPs ∧ Loggable s.blk { source := 35 }) ∧
    (let r : SramRegion := .edgeFrame
     let addr : Word := 1
     let s := mk []
     let sram : Occ := { source := 3, extra := addr.toNat }
     sramCritical r = true ∧ Loggable s.blk sram) ∧
    (let r : SramRegion := .maquette
     let addr : Word := 1
     let s := mk []
     let sram : Occ := { source := 3, extra := addr.toNat }
     r = .maquette ∧ Loggable s.blk sram) ∧
    (let r : SramRegion := .imageFrozen
     let addr : Word := 1
     let s := mk []
     let sram : Occ := { source := 3, extra := addr.toNat }
     r ∈ [.imageFilling, .imageFrozen, .dmaTelemetry, .eventStaging] ∧ Loggable s.blk sram) ∧
    (let addr : Word := 0x110
     let s := mk []
     let parity : Occ := { source := 4, extra := addr.toNat }
     s.blk.injects 1 0 = false ∧ Loggable s.blk parity ∧ criticalReg addr.toNat = true) ∧
    (let addr : Word := 1
     let s := mk []
     let parity : Occ := { source := 4, extra := addr.toNat }
     s.blk.injects 1 0 = false ∧ Loggable s.blk parity ∧ criticalReg addr.toNat = false) := by
  refine ⟨?_, ?_, ?_, ?_, ?_, ?_, ?_, ?_, ?_, ?_, ?_, ?_, ?_⟩ <;> decide +kernel

theorem witness_ResetEffects :
    (let d := ({ cause := 11 } : Due)
     let s := mk [] [Block.updBoot fun x => { x with due := some d }]
     s.blk.boot.due = some d ∧ d.cause < 12) ∧
    (let s := mk [] [Block.updBoot fun x => { x with due := none }]
     s.blk.boot.due = none) := by
  refine ⟨?_, ?_⟩ <;> decide +kernel

theorem witness_StartUp :
    (let d : Fin 8 := 5
     let s := mk [(Reg.RST_STAGE_RELEASED, 31), (Reg.RST_STAGE_WAIT, 5)]
         [fun b => { b with clk := { b.clk with failed := [], holdover := [] } }]
     let ready := s.blk.released d = false ∧ s.blk.rd Reg.RST_STAGE_WAIT = d ∧ s.blk.rd Reg.SYS_PWR_STAT_STATE ≠ 4
         ∧ s.blk.releaseCond d = true ∧ s.blk.monitorsPass d = true
     ready ∧ d.val ∈ [0, 1, 4, 5]) ∧
    (let d : Fin 8 := 6
     let s := mk [(Reg.RST_STAGE_RELEASED, 63), (Reg.RST_STAGE_WAIT, 6)]
         [fun b => { b with clk := { b.clk with failed := [], holdover := [] } },
          Block.updBoot fun x => { x with coreReset := false, plinth := false }]
     let ready := s.blk.released d = false ∧ s.blk.rd Reg.RST_STAGE_WAIT = d ∧ s.blk.rd Reg.SYS_PWR_STAT_STATE ≠ 4
         ∧ s.blk.releaseCond d = true ∧ s.blk.monitorsPass d = true
     ready ∧ d.val = 6 ∧ s.blk.boot.coreReset = false ∧ s.blk.boot.plinth = false) ∧
    (let d : Fin 8 := 7
     let s := mk [(Reg.RST_STAGE_RELEASED, 127), (Reg.RST_STAGE_WAIT, 7)]
         [fun b => { b with clk := { b.clk with failed := [], holdover := [] } },
          Block.updBoot fun x => { x with configured := true }]
     let ready := s.blk.released d = false ∧ s.blk.rd Reg.RST_STAGE_WAIT = d ∧ s.blk.rd Reg.SYS_PWR_STAT_STATE ≠ 4
         ∧ s.blk.releaseCond d = true ∧ s.blk.monitorsPass d = true
     ready ∧ d.val = 7) ∧
    (let d : Fin 8 := 3
     let s := mk [(Reg.RST_STAGE_RELEASED, 7), (Reg.RST_STAGE_WAIT, 3)]
         [fun b => { b with clk := { b.clk with failed := [], holdover := [] } }]
     let ready := s.blk.released d = false ∧ s.blk.rd Reg.RST_STAGE_WAIT = d ∧ s.blk.rd Reg.SYS_PWR_STAT_STATE ≠ 4
         ∧ s.blk.releaseCond d = true ∧ s.blk.monitorsPass d = true
     ready ∧ d.val = 3) ∧
    (let d : Fin 8 := 2
     let s := mk [(Reg.RST_BOOT_FAILS, 3), (Reg.RST_STAGE_RELEASED, 3), (Reg.RST_STAGE_WAIT, 2),
         (Reg.CLK_STAT_CORE_LOCK, 1), (Reg.CLK_STAT_MGMT_LOCK, 1)]
         [fun b => { b with clk := { b.clk with failed := [], holdover := [] } }]
     let ready := s.blk.released d = false ∧ s.blk.rd Reg.RST_STAGE_WAIT = d ∧ s.blk.rd Reg.SYS_PWR_STAT_STATE ≠ 4
         ∧ s.blk.releaseCond d = true ∧ s.blk.monitorsPass d = true
     ready ∧ d.val = 2 ∧ 3 ≤ s.blk.rd Reg.RST_BOOT_FAILS) ∧
    (let d : Fin 8 := 7
     let s := mk []
     s.blk.rd Reg.RST_STAGE_WAIT ≠ d) ∧
    (let s := mk [] [Block.updBoot fun x => { x with plinth := false, configured := false, starting := false }]
     s.blk.cores = true ∧ s.blk.boot.plinth = false ∧ s.blk.released 5 = true ∧ s.blk.boot.configured = false ∧
     s.blk.boot.starting = false ∧ s.blk.goodImage .maquette s.blk.boot.cfg (s.blk.rd Reg.RST_BOOT_CFG_HALF) = none) ∧
    (let s := mk [(Reg.RST_BOOT_DONE, 0), ((Reg.EVT_SRCk_CLASS 37), 0)]
         [Block.updBoot fun x => { x with configured := true }]
     s.blk.released 7 = true ∧ s.blk.boot.configured = true ∧ s.blk.cores = true ∧ s.blk.on Reg.RST_BOOT_DONE = false ∧
     s.blk.rd (Reg.EVT_SRCk_CLASS 37) = 0) ∧
    (let s := mk [] [Block.updBoot fun x => { x with coreReset := true, fw := [] }]
     s.blk.boot.coreReset = true ∧ s.blk.bootedGood = false) ∧
    (let s := mk [] [Block.updBoot fun x => { x with coreReset := true, plinth := true }]
     s.blk.boot.coreReset = true ∧ s.blk.bootedGood = true) ∧
    (let s := mk [] [Block.updBoot fun x => { x with coreReset := false }]
     s.blk.boot.coreReset = false) := by
  refine ⟨?_, ?_, ?_, ?_, ?_, ?_, ?_, ?_, ?_, ?_, ?_⟩ <;> decide +kernel

/-! ### Tests of one step or one operation on the manual's worked examples -/

/-- The state a command leaves. -/
def after (i : Instr) (s : State) : State :=
  match exec i s with
  | .next t => t
  | _ => s

/-- The state a step leaves. -/
def stepped (s : State) : State :=
  match step s with
  | .next t => t
  | _ => s

/-- Slot 100 lies in arm 1 (R11). -/
theorem test_arm_of_slot_100 : armOf 100 = 1 := by decide

/-- The addresses of the register map's example (R444, R445): only a register with a CR field has a pending copy. -/
theorem test_example_addresses :
    (Reg.LINK_DELAY_DELAY 100).addr = 0x00119050 ∧ writeFields 0x02119050 = none
    ∧ (Reg.PWM_LEG_CFG_SRC 4).addr = 0x00400100 ∧ (writeFields 0x02400100).isSome = true := by decide +kernel

/-- A timed cast at Moraby (R47): the target is rounded up to a boundary of the grid. -/
theorem test_cast_boundary_moraby :
    (mk []).blk.castBoundary 1750000000450010000 = 1750000000450025000 := by decide +kernel

/-- A host-run correction at Halden Reach (R313, R314): the increment, and its sum with the adjustment, are in force. -/
theorem test_host_run_correction :
    (after (.timeIncFracWrite rq0 0x3FFFBCE4) (mk [] [turn rq0 0x11])).blk.tb.inc = 0x13FFFBCE4
    ∧ (let t := after (.timeAdjCntWrite rq0 0x2FAF0800) (mk [(Reg.TIME_ADJ_DELTA_DELTA, 0xFFFFF731)]
        [turn rq0 0x11, Block.updTb fun x => { x with inc := 0x13FFFBCE4 }])
       (t.blk.tb.inc : Int) + t.blk.tb.delta = 0x13FFFB415) := by decide +kernel

/-- A DAB loop at Kestrel Yard (R99 to R102): a transfer of regions keeps the output, and the offset decays. -/
theorem test_dab_loop_transfer :
    let old : CoefSet := { third := false, raw := [0x0E666666, toS 32 0xF6666666, 0, 0, 0x50000000, toS 32 0xE0000000, 0]
                           sh := [31, 31, 31, 31, 30, 31, 31] }
    let new : CoefSet := { old with raw := [0x1A666666, toS 32 0xEA666666, 0, 0, 0x50000000, toS 32 0xE0000000, 0] }
    (old.law 671089 [838861] [8388608, 8388608]).y = 8401191
    ∧ (new.law 671089 [838861] [8388608, 8388608]).y = 8385462 ∧ bleedStep 6 15729 = 15483 := by decide +kernel

/-- One stroke of arm 0 at Kestrel Yard (R162): the crossings of both legs of slot 3, and the START states. -/
theorem test_arm_0_crossings :
    let w : Window := { b := 6000000000, p := 25000, tc := 25000, d := 0 }
    ((w.crossings 322122547 10485760).map fun e => (qInst e.1 / 5, e.2)) = [(154000, false), (214000, true)]
    ∧ ((w.crossings 322122547 (-10485760)).map fun e => (qInst e.1 / 5, e.2)) = [(54000, false), (314000, true)]
    ∧ w.atStart 322122547 10485760 = true ∧ w.atStart 322122547 (-10485760) = true := by decide +kernel

/-- The command words of that stroke (R160). -/
theorem test_edge_words :
    edgeWords [(5 * 154000, false), (5 * 214000, true)] = [0x80025990, 0x810343F0, 0, 0] := by decide +kernel

/-- The header of lane C100 in one Kestrel Yard stroke (R191). -/
theorem test_downlink_header :
    let b := ((mk [(Reg.LINK_DELAY_DELAY 100, 1600)]).blk.updStrk fun x => { x with num := 236401, b := 6000000000 })
    (b.downFrame 100 1 (zeros 48) 0).take 32
      = be 4 0x01010100 ++ be 4 1 ++ be 8 236401 ++ be 8 6000000000 ++ be 4 0x000861A8 ++ be 4 1600 := by decide +kernel

/-- The delay of lane C100 (R186): the sixteenth loop gives the mean and the spread. -/
theorem test_lane_delay_echoes :
    let t := after (.echoRspRx 100 15 3713) (mk [(Reg.LINK_STAT_STATE 100, 2)] [Block.updLane 100 fun x =>
        { x with echoing := true, loops := 3711 :: List.replicate 14 3712 }])
    (t.blk.lane 100).loop = 3712 ∧ t.blk.rd (Reg.LINK_DELAY_SPREAD 100) = 2
      ∧ rdiv ((t.blk.lane 100).loop - 512) 2 = 1600 := by decide +kernel

/-- One cycle in the Halden Reach ledger (R228): at 95 °C a cycle of 15 °C is counted in bin 27. -/
theorem test_rainflow_halden_reach :
    rainflow 4 [95 * 16, 70 * 16, 85 * 16, 60 * 16] [] = ([95 * 16, 60 * 16], [(15 * 16, 1240)])
    ∧ ledgerBin (15 * 16) 1240 = 27
    ∧ rainflow 4 [80 * 16, 55 * 16, 95 * 16, 60 * 16] [] = ([80 * 16, 55 * 16, 95 * 16, 60 * 16], []) := by decide +kernel

/-- In count mode a compare at or above the period is replaced by it (R242). -/
theorem test_compare_clamp :
    ({ (default : Leg) with count := true, period := 500000 }).ticks false 600000 = 500000 := by decide

/-- A whole packet with a newer sequence number is queued (R63). -/
theorem test_ping_is_queued :
    let t := stepped { mk [] with pending := [.jarvasPacketRx pk0] }
    t.blk.jv.queue.map (·.op) = [1] ∧ t.pending = [] := by decide +kernel

/-- An idle step is one cycle of the stroke clock (log entry 1): 1.25 ns of TIME_NS while the time base counts. -/
theorem test_idle_cycle :
    let t := stepped (mk [] [Block.updTb fun x => { x with run := true }])
    t.blk.tb.now.toNat * 4 = 5 * 2 ^ 32 ∧ t.blk.tb.up = 1250 := by decide +kernel

/-- A port's soft start at Kestrel Yard (R276): the step of the reference. -/
theorem test_soft_start_step :
    (mk [(Reg.PORT_SLEW_SS_MS 2, 100), (Reg.PORT_VCMD_V 2, 65000)]).blk.ssStepOf 2 = 162500 := by decide +kernel

end Sys2Proof.Tests
end

section
/-! PROOFS. The register map as a table (R440 to R445): where the fields of a register lie. -/

namespace Sys2Proof.Machine

/-! ### The rows -/

/-- The address of the register that a row has at indices `i` (outer) and `j` (inner). -/
def RegRow.addrAt (r : RegRow) (i j : Nat) : Nat :=
  match r.dims with
  | [] => r.base
  | [d] => r.base + d.2 * i
  | d :: e :: _ => r.base + d.2 * i + e.2 * j

/-- Every field starts within its word, and no two at the same bit. -/
def losDistinct : List Field → Bool
  | [] => true
  | f :: r => decide (f.lo < 32) && r.all (fun g => f.lo != g.lo) && losDistinct r

theorem losDistinct_lt {fs : List Field} (h : losDistinct fs = true) {f : Field} (hf : f ∈ fs) : f.lo < 32 := by
  induction fs with
  | nil => cases hf
  | cons g r ih =>
    simp only [losDistinct, Bool.and_eq_true, decide_eq_true_eq] at h
    obtain ⟨⟨hg, -⟩, hr⟩ := h
    rcases List.mem_cons.mp hf with rfl | hf
    · exact hg
    · exact ih hr hf

theorem losDistinct_pairwise {fs : List Field} (h : losDistinct fs = true) : fs.Pairwise fun f g => f.lo ≠ g.lo := by
  induction fs with
  | nil => exact List.Pairwise.nil
  | cons g r ih =>
    simp only [losDistinct, Bool.and_eq_true, List.all_eq_true, bne_iff_ne] at h
    obtain ⟨⟨-, hg⟩, hr⟩ := h
    exact List.Pairwise.cons hg (ih hr)

/-- Whatever the indices, the fields of each row's register all stand at its address, at different bits. -/
def RowsPlaced (rows : List RegRow) : Prop :=
  ∀ i j : Nat, rows.map (fun r => (r.fields i j).map Field.addr)
      = rows.map (fun r => List.replicate (r.fields i j).length (r.addrAt i j))
    ∧ (rows.all fun r => losDistinct (r.fields i j)) = true

theorem RowsPlaced.append {rs rs' : List RegRow} (h : RowsPlaced rs) (h' : RowsPlaced rs') : RowsPlaced (rs ++ rs') := by
  intro i j
  obtain ⟨ha, hl⟩ := h i j
  obtain ⟨ha', hl'⟩ := h' i j
  simp only [List.map_append, ha, ha', List.all_append, hl, hl', Bool.and_self, and_self]

/-- The register map, unit by unit: each row is evaluated at indices that stay variables. -/
theorem regTable_placed : RowsPlaced regTable := by
  unfold regTable
  repeat' apply RowsPlaced.append
  all_goals exact fun i j => ⟨rfl, rfl⟩

theorem dimIndex_eq_some {d : Nat × Nat} {off i o : Nat} (h : dimIndex d off = some (i, o)) : off = d.2 * i + o := by
  unfold dimIndex at h
  split at h
  · obtain ⟨rfl, rfl⟩ := Prod.mk.inj (Option.some.inj h)
    exact (Nat.div_add_mod off d.2).symm
  · cases h

/-- The fields that a row has at an address are those of the register whose indices lead to that address. -/
theorem RegRow.at_eq_some {r : RegRow} {a : Nat} {fs : List Field} (h : r.at a = some fs) :
    ∃ i j, fs = r.fields i j ∧ r.addrAt i j = a := by
  obtain ⟨base, dims, fields⟩ := r
  unfold RegRow.at at h
  split at h
  · cases h
  · next hb =>
    simp only at h hb
    unfold RegRow.addrAt
    split at h
    · split at h
      · next ha => exact ⟨0, 0, (Option.some.inj h).symm, ha.symm⟩
      · cases h
    · split at h
      · next d i hd =>
        have := dimIndex_eq_some hd
        exact ⟨i, 0, (Option.some.inj h).symm, by simp only; omega⟩
      · cases h
    · split at h
      · next d e _ i o hd =>
        have hi := dimIndex_eq_some hd
        split at h
        · next j hj =>
          have hj := dimIndex_eq_some hj
          exact ⟨i, j, (Option.some.inj h).symm, by simp only; omega⟩
        · cases h
      · cases h

/-! ### The fields of one register -/

theorem fieldsAt_row {a : Nat} {fs : List Field} (h : fieldsAt a = some fs) :
    ∃ r ∈ regTable, ∃ i j, fs = r.fields i j ∧ r.addrAt i j = a := by
  obtain ⟨r, hr, h⟩ := List.exists_of_findSome?_eq_some h
  exact ⟨r, hr, RegRow.at_eq_some h⟩

theorem fieldsAt_losDistinct {a : Nat} {fs : List Field} (h : fieldsAt a = some fs) : losDistinct fs = true := by
  obtain ⟨r, hr, i, j, rfl, -⟩ := fieldsAt_row h
  exact List.all_eq_true.mp (regTable_placed i j).2 r hr

theorem fieldsAt_addr {a : Nat} {fs : List Field} (h : fieldsAt a = some fs) {f : Field} (hf : f ∈ fs) : f.addr = a := by
  obtain ⟨r, hr, i, j, rfl, rfl⟩ := fieldsAt_row h
  have ha := List.map_inj_left.mp (regTable_placed i j).1 r hr
  exact List.eq_of_mem_replicate (ha ▸ List.mem_map_of_mem hf)

theorem fieldsAt_lo {a : Nat} {fs : List Field} (h : fieldsAt a = some fs) {f : Field} (hf : f ∈ fs) : f.lo < 32 :=
  losDistinct_lt (fieldsAt_losDistinct h) hf

/-- The fields of one register have different keys. -/
theorem fieldsAt_pairwise {a : Nat} {fs : List Field} (h : fieldsAt a = some fs) :
    fs.Pairwise fun f g => f.key ≠ g.key := by
  refine (losDistinct_pairwise (fieldsAt_losDistinct h)).imp_of_mem fun hf hg hlo hk => hlo ?_
  have := fieldsAt_addr h hf
  have := fieldsAt_addr h hg
  unfold Field.key at hk
  omega

/-- The fields of two registers have different keys. -/
theorem fieldsAt_key_ne {a a' : Nat} {fs gs : List Field} (h : fieldsAt a = some fs) (h' : fieldsAt a' = some gs)
    (hd : a + 4 ≤ a') {f g : Field} (hf : f ∈ fs) (hg : g ∈ gs) : f.key ≠ g.key := by
  have := fieldsAt_addr h hf
  have := fieldsAt_addr h' hg
  have := fieldsAt_lo h hf
  unfold Field.key
  omega

/-! ### The field at a key -/

theorem fieldOfKey_mem {k : Nat} {f : Field} (h : fieldOfKey k = some f) :
    f.key = k ∧ ∃ fs, fieldsAt (k / 32 * 4) = some fs ∧ f ∈ fs := by
  unfold fieldOfKey at h
  split at h
  · next fs hfs => exact ⟨by simpa using List.find?_some h, fs, hfs, List.mem_of_find?_eq_some h⟩
  · cases h

/-- A field of the register map stands at the address its key tells. -/
theorem fieldOfKey_addr {f : Field} (h : fieldOfKey f.key = some f) : f.key / 32 * 4 = f.addr := by
  obtain ⟨-, fs, hfs, hf⟩ := fieldOfKey_mem h
  exact (fieldsAt_addr hfs hf).symm

end Sys2Proof.Machine
end

section
/-! PROOFS. Frames that compose, and the writes of a register's fields one after the other (R8, R71, R72). -/

namespace Sys2Proof.Machine

/-! ### Frames -/

theorem Part.same_trans {p : Part} {a b c : Block} (h : p.same a b) (h' : p.same b c) : p.same a c := by
  cases p <;> exact Eq.trans h' h

theorem Keeps.trans {l : List Part} {a b c : Block} (h : Keeps l a b) (h' : Keeps l b c) : Keeps l a c :=
  fun p hp => Part.same_trans (h p hp) (h' p hp)

theorem Keeps.jv {l : List Part} {a b : Block} (h : Keeps l a b) (hl : Part.jv ∉ l) : b.jv = a.jv := h .jv hl

theorem Keeps.mono {l m : List Part} {a b : Block} (h : Keeps l a b) (hl : l ⊆ m) : Keeps m a b :=
  fun p hp => h p fun hm => hp (hl hm)

theorem Keeps.ite {l : List Part} {p : Prop} [Decidable p] {a b c : Block} (hb : p → Keeps l a b) (hc : ¬ p → Keeps l a c) :
    Keeps l a (if p then b else c) := by
  split
  · exact hb ‹_›
  · exact hc ‹_›

theorem Block.wr_keeps (f : Field) (v : Nat) (b : Block) : Keeps [.regs] b (b.wr f v) := by
  intro p hp
  cases p
  case regs => exact absurd (List.mem_singleton_self _) hp
  all_goals rfl

theorem Block.eachOf_keeps {α : Type} {l : List Part} (xs : List α) (f : α → Block → Block)
    (h : ∀ x ∈ xs, ∀ b, Keeps l b (f x b)) (b : Block) : Keeps l b (b.eachOf xs f) := by
  unfold Block.eachOf
  induction xs generalizing b with
  | nil => exact Keeps.refl l b
  | cons x r ih =>
    exact (h x List.mem_cons_self b).trans (ih (fun y hy => h y (List.mem_cons_of_mem _ hy)) _)

theorem RegsBut.refl (fs : List Field) (b : Block) : RegsBut fs b b := fun _ _ => rfl

theorem RegsBut.trans_append {fs gs : List Field} {a b c : Block} (h : RegsBut fs a b) (h' : RegsBut gs b c) :
    RegsBut (fs ++ gs) a c := by
  intro g hg
  rw [List.map_append, List.mem_append, not_or] at hg
  rw [h' g hg.2, h g hg.1]

/-! ### Writes in turn -/

theorem Block.eachOf_rd {α : Type} {xs : List α} {f : α → Block → Block} {g : Field}
    (h : ∀ x ∈ xs, ∀ b, (f x b).rd g = b.rd g) (b : Block) : (b.eachOf xs f).rd g = b.rd g := by
  unfold Block.eachOf
  induction xs generalizing b with
  | nil => rfl
  | cons x r ih =>
    exact (ih (fun y hy => h y (List.mem_cons_of_mem _ hy)) _).trans (h x List.mem_cons_self b)

/-- An operation on each of the fields of a register in turn that changes no other field acts on every field as it
    stood before. -/
theorem Block.eachOf_rd_self {fs : List Field} {op : Field → Block → Block} (hp : fs.Pairwise fun f g => f.key ≠ g.key)
    (hop : ∀ (f g : Field) (b : Block), g.key ≠ f.key → (op f b).rd g = b.rd g) {f : Field} (hf : f ∈ fs) (b : Block) :
    ∃ c, c.rd f = b.rd f ∧ (b.eachOf fs op).rd f = (op f c).rd f := by
  induction fs generalizing b with
  | nil => cases hf
  | cons g r ih =>
    obtain ⟨hg, hr⟩ := List.pairwise_cons.mp hp
    rcases List.mem_cons.mp hf with rfl | hf
    · exact ⟨b, rfl, Block.eachOf_rd (fun x hx c => hop x f c (hg x hx)) _⟩
    · obtain ⟨c, hc, he⟩ := ih hr hf (op g b)
      exact ⟨c, hc.trans (hop g f b (hg f hf).symm), he⟩

/-! ### RC fields are cleared by a read (R8) -/

/-- The RC fields of a register. -/
def rcFields (fs : List Field) : List Field := fs.filter fun f => decide (f.acc = .rc)

theorem Block.clearRc_keeps (fs : List Field) (b : Block) : Keeps [.regs] b (b.clearRc fs) :=
  Block.eachOf_keeps _ _ (fun f _ c => Keeps.ite (fun _ => c.wr_keeps f 0) fun _ => Keeps.refl _ c) b

theorem Block.clearRc_regsBut (fs : List Field) (b : Block) : RegsBut (rcFields fs) b (b.clearRc fs) := by
  intro g hg
  refine Block.eachOf_rd (fun f hf c => ?_) b
  split
  · next hrc =>
    exact Block.rd_wr_ne f g 0 c fun hk => hg (List.mem_map.mpr ⟨f, List.mem_filter.mpr ⟨hf, by simpa using hrc⟩, hk.symm⟩)
  · rfl

theorem Block.clearRc_rd {a : Nat} {fs : List Field} (h : fieldsAt a = some fs) {f : Field} (hf : f ∈ rcFields fs)
    (b : Block) : (b.clearRc fs).rd f = 0 := by
  obtain ⟨hf, hrc⟩ := List.mem_filter.mp hf
  obtain ⟨c, -, he⟩ := Block.eachOf_rd_self (op := fun f b => if f.acc = .rc then b.wr f 0 else b)
    (fieldsAt_pairwise h) (fun f g c hg => by split <;> simp [Block.rd_wr_ne, hg]) hf b
  rw [Block.clearRc, he, if_pos (by simpa using hrc), Block.rd_wr_same, Nat.zero_mod]

/-- A register without RC fields reads without an effect. -/
theorem Block.clearRc_id {fs : List Field} (h : ∀ f ∈ fs, f.acc ≠ .rc) (b : Block) : b.clearRc fs = b := by
  unfold Block.clearRc Block.eachOf
  induction fs with
  | nil => rfl
  | cons f r ih =>
    simp only [List.foldl_cons, if_neg (h f List.mem_cons_self)]
    exact ih fun g hg => h g (List.mem_cons_of_mem _ hg)

/-! ### RW and W1C fields are written (R8) -/

/-- The fields that a write acts on at once: RW and W1C. -/
def liveWritten (fs : List Field) : List Field := fs.filter fun f => decide (f.acc = .rw ∨ f.acc = .w1c)

/-- The write of one field of a word. -/
def writeField (v : Nat) (f : Field) (b : Block) : Block :=
  match f.acc with
  | .rw => b.wr f (v / 2 ^ f.lo)
  | .w1c => b.wr f (b.rd f - (b.rd f &&& (v / 2 ^ f.lo)))
  | _ => b

theorem Block.writeLive_eq (fs : List Field) (v : Nat) (b : Block) : b.writeLive fs v = b.eachOf fs (writeField v) := rfl

theorem writeField_rw {f : Field} (h : f.acc = .rw) (v : Nat) (b : Block) : writeField v f b = b.wr f (v / 2 ^ f.lo) := by
  simp [writeField, h]

theorem writeField_w1c {f : Field} (h : f.acc = .w1c) (v : Nat) (b : Block) :
    writeField v f b = b.wr f (b.rd f - (b.rd f &&& (v / 2 ^ f.lo))) := by
  simp [writeField, h]

/-- Fields that are neither RW nor W1C ignore a write. -/
theorem writeField_other {f : Field} (h : ¬ (f.acc = .rw ∨ f.acc = .w1c)) (v : Nat) (b : Block) : writeField v f b = b := by
  unfold writeField
  split <;> simp_all

theorem writeField_rd_ne (v : Nat) (f g : Field) (b : Block) (h : g.key ≠ f.key) : (writeField v f b).rd g = b.rd g := by
  unfold writeField
  split
  · exact Block.rd_wr_ne f g _ b h
  · exact Block.rd_wr_ne f g _ b h
  · rfl

theorem writeField_keeps (v : Nat) (f : Field) (b : Block) : Keeps [.regs] b (writeField v f b) := by
  unfold writeField
  split
  · exact b.wr_keeps f _
  · exact b.wr_keeps f _
  · exact Keeps.refl _ b

theorem Block.writeLive_keeps (fs : List Field) (v : Nat) (b : Block) : Keeps [.regs] b (b.writeLive fs v) :=
  Block.eachOf_keeps _ _ (fun f _ c => writeField_keeps v f c) b

theorem Block.writeLive_rd_ne {fs : List Field} {g : Field} (h : ∀ f ∈ fs, g.key ≠ f.key) (v : Nat) (b : Block) :
    (b.writeLive fs v).rd g = b.rd g :=
  Block.eachOf_rd (fun f hf c => writeField_rd_ne v f g c (h f hf)) b

theorem Block.writeLive_regsBut (fs : List Field) (v : Nat) (b : Block) : RegsBut (liveWritten fs) b (b.writeLive fs v) := by
  intro g hg
  rw [Block.writeLive_eq]
  refine Block.eachOf_rd (fun f hf c => ?_) b
  by_cases hw : f.acc = .rw ∨ f.acc = .w1c
  · exact writeField_rd_ne v f g c fun hk => hg (List.mem_map.mpr ⟨f, List.mem_filter.mpr ⟨hf, by simpa using hw⟩, hk.symm⟩)
  · rw [writeField_other hw]

/-- A write acts on each field of a register as it stood before the write. -/
theorem Block.writeLive_rd_self {a : Nat} {fs : List Field} (h : fieldsAt a = some fs) {f : Field} (hf : f ∈ fs) (v : Nat)
    (b : Block) : ∃ c, c.rd f = b.rd f ∧ (b.writeLive fs v).rd f = (writeField v f c).rd f :=
  Block.eachOf_rd_self (fieldsAt_pairwise h) (fun f g c => writeField_rd_ne v f g c) hf b

theorem Block.writeLive_rd_rw {a : Nat} {fs : List Field} (h : fieldsAt a = some fs) {f : Field} (hf : f ∈ fs)
    (hrw : f.acc = .rw) (v : Nat) (b : Block) : (b.writeLive fs v).rd f = v / 2 ^ f.lo % 2 ^ f.width := by
  obtain ⟨c, -, he⟩ := Block.writeLive_rd_self h hf v b
  rw [he, writeField_rw hrw, Block.rd_wr_same]

/-- A number is the sum of the bits it shares with another and of those it does not. -/
theorem and_add_ldiff (x m : Nat) : (x &&& m) + x.ldiff m = x := by
  induction x using Nat.binaryRec generalizing m with
  | zero => simp [Nat.ldiff]
  | bit p n ih =>
    obtain ⟨q, k, rfl⟩ : ∃ q k, m = Nat.bit q k := ⟨m.testBit 0, m / 2, (Nat.bit_testBit_zero_shiftRight_one m).symm⟩
    rw [Nat.land_bit, Nat.ldiff_bit]
    have := ih k
    cases p <;> cases q <;> simp [Nat.bit_val] <;> omega

theorem testBit_sub_and (x m i : Nat) : (x - (x &&& m)).testBit i = (x.testBit i && !m.testBit i) := by
  rw [show x - (x &&& m) = x.ldiff m by have := and_add_ldiff x m; omega, Nat.testBit_ldiff]

theorem Block.writeLive_testBit_w1c {a : Nat} {fs : List Field} (h : fieldsAt a = some fs) {f : Field} (hf : f ∈ fs)
    (hw : f.acc = .w1c) (v : Nat) (b : Block) (hb : b.rd f < 2 ^ f.width) (i : Nat) :
    ((b.writeLive fs v).rd f).testBit i = ((b.rd f).testBit i && !v.testBit (f.lo + i)) := by
  obtain ⟨c, hc, he⟩ := Block.writeLive_rd_self h hf v b
  rw [he, writeField_w1c hw, Block.rd_wr_same, hc, Nat.mod_eq_of_lt (Nat.lt_of_le_of_lt (Nat.sub_le _ _) hb),
    testBit_sub_and, Nat.testBit_div_two_pow, Nat.add_comm]

end Sys2Proof.Machine
end

section
/-! PROOFS. The Jarvas queue through the write of a register: whatever a write sets going, no command leaves the queue and
    none joins it (R64, R72). -/

namespace Sys2Proof.Machine

theorem Block.jv_of_still {b c : Block} (h : c.still = b.still) : c.jv = b.jv := congrArg (fun x => x.1.2.2.2.2) h

theorem Block.jv_ite (p : Prop) [Decidable p] (b c : Block) : (if p then b else c).jv = if p then b.jv else c.jv :=
  apply_ite Block.jv p b c

theorem Block.eachOf_jv {α : Type} (xs : List α) (f : α → Block → Block) (h : ∀ x b, (f x b).jv = b.jv) (b : Block) :
    (b.eachOf xs f).jv = b.jv := by
  unfold Block.eachOf
  induction xs generalizing b with
  | nil => rfl
  | cons x r ih => rw [List.foldl_cons, ih, h]

theorem Block.each_jv (n : Nat) (f : Nat → Block → Block) (h : ∀ i b, (f i b).jv = b.jv) (b : Block) :
    (b.each n f).jv = b.jv := Block.eachOf_jv (List.range n) f h b

@[simp] theorem Block.emitLane_jv (o : Output) (b : Block) : (b.emitLane o).jv = b.jv := by
  simp [Block.emitLane, Block.jv_ite]

/-! ### Local legs and their trips (R252, R257, R263) -/

@[simp] theorem Block.settleLeg_jv (l : Nat) (b : Block) : (b.settleLeg l).jv = b.jv :=
  Block.jv_of_still (Block.settleLeg_still l b)

@[simp] theorem Block.holdLeg_jv (l : Nat) (soft : Bool) (b : Block) : (b.holdLeg l soft).jv = b.jv :=
  Block.jv_of_still (Block.holdLeg_still l soft b)

@[simp] theorem Block.openSwitch_jv (p : Nat) (soft : Bool) (b : Block) : (b.openSwitch p soft).jv = b.jv :=
  Block.jv_of_still (Block.openSwitch_still p soft b)

@[simp] theorem Block.portToWait_jv (p : Nat) (soft : Bool) (b : Block) : (b.portToWait p soft).jv = b.jv :=
  Block.jv_of_still (Block.portToWait_still p soft b)

@[simp] theorem Block.blockStage_jv (soft : Bool) (b : Block) : (b.blockStage soft).jv = b.jv :=
  Block.jv_of_still (Block.blockStage_still soft b)

@[simp] theorem Block.raiseOwn_jv (o : Occ) (own : Option Nat) (b : Block) : (b.raiseOwn o own).jv = b.jv :=
  Block.jv_of_still (Block.raiseOwn_still o own b)

@[simp] theorem Block.takeCfg_jv (l : Nat) (c : LegCfg) (b : Block) : (b.takeCfg l c).jv = b.jv := rfl

@[simp] theorem Block.legTo_jv (l : Nat) (t : Int) (dt : Nat) (upper : Bool) (b : Block) :
    (b.legTo l t dt upper).jv = b.jv := by
  simp [Block.legTo]

@[simp] theorem Block.forceBrake_jv (l : Nat) (b : Block) : (b.forceBrake l).jv = b.jv := by
  simp [Block.forceBrake, Block.jv_ite]

@[simp] theorem Block.interlockAct_jv (l : Nat) (b : Block) : (b.interlockAct l).jv = b.jv := by
  simp [Block.interlockAct, Block.jv_ite]

@[simp] theorem Block.forceApply_jv (l : Nat) (b : Block) : (b.forceApply l).jv = b.jv := by
  simp [Block.forceApply, Block.jv_ite]

@[simp] theorem Block.leaveHeld_jv (l : Nat) (b : Block) : (b.leaveHeld l).jv = b.jv := by
  simp [Block.leaveHeld]

@[simp] theorem Block.judgeLeg_jv (l : Nat) (b : Block) : (b.judgeLeg l).jv = b.jv := by
  simp [Block.judgeLeg, Block.jv_ite]

@[simp] theorem Block.latchLeg_jv (l : Nat) (b : Block) : (b.latchLeg l).jv = b.jv := by
  simp [Block.latchLeg, Block.jv_ite]

@[simp] theorem Block.multiBlock_jv (b : Block) : b.multiBlock.jv = b.jv := by
  simp [Block.multiBlock, Block.each_jv]

@[simp] theorem Block.tripAct_jv (k : Nat) (b : Block) : (b.tripAct k).jv = b.jv := by
  simp [Block.tripAct, Block.jv_ite]

@[simp] theorem Block.tripJudge_jv (k : Nat) (b : Block) : (b.tripJudge k).jv = b.jv := by
  unfold Block.tripJudge
  split
  · rfl
  · simp [Block.jv_ite]

@[simp] theorem Block.tripsJudge_jv (b : Block) : b.tripsJudge.jv = b.jv := Block.each_jv _ _ Block.tripJudge_jv b

@[simp] theorem Block.forceLeg_jv (l : Nat) (b : Block) : (b.forceLeg l).jv = b.jv := by
  simp [Block.forceLeg, Block.jv_ite]

@[simp] theorem Block.startDiag_jv (g : Nat) (b : Block) : (b.startDiag g).jv = b.jv := by
  simp [Block.startDiag, Block.jv_ite, Block.eachOf_jv]

/-! ### Time base and stamps (R313 to R315, R328) -/

@[simp] theorem Block.adjEnd_jv (b : Block) : b.adjEnd.jv = b.jv := rfl

@[simp] theorem Block.setAdj_jv (n : Nat) (b : Block) : (b.setAdj n).jv = b.jv := by
  simp [Block.setAdj, Block.adjustBy, Block.jv_ite]

@[simp] theorem Block.setCtrl_jv (step stop : Bool) (b : Block) : (b.setCtrl step stop).jv = b.jv := by
  simp [Block.setCtrl, Block.stepRequest, Block.jv_ite]

@[simp] theorem Block.stampPop_jv (k : Nat) (b : Block) : (b.stampPop k).jv = b.jv := by
  simp [Block.stampPop, Block.stampShow]

/-! ### Link tests (R204) -/

@[simp] theorem Block.laneTo_jv (l st : Nat) (b : Block) : (b.laneTo l st).jv = b.jv := by
  simp [Block.laneTo, Block.laneLeave, Block.jv_ite]

@[simp] theorem Block.testStart_jv (l pattern len : Nat) (b : Block) : (b.testStart l pattern len).jv = b.jv := by
  simp [Block.testStart]

@[simp] theorem Block.powerEngines_jv (b : Block) : b.powerEngines.jv = b.jv := rfl

@[simp] theorem Block.syncStops_jv (l t : Nat) (b : Block) : (b.syncStops l t).jv = b.jv := by
  unfold Block.syncStops Block.addBits
  split <;> rfl

@[simp] theorem Block.testResult_jv (l : Nat) (pass inj : Bool) (b : Block) : (b.testResult l pass inj).jv = b.jv := by
  simp [Block.testResult, Block.jv_ite]

@[simp] theorem Block.testEnds_jv (l t : Nat) (fenced : Bool) (b : Block) : (b.testEnds l t fenced).jv = b.jv := by
  simp [Block.testEnds, Block.jv_ite]

@[simp] theorem Block.testStop_jv (l : Nat) (b : Block) : (b.testStop l).jv = b.jv := by
  simp [Block.testStop, Block.jv_ite]

@[simp] theorem Block.testControl_jv (l v : Nat) (b : Block) : (b.testControl l v).jv = b.jv := by
  simp [Block.testControl, Block.jv_ite]

/-! ### Channels and the ledger (R230, R427 to R432) -/

@[simp] theorem Block.updChan_jv (n : Nat) (f : ChanSt → ChanSt) (b : Block) : (b.updChan n f).jv = b.jv := rfl

@[simp] theorem Block.loadSet_jv (n : Nat) (c : ChanSet) (b : Block) : (b.loadSet n c).jv = b.jv := by
  simp [Block.loadSet, Block.startTransfer, Block.jv_ite]

@[simp] theorem Block.chanLoad_jv (n : Nat) (b : Block) : (b.chanLoad n).jv = b.jv := by
  simp [Block.chanLoad, Block.jv_ite]

@[simp] theorem Block.chanStop_jv (n : Nat) (b : Block) : (b.chanStop n).jv = b.jv := by
  simp [Block.chanStop, Block.jv_ite]

@[simp] theorem Block.fwBegin_jv (n bursts : Nat) (b : Block) : (b.fwBegin n bursts).jv = b.jv := by
  simp [Block.fwBegin, Block.chanBusy, Block.jv_ite]

@[simp] theorem Block.fwEnd_jv (n : Nat) (done : Bool) (b : Block) : (b.fwEnd n done).jv = b.jv := by
  simp [Block.fwEnd, Block.chanBusy, Block.jv_ite]

theorem Block.homeErased_jv (h : Nat) (b : Block) : (b.homeErased h).jv = b.jv := rfl

@[simp] theorem Block.ledgerCommitted_jv (b : Block) : b.ledgerCommitted.jv = b.jv := by
  rw [Block.ledgerCommitted, Block.updCells_jv, Block.eachOf_jv _ _ Block.homeErased_jv]

@[simp] theorem Block.ledgerCommitDone_jv (done : Bool) (b : Block) : (b.ledgerCommitDone done).jv = b.jv := by
  simp [Block.ledgerCommitDone, Block.jv_ite]

@[simp] theorem Block.ledgerBegin_jv (b : Block) : b.ledgerBegin.jv = b.jv := by
  simp [Block.ledgerBegin, Block.jv_ite]

/-! ### Measurement (R296, R300) -/

@[simp] theorem Block.rotResume_jv (b : Block) : b.rotResume.jv = b.jv := by
  unfold Block.rotResume
  split
  · rfl
  · split <;> rfl

@[simp] theorem Block.rotHolds_jv (b : Block) : b.rotHolds.jv = b.jv := by
  unfold Block.rotHolds
  split
  · rfl
  · split <;> rfl

@[simp] theorem Block.wakeSeq_jv (k : Nat) (b : Block) : (b.wakeSeq k).jv = b.jv := by
  have hs (f : SeqSt → SeqSt) (c : Block) : (c.updSeq k f).jv = c.jv := rfl
  unfold Block.wakeSeq Block.beginSeq
  dsimp only
  split
  · split <;> simp only [hs]
  · split <;> simp only [Block.takeEntry, hs]

@[simp] theorem Block.scanMaskWrite_jv (b : Block) : b.scanMaskWrite.jv = b.jv := by
  simp [Block.scanMaskWrite, Block.jv_ite, Block.each_jv]

/-! ### The write of words -/

@[simp] theorem Block.writeAct_jv (a v : Nat) (held : Bool) (b : Block) : (b.writeAct a v held).jv = b.jv := by
  simp [Block.writeAct, Block.jv_ite, Block.eachOf_jv, Block.handover, Block.setInc, Block.fallbackResume,
    Block.adcControl, Block.dmaRestart]

@[simp] theorem Block.writeMaq_jv (fs : List Field) (v : Nat) (b : Block) : (b.writeMaq fs v).jv = b.jv := by
  unfold Block.writeMaq
  split <;> rfl

@[simp] theorem Block.writeOne_jv (a v : Nat) (fs : List Field) (b : Block) : (b.writeOne a v fs).jv = b.jv := by
  simp [Block.writeOne, Block.jv_ite, (Block.writeLive_keeps _ _ _).jv]

theorem Block.writeAll_jv (ws : List (Nat × Nat)) (b : Block) : (b.writeAll ws).2.jv = b.jv := by
  induction ws generalizing b with
  | nil => rfl
  | cons w r ih =>
    unfold Block.writeAll
    dsimp only
    split
    · rfl
    · rw [ih, Block.writeOne_jv]

end Sys2Proof.Machine
end

section
/-! PROOFS. What a write of registers comes to, and the statements on writes without CR fields (R6, R8, R40, R70 to R72). -/

namespace Sys2Proof.Machine

/-! ### Which writes reach a register -/

/-- Without a CR field among them, the fields a write acts on are those of the register at its own address. -/
theorem fieldsAt_of_writeFields {a : Nat} {fs : List Field} (h : writeFields a = some fs)
    (hc : ∀ f ∈ fs, f.isCr = false) : fieldsAt a = some fs := by
  have own {x : Nat} {gs : List Field} (hx : ownFields x = some gs) : fieldsAt x = some gs := by
    unfold ownFields at hx
    split at hx
    · exact hx
    · cases hx
  unfold writeFields at h
  split at h
  · cases h
  · split at h
    · split at h
      · next gs _ =>
        split at h
        · next hany =>
          obtain ⟨g, hg, hcr⟩ := List.any_eq_true.mp hany
          have := hc g (Option.some.inj h ▸ List.mem_filter.mpr ⟨hg, hcr⟩)
          rw [hcr] at this
          cases this
        · cases h
      · cases h
    · exact own h

theorem writesMaq_eq_false {a : Nat} {fs : List Field} (h : writeFields a = some fs) (hc : ∀ f ∈ fs, f.isCr = false) :
    writesMaq a = false := by
  simpa [writesMaq, h] using hc

/-- A register without CR fields leaves the maquette alone. -/
theorem Block.writeMaq_plain {fs : List Field} (hc : ∀ f ∈ fs, f.isCr = false) (v : Nat) (b : Block) :
    b.writeMaq fs v = b := by
  have : fs.filter Field.isCr = [] := List.filter_eq_nil_iff.mpr fun f hf => by simp [hc f hf]
  simp [Block.writeMaq, this]

/-- The write of a register without CR fields that sets nothing going is the write of its RW and W1C fields. -/
theorem Block.writeOne_plain {a v : Nat} {fs : List Field} (hc : ∀ f ∈ fs, f.isCr = false) (hm : moduleChannel a = false)
    (ha : ∀ b held, Block.writeAct a v held b = b) (b : Block) : b.writeOne a v fs = b.writeLive fs v := by
  simp [Block.writeOne, hm, Block.writeMaq_plain hc, ha]

/-- Writes all of which reach a register, and while no cast is armed, are carried out in turn. -/
theorem Block.writeCommand_unarmed {b c : Block} {ws : List (Nat × Nat)} {p : List Byte}
    (hf : ∀ w ∈ ws, (writeFields w.1).isSome = true) (ha : b.cst.armed = none ∨ ∀ w ∈ ws, writesMaq w.1 = false)
    (hw : b.writeAll ws = (0, c)) : b.writeCommand ws p = (c, ok p) := by
  have h1 : (ws.any fun w => (writeFields w.1).isNone) = false :=
    List.any_eq_false.mpr fun w hm => by simp [Option.isSome_iff_ne_none.mp (hf w hm)]
  have h2 : (b.cst.armed.isSome && ws.any fun w => writesMaq w.1) = false := by
    rcases ha with h | h
    · simp [h]
    · rw [List.any_eq_false.mpr fun w hm => by simp [h w hm], Bool.and_false]
  simp [Block.writeCommand, h1, h2, hw]

/-- A write one of whose words reaches no register is refused whole. -/
theorem Block.writeCommand_badAddress {b : Block} {ws : List (Nat × Nat)} {p : List Byte} {w : Nat × Nat} (hw : w ∈ ws)
    (hf : writeFields w.1 = none) : b.writeCommand ws p = (b, badAddress) := by
  have : (ws.any fun w => (writeFields w.1).isNone) = true := List.any_eq_true.mpr ⟨w, hw, by simp [hf]⟩
  simp [Block.writeCommand, this]

/-! ### A command at its turn -/

theorem Does.imp {c : Instr} {s : State} {p q : Block → Prop} (h : Does c s p) (hpq : ∀ t, p t → q t) : Does c s q := by
  obtain ⟨t, hx, hpend, hp⟩ := h
  exact ⟨t, hx, hpend, hpq _ hp⟩

/-- A command at its turn that is carried out at once completes with its reply: what holds of its effect with the reply
    behind it holds after it. -/
theorem does_serve {c : Instr} {s : State} {rq : Req} {op : Nat} {fits touches : Bool} {f : Block → Block × Ans} {e : Block}
    {st d : Nat} {p : List Byte} {post : Block → Prop} (hx : exec c s = s.onBlk (·.serve rq op fits touches f))
    (ht : AtTurn s.blk rq op) (hop : op < 256) (hfit : fits = true) (hr : (touches && s.blk.resyncing) = false)
    (hf : f s.blk = (e, .done st d p)) (hq : e.jv.queue = s.blk.jv.queue) (hp : post (e.finish st d p)) :
    Does c s fun t => Answered s.blk t rq op st d p ∧ post t := by
  subst hfit
  obtain ⟨he, ha⟩ := Block.serve_done ht hop hr hf hq
  exact ⟨_, hx, rfl, ha, by simpa only [he] using hp⟩

/-- A command that is refused without an effect leaves its reply and nothing else. -/
theorem Block.finish_only (b : Block) (st d : Nat) (p : List Byte) :
    RegsBut endFields b (b.finish st d p) ∧ Keeps endParts b (b.finish st d p) :=
  ⟨fun _ hg => Block.finish_rd hg, Block.finish_keeps⟩

/-! ### One register (R8, R40, R71) -/

/-- An operation on registers alone, with the command's end behind it, keeps what every command keeps. -/
theorem Keeps.finish_end {b c : Block} {st d : Nat} {p : List Byte} (h : Keeps [.regs] b c) :
    Keeps endParts b (c.finish st d p) :=
  (h.mono (by decide)).finish fun _ hx => hx

/-- Of `b` the fields of a register took the word `v` in `t` (R8): an RW field its bits, a W1C field lost those written 1. -/
def TakesWord (fs : List Field) (v : Nat) (b t : Block) : Prop :=
  (∀ f ∈ fs, f.acc = .rw → t.rd f = v / 2 ^ f.lo % 2 ^ f.width)
  ∧ ∀ f ∈ fs, f.acc = .w1c → b.rd f < 2 ^ f.width → ∀ i : Nat,
    (t.rd f).testBit i = ((b.rd f).testBit i && !v.testBit (f.lo + i))

theorem Block.writeLive_takesWord {a : Nat} {fs : List Field} (h : fieldsAt a = some fs) (v : Nat) (b : Block) :
    TakesWord fs v b (b.writeLive fs v) :=
  ⟨fun _ hf hrw => Block.writeLive_rd_rw h hf hrw v b, fun _ hf hw hb i => Block.writeLive_testBit_w1c h hf hw v b hb i⟩

/-- Only what the register's own fields read matters. -/
theorem TakesWord.congr {fs : List Field} {v : Nat} {b b' t t' : Block} (h : TakesWord fs v b t)
    (hb : ∀ f ∈ fs, b.rd f = b'.rd f) (ht : ∀ f ∈ fs, t'.rd f = t.rd f) : TakesWord fs v b' t' := by
  obtain ⟨hrw, hw1⟩ := h
  refine ⟨fun f hf ha => ?_, fun f hf ha hlt i => ?_⟩
  · rw [ht f hf, hrw f hf ha]
  · rw [← hb f hf] at hlt ⊢
    rw [ht f hf, hw1 f hf ha hlt]

theorem exec_of_mem_writes {c : Instr} {rq : Req} {a v : Word}
    (hc : c ∈ [Instr.regWrite rq a v, .regFieldWrite rq a v, .maquetteWrite rq a v]) (s : State) :
    exec c s = s.onBlk (·.serveWrite rq a.toNat v.toNat) := by
  simp only [List.mem_cons, List.not_mem_nil, or_false] at hc
  rcases hc with rfl | rfl | rfl <;> rfl

/-- Settles O14: the write is the write of the register's RW and W1C fields, one after the other, each of its own bits. -/
theorem plainRegisterWrites : Obligations.PlainRegisterWrites := by
  unfold Obligations.PlainRegisterWrites
  intro s rq a v fs ht hf hfs hm hd ha c hc
  have hcr : ∀ f ∈ fs, f.isCr = false := fun f h => (hfs f h).1
  have hat := fieldsAt_of_writeFields hf hcr
  have hw := Block.writeOne_plain hcr hm ha s.blk
  have hk := Block.writeLive_keeps fs v.toNat s.blk
  have hq : (s.blk.writeOne a.toNat v.toNat fs).jv.queue = s.blk.jv.queue := by rw [Block.writeOne_jv]
  refine (does_write (post := fun t => TakesWord fs v.toNat s.blk t ∧ RegsBut (liveWritten fs ++ endFields) s.blk t
    ∧ Keeps endParts s.blk t) fs (exec_of_mem_writes hc s) ht hf (writesMaq_eq_false hf hcr) hd hq ?_).imp
    fun t ⟨hans, ⟨hrw, hw1⟩, hb, hkt⟩ => ⟨hans, hrw, hw1, hb, hkt⟩
  rw [hw]
  exact ⟨(Block.writeLive_takesWord hat v.toNat s.blk).congr (fun _ _ => rfl) fun f h => Block.finish_rd (hfs f h).2,
    RegsBut.finish (Block.writeLive_regsBut fs _ _), hk.finish_end⟩

/-! ### Two registers side by side (R70, R72) -/

theorem blockAddrs_two (a : Nat) : blockAddrs a 2 = [a, a + 4] := rfl

/-- What the write of two plain registers side by side leaves: each register's fields take their own word. -/
theorem writeLive_two_rd {a : Nat} {fs gs : List Field} (hf : fieldsAt a = some fs) (hg : fieldsAt (a + 4) = some gs)
    (v w : Nat) (b : Block) :
    (∀ f ∈ fs, ((b.writeLive fs v).writeLive gs w).rd f = (b.writeLive fs v).rd f)
      ∧ ∀ g ∈ gs, (b.writeLive fs v).rd g = b.rd g :=
  ⟨fun _ h => Block.writeLive_rd_ne (fun _ hx => fieldsAt_key_ne hf hg le_rfl h hx) _ _,
    fun _ h => Block.writeLive_rd_ne (fun _ hx => (fieldsAt_key_ne hf hg le_rfl hx h).symm) _ _⟩

/-- A block write at its turn, allowed whole and no word of it in the way of a cast: its effect, then its reply. -/
theorem does_blockWrite {s : State} {rq : Req} {a : Word} {vals : List Word} {c : Block} {post : Block → Prop}
    (ht : AtTurn s.blk rq 0x13) (h1 : 1 ≤ vals.length) (h2 : vals.length ≤ 348)
    (hf : ∀ x ∈ blockAddrs a.toNat vals.length, (writeFields x).isSome = true)
    (hm : s.blk.resyncing = false ∧ s.blk.cst.armed = none ∨ ∀ x ∈ blockAddrs a.toNat vals.length, writesMaq x = false)
    (hw : s.blk.writeAll ((blockAddrs a.toNat vals.length).zip (vals.map (·.toNat))) = (0, c))
    (hp : post (c.finish stOk 0 (be 4 a.toNat ++ be 2 vals.length ++ zeros 2))) :
    Does (.regWriteBlock rq a vals) s fun t =>
      Answered s.blk t rq 0x13 stOk 0 (be 4 a.toNat ++ be 2 vals.length ++ zeros 2) ∧ post t := by
  have hz {p : Nat → Prop} (h : ∀ x ∈ blockAddrs a.toNat vals.length, p x) :
      ∀ x ∈ (blockAddrs a.toNat vals.length).zip (vals.map (·.toNat)), p x.1 := fun x hx => h _ (List.of_mem_zip hx).1
  have hr : ((blockAddrs a.toNat vals.length).any writesMaq && s.blk.resyncing) = false := by
    rcases hm with ⟨h, -⟩ | h
    · rw [h, Bool.and_false]
    · rw [List.any_eq_false.mpr fun x hx => by simp [h x hx], Bool.false_and]
  have hj := Block.writeAll_jv ((blockAddrs a.toNat vals.length).zip (vals.map (·.toNat))) s.blk
  rw [hw] at hj
  exact does_serve rfl ht (by decide) (decide_eq_true ⟨h1, h2⟩) hr
    (Block.writeCommand_unarmed (hz hf) (hm.imp And.right hz) hw) (congrArg JarvasSt.queue hj) hp

/-- Two plain registers side by side: each register's RW and W1C fields take their own word. -/
theorem does_blockWrite_two {s : State} {rq : Req} {a v w : Word} {fs gs : List Field} (ht : AtTurn s.blk rq 0x13)
    (hf : writeFields a.toNat = some fs) (hg : writeFields (a.toNat + 4) = some gs)
    (hfs : ∀ f ∈ fs ++ gs, f.isCr = false ∧ f.key ∉ endFields.map Field.key)
    (hm : moduleChannel a.toNat = false) (hm' : moduleChannel (a.toNat + 4) = false)
    (hd : ∀ b, Block.denyWrite a.toNat v.toNat b = 0) (hd' : ∀ b, Block.denyWrite (a.toNat + 4) w.toNat b = 0)
    (ha : ∀ b held, Block.writeAct a.toNat v.toNat held b = b)
    (ha' : ∀ b held, Block.writeAct (a.toNat + 4) w.toNat held b = b) :
    Does (.regWriteBlock rq a [v, w]) s fun t =>
      Answered s.blk t rq 0x13 stOk 0 (be 4 a.toNat ++ be 2 2 ++ zeros 2)
      ∧ TakesWord fs v.toNat s.blk t ∧ TakesWord gs w.toNat s.blk t
      ∧ RegsBut (liveWritten (fs ++ gs) ++ endFields) s.blk t ∧ Keeps endParts s.blk t := by
  have hcf : ∀ f ∈ fs, f.isCr = false := fun f h => (hfs f (List.mem_append_left _ h)).1
  have hcg : ∀ g ∈ gs, g.isCr = false := fun g h => (hfs g (List.mem_append_right _ h)).1
  have hf0 := fieldsAt_of_writeFields hf hcf
  have hg0 := fieldsAt_of_writeFields hg hcg
  let b1 := s.blk.writeLive fs v.toNat
  let b2 := b1.writeLive gs w.toNat
  have hw : s.blk.writeAll [(a.toNat, v.toNat), (a.toNat + 4, w.toNat)] = (0, b2) := by
    simp [Block.writeAll, hd, hd', hf, hg, Block.writeOne_plain hcf hm ha, Block.writeOne_plain hcg hm' ha', b1, b2]
  have hrd (f : Field) (h : f ∈ fs ++ gs) (p : List Byte) : (b2.finish stOk 0 p).rd f = b2.rd f :=
    Block.finish_rd (hfs f h).2
  obtain ⟨hfirst, hsecond⟩ := writeLive_two_rd hf0 hg0 v.toNat w.toNat s.blk
  refine does_blockWrite (vals := [v, w]) ht (by simp) (by simp) ?_ (.inr ?_) hw ⟨?_, ?_, ?_, ?_⟩
  · simp [blockAddrs_two, hf, hg]
  · simp [blockAddrs_two, writesMaq_eq_false hf hcf, writesMaq_eq_false hg hcg]
  · exact (Block.writeLive_takesWord hf0 v.toNat s.blk).congr (fun _ _ => rfl) fun f h =>
      (hrd f (List.mem_append_left _ h) _).trans (hfirst f h)
  · exact (Block.writeLive_takesWord hg0 w.toNat b1).congr hsecond fun g h => hrd g (List.mem_append_right _ h) _
  · refine RegsBut.finish ?_
    rw [liveWritten, List.filter_append]
    exact (Block.writeLive_regsBut fs _ _).trans_append (Block.writeLive_regsBut gs _ _)
  · exact ((Block.writeLive_keeps _ _ _).trans (Block.writeLive_keeps _ _ _)).finish_end

end Sys2Proof.Machine
end

section
/-! PROOFS. Reads of registers, one and in blocks (R6, R8, R38, R42, R69 to R71), and which addresses are refused (R6, R70). -/

namespace Sys2Proof.Machine

/-! ### What a read brings up to date -/

theorem Block.refreshEvt_jv (a : Nat) (b : Block) : (b.refreshEvt a).jv = b.jv := by
  simp [Block.refreshEvt, Block.recovShow, Block.jv_ite]

theorem Block.refreshAge_jv (x : Nat) (b : Block) : (b.refreshAge x).jv = b.jv := by
  unfold Block.refreshAge
  split <;> rfl

theorem Block.refreshHeaders_jv (l : Nat) (b : Block) : (b.refreshHeaders l).jv = b.jv := by
  simp [Block.refreshHeaders, Block.jv_ite]

/-- What a read brings up to date are registers, not the queue. -/
@[simp] theorem Block.refresh_jv (a : Nat) (b : Block) : (b.refresh a).jv = b.jv := by
  unfold Block.refresh
  repeat' split
  all_goals simp [Block.latchNow, Block.refreshEvt_jv, Block.refreshAge_jv, Block.refreshHeaders_jv]

/-! ### What one address answers -/

theorem own_of_lt {a : Nat} (h : a < 0x1000000) : windowAt a = false ∧ aliasAt a = false :=
  ⟨decide_eq_false (by omega), decide_eq_false (by omega)⟩

theorem not_window_of_alias {a : Nat} (h : aliasAt a = true) : windowAt a = false :=
  decide_eq_false (by have := of_decide_eq_true h; omega)

theorem Block.readOne_own {a : Nat} {fs : List Field} (h4 : a % 4 = 0) (ha : a < 0x1000000) (hf : fieldsAt a = some fs)
    (b : Block) : b.readOne a = some ((b.refresh a).ownWord a fs, (b.refresh a).clearRc fs) := by
  simp [Block.readOne, h4, own_of_lt ha, hf]

theorem Block.readOne_window {a : Nat} (h4 : a % 4 = 0) (ha : windowAt a = true) (b : Block) :
    b.readOne a = (b.windowWord (a - 0x1000000)).map fun w => (w, b) := by
  simp [Block.readOne, h4, ha]

theorem Block.readOne_alias {a : Nat} (h4 : a % 4 = 0) (ha : aliasAt a = true) (b : Block) :
    b.readOne a = (b.aliasWord (a - 0x2000000)).map fun w => (w, b) := by
  simp [Block.readOne, h4, ha, not_window_of_alias ha]

/-- A register at its own address that is not refreshed and has no RC field is read without an effect. -/
theorem Block.readOne_still {a : Nat} {fs : List Field} (h4 : a % 4 = 0) (ha : a < 0x1000000) (hf : fieldsAt a = some fs)
    (hrc : ∀ f ∈ fs, f.acc ≠ .rc) {b : Block} (hb : b.refresh a = b) : b.readOne a = some (b.ownWord a fs, b) := by
  rw [Block.readOne_own h4 ha hf, hb, Block.clearRc_id hrc]

/-- The word of a register at its own address: WO fields 0, those of the image from the frozen bank, the others live
    (R8, R38). -/
theorem Block.ownWord_eq {a : Nat} (h : identityWord a = none) (fs : List Field) (b : Block) :
    b.ownWord a fs = (fs.map fun f => (if f.acc = .wo then 0
      else if (imageServed a fs && !b.thermLive a) = true ∧ liveField f = false then Bank.fld b.frozen f else b.shown f)
        * 2 ^ f.lo).sum := by
  have hr (p : Bool) (f : Field) : b.readField p f
      = if f.acc = .wo then 0 else if p = true ∧ liveField f = false then Bank.fld b.frozen f else b.shown f := by
    unfold Block.readField
    split <;> simp_all
  simp only [Block.ownWord, h, wordOf, hr]

theorem Block.windowWord_eq {x : Nat} {fs : List Field} (hx : x < 0xFF0000) (hf : fieldsAt x = some fs)
    (hs : imageServed x fs = true) (b : Block) :
    b.windowWord x = some (fs.map fun f => Bank.fld b.frozen f * 2 ^ f.lo).sum := by
  simp [Block.windowWord, Nat.not_le.mpr hx, hf, hs, wordOf]

theorem Block.aliasWord_eq {x : Nat} {fs : List Field} (hf : fieldsAt x = some fs) (hc : fs.any Field.isCr = true)
    (b : Block) : b.aliasWord x = some ((fs.filter Field.isCr).map fun f => b.maq f * 2 ^ f.lo).sum := by
  simp only [Block.aliasWord, hf, hc, if_true, wordOf]

/-! ### Which addresses answer -/

/-- A register is listed at the address (R6): in the window those the image serves, at the maquette's those with a CR
    field. -/
def Block.listed (b : Block) (x : Nat) : Bool :=
  x % 4 == 0 && (if windowAt x then (b.windowWord (x - 0x1000000)).isSome
    else if aliasAt x then (b.aliasWord (x - 0x2000000)).isSome else (fieldsAt x).isSome)

theorem Block.readOne_isSome (b : Block) (x : Nat) : (b.readOne x).isSome = b.listed x := by
  unfold Block.readOne Block.listed
  by_cases h4 : x % 4 = 0
  · rw [if_neg (by simpa using h4), h4]
    by_cases hw : windowAt x = true
    · simp [hw]
    · by_cases ha : aliasAt x = true
      · simp [hw, ha]
      · rw [if_neg hw, if_neg ha, if_neg hw, if_neg ha]
        cases hf : fieldsAt x <;> simp
  · simp [h4]

/-- Whether an address answers is the register map's affair alone. -/
theorem Block.listed_congr (b c : Block) (x : Nat) : b.listed x = c.listed x := by
  have hw (o : Nat) : (b.windowWord o).isSome = (c.windowWord o).isSome := by
    unfold Block.windowWord
    generalize (if 0xFF0000 ≤ o then o + 0x1000000 else o) = a
    dsimp only
    split
    · split <;> simp
    · rfl
  have ha (o : Nat) : (b.aliasWord o).isSome = (c.aliasWord o).isSome := by
    unfold Block.aliasWord
    split
    · split <;> simp
    · rfl
  simp only [Block.listed, hw, ha]

theorem Block.readOne_eq_none {b : Block} {x : Nat} (h : b.listed x = false) (c : Block) : c.readOne x = none := by
  have := Block.readOne_isSome c x
  rw [Block.listed_congr c b x, h] at this
  exact Option.not_isSome_iff_eq_none.mp (by simp [this])

theorem Block.listed_eq_false_of_fieldsAt {x : Nat} (hx : x < 0x1000000) (hf : fieldsAt x = none) (b : Block) :
    b.listed x = false := by
  simp [Block.listed, own_of_lt hx, hf]

/-- A block read one of whose addresses does not answer is refused whole (R70). -/
theorem Block.readAll_eq_none {b : Block} {xs : List Nat} (h : ∃ x ∈ xs, b.listed x = false) (c : Block) :
    c.readAll xs = none := by
  induction xs generalizing c with
  | nil => simp at h
  | cons y r ih =>
    unfold Block.readAll
    cases hy : c.readOne y with
    | none => rfl
    | some q =>
      obtain ⟨x, hx, hl⟩ := h
      rcases List.mem_cons.mp hx with rfl | hx
      · rw [Block.readOne_eq_none hl c] at hy
        cases hy
      · simp [ih ⟨x, hx, hl⟩ q.2]

/-- A register's own address is one where the table has a register, in a word. -/
theorem ownFields_eq_none {x : Nat} (h : x % 4 ≠ 0 ∨ fieldsAt x = none) : ownFields x = none := by
  unfold ownFields
  split
  · next h4 => exact h.resolve_left fun hne => hne h4
  · rfl

/-- A write at an address that does not answer, or in the window, reaches no register (R6, R42). -/
theorem writeFields_eq_none {b : Block} {x : Nat} (h : b.listed x = false ∨ windowAt x = true) : writeFields x = none := by
  unfold writeFields
  by_cases hw : windowAt x = true
  · rw [if_pos hw]
  rw [if_neg hw]
  have hl := h.resolve_right hw
  rw [Block.listed, if_neg hw, Bool.and_eq_false_iff, beq_eq_false_iff_ne] at hl
  by_cases ha : aliasAt x = true
  · rw [if_pos ha] at hl ⊢
    have hge : 0x2000000 ≤ x := (of_decide_eq_true ha).1
    cases ho : ownFields (x - 0x2000000) with
    | none => rfl
    | some fs =>
      have hf : x % 4 = 0 ∧ fieldsAt (x - 0x2000000) = some fs := by
        unfold ownFields at ho
        split at ho
        · exact ⟨by omega, ho⟩
        · cases ho
      obtain hl | hl := hl
      · exact absurd hf.1 hl
      · by_cases hc : fs.any Field.isCr = true
        · rw [Block.aliasWord_eq hf.2 hc] at hl
          cases hl
        · simp only [if_neg hc]
  · rw [if_neg ha] at hl ⊢
    exact ownFields_eq_none (hl.imp id fun hs => by simpa using hs)

/-! ### The queue stays through a read -/

theorem Block.readOne_jv {b c : Block} {a w : Nat} (h : b.readOne a = some (w, c)) : c.jv = b.jv := by
  have same {o : Option Nat} (ho : o.map (fun x => (x, b)) = some (w, c)) : c.jv = b.jv := by
    obtain ⟨x, -, he⟩ := Option.map_eq_some_iff.mp ho
    rw [(Prod.mk.inj he).2]
  unfold Block.readOne at h
  split at h
  · cases h
  · split at h
    · exact same h
    · split at h
      · exact same h
      · split at h
        · next fs _ =>
          obtain ⟨-, rfl⟩ := Prod.mk.inj (Option.some.inj h)
          rw [(Block.clearRc_keeps fs _).jv (by decide), Block.refresh_jv]
        · cases h

theorem Block.readAll_jv {xs : List Nat} {b c : Block} {ws : List Nat} (h : b.readAll xs = some (ws, c)) : c.jv = b.jv := by
  induction xs generalizing b ws with
  | nil =>
    obtain ⟨-, rfl⟩ := Prod.mk.inj (Option.some.inj h)
    rfl
  | cons a r ih =>
    unfold Block.readAll at h
    split at h
    · cases h
    · next w d hd =>
      obtain ⟨q, hq, he⟩ := Option.map_eq_some_iff.mp h
      obtain ⟨-, rfl⟩ := Prod.mk.inj he
      exact (ih hq).trans (Block.readOne_jv hd)

/-- Registers that are read without an effect answer their words in order. -/
theorem Block.readAll_still {b : Block} {xs : List Nat} (h : ∀ x ∈ xs, x % 4 = 0 ∧ x < 0x1000000 ∧ b.refresh x = b
    ∧ ∃ gs, fieldsAt x = some gs ∧ ∀ g ∈ gs, g.acc ≠ .rc) :
    b.readAll xs = some (xs.map fun x => b.ownWord x ((fieldsAt x).getD []), b) := by
  induction xs with
  | nil => rfl
  | cons x r ih =>
    obtain ⟨h4, hx, hb, gs, hg, hrc⟩ := h x List.mem_cons_self
    simp [Block.readAll, Block.readOne_still h4 hx hg hrc hb, ih fun y hy => h y (List.mem_cons_of_mem _ hy), hg]

/-! ### The commands at their turn -/

/-- REG_READ of an address that answers. -/
theorem does_read {s : State} {rq : Req} {a : Word} {w : Nat} {c : Block} {post : Block → Prop} (ht : AtTurn s.blk rq 0x10)
    (hr : (aliasAt a.toNat && s.blk.resyncing) = false) (hw : s.blk.readOne a.toNat = some (w, c))
    (hp : post (c.finish stOk 0 (be 4 a.toNat ++ be 4 w ++ be 8 (s.blk.readNum [a.toNat])))) :
    Does (.regRead rq a) s fun t =>
      Answered s.blk t rq 0x10 stOk 0 (be 4 a.toNat ++ be 4 w ++ be 8 (s.blk.readNum [a.toNat])) ∧ post t :=
  does_serve rfl ht (by decide) rfl hr (by simp [Block.readCommand, hw, ok])
    (congrArg JarvasSt.queue (Block.readOne_jv hw)) hp

/-- REG_READ of an address that does not answer. -/
theorem does_read_refused {s : State} {rq : Req} {a : Word} (ht : AtTurn s.blk rq 0x10)
    (hr : (aliasAt a.toNat && s.blk.resyncing) = false) (hw : s.blk.readOne a.toNat = none) :
    Does (.regRead rq a) s fun t => Answered s.blk t rq 0x10 stBadAddress 0 [] ∧ RegsBut endFields s.blk t
      ∧ Keeps endParts s.blk t :=
  does_serve rfl ht (by decide) rfl hr (by simp only [Block.readCommand, hw, badAddress]) rfl (Block.finish_only _ _ _ _)

/-- The reply's payload of a block read. -/
def blockReply (b : Block) (a n : Nat) (ws : List Nat) : List Byte :=
  be 4 a ++ be 2 n ++ zeros 2 ++ be 8 (b.readNum (blockAddrs a n)) ++ ws.flatMap (be 4)

/-- REG_READ_BLOCK whose addresses all answer. -/
theorem does_readBlock {s : State} {rq : Req} {a : Word} {n : BitVec 16} {ws : List Nat} {c : Block} {post : Block → Prop}
    (ht : AtTurn s.blk rq 0x12) (h1 : 1 ≤ n.toNat) (h2 : n.toNat ≤ 346)
    (hr : ((blockAddrs a.toNat n.toNat).any aliasAt && s.blk.resyncing) = false)
    (hw : s.blk.readAll (blockAddrs a.toNat n.toNat) = some (ws, c))
    (hp : post (c.finish stOk 0 (blockReply s.blk a.toNat n.toNat ws))) :
    Does (.regReadBlock rq a n) s fun t =>
      Answered s.blk t rq 0x12 stOk 0 (blockReply s.blk a.toNat n.toNat ws) ∧ post t :=
  does_serve rfl ht (by decide) (decide_eq_true ⟨h1, h2⟩) hr (by simp [Block.readBlock, hw, ok, blockReply])
    (congrArg JarvasSt.queue (Block.readAll_jv hw)) hp

/-- REG_READ_BLOCK one of whose addresses does not answer. -/
theorem does_readBlock_refused {s : State} {rq : Req} {a : Word} {n : BitVec 16} (ht : AtTurn s.blk rq 0x12)
    (h1 : 1 ≤ n.toNat) (h2 : n.toNat ≤ 346) (hr : ((blockAddrs a.toNat n.toNat).any aliasAt && s.blk.resyncing) = false)
    (hx : ∃ x ∈ blockAddrs a.toNat n.toNat, s.blk.listed x = false) :
    Does (.regReadBlock rq a n) s fun t => Answered s.blk t rq 0x12 stBadAddress 0 [] ∧ RegsBut endFields s.blk t
      ∧ Keeps endParts s.blk t :=
  does_serve rfl ht (by decide) (decide_eq_true ⟨h1, h2⟩) hr
    (by simp only [Block.readBlock, Block.readAll_eq_none hx, badAddress]) rfl (Block.finish_only _ _ _ _)

/-! ### The stroke field of the reply (R71) -/

theorem Block.readNum_window {a : Nat} (h : windowAt a = true) (b : Block) : b.readNum [a] = b.frozenNum := by
  simp [Block.readNum, Block.servedAt, h]

theorem Block.readNum_alias {a : Nat} (h : aliasAt a = true) (b : Block) : b.readNum [a] = b.strk.num := by
  simp [Block.readNum, Block.servedAt, h, not_window_of_alias h]

/-- Settles O13: a read answers the word of the place its address lies in, own, window or maquette, and a block the words
    of its addresses in turn. -/
theorem registerReads : Obligations.RegisterReads := by
  unfold Obligations.RegisterReads
  intro s rq a n ws w c fs
  have rd_of_finish (st d : Nat) (p : List Byte) (g : Field) (hg : g.key ∉ endFields.map Field.key) :
      (c.finish st d p).rd g = c.rd g := Block.finish_rd hg
  refine ⟨?own, ?window, ?maquette, ?block, ?blockRefused, ?one, ?all, ?refused⟩
  case own =>
    intro ht h4 ha hf hid
    have hk := Block.clearRc_keeps fs (s.blk.refresh a.toNat)
    refine (Block.ownWord_eq hid fs (s.blk.refresh a.toNat)) ▸ does_read ht (by simp [own_of_lt ha]) (Block.readOne_own h4 ha hf _)
      ⟨fun f hrc hne => ?_, RegsBut.finish (Block.clearRc_regsBut fs _), hk.finish_end⟩
    exact (Block.finish_rd hne).trans (Block.clearRc_rd hf hrc _)
  case window =>
    intro ht h4 h1 h2 hf hs
    have hw : windowAt a.toNat = true := decide_eq_true ⟨h1, by omega⟩
    have hna : aliasAt a.toNat = false := decide_eq_false (by omega)
    rw [← Block.readNum_window hw]
    exact does_read ht (by simp [hna]) (by rw [Block.readOne_window h4 hw, Block.windowWord_eq (by omega) hf hs]; rfl)
      (Block.finish_only _ _ _ _)
  case maquette =>
    intro ht h4 ha hres hf hc
    rw [← Block.readNum_alias ha]
    exact does_read ht (by simp [hres]) (by rw [Block.readOne_alias h4 ha, Block.aliasWord_eq hf hc]; rfl)
      (Block.finish_only _ _ _ _)
  case block =>
    intro ht h1 h2 h
    have hna : (blockAddrs a.toNat n.toNat).any aliasAt = false :=
      List.any_eq_false.mpr fun x hx => by simp [own_of_lt (h x hx).2.1]
    have := does_readBlock (post := fun t => RegsBut endFields s.blk t ∧ Keeps endParts s.blk t) ht h1 h2 (by simp [hna])
      (Block.readAll_still h) (Block.finish_only _ _ _ _)
    simpa only [blockReply, List.flatMap_map] using this
  case blockRefused =>
    rintro ht h1 h2 ⟨x, hx, hlt, hf⟩ hr
    exact does_readBlock_refused ht h1 h2 hr ⟨x, hx, Block.listed_eq_false_of_fieldsAt hlt hf _⟩
  case one =>
    exact fun hw hr ht => does_read ht hr hw (rd_of_finish _ _ _)
  case all =>
    exact fun h1 h2 hw hr ht => does_readBlock ht h1 h2 hr hw (rd_of_finish _ _ _)
  case refused =>
    exact fun hw hr ht => does_read_refused ht hr hw

end Sys2Proof.Machine
end

section
/-! PROOFS. Block reads and block writes: an address that is not listed refuses the whole access (R6, R70 to R72). -/

namespace Sys2Proof.Machine

/-- A command that writes one register, at an address where none may be written. -/
theorem does_write_refused {c : Instr} {s : State} {rq : Req} {a v : Nat} (hx : exec c s = s.onBlk (·.serveWrite rq a v))
    (ht : AtTurn s.blk rq 0x11) (hf : writeFields a = none) :
    Does c s fun t => Answered s.blk t rq 0x11 stBadAddress 0 [] ∧ RegsBut endFields s.blk t ∧ Keeps endParts s.blk t :=
  does_serve hx ht (by decide) rfl (by simp [writesMaq, hf])
    (Block.writeCommand_badAddress (w := (a, v)) (List.mem_singleton_self _) hf) rfl (Block.finish_only _ _ _ _)

/-- REG_WRITE_BLOCK with an address where no register may be written. -/
theorem does_blockWrite_refused {s : State} {rq : Req} {a : Word} {vals : List Word} (ht : AtTurn s.blk rq 0x13)
    (h1 : 1 ≤ vals.length) (h2 : vals.length ≤ 348) (hr : s.blk.resyncing = false)
    (hf : ∃ x ∈ blockAddrs a.toNat vals.length, writeFields x = none) :
    Does (.regWriteBlock rq a vals) s fun t => Answered s.blk t rq 0x13 stBadAddress 0 [] ∧ RegsBut endFields s.blk t
      ∧ Keeps endParts s.blk t := by
  obtain ⟨x, hx, hf⟩ := hf
  have hlen : (blockAddrs a.toNat vals.length).length = (vals.map (·.toNat)).length := by simp [blockAddrs]
  obtain ⟨i, hi, rfl⟩ := List.mem_iff_getElem.mp hx
  have hz : ((blockAddrs a.toNat vals.length)[i], (vals.map (·.toNat))[i]'(hlen ▸ hi))
      ∈ (blockAddrs a.toNat vals.length).zip (vals.map (·.toNat)) :=
    List.mem_iff_getElem.mpr ⟨i, by rw [List.length_zip, ← hlen, Nat.min_self]; exact hi, List.getElem_zip⟩
  exact does_serve rfl ht (by decide) (decide_eq_true ⟨h1, h2⟩) (by simp [hr])
    (Block.writeCommand_badAddress hz hf) rfl (Block.finish_only _ _ _ _)

/-- Settles O15: two plain registers take their words; an access with an address that is not listed is refused whole; and
    one whose addresses are all listed does what its words do one after the other. -/
theorem blockRegisterWrite : Obligations.BlockRegisterWrite := by
  unfold Obligations.BlockRegisterWrite
  refine ⟨?two, ?blocks⟩
  case two =>
    intro s rq a v w fs gs ht hf hg hfs hm hm' hd hd' ha ha'
    exact (does_blockWrite_two ht hf hg hfs hm hm' hd hd' ha ha').imp
      fun t ⟨hans, ⟨hrw, hw1⟩, ⟨hrw', hw1'⟩, hb, hk⟩ => ⟨hans, hrw, hrw', hw1, hw1', hb, hk⟩
  case blocks =>
    intro s rq a v n vals ws b listed reads writes refused hres
    have hr (p : Bool) : (p && s.blk.resyncing) = false := by simp [hres]
    refine ⟨?read, ?write, ?readBlock, ?writeBlock, ?readAll, ?writeAll⟩
    case read => exact fun ht hl => does_read_refused ht (hr _) (Block.readOne_eq_none hl _)
    case write =>
      exact fun ht hl c hc => does_write_refused (exec_of_mem_writes hc s) ht (writeFields_eq_none (b := s.blk) hl)
    case readBlock => exact fun ht h1 h2 hx => does_readBlock_refused ht h1 h2 (hr _) hx
    case writeBlock =>
      rintro ht h1 h2 ⟨x, hx, hl⟩
      exact does_blockWrite_refused ht h1 h2 hres ⟨x, hx, writeFields_eq_none (b := s.blk) hl⟩
    case readAll => exact fun ht h1 h2 hw => does_readBlock ht h1 h2 (hr _) hw (Block.finish_only _ _ _ _)
    case writeAll =>
      intro ht h1 h2 hf ha hw
      exact (does_blockWrite (post := fun t => RegsBut endFields b t ∧ Keeps endParts b t) ht h1 h2 hf (.inl ⟨hres, ha⟩) hw
        (Block.finish_only _ _ _ _)).imp fun t ⟨⟨_, hseq, _, hrep⟩, hpost⟩ => ⟨hseq, hrep, hpost⟩

end Sys2Proof.Machine
end

section
/-! PROOFS. What resets leave (R9, R18, R332, R375, R396 to R398, R402, R403). -/

namespace Sys2Proof.Machine

/-! ### Banks that lose entries -/

/-- An entry is looked up in what a filter leaves as before, or not at all. -/
theorem SMap.look_filter {α : Type} {d : α} {i : Nat} {p : Nat × α → Bool} {q : Bool} (h : ∀ v, p (i, v) = q) (m : SMap α) :
    SMap.look d (m.filter p) i = if q = true then SMap.look d m i else d := by
  induction m with
  | nil => simp [SMap.look]
  | cons e r ih =>
    obtain ⟨k, v⟩ := e
    by_cases hk : k = i
    · subst hk
      cases q with
      | true => simp [h, SMap.look]
      | false => simpa [h] using ih
    · by_cases hp : p (k, v) = true <;> simp [hp, SMap.look, hk, ih]

/-- What a field reads as after an event: its value where it survives, else its reset value (R402). -/
theorem Bank.fld_keep {f : Field} (hf : fieldOfKey f.key = some f) (l : Level) (m : Bank) :
    Bank.fld (Bank.keep l m) f = if f.survives l = true then Bank.fld m f else f.reset :=
  SMap.look_filter (fun _ => by simp only [hf]) m

theorem Field.survives_power (f : Field) : f.survives .power = true ↔ f.kept = .nv ∧ bandReg f.addr = false := by
  obtain ⟨addr, lo, width, acc, reset, kept, lim⟩ := f
  cases hb : bandReg addr <;> cases kept <;> simp [Field.survives, Kept.survives, hb]

/-! ### Staged images are dropped (R86, R403) -/

theorem Block.stageShow_keeps (b : Block) : Keeps [.regs] b b.stageShow :=
  Block.eachOf_keeps _ _ (fun _ _ c => (c.wr_keeps _ _).trans (Block.wr_keeps _ _ _)) b

theorem Block.slotShow_keeps (k : Nat) (i : Option Img) (valid : Bool) (b : Block) : Keeps [.regs] b (b.slotShow k i valid) :=
  ((((b.wr_keeps _ _).trans (Block.wr_keeps _ _ _)).trans (Block.wr_keeps _ _ _)).trans (Block.wr_keeps _ _ _)).trans
    (Block.wr_keeps _ _ _)

theorem Block.updBoot_keeps (f : BootSt → BootSt) (b : Block) : Keeps [.boot] b (b.updBoot f) := by
  intro p hp
  cases p
  case boot => exact absurd (List.mem_singleton_self _) hp
  all_goals rfl

theorem Block.dropStages_keeps (b : Block) : Keeps [.regs, .boot] b b.dropStages := by
  have h : Keeps [.regs, .boot] b (b.updBoot fun x => { x with staged := [] }).stageShow :=
    ((b.updBoot_keeps _).mono (by decide)).trans ((Block.stageShow_keeps _).mono (by decide))
  exact Keeps.ite (fun _ => h.trans ((Block.slotShow_keeps _ _ _ _).mono (by decide))) fun _ => h

/-- The registers that show staged images are none of the non-volatile ones. -/
theorem stage_fields_not_nv : ∀ t < 3, fieldOfKey (Reg.NVM_STAGEt_BYTES t).key = some (Reg.NVM_STAGEt_BYTES t)
    ∧ fieldOfKey (Reg.NVM_STAGEt_VERIFIED t).key = some (Reg.NVM_STAGEt_VERIFIED t) := by decide +kernel

/-- A non-volatile field reads the same when staged images are dropped and no firmware image is among them. -/
theorem Block.dropStages_rd {f : Field} (hf : fieldOfKey f.key = some f) (hnv : f.kept = .nv) {b : Block}
    (hs : (b.boot.staged.any fun e => e.1 == 0) = false) : b.dropStages.rd f = b.rd f := by
  unfold Block.dropStages
  rw [if_neg (by simp [hs])]
  refine Block.eachOf_rd (fun t ht c => ?_) _
  obtain ⟨hb, hv⟩ := stage_fields_not_nv t (List.mem_range.mp ht)
  have ne {g : Field} (hg : fieldOfKey g.key = some g) (hk : g.kept ≠ .nv) : f.key ≠ g.key := fun h => by
    rw [h, hg] at hf
    exact hk (Option.some.inj hf ▸ hnv)
  rw [Block.rd_flag_ne _ _ _ _ (ne hv (by simp [Reg.NVM_STAGEt_VERIFIED])),
    Block.rd_wr_ne _ _ _ _ (ne hb (by simp [Reg.NVM_STAGEt_BYTES]))]

/-! ### The ledger comes back from flash (R18) -/

/-- One register of the flash copy is written back. -/
def ledgerEntry (e : Nat × Nat) (b : Block) : Block :=
  match fieldOfKey e.1 with
  | some f => b.wr f e.2
  | none => b

theorem Block.ledgerBack_eq (m : Bank) (b : Block) :
    b.ledgerBack m = { b with regs := b.regs.filter fun e => !ledgerReg (e.1 / 32 * 4) }.eachOf
      (m.filter fun (e : Nat × Nat) => ledgerReg (e.1 / 32 * 4)) ledgerEntry := rfl

theorem Block.ledgerBack_keeps (m : Bank) (b : Block) : Keeps [.regs] b (b.ledgerBack m) := by
  have h : Keeps [.regs] b { b with regs := b.regs.filter fun e => !ledgerReg (e.1 / 32 * 4) } := by
    intro p hp
    cases p
    case regs => exact absurd (List.mem_singleton_self _) hp
    all_goals rfl
  rw [Block.ledgerBack_eq]
  refine h.trans (Block.eachOf_keeps _ _ (fun e _ c => ?_) _)
  unfold ledgerEntry
  split
  · exact c.wr_keeps _ _
  · exact Keeps.refl _ c

/-- A field outside the ledger reads as before. -/
theorem Block.ledgerBack_rd {f : Field} (hf : fieldOfKey f.key = some f) (hl : ledgerReg f.addr = false) (m : Bank)
    (b : Block) : (b.ledgerBack m).rd f = b.rd f := by
  rw [Block.ledgerBack_eq]
  have hbase : Block.rd { b with regs := b.regs.filter fun e => !ledgerReg (e.1 / 32 * 4) } f = b.rd f :=
    (SMap.look_filter (q := true) (fun _ => by simp [fieldOfKey_addr hf, hl]) b.regs).trans (if_pos rfl)
  rw [Block.eachOf_rd (fun e he c => ?_), hbase]
  have hle : ledgerReg (e.1 / 32 * 4) = true := (List.mem_filter.mp he).2
  unfold ledgerEntry
  split
  · next g hg =>
    refine Block.rd_wr_ne g f _ c fun hk => ?_
    rw [← (fieldOfKey_mem hg).1, ← hk, fieldOfKey_addr hf, hl] at hle
    cases hle
  · rfl

/-- With nothing of the ledger in flash its fields stand at their reset values. -/
theorem Block.ledgerBack_nil_rd {f : Field} (hf : fieldOfKey f.key = some f) (hl : ledgerReg f.addr = true) (b : Block) :
    (b.ledgerBack []).rd f = f.reset :=
  (SMap.look_filter (q := false) (fun _ => by simp [fieldOfKey_addr hf, hl]) b.regs).trans (if_neg (by decide))

/-! ### What the ring shows (R351) -/

theorem Block.ringShow_keeps (b : Block) : Keeps [.regs] b b.ringShow := (b.wr_keeps _ _).trans (Block.wr_keeps _ _ _)

theorem Block.ringShow_rd {f : Field} (h1 : f.key ≠ Reg.EVT_OLDEST_NUM.key) (h2 : f.key ≠ Reg.EVT_UNACK_COUNT.key)
    (b : Block) : b.ringShow.rd f = b.rd f := by
  rw [Block.ringShow, Block.rd_wr_ne _ _ _ _ h2, Block.rd_wr_ne _ _ _ _ h1]

/-! ### Power-on (R396, R402) -/

/-- A power-on reset: the registers that survive and the ledger's from flash over a block at reset, then the numbers of the
    ring. -/
theorem Block.powerOnReset_shape (b : Block) : ∃ c d : Block,
    b.powerOnReset = ((d.wr Reg.EVT_NEXT_NUM b.dropStages.evt.mark).ringShow).flag Reg.SYS_CMD_STAT_RESTARTED true
    ∧ d.regs = (c.ledgerBack b.dropStages.cells.flashRegs).regs
    ∧ Keeps [.regs, .frozen] (c.ledgerBack b.dropStages.cells.flashRegs) d
    ∧ c.regs = Bank.keep .power b.dropStages.regs ∧ c.evt.ring = b.dropStages.evt.ring ∧ c.strk = StrokeSt.reset
    ∧ c.jv = JarvasSt.reset ∧ c.tb = TimeBase.reset ∧ c.cells.streams = b.dropStages.cells.flash ∧ c.boot.staged = [] := by
  refine ⟨_, _, rfl, rfl, ?_, rfl, rfl, rfl, rfl, rfl, rfl, rfl⟩
  intro p hp
  cases p
  case regs => exact absurd (by decide) hp
  case frozen => exact absurd (by decide) hp
  all_goals rfl

/-- The fields that power-on sets besides those of R402: the numbers of the ring and RESTARTED. -/
def powerOnFields : List Nat :=
  [Reg.EVT_NEXT_NUM.key, Reg.EVT_OLDEST_NUM.key, Reg.EVT_UNACK_COUNT.key, Reg.SYS_CMD_STAT_RESTARTED.key]

/-- After power-on a field reads as what survives of it, or what the ledger's copy in flash gives back (R18, R402). -/
theorem Block.powerOnReset_rd {f : Field} (hf : f.key ∉ powerOnFields) (b : Block) : ∃ c : Block,
    c.regs = Bank.keep .power b.dropStages.regs ∧ b.powerOnReset.rd f = (c.ledgerBack b.cells.flashRegs).rd f := by
  obtain ⟨c, d, ht, hd, -, hregs, -⟩ := b.powerOnReset_shape
  simp only [powerOnFields, List.mem_cons, List.not_mem_nil, or_false, not_or] at hf
  obtain ⟨h1, h2, h3, h4⟩ := hf
  have hcells : b.dropStages.cells = b.cells := b.dropStages_keeps .cells (by decide)
  refine ⟨c, hregs, ?_⟩
  rw [ht, Block.rd_flag_ne _ _ _ _ h4, Block.ringShow_rd h2 h3, Block.rd_wr_ne _ _ _ _ h1, Block.rd, hd, hcells]
  rfl

/-- Outside the ledger: a non-volatile field but for the table of bands stays, every other is at its reset value. -/
theorem Block.powerOnReset_rd_table {f : Field} (hf : fieldOfKey f.key = some f) (hk : f.key ∉ powerOnFields)
    (hl : ledgerReg f.addr = false) {b : Block} (hs : (b.boot.staged.any fun e => e.1 == 0) = false) :
    b.powerOnReset.rd f = if f.kept = .nv ∧ bandReg f.addr = false then b.rd f else f.reset := by
  obtain ⟨c, hc, ht⟩ := Block.powerOnReset_rd hk b
  rw [ht, Block.ledgerBack_rd hf hl, Block.rd, hc, Bank.fld_keep hf]
  simp only [Field.survives_power]
  split
  · next h => exact Block.dropStages_rd hf h.1 hs
  · rfl

theorem Block.powerOnReset_rd_ledger {f : Field} (hf : fieldOfKey f.key = some f) (hk : f.key ∉ powerOnFields)
    (hl : ledgerReg f.addr = true) {b : Block} (hm : b.cells.flashRegs = []) : b.powerOnReset.rd f = f.reset := by
  obtain ⟨c, -, ht⟩ := Block.powerOnReset_rd hk b
  rw [ht, hm, Block.ledgerBack_nil_rd hf hl]

/-- The engines after power-on: idle, but for what flash holds. -/
theorem Block.powerOnReset_parts (b : Block) : b.powerOnReset.evt.ring = b.evt.ring ∧ b.powerOnReset.strk = StrokeSt.reset
    ∧ b.powerOnReset.jv = JarvasSt.reset ∧ b.powerOnReset.tb = TimeBase.reset
    ∧ b.powerOnReset.cells.streams = b.cells.flash ∧ b.powerOnReset.boot.staged = [] := by
  obtain ⟨c, d, ht, -, hkeep, -, hring, hstrk, hjv, htb, hcells, hst⟩ := b.powerOnReset_shape
  have hevt : b.dropStages.evt = b.evt := b.dropStages_keeps .evt (by decide)
  have hcel : b.dropStages.cells = b.cells := b.dropStages_keeps .cells (by decide)
  have hk : Keeps [.regs, .frozen] c b.powerOnReset := by
    rw [ht]
    exact (((c.ledgerBack_keeps _).mono (by decide)).trans hkeep).trans
      ((((d.wr_keeps _ _).trans (Block.ringShow_keeps _)).trans (Block.wr_keeps _ _ _)).mono (by decide))
  have part (p : Part) (hp : p ∉ [Part.regs, .frozen]) : p.same c b.powerOnReset := hk p hp
  refine ⟨?_, (part .strk (by decide)).trans hstrk, (part .jv (by decide)).trans hjv, (part .tb (by decide)).trans htb, ?_, ?_⟩
  · rw [show b.powerOnReset.evt = c.evt from part .evt (by decide), hring, hevt]
  · rw [show b.powerOnReset.cells = c.cells from part .cells (by decide), hcells, hcel]
  · rw [show b.powerOnReset.boot = c.boot from part .boot (by decide), hst]

end Sys2Proof.Machine
end

section
/-! PROOFS. The system reset (R396 to R398, R402), and the statements on resets. -/

namespace Sys2Proof.Machine

/-! ### Channels are powered anew: fields of the local stage alone -/

/-- The field lies before the registers of the local power stage. -/
def beforeStage (f : Field) : Prop := f.key < 0x400000 * 8

theorem beforeStage.ne {f g : Field} (h : beforeStage f) (hg : 0x400000 ≤ g.addr) : f.key ≠ g.key := by
  intro hk
  unfold beforeStage at h
  rw [hk, Field.key] at h
  omega

theorem Block.brakeStop_rd {f : Field} (h : beforeStage f) (o : Output) (b : Block) : (b.brakeStop o).rd f = b.rd f := by
  unfold Block.brakeStop
  split
  · rw [Block.emit_rd, Block.updLv_rd, Block.rd_flag_ne _ _ _ _ (h.ne (by decide)), Block.rd_wr_ne _ _ _ _ (h.ne (by decide)),
      Block.rd_flag_ne _ _ _ _ (h.ne (by decide))]
  · rfl

theorem Block.openSwitch_rd {f : Field} (h : beforeStage f) (p : Nat) (soft : Bool) (b : Block) :
    (b.openSwitch p soft).rd f = b.rd f := by
  have hc : 0x400000 ≤ (Reg.GATE_CH_STAT_GATE_OFF (48 + p)).addr := by simp only [Reg.GATE_CH_STAT_GATE_OFF]; omega
  unfold Block.openSwitch
  dsimp only
  split
  · rw [Block.emit_rd, Block.rd_flag_ne _ _ _ _ (h.ne hc), Block.updPort_rd, Block.rd_setBit_ne _ _ _ _ _ (h.ne (by decide))]
  · rw [Block.rd_flag_ne _ _ _ _ (h.ne hc), Block.updPort_rd, Block.rd_setBit_ne _ _ _ _ _ (h.ne (by decide))]

theorem Block.powerChannels_rd {f : Field} (h : beforeStage f) (b : Block) : b.powerChannels.rd f = b.rd f := by
  have hp (ch : Nat) : 0x400000 ≤ (Reg.GATE_CH_STAT_POWERED ch).addr := by simp only [Reg.GATE_CH_STAT_POWERED]; omega
  have hg (ch : Nat) : 0x400000 ≤ (Reg.GATE_CH_STAT_GATE_OFF ch).addr := by simp only [Reg.GATE_CH_STAT_GATE_OFF]; omega
  have harmed (p : Bool) : (b.flag Reg.PWM_BRK_STAT_ARMED p).rd f = b.rd f := Block.rd_flag_ne _ _ _ _ (h.ne (by decide))
  unfold Block.powerChannels
  refine (Block.eachOf_rd (fun ch _ c => ?_) _).trans ?_
  · dsimp only
    split
    · rfl
    · split
      · rw [Block.openSwitch_rd h, Block.rd_flag_ne _ _ _ _ (h.ne (hg ch)), Block.rd_flag_ne _ _ _ _ (h.ne (hp ch))]
      · rw [Block.rd_flag_ne _ _ _ _ (h.ne (hg ch)), Block.rd_flag_ne _ _ _ _ (h.ne (hp ch))]
  · split
    · exact harmed _
    · rw [Block.brakeStop_rd h, harmed]

theorem Block.powerChannels_still (b : Block) : b.powerChannels.still = b.still := by
  simp only [Block.powerChannels, Block.still_ite, ite_self, implies_true, Block.flag_still, Block.brakeStop_still,
    Block.openSwitch_still, Block.each_still]

theorem Block.ringShow_still (b : Block) : b.ringShow.still = b.still := by
  simp only [Block.ringShow, Block.wr_still]

theorem Block.strk_of_still {b c : Block} (h : c.still = b.still) : c.strk = b.strk := congrArg (fun x => x.1.2.2.1) h

theorem Block.boot_of_still {b c : Block} (h : c.still = b.still) : c.boot = b.boot := congrArg (fun x => x.2.2.2.2.1) h

/-! ### The domains restart (R402, R403) -/

/-- The restart of the domains: what survives over a block at reset, then the numbers of the ring and of the commands, a
    halt that stands, and the first domain's release. -/
theorem Block.restartDomains_shape (l : Level) (next : Nat) (b : Block) : ∃ c d e : Block,
    b.restartDomains l next
      = (((e.flag Reg.SYS_CMD_STAT_RESTARTED true).setBit Reg.RST_STAGE_RELEASED 0 true).wr Reg.RST_STAGE_WAIT 1).powerChannels
    ∧ e = (if d.on Reg.EVT_HALT_HALTED then d.wr Reg.SYS_CONV_STAT_STATE 6 else d)
    ∧ d = ((c.wr Reg.EVT_NEXT_NUM next).ringShow).wr Reg.SYS_SEQ_ACCEPTED_SEQ
        (((c.wr Reg.EVT_NEXT_NUM next).ringShow).rd Reg.SYS_SEQ_LAST_SEQ)
    ∧ c.regs = Bank.keep l b.dropStages.regs ∧ c.strk = StrokeSt.reset ∧ c.jv = JarvasSt.reset ∧ c.boot.due = none
    ∧ c.boot.staged = [] :=
  ⟨_, _, _, rfl, rfl, rfl, rfl, rfl, rfl, rfl, rfl⟩

/-- After the restart of the domains the strokes, the queue and the start-up stand as at reset. -/
theorem Block.restartDomains_parts (l : Level) (next : Nat) (b : Block) :
    (b.restartDomains l next).strk = StrokeSt.reset ∧ (b.restartDomains l next).jv = JarvasSt.reset
    ∧ (b.restartDomains l next).boot.due = none ∧ (b.restartDomains l next).boot.staged = [] := by
  obtain ⟨c, d, e, ht, he, hd, -, hstrk, hjv, hdue, hst⟩ := b.restartDomains_shape l next
  have hs : (b.restartDomains l next).still = c.still := by
    rw [ht, Block.powerChannels_still, Block.wr_still, Block.setBit_still, Block.flag_still, he, Block.still_ite,
      Block.wr_still, ite_self, hd, Block.wr_still, Block.ringShow_still, Block.wr_still]
  have hboot := Block.boot_of_still hs
  exact ⟨(Block.strk_of_still hs).trans hstrk, (Block.jv_of_still hs).trans hjv, by rw [hboot, hdue], by rw [hboot, hst]⟩

/-- The first domain alone is released, the next one waits for its turn, and RESTARTED is set (R59, R404). -/
theorem Block.restartDomains_stage (next : Nat) (b : Block) :
    (b.restartDomains .system next).rd Reg.RST_STAGE_RELEASED = 1 ∧ (b.restartDomains .system next).rd Reg.RST_STAGE_WAIT = 1
    ∧ (b.restartDomains .system next).rd Reg.SYS_CMD_STAT_RESTARTED = 1 := by
  obtain ⟨c, d, e, ht, he, hd, hregs, -⟩ := b.restartDomains_shape .system next
  have hc : c.rd Reg.RST_STAGE_RELEASED = 0 := by
    rw [Block.rd, hregs, Bank.fld_keep (by decide +kernel)]
    rfl
  have hd0 : d.rd Reg.RST_STAGE_RELEASED = 0 := by
    rw [hd, Block.rd_wr_ne _ _ _ _ (by decide), Block.ringShow_rd (by decide) (by decide),
      Block.rd_wr_ne _ _ _ _ (by decide), hc]
  have he0 : e.rd Reg.RST_STAGE_RELEASED = 0 := by
    rw [he]
    split
    · rw [Block.rd_wr_ne _ _ _ _ (by decide), hd0]
    · exact hd0
  have before {f : Field} (h : f.key < 0x400000 * 8) : beforeStage f := h
  rw [ht, Block.powerChannels_rd (before (by decide)), Block.powerChannels_rd (before (by decide)),
    Block.powerChannels_rd (before (by decide))]
  refine ⟨?_, ?_, ?_⟩
  · rw [Block.rd_wr_ne _ _ _ _ (by decide), Block.setBit, Block.rd_wr_same, Block.rd_flag_ne _ _ _ _ (by decide), he0]
    rfl
  · rw [Block.rd_wr_same]
    rfl
  · rw [Block.rd_wr_ne _ _ _ _ (by decide), Block.rd_setBit_ne _ _ _ _ _ (by decide), Block.rd_flag_same _ _ _ (by decide)]
    rfl

/-! ### The cause of a start (R397, R420) -/

/-- The fields that a start sets anew: the causes, and what the last start found. -/
def causeCleared : List Field :=
  causeFields ++ [Reg.RST_CAUSE_PLINTH, Reg.RST_CAUSE_FALLBACK, Reg.RST_CAUSE_OPT_FALLBACK, Reg.RST_CAUSE_CFG_DEFAULT]

theorem causeCleared_pairwise : causeCleared.Pairwise fun f g => f.key ≠ g.key := by decide

theorem causeFields_ne {j k : Nat} (hj : j < 12) (hk : k < 12) (h : j ≠ k) :
    (causeFields.getD j Reg.RST_CAUSE_POR).key ≠ (causeFields.getD k Reg.RST_CAUSE_POR).key := by
  have : ∀ j < 12, ∀ k < 12, j ≠ k →
    (causeFields.getD j Reg.RST_CAUSE_POR).key ≠ (causeFields.getD k Reg.RST_CAUSE_POR).key := by decide
  exact this j hj k hk h

theorem causeFields_spec {k : Nat} (hk : k < 12) : causeFields.getD k Reg.RST_CAUSE_POR ∈ causeCleared
    ∧ (causeFields.getD k Reg.RST_CAUSE_POR).width = 1
    ∧ (causeFields.getD k Reg.RST_CAUSE_POR).key ≠ Reg.RST_COUNT_STARTS.key := by
  have : ∀ k < 12, causeFields.getD k Reg.RST_CAUSE_POR ∈ causeCleared
    ∧ (causeFields.getD k Reg.RST_CAUSE_POR).width = 1
    ∧ (causeFields.getD k Reg.RST_CAUSE_POR).key ≠ Reg.RST_COUNT_STARTS.key := by decide
  exact this k hk

theorem Block.recordCause_still (cause : Nat) (b : Block) : (b.recordCause cause).still = b.still := by
  simp only [Block.recordCause, implies_true, Block.flag_still, Block.count_still, Block.eachOf_still]

/-- The cause given reads 1, every other 0. -/
theorem Block.recordCause_on {cause k : Nat} (hc : cause < 12) (hk : k < 12) (b : Block) :
    (b.recordCause cause).on (causeFields.getD k Reg.RST_CAUSE_POR) = decide (k = cause) := by
  obtain ⟨hm, hw, hn⟩ := causeFields_spec hk
  unfold Block.on Block.recordCause
  rw [Block.rd_count_ne _ _ _ _ hn]
  by_cases h : k = cause
  · subst h
    rw [Block.rd_flag_same _ _ _ (by omega)]
    simp
  · obtain ⟨c, -, he⟩ := Block.eachOf_rd_self (op := fun f b => b.flag f false) causeCleared_pairwise
      (fun f g c hg => Block.rd_flag_ne f g false c hg) hm b
    rw [Block.rd_flag_ne _ _ _ _ (causeFields_ne hk hc h)]
    rw [causeCleared] at he
    rw [he, Block.rd_flag_same _ _ _ (by omega)]
    simp [h]

/-- A field that no start sets anew reads as before. -/
theorem Block.recordCause_rd {f : Field} (hf : ∀ g ∈ Reg.RST_COUNT_STARTS :: causeCleared, f.key ≠ g.key) {cause : Nat}
    (hc : cause < 12) (b : Block) : (b.recordCause cause).rd f = b.rd f := by
  obtain ⟨hm, -, -⟩ := causeFields_spec hc
  unfold Block.recordCause
  rw [Block.rd_count_ne _ _ _ _ (hf _ List.mem_cons_self), Block.rd_flag_ne _ _ _ _ (hf _ (List.mem_cons_of_mem _ hm))]
  exact Block.eachOf_rd (fun g hg c => Block.rd_flag_ne g f false c (hf g (List.mem_cons_of_mem _ hg))) b

/-- A system reset restarts the domains, whatever was done to prepare it, and records its cause. -/
theorem Block.systemReset_shape (cause : Nat) (b : Block) : ∃ (next : Nat) (x : Block),
    b.systemReset cause = (x.restartDomains .system next).recordCause cause := ⟨_, _, rfl⟩

theorem Block.systemReset_parts (cause : Nat) (b : Block) : (b.systemReset cause).boot.due = none
    ∧ (b.systemReset cause).boot.staged = [] ∧ (b.systemReset cause).jv.queue = []
    ∧ (b.systemReset cause).strk = StrokeSt.reset := by
  obtain ⟨next, x, ht⟩ := b.systemReset_shape cause
  obtain ⟨hstrk, hjv, hdue, hst⟩ := x.restartDomains_parts .system next
  have hs := Block.recordCause_still cause (x.restartDomains .system next)
  rw [ht, Block.boot_of_still hs, Block.jv_of_still hs, Block.strk_of_still hs, hjv]
  exact ⟨hdue, hst, rfl, hstrk⟩

/-- The fields of the start after a system reset: its cause, the first release, and RESTARTED. -/
theorem Block.systemReset_fields {cause : Nat} (hc : cause < 12) (b : Block) :
    (∀ k < 12, (b.systemReset cause).on (causeFields.getD k Reg.RST_CAUSE_POR) = decide (k = cause))
    ∧ (b.systemReset cause).rd Reg.RST_STAGE_RELEASED = 1 ∧ (b.systemReset cause).rd Reg.RST_STAGE_WAIT = 1
    ∧ (b.systemReset cause).rd Reg.SYS_CMD_STAT_RESTARTED = 1 := by
  obtain ⟨next, x, ht⟩ := b.systemReset_shape cause
  rw [ht, Block.recordCause_rd (by decide) hc, Block.recordCause_rd (by decide) hc, Block.recordCause_rd (by decide) hc]
  exact ⟨fun k hk => Block.recordCause_on hc hk _, x.restartDomains_stage next⟩

theorem Block.images_eq {b c : Block} (h : c.quiet.2 = b.quiet.2) : c.images = b.images := congrArg Prod.snd h

/-! ### The statements -/

/-- Settles O3: the block at reset is one fixed state, in which each of the values is looked up. -/
theorem resetState : Obligations.ResetState := by
  unfold Obligations.ResetState
  decide +kernel

/-- Settles O56: what survives is a filter of the register bank, and the rest of the block is the block at reset. -/
theorem resetEffects : Obligations.ResetEffects := by
  unfold Obligations.ResetEffects
  intro s
  refine ⟨⟨{ s with blk := s.blk.powerOnReset }, rfl, rfl, ?powerOn⟩, ?system, ?none⟩
  case powerOn =>
    obtain ⟨hring, hstrk, hjv, htb, hcells, hst⟩ := s.blk.powerOnReset_parts
    refine ⟨Block.images_eq s.blk.powerOnReset_kept, hring, hstrk, hjv, htb, hcells, hst, fun f hf hk => ⟨?_, ?_⟩⟩
    · exact fun hl hs => Block.powerOnReset_rd_table hf hk hl hs
    · exact fun hl hm => Block.powerOnReset_rd_ledger hf hk hl hm
  case system =>
    intro d hd hc
    obtain ⟨hdue, hst, hq, hstrk⟩ := s.blk.systemReset_parts d.cause
    obtain ⟨hon, hrel, hwait, hre⟩ := s.blk.systemReset_fields hc
    have ht : s.blk.resetTakes = s.blk.systemReset d.cause := by simp only [Block.resetTakes, hd]
    refine ⟨{ s with blk := s.blk.resetTakes }, rfl, rfl, ?_⟩
    rw [ht]
    refine ⟨Block.images_eq (s.blk.systemReset_kept d.cause), hdue, hst, hq, hstrk, ?_, fun k hk hne => ?_, hrel, hwait, ?_⟩
    · rw [hon _ hc, decide_eq_true rfl]
    · rw [hon k hk, decide_eq_false hne]
    · rw [Block.on, hre]
      rfl
  case none =>
    intro hd
    have ht : s.blk.resetTakes = s.blk := by simp only [Block.resetTakes, hd]
    refine ⟨{ s with blk := s.blk.resetTakes }, rfl, rfl, ?_⟩
    rw [ht]
    exact ⟨RegsBut.refl _ _, Keeps.refl _ _⟩

end Sys2Proof.Machine
end

section
/-! PROOFS. Station links, a waiting copy that is not taken, and the transceivers in the cages (R24, R423, R449). -/

namespace Sys2Proof.Machine

/-- A command that changes the block alone completes. -/
theorem does_onBlk {c : Instr} {s : State} {f : Block → Block} {post : Block → Prop} (hx : exec c s = s.onBlk f)
    (hp : post (f s.blk)) : Does c s post := ⟨_, hx, rfl, hp⟩

/-! ### Frames of single components -/

theorem Block.updDma_keeps (f : DmaSt → DmaSt) (b : Block) : Keeps [.dma] b (b.updDma f) := by
  intro p hp
  cases p
  case dma => exact absurd (List.mem_singleton_self _) hp
  all_goals rfl

theorem Block.updPow_keeps (f : PowerSt → PowerSt) (b : Block) : Keeps [.pow] b (b.updPow f) := by
  intro p hp
  cases p
  case pow => exact absurd (List.mem_singleton_self _) hp
  all_goals rfl

theorem Block.chanBusy_keeps (k : Nat) (on : Bool) (b : Block) : Keeps [.regs] b (b.chanBusy k on) :=
  (b.wr_keeps _ _).trans (Block.wr_keeps _ _ _)

theorem Block.on_chanBusy_same (k : Nat) (on : Bool) (b : Block) : (b.chanBusy k on).on (Reg.DMA_CH_STAT_BUSY k) = on := by
  have hne : (Reg.DMA_CH_STAT_BUSY k).key ≠ (Reg.DMA_CH_STAT_STOPPED k).key := by
    simp only [Field.key, Reg.DMA_CH_STAT_BUSY, Reg.DMA_CH_STAT_STOPPED]
    omega
  rw [Block.chanBusy, Block.on, Block.rd_flag_ne _ _ _ _ hne]
  exact Block.on_flag_same _ on b Nat.one_pos

/-! ### Streams -/

theorem SMap.find?_insert_same {α : Type} (i : Nat) (v : α) (m : SMap α) :
    (SMap.insert i v (SMap.erase i m)).find? (fun e => e.1 == i) = some (i, v) := by
  induction m with
  | nil => simp [SMap.erase, SMap.insert]
  | cons e r ih =>
    unfold SMap.erase
    split
    · exact ih
    · next h =>
      unfold SMap.insert
      split
      · simp
      · simpa [h] using ih

theorem Block.streamOf_setStream_same (k : Nat) (x : StreamSt) (b : Block) : (b.setStream k x).streamOf k = some x := by
  rw [Block.streamOf, Block.setStream, Block.updDma_dma, SMap.find?_insert_same, Option.map_some]

theorem Block.streamOf_congr {b c : Block} (h : c.dma.streams = b.dma.streams) : c.streamOf = b.streamOf := by
  funext k
  rw [Block.streamOf, Block.streamOf, h]

theorem Block.waitsFor_congr {b c : Block} (h : c.dma.streams = b.dma.streams) : c.waitsFor = b.waitsFor := by
  funext p
  simp only [Block.waitsFor, Block.busyStreams, Block.streamOf_congr h]

/-- Port `p` has yet to take its copy of the packet in progress. -/
def StreamSt.waitsOn (p : Nat) (x : StreamSt) : Bool := if p = 0 then x.toA else x.toB

/-- Port `p` has no copy to take any more. -/
def StreamSt.taken (p : Nat) (x : StreamSt) : StreamSt := if p = 0 then { x with toA := false } else { x with toB := false }

/-- A stream after its packet, which counts as sent where a copy has left (R77, log entry 145). -/
def StreamSt.ended (x : StreamSt) : StreamSt :=
  let n := if x.placed then 1 else 0
  { x with busy := false, packet := none, placed := false, seq := (x.seq + n) % 2 ^ 32, sent := (x.sent + n) % 2 ^ 32 }

/-- The stream that waits for a port has a packet built, of which the port has yet to take its copy. -/
theorem Block.waitsFor_stream {b : Block} {p k : Nat} {x : StreamSt} (hw : b.waitsFor p = some k)
    (hx : b.streamOf k = some x) : (∃ bs, x.packet = some bs) ∧ x.waitsOn p = true := by
  have h := List.find?_some hw
  simp only [hx, Bool.and_eq_true] at h
  exact ⟨Option.isSome_iff_exists.mp h.1, h.2⟩

/-- A copy whose port is down is not taken: it marks GAP, and nothing is sent (R423, log entry 145). -/
theorem Block.copyTo_down {b : Block} {p k : Nat} {x : StreamSt} (hx : b.streamOf k = some x)
    (hbs : ∃ bs, x.packet = some bs) (hto : x.waitsOn p = true) (hl : b.dma.link p = false) :
    b.copyTo p k = b.setStream k { x.taken p with gap := true } := by
  obtain ⟨bs, hbs⟩ := hbs
  unfold StreamSt.waitsOn at hto
  simp [Block.copyTo, hx, hbs, hto, hl, StreamSt.taken]

theorem Block.streamSettle_open {b : Block} {k : Nat} {x : StreamSt} (hx : b.streamOf k = some x)
    (hc : x.closing = false) : b.streamSettle k = b := by
  simp [Block.streamSettle, hx, hc]

/-- The channel of a packet that no port has yet to take completes. -/
theorem Block.channelDone_ended {b : Block} {k : Nat} {x : StreamSt} (hx : b.streamOf k = some x)
    (hbs : ∃ bs, x.packet = some bs) (hA : x.toA = false) (hB : x.toB = false) (hc : x.closing = false) :
    b.channelDone k = ((b.setStream k x.ended).chanBusy k false).wr (Reg.DMA_CH_CNT_COUNT k)
      (b.rd (Reg.DMA_CH_CNT_COUNT k) + if x.placed then 1 else 0) := by
  obtain ⟨bs, hbs⟩ := hbs
  have hend : (((b.setStream k x.ended).chanBusy k false).wr (Reg.DMA_CH_CNT_COUNT k)
      (b.rd (Reg.DMA_CH_CNT_COUNT k) + if x.placed then 1 else 0)).streamOf k = some x.ended :=
    Block.streamOf_setStream_same k x.ended b
  have hgo : (x.packet.isNone || x.toA || x.toB) = false := by simp [hbs, hA, hB]
  rw [← Block.streamSettle_open hend hc]
  simp only [Block.channelDone, hx, hgo, Bool.false_eq_true, if_false]
  rfl

/-! ### The links -/

/-- The link of a station port set. -/
def DmaSt.setLink (p : Stn) (up : Bool) (d : DmaSt) : DmaSt :=
  match p with
  | .a => { d with linkA := up }
  | .b => { d with linkB := up }

theorem DmaSt.link_setLink_same (p : Stn) (up : Bool) (d : DmaSt) : (d.setLink p up).link (stnNum p) = up := by
  cases p <;> rfl

theorem DmaSt.link_setLink_other (p : Stn) (up : Bool) (d : DmaSt) :
    (d.setLink p up).link (1 - stnNum p) = d.link (1 - stnNum p) := by
  cases p <;> rfl

theorem DmaSt.setLink_streams (p : Stn) (up : Bool) (d : DmaSt) : (d.setLink p up).streams = d.streams := by
  cases p <;> rfl

/-- While no PTP domain is enabled, a station link is a fact of the streams' record alone (R320). -/
theorem Block.stationLink_no_domain {b : Block} (h : ∀ x : Fin 2, b.on (Reg.TIME_DOM_CFG_EN x) = false) (p : Stn)
    (up : Bool) : b.stationLink p up = b.updDma (DmaSt.setLink p up) := by
  have hoff : ∀ x ∈ [0, 1], ∀ (f : DmaSt → DmaSt) (q : Bool),
      ¬ ((b.updDma f).on (Reg.TIME_DOM_CFG_EN x) && q) = true := by
    intro x hx f q
    have hx2 : x < 2 := by
      have := List.mem_pair.mp hx
      omega
    rw [show (b.updDma f).on (Reg.TIME_DOM_CFG_EN x) = false from h ⟨x, hx2⟩, Bool.false_and]
    exact Bool.false_ne_true
  unfold Block.stationLink
  dsimp only
  rw [List.filter_eq_nil_iff.mpr fun x hx => hoff x hx _ _]
  cases p <;> rfl

theorem Block.copyDropped_none {b : Block} {p : Nat} (h : b.waitsFor p = none) : b.copyDropped p = b := by
  simp only [Block.copyDropped, h]

/-- The last copy to be taken: its packet waits on no port any more. -/
theorem StreamSt.taken_last {p : Nat} {x : StreamSt} (h : (if p = 0 then x.toB else x.toA) = false) :
    x.taken p = { x with toA := false, toB := false } := by
  cases x
  unfold StreamSt.taken
  split <;> simp_all

/-- The last copy of a packet, on a port whose link is down, is not taken, and its packet ends (R423, log entry 145). -/
theorem Block.copyDropped_last {b : Block} {p k : Nat} {x : StreamSt} (hw : b.waitsFor p = some k)
    (hx : b.streamOf k = some x) (hl : b.dma.link p = false) (hc : x.closing = false)
    (hlast : (if p = 0 then x.toB else x.toA) = false) :
    let t := b.copyDropped p
    t.dma.link p = false ∧ t.out = b.out ∧ t.streamOf k = some { x with gap := true, toA := false, toB := false }.ended
      ∧ t.on (Reg.DMA_CH_STAT_BUSY k) = false ∧ Keeps [.regs, .dma] b t := by
  intro t
  let y : StreamSt := { x with gap := true, toA := false, toB := false }
  obtain ⟨hbs, hto⟩ := Block.waitsFor_stream hw hx
  have hcopy : b.copyTo p k = b.setStream k y := by
    rw [Block.copyTo_down hx hbs hto hl, StreamSt.taken_last hlast]
  have ht : t = (((b.setStream k y).setStream k y.ended).chanBusy k false).wr (Reg.DMA_CH_CNT_COUNT k)
      (b.rd (Reg.DMA_CH_CNT_COUNT k) + if x.placed then 1 else 0) := by
    show b.copyDropped p = _
    simp only [Block.copyDropped, hw, hl, Bool.false_eq_true, if_false, hcopy]
    exact Block.channelDone_ended (Block.streamOf_setStream_same k y b) hbs rfl rfl hc
  have hne : (Reg.DMA_CH_STAT_BUSY k).key ≠ (Reg.DMA_CH_CNT_COUNT k).key := by
    simp only [Field.key, Reg.DMA_CH_STAT_BUSY, Reg.DMA_CH_CNT_COUNT]
    omega
  rw [ht]
  refine ⟨hl, rfl, Block.streamOf_setStream_same k y.ended _, ?_, ?_⟩
  · rw [Block.on, Block.rd_wr_ne _ _ _ _ hne]
    exact Block.on_chanBusy_same k false _
  · have hstreams : Keeps [.dma] b ((b.setStream k y).setStream k y.ended) :=
      (b.updDma_keeps _).trans (Block.updDma_keeps _ _)
    exact (hstreams.mono (by decide)).trans (((Block.chanBusy_keeps k false _).trans (Block.wr_keeps _ _ _)).mono (by decide))

/-! ### The cages -/

theorem SMap.mem_insert_erase {α : Type} {i : Nat} {v w : α} {m : SMap α} :
    (i, w) ∈ SMap.insert i v (SMap.erase i m) ↔ w = v := by
  rw [SMap.insert_mem, SMap.erase_mem]
  simp

theorem Block.cageDown_cages (c : Cage) (b : Block) : (b.cageDown c).pow.cages = b.pow.cages := by
  have link (p : Stn) : (b.stationLinkChange p false).pow.cages = b.pow.cages :=
    congrArg (fun q => q.2.1) (Block.stationLinkChange_quiet p false b)
  cases c
  case pair => rfl
  case stnA => exact link .a
  case stnB => exact link .b

/-- A cage whose transceiver is removed is empty. -/
theorem Block.xcvrRemove_empty (c : Cage) (b : Block) (ty : XcvrType) : (cageNum c, ty) ∉ (b.xcvrRemove c).pow.cages := by
  rw [Block.xcvrRemove, Block.cageDown_cages, Block.updPow_pow, SMap.erase_mem]
  exact fun h => h.2 rfl

theorem Block.xcvrInsert_accepted {c : Cage} {ty : XcvrType} {mW : Nat} (ha : accepts c ty = true) (hm : mW ≤ allowance c)
    (b : Block) : b.xcvrInsert c ty mW
      = b.updPow fun p => { p with cages := SMap.insert (cageNum c) ty (SMap.erase (cageNum c) p.cages) } := by
  simp [Block.xcvrInsert, ha, hm]

theorem Block.xcvrInsert_refused {c : Cage} {ty : XcvrType} {mW : Nat} (h : ¬ (accepts c ty = true ∧ mW ≤ allowance c))
    (b : Block) : b.xcvrInsert c ty mW = b.xcvrRemove c := by
  rw [Block.xcvrInsert, if_neg (by simpa using h)]

/-- Settles O25: a link alone changes the streams' record, the last waiting copy ends its packet, and a cage's entry is
    replaced or erased. -/
theorem linksAndTransceivers : Obligations.LinksAndTransceivers := by
  unfold Obligations.LinksAndTransceivers
  refine ⟨?link, ?copy, fun s c ty mW => ⟨?accepted, ?refused, ?removed⟩⟩
  case link =>
    intro s port up hdom hw
    let d := s.blk.updDma (DmaSt.setLink port (up && s.blk.lineRate (stnNum port) != 0))
    have hwd : d.waitsFor (stnNum port) = none := by
      rw [Block.waitsFor_congr (b := s.blk) (DmaSt.setLink_streams _ _ _), hw]
    have he : s.blk.stationLinkChange port up = d := by
      rw [Block.stationLinkChange, Block.stationLink_no_domain hdom, Block.copyDropped_none hwd]
    refine does_onBlk (f := fun b => b.stationLinkChange port up) rfl ?_
    rw [he]
    exact ⟨DmaSt.link_setLink_same _ _ _, DmaSt.link_setLink_other _ _ _, fun _ _ => rfl, Block.updDma_keeps _ _⟩
  case copy =>
    intro s port k x hdom hw hx hc hlast n
    let d := s.blk.updDma (DmaSt.setLink port false)
    have hst : d.dma.streams = s.blk.dma.streams := DmaSt.setLink_streams _ _ _
    have he : s.blk.stationLinkChange port false = d.copyDropped (stnNum port) := by
      rw [Block.stationLinkChange, Block.stationLink_no_domain hdom, Bool.false_and]
    obtain ⟨hlink, hout, hstream, hbusy, hkeeps⟩ := Block.copyDropped_last (b := d) (Block.waitsFor_congr hst ▸ hw)
      (Block.streamOf_congr hst ▸ hx) (DmaSt.link_setLink_same _ _ _) hc hlast
    refine does_onBlk (f := fun b => b.stationLinkChange port false) rfl ?_
    rw [he]
    exact ⟨hlink, hout, hstream, hbusy, ((s.blk.updDma_keeps _).mono (by decide)).trans hkeeps⟩
  case accepted =>
    intro ha hm
    refine does_onBlk (f := fun b => b.xcvrInsert c ty mW) rfl ?_
    rw [Block.xcvrInsert_accepted ha hm]
    exact ⟨SMap.mem_insert_erase.mpr rfl, fun _ => SMap.mem_insert_erase.mp, RegsBut.refl _ _, Block.updPow_keeps _ _⟩
  case refused =>
    intro h
    refine does_onBlk (f := fun b => b.xcvrInsert c ty mW) rfl ?_
    rw [Block.xcvrInsert_refused h]
    exact Block.xcvrRemove_empty c s.blk
  case removed => exact does_onBlk (f := fun b => b.xcvrRemove c) rfl (Block.xcvrRemove_empty c s.blk)

end Sys2Proof.Machine
end

section
/-! PROOFS. Writes of the maquette (R42 to R45): the pending values of the CR fields of a word, and the dirty words. -/

namespace Sys2Proof.Machine

/-! ### Pending values set in turn -/

theorem Block.maq_updCst (g : CastSt → CastSt) (f : Field) (b : Block) : (b.updCst g).maq f = Bank.fld (g b.cst).maq f := rfl

/-- Fields of a bank set one after the other. -/
def Bank.setAll (val : Field → Nat) (fs : List Field) (m : Bank) : Bank := fs.foldl (fun m f => Bank.setFld f (val f) m) m

theorem Bank.fld_setAll_ne {val : Field → Nat} {fs : List Field} {g : Field} (h : g.key ∉ fs.map Field.key) (m : Bank) :
    Bank.fld (Bank.setAll val fs m) g = Bank.fld m g := by
  unfold Bank.setAll
  induction fs generalizing m with
  | nil => rfl
  | cons f r ih =>
    rw [List.map_cons, List.mem_cons, not_or] at h
    exact (ih h.2 _).trans (Bank.fld_setFld_ne f g _ m h.1)

/-- Of fields that stand apart each reads as what it was set to, cut to its width. -/
theorem Bank.fld_setAll_mem {val : Field → Nat} {fs : List Field} (hp : fs.Pairwise fun f g => f.key ≠ g.key) {f : Field}
    (hf : f ∈ fs) (m : Bank) : Bank.fld (Bank.setAll val fs m) f = val f % 2 ^ f.width := by
  induction fs generalizing m with
  | nil => cases hf
  | cons g r ih =>
    obtain ⟨hg, hr⟩ := List.pairwise_cons.mp hp
    rcases List.mem_cons.mp hf with rfl | hf
    · have hne : f.key ∉ r.map Field.key := fun hk => by
        obtain ⟨x, hx, he⟩ := List.mem_map.mp hk
        exact hg x hx he.symm
      exact (Bank.fld_setAll_ne hne (Bank.setFld f (val f) m)).trans (Bank.fld_setFld_same f _ m)
    · exact ih hr hf _

/-! ### The fields a write names (R42) -/

/-- The fields that a write to an address acts on belong to one register. -/
theorem writeFields_sublist {a : Nat} {fs : List Field} (h : writeFields a = some fs) :
    ∃ x gs, fieldsAt x = some gs ∧ fs.Sublist gs := by
  have own {x : Nat} {gs : List Field} (hx : ownFields x = some gs) : fieldsAt x = some gs := by
    unfold ownFields at hx
    split at hx
    · exact hx
    · cases hx
  unfold writeFields at h
  split at h
  · cases h
  · split at h
    · split at h
      · next gs hgs =>
        split at h
        · exact ⟨_, gs, own hgs, Option.some.inj h ▸ List.filter_sublist⟩
        · cases h
      · cases h
    · exact ⟨a, fs, own h, List.Sublist.refl _⟩

theorem writeFields_pairwise {a : Nat} {fs : List Field} (h : writeFields a = some fs) :
    fs.Pairwise fun f g => f.key ≠ g.key := by
  obtain ⟨x, gs, hgs, hsub⟩ := writeFields_sublist h
  exact (fieldsAt_pairwise hgs).sublist hsub

theorem writeFields_addr {a : Nat} {fs : List Field} (h : writeFields a = some fs) {f g : Field} (hf : f ∈ fs) (hg : g ∈ fs) :
    f.addr = g.addr := by
  obtain ⟨x, gs, hgs, hsub⟩ := writeFields_sublist h
  rw [fieldsAt_addr hgs (hsub.subset hf), fieldsAt_addr hgs (hsub.subset hg)]

theorem writesMaq_eq_true {a : Nat} {fs : List Field} (h : writeFields a = some fs) (hc : fs.any Field.isCr = true) :
    writesMaq a = true := by
  simp [writesMaq, h, hc]

/-! ### The write of a word's CR fields (R43) -/

theorem Block.dirty_keeps (a : Nat) (b : Block) : Keeps [.regs, .cst] b (b.dirty a) := by
  intro p hp
  cases p
  case regs => exact absurd (by decide) hp
  case cst => exact absurd (by decide) hp
  all_goals rfl

theorem Block.dirty_rd {g : Field} (h : g.key ≠ Reg.SYS_MAQ_STAT_DIRTY_WORDS.key) (a : Nat) (b : Block) :
    (b.dirty a).rd g = b.rd g := Block.rd_wr_ne _ _ _ _ h

theorem Block.dirty_maq (a : Nat) (g : Field) (b : Block) : (b.dirty a).maq g = b.maq g := rfl

theorem Block.mem_dirty (a : Nat) (b : Block) : a ∈ (b.dirty a).cst.dirty :=
  List.mem_map.mpr ⟨(a, ()), (SMap.insert_mem a () _ _).mpr (.inl rfl), rfl⟩

/-- A word with CR fields: its pending values are set, and its address is a dirty word. -/
theorem Block.writeMaq_eq {a : Nat} {fs : List Field} (h : writeFields a = some fs) (hc : fs.any Field.isCr = true) :
    ∃ x, (∀ f ∈ fs, f.addr = x) ∧ ∀ v b, Block.writeMaq fs v b
      = (b.updCst fun c => { c with maq := Bank.setAll (fun f => v / 2 ^ f.lo) (fs.filter Field.isCr) c.maq }).dirty x := by
  obtain ⟨f, r, hfr⟩ : ∃ f r, fs.filter Field.isCr = f :: r := by
    obtain ⟨f, hf, hcr⟩ := List.any_eq_true.mp hc
    exact List.exists_cons_of_ne_nil (List.ne_nil_of_mem (List.mem_filter.mpr ⟨hf, hcr⟩))
  have hf : f ∈ fs := (List.mem_filter.mp (hfr ▸ List.mem_cons_self)).1
  refine ⟨f.addr, fun g hg => writeFields_addr h hg hf, fun v b => ?_⟩
  unfold Block.writeMaq
  rw [hfr]
  rfl

/-- Of `b` the maquette took the word `v` in `t` (R43): each CR field of `fs` pends as written and its word is dirty, and
    every other pending value is as before. -/
def MaqTakesWord (fs : List Field) (v : Nat) (b t : Block) : Prop :=
  (∀ f ∈ fs, f.isCr = true → t.maq f = v / 2 ^ f.lo % 2 ^ f.width ∧ f.addr ∈ t.cst.dirty)
  ∧ ∀ g : Field, g.key ∉ (fs.filter Field.isCr).map Field.key → t.maq g = b.maq g

/-- Only the cast record matters. -/
theorem MaqTakesWord.congr {fs : List Field} {v : Nat} {b t t' : Block} (h : MaqTakesWord fs v b t) (ht : t'.cst = t.cst) :
    MaqTakesWord fs v b t' := by
  unfold MaqTakesWord Block.maq at h ⊢
  rwa [ht]

theorem Block.writeMaq_takesWord {a : Nat} {fs : List Field} (h : writeFields a = some fs) (hc : fs.any Field.isCr = true)
    (v : Nat) (b : Block) : MaqTakesWord fs v b (b.writeMaq fs v) := by
  obtain ⟨x, hx, he⟩ := Block.writeMaq_eq h hc
  have hp : (fs.filter Field.isCr).Pairwise fun f g => f.key ≠ g.key := (writeFields_pairwise h).sublist List.filter_sublist
  rw [he]
  refine ⟨fun f hf hcr => ⟨?_, hx f hf ▸ Block.mem_dirty _ _⟩, fun g hg => ?_⟩
  · exact Bank.fld_setAll_mem hp (List.mem_filter.mpr ⟨hf, hcr⟩) _
  · exact Bank.fld_setAll_ne hg _

theorem Block.writeMaq_regsBut {a : Nat} {fs : List Field} (h : writeFields a = some fs) (hc : fs.any Field.isCr = true)
    (v : Nat) (b : Block) : RegsBut [Reg.SYS_MAQ_STAT_DIRTY_WORDS] b (b.writeMaq fs v) := by
  obtain ⟨x, -, he⟩ := Block.writeMaq_eq h hc
  intro g hg
  rw [he]
  exact Block.dirty_rd (by simpa using hg) x _

theorem Block.updCst_keeps (f : CastSt → CastSt) (b : Block) : Keeps [.cst] b (b.updCst f) := by
  intro p hp
  cases p
  case cst => exact absurd (List.mem_singleton_self _) hp
  all_goals rfl

theorem Block.writeMaq_keeps {a : Nat} {fs : List Field} (h : writeFields a = some fs) (hc : fs.any Field.isCr = true)
    (v : Nat) (b : Block) : Keeps [.regs, .cst] b (b.writeMaq fs v) := by
  obtain ⟨x, -, he⟩ := Block.writeMaq_eq h hc
  rw [he]
  exact ((b.updCst_keeps _).mono (by decide)).trans (Block.dirty_keeps _ _)

/-! ### The statement -/

theorem Block.writeLive_rd_written {a : Nat} {fs : List Field} (h : writeFields a = some fs) {f : Field} (hf : f ∈ fs)
    (hrw : f.acc = .rw) (v : Nat) (b : Block) : (b.writeLive fs v).rd f = v / 2 ^ f.lo % 2 ^ f.width := by
  obtain ⟨c, -, he⟩ := Block.eachOf_rd_self (writeFields_pairwise h) (fun f g c => writeField_rd_ne v f g c) hf b
  rw [Block.writeLive_eq, he, writeField_rw hrw, Block.rd_wr_same]

/-- While a cast is armed a write of the maquette is refused (R44). -/
theorem Block.writeCommand_locked {b : Block} {a v : Nat} {p : List Byte} (ha : b.cst.armed.isSome = true)
    (hm : writesMaq a = true) : b.writeCommand [(a, v)] p = (b, .done stLocked 0 []) := by
  have hw : writeFields a ≠ none := fun h => by simp [writesMaq, h] at hm
  simp [Block.writeCommand, hw, ha, hm]

theorem exec_of_mem_maquetteWrites {c : Instr} {rq : Req} {a v : Word}
    (hc : c ∈ [Instr.maquetteWrite rq a v, .regWrite rq a v, .regFieldWrite rq a v]) (s : State) :
    exec c s = s.onBlk (·.serveWrite rq a.toNat v.toNat) := by
  refine exec_of_mem_writes ?_ s
  simp only [List.mem_cons, List.not_mem_nil, or_false] at hc ⊢
  tauto

/-- Settles O16: the write sets the pending values of the word's CR fields, then its live fields; with a cast armed it is
    refused before. -/
theorem maquetteWrites : Obligations.MaquetteWrites := by
  unfold Obligations.MaquetteWrites
  refine ⟨?written, ?locked⟩
  case written =>
    intro s rq a v fs ht hf hany hend hm hd ha harm hres c hc
    let b1 := s.blk.writeMaq fs v.toNat
    let b2 := b1.writeLive fs v.toNat
    have hw : s.blk.writeOne a.toNat v.toNat fs = b2 := by simp [Block.writeOne, hm, ha, b1, b2]
    have hk : Keeps [.regs, .cst] s.blk b2 :=
      (Block.writeMaq_keeps hf hany _ _).trans ((Block.writeLive_keeps fs _ b1).mono (by decide))
    have hcst : b2.cst = b1.cst := Block.writeLive_keeps fs v.toNat b1 .cst (by decide)
    have hregs : RegsBut (Reg.SYS_MAQ_STAT_DIRTY_WORDS :: liveWritten fs) s.blk b2 :=
      (Block.writeMaq_regsBut hf hany v.toNat s.blk).trans_append (Block.writeLive_regsBut fs v.toNat b1)
    obtain ⟨hcr, hother⟩ := (Block.writeMaq_takesWord hf hany v.toNat s.blk).congr (t' := b2.finish stOk 0 (be 4 a.toNat))
      (by rw [Block.finish_cst, hcst])
    have hcmd : s.blk.writeCommand [(a.toNat, v.toNat)] (be 4 a.toNat) = (b2, ok (be 4 a.toNat)) := by
      rw [Block.writeCommand_one hf (by simp [harm]) hd, hw]
    refine does_serve (exec_of_mem_maquetteWrites hc s) ht (by decide) rfl (by simp [hres]) hcmd
      (congrArg JarvasSt.queue (hk.jv (by decide))) ?_
    refine ⟨hcr, fun f hm hrw => ?_, hother, ?_, (hk.mono (by decide)).finish (by decide)⟩
    · rw [Block.finish_rd (hend f hm)]
      exact Block.writeLive_rd_written hf hm hrw v.toNat b1
    · intro g hg
      simp only [List.map_append, List.map_cons, List.mem_append, List.mem_cons, not_or] at hg
      obtain ⟨hlive, hdirty, hends⟩ := hg
      rw [Block.finish_rd hends]
      exact hregs g (by rw [List.map_cons, List.mem_cons, not_or]; exact ⟨hdirty, hlive⟩)
  case locked =>
    intro s rq a v ht hmaq harm hres c hc
    exact does_serve (exec_of_mem_maquetteWrites hc s) ht (by decide) rfl (by simp [hres])
      (Block.writeCommand_locked harm hmaq) rfl (Block.finish_only _ _ _ _)

end Sys2Proof.Machine
end

section
/-! PROOFS. Casts (R44 to R50): arming, re-targeting, disarming and discarding, and the end of the copy after a cast. -/

namespace Sys2Proof.Machine

/-! ### Frames -/

theorem RegsBut.mono {fs gs : List Field} {a b : Block} (h : RegsBut fs a b) (hs : fs.map Field.key ⊆ gs.map Field.key) :
    RegsBut gs a b := fun g hg => h g fun hm => hg (hs hm)

theorem RegsBut.of_regs {b c : Block} (h : c.regs = b.regs) : RegsBut [] b c := fun g _ => congrArg (Bank.fld · g) h

theorem Block.wr_regsBut (f : Field) (v : Nat) (b : Block) : RegsBut [f] b (b.wr f v) :=
  fun g hg => Block.rd_wr_ne f g v b (by simpa using hg)

theorem Block.wr64_regsBut (lo hi : Field) (v : Nat) (b : Block) : RegsBut [lo, hi] b (b.wr64 lo hi v) :=
  (b.wr_regsBut lo _).trans_append (Block.wr_regsBut hi _ _)

theorem Block.flag_regsBut (f : Field) (p : Bool) (b : Block) : RegsBut [f] b (b.flag f p) := b.wr_regsBut f _

theorem Block.wr64_keeps (lo hi : Field) (v : Nat) (b : Block) : Keeps [.regs] b (b.wr64 lo hi v) :=
  (b.wr_keeps lo _).trans (Block.wr_keeps hi _ _)

theorem Block.waitFor_keeps (w : Wait) (b : Block) : Keeps [.jv] b (b.waitFor w) := by
  intro p hp
  cases p
  case jv => exact absurd (List.mem_singleton_self _) hp
  all_goals rfl

/-- Time that passes changes the time base, and counts an adjustment of it down (R314). -/
theorem Block.advance_frame (n : Nat) (b : Block) :
    RegsBut adjFields b (b.advance n) ∧ Keeps [.regs, .tb] b (b.advance n) := by
  have htb (x : TimeBase) : RegsBut adjFields b { b with tb := x } ∧ Keeps [.regs, .tb] b { b with tb := x } := by
    refine ⟨fun _ _ => rfl, fun p hp => ?_⟩
    cases p
    case tb => exact absurd (by decide) hp
    all_goals rfl
  have wr {c : Block} {f : Field} (v : Nat) (hf : [f].map Field.key ⊆ adjFields.map Field.key)
      (h : RegsBut adjFields b c ∧ Keeps [.regs, .tb] b c) :
      RegsBut adjFields b (c.wr f v) ∧ Keeps [.regs, .tb] b (c.wr f v) :=
    ⟨(h.1.trans_append (c.wr_regsBut f v)).mono (by simpa using hf), h.2.trans ((c.wr_keeps f v).mono (by decide))⟩
  unfold Block.advance
  dsimp only
  split
  · exact htb _
  · split
    · exact htb _
    · split
      · exact wr (f := Reg.TIME_STAT_ADJ_BUSY) _ (by decide) (wr (f := Reg.TIME_ADJ_CNT_CNT) _ (by decide) (htb _))
      · exact wr (f := Reg.TIME_ADJ_CNT_CNT) _ (by decide) (htb _)

theorem Block.until_frame (t : Nat) (b : Block) :
    RegsBut adjFields b (b.until t) ∧ Keeps [.regs, .tb] b (b.until t) := by
  unfold Block.until
  split
  · exact b.advance_frame _
  · exact ⟨RegsBut.refl _ b, Keeps.refl _ b⟩

/-- A command at its turn whose effect ends later completes, and waits. -/
theorem does_serve_wait {c : Instr} {s : State} {rq : Req} {op : Nat} {touches : Bool} {f : Block → Block × Ans}
    {e : Block} {w : Wait} {post : Block → Prop} (hx : exec c s = s.onBlk (·.serve rq op true touches f))
    (ht : AtTurn s.blk rq op) (hop : op < 256) (hr : (touches && s.blk.resyncing) = false)
    (hf : f s.blk = (e, .wait w)) (hq : e.jv.queue = s.blk.jv.queue) (ho : e.out = s.blk.out) (hp : post (e.waitFor w)) :
    Does c s fun t => Waits s.blk t w ∧ post t := by
  obtain ⟨he, hw⟩ := Block.serve_wait ht hop hr hf hq ho
  exact ⟨_, hx, rfl, hw, by simpa only [he] using hp⟩

/-! ### The result of a validation -/

/-- The fields that hold it. -/
def errFields : List Field := [Reg.SYS_CAST_STAT_ERR, Reg.SYS_CAST_ERR_ADDR_ADDR]

theorem Block.castErr_regsBut (err addr : Nat) (b : Block) : RegsBut errFields b (b.castErr err addr) :=
  (b.wr_regsBut _ _).trans_append (Block.wr_regsBut _ _ _)

theorem Block.castErr_keeps (err addr : Nat) (b : Block) : Keeps [.regs] b (b.castErr err addr) :=
  (b.wr_keeps _ _).trans (Block.wr_keeps _ _ _)

theorem Block.castErr_rd (err addr : Nat) (b : Block) :
    (b.castErr err addr).rd Reg.SYS_CAST_STAT_ERR = err % 2 ^ 8
      ∧ (b.castErr err addr).rd Reg.SYS_CAST_ERR_ADDR_ADDR = addr % 2 ^ 32 := by
  unfold Block.castErr
  exact ⟨by rw [Block.rd_wr_ne _ _ _ _ (by decide), Block.rd_wr_same]; rfl, Block.rd_wr_same _ _ _⟩

/-- CAST or CAST_AT at its turn that ends with an error writes ERR and its address, and answers. -/
theorem does_cast_error {c : Instr} {s : State} {rq : Req} {op st d err addr : Nat} {f : Block → Block × Ans}
    (hx : exec c s = s.onBlk (·.serve rq op true true f)) (ht : AtTurn s.blk rq op) (hop : op < 256)
    (hr : s.blk.cst.resync = none) (hf : f s.blk = (s.blk.castErr err addr, .done st d [])) :
    Does c s fun t => Answered s.blk t rq op st d [] ∧ t.rd Reg.SYS_CAST_STAT_ERR = err % 2 ^ 8
      ∧ t.rd Reg.SYS_CAST_ERR_ADDR_ADDR = addr % 2 ^ 32
      ∧ RegsBut (errFields ++ endFields) s.blk t ∧ Keeps endParts s.blk t := by
  obtain ⟨herr, haddr⟩ := Block.castErr_rd err addr s.blk
  refine does_serve hx ht hop rfl (by simp [Block.resyncing, hr]) hf rfl ⟨?_, ?_, ?_, ?_⟩
  · rw [Block.finish_rd (by decide), herr]
  · rw [Block.finish_rd (by decide), haddr]
  · exact RegsBut.finish (Block.castErr_regsBut err addr s.blk)
  · exact (Block.castErr_keeps err addr s.blk).finish_end

/-- CAST or CAST_AT that a cast armed already refuses leaves its reply alone. -/
theorem does_cast_locked {c : Instr} {s : State} {rq : Req} {op : Nat} {f : Block → Block × Ans}
    (hx : exec c s = s.onBlk (·.serve rq op true true f)) (ht : AtTurn s.blk rq op) (hop : op < 256)
    (hr : s.blk.cst.resync = none) (hf : f s.blk = (s.blk, .done stLocked 0 [])) :
    Does c s fun t => Answered s.blk t rq op stLocked 0 [] ∧ RegsBut endFields s.blk t ∧ Keeps endParts s.blk t :=
  does_serve hx ht hop rfl (by simp [Block.resyncing, hr]) hf rfl (Block.finish_only _ _ _ _)

/-! ### Arming (R45, R48, R49) -/

theorem Block.armAt_keeps (t : Nat) (timed : Bool) (b : Block) : Keeps [.regs, .cst] b (b.armAt t timed) :=
  ((b.updCst_keeps _).mono (by decide)).trans
    ((((Block.wr_keeps _ _ _).trans (Block.wr_keeps _ _ _)).trans (Block.wr64_keeps _ _ _ _)).mono (by decide))

theorem Block.armAt_rd (t : Nat) (timed : Bool) (b : Block) :
    (b.armAt t timed).rd Reg.SYS_CAST_STAT_STATE = (if timed then 4 else 3)
    ∧ (b.armAt t timed).rd Reg.SYS_MAQ_STAT_LOCKED = 1
    ∧ (b.armAt t timed).rd Reg.SYS_CAST_STAT_ERR = b.rd Reg.SYS_CAST_STAT_ERR := by
  unfold Block.armAt
  dsimp only
  refine ⟨?_, ?_, ?_⟩
  · rw [Block.rd_wr64_ne _ _ _ _ _ (by decide) (by decide), Block.rd_flag_ne _ _ _ _ (by decide), Block.rd_wr_same]
    cases timed <;> rfl
  · rw [Block.rd_wr64_ne _ _ _ _ _ (by decide) (by decide), Block.rd_flag_same _ _ _ (by decide)]
    rfl
  · rw [Block.rd_wr64_ne _ _ _ _ _ (by decide) (by decide), Block.rd_flag_ne _ _ _ _ (by decide),
      Block.rd_wr_ne _ _ _ _ (by decide), Block.updCst_rd]

/-- `t` is `b` with a cast armed for boundary `x`, its maquette good (R45, R48). -/
def ArmedFor (x : Nat) (timed : Bool) (b t : Block) : Prop :=
  t.cst = { b.cst with armed := some { b := x, timed := timed, at_ := b.ns, deferred := false } }
  ∧ t.rd Reg.SYS_CAST_STAT_STATE = (if timed then 4 else 3) ∧ t.on Reg.SYS_MAQ_STAT_LOCKED = true
  ∧ t.rd Reg.SYS_CAST_STAT_ERR = 0

theorem Block.castErr_armAt (x : Nat) (timed : Bool) (b : Block) :
    ArmedFor x timed b ((b.castErr 0 0).armAt x timed) ∧ Keeps [.regs, .cst] b ((b.castErr 0 0).armAt x timed) := by
  obtain ⟨hst, hlock, herr⟩ := Block.armAt_rd x timed (b.castErr 0 0)
  refine ⟨⟨rfl, hst, ?_, ?_⟩, ((Block.castErr_keeps 0 0 b).mono (by decide)).trans (Block.armAt_keeps _ _ _)⟩
  · rw [Block.on, hlock]
    rfl
  · rw [herr, (Block.castErr_rd 0 0 b).1]
    rfl

/-- Whether a boundary lies ahead is the same of a boundary before 0 and of 0. -/
theorem toNat_lt_iff (x : Int) (n : Nat) : x.toNat < n + 1000 ↔ x < (n : Int) + 1000 := by omega

/-! ### Disarming (R45, R74) -/

/-- The cast is disarmed: the maquette is unlocked, its contents still pending. -/
def Block.unarmed (b : Block) : Block :=
  ((((b.updCst fun c => { c with armed := none }).wr Reg.SYS_CAST_STAT_STATE 0).wr64 Reg.SYS_CAST_TARGET_LO_BOUNDARY
    Reg.SYS_CAST_TARGET_HI_BOUNDARY 0).flag Reg.SYS_MAQ_STAT_LOCKED false).wr Reg.SYS_CAST_STAT_ERR 7

/-- The fields that show an armed cast and how it ended. -/
def unarmedFields : List Field :=
  [Reg.SYS_CAST_STAT_STATE, Reg.SYS_CAST_STAT_ERR, Reg.SYS_MAQ_STAT_LOCKED, Reg.SYS_CAST_TARGET_LO_BOUNDARY,
    Reg.SYS_CAST_TARGET_HI_BOUNDARY]

theorem Block.disarm_eq {b : Block} (h : b.cst.armed.isSome = true) :
    b.disarm = if b.castHeld then b.unarmed.finish stDenied 7 [] else b.unarmed := by
  obtain ⟨a, ha⟩ := Option.isSome_iff_exists.mp h
  unfold Block.disarm
  rw [ha]
  rfl

theorem Block.castTimeout_eq (b : Block) : b.castTimeout = b.unarmed.finish stTimeout 0 [] := rfl

theorem Block.unarmed_cst (b : Block) : b.unarmed.cst = { b.cst with armed := none } := rfl

theorem Block.unarmed_keeps (b : Block) : Keeps [.regs, .cst] b b.unarmed :=
  ((b.updCst_keeps _).mono (by decide)).trans ((((Block.wr_keeps _ _ _).trans (Block.wr64_keeps _ _ _ _)).trans
    ((Block.wr_keeps _ _ _).trans (Block.wr_keeps _ _ _))).mono (by decide))

theorem Block.unarmed_regsBut (b : Block) : RegsBut unarmedFields b b.unarmed :=
  (((RegsBut.of_regs (c := b.updCst _) rfl).trans_append (Block.wr_regsBut _ _ _)).trans_append
    (((Block.wr64_regsBut _ _ _ _).trans_append (Block.flag_regsBut _ _ _)).trans_append (Block.wr_regsBut _ _ _))).mono
    (by decide)

theorem Block.unarmed_rd (b : Block) : b.unarmed.rd Reg.SYS_CAST_STAT_STATE = 0 ∧ b.unarmed.rd Reg.SYS_CAST_STAT_ERR = 7
    ∧ b.unarmed.rd Reg.SYS_MAQ_STAT_LOCKED = 0 ∧ b.unarmed.rd Reg.SYS_CAST_TARGET_LO_BOUNDARY = 0
    ∧ b.unarmed.rd Reg.SYS_CAST_TARGET_HI_BOUNDARY = 0 := by
  unfold Block.unarmed Block.wr64 Block.flag
  refine ⟨?_, ?_, ?_, ?_, ?_⟩ <;> simp (disch := decide) only [Block.rd_wr_ne, Block.rd_wr_same] <;> rfl

/-! ### Discarding (R44, R45) -/

theorem Block.maqReset_regsBut (b : Block) : RegsBut [Reg.SYS_MAQ_STAT_DIRTY_WORDS] b b.maqReset :=
  fun g hg => (Block.wr_regsBut Reg.SYS_MAQ_STAT_DIRTY_WORDS 0 _ g hg).trans rfl

theorem Block.maqReset_keeps (b : Block) : Keeps [.regs, .cst] b b.maqReset :=
  ((b.updCst_keeps _).mono (by decide)).trans ((Block.wr_keeps _ _ _).mono (by decide))

theorem Block.maqReset_rd (b : Block) : b.maqReset.rd Reg.SYS_MAQ_STAT_DIRTY_WORDS = 0 := by
  rw [Block.maqReset, Block.rd_wr_same]
  rfl

/-- MAQUETTE_DISCARD at its turn: nothing is known yet of a cast it may have disarmed when it was accepted. -/
theorem Block.discardCommand_atTurn {b : Block} {rq : Req} (ht : AtTurn b rq 0x22) :
    (b.cst.armed = none → b.discardCommand = (b.maqReset, ok (be 4 b.cst.dirty.length ++ be 1 0 ++ zeros 3)))
    ∧ (b.mayDisarm = true →
      b.discardCommand = (b.unarmed.maqReset, ok (be 4 b.cst.dirty.length ++ be 1 1 ++ zeros 3))) := by
  obtain ⟨r, hq⟩ := ht.queue
  constructor
  · intro ha
    simp [Block.discardCommand, hq, Block.mayDisarm, ha]
  · intro hm
    have harm : b.cst.armed.isSome = true := by
      unfold Block.mayDisarm at hm
      split at hm
      · next h => rw [h]; rfl
      · cases hm
    have hheld : b.castHeld = false := by
      unfold Block.castHeld Block.headWait
      rw [hq]
      rfl
    have hd : b.disarm = b.unarmed := by rw [Block.disarm_eq harm, hheld]; rfl
    simp [Block.discardCommand, hq, hm, hd, Block.unarmed_cst]

/-! ### The statement -/

/-- The copy of the dirty words ends: a word with one field is brought over (R50). -/
theorem Block.resyncEnd_eq {b : Block} {t : Nat} (h : b.cst.resync = some t)
    (hp : b.strk.phase = .begun → b.strk.castHere = false) :
    b.resyncEnd = ((b.until t).updCst fun c => { c with
      maq := Bank.setAll (b.until t).rd (((b.until t).cst.resyncWords).flatMap fun a =>
        ((fieldsAt a).getD []).filter Field.isCr) c.maq
      resync := none, resyncWords := [] }).wr Reg.SYS_CAST_STAT_STATE 0 := by
  have hno : ¬ (b.strk.phase = .begun ∧ b.strk.castHere = true) := fun ⟨h1, h2⟩ => by simp [hp h1] at h2
  unfold Block.resyncEnd
  rw [h]
  dsimp only
  rw [if_neg hno]
  rfl

/-- Settles O41: each command comes to the result of its validation, an armed cast or a refusal, one branch each. -/
theorem casts : Obligations.Casts := by
  unfold Obligations.Casts
  refine ⟨fun s rq at_ hr => ?_, fun s rq a until_ f => ?_⟩
  · have cast_x : exec (.cast rq) s = s.onBlk (·.serve rq 0x20 true true (·.castCommand)) := rfl
    have castAt_x : exec (.castAt rq at_) s = s.onBlk (·.serve rq 0x21 true true (·.castAtCommand at_.toNat)) := rfl
    have hres : (true && s.blk.resyncing) = false := by simp [Block.resyncing, hr]
    refine ⟨?arm, ?armAt, ?tooFar, ?stale, ?invalid, ?retarget, ?locked⟩
    case arm =>
      intro ht ha hv c
      obtain ⟨⟨hcst, hst, hlock, herr⟩, hk⟩ := Block.castErr_armAt c false s.blk
      exact does_serve_wait cast_x ht (by decide) hres (e := (s.blk.castErr 0 0).armAt c false)
        (by simp [Block.castCommand, ha, hv, c]) rfl rfl
        ⟨hcst, hst, hlock, herr, (hk.mono (by decide)).trans ((Block.waitFor_keeps _ _).mono (by decide))⟩
    case armAt =>
      intro ht ha hv hfar hb c
      obtain ⟨⟨hcst, hst, hlock, herr⟩, hk⟩ := Block.castErr_armAt c true s.blk
      refine does_serve castAt_x ht (by decide) rfl hres (e := (s.blk.castErr 0 0).armAt c true)
        (by simp [Block.castAtCommand, ha, hv, hfar, not_lt.mpr hb, c, ok]) rfl ⟨?_, ?_, ?_, ?_, ?_⟩
      · rw [Block.finish_cst, hcst]
      · rw [Block.finish_rd (by decide), hst]
        rfl
      · rw [Block.on, Block.finish_rd (by decide)]
        exact hlock
      · rw [Block.finish_rd (by decide), herr]
      · exact (hk.mono (by decide)).finish (by decide)
    case tooFar =>
      intro ht ha hv hfar
      exact (does_cast_error castAt_x ht (by decide) hr (err := 6) (addr := 0)
        (by simp [Block.castAtCommand, ha, hv, hfar, denied])).imp fun t ⟨h1, h2, _, h3, h4⟩ => ⟨h1, h2, h3, h4⟩
    case stale =>
      intro ht ha hv hfar hb
      exact (does_cast_error castAt_x ht (by decide) hr (err := 5) (addr := 0)
        (by simp [Block.castAtCommand, ha, hv, hfar, hb])).imp fun t ⟨h1, h2, _, h3, h4⟩ => ⟨h1, h2, h3, h4⟩
    case invalid =>
      intro err addr ha hv
      refine ⟨fun ht => ?_, fun ht => ?_⟩
      · exact does_cast_error cast_x ht (by decide) hr (by simp [Block.castCommand, ha, hv, denied])
      · exact (does_cast_error castAt_x ht (by decide) hr (err := err) (addr := addr)
          (by simp [Block.castAtCommand, ha, hv, denied])).imp fun t ⟨h1, _, _, h3, h4⟩ => ⟨h1, h3, h4⟩
    case retarget =>
      intro a ht ha c stillAhead errs
      refine ⟨fun hto => ?_, fun hto hfar => ?_, fun hto hfar hb => ?_, fun hto hfar hb hc => ?_, fun hto hfar hb hc => ?_⟩
      · exact does_cast_locked castAt_x ht (by decide) hr (by simp [Block.castAtCommand, ha, hto])
      · exact (does_cast_error castAt_x ht (by decide) hr (err := 6) (addr := 0)
          (by simp [Block.castAtCommand, ha, hto, Block.retarget, hfar, denied])).imp
          fun t ⟨h1, h2, _, h3, h4⟩ => ⟨h1, h2, h3, h4⟩
      · exact does_cast_locked castAt_x ht (by decide) hr
          (by simp [Block.castAtCommand, ha, hto, Block.retarget, hfar, not_le.mp hb])
      · have hneg : s.blk.castBoundary at_.toNat < (s.blk.ns : Int) + 1000 := (toNat_lt_iff _ _).mp hc
        exact (does_cast_error castAt_x ht (by decide) hr (err := 5) (addr := 0)
          (by simp [Block.castAtCommand, ha, hto, Block.retarget, hfar, not_lt.mpr hb, hneg])).imp
          fun t ⟨h1, h2, _, h3, h4⟩ => ⟨h1, h2, h3, h4⟩
      · have hpos : ¬ s.blk.castBoundary at_.toNat < (s.blk.ns : Int) + 1000 :=
          fun h => not_lt.mpr hc ((toNat_lt_iff _ _).mpr h)
        refine does_serve castAt_x ht (by decide) rfl hres
          (e := (s.blk.updCst fun x => { x with armed := some { a with b := c } }).wr64 Reg.SYS_CAST_TARGET_LO_BOUNDARY
            Reg.SYS_CAST_TARGET_HI_BOUNDARY c)
          (by simp [Block.castAtCommand, ha, hto, Block.retarget, hfar, not_lt.mpr hb, hpos, c, ok]) rfl ⟨?_, ?_, ?_, ?_, ?_⟩
        · rw [Block.finish_cst]
          rfl
        · rw [Block.finish_rd (by decide), Block.wr64, Block.rd_wr_ne _ _ _ _ (by decide), Block.rd_wr_same]
          rfl
        · rw [Block.finish_rd (by decide), Block.wr64, Block.rd_wr_same]
          rfl
        · exact RegsBut.finish fun g hg => (Block.wr64_regsBut _ _ _ _ g hg).trans rfl
        · exact (((s.blk.updCst_keeps _).mono (by decide)).trans ((Block.wr64_keeps _ _ _ _).mono (by decide))).finish
            (by decide)
    case locked =>
      exact fun ht ha => does_cast_locked cast_x ht (by decide) hr (by simp [Block.castCommand, ha])
  · have discard_x : exec (.maquetteDiscard rq) s = s.onBlk (·.serve rq 0x22 true true (·.discardCommand)) := rfl
    refine ⟨?discard, ?disarm, ?resync⟩
    case discard =>
      intro ht hr ha
      refine does_serve discard_x ht (by decide) rfl (by simp [Block.resyncing, hr])
        ((Block.discardCommand_atTurn ht).1 ha) rfl ⟨?_, ?_, ?_, ?_, ?_⟩
      · rw [Block.finish_cst]
        rfl
      · rw [Block.finish_cst]
        rfl
      · rw [Block.finish_rd (by decide), Block.maqReset_rd]
      · exact RegsBut.finish (Block.maqReset_regsBut s.blk)
      · exact ((Block.maqReset_keeps s.blk).mono (by decide)).finish (by decide)
    case disarm =>
      intro ht hr ha hb
      obtain ⟨hst, -, hlock, -, -⟩ := s.blk.unarmed_rd
      have hrd {f : Field} (h1 : f.key ∉ endFields.map Field.key) (h2 : f.key ∉ [Reg.SYS_MAQ_STAT_DIRTY_WORDS].map Field.key)
          (p : List Byte) : (s.blk.unarmed.maqReset.finish stOk 0 p).rd f = s.blk.unarmed.rd f := by
        rw [Block.finish_rd h1, Block.maqReset_regsBut _ f h2]
      refine does_serve discard_x ht (by decide) rfl (by simp [Block.resyncing, hr])
        ((Block.discardCommand_atTurn ht).2 (by simp [Block.mayDisarm, ha, hb])) rfl ⟨?_, ?_, ?_, ?_, ?_⟩
      · rw [Block.finish_cst]
        rfl
      · rw [Block.finish_cst]
        rfl
      · rw [hrd (by decide) (by decide), hst]
      · rw [Block.on, hrd (by decide) (by decide), hlock]
        rfl
      · exact ((s.blk.unarmed_keeps.trans (Block.maqReset_keeps _)).mono (by decide)).finish (by decide)
    case resync =>
      intro hr hp
      obtain ⟨hregs, hk⟩ := Block.until_frame until_ s.blk
      have hcst : (s.blk.until until_).cst = s.blk.cst := hk .cst (by decide)
      refine does_onBlk (f := fun b => b.resyncEnd) rfl ?_
      rw [Block.resyncEnd_eq hr hp]
      refine ⟨rfl, rfl, ?_, ?_, ?_, fun hw hf hcr hadj => ?_⟩
      · rw [Block.rd_wr_same]
        rfl
      · exact ((hregs.trans_append (RegsBut.of_regs rfl)).trans_append (Block.wr_regsBut _ _ _)).mono (by decide)
      · exact (hk.mono (by decide)).trans (((Block.updCst_keeps _ _).mono (by decide)).trans ((Block.wr_keeps _ _ _).mono (by decide)))
      · rw [Block.maq, Block.wr_cst, Block.updCst_cst, hcst, hw, ← hregs f hadj]
        exact Bank.fld_setAll_mem (by simp [hf, hcr]) (by simp [hf, hcr]) _

end Sys2Proof.Machine
end

section
/-! PROOFS. Acceptance of a Jarvas packet (R54 to R63): queued, disarming a cast (R45, R74), refused, dropped or not seen. -/

namespace Sys2Proof.Machine

/-! ### Frames -/

theorem Block.updJv_keeps (f : JarvasSt → JarvasSt) (b : Block) : Keeps [.jv] b (b.updJv f) := by
  intro p hp
  cases p
  case jv => exact absurd (List.mem_singleton_self _) hp
  all_goals rfl

theorem Block.emit_keeps (o : Output) (b : Block) : Keeps [.out] b (b.emit o) := by
  intro p hp
  cases p
  case out => exact absurd (List.mem_singleton_self _) hp
  all_goals rfl

theorem satNat_lt (w n : Nat) : satNat w n < 2 ^ w := by
  have := Nat.two_pow_pos w
  unfold satNat
  split <;> omega

/-- A counter reads one count more, saturated. -/
theorem Block.rd_count_sat (f : Field) (n : Nat) (b : Block) : (b.count f n).rd f = satNat f.width (b.rd f + n) := by
  rw [Block.count, Block.rd_wr_same, Nat.mod_eq_of_lt (satNat_lt _ _)]

/-! ### The transport check (R54 to R58) -/

/-- A packet that is looked at: its connector is served, and no injection inverts its check (R57, R355). -/
structure RxHeard (b : Block) (p : RxPacket) : Prop where
  served : b.portServed p.port = true
  first : b.duplicate p = false
  calm : checkerPort p.port < 2 → b.injects 3 (checkerPort p.port) = false

theorem RxHeard.packetRx {b : Block} {p : RxPacket} (h : RxHeard b p) : b.packetRx p =
    if !p.fcsOk || !(p.port == .svc || (p.toUs && b.tagOk p.vlan && b.kindOk p && sumOk p)) then
      b.count Reg.SYS_CMD_DROP_COUNT 1
    else if fragment p then b
    else b.takePacket (packetSrc p) p.bytes := by
  have hcheck : (if checkerPort p.port < 2 then b.checked 3 (checkerPort p.port) else b) = b := by
    split
    · next hi => simp [Block.checked, h.calm hi]
    · rfl
  have hinj : (decide (checkerPort p.port < 2) && b.injects 3 (checkerPort p.port)) = false := by
    by_cases hi : checkerPort p.port < 2
    · simp [h.calm hi]
    · simp [hi]
  simp only [Block.packetRx, h.served, h.first, Bool.not_true, Bool.or_self, Bool.false_eq_true, if_false, hcheck, hinj,
    Bool.or_false]

/-! ### The acceptance steps (R60 to R63) -/

/-- A new command of request `rq`: no such command waits or is answered already, and its sequence is newer (R62, R63). -/
structure RqFresh (b : Block) (rq : Req) (op : Nat) : Prop where
  plinth : b.boot.plinth = true → op ∈ plinthOps
  queued : (b.jv.queue.any fun q => q.req.seq == rq.seq && q.op.toNat == op) = false
  answered : (b.jv.cache.find? fun r => r.seq == rq.seq && r.op.toNat == op && sameSource r.src rq.src) = none
  newer : seqNewer rq.seq.toNat (b.rd Reg.SYS_SEQ_ACCEPTED_SEQ) = true

/-- The command that acceptance puts in the queue. -/
def newCmd (rq : Req) (op : Nat) : QCmd := { req := rq, op := BitVec.ofNat 8 op, wait := .turn, disarmed := false }

/-- The fields that the acceptance of a command writes. -/
def acceptFields : List Field := [Reg.SYS_SEQ_ACCEPTED_SEQ, Reg.SYS_HOST_RX_LO_TIME, Reg.SYS_HOST_RX_HI_TIME]

/-- A command is accepted: its sequence and its time are kept, and it waits behind the others. -/
def Block.enqueue (rq : Req) (op : Nat) (b : Block) : Block :=
  ((b.wr Reg.SYS_SEQ_ACCEPTED_SEQ rq.seq.toNat).wr64 Reg.SYS_HOST_RX_LO_TIME Reg.SYS_HOST_RX_HI_TIME b.ns).updJv
    fun j => { j with queue := j.queue ++ [newCmd rq op] }

theorem RqFresh.accept {b : Block} {rq : Req} {op : Nat} (h : RqFresh b rq op) : (b.accept rq op).1 =
    if 32 ≤ b.jv.queue.length then b.refuse rq op stBusy 0
    else if op = 0x22 then (b.enqueue rq op).earlyDiscard else b.enqueue rq op := by
  have hp : (b.boot.plinth && !plinthOps.contains op) = false := by
    cases hb : b.boot.plinth
    · rfl
    · simp [h.plinth hb]
  unfold Block.accept
  dsimp only
  rw [if_neg (by rw [hp]; decide), if_neg (by rw [h.queued]; decide), h.answered]
  simp only [h.newer, Bool.not_true, Bool.and_false, Bool.false_eq_true, if_false]
  split
  · rfl
  · rfl

theorem Block.enqueue_keeps (rq : Req) (op : Nat) (b : Block) : Keeps [.regs, .jv] b (b.enqueue rq op) :=
  (((b.wr_keeps _ _).trans (Block.wr64_keeps _ _ _ _)).mono (by decide)).trans ((Block.updJv_keeps _ _).mono (by decide))

theorem Block.enqueue_regsBut (rq : Req) (op : Nat) (b : Block) : RegsBut acceptFields b (b.enqueue rq op) :=
  (((b.wr_regsBut _ _).trans_append (Block.wr64_regsBut _ _ _ _)).trans_append (RegsBut.of_regs rfl)).mono (by decide)

theorem Block.enqueue_rd_seq (rq : Req) (op : Nat) (b : Block) :
    (b.enqueue rq op).rd Reg.SYS_SEQ_ACCEPTED_SEQ = rq.seq.toNat := by
  rw [Block.enqueue, Block.updJv_rd, Block.rd_wr64_ne _ _ _ _ _ (by decide) (by decide), Block.rd_wr_same]
  exact Nat.mod_eq_of_lt rq.seq.isLt

theorem Block.enqueue_mayDisarm (rq : Req) (op : Nat) (b : Block) : (b.enqueue rq op).mayDisarm = b.mayDisarm := rfl

/-- The new command waits for its turn, so it is no CAST that waits for a cast. -/
theorem Block.enqueue_castHeld (rq : Req) (op : Nat) (b : Block) : (b.enqueue rq op).castHeld = b.castHeld := by
  have hw : (b.enqueue rq op).headWait = (b.jv.queue ++ [newCmd rq op]).head?.map (·.wait) := rfl
  unfold Block.castHeld
  rw [hw, Block.headWait]
  cases b.jv.queue <;> rfl

/-! ### A cast disarmed at acceptance (R45, R74) -/

/-- The last command of the queue is marked as one that disarmed a cast. -/
def JarvasSt.markLast (j : JarvasSt) : JarvasSt :=
  { j with queue := j.queue.dropLast ++ (j.queue.getLast?.map fun q => { q with disarmed := true }).toList }

theorem JarvasSt.markLast_append (j : JarvasSt) (qs : List QCmd) (q : QCmd) (h : j.queue = qs ++ [q]) :
    j.markLast = { j with queue := qs ++ [{ q with disarmed := true }] } := by
  simp [JarvasSt.markLast, h]

theorem Block.armed_of_mayDisarm {b : Block} (h : b.mayDisarm = true) : b.cst.armed.isSome = true := by
  unfold Block.mayDisarm at h
  split at h
  · next ha => rw [ha]; rfl
  · cases h

theorem Block.earlyDiscard_eq {b : Block} (h : b.mayDisarm = true) : b.earlyDiscard
    = (if b.castHeld then b.unarmed.finish stDenied 7 [] else b.unarmed).updJv JarvasSt.markLast := by
  unfold Block.earlyDiscard
  rw [if_pos h, Block.disarm_eq (Block.armed_of_mayDisarm h)]
  rfl

/-- What `t` shows of a cast of `b` disarmed at the acceptance of `rq`. -/
def DisarmedBy (rq : Req) (b t : Block) : Prop :=
  t.cst = { b.cst with armed := none } ∧ t.rd Reg.SYS_CAST_STAT_STATE = 0
  ∧ t.rd Reg.SYS_CAST_STAT_ERR = 7 ∧ t.on Reg.SYS_MAQ_STAT_LOCKED = false
  ∧ t.rd Reg.SYS_CAST_TARGET_LO_BOUNDARY = 0 ∧ t.rd Reg.SYS_CAST_TARGET_HI_BOUNDARY = 0
  ∧ t.rd Reg.SYS_SEQ_ACCEPTED_SEQ = rq.seq.toNat

/-- Only the cast record and the fields named matter. -/
theorem DisarmedBy.congr {rq : Req} {b t t' : Block} (h : DisarmedBy rq b t) (hc : t'.cst = t.cst)
    (hr : ∀ f ∈ Reg.SYS_SEQ_ACCEPTED_SEQ :: unarmedFields, t'.rd f = t.rd f) : DisarmedBy rq b t' := by
  obtain ⟨h1, h2, h3, h4, h5, h6, h7⟩ := h
  refine ⟨hc.trans h1, ?_, ?_, ?_, ?_, ?_, ?_⟩
  · rw [hr _ (by decide), h2]
  · rw [hr _ (by decide), h3]
  · rw [Block.on, hr _ (by decide)]
    exact h4
  · rw [hr _ (by decide), h5]
  · rw [hr _ (by decide), h6]
  · rw [hr _ (by decide), h7]

theorem Block.enqueue_unarmed (rq : Req) (op : Nat) (b : Block) : DisarmedBy rq b (b.enqueue rq op).unarmed := by
  obtain ⟨hst, herr, hlock, hlo, hhi⟩ := (b.enqueue rq op).unarmed_rd
  refine ⟨rfl, hst, herr, ?_, hlo, hhi, ?_⟩
  · rw [Block.on, hlock]
    rfl
  · rw [Block.unarmed_regsBut _ _ (by decide), Block.enqueue_rd_seq]

/-- A discard that finds no CAST waiting disarms the cast and waits in the queue. -/
theorem Block.discard_early {b : Block} {rq : Req} (hm : b.mayDisarm = true) (hh : b.castHeld = false) :
    let t := (b.enqueue rq 0x22).earlyDiscard
    DisarmedBy rq b t ∧ t.jv = { b.jv with queue := b.jv.queue ++ [{ newCmd rq 0x22 with disarmed := true }] }
      ∧ RegsBut (acceptFields ++ unarmedFields) b t ∧ Keeps [.regs, .cst, .jv] b t := by
  intro t
  let c := b.enqueue rq 0x22
  have ht : t = c.unarmed.updJv JarvasSt.markLast := by
    show c.earlyDiscard = _
    rw [Block.earlyDiscard_eq (b := c) hm, Block.enqueue_castHeld, hh]
    rfl
  rw [ht]
  refine ⟨(b.enqueue_unarmed rq 0x22).congr rfl fun _ _ => rfl, ?_, ?_, ?_⟩
  · exact JarvasSt.markLast_append c.unarmed.jv b.jv.queue (newCmd rq 0x22) rfl
  · exact (((b.enqueue_regsBut rq 0x22).trans_append c.unarmed_regsBut).trans_append (RegsBut.of_regs rfl)).mono
      (by decide)
  · exact (((b.enqueue_keeps rq 0x22).mono (by decide)).trans (c.unarmed_keeps.mono (by decide))).trans
      ((Block.updJv_keeps _ _).mono (by decide))

/-- A discard that finds a CAST waiting for its cast disarms it, and that CAST is answered. -/
theorem Block.discard_early_held {b : Block} {rq : Req} {q : QCmd} {r : List QCmd} (hm : b.mayDisarm = true)
    (hq : b.jv.queue = q :: r) (hw : q.wait = .cast) :
    let t := (b.enqueue rq 0x22).earlyDiscard
    DisarmedBy rq b t ∧ t.jv.queue = r ++ [{ newCmd rq 0x22 with disarmed := true }]
      ∧ Replied t q.req q.op.toNat stDenied 7 [] ∧ t.rd Reg.SYS_SEQ_LAST_SEQ = q.req.seq.toNat
      ∧ Keeps [.regs, .cst, .jv, .out] b t := by
  intro t
  let c := b.enqueue rq 0x22
  have hheld : b.castHeld = true := by simp [Block.castHeld, Block.headWait, hq, hw]
  have ht : t = (c.unarmed.finish stDenied 7 []).updJv JarvasSt.markLast := by
    show c.earlyDiscard = _
    rw [Block.earlyDiscard_eq (b := c) hm, Block.enqueue_castHeld, hheld]
    rfl
  have hcq : c.unarmed.jv.queue = q :: (r ++ [newCmd rq 0x22]) := by
    show b.jv.queue ++ [newCmd rq 0x22] = _
    rw [hq, List.cons_append]
  obtain ⟨htail, hlast, -, hrep⟩ := Block.finish_head (st := stDenied) (d := 7) (p := []) hcq (by simp [hw])
  rw [hcq, List.tail_cons] at htail
  rw [ht]
  refine ⟨(b.enqueue_unarmed rq 0x22).congr (Block.finish_cst (b := c.unarmed)) fun f hf => ?_, ?_, hrep, hlast, ?_⟩
  · have hne : ∀ f ∈ Reg.SYS_SEQ_ACCEPTED_SEQ :: unarmedFields, f.key ∉ endFields.map Field.key := by decide
    exact Block.finish_rd (hne f hf)
  · exact congrArg JarvasSt.queue (JarvasSt.markLast_append _ r (newCmd rq 0x22) htail)
  · exact ((((b.enqueue_keeps rq 0x22).mono (by decide)).trans (c.unarmed_keeps.mono (by decide))).finish
      (by decide)).trans ((Block.updJv_keeps _ _).mono (by decide))

/-! ### Refusals (R61, R63) -/

theorem Block.refuse_frame (rq : Req) (op st d : Nat) (b : Block) : Replied (b.refuse rq op st d) rq op st d []
    ∧ (b.refuse rq op st d).rd Reg.SYS_CMD_REFUSED_COUNT = satNat 32 (b.rd Reg.SYS_CMD_REFUSED_COUNT + 1)
    ∧ RegsBut [Reg.SYS_CMD_REFUSED_COUNT, Reg.SYS_CMD_STAT_RESTARTED] b (b.refuse rq op st d)
    ∧ Keeps [.regs, .out] b (b.refuse rq op st d) := by
  refine ⟨⟨_, rfl, rfl, rfl, rfl, rfl, rfl, rfl⟩, ?_, ?_, ?_⟩
  · rw [Block.refuse, Block.send, Block.rd_flag_ne _ _ _ _ (by decide), Block.emit_rd, Block.rd_count_sat]
    rfl
  · exact (((b.wr_regsBut _ _).trans_append (RegsBut.of_regs rfl)).trans_append (Block.flag_regsBut _ _ _)).mono (by decide)
  · exact (((b.wr_keeps _ _).mono (by decide)).trans ((Block.emit_keeps _ _).mono (by decide))).trans
      ((Block.wr_keeps _ _ _).mono (by decide))

/-! ### The statement -/

/-- Settles O37: the packet passes or fails its transport check, and a sound one comes to the step that takes it. -/
theorem packetAcceptance : Obligations.PacketAcceptance := by
  unfold Obligations.PacketAcceptance
  intro s p h op rq body heard whole sound fresh discard unlocked
  have rx : exec (.jarvasPacketRx p) s = s.onBlk (·.packetRx p) := rfl
  have heardOf (hh : heard) : RxHeard s.blk p := ⟨hh.1, hh.2.1, hh.2.2⟩
  have taken (hh : heard) (hw : whole) (hs : sound) (hf : fresh) : s.blk.packetRx p =
      if 32 ≤ s.blk.jv.queue.length then s.blk.refuse rq op stBusy 0
      else if op = 0x22 then (s.blk.enqueue rq op).earlyDiscard else s.blk.enqueue rq op := by
    obtain ⟨hfcs, hfrag, heth⟩ := hw
    obtain ⟨hbit, hcore, hver, hlen, hbody, hfit, hdef, h90, h42, hpl⟩ := hs
    obtain ⟨hany, hhit, hnew⟩ := hf
    have hEth : (p.port == .svc || (p.toUs && s.blk.tagOk p.vlan && s.blk.kindOk p && sumOk p)) = true := by
      rcases heth with h | ⟨h1, h2, h3, h4⟩
      · simp [h]
      · simp [h1, h2, h3, h4]
    have htake : s.blk.takePacket (packetSrc p) p.bytes = (s.blk.accept rq op).1 := by
      have hlen' : ¬ 1400 < field h 8 2 := not_lt.mpr hlen
      have hbody' : ¬ body.length < field h 8 2 := not_lt.mpr hbody
      simp only [Block.takePacket]
      rw [if_neg (by rw [hbit]; decide), if_neg (by rw [hcore, Bool.false_and]; decide),
        if_neg (by rw [decide_eq_false hlen', decide_eq_false hbody', hfit]; decide), if_neg (by simpa using hver), if_neg (by simpa using hdef), if_neg h90,
        if_neg h42]
    rw [(heardOf hh).packetRx, hfcs, hEth, hfrag, htake]
    exact RqFresh.accept ⟨hpl, hany, hhit, hnew⟩
  refine ⟨?early, ?queued, ?busy, ?dropped, ?unseen⟩
  case early =>
    intro hh hw hs hf hop hlen hm
    have he : s.blk.packetRx p = (s.blk.enqueue rq 0x22).earlyDiscard := by
      rw [taken hh hw hs hf, if_neg (not_le.mpr hlen), if_pos hop, hop]
    refine ⟨fun hheld => does_onBlk rx ?_, fun q r hq hwait => does_onBlk rx ?_⟩
    · rw [he]
      exact Block.discard_early hm hheld
    · rw [he]
      exact Block.discard_early_held hm hq hwait
  case queued =>
    intro hh hw hs hf hop hlen
    have he : s.blk.packetRx p = s.blk.enqueue rq op := by
      rw [taken hh hw hs hf, if_neg (not_le.mpr hlen)]
      split
      · next h22 =>
        have hm : s.blk.mayDisarm = false := hop.resolve_left fun h => h h22
        rw [Block.earlyDiscard, if_neg (by rw [Block.enqueue_mayDisarm, hm]; decide)]
      · rfl
    refine does_onBlk rx ?_
    rw [he]
    exact ⟨rfl, Block.enqueue_rd_seq rq op s.blk, Block.enqueue_regsBut rq op s.blk, Block.enqueue_keeps rq op s.blk⟩
  case busy =>
    intro hh hw hs hf hlen
    refine does_onBlk rx ?_
    rw [taken hh hw hs hf, if_pos hlen]
    exact Block.refuse_frame rq op stBusy 0 s.blk
  case dropped =>
    intro hh hfcs
    refine does_onBlk rx ?_
    rw [(heardOf hh).packetRx, hfcs]
    exact ⟨Block.rd_count_sat _ _ _, Block.wr_regsBut _ _ _, Block.wr_keeps _ _ _⟩
  case unseen =>
    intro hserved
    refine does_onBlk rx ?_
    rw [Block.packetRx, hserved]
    exact ⟨RegsBut.refl _ _, Keeps.refl _ _⟩

end Sys2Proof.Machine
end

section
/-! PROOFS. The stroke (R109): where a context's region does not fit the field that shows it. -/

namespace Sys2Proof.Machine

/-- A block at reset but for context 0: it was active, and its bank holds 9 in two fields of three bits each, the number of
    regions and the region in force (R117). -/
def wideRegion : Block :=
  { Block.reset with
    regs := [((Reg.ARM_CTX_CFG_NREG_M1 0).key, 9), ((Reg.ARM_CTX_STAT_REGION 0).key, 9)]
    ctxs := [(0, { (default : Ctx) with was := true, nextRegion := 9 })] }

/-- The figures of a window that has just opened. -/
def openWindow : WinSum := { macs := 0, transfers := 0, passes := 0, overflow := [] }

/-- The context stays in the region it was in, and its coefficients are those of the former bank. -/
theorem wideRegion_stays : (wideRegion.ctx 0).was = true ∧ (wideRegion.ctx 0).init = false ∧ 9 = wideRegion.ctxRegion 0
    ∧ wideRegion.rd (Reg.ARM_CTX_STAT_REGION 0) = 9
    ∧ wideRegion.formerBank.coefs 0 9 = wideRegion.regs.coefs 0 9 := by
  decide +kernel

/-- A stroke writes the region it runs in, of which the field keeps three bits: 9 mod 8. -/
theorem wideRegion_ctxStep : (wideRegion.ctxStep 0 openWindow).1.rd (Reg.ARM_CTX_STAT_REGION 0) = 1 := by
  decide +kernel

/-- Refutes O42: the statement is asked of every bank, also of one that holds a value its field is too narrow for.  In
    `wideRegion` REGION reads 9 before the stroke of context 0 and the region stays 9, but the stroke writes REGION anew and
    it reads 1 then.  The clause fails on such banks alone: a region below 8 is written as it is. -/
theorem not_strokeCommands : ¬ Obligations.StrokeCommands := by
  unfold Obligations.StrokeCommands
  rintro ⟨-, hctx⟩
  obtain ⟨hstays, -⟩ := hctx wideRegion 0 openWindow 0
  obtain ⟨hwas, hinit, hregion, hrd, hcoefs⟩ := wideRegion_stays
  obtain ⟨-, -, -, -, hafter, -⟩ := hstays 9 hwas hinit hregion hrd hcoefs
  rw [show ((0 : Fin 256) : Nat) = 0 from rfl, wideRegion_ctxStep] at hafter
  exact absurd hafter (by decide)

end Sys2Proof.Machine
end

section
/-! PROOFS. Cell service (R209 to R232): steps that take too long fence the cell, a charge held and a joining done, the
    beginning of a swap, and the block symbols of every active lane. -/

namespace Sys2Proof.Machine

/-! ### What the record and the class of an occurrence leave of the cells (R341, R346) -/

/-- The cells, the recovery records, and the fields before the registers of the local power stage: the fences of cells are
    decided by these alone. -/
def Block.cellView (b : Block) : CellsSt × SMap Recov × (Field → Nat) :=
  (b.cells, b.evt.recov, fun f => if f.key < 0x400000 * 8 then b.rd f else 0)

theorem Block.cellView_ite (c : Prop) [Decidable c] (x y : Block) :
    (if c then x else y).cellView = if c then x.cellView else y.cellView := by split <;> rfl

theorem Block.wr_cellView (f : Field) (v : Nat) (b : Block) (h : 0x400000 ≤ f.addr) : (b.wr f v).cellView = b.cellView := by
  have hrd (g : Field) : (if g.key < 0x400000 * 8 then (b.wr f v).rd g else 0) = if g.key < 0x400000 * 8 then b.rd g else 0 := by
    split
    · exact Block.rd_wr_ne _ _ _ _ (beforeStage.ne ‹_› h)
    · rfl
  exact congrArg (fun r => (b.cells, b.evt.recov, r)) (funext hrd)

theorem Block.flag_cellView (f : Field) (p : Bool) (b : Block) (h : 0x400000 ≤ f.addr) :
    (b.flag f p).cellView = b.cellView := b.wr_cellView f _ h

theorem Block.count_cellView (f : Field) (n : Nat) (b : Block) (h : 0x400000 ≤ f.addr) :
    (b.count f n).cellView = b.cellView := b.wr_cellView f _ h

theorem Block.setBit_cellView (f : Field) (i : Nat) (p : Bool) (b : Block) (h : 0x400000 ≤ f.addr) :
    (b.setBit f i p).cellView = b.cellView := b.wr_cellView f _ h

theorem Block.eachOf_cellView {α : Type} (l : List α) (f : α → Block → Block) (b : Block)
    (h : ∀ i b, (f i b).cellView = b.cellView) : (b.eachOf l f).cellView = b.cellView := by
  unfold Block.eachOf
  induction l generalizing b with
  | nil => rfl
  | cons i r ih => rw [List.foldl_cons, ih, h]

theorem Block.each_cellView (n : Nat) (f : Nat → Block → Block) (b : Block) (h : ∀ i b, (f i b).cellView = b.cellView) :
    (b.each n f).cellView = b.cellView := b.eachOf_cellView (List.range n) f h

theorem Block.emit_cellView (o : Output) (b : Block) : (b.emit o).cellView = b.cellView := rfl

theorem Block.updLeg_cellView (l : Nat) (f : Leg → Leg) (b : Block) : (b.updLeg l f).cellView = b.cellView := rfl

theorem Block.updPort_cellView (p : Nat) (f : PortSt → PortSt) (b : Block) : (b.updPort p f).cellView = b.cellView := rfl

theorem Block.updLv_cellView (f : LvSt → LvSt) (b : Block) : (b.updLv f).cellView = b.cellView := rfl

theorem Block.updSafe_cellView (f : SafeSt → SafeSt) (b : Block) : (b.updSafe f).cellView = b.cellView := rfl

theorem Block.updConv_cellView (f : ConvSt → ConvSt) (b : Block) : (b.updConv f).cellView = b.cellView := rfl

theorem Block.updPair_cellView (f : PairSt → PairSt) (b : Block) : (b.updPair f).cellView = b.cellView := rfl

theorem Block.updEvt_cellView (f : EvtSt → EvtSt) (b : Block) (h : (f b.evt).recov = b.evt.recov) :
    (b.updEvt f).cellView = b.cellView := congrArg (fun r => (b.cells, r, b.cellView.2.2)) h

/-- The fields that the stage, the log and the actions of classes write lie from the registers of the local power stage on. -/
theorem late_addr : (∀ ch, 0x400000 ≤ (Reg.GATE_CH_STAT_GATE_OFF ch).addr) ∧ (∀ l, 0x400000 ≤ (Reg.PWM_LEG_STAT_STATE l).addr)
    ∧ (∀ k, 0x400000 ≤ (Reg.EVT_SRCk_COUNT k).addr) ∧ (∀ k, 0x400000 ≤ (Reg.EVT_SRCk_LATCHED k).addr)
    ∧ 0x400000 ≤ Reg.GATE_SS_STAT_CLOSED.addr ∧ 0x400000 ≤ Reg.PWM_BRK_STAT_ON.addr ∧ 0x400000 ≤ Reg.EVT_SUPP_CNT_COUNT.addr
    ∧ 0x400000 ≤ Reg.EVT_HALT_SOURCE.addr ∧ 0x400000 ≤ Reg.EVT_HALT_HALTED.addr ∧ 0x400000 ≤ Reg.SAFE_DEMAND_CNT_COUNT.addr
    ∧ 0x400000 ≤ Reg.SAFE_STAT_CAUSE.addr ∧ 0x400000 ≤ Reg.SAFE_STAT_STATE.addr := by
  refine ⟨?_, ?_, ?_, ?_, by decide⟩ <;> intro i
  · simp only [Reg.GATE_CH_STAT_GATE_OFF]; omega
  · simp only [Reg.PWM_LEG_STAT_STATE]; omega
  · simp only [Reg.EVT_SRCk_COUNT]; omega
  · simp only [Reg.EVT_SRCk_LATCHED]; omega

theorem Block.openSwitch_cellView (p : Nat) (soft : Bool) (b : Block) : (b.openSwitch p soft).cellView = b.cellView := by
  simp only [Block.openSwitch, Block.cellView_ite, ite_self, Block.emit_cellView, Block.updPort_cellView, Block.setBit_cellView,
    Block.flag_cellView, late_addr]

theorem Block.tryOpen_cellView (p : Nat) (b : Block) : (b.tryOpen p).cellView = b.cellView := by
  simp only [Block.tryOpen, Block.cellView_ite, ite_self, Block.openSwitch_cellView]

theorem Block.brakeStop_cellView (o : Output) (b : Block) : (b.brakeStop o).cellView = b.cellView := by
  simp only [Block.brakeStop, Block.cellView_ite, ite_self, Block.emit_cellView, Block.updLv_cellView, Block.wr_cellView,
    Block.flag_cellView, late_addr]

theorem Block.settleLeg_cellView (l : Nat) (b : Block) : (b.settleLeg l).cellView = b.cellView := by
  unfold Block.settleLeg
  extract_lets c
  have hc : c.cellView = b.cellView := by
    unfold c
    split
    · simp only [Block.cellView_ite, ite_self, Block.updLeg_cellView, Block.flag_cellView, late_addr]
    · rfl
  rw [← hc]
  split
  · simp only [Block.cellView_ite, ite_self, Block.emit_cellView, Block.updLeg_cellView, Block.flag_cellView,
      Block.wr_cellView, late_addr]
  · rfl

theorem Block.holdLeg_cellView (l : Nat) (soft : Bool) (b : Block) : (b.holdLeg l soft).cellView = b.cellView := by
  simp only [Block.holdLeg, Block.cellView_ite, ite_self, Block.emit_cellView, Block.updLeg_cellView, Block.wr_cellView,
    Block.flag_cellView, Block.brakeStop_cellView, Block.settleLeg_cellView, late_addr]

theorem Block.stopPort_cellView (p : Nat) (soft : Bool) (b : Block) : (b.stopPort p soft).cellView = b.cellView := by
  simp only [Block.stopPort, Block.tryOpen_cellView, Block.updPort_cellView, implies_true, Block.eachOf_cellView,
    Block.holdLeg_cellView]

theorem Block.blockStage_cellView (soft : Bool) (b : Block) : (b.blockStage soft).cellView = b.cellView := by
  simp only [Block.blockStage, implies_true, Block.each_cellView, Block.eachOf_cellView, Block.stopPort_cellView,
    Block.holdLeg_cellView]

theorem Block.latch_cellView (k cls : Nat) (b : Block) : (b.latch k cls).cellView = b.cellView := by
  simp only [Block.latch, Block.updEvt_cellView, Block.flag_cellView, late_addr]

theorem Block.blockAct_cellView (source : Nat) (b : Block) : (b.blockAct source).cellView = b.cellView := by
  simp only [Block.blockAct, Block.cellView_ite, ite_self, Block.updPair_cellView, Block.updEvt_cellView,
    Block.blockStage_cellView]

theorem Block.keepHalt_cellView (source : Nat) (b : Block) : (b.keepHalt source).cellView = b.cellView := by
  simp only [Block.keepHalt, Block.cellView_ite, ite_self, Block.flag_cellView, Block.wr_cellView, late_addr]

theorem Block.demandCause_cellView (cause : Nat) (b : Block) : (b.demandCause cause).cellView = b.cellView := by
  simp only [Block.demandCause, Block.cellView_ite, ite_self, Block.wr_cellView, late_addr]

theorem Block.decideRemoval_cellView (kind : Nat) (b : Block) : (b.decideRemoval kind).cellView = b.cellView := rfl

theorem Block.remove_cellView (partly : Bool) (b : Block) : (b.remove partly).cellView = b.cellView := by
  simp only [Block.remove, Block.cellView_ite, ite_self, Block.decideRemoval_cellView, Block.updSafe_cellView,
    Block.wr_cellView, late_addr]

theorem Block.demandHalt_cellView (partly : Bool) (b : Block) : (b.demandHalt partly).cellView = b.cellView := by
  simp only [Block.demandHalt, Block.remove_cellView, Block.demandCause_cellView, Block.count_cellView, Block.wr_cellView,
    late_addr]

/-- The action of a class fences no cell and decides no fence (R341). -/
theorem Block.classAct_cellView (source cls : Nat) (b : Block) : (b.classAct source cls).cellView = b.cellView := by
  unfold Block.classAct
  split <;> simp only [Block.cellView_ite, ite_self, Block.updConv_cellView, Block.latch_cellView, Block.blockAct_cellView,
    Block.keepHalt_cellView, Block.demandHalt_cellView]

/-- The record of an occurrence fences no cell (R346). -/
theorem Block.record_cellView (o : Occ) (cls : Nat) (recurs lockout : Bool) (b : Block) :
    (b.record o cls recurs lockout).cellView = b.cellView := by
  simp only [Block.record, Block.cellView_ite, ite_self, Block.updEvt_cellView, Block.count_cellView, late_addr]

/-! ### The fence of a cell by its own rule (R218, R232, R341) -/

theorem Block.rd_of_cellView {b x : Block} (h : x.cellView = b.cellView) {f : Field} (hf : beforeStage f) : x.rd f = b.rd f := by
  have := congrFun (congrArg (·.2.2) h) f
  unfold beforeStage at hf
  simpa [Block.cellView, hf] using this

/-- The module decides the fences of cells, slot `n` is in service or on its way, and no fence of it was decided for a cause
    other than `c` (R218, R231). -/
def Block.fenceOpen (n c : Nat) (b : Block) : Prop := b.holds = true ∧ 2 ≤ b.svc n ∧ (b.cell n).fence.getD c = c

/-- Moreover the recovery record of the slot says that it is fenced. -/
def Block.fencing (n c : Nat) (b : Block) : Prop := b.fenceOpen n c ∧ (b.recov n).fenced = true

section
variable {n c : Nat} {b x : Block}

theorem Block.fenceOpen.of_rd (h : b.fenceOpen n c) (hen : x.rd Reg.SYS_PAIR_CFG_EN = b.rd Reg.SYS_PAIR_CFG_EN)
    (htok : x.rd Reg.SYS_PAIR_STAT_TOKEN = b.rd Reg.SYS_PAIR_STAT_TOKEN) (hs : x.svc n = b.svc n)
    (hf : (x.cell n).fence = (b.cell n).fence) : x.fenceOpen n c := by
  obtain ⟨hh, hsv, hc⟩ := h
  refine ⟨?_, hs ▸ hsv, hf ▸ hc⟩
  rwa [Block.holds, Block.on, Block.on, hen, htok]

theorem Block.fenceOpen.of_cellView (hn : n < 192) (h : b.fenceOpen n c) (hv : x.cellView = b.cellView) : x.fenceOpen n c :=
  h.of_rd (Block.rd_of_cellView hv (by unfold beforeStage; decide)) (Block.rd_of_cellView hv (by unfold beforeStage; decide))
    (Block.rd_of_cellView hv (by simp only [beforeStage, Field.key, Reg.CELL_SLOT_STAT_STATE]; omega))
    (congrArg (fun v => (SMap.look default v.1.cells n).fence) hv)

theorem Block.fencing.of_cellView (hn : n < 192) (h : b.fencing n c) (hv : x.cellView = b.cellView) : x.fencing n c :=
  ⟨h.1.of_cellView hn hv, (congrArg (fun v => (SMap.look default v.2.1 n).fenced) hv).trans h.2⟩

theorem Block.fencing.updRecov (h : b.fencing n c) {f : Recov → Recov} (hf : ∀ r, (f r).fenced = r.fenced) :
    (b.updRecov n f).fencing n c :=
  ⟨h.1, by rw [Block.recov_updRecov_same, hf, h.2]⟩

theorem Block.fencing.updCell (h : b.fencing n c) {f : Cell → Cell} (hf : ∀ r, (f r).fence = r.fence) :
    (b.updCell n f).fencing n c :=
  ⟨h.1.of_rd rfl rfl rfl (by rw [Block.cell_updCell_same, hf]), h.2⟩

/-- The fence is decided for its cause (R218). -/
theorem Block.fenceOpen.decideFence (h : b.fenceOpen n c) : b.decideFence n c = b.updCell n fun x => { x with fence := some c } := by
  obtain ⟨hh, hs, hc⟩ := h
  have hs' : ¬ b.rd (Reg.CELL_SLOT_STAT_STATE n) < 2 := Nat.not_lt.mpr hs
  simp [Block.decideFence, hh, hs', Block.updCell, hc]

theorem Block.fencing.decideFence (h : b.fencing n c) : (b.decideFence n c).fencing n c := by
  rw [h.1.decideFence]
  obtain ⟨⟨hh, hs, -⟩, hr⟩ := h
  exact ⟨⟨hh, hs, by rw [Block.cell_updCell_same]; rfl⟩, hr⟩

theorem Block.fencing.onRecurrence (h : b.fencing n c) : (b.onRecurrence n).fencing n c := by
  unfold Block.onRecurrence
  refine Block.fencing.updRecov ?_ fun _ => rfl
  split
  · exact Block.fencing.updCell h fun _ => rfl
  · exact h

theorem Block.fencing.holdFenced (h : b.fencing n c) : (b.holdFenced n).fencing n c := h.updRecov fun _ => rfl

/-- The bookkeeping of a new fence leaves it open for its cause (R353). -/
theorem Block.fenceOpen.onFence (hn : n < 192) (h : b.fenceOpen n c) (allows : Bool) : (b.onFence n allows).fencing n c := by
  have hk (k : Nat) : (Reg.CELL_SLOT_STAT_STATE n).key ≠ (Reg.CELL_SLOT_STAT_LOCKOUT k).key := by
    simp only [Field.key, Reg.CELL_SLOT_STAT_STATE, Reg.CELL_SLOT_STAT_LOCKOUT]; omega
  have hl {f : Field} (hf : f.key < 0x340000) : f.key ≠ (Reg.CELL_SLOT_STAT_LOCKOUT n).key := by
    simp only [Field.key, Reg.CELL_SLOT_STAT_LOCKOUT] at *; omega
  unfold Block.onFence
  dsimp only
  rw [if_pos (by omega)]
  refine ⟨h.of_rd ?_ ?_ ?_ rfl, ?_⟩
  · rw [Block.rd_flag_ne _ _ _ _ (hl (by decide)), Block.updRecov_rd]
  · rw [Block.rd_flag_ne _ _ _ _ (hl (by decide)), Block.updRecov_rd]
  · rw [Block.svc, Block.rd_flag_ne _ _ _ _ (hk n), Block.updRecov_rd, Block.svc]
  · rw [Block.recov, Block.flag_evt]
    exact congrArg Recov.fenced (Block.recov_updRecov_same b n _)

theorem Block.fencing.recurs (hn : n < 192) (h : b.fencing n c) (o : Occ) (cls : Nat) : (b.recurs o n cls (some c)).fencing n c := by
  have hr : ((b.record o cls true false).onRecurrence n).fencing n c :=
    (h.of_cellView hn (Block.record_cellView _ _ _ _ _)).onRecurrence
  unfold Block.recurs
  dsimp only [Option.getD_some]
  split <;> split
  · exact hr.holdFenced.decideFence
  · exact hr.decideFence
  · exact hr.holdFenced
  · exact hr

theorem Block.fenceOpen.markHalt (h : b.fenceOpen n c) (cls : Nat) : (b.markHalt n cls).fenceOpen n c := by
  unfold Block.markHalt
  split <;> exact h

/-- An occurrence that names the cell fences it by its own rule (R341, R345). -/
theorem Block.fenceOpen.raiseUnit (hn : n < 192) (h : b.fenceOpen n c) {o : Occ} (ht : o.unitType = 1) (hi : o.idx = n)
    (cls : Nat) : (b.raiseUnit o cls (some c)).fencing n c := by
  have hm := h.markHalt cls
  unfold Block.raiseUnit
  rw [ht, hi, show unitKey 1 n = some n from rfl]
  dsimp only
  generalize b.markHalt n cls = y at hm ⊢
  have hy : y.fenceable 1 n = true := by
    obtain ⟨hh, hs, -⟩ := hm
    have : y.rd (Reg.CELL_SLOT_STAT_STATE n) ≠ 0 := fun h0 => absurd hs (by rw [Block.svc, h0]; decide)
    simp [Block.fenceable, hh, this]
  simp only [hy, Nat.reduceBEq, Bool.false_and, Bool.false_eq_true, if_false, Option.isSome_some, Bool.true_or, Bool.true_and,
    if_true, Option.getD_some]
  split
  · next hf => exact Block.fencing.recurs hn ⟨hm, hf⟩ o cls
  · exact ((hm.onFence hn _).of_cellView hn (Block.record_cellView _ _ _ _ _)).decideFence

theorem Block.fenceOpen.raiseOwn (hn : n < 192) (h : b.fenceOpen n c) {o : Occ} (ht : o.unitType = 1) (hi : o.idx = n)
    (hd : b.detects o = true) : (b.raiseOwn o (some c)).fencing n c := by
  unfold Block.raiseOwn
  rw [if_pos hd]
  exact (h.raiseUnit hn ht hi _).of_cellView hn (Block.classAct_cellView _ _ _)

/-- What fences the cell again decides no other cause, and touches no record (R218). -/
theorem Block.fencing.fenceSlot (h : b.fencing n c) :
    b.fenceSlot n c true = b.updCell n fun x => { x with fence := some c } := by
  obtain ⟨hh, hs, -⟩ := h.1
  have hs' : ¬ b.svc n < 2 := Nat.not_lt.mpr hs
  rw [← h.1.decideFence]
  simp [Block.fenceSlot, hh, hs', h.2]

end

/-! ### The log and the frame of an occurrence (R345 to R350) -/

/-- An occurrence that is detected and not held off is logged, whatever rule fences its unit. -/
theorem Block.raiseOwn_logs (o : Occ) (own : Option Nat) (b : Block) (h : Loggable b o) : Logs o b (b.raiseOwn o own) := by
  obtain ⟨hd, hh⟩ := h
  have hact := Block.classAct_heldRecs o.source (b.classOf o) (b.raiseUnit o (b.classOf o) own)
  simp only [Block.heldRecs] at hact
  unfold Block.raiseOwn Logs
  rw [if_pos hd, hact]
  unfold Block.raiseUnit
  split
  · exact Block.record_held o _ _ _ b hh
  next k _ =>
  have hm : (b.markHalt k (b.classOf o)).evt.held = b.evt.held := Block.markHalt_heldRecs k _ b
  have hlog (x y : Bool) := Block.record_held o (b.classOf o) x y (b.markHalt k (b.classOf o))
    ((Block.markHalt_heldOff k _ o _ b).trans hh)
  rw [hm] at hlog
  dsimp only
  split
  · exact hlog _ _
  split
  · rw [Block.recurs_held]
    exact hlog _ _
  split
  · have hf := fun x => Block.fenceUnit_heldRecs o.unitType o.idx (own.getD (degradeCause o.unitType)) x
    have hon := fun a => Block.onFence_heldRecs k a (b.markHalt k (b.classOf o))
    simp only [Block.heldRecs] at hf hon
    rw [hf, ← hm, ← hon]
    exact Block.record_held _ _ _ _ _ (by rw [Block.onFence_heldOff, Block.markHalt_heldOff, hh])
  · exact hlog _ _

theorem Block.keeps_of_still {b x : Block} (h : x.still = b.still) : Keeps raiseParts b x := by
  simp only [Block.still, Prod.mk.injEq] at h
  obtain ⟨⟨hfrozen, htb, hstrk, hcst, hjv⟩, ⟨hlanes, hchs, hadc, hptp⟩, hdma, hpow, hboot, hclk, hdraws⟩ := h
  intro p hp
  cases p
  case regs | evt | lv | cells | ctxs | conv | safe | pair | out => exact absurd (by decide) hp
  all_goals assumption

/-! ### A step that takes too long (R210, R214, R232) -/

theorem Block.advance_up (n : Nat) (b : Block) : (b.advance n).tb.up = b.tb.up + 1250 * n := by
  unfold Block.advance
  dsimp only
  split
  · rfl
  · split
    · rfl
    · split <;> rfl

theorem Block.le_untilUp (t : Nat) (b : Block) : t ≤ (b.untilUp t).tb.up := by
  rw [Block.untilUp, Block.advance_up, cdiv]
  omega

theorem Block.fenceOpen.untilUp {n c : Nat} {b : Block} (hn : n < 192) (h : b.fenceOpen n c) (t : Nat) :
    (b.untilUp t).fenceOpen n c := by
  obtain ⟨hregs, hk⟩ := b.advance_frame (cdiv (t - b.tb.up) 1250)
  have hs : (Reg.CELL_SLOT_STAT_STATE n).key ∉ adjFields.map Field.key := by
    simp only [adjFields, List.map_cons, List.map_nil, List.mem_cons, List.not_mem_nil, or_false, Field.key,
      Reg.CELL_SLOT_STAT_STATE, Reg.TIME_ADJ_CNT_CNT, Reg.TIME_STAT_ADJ_BUSY]
    omega
  exact h.of_rd (hregs _ (by decide)) (hregs _ (by decide)) (hregs _ hs)
    (congrArg (fun x => (SMap.look default x.cells n).fence) (hk .cells (by decide)))

/-- `t` is `b` with the occurrence `o` logged and the cell of slot `n` fenced for cause `c`. -/
def LogsAndFences (o : Occ) (n c : Nat) (b t : Block) : Prop :=
  Logs o b t ∧ (t.cell n).fence = some c ∧ (t.recov n).fenced = true ∧ t.still = b.still

/-- The occurrence that fences a cell by its own rule, and its fence (R218, R232). -/
theorem Block.fenceOpen.raiseOwn_fenceSlot {n c : Nat} {b : Block} (hn : n < 192) (h : b.fenceOpen n c) {o : Occ}
    (ht : o.unitType = 1) (hi : o.idx = n) (hl : Loggable b o) :
    LogsAndFences o n c b ((b.raiseOwn o (some c)).fenceSlot n c true) := by
  have hf := h.raiseOwn hn ht hi hl.1
  rw [hf.fenceSlot]
  exact ⟨Block.raiseOwn_logs o _ b hl, by rw [Block.cell_updCell_same], hf.2, by
    rw [Block.updCell_still, Block.raiseOwn_still]⟩

/-- A probing step that fails is logged, and the cell is fenced with cause 5 (R214, R232). -/
theorem Block.fenceOpen.probeFail {n : Nat} {b : Block} (hn : n < 192) (h : b.fenceOpen n 5)
    (hl : Loggable b { source := 102, unitType := 1, idx := n }) :
    LogsAndFences { source := 102, unitType := 1, idx := n } n 5 b (b.probeFail n) := by
  have hfence (x : Block) (hx : x.fenceOpen n 5) (hlx : Loggable x { source := 102, unitType := 1, idx := n }) (i : Bool) :
      LogsAndFences { source := 102, unitType := 1, idx := n } n 5 x
        ((x.raiseOwn { source := 102, unitType := 1, idx := n, injected := i } (some 5)).fenceSlot n 5 true) :=
    hx.raiseOwn_fenceSlot hn (o := { source := 102, unitType := 1, idx := n, injected := i }) rfl rfl hlx
  unfold Block.probeFail
  extract_lets host x
  have hx : x = b ∨ x = b.updRecov n fun r => { r with fenced := false } := by
    unfold x
    split <;> simp
  obtain hx | hx := hx <;> rw [hx]
  · exact hfence b h hl _
  · obtain ⟨hlog, hf, hr, hs⟩ := hfence (b.updRecov n fun r => { r with fenced := false }) h hl (b.lane n).inj
    exact ⟨hlog, hf, hr, hs⟩

/-- Time passes, and then the cell is fenced. -/
theorem LogsAndFences.untilUp {o : Occ} {n c x : Nat} {b t : Block} (h : LogsAndFences o n c (b.untilUp x) t) :
    Logs o (b.untilUp x) t ∧ (t.cell n).fence = some c ∧ (t.recov n).fenced = true ∧ x ≤ t.tb.up
      ∧ Keeps (.tb :: raiseParts) b t := by
  obtain ⟨hl, hf, hr, hs⟩ := h
  have hk := Block.keeps_of_still hs
  have htb : t.tb = (b.untilUp x).tb := hk .tb (by decide)
  exact ⟨hl, hf, hr, htb ▸ b.le_untilUp x, ((b.advance_frame _).2.mono (by decide)).trans (hk.mono (by decide))⟩

theorem Block.probeStepTimeout_eq {n : Nat} {b : Block} (hs : b.svc n = 2)
    (hp : (b.cell n).probe ∈ [Probe.link1, .link2, .reports]) (hf : (b.cell n).fence = none) :
    b.probeStepTimeout n = (b.untilUp ((b.cell n).entered + b.rd Reg.CELL_TIMEOUT_LINK_MS * msPs)).probeFail n := by
  simp only [List.mem_cons, List.not_mem_nil, or_false] at hp
  simp [Block.probeStepTimeout, hs, hf, hp]

theorem Block.chargingTimeout_eq {n : Nat} {b : Block} (hs : b.svc n = 3) (hf : (b.cell n).fence = none) :
    b.chargingTimeout n = ((b.untilUp ((b.cell n).entered + b.rd Reg.CELL_TIMEOUT_CHG_MS * msPs)).raiseOwn
      { source := 103, unitType := 1, idx := n } (some 6)).fenceSlot n 6 true := by
  simp [Block.chargingTimeout, hs, hf]

/-! ### Joining and service (R209, R215, R216) -/

theorem Block.updCell_keeps (n : Nat) (f : Cell → Cell) (b : Block) : Keeps [.cells] b (b.updCell n f) := by
  intro p hp
  cases p
  case cells => exact absurd (List.mem_singleton_self _) hp
  all_goals rfl

/-- A slot put in a service state (R209): it is entered now. -/
theorem Block.svcTo_enters {n st : Nat} (hst : st < 8) (spare : Bool) (b : Block) : (b.svcTo n st spare).svc n = st
    ∧ ((b.svcTo n st spare).cell n).entered = b.tb.up ∧ Keeps [.regs, .cells] b (b.svcTo n st spare) := by
  have hkeys : (Reg.CELL_SLOT_STAT_STATE n).key ≠ (Reg.CELL_SLOT_STAT_INSERTED n).key
      ∧ (Reg.CELL_SLOT_STAT_STATE n).key ≠ (Reg.CELL_SLOT_STAT_JOIN_CNT n).key
      ∧ (Reg.CELL_SLOT_STAT_STATE n).key ≠ (Reg.CELL_SLOT_STAT_SPARE n).key := by
    simp only [Field.key, Reg.CELL_SLOT_STAT_STATE, Reg.CELL_SLOT_STAT_INSERTED, Reg.CELL_SLOT_STAT_JOIN_CNT,
      Reg.CELL_SLOT_STAT_SPARE]
    omega
  obtain ⟨hins, hcnt, hspare⟩ := hkeys
  have wr (f : Field) (v : Nat) (x : Block) : Keeps [.regs, .cells] x (x.wr f v) := (x.wr_keeps f v).mono (by decide)
  unfold Block.svcTo
  refine ⟨?_, ?_, ?_⟩
  · rw [Block.svc, Block.updCell_rd, Block.rd_flag_ne _ _ _ _ hins, Block.rd_wr_ne _ _ _ _ hcnt,
      Block.rd_flag_ne _ _ _ _ hspare, Block.rd_wr_same]
    exact Nat.mod_eq_of_lt hst
  · rw [Block.cell_updCell_same]
    rfl
  · exact ((((wr _ _ _).trans (wr _ _ _)).trans (wr _ _ _)).trans (wr _ _ _)).trans ((Block.updCell_keeps _ _ _).mono (by decide))

/-- At a carrier boundary of a running, timed converter a cell with no fence decided whose charge has held goes to JOINING
    (R215). -/
theorem Block.chargeHoldMet_eq {n : Nat} {b : Block} (hh : b.holds = true) (hb : b.atBoundary = true)
    (hc : b.strk.carrier = true) (hr : b.running = true) (hu : b.strk.untimed = false) (h0 : b.runState ≠ 0)
    (hf : (b.cell n).fence = none) (hs : b.svc n = 3) (hrun : b.rd Reg.CELL_GCFG_HOLD ≤ (b.cell n).run) :
    b.chargeHoldMet n = b.svcTo n 4 false := by
  simp [Block.chargeHoldMet, Block.svcAdvance, hh, hb, hs, hc, hf, h0, hr, hu, hrun]

/-- At such a boundary a cell that has joined is in service (R216). -/
theorem Block.joiningComplete_eq {n : Nat} {b : Block} (hh : b.holds = true) (hb : b.atBoundary = true)
    (hc : b.strk.carrier = true) (hr : b.running = true) (hu : b.strk.untimed = false)
    (hf : (b.cell n).fence = none) (hs : b.svc n = 4) (hj : b.rd (Reg.CELL_SLOT_STAT_JOIN_CNT n) = 64)
    (hrun : 2 ≤ (b.cell n).run) : b.joiningComplete n = b.svcTo n 5 false := by
  simp [Block.joiningComplete, Block.svcAdvance, hh, hb, hs, hc, hf, hr, hu, hj, hrun]

/-! ### The beginning of a swap (R225) -/

theorem mem_armSlots {k x : Nat} : x ∈ armSlots k ↔ ∃ i : Fin 64, x = i + 64 * k := by
  simp only [armSlots, List.mem_map, List.mem_range]
  exact ⟨fun ⟨i, hi, he⟩ => ⟨⟨i, hi⟩, he.symm⟩, fun ⟨i, he⟩ => ⟨i, i.isLt, he.symm⟩⟩

/-- In RUN, with the arm at rest, a spare that sags begins a swap. -/
theorem Block.spareRotation_eq {k spare : Nat} {b : Block} (hh : b.holds = true) (hr : b.runState = 3)
    (ha : b.on (Reg.CELL_ARM_SWAP_ACTIVE k) = false) (hp : ∀ i : Fin 64, b.svc (i + 64 * k) ≠ 2) (hbusy : b.armBusy k = false)
    (hu : b.strk.untimed = false) (hs : b.sagging k = some spare) : b.spareRotation k = b.swapBegins k spare := by
  have hprobing : ((armSlots k).any fun s => b.svc s == 2) = false := by
    rw [List.any_eq_false]
    intro x hx
    obtain ⟨i, rfl⟩ := mem_armSlots.mp hx
    simpa using hp i
  simp [Block.spareRotation, hh, hr, ha, hprobing, hbusy, hu, hs]

/-- The registers show a swap's incoming spare, and the most worn active cell as the outgoing one. -/
theorem Block.swapBegins_shows {k spare out : Nat} {b : Block} (ho : b.mostWorn (b.activesOf k) = some out) :
    let t := b.swapBegins k spare
    t.on (Reg.CELL_ARM_SWAP_ACTIVE k) = true ∧ t.rd (Reg.CELL_ARM_SWAP_IN_SLOT k) = spare % 2 ^ 8
      ∧ t.rd (Reg.CELL_ARM_SWAP_OUT_SLOT k) = out % 2 ^ 8
      ∧ RegsBut [Reg.CELL_ARM_SWAP_ACTIVE k, Reg.CELL_ARM_SWAP_IN_SLOT k, Reg.CELL_ARM_SWAP_OUT_SLOT k] b t
      ∧ Keeps [.regs] b t := by
  have hkeys : (Reg.CELL_ARM_SWAP_IN_SLOT k).key ≠ (Reg.CELL_ARM_SWAP_ACTIVE k).key
      ∧ (Reg.CELL_ARM_SWAP_IN_SLOT k).key ≠ (Reg.CELL_ARM_SWAP_OUT_SLOT k).key
      ∧ (Reg.CELL_ARM_SWAP_OUT_SLOT k).key ≠ (Reg.CELL_ARM_SWAP_ACTIVE k).key := by
    simp only [Field.key, Reg.CELL_ARM_SWAP_IN_SLOT, Reg.CELL_ARM_SWAP_OUT_SLOT, Reg.CELL_ARM_SWAP_ACTIVE]
    omega
  obtain ⟨hia, hio, hoa⟩ := hkeys
  simp only [Block.swapBegins, ho]
  refine ⟨Block.on_flag_same _ _ _ Nat.one_pos, ?_, ?_, ?_, ?_⟩
  · rw [Block.rd_flag_ne _ _ _ _ hia, Block.rd_wr_ne _ _ _ _ hio, Block.rd_wr_same]
    rfl
  · rw [Block.rd_flag_ne _ _ _ _ hoa, Block.rd_wr_same]
    rfl
  · exact (((Block.wr_regsBut _ _ _).trans_append (Block.wr_regsBut _ _ _)).trans_append (Block.flag_regsBut _ _ _)).mono
      (by simp)
  · exact ((Block.wr_keeps _ _ _).trans (Block.wr_keeps _ _ _)).trans (Block.wr_keeps _ _ _)

/-! ### Block symbols (R36, R197) -/

/-- What one of the operations on a list's members brings about, and every one of them keeps, holds afterwards. -/
theorem Block.eachOf_reaches {α : Type} {xs : List α} {f : α → Block → Block} {inv goal : Block → Prop} {x : α}
    (hx : x ∈ xs) (hinv : ∀ y b, inv b → inv (f y b)) (hgoal : ∀ b, inv b → goal (f x b))
    (hkeep : ∀ y b, inv b → goal b → goal (f y b)) {b : Block} (hb : inv b) : goal (b.eachOf xs f) := by
  unfold Block.eachOf
  have rest (ys : List α) (c : Block) (hc : inv c) (hg : goal c) : goal (ys.foldl (fun b i => f i b) c) := by
    induction ys generalizing c with
    | nil => exact hg
    | cons y ys ih => exact ih _ (hinv y c hc) (hkeep y c hc hg)
  induction xs generalizing b with
  | nil => cases hx
  | cons y ys ih =>
    obtain rfl | hx := List.mem_cons.mp hx
    · exact rest ys _ (hinv x b hb) (hgoal b hb)
    · exact ih hx (hinv y b hb)

/-- Block symbols for stroke `num` went out on lane `l`, in place of its frame. -/
def BlockSent (l num : Nat) (t : Block) : Prop :=
  .block l ∈ t.out ∧ (t.lane l).cut = true ∧ (t.lane l).blockedAt = some num

theorem Block.updLane_keeps (l : Nat) (f : Lane → Lane) (b : Block) : Keeps [.lanes] b (b.updLane l f) := by
  intro p hp
  cases p
  case lanes => exact absurd (List.mem_singleton_self _) hp
  all_goals rfl

theorem Block.emitLane_keeps (o : Output) (b : Block) : Keeps [.out] b (b.emitLane o) :=
  Keeps.ite (fun _ => b.emit_keeps o) fun _ => Keeps.refl _ b

theorem Block.sendBlock_keeps (l : Nat) (b : Block) : Keeps [.lanes, .out] b (b.sendBlock l) :=
  ((b.updLane_keeps l _).mono (by decide)).trans ((Block.emitLane_keeps _ _).mono (by decide))

theorem Block.sendBlocks_keeps (b : Block) : Keeps [.lanes, .out] b b.sendBlocks :=
  Block.eachOf_keeps _ _ (fun l _ _ => Keeps.ite (fun _ => Block.sendBlock_keeps l _) fun _ => Keeps.refl _ _) b

/-- With the transmitters lit a block goes out. -/
theorem Block.sendBlock_out {b : Block} (hc : b.boot.configured = true) (he : b.rd Reg.CLK_EARLY_DOMAINS = 0) (l : Nat) :
    (b.sendBlock l).out = .block l :: b.out := by
  rw [Block.sendBlock, Block.emitLane, Block.updLane_boot, Block.updLane_rd, hc, he]
  rfl

theorem Block.sendBlock_lane (l m : Nat) (b : Block) : (b.sendBlock l).lane m
    = (b.updLane l fun x => { x with blockedAt := some b.strk.num, cut := true }).lane m :=
  congrArg (SMap.look default · m) (Block.emitLane_keeps _ _ .lanes (by decide))

theorem Block.sendBlock_sent {b : Block} (hc : b.boot.configured = true) (he : b.rd Reg.CLK_EARLY_DOMAINS = 0) (l : Nat) :
    BlockSent l b.strk.num (b.sendBlock l) := by
  rw [BlockSent, Block.sendBlock_out hc he, Block.sendBlock_lane, Block.lane_updLane_same]
  exact ⟨List.mem_cons_self, rfl, rfl⟩

theorem BlockSent.sendBlock {l : Nat} {b : Block} (hc : b.boot.configured = true) (he : b.rd Reg.CLK_EARLY_DOMAINS = 0)
    (h : BlockSent l b.strk.num b) (m : Nat) : BlockSent l b.strk.num (b.sendBlock m) := by
  by_cases hm : l = m
  · exact hm ▸ b.sendBlock_sent hc he l
  · rw [BlockSent, Block.sendBlock_out hc he, Block.sendBlock_lane, Block.lane_updLane_ne _ _ _ _ hm]
    exact ⟨List.mem_cons_of_mem _ h.1, h.2⟩

/-- Block symbols go out on every active lane (R197). -/
theorem Block.sendBlocks_sent {b : Block} (hc : b.boot.configured = true) (he : b.rd Reg.CLK_EARLY_DOMAINS = 0) {l : Nat}
    (hl : l < 192) (ha : b.rd (Reg.LINK_STAT_STATE l) = 4) : BlockSent l b.strk.num b.sendBlocks := by
  have hsend (x : Block) (h : Keeps [.lanes, .out] b x) : x.boot.configured = true ∧ x.rd Reg.CLK_EARLY_DOMAINS = 0
      ∧ x.rd (Reg.LINK_STAT_STATE l) = 4 ∧ x.strk = b.strk := by
    have hr : x.regs = b.regs := h .regs (by decide)
    have hb : x.boot = b.boot := h .boot (by decide)
    exact ⟨hb ▸ hc, by rw [Block.rd, hr]; exact he, by rw [Block.rd, hr]; exact ha, h .strk (by decide)⟩
  refine Block.eachOf_reaches (inv := Keeps [.lanes, .out] b) (List.mem_range.mpr hl) (fun m x h => ?_) (fun x h => ?_)
    (fun m x h hg => ?_) (Keeps.refl _ b)
  · exact h.trans (Keeps.ite (fun _ => x.sendBlock_keeps m) fun _ => Keeps.refl _ x)
  · obtain ⟨hc, he, ha, hs⟩ := hsend x h
    rw [if_pos ha, ← hs]
    exact x.sendBlock_sent hc he l
  · obtain ⟨hc, he, -, hs⟩ := hsend x h
    split
    · rw [← hs] at hg ⊢
      exact hg.sendBlock hc he m
    · exact hg

/-! ### The statement -/

theorem Block.updEvt_keeps (f : EvtSt → EvtSt) (b : Block) : Keeps [.evt] b (b.updEvt f) := by
  intro p hp
  cases p
  case evt => exact absurd (List.mem_singleton_self _) hp
  all_goals rfl

/-- Settles O52: the two timeouts fence by the cell's own rule, each of the other commands comes to one change of state. -/
theorem cellService : Obligations.CellService := by
  intro s n k
  have hopen (c : Nat) (hh : s.blk.holds = true) (hs : 2 ≤ s.blk.svc n) (hf : (s.blk.cell n).fence = none) (t : Nat) :
      (s.blk.untilUp t).fenceOpen n c :=
    Block.fenceOpen.untilUp n.isLt ⟨hh, hs, by rw [hf]; rfl⟩ t
  refine ⟨fun hs hh hp hf hl => ?_, fun hs hh hf hl => ?_, fun hh hb hc hr hu h0 hf => ⟨fun hs hrun => ?_, fun hs hj hrun => ?_⟩,
    fun hb i hi => ?_, fun spare out hh hr ha hp hbusy hu hs ho => ?_, fun hd hc he => ?_, fun hd => ?_⟩
  · refine does_onBlk (f := fun b => b.probeStepTimeout n) rfl ?_
    rw [Block.probeStepTimeout_eq hs hp hf]
    exact ((hopen 5 hh (by omega) hf _).probeFail n.isLt hl).untilUp
  · refine does_onBlk (f := fun b => b.chargingTimeout n) rfl ?_
    rw [Block.chargingTimeout_eq hs hf]
    exact ((hopen 6 hh (by omega) hf _).raiseOwn_fenceSlot n.isLt rfl rfl hl).untilUp
  · refine does_onBlk (f := fun b => b.chargeHoldMet n) rfl ?_
    rw [Block.chargeHoldMet_eq hh hb hc hr hu h0 hf hs hrun]
    exact Block.svcTo_enters (by decide) _ _
  · refine does_onBlk (f := fun b => b.joiningComplete n) rfl ?_
    rw [Block.joiningComplete_eq hh hb hc hr hu hf hs hj hrun]
    exact Block.svcTo_enters (by decide) _ _
  · simp only [List.mem_cons, List.not_mem_nil, or_false] at hi
    obtain rfl | rfl := hi
    · refine does_onBlk (f := fun b => b.chargeHoldMet n) rfl ?_
      rw [Block.chargeHoldMet, hb]
      simpa using ⟨RegsBut.refl _ _, Keeps.refl _ _⟩
    · refine does_onBlk (f := fun b => b.joiningComplete n) rfl ?_
      rw [Block.joiningComplete, hb]
      simpa using ⟨RegsBut.refl _ _, Keeps.refl _ _⟩
  · refine does_onBlk (f := fun b => b.spareRotation k) rfl ?_
    rw [Block.spareRotation_eq hh hr ha hp hbusy hu hs]
    exact Block.swapBegins_shows ho
  · refine does_onBlk (f := fun b => b.blockDecision) rfl ?_
    have hk := s.blk.sendBlocks_keeps
    have hevt : s.blk.sendBlocks.evt = s.blk.evt := hk .evt (by decide)
    have hregs : s.blk.sendBlocks.regs = s.blk.regs := hk .regs (by decide)
    rw [Block.blockDecision, if_pos hd]
    refine ⟨by rw [Block.updEvt_evt, hevt], fun l hl => ?_, RegsBut.of_regs (by rw [Block.updEvt_regs, hregs]),
      (hk.mono (by decide)).trans ((Block.updEvt_keeps _ _).mono (by decide))⟩
    rw [Block.updEvt_out, Block.lane, Block.updEvt_lanes]
    exact Block.sendBlocks_sent hc he l.isLt hl
  · refine does_onBlk (f := fun b => b.blockDecision) rfl ?_
    rw [Block.blockDecision, hd]
    exact ⟨RegsBut.refl _ _, Keeps.refl _ _⟩

end Sys2Proof.Machine
end

section
/-! PROOFS. The machine as a whole: the front command of a step, no command that stops, and which commands change the images
    in flash (R69, R86, R87, R396, R415). -/

namespace Sys2Proof.Machine

/-- Settles O1: the definition of a step, one branch for each shape of the queue. -/
theorem stepRunsTheFrontCommand : Obligations.StepRunsTheFrontCommand := by
  unfold Obligations.StepRunsTheFrontCommand
  refine ⟨fun c rest s h => ?front, fun s h => ?idle⟩
  case front => simp only [step, h]
  case idle => simp only [step, h, State.idle]

/-- The meaning of every command is a change of the block alone. -/
theorem exec_onBlk (c : Instr) : ∃ f : Block → Block, ∀ s, exec c s = s.onBlk f := by
  cases c
  case reset rq level key =>
    exact ⟨fun b => (b.serve rq 0xA0 true false (·.resetCommand level.toNat key.toNat)).coreTakes, fun _ => rfl⟩
  case timingLost => exact ⟨fun b => b.timingLost (b.rd Reg.SYS_CONV_STAT_UNTIMED), fun _ => rfl⟩
  case ledgerCommitDone ok => exact ⟨fun b => (b.bulkShare 9).ledgerCommitDone ok, fun _ => rfl⟩
  case clockMonitorFail mon => exact ⟨fun b => (b.clockMonitorFail (monNum mon)).copiesSettle, fun _ => rfl⟩
  all_goals exact ⟨_, fun _ => rfl⟩

/-- Settles O2: a change of the block always has a next state, and leaves the queue of the state. -/
theorem noCommandStops : Obligations.NoCommandStops := by
  unfold Obligations.NoCommandStops
  intro c s
  obtain ⟨f, hf⟩ := exec_onBlk c
  exact ⟨{ s with blk := f s.blk }, hf s, rfl⟩

/-! ### The images in flash -/

/-- A command leaves the images in flash as they are. -/
def KeepsImages (c : Instr) : Prop := ∀ s t, exec c s = .next t → t.blk.images = s.blk.images

theorem images_of_onBlk {c : Instr} {f : Block → Block} {s t : State} (hx : exec c s = s.onBlk f)
    (h : (f s.blk).images = s.blk.images) (ht : exec c s = .next t) : t.blk.images = s.blk.images := by
  rw [hx, State.onBlk_next] at ht
  obtain rfl := Host.Outcome.next.inj ht
  exact h

theorem KeepsImages.of_onBlk {c : Instr} {f : Block → Block} (hx : ∀ s, exec c s = s.onBlk f)
    (h : ∀ b, (f b).images = b.images) : KeepsImages c :=
  fun s _ ht => images_of_onBlk (hx s) (h s.blk) ht

theorem KeepsImages.of_kept {c : Instr} {f : Block → Block} (hx : ∀ s, exec c s = s.onBlk f)
    (h : ∀ b, (f b).quiet.2 = b.quiet.2) : KeepsImages c :=
  .of_onBlk hx fun b => Block.images_eq (h b)

theorem Block.imageActivate_quiet (type : Nat) (b : Block) : (b.imageActivate type).1.quiet = b.quiet := by
  unfold Block.imageActivate
  split
  · rfl
  split
  · rfl
  split
  · rfl
  split
  · rfl
  · exact Block.fwBegin_quiet ..

/-- What a cage holds is not held in flash. -/
theorem Block.xcvrRemove_images (c : Cage) (b : Block) : (b.xcvrRemove c).images = b.images :=
  congrArg (fun q => q.2.2) (Block.cageDown_quiet c (b.updPow fun p => { p with cages := SMap.erase (cageNum c) p.cages }))

theorem Block.xcvrInsert_images (c : Cage) (ty : XcvrType) (mW : Nat) (b : Block) :
    (b.xcvrInsert c ty mW).images = b.images := by
  by_cases h : accepts c ty = true ∧ mW ≤ allowance c
  · rw [Block.xcvrInsert_accepted h.1 h.2]
    rfl
  · rw [Block.xcvrInsert_refused h, Block.xcvrRemove_images]

/-- Without an IMAGE_ACTIVATE that waits for it, the end of programming changes no image. -/
theorem Block.imageProgramDone_images {ty : ImgType} {b : Block} (h : b.headWait ≠ some (.activate ty)) :
    (b.imageProgramDone ty).images = b.images := by
  refine Block.images_eq (congrArg Prod.snd ?_)
  simp only [Block.imageProgramDone, if_neg h, Block.quiet_ite, Block.finish_quiet, Block.fwEnd_quiet, Block.bulkShare_quiet,
    ite_self]

/-- Every command but the two that stage and activate an image leaves the images as they are. -/
theorem keepsImages_of_ne (c : Instr) (hw : ∀ rq type off data, c ≠ .imageWrite rq type off data)
    (hp : ∀ ty, c ≠ .imageProgramDone ty) : KeepsImages c := by
  cases c
  case imageWrite rq type off data => exact absurd rfl (hw rq type off data)
  case imageProgramDone ty => exact absurd rfl (hp ty)
  case transceiverInsert c ty mW => exact .of_onBlk (fun _ => rfl) (Block.xcvrInsert_images c ty mW)
  case transceiverRemove c => exact .of_onBlk (fun _ => rfl) (Block.xcvrRemove_images c)
  case reset rq level key =>
    exact .of_kept (f := fun b => (b.serve rq 0xA0 true false (·.resetCommand level.toNat key.toNat)).coreTakes)
      (fun _ => rfl) fun b => by rw [Block.coreTakes_quiet, Block.serve_quiet _ _ _ _ _ _ fun _ => Block.resetCommand_quiet ..]
  case timingLost =>
    exact .of_kept (f := fun b => b.timingLost (b.rd Reg.SYS_CONV_STAT_UNTIMED)) (fun _ => rfl) fun b => by
      rw [Block.timingLost_quiet]
  case ledgerCommitDone ok =>
    exact .of_kept (f := fun b => (b.bulkShare 9).ledgerCommitDone ok) (fun _ => rfl) fun b => by
      rw [Block.ledgerCommitDone_quiet, Block.bulkShare_quiet]
  case clockMonitorFail mon =>
    exact .of_kept (f := fun b => (b.clockMonitorFail (monNum mon)).copiesSettle) (fun _ => rfl) fun b => by
      rw [Block.copiesSettle_quiet, Block.clockMonitorFail_quiet]
  case regWriteBlock => exact .of_kept (fun _ => rfl) fun b => Block.serve_kept _ _ _ _ _ b fun _ => Block.writeCommand_kept ..
  all_goals
    refine .of_kept (fun _ => rfl) fun b => ?_
    simp only [implies_true, Block.imageActivate_quiet, Block.autoReadmit_quiet,
      Block.packetRx_quiet, Block.arpRequest_quiet, Block.serveRead_quiet, Block.serveWrite_kept,
      Block.readBlock_quiet, Block.castCommand_quiet, Block.castAtCommand_quiet, Block.discardCommand_quiet,
      Block.imageRead_quiet, Block.streamOpen_quiet, Block.streamClose_quiet, Block.startCommand_quiet,
      Block.stopCommand_quiet, Block.safeStop_quiet, Block.fenceCommand_quiet, Block.reseatCommand_quiet,
      Block.eventRead_quiet, Block.eventAck_quiet, Block.faultClear_quiet, Block.inject_quiet,
      Block.latencyTol_quiet, Block.imageVerify_quiet, Block.attest_quiet, Block.queryLast_quiet,
      Block.plinthExit_quiet, Block.servePart_kept, Block.strokeTick_kept, Block.reportWindowClose_quiet,
      Block.chiselCompile_quiet, Block.resyncEnd_quiet, Block.imageFreeze_quiet, Block.strokeChannelRun_quiet,
      Block.hostChannelDone_quiet, Block.dmaBusError_quiet, Block.timingRestored_quiet, Block.convCondition_quiet,
      Block.prechargeTimeout_quiet, Block.syncTimeout_quiet, Block.gridLock_quiet, Block.gridLost_quiet,
      Block.headroomRow_quiet, Block.ctxSourceLost_quiet, Block.pairFrameRx_quiet, Block.pairLost_quiet,
      Block.pairWaitTimeout_quiet, Block.beaconBurstSend_quiet, Block.beaconAnswerRx_quiet, Block.lightLoss_quiet,
      Block.blockLockGain_quiet, Block.blockLockLoss_quiet, Block.markerRx_quiet, Block.trainLocked_quiet,
      Block.trainTimeout_quiet, Block.echoRspRx_quiet, Block.echoTimeout_quiet, Block.capabilityFrameRx_quiet,
      Block.capexTimeout_quiet, Block.reportFrameRx_quiet, Block.testPatternStart_quiet, Block.testEnd_quiet,
      Block.testDarkEnd_quiet, Block.testResultTimeout_quiet, Block.eyeScan_quiet, Block.blockDecision_quiet,
      Block.probeStepTimeout_quiet, Block.chargeHoldMet_quiet, Block.joiningComplete_quiet,
      Block.chargingTimeout_quiet, Block.spareRotation_quiet, Block.wearIndexCompute_quiet, Block.ledgerBegin_quiet,
      Block.pwmUpdatePoint_quiet, Block.legEdge_quiet, Block.bootstrapRefresh_quiet, Block.interlockAct_quiet,
      Block.interlockPersist_quiet, Block.desatDetect_quiet, Block.fastCurrentTrip_quiet, Block.gateStuck_quiet,
      Block.staticShort_quiet, Block.tripInput_quiet, Block.gateUvlo_quiet, Block.diagPhaseEnd_quiet,
      Block.brakeOn_quiet, Block.brakeOff_quiet, Block.brakeLong_quiet, Block.portCloseSettled_quiet,
      Block.portCloseFail_quiet, Block.cotComparatorFire_quiet, Block.onTimeEnd_quiet, Block.diodeEmulationEnd_quiet,
      Block.fastLimitTrip_quiet, Block.hiccupCondition_quiet, Block.softStartCheck_quiet, Block.hiccupOffEnd_quiet,
      Block.portStopComplete_quiet, Block.portRetryReset_quiet, Block.fallbackHostLoss_quiet,
      Block.fallbackPin_quiet, Block.vselSample_quiet, Block.adcSlotConversion_quiet, Block.adcHandover_quiet,
      Block.adcCalComplete_quiet, Block.adjustmentEnd_quiet, Block.ptpMessageRx_kept, Block.pdelayReqSend_quiet,
      Block.ptpDomainLost_quiet, Block.tsEdge_quiet, Block.holdoverOf_quiet, Block.pllRelock_quiet,
      Block.pllBandFail_quiet, Block.clockMonitorPass_quiet, Block.eventNumbering_quiet, Block.eventCommit_quiet,
      Block.contactOpen_quiet, Block.testPulseEnd_quiet, Block.discrepancyTime_quiet, Block.safeResetEdge_quiet,
      Block.safeFrameRx_quiet, Block.safeCopyExpiry_quiet, Block.safeFrameWatch_quiet, Block.safeRampTimeout_quiet,
      Block.gateRemoval_quiet, Block.removalReadbackFail_quiet, Block.diagFail_quiet, Block.safeAutoStart_quiet,
      Block.thermalRead_quiet, Block.sensorDisagree_quiet, Block.moveDone_kept, Block.wakeN_quiet,
      Block.supplySag_quiet, Block.sagLevel2_quiet, Block.sagRecover_quiet, Block.brownout_quiet,
      Block.powerOnReset_kept, Block.resetPin_quiet, Block.resetTakes_kept, Block.watchdogExpiry_quiet,
      Block.lockstepMismatch_quiet, Block.sramUncorr_quiet, Block.regParity_quiet, Block.scrubPass_quiet,
      Block.wearMove_quiet, Block.coreRestart_quiet, Block.strokeWatchExpiry_quiet, Block.domainRelease_quiet,
      Block.startConfigLoad_quiet, Block.startComplete_quiet, Block.startTimeout_quiet, Block.contactClose_quiet,
      Block.testPulseStart_quiet, Block.gateOffConfirmed_quiet, Block.gate24Change_quiet, Block.prbsSyncGain_quiet,
      Block.prbsSyncLoss_quiet, Block.bitLockChange_quiet, Block.lightReturn_quiet, Block.streamDrained_quiet,
      Block.stationLinkChange_quiet, Block.imageWriteTimeout_quiet, Block.imageVerifyDone_quiet,
      Block.restoreReadbackFail_quiet, Block.debugOverride_quiet, Block.serve_quiet, 
      Block.outOfBand_quiet]

/-- Settles O7: of the commands that reach flash, the end of programming alone is left, and it puts an image there for an
    IMAGE_ACTIVATE only. -/
theorem imagesChangeOnlyByImageCommands : Obligations.ImagesChangeOnlyByImageCommands := by
  unfold Obligations.ImagesChangeOnlyByImageCommands
  intro c s t ht hw hp
  by_cases hc : ∃ ty, c = .imageProgramDone ty
  · obtain ⟨ty, rfl⟩ := hc
    exact images_of_onBlk (f := fun b => b.imageProgramDone ty) rfl (Block.imageProgramDone_images (hp ty rfl)) ht
  · exact keepsImages_of_ne c hw (fun ty h => hc ⟨ty, h⟩) s t ht

end Sys2Proof.Machine
end

section
/-! PROOFS. The commands that only answer, the commands of the converter and the cells, and the reset commands
    (R55, R67 to R69, R73, R80, R81, R89 to R92, R123, R362 to R364). -/

namespace Sys2Proof.Machine

/-! ### Out of band (R68) -/

/-- The reply to an out-of-band command is the last output, and the flag of the restart is all it writes (R68). -/
theorem Block.send_frame (rq : Req) (op st d : Nat) (p : List Byte) (b : Block) :
    Replied (b.send (b.replyOf rq op st d p)) rq op st d p
    ∧ RegsBut [Reg.SYS_CMD_STAT_RESTARTED] b (b.send (b.replyOf rq op st d p))
    ∧ Keeps [.regs, .out] b (b.send (b.replyOf rq op st d p)) :=
  ⟨⟨_, rfl, rfl, rfl, rfl, rfl, rfl, rfl⟩, Block.flag_regsBut _ _ (b.emit _),
    ((Block.emit_keeps _ b).mono (by decide)).trans ((Block.wr_keeps _ _ _).mono (by decide))⟩

/-- An out-of-band command of a module whose cores are up, allowed in plinth mode or met outside of it, is answered. -/
theorem Block.outOfBand_answered {rq : Req} {op : Nat} {f : Block → Block × List Byte} {b : Block}
    (hr : b.released 6 = true) (hp : (b.boot.plinth && !plinthOps.contains op) = false) :
    b.outOfBand rq op f = (f b).1.send ((f b).1.replyOf rq op stOk 0 (f b).2) := by
  unfold Block.outOfBand
  rw [hr, hp]
  rfl

/-- Settles O38: the commands in the queue end with their reply alone, and the others with their output alone. -/
theorem answeringCommands : Obligations.AnsweringCommands := by
  unfold Obligations.AnsweringCommands
  intro s rq payload off len port ip sender mac
  have only := fun st d p => Block.finish_only s.blk st d p
  refine ⟨fun ht hl => ?ping, fun ht => ?ident, fun ht h1 h2 h3 ha hb => ?read, fun ht h1 h2 h3 h => ?bad,
    fun hr => ?query, fun h4 hlink hc hu hip => ?arp, fun h => ?quiet⟩
  case ping => exact does_serve rfl ht (by decide) (decide_eq_true hl) rfl rfl rfl (only _ _ _)
  case ident => exact does_serve rfl ht (by decide) rfl rfl rfl rfl (only _ _ _)
  case read =>
    have he : s.blk.imageRead off.toNat len.toNat = (s.blk, ok (be 8 s.blk.frozenNum ++ be 4 off.toNat ++ be 2 len.toNat
        ++ zeros 2 ++ s.blk.imageBytes off.toNat (len.toNat / 4))) := if_neg (by omega)
    exact does_serve rfl ht (by decide) (decide_eq_true ⟨h1, h2, h3⟩) rfl he rfl (only _ _ _)
  case bad =>
    have he : s.blk.imageRead off.toNat len.toNat = (s.blk, badAddress) := if_pos h
    exact does_serve rfl ht (by decide) (decide_eq_true ⟨h1, h2, h3⟩) rfl he rfl (only _ _ _)
  case query =>
    refine does_onBlk (f := (·.outOfBand rq 0x90 (·.queryLast))) rfl ?_
    rw [Block.outOfBand_answered hr (by simp [plinthOps])]
    exact Block.send_frame rq 0x90 stOk 0 _ s.blk
  case arp =>
    refine does_onBlk (f := (·.arpRequest port ip sender mac)) rfl ?_
    have he : s.blk.arpRequest port ip sender mac = s.blk.emit (.arp port ip sender mac) := by
      simp [Block.arpRequest, h4, hlink, hc, hu, hip]
    rw [he]
    exact ⟨rfl, RegsBut.refl _ _, Block.emit_keeps _ _⟩
  case quiet =>
    refine does_onBlk (f := (·.arpRequest port ip sender mac)) rfl ?_
    have he : s.blk.arpRequest port ip sender mac = s.blk := by
      obtain h | h := h <;> simp [Block.arpRequest, h]
    rw [he]
    exact ⟨RegsBut.refl _ _, Keeps.refl _ _⟩


/-! ### The converter and the cells -/

theorem Block.updConv_keeps (f : ConvSt → ConvSt) (b : Block) : Keeps [.conv] b (b.updConv f) := by
  intro p hp
  cases p
  case conv => exact absurd (List.mem_singleton_self _) hp
  all_goals rfl

theorem Block.updSafe_keeps (f : SafeSt → SafeSt) (b : Block) : Keeps [.safe] b (b.updSafe f) := by
  intro p hp
  cases p
  case safe => exact absurd (List.mem_singleton_self _) hp
  all_goals rfl

theorem Block.updRecov_keeps (k : Nat) (f : Recov → Recov) (b : Block) : Keeps [.evt] b (b.updRecov k f) := by
  intro p hp
  cases p
  case evt => exact absurd (List.mem_singleton_self _) hp
  all_goals rfl

/-- Every cause that CONVERTER_START is denied for fits its field (R123). -/
theorem Block.startErr_lt (b : Block) : b.startErr < 2 ^ 8 := by
  have hb : b.startErr ≤ 6 := by
    unfold Block.startErr Block.startErrHeld
    repeat' split
    all_goals decide
  omega

theorem Block.onFence_keeps (k : Nat) (allows : Bool) (b : Block) : Keeps [.regs, .evt] b (b.onFence k allows) := by
  have h := fun f => (b.updRecov_keeps k f).mono (m := [.regs, .evt]) (by decide)
  exact Keeps.ite (fun _ => (h _).trans ((Block.wr_keeps _ _ _).mono (by decide))) fun _ => h _

theorem Block.decideFence_keeps (n c : Nat) (b : Block) : Keeps [.cells] b (b.decideFence n c) :=
  Keeps.ite (fun _ => Keeps.refl _ _) fun _ => b.updCell_keeps n _

/-- The fence of a cell in service is decided with its record and its cell alone (R218, R353). -/
theorem Block.fenceSlot_keeps (n c : Nat) (allows : Bool) (b : Block) :
    Keeps [.regs, .evt, .cells] b (b.fenceSlot n c allows) := by
  have open_ : Keeps [.regs, .evt, .cells] b
      (if !(b.recov n).fenced then b.onFence n allows else if allows then b else b.holdFenced n) :=
    Keeps.ite (fun _ => (b.onFence_keeps n allows).mono (by decide)) fun _ =>
      Keeps.ite (fun _ => Keeps.refl _ b) fun _ => (b.updRecov_keeps n _).mono (by decide)
  exact Keeps.ite (fun _ => Keeps.refl _ b) fun _ => open_.trans ((Block.decideFence_keeps _ _ _).mono (by decide))

theorem Block.onFence_fenced {n : Nat} (allows : Bool) (b : Block) :
    ((b.onFence n allows).recov n).fenced = true ∧ (b.onFence n allows).svc n = b.svc n := by
  have hk : (Reg.CELL_SLOT_STAT_STATE n).key ≠ (Reg.CELL_SLOT_STAT_LOCKOUT n).key := by
    simp only [Field.key, Reg.CELL_SLOT_STAT_STATE, Reg.CELL_SLOT_STAT_LOCKOUT]; omega
  unfold Block.onFence
  dsimp only
  split
  · exact ⟨by rw [Block.recov, Block.flag_evt]; exact congrArg Recov.fenced (Block.recov_updRecov_same b n _),
      Block.rd_flag_ne _ _ _ _ hk⟩
  · exact ⟨congrArg Recov.fenced (Block.recov_updRecov_same b n _), rfl⟩

theorem Block.decideFence_recov (n c : Nat) (b : Block) :
    (b.decideFence n c).recov n = b.recov n ∧ (b.decideFence n c).svc n = b.svc n := by
  unfold Block.decideFence
  split <;> exact ⟨rfl, rfl⟩

/-- A cell that is fenced where the module decides it is in its record, its service state left for the boundary (R218, R353). -/
theorem Block.fenceSlot_fenced {n : Nat} (c : Nat) {b : Block} (hh : b.holds = true) (hs : 2 ≤ b.svc n) :
    ((b.fenceSlot n c false).recov n).fenced = true ∧ (b.fenceSlot n c false).svc n = b.svc n := by
  have hg : (!b.holds || decide (b.svc n < 2)) = false := by simp [hh]; omega
  unfold Block.fenceSlot
  rw [hg]
  simp only [Bool.false_eq_true, if_false]
  obtain ⟨hr, hv⟩ := Block.decideFence_recov n c (if !(b.recov n).fenced then b.onFence n false else b.holdFenced n)
  rw [hr, hv]
  cases hf : (b.recov n).fenced
  · exact Block.onFence_fenced false b
  · exact ⟨by simp [Block.holdFenced, Block.recov_updRecov_same, hf], rfl⟩

theorem Block.updCell_fence (n c : Nat) (b : Block) :
    ((b.updCell n fun x => { x with fence := some c }).cell n).fence = some c :=
  (congrArg Cell.fence (Block.cell_updCell_same b n _)).trans rfl

theorem Block.updCell_reseat (n : Nat) (b : Block) : ((b.updCell n fun x => { x with reseat := true }).cell n).reseat = true :=
  (congrArg Cell.reseat (Block.cell_updCell_same b n _)).trans rfl

/-- CELL_FENCE of a cell in service decides its fence, and waits for the boundary (R80). -/
theorem Block.fenceCommand_waits {n : Nat} {b : Block} (hn : n ≤ 191) (hp : b.populated n = true) (hh : b.holds = true)
    (hs : 3 ≤ b.svc n) :
    b.fenceCommand n = ((b.fenceSlot n 4 false).updCell n fun c => { c with fence := some 4 }, .wait (.fence n)) := by
  obtain ⟨-, hv⟩ := Block.fenceSlot_fenced 4 hh (by omega : 2 ≤ b.svc n)
  have hsvc : ((b.fenceSlot n 4 false).updCell n fun c => { c with fence := some 4 }).svc n = b.svc n := hv
  have h1 : ¬ 191 < n := by omega
  have h2 : ¬ b.svc n = 1 := by omega
  have h3 : ¬ b.svc n < 2 := by omega
  have h4 : ¬ b.svc n = 2 := by omega
  simp [Block.fenceCommand, h1, hp, h2, hh, h3, Block.endProbeTest, hsvc, h4]

/-- Who decides follows the fields of the pair alone (R146). -/
theorem Block.holds_of_rd {b x : Block} (hen : x.rd Reg.SYS_PAIR_CFG_EN = b.rd Reg.SYS_PAIR_CFG_EN)
    (htok : x.rd Reg.SYS_PAIR_STAT_TOKEN = b.rd Reg.SYS_PAIR_STAT_TOKEN) : x.holds = b.holds := by
  rw [Block.holds, Block.holds, Block.on, Block.on, Block.on, Block.on, hen, htok]

/-- The three fields of the safety monitor that a demand writes. -/
def demandFields : List Field := [Reg.SAFE_DEMAND_CNT_COUNT, Reg.SAFE_STAT_CAUSE, Reg.SAFE_STAT_STATE]

/-- The demand of a safe stop for a cause, as it begins (R362). -/
def Block.beginsRamp (cause : Nat) (b : Block) : Block :=
  ((b.count Reg.SAFE_DEMAND_CNT_COUNT 1).wr Reg.SAFE_STAT_CAUSE cause).startRamp

theorem Block.beginsRamp_frame (cause : Nat) (b : Block) :
    RegsBut demandFields b (b.beginsRamp cause) ∧ Keeps [.regs, .safe] b (b.beginsRamp cause) :=
  ⟨((b.wr_regsBut _ _).trans_append (Block.wr_regsBut _ _ _)).trans_append (Block.wr_regsBut Reg.SAFE_STAT_STATE 1 _),
    (((b.wr_keeps _ _).trans (Block.wr_keeps _ _ _)).trans (Block.wr_keeps _ _ _)).mono (by decide) |>.trans
      ((Block.updSafe_keeps _ _).mono (by decide))⟩

theorem Block.beginsRamp_rd {cause : Nat} (hc : cause < 256) (b : Block) :
    (b.beginsRamp cause).rd Reg.SAFE_STAT_STATE = 1 ∧ (b.beginsRamp cause).rd Reg.SAFE_STAT_CAUSE = cause
    ∧ (b.beginsRamp cause).rd Reg.SAFE_DEMAND_CNT_COUNT = satNat 32 (b.rd Reg.SAFE_DEMAND_CNT_COUNT + 1) := by
  unfold Block.beginsRamp Block.startRamp
  simp only [Block.updSafe_rd]
  refine ⟨Block.rd_wr_same _ _ _, ?_, ?_⟩
  · rw [Block.rd_wr_ne _ _ _ _ (by decide), Block.rd_wr_same]
    exact Nat.mod_eq_of_lt hc
  · rw [Block.rd_wr_ne _ _ _ _ (by decide), Block.rd_wr_ne _ _ _ _ (by decide), Block.rd_count_sat]
    rfl

/-- A demand of a safe stop while the converter runs and nothing is demanded begins a ramp (R362 to R364). -/
theorem Block.demandSF1_ramp {cause : Nat} {b : Block} (hh : b.holds = true) (hs : b.rd Reg.SAFE_STAT_STATE = 0)
    (hst : b.rd Reg.SYS_CONV_STAT_STATE ∈ [2, 3, 4]) :
    b.demandSF1 cause = (b.beginsRamp cause).updConv fun c => { c with wantSafeStop := true } := by
  obtain ⟨hrd, -⟩ := b.beginsRamp_frame cause
  have hh' : (b.beginsRamp cause).holds = true := (Block.holds_of_rd (hrd _ (by decide)) (hrd _ (by decide))).trans hh
  have hrun : b.runState = b.rd Reg.SYS_CONV_STAT_STATE := if_pos hh
  have hc : (b.runState == 0 || b.runState == 1 || b.runState == 5 || b.runState == 6) = false := by
    simp only [List.mem_cons, List.not_mem_nil, or_false] at hst
    simp only [hrun, Bool.or_eq_false_iff, beq_eq_false_iff_ne]
    omega
  have hd : ((b.count Reg.SAFE_DEMAND_CNT_COUNT 1).demandCause cause).startRamp = b.beginsRamp cause :=
    congrArg Block.startRamp
      (if_pos ((Block.rd_count_ne Reg.SAFE_DEMAND_CNT_COUNT Reg.SAFE_STAT_STATE 1 b (by decide)).trans hs))
  unfold Block.demandSF1
  simp only [hc, hs, hd, hh', Bool.false_eq_true, ne_eq, not_true_eq_false, if_false, if_true]

/-- The occurrence of SAFE_STOP, of class INFO, is its record (R341, R346). -/
theorem Block.raise_safeStop {b : Block} (hc : b.rd (Reg.EVT_SRCk_CLASS 230) = 0) (hd : b.detects { source := 230 } = true) :
    b.raise { source := 230 } = b.record { source := 230 } 0 false false :=
  Block.raise_info _ b hd hc rfl

theorem Block.record_keeps (o : Occ) (cls : Nat) (recurs lockout : Bool) (b : Block) :
    Keeps [.regs, .evt] b (b.record o cls recurs lockout) := by
  have hcount := fun f => (b.wr_keeps (Reg.EVT_SRCk_COUNT o.source) f).mono (m := [.regs, .evt]) (by decide)
  refine Keeps.ite (fun _ => ?_) fun _ => (hcount _).trans ((Block.updEvt_keeps _ _).mono (by decide))
  exact (hcount _).trans (((Block.updEvt_keeps _ _).mono (by decide)).trans ((Block.wr_keeps _ _ _).mono (by decide)))

/-- Settles O39: each command by the branch it takes; SAFE_STOP is a record and the begin of a ramp. -/
theorem converterAndCellCommands : Obligations.ConverterAndCellCommands := by
  unfold Obligations.ConverterAndCellCommands
  intro s rq slot
  have only := fun st d p => Block.finish_only s.blk st d p
  have lt {n m : Nat} (h : n ≤ m) : ¬ m < n := by omega
  refine ⟨fun ht h0 he => ?start, fun ht h0 he => ?notReady, fun ht h0 => ?notOff, fun ht h3 => ?stop, fun ht h3 => ?notRun,
    fun ht hn hp hh hs => ?fence, fun ht hn hp hs => ?fenced, fun ht hn hp hh hs hw => ?reseat,
    fun ht hn hp hh hs hw => ?notHeld, fun ht hn hp hw => ?asleep, fun ht hn hp hs hh => ?noFence,
    fun ht hn hp hs hw => ?inService, fun ht hn => ?badFence, fun ht hn => ?badReseat,
    fun hc hpl hh hs hst hcl hlog => ?safe⟩
  case start =>
    have hf : s.blk.startCommand = ((s.blk.wr Reg.SYS_CONV_STAT_START_ERR 0).updConv fun c => { c with wantStart := true },
        .wait .convStart) := by simp [Block.startCommand, h0, he]
    have hw : (s.blk.wr Reg.SYS_CONV_STAT_START_ERR 0).rd Reg.SYS_CONV_STAT_START_ERR = 0 := Block.rd_wr_same _ _ _
    exact does_serve_wait rfl ht (by decide) rfl hf rfl rfl ⟨rfl, hw, s.blk.wr_regsBut Reg.SYS_CONV_STAT_START_ERR 0,
      (((s.blk.wr_keeps _ _).mono (by decide)).trans ((Block.updConv_keeps _ _).mono (by decide))).trans
        ((Block.waitFor_keeps _ _).mono (by decide))⟩
  case notReady =>
    have hf : s.blk.startCommand = (s.blk.wr Reg.SYS_CONV_STAT_START_ERR s.blk.startErr, denied 2) := by
      simp [Block.startCommand, h0, he]
    refine does_serve rfl ht (by decide) rfl rfl hf rfl ⟨?_, RegsBut.finish (s.blk.wr_regsBut _ _),
      (s.blk.wr_keeps _ _).finish_end⟩
    rw [Block.finish_rd (by decide), Block.rd_wr_same]
    exact Nat.mod_eq_of_lt s.blk.startErr_lt
  case notOff =>
    have hf : s.blk.startCommand = (s.blk, denied 1) := if_pos h0
    exact does_serve rfl ht (by decide) rfl rfl hf rfl (only _ _ _)
  case stop =>
    have hf : s.blk.stopCommand = (s.blk.updConv fun c => { c with wantOrdStop := true }, .wait .convStop) := by
      simp [Block.stopCommand, h3]
    exact does_serve_wait rfl ht (by decide) rfl hf rfl rfl ⟨rfl, RegsBut.refl _ _,
      ((Block.updConv_keeps _ _).mono (by decide)).trans ((Block.waitFor_keeps _ _).mono (by decide))⟩
  case notRun =>
    have hf : s.blk.stopCommand = (s.blk, denied 1) := if_pos h3
    exact does_serve rfl ht (by decide) rfl rfl hf rfl (only _ _ _)
  case fence =>
    have hk : Keeps [.regs, .evt, .cells] s.blk
        ((s.blk.fenceSlot slot.toNat 4 false).updCell slot.toNat fun c => { c with fence := some 4 }) :=
      (s.blk.fenceSlot_keeps slot.toNat 4 false).trans ((Block.updCell_keeps _ _ _).mono (by decide))
    exact does_serve_wait rfl ht (by decide) rfl (Block.fenceCommand_waits hn hp hh hs)
      (congrArg JarvasSt.queue (hk .jv (by decide))) (hk .out (by decide))
      ⟨Block.updCell_fence slot.toNat 4 (s.blk.fenceSlot slot.toNat 4 false), (Block.fenceSlot_fenced 4 hh (by omega)).1,
        (hk.mono (by decide)).trans ((Block.waitFor_keeps _ _).mono (by decide))⟩
  case fenced =>
    have hf : s.blk.fenceCommand slot.toNat = (s.blk, ok (s.blk.slotReply slot.toNat)) := by
      simp [Block.fenceCommand, lt hn, hp, hs]
    exact does_serve rfl ht (by decide) rfl rfl hf rfl (only _ _ _)
  case reseat =>
    have hf : s.blk.reseatCommand slot.toNat = ((s.blk.updCell slot.toNat fun c => { c with reseat := true }).updRecov
        slot.toNat fun r => { r with auto := false }, .wait (.reseat slot.toNat)) := by
      simp [Block.reseatCommand, lt hn, hp, hs, hh, Nat.not_le.mpr hw]
    exact does_serve_wait rfl ht (by decide) rfl hf rfl rfl ⟨s.blk.updCell_reseat slot.toNat,
      RegsBut.refl _ _, (((s.blk.updCell_keeps _ _).mono (by decide)).trans ((Block.updRecov_keeps _ _ _).mono
        (by decide))).trans ((Block.waitFor_keeps _ _).mono (by decide))⟩
  case notHeld =>
    have hf : s.blk.reseatCommand slot.toNat = (s.blk, denied 4) := by
      simp [Block.reseatCommand, lt hn, hp, hs, hh, Nat.not_le.mpr hw]
    exact does_serve rfl ht (by decide) rfl rfl hf rfl (only _ _ _)
  case asleep =>
    have hf : s.blk.reseatCommand slot.toNat = (s.blk, denied 5) := by simp [Block.reseatCommand, lt hn, hp, hw]
    exact does_serve rfl ht (by decide) rfl rfl hf rfl (only _ _ _)
  case noFence =>
    have hf : s.blk.fenceCommand slot.toNat = (s.blk, denied 2) := by simp [Block.fenceCommand, lt hn, hp, hs, hh]
    exact does_serve rfl ht (by decide) rfl rfl hf rfl (only _ _ _)
  case inService =>
    have hf : s.blk.reseatCommand slot.toNat = (s.blk, denied 3) := by
      simp [Block.reseatCommand, lt hn, hp, hs, Nat.not_le.mpr hw]
    exact does_serve rfl ht (by decide) rfl rfl hf rfl (only _ _ _)
  case badFence => exact does_serve rfl ht (by decide) rfl rfl (if_pos hn) rfl (only _ _ _)
  case badReseat => exact does_serve rfl ht (by decide) rfl rfl (if_pos hn) rfl (only _ _ _)
  case safe =>
    refine does_onBlk (f := (·.outOfBand rq 0x42 (·.safeStop))) rfl ?_
    obtain ⟨r, hheld, hr⟩ := Block.raise_logs { source := 230 } s.blk hlog
    rw [Block.raise_safeStop hcl hlog.1] at hheld
    have hrd (f : Field) (h1 : f.key ≠ (Reg.EVT_SRCk_COUNT 230).key) (h2 : f.key ≠ Reg.EVT_SUPP_CNT_COUNT.key) :
        (s.blk.record { source := 230 } 0 false false).rd f = s.blk.rd f := Block.record_rd _ _ _ _ _ f h1 h2
    have hkeep := s.blk.record_keeps { source := 230 } 0 false false
    have hup : (s.blk.record { source := 230 } 0 false false).tb = s.blk.tb := hkeep .tb (by decide)
    rw [Block.outOfBand_answered (by simp [Block.cores] at hc; exact hc.1) (by rw [hpl]; rfl), Block.safeStop,
      Block.raise_safeStop hcl hlog.1]
    generalize s.blk.record { source := 230 } 0 false false = c at *
    have hh' : c.holds = true := (Block.holds_of_rd (hrd _ (by decide) (by decide)) (hrd _ (by decide) (by decide))).trans hh
    rw [Block.demandSF1_ramp hh' ((hrd _ (by decide) (by decide)).trans hs) (by rwa [hrd _ (by decide) (by decide)])]
    obtain ⟨hstate, hcause, hcount⟩ := Block.beginsRamp_rd (cause := 6) (by decide) c
    have hramp : (c.beginsRamp 6).safe.ramp = some s.blk.tb.up := congrArg (fun t : TimeBase => some t.up) hup
    have hk : Keeps [.regs, .evt, .conv, .safe, .out] s.blk
        ((c.beginsRamp 6).updConv fun x => { x with wantSafeStop := true }) :=
      (hkeep.mono (by decide)).trans (((c.beginsRamp_frame 6).2.mono (by decide)).trans
        ((Block.updConv_keeps _ _).mono (by decide)))
    have hstrk := hk .strk (by decide)
    obtain ⟨hrep, hregs, hsend⟩ := Block.send_frame rq 0x42 stOk 0 (be 8 s.blk.strk.num)
      ((c.beginsRamp 6).updConv fun x => { x with wantSafeStop := true })
    rw [hstrk]
    refine ⟨hrep, ⟨r, ?_, hr⟩, ?_, ?_, ?_, ?_, ?_, hk.trans (hsend.mono (by decide))⟩
    · exact hheld
    · rw [hregs _ (by decide), Block.updConv_rd, hstate]
    · rw [hregs _ (by decide), Block.updConv_rd, hcause]
    · rw [hregs _ (by decide), Block.updConv_rd, hcount, hrd _ (by decide) (by decide)]
    · exact hramp
    · rfl

/-! ### The reset commands -/

/-- The request of the example. -/
def ledgerReq : Req := { src := { port := .svc, mac := 0, udp := none, vlan := none }, seq := 0 }

/-- A module at reset but for these: its management cores run, a RESET is at its turn, and firmware channel 9 commits the wear
    ledger and has retried an operation after a bus error (R433). -/
def ledgerBusy : Block :=
  { Block.reset with
    regs := ((Block.reset.flag (Reg.DMA_CH_STAT_BUSY 9) true).setBit Reg.RST_STAGE_RELEASED 6 true).regs
    jv := { queue := [{ req := ledgerReq, op := 0xA0, wait := .turn, disarmed := false }], cache := [] }
    dma := { DmaSt.reset with retried := [9] } }

theorem ledgerBusy_meets : ledgerBusy.boot.coreDue = false ∧ AtTurn ledgerBusy ledgerReq 0xA0
    ∧ ledgerBusy.jv.queue.length = 1 ∧ ledgerBusy.boot.coreResets = [] := by
  decide +kernel

/-- The core reset that follows the reply ends the work of the channel, and forgets the retry. -/
theorem ledgerBusy_reset :
    ((ledgerBusy.serve ledgerReq 0xA0 true false (·.resetCommand 0 0xA55AC3)).coreTakes).dma.retried = [] := by
  decide +kernel

/-- Refutes O40: RESET level 0 is said to keep the engine, but the core reset it begins ends the firmware's work on channels
    9 and 11 (R401).  In `ledgerBusy` the reset ends the commit of the ledger, and forgets that channel 9 had retried. -/
theorem not_resetCommands : ¬ Obligations.ResetCommands := by
  unfold Obligations.ResetCommands
  intro h
  obtain ⟨hdue, hturn, hlen, hresets⟩ := ledgerBusy_meets
  obtain ⟨hlevel0, -⟩ := h { pending := [], blk := ledgerBusy } ledgerReq 0 0 0 hdue
  obtain ⟨t, hexec, -, -, -, -, -, -, -, -, hkeeps⟩ := hlevel0 hturn hlen hresets
  have ht : t.blk = (ledgerBusy.serve ledgerReq 0xA0 true false (·.resetCommand 0 0xA55AC3)).coreTakes :=
    congrArg State.blk (Host.Outcome.next.inj hexec).symm
  have hdma : t.blk.dma.retried = [9] := congrArg DmaSt.retried (hkeeps .dma (by decide))
  rw [ht, ledgerBusy_reset] at hdma
  exact absurd hdma (by decide)

end Sys2Proof.Machine
end

section
/-! PROOFS. Streams (R69, R76 to R79, R423): opening and closing one, and the packet of a stroke channel. -/

namespace Sys2Proof.Machine

/-! ### The record of streams -/

theorem SMap.find?_erase {α : Type} (i : Nat) (m : SMap α) : (SMap.erase i m).find? (fun e => e.1 == i) = none := by
  rw [List.find?_eq_none]
  intro e he
  simpa using ((SMap.erase_mem _ _ _).mp he).2

/-- A bit of a field reads as it was set. -/
theorem Block.bit_setBit_same (f : Field) {i : Nat} (p : Bool) (b : Block) (hi : i < f.width) :
    (b.setBit f i p).bit f i = p := by
  rw [Block.bit, Block.setBit, Block.rd_wr_same, Nat.testBit_mod_two_pow, decide_eq_true hi, Bool.true_and]
  split
  · next h => exact h
  · next h =>
    cases p
    · have hset : (b.rd f).testBit i = true := by simpa using h
      have hsum := Nat.testBit_two_pow_add_eq (b.rd f - 2 ^ i) i
      rw [Nat.add_sub_cancel' (Nat.ge_two_pow_of_testBit hset), hset] at hsum
      simpa using hsum.symm
    · have hclear : (b.rd f).testBit i = false := by simpa using h
      simpa [Nat.add_comm, hclear] using Nat.testBit_two_pow_add_eq (b.rd f) i

theorem Block.setStream_keeps (k : Nat) (x : StreamSt) (b : Block) : Keeps [.dma] b (b.setStream k x) := b.updDma_keeps _

theorem Block.dropStream_keeps (k : Nat) (b : Block) : Keeps [.regs, .dma] b (b.dropStream k) :=
  ((b.updDma_keeps _).mono (by decide)).trans (((((Block.wr_keeps _ _ _).trans (Block.wr_keeps _ _ _)).trans
    (Block.wr_keeps _ _ _)).trans (Block.wr_keeps _ _ _)).mono (by decide))

/-- A stream that is dropped is not open any more, and its channel has stopped (R79). -/
theorem Block.dropStream_closed (k : Nat) (b : Block) :
    (b.dropStream k).streamOf k = none ∧ (b.dropStream k).on (Reg.DMA_CH_STAT_STOPPED k) = true := by
  refine ⟨?_, Block.on_flag_same _ true _ Nat.one_pos⟩
  show (((SMap.erase k b.dma.streams).find? fun e => e.1 == k).map (·.2)) = none
  rw [SMap.find?_erase]
  rfl

theorem not_endField_of_addr {f : Field} (hf : 0x1000 ≤ f.addr) : f.key ∉ endFields.map Field.key := by
  simp only [endFields, List.map_cons, List.map_nil, List.mem_cons, List.not_mem_nil, or_false, Field.key,
    Reg.SYS_SEQ_LAST_SEQ, Reg.SYS_CMD_STAT_SEQ_VALID, Reg.SYS_CMD_STAT_RESTARTED]
  omega

/-- Settles O23: the record of the stream is inserted, dropped or marked as closing. -/
theorem streamCommands : Obligations.StreamCommands := by
  unfold Obligations.StreamCommands
  intro s rq d x k
  refine ⟨fun ht h1 h8 hok => ?opened, fun ht hk hx hb => ?closed, fun ht hk hx hb => ?waits⟩
  case opened =>
    let y : StreamSt := { (default : StreamSt) with desc := d, first := s.blk.strk.num + 1 }
    have hk : d.id.toNat < 8 := by
      by_contra hlt
      rw [Block.streamRefusal, if_pos (.inl (by omega))] at hok
      cases hok
    have hf : s.blk.streamOpen d = (((s.blk.setStream d.id.toNat y).wr (Reg.DMA_CH_CTRL_DEC d.id.toNat) d.dec.toNat).setBit
        Reg.SYS_STREAM_STAT_OPEN d.id.toNat true, ok (be 1 d.id.toNat ++ zeros 7 ++ be 8 (s.blk.strk.num + 1))) := by
      rw [Block.streamOpen, hok]
    refine does_serve rfl ht (by decide) (decide_eq_true ⟨h1, h8⟩) rfl hf rfl ⟨?_, ?_, ?_⟩
    · rw [Block.streamOf_congr (congrArg DmaSt.streams Block.finish_dma)]
      exact Block.streamOf_setStream_same _ y s.blk
    · rw [Block.bit, Block.finish_rd (by decide)]
      exact Block.bit_setBit_same Reg.SYS_STREAM_STAT_OPEN true _ hk
    · exact ((((s.blk.setStream_keeps _ y).mono (by decide)).trans ((Block.wr_keeps _ _ _).mono (by decide))).trans
        ((Block.wr_keeps _ _ _).mono (by decide))).finish (by decide)
  case closed =>
    obtain ⟨hdrop, hstop⟩ := s.blk.dropStream_closed k.toNat
    have hf : s.blk.streamClose k.toNat = (s.blk.dropStream k.toNat, ok (closeReply k.toNat x.sent)) := by
      simp [Block.streamClose, Nat.not_lt.mpr hk, hx, hb]
    refine does_serve rfl ht (by decide) rfl rfl hf rfl ⟨?_, ?_, ((s.blk.dropStream_keeps _).mono (by decide)).finish (by decide)⟩
    · rw [Block.streamOf_congr (congrArg DmaSt.streams Block.finish_dma), hdrop]
    · rwa [Block.on, Block.finish_rd (not_endField_of_addr (by simp only [Reg.DMA_CH_STAT_STOPPED]; omega))]
  case waits =>
    have hf : s.blk.streamClose k.toNat = (s.blk.setStream k.toNat { x with closing := true }, .wait (.streamClose k.toNat)) := by
      simp [Block.streamClose, Nat.not_lt.mpr hk, hx, hb]
    exact does_serve_wait rfl ht (by decide) rfl hf rfl rfl ⟨Block.streamOf_setStream_same _ _ s.blk,
      ((s.blk.setStream_keeps _ _).mono (by decide)).trans ((Block.waitFor_keeps _ _).mono (by decide))⟩

/-! ### A copy of a packet (R69, R423) -/

/-- The copy of a packet for a port, placed. -/
def Block.placed (p k : Nat) (x : StreamSt) (bs : List Byte) (b : Block) : Block :=
  (b.setStream k { x.taken p with placed := true }).placeCopy p k x bs

/-- A stream with its packet built. -/
def Block.sends (k : Nat) (x : StreamSt) (bs : List Byte) (b : Block) : Prop := b.streamOf k = some x ∧ x.packet = some bs

/-- The channel of stream `k` completes, with `x` the record before: the packet is counted where a copy has left (R77). -/
def Block.packetEnds (k : Nat) (x : StreamSt) (b : Block) : Block :=
  ((b.setStream k x.ended).chanBusy k false).wr (Reg.DMA_CH_CNT_COUNT k)
    (b.rd (Reg.DMA_CH_CNT_COUNT k) + if x.placed then 1 else 0)

/-- The UDP destination of a stream's packets, and the VLAN tag in force (R69). -/
def StreamSt.udpTo (x : StreamSt) : Option (BitVec 32 × BitVec 16) :=
  if x.desc.route.toNat.testBit 2 then some (x.desc.ip, x.desc.udpPort) else none

def Block.vlanTag (b : Block) : Option Nat :=
  if b.on Reg.SYS_JARVAS_VLAN_VLAN_EN then some (b.rd Reg.SYS_JARVAS_VLAN_VID) else none

theorem Block.placed_out (port : Stn) (k : Nat) (x : StreamSt) (bs : List Byte) (b : Block) :
    (b.placed (stnNum port) k x bs).out = .stream port k x.desc.mac x.udpTo b.vlanTag bs :: b.out := by
  cases port <;> rfl

theorem Block.placed_roomAt (port : Stn) (k n : Nat) (x : StreamSt) (bs : List Byte) (b : Block) :
    (b.placed (stnNum port) k x bs).roomAt (1 - stnNum port) n = b.roomAt (1 - stnNum port) n := by
  cases port <;> rfl

section
variable {b : Block} {p k : Nat} {x : StreamSt} {bs : List Byte}

theorem Block.copyTo_placed (h : b.sends k x bs) (hto : x.waitsOn p = true) (hl : b.dma.link p = true)
    (hroom : b.roomAt p (b.wireBytes x.desc) ≤ b.tb.up) : b.copyTo p k = b.placed p k x bs := by
  obtain ⟨hx, hbs⟩ := h
  unfold StreamSt.waitsOn at hto
  simp [Block.copyTo, hx, hbs, hto, hl, hroom, Block.placed, StreamSt.taken]

theorem Block.copyTo_noRoom (h : b.sends k x bs) (hl : b.dma.link p = true)
    (hroom : ¬ b.roomAt p (b.wireBytes x.desc) ≤ b.tb.up) : b.copyTo p k = b := by
  obtain ⟨hx, hbs⟩ := h
  simp [Block.copyTo, hx, hbs, hl, hroom]

theorem Block.copyTo_taken (h : b.sends k x bs) (hto : x.waitsOn p = false) : b.copyTo p k = b := by
  obtain ⟨hx, hbs⟩ := h
  unfold StreamSt.waitsOn at hto
  simp [Block.copyTo, hx, hbs, hto]

theorem Block.setStream_sends (h : x.packet = some bs) : (b.setStream k x).sends k x bs :=
  ⟨Block.streamOf_setStream_same k x b, h⟩

theorem StreamSt.taken_packet : (x.taken p).packet = x.packet := by
  unfold StreamSt.taken
  split <;> rfl

theorem Block.placed_streams : (b.placed p k x bs).dma.streams = (b.setStream k { x.taken p with placed := true }).dma.streams := by
  unfold Block.placed Block.placeCopy
  dsimp only [Block.emit, Block.updDma]
  split <;> rfl

theorem Block.placed_link (q : Nat) : (b.placed p k x bs).dma.link q = b.dma.link q := by
  unfold Block.placed Block.placeCopy
  dsimp only [Block.emit, Block.updDma]
  split <;> rfl

theorem Block.placed_sends (h : x.packet = some bs) : (b.placed p k x bs).sends k { x.taken p with placed := true } bs := by
  refine ⟨?_, StreamSt.taken_packet.trans h⟩
  rw [Block.streamOf_congr Block.placed_streams]
  exact Block.streamOf_setStream_same k _ b

theorem Block.placed_keeps : Keeps [.dma, .out] b (b.placed p k x bs) :=
  (((b.setStream_keeps _ _).trans (Block.updDma_keeps _ _)).mono (by decide)).trans ((Block.emit_keeps _ _).mono (by decide))

/-- A copy that is taken or not leaves the packet in progress, and what the other port has yet to take. -/
theorem Block.copyTo_sends (h : b.sends k x bs) (p : Nat) : ∃ y, (b.copyTo p k).sends k y bs
    ∧ ∀ q, (q = 0 ↔ p ≠ 0) → y.waitsOn q = x.waitsOn q := by
  have other (y : StreamSt) (hA : y.toA = (x.taken p).toA) (hB : y.toB = (x.taken p).toB) (q : Nat) (hq : q = 0 ↔ p ≠ 0) :
      y.waitsOn q = x.waitsOn q := by
    unfold StreamSt.waitsOn
    rw [hA, hB]
    unfold StreamSt.taken
    by_cases hp : p = 0 <;> simp_all
  cases hto : x.waitsOn p
  · exact ⟨x, by rwa [Block.copyTo_taken h hto], fun _ _ => rfl⟩
  cases hl : b.dma.link p
  · rw [Block.copyTo_down h.1 ⟨bs, h.2⟩ hto hl]
    exact ⟨_, Block.setStream_sends (StreamSt.taken_packet.trans h.2), other _ rfl rfl⟩
  by_cases hroom : b.roomAt p (b.wireBytes x.desc) ≤ b.tb.up
  · rw [Block.copyTo_placed h hto hl hroom]
    exact ⟨_, Block.placed_sends h.2, other _ rfl rfl⟩
  · exact ⟨x, by rwa [Block.copyTo_noRoom h hl hroom], fun _ _ => rfl⟩

/-- A packet for one port alone takes its copy there. -/
theorem Block.copies_one {port : Stn} (h : b.sends k x bs) (hto : x.waitsOn (1 - stnNum port) = false) :
    (b.copyTo 0 k).copyTo 1 k = b.copyTo (stnNum port) k := by
  cases port
  case a =>
    obtain ⟨y, hy, hwaits⟩ := Block.copyTo_sends h 0
    exact Block.copyTo_taken hy ((hwaits 1 (by decide)).trans hto)
  case b => exact congrArg (Block.copyTo 1 k) (Block.copyTo_taken h hto)

/-! ### The end of a packet (R69, R77, R79) -/

theorem Block.channelDone_eq (h : b.sends k x bs) (hA : x.toA = false) (hB : x.toB = false) :
    b.channelDone k = (b.packetEnds k x).streamSettle k := by
  obtain ⟨hx, hbs⟩ := h
  have hgo : (x.packet.isNone || x.toA || x.toB) = false := by simp [hbs, hA, hB]
  simp only [Block.channelDone, hx, hgo, Bool.false_eq_true, if_false]
  rfl

theorem Block.channelDone_waits (h : b.sends k x bs) (hto : (x.toA || x.toB) = true) : b.channelDone k = b := by
  obtain ⟨hx, hbs⟩ := h
  have hstay : (x.packet.isNone || x.toA || x.toB) = true := by rwa [hbs, Option.isNone_some, Bool.false_or]
  simp only [Block.channelDone, hx, hstay, if_true]

/-- What the end of a packet leaves: its record, the channel idle and the count (R77, R438). -/
theorem Block.packetEnds_frame (k : Nat) (x : StreamSt) (b : Block) : (b.packetEnds k x).streamOf k = some x.ended
    ∧ (b.packetEnds k x).on (Reg.DMA_CH_STAT_BUSY k) = false
    ∧ (b.packetEnds k x).rd (Reg.DMA_CH_CNT_COUNT k)
      = (b.rd (Reg.DMA_CH_CNT_COUNT k) + if x.placed then 1 else 0) % 2 ^ 32
    ∧ Keeps [.regs, .dma] b (b.packetEnds k x) := by
  have hne : (Reg.DMA_CH_STAT_BUSY k).key ≠ (Reg.DMA_CH_CNT_COUNT k).key := by
    simp only [Field.key, Reg.DMA_CH_STAT_BUSY, Reg.DMA_CH_CNT_COUNT]
    omega
  refine ⟨Block.streamOf_setStream_same k x.ended b, ?_, Block.rd_wr_same _ _ _, ?_⟩
  · rw [Block.packetEnds, Block.on, Block.rd_wr_ne _ _ _ _ hne]
    exact Block.on_chanBusy_same k false _
  · exact ((b.setStream_keeps _ _).mono (by decide)).trans
      (((Block.chanBusy_keeps k false _).trans (Block.wr_keeps _ _ _)).mono (by decide))

/-- The record of a packet whose last copy has been taken. -/
def StreamSt.left (x : StreamSt) : StreamSt := { x with placed := true, toA := false, toB := false }

/-- The record of a packet whose last copy was not taken, its port being down. -/
def StreamSt.dropped (x : StreamSt) : StreamSt := { x with gap := true, toA := false, toB := false }

/-- The last copy of a packet is placed, and the packet ends. -/
theorem Block.lastCopy_eq (h : b.sends k x bs) (hto : x.waitsOn p = true)
    (hlast : (if p = 0 then x.toB else x.toA) = false) (hl : b.dma.link p = true)
    (hroom : b.roomAt p (b.wireBytes x.desc) ≤ b.tb.up) :
    (b.copyTo p k).channelDone k = ((b.placed p k x bs).packetEnds k x.left).streamSettle k := by
  have hs := Block.placed_sends (b := b) (p := p) h.2 (k := k)
  rw [StreamSt.taken_last hlast] at hs
  rw [Block.copyTo_placed h hto hl hroom]
  exact Block.channelDone_eq hs rfl rfl

/-- What the last copy of a packet leaves: the copy sent, the packet counted and the channel idle (R69, R77). -/
theorem Block.lastCopy_sent {port : Stn} (h : b.sends k x bs) (hto : x.waitsOn (stnNum port) = true)
    (hlast : (if stnNum port = 0 then x.toB else x.toA) = false) (hl : b.dma.link (stnNum port) = true)
    (hroom : b.roomAt (stnNum port) (b.wireBytes x.desc) ≤ b.tb.up) (hc : x.closing = false) :
    let t := (b.copyTo (stnNum port) k).channelDone k
    t.out = .stream port k x.desc.mac x.udpTo b.vlanTag bs :: b.out ∧ t.streamOf k = some x.left.ended
      ∧ t.on (Reg.DMA_CH_STAT_BUSY k) = false
      ∧ t.rd (Reg.DMA_CH_CNT_COUNT k) = (b.rd (Reg.DMA_CH_CNT_COUNT k) + 1) % 2 ^ 32 ∧ Keeps [.regs, .dma, .out] b t := by
  intro t
  obtain ⟨hrec, hbusy, hcount, hkeep⟩ := Block.packetEnds_frame k x.left (b.placed (stnNum port) k x bs)
  have ht : t = (b.placed (stnNum port) k x bs).packetEnds k x.left :=
    (Block.lastCopy_eq h hto hlast hl hroom).trans (Block.streamSettle_open hrec hc)
  rw [ht]
  exact ⟨Block.placed_out port k x bs b, hrec, hbusy, hcount,
    (Block.placed_keeps.mono (by decide)).trans (hkeep.mono (by decide))⟩

/-- What is left of a packet whose last copy finds its port down: GAP for the next one (R423, log entry 145). -/
theorem Block.lastCopy_dropped {port : Stn} (h : b.sends k x bs) (hto : x.waitsOn (stnNum port) = true)
    (hlast : (if stnNum port = 0 then x.toB else x.toA) = false) (hl : b.dma.link (stnNum port) = false)
    (hc : x.closing = false) :
    let t := (b.copyTo (stnNum port) k).channelDone k
    t.out = b.out ∧ t.streamOf k = some x.dropped.ended ∧ t.on (Reg.DMA_CH_STAT_BUSY k) = false
      ∧ t.rd (Reg.DMA_CH_CNT_COUNT k) = (b.rd (Reg.DMA_CH_CNT_COUNT k) + if x.placed then 1 else 0) % 2 ^ 32
      ∧ Keeps [.regs, .dma] b t := by
  intro t
  obtain ⟨hrec, hbusy, hcount, hkeep⟩ := Block.packetEnds_frame k x.dropped (b.setStream k x.dropped)
  have ht : t = (b.setStream k x.dropped).packetEnds k x.dropped := by
    show (b.copyTo (stnNum port) k).channelDone k = _
    rw [Block.copyTo_down h.1 ⟨bs, h.2⟩ hto hl, StreamSt.taken_last hlast]
    have hd : (b.setStream k x.dropped).sends k x.dropped bs := Block.setStream_sends h.2
    exact (Block.channelDone_eq hd rfl rfl).trans (Block.streamSettle_open hrec hc)
  rw [ht]
  exact ⟨hkeep .out (by decide), hrec, hbusy, hcount, ((b.setStream_keeps _ _).mono (by decide)).trans hkeep⟩

/-- A STREAM_CLOSE that waited for the packet is answered at its end (R79). -/
theorem Block.streamSettle_ended {e : Block} {q : QCmd} (hx : e.streamOf k = some x.ended) (hc : x.closing = true)
    (hq : (e.dropStream k).jv.queue = [q]) (hw : q.wait = .streamClose k) :
    e.streamSettle k = (e.dropStream k).finish stOk 0 (closeReply k x.ended.sent) := by
  have hgo : (x.ended.closing && !x.ended.busy) = true := by
    show (x.closing && true) = true
    rw [hc]
    rfl
  have hhead : (e.dropStream k).headWait = some (.streamClose k) := by rw [Block.headWait, hq, ← hw]; rfl
  simp only [Block.streamSettle, hx, hgo, if_true, Block.finishIf, hhead]

/-- What the last copy of a packet leaves when a STREAM_CLOSE waits for it: the stream dropped, and the reply (R79). -/
theorem Block.lastCopy_closing {port : Stn} {q : QCmd} (h : b.sends k x bs) (hto : x.waitsOn (stnNum port) = true)
    (hlast : (if stnNum port = 0 then x.toB else x.toA) = false) (hl : b.dma.link (stnNum port) = true)
    (hroom : b.roomAt (stnNum port) (b.wireBytes x.desc) ≤ b.tb.up) (hc : x.closing = true) (hq : b.jv.queue = [q])
    (hw : q.wait = .streamClose k) :
    let t := (b.copyTo (stnNum port) k).channelDone k
    t.jv.queue = [] ∧ t.streamOf k = none ∧ Replied t q.req q.op.toNat stOk 0 (closeReply k ((x.sent + 1) % 2 ^ 32))
      ∧ Keeps [.regs, .jv, .dma, .out] b t := by
  intro t
  obtain ⟨hrec, -, -, hends⟩ := Block.packetEnds_frame k x.left (b.placed (stnNum port) k x bs)
  have hkeep : Keeps [.regs, .dma, .out] b ((b.placed (stnNum port) k x bs).packetEnds k x.left) :=
    (Block.placed_keeps.mono (by decide)).trans (hends.mono (by decide))
  have ht : t = ((b.placed (stnNum port) k x bs).packetEnds k x.left).streamSettle k := Block.lastCopy_eq h hto hlast hl hroom
  rw [ht]
  generalize (b.placed (stnNum port) k x bs).packetEnds k x.left = e at hrec hkeep ⊢
  have hqe : (e.dropStream k).jv.queue = [q] := (congrArg JarvasSt.queue ((e.dropStream_keeps k).jv (by decide))).trans
    ((congrArg JarvasSt.queue (hkeep.jv (by decide))).trans hq)
  obtain ⟨hempty, -, -, hrep⟩ := Block.finish_head (st := stOk) (d := 0) (p := closeReply k x.left.ended.sent) hqe
    (by rw [hw]; nofun)
  rw [Block.streamSettle_ended hrec hc hqe hw]
  refine ⟨hempty.trans (congrArg List.tail hqe), ?_, hrep, ?_⟩
  · rw [Block.streamOf_congr (congrArg DmaSt.streams Block.finish_dma)]
    exact (e.dropStream_closed k).1
  · exact (hkeep.mono (by decide)).trans (((e.dropStream_keeps k).mono (by decide)).finish (by decide))

end

/-! ### Room for a copy (R69) -/

/-- Time that passes changes no stream, no link and no room. -/
theorem Block.untilUp_room (t p : Nat) (d : StreamDesc) (b : Block) :
    (b.untilUp t).roomAt p ((b.untilUp t).wireBytes d) = b.roomAt p (b.wireBytes d) ∧ (b.untilUp t).dma = b.dma := by
  obtain ⟨hregs, hk⟩ := b.advance_frame (cdiv (t - b.tb.up) 1250)
  have hdma : (b.untilUp t).dma = b.dma := hk .dma (by decide)
  have hpow : (b.untilUp t).pow = b.pow := hk .pow (by decide)
  have hvlan : (b.untilUp t).rd Reg.SYS_JARVAS_VLAN_VLAN_EN = b.rd Reg.SYS_JARVAS_VLAN_VLAN_EN := hregs _ (by decide)
  refine ⟨?_, hdma⟩
  simp only [Block.roomAt, Block.wireBytes, Block.bytePs, Block.lineRate, Block.stationXcvr, hdma, hpow, hvlan]

/-- The stream that waited for room takes its copy once there is room (R69). -/
theorem Block.streamDrained_eq {b : Block} {p k : Nat} {x : StreamSt} (hx : b.streamOf k = some x) (hw : b.waitsFor p = some k) :
    b.streamDrained p = ((b.untilUp (b.roomAt p (b.wireBytes x.desc))).copyTo p k).channelDone k := by
  simp only [Block.streamDrained, hw, hx]

/-- Once there is room: time has passed, and the stream and the link stand as they did. -/
theorem Block.untilUp_sends {b : Block} {p k : Nat} {x : StreamSt} {bs : List Byte} (h : b.sends k x bs) :
    let u := b.untilUp (b.roomAt p (b.wireBytes x.desc))
    u.sends k x bs ∧ u.dma.link p = b.dma.link p ∧ u.roomAt p (u.wireBytes x.desc) ≤ u.tb.up
      ∧ b.roomAt p (b.wireBytes x.desc) ≤ u.tb.up ∧ u.out = b.out
      ∧ u.rd (Reg.DMA_CH_CNT_COUNT k) = b.rd (Reg.DMA_CH_CNT_COUNT k)
      ∧ RegsBut adjFields b u ∧ Keeps [.regs, .tb] b u := by
  intro u
  obtain ⟨hur, huk⟩ := b.advance_frame (cdiv (b.roomAt p (b.wireBytes x.desc) - b.tb.up) 1250)
  obtain ⟨hroom, hdma⟩ := b.untilUp_room (b.roomAt p (b.wireBytes x.desc)) p x.desc
  have hup := b.le_untilUp (b.roomAt p (b.wireBytes x.desc))
  refine ⟨⟨?_, h.2⟩, congrArg (DmaSt.link · p) hdma, hroom.trans_le hup, hup, huk .out (by decide), hur _ ?_, hur, huk⟩
  · exact (congrFun (Block.streamOf_congr (congrArg DmaSt.streams hdma)) k).trans h.1
  · simp only [adjFields, List.map_cons, List.map_nil, List.mem_cons, List.not_mem_nil, or_false, Field.key,
      Reg.DMA_CH_CNT_COUNT, Reg.TIME_ADJ_CNT_CNT, Reg.TIME_STAT_ADJ_BUSY]
    omega

/-! ### A packet for both ports -/

section
variable {b : Block} {k : Nat} {x : StreamSt} {bs : List Byte}

/-- Both copies are placed, that of port A first (R69). -/
theorem Block.copies_both (h : b.sends k x bs) (hA : x.toA = true) (hB : x.toB = true) (hla : b.dma.link 0 = true)
    (hlb : b.dma.link 1 = true) (hra : b.roomAt 0 (b.wireBytes x.desc) ≤ b.tb.up)
    (hrb : b.roomAt 1 (b.wireBytes x.desc) ≤ b.tb.up) (hc : x.closing = false) :
    let t := ((b.copyTo 0 k).copyTo 1 k).channelDone k
    t.out = .stream .b k x.desc.mac x.udpTo b.vlanTag bs :: .stream .a k x.desc.mac x.udpTo b.vlanTag bs :: b.out
      ∧ t.streamOf k = some x.left.ended ∧ Keeps [.regs, .dma, .out] b t := by
  intro t
  have ht : t = ((b.placed 0 k x bs).copyTo 1 k).channelDone k := by rw [← Block.copyTo_placed (p := 0) h hA hla hra]
  obtain ⟨hout, hrec, -, -, hkeep⟩ := Block.lastCopy_sent (port := .b) (Block.placed_sends (p := 0) (b := b) (k := k) h.2)
    hB rfl ((Block.placed_link 1).trans hlb) hrb hc
  rw [ht]
  exact ⟨hout.trans (congrArg _ (Block.placed_out .a k x bs b)), hrec, (Block.placed_keeps.mono (by decide)).trans hkeep⟩

/-- One copy is placed, and the port of the other is down: the packet has left, and the next one carries GAP (R423). -/
theorem Block.copies_oneDown {port : Stn} (h : b.sends k x bs) (hA : x.toA = true) (hB : x.toB = true)
    (hl : b.dma.link (stnNum port) = true) (hd : b.dma.link (1 - stnNum port) = false)
    (hr : b.roomAt (stnNum port) (b.wireBytes x.desc) ≤ b.tb.up) (hc : x.closing = false) :
    let t := ((b.copyTo 0 k).copyTo 1 k).channelDone k
    t.out = .stream port k x.desc.mac x.udpTo b.vlanTag bs :: b.out
      ∧ t.streamOf k = some ({ x with gap := true } : StreamSt).left.ended ∧ Keeps [.regs, .dma, .out] b t := by
  intro t
  cases port
  case a =>
    have ht : t = ((b.placed 0 k x bs).copyTo 1 k).channelDone k := by rw [← Block.copyTo_placed (p := 0) h hA hl hr]
    obtain ⟨hout, hrec, -, -, hkeep⟩ := Block.lastCopy_dropped (port := .b) (Block.placed_sends (p := 0) (b := b) (k := k) h.2)
      hB rfl ((Block.placed_link 1).trans hd) hc
    rw [ht]
    exact ⟨hout.trans (Block.placed_out .a k x bs b), hrec, (Block.placed_keeps.mono (by decide)).trans (hkeep.mono (by decide))⟩
  case b =>
    have ht : t = ((b.setStream k { x.taken 0 with gap := true }).copyTo 1 k).channelDone k := by
      rw [← Block.copyTo_down (p := 0) h.1 ⟨bs, h.2⟩ hA hd]
    obtain ⟨hout, hrec, -, -, hkeep⟩ := Block.lastCopy_sent (port := .b) (b := b.setStream k { x.taken 0 with gap := true })
      (Block.setStream_sends h.2) hB rfl hl hr hc
    rw [ht]
    exact ⟨hout, hrec, ((b.setStream_keeps _ _).mono (by decide)).trans hkeep⟩

/-- The first of two copies is placed, and the packet waits for the other (R69). -/
theorem Block.firstCopy_sent {port : Stn} (h : b.sends k x bs) (hto : x.waitsOn (stnNum port) = true)
    (hother : (if stnNum port = 0 then x.toB else x.toA) = true) (hl : b.dma.link (stnNum port) = true)
    (hroom : b.roomAt (stnNum port) (b.wireBytes x.desc) ≤ b.tb.up) :
    (b.copyTo (stnNum port) k).channelDone k = b.placed (stnNum port) k x bs
    ∧ (b.placed (stnNum port) k x bs).streamOf k
      = some { x with placed := true, toA := decide (stnNum port ≠ 0), toB := decide (stnNum port = 0) } := by
  have hs := Block.placed_sends (p := stnNum port) (b := b) (k := k) h.2
  have htaken : x.taken (stnNum port) = { x with toA := decide (stnNum port ≠ 0), toB := decide (stnNum port = 0) } := by
    cases x
    cases port <;> simp_all [StreamSt.taken, stnNum]
  rw [htaken] at hs
  rw [Block.copyTo_placed h hto hl hroom]
  exact ⟨Block.channelDone_waits hs (by cases port <;> rfl), hs.1⟩

/-! ### The run of a stroke channel (R77) -/

/-- The record of a stream whose packet has just been built. -/
def StreamSt.built (x : StreamSt) (bs : List Byte) : StreamSt :=
  { x with packet := some bs, gap := false, placed := false
           toA := x.desc.route.toNat.testBit 0, toB := x.desc.route.toNat.testBit 1 }

theorem Block.strokeChannelRun_eq (hx : b.streamOf k = some x) (hbusy : x.busy = true) (hpacket : x.packet = none)
    (hfirst : ∀ j < k, j ∉ b.busyStreams) : b.strokeChannelRun k
      = (((b.setStream k (x.built (b.buildPacket k x))).copyTo 0 k).copyTo 1 k).channelDone k := by
  have hnone : b.busyStreams.any (· < k) = false := by
    rw [List.any_eq_false]
    exact fun j hj hlt => hfirst j (of_decide_eq_true hlt) hj
  have hturn : (!x.busy || x.packet.isSome || b.busyStreams.any (· < k)) = false := by
    rw [hnone, hbusy, hpacket]
    rfl
  simp only [Block.strokeChannelRun, hx, hturn, Bool.false_eq_true, if_false]
  rfl

theorem Block.strokeChannelRun_still (h : b.streamOf k = none ∨ b.streamOf k = some x
    ∧ (x.busy = false ∨ x.packet ≠ none ∨ ∃ j < k, j ∈ b.busyStreams)) : b.strokeChannelRun k = b := by
  rcases h with h | ⟨hx, h⟩
  · simp only [Block.strokeChannelRun, h]
  · have hturn : (!x.busy || x.packet.isSome || b.busyStreams.any (· < k)) = true := by
      simp only [Bool.or_eq_true, Bool.not_eq_true', List.any_eq_true, decide_eq_true_eq, or_assoc]
      exact h.imp_right (Or.imp Option.isSome_iff_ne_none.mpr fun ⟨j, hj, hm⟩ => ⟨j, hm, hj⟩)
    simp only [Block.strokeChannelRun, hx, hturn, if_true]

/-- A packet whose route names one station port alone. -/
theorem StreamSt.built_one {port : Stn} (h1 : x.desc.route.toNat.testBit (stnNum port) = true)
    (h2 : x.desc.route.toNat.testBit (1 - stnNum port) = false) : (x.built bs).waitsOn (stnNum port) = true
      ∧ (x.built bs).waitsOn (1 - stnNum port) = false
      ∧ (if stnNum port = 0 then (x.built bs).toB else (x.built bs).toA) = false := by
  cases port <;> exact ⟨h1, h2, h2⟩

/-- A copy without room waits, its packet in progress (R69). -/
theorem Block.lastCopy_noRoom {port : Stn} (h1 : x.desc.route.toNat.testBit (stnNum port) = true)
    (h2 : x.desc.route.toNat.testBit (1 - stnNum port) = false) (h : b.sends k (x.built bs) bs)
    (hl : b.dma.link (stnNum port) = true) (hroom : ¬ b.roomAt (stnNum port) (b.wireBytes x.desc) ≤ b.tb.up) :
    (b.copyTo (stnNum port) k).channelDone k = b
    ∧ x.built bs = { x with packet := some bs, gap := false, placed := false
                            toA := decide (stnNum port = 0), toB := decide (stnNum port ≠ 0) } := by
  have hroute : x.desc.route.toNat.testBit 0 = decide (stnNum port = 0)
      ∧ x.desc.route.toNat.testBit 1 = decide (stnNum port ≠ 0) := by
    cases port
    · exact ⟨h1, h2⟩
    · exact ⟨h2, h1⟩
  have hwait : ((x.built bs).toA || (x.built bs).toB) = true := by
    simp only [StreamSt.built, hroute]
    cases port <;> rfl
  rw [Block.copyTo_noRoom h hl hroom]
  exact ⟨Block.channelDone_waits h hwait, by rw [StreamSt.built, hroute.1, hroute.2]⟩

end

/-- Settles O24: the packet is built, its copies are placed one after the other, and the last one ends it. -/
theorem streamPackets : Obligations.StreamPackets := by
  unfold Obligations.StreamPackets
  intro s k x port p fits one ready bs done
  have hb : (s.blk.setStream k (x.built bs)).sends k (x.built bs) bs := Block.setStream_sends rfl
  have hkeep := fun ps (h : [Part.dma] ⊆ ps) => (s.blk.setStream_keeps k (x.built bs)).mono h
  have ran (post : Block → Prop) (hr : ready)
      (h : post ((((s.blk.setStream k (x.built bs)).copyTo 0 k).copyTo 1 k).channelDone k)) :
      Does (.strokeChannelRun k) s post := by
    obtain ⟨hx, hbusy, hpacket, hfirst⟩ := hr
    refine does_onBlk (f := (·.strokeChannelRun k)) rfl ?_
    rwa [Block.strokeChannelRun_eq hx hbusy hpacket hfirst]
  refine ⟨fun hr ⟨h1, h2⟩ hc hl hf => ?placed, fun hr ⟨h1, h2⟩ hc hl => ?down, fun hr ⟨h1, h2⟩ hl hf => ?noRoom,
    fun hr hA hB hc hl hf => ⟨fun hl' => ?oneDown, fun hl' hf' => ?both⟩,
    fun q hr ⟨h1, h2⟩ hc hl hf hcores hq hw => ?closing, fun h => ?notReady,
    fun pkt hx hbusy hc hpkt hto hw hl => ⟨fun hlast => ?drained, fun hother => ?first⟩, fun hw => ?noWait⟩
  case placed =>
    obtain ⟨hto, hskip, hlast⟩ := StreamSt.built_one (bs := bs) h1 h2
    refine ran _ hr ?_
    rw [Block.copies_one hb hskip]
    obtain ⟨hout, hrec, hidle, hcount, hk⟩ := Block.lastCopy_sent hb hto hlast hl hf hc
    exact ⟨⟨_, _, hout⟩, hrec, hidle, hcount, (hkeep _ (by decide)).trans hk⟩
  case down =>
    obtain ⟨hto, hskip, hlast⟩ := StreamSt.built_one (bs := bs) h1 h2
    refine ran _ hr ?_
    rw [Block.copies_one hb hskip]
    obtain ⟨hout, hrec, hidle, hcount, hk⟩ := Block.lastCopy_dropped hb hto hlast hl hc
    exact ⟨hout, hrec, hidle, hcount, (hkeep _ (by decide)).trans hk⟩
  case noRoom =>
    obtain ⟨-, hskip, -⟩ := StreamSt.built_one (bs := bs) h1 h2
    obtain ⟨hstay, hbuilt⟩ := Block.lastCopy_noRoom h1 h2 hb hl hf
    refine ran _ hr ?_
    rw [Block.copies_one hb hskip, hstay, ← hbuilt]
    exact ⟨rfl, hb.1, RegsBut.refl _ _, s.blk.setStream_keeps _ _⟩
  case oneDown =>
    obtain ⟨hout, hrec, hk⟩ := Block.copies_oneDown (port := port) hb hA hB hl hl' hf hc
    exact ran _ hr ⟨⟨_, _, hout⟩, hrec, (hkeep _ (by decide)).trans hk⟩
  case both =>
    refine ran _ hr ?_
    have both := fun hla hlb hra hrb => Block.copies_both hb hA hB hla hlb hra hrb hc
    have hports : (s.blk.dma.link 0 = true ∧ s.blk.dma.link 1 = true)
        ∧ s.blk.roomAt 0 (s.blk.wireBytes x.desc) ≤ s.blk.tb.up ∧ s.blk.roomAt 1 (s.blk.wireBytes x.desc) ≤ s.blk.tb.up := by
      cases port
      · exact ⟨⟨hl, hl'⟩, hf, hf'⟩
      · exact ⟨⟨hl', hl⟩, hf', hf⟩
    obtain ⟨hout, hrec, hk⟩ := both hports.1.1 hports.1.2 hports.2.1 hports.2.2
    exact ⟨⟨_, _, hout⟩, hrec, (hkeep _ (by decide)).trans hk⟩
  case closing =>
    obtain ⟨hto, hskip, hlast⟩ := StreamSt.built_one (bs := bs) h1 h2
    refine ran _ hr ?_
    rw [Block.copies_one hb hskip]
    obtain ⟨hempty, hrec, hrep, hk⟩ := Block.lastCopy_closing hb hto hlast hl hf hc hq hw
    exact ⟨hempty, hrec, hrep, (hkeep _ (by decide)).trans hk⟩
  case notReady =>
    refine does_onBlk (f := (·.strokeChannelRun k)) rfl ?_
    rw [Block.strokeChannelRun_still h]
    exact ⟨RegsBut.refl _ _, Keeps.refl _ _⟩
  case drained =>
    obtain ⟨hu, hul, hroom, hup, huout, hcnt, -, huk⟩ := Block.untilUp_sends (p := p) ⟨hx, hpkt⟩
    obtain ⟨hout, hrec, hidle, hcount, hk⟩ := Block.lastCopy_sent hu hto hlast (hul.trans hl) hroom hc
    refine does_onBlk (f := (·.streamDrained p)) rfl ?_
    rw [Block.streamDrained_eq hx hw]
    refine ⟨⟨_, _, hout.trans (congrArg _ huout)⟩, hrec, ?_, hidle, hcnt ▸ hcount,
      (huk.mono (by decide)).trans (hk.mono (by decide))⟩
    exact hup.trans_eq (congrArg TimeBase.up (hk .tb (by decide)).symm)
  case first =>
    obtain ⟨hu, hul, hroom, -, huout, -, hur, huk⟩ := Block.untilUp_sends (p := p) ⟨hx, hpkt⟩
    obtain ⟨hplaced, hrec⟩ := Block.firstCopy_sent hu hto hother (hul.trans hl) hroom
    refine does_onBlk (f := (·.streamDrained p)) rfl ?_
    rw [Block.streamDrained_eq hx hw, hplaced]
    exact ⟨⟨_, _, (Block.placed_out port k x pkt _).trans (congrArg _ huout)⟩, hrec, hur,
      (huk.mono (by decide)).trans (Block.placed_keeps.mono (by decide))⟩
  case noWait =>
    refine does_onBlk (f := (·.streamDrained p)) rfl ?_
    rw [show s.blk.streamDrained p = s.blk by simp only [Block.streamDrained, hw]]
    exact ⟨RegsBut.refl _ _, Keeps.refl _ _⟩

end Sys2Proof.Machine
end

section
/-! PROOFS. The firmware's channels of the engine while no other bulk channel has work (R422, R425, R438), and the event log
    (R82, R84, R348 to R351, R355). -/

namespace Sys2Proof.Machine

/-! ### A firmware channel alone (R422, R425) -/

/-- No bulk channel but `n` has work. -/
def Block.bulkOnly (n : Nat) (b : Block) : Prop := ∀ m ∈ b.bulkReady, m = n

theorem Block.mem_bulkReady {m : Nat} {b : Block} : m ∈ b.bulkReady ↔ m ∈ (List.range 32).drop 8
    ∧ (if m < 16 then decide (0 < (b.chan m).left) else b.on (Reg.DMA_CH_STAT_BUSY m)) = true := List.mem_filter

theorem Block.bulkNext_mem {m : Nat} {b : Block} (h : b.bulkNext = some m) : m ∈ b.bulkReady := by
  unfold Block.bulkNext at h
  rcases Option.or_eq_some_iff.mp h with h | ⟨-, h⟩
  · exact List.mem_of_mem_filter (List.mem_of_find?_eq_some h)
  · exact List.mem_of_mem_filter (List.mem_of_mem_head? h)

theorem Block.chan_updChan_ne {n m : Nat} (f : ChanSt → ChanSt) (b : Block) (h : m ≠ n) : (b.updChan n f).chan m = b.chan m :=
  SMap.look_store_ne _ _ _ _ _ h

/-- Only the channels' records and their flags of work decide which bulk channels are ready. -/
theorem Block.bulkOnly.of_others {n : Nat} {b c : Block} (h : b.bulkOnly n) (hchan : ∀ m, m ≠ n → c.chan m = b.chan m)
    (hbusy : ∀ m, m ≠ n → c.on (Reg.DMA_CH_STAT_BUSY m) = b.on (Reg.DMA_CH_STAT_BUSY m)) : c.bulkOnly n := by
  intro m hm
  by_contra hne
  rw [Block.mem_bulkReady, hchan m hne, hbusy m hne] at hm
  exact hne (h m (Block.mem_bulkReady.mpr hm))

theorem Block.updChan_keeps (n : Nat) (f : ChanSt → ChanSt) (b : Block) : Keeps [.dma] b (b.updChan n f) := b.updDma_keeps _

/-- A burst of a firmware channel counts down what it has still to move. -/
theorem Block.bulkBurst_firmware {n : Nat} {b : Block} (hn : n < 16) (h : b.bulkOnly n) :
    Keeps [.dma] b (b.bulkBurst n) ∧ (b.bulkBurst n).bulkOnly n := by
  have hfw (c : Block) : ¬ ((c.chan n).left ≤ 1 ∧ 16 ≤ n) := by omega
  unfold Block.bulkBurst
  dsimp only
  rw [if_neg (hfw _)]
  exact ⟨(b.updDma_keeps _).trans (Block.updDma_keeps _ _),
    h.of_others (fun m hm => Block.chan_updChan_ne _ _ hm) fun _ _ => rfl⟩

theorem Block.bulkRun_firmware {n : Nat} (hn : n < 16) (k : Nat) {b : Block} (h : b.bulkOnly n) :
    Keeps [.dma] b (b.bulkRun n k) := by
  induction k generalizing b with
  | zero => exact Keeps.refl _ b
  | succ k ih =>
    unfold Block.bulkRun
    split
    · exact Keeps.refl _ b
    · next m hm =>
      obtain rfl := h m (Block.bulkNext_mem hm)
      obtain ⟨hk, ho⟩ := Block.bulkBurst_firmware hn h
      exact Keeps.ite (fun _ => hk) fun _ => hk.trans (ih ho)

/-- What the bulk traffic leaves where channel `n` of the firmware alone has work. -/
theorem Block.bulkShare_firmware {n : Nat} (hn : n < 16) {b : Block} (h : b.bulkOnly n) : Keeps [.dma] b (b.bulkShare n) :=
  Keeps.ite (fun _ => Keeps.refl _ b) fun _ => Block.bulkRun_firmware hn _ h

/-! ### Its operation begins and ends (R438) -/

/-- The fields of channel `n` that its operation writes. -/
def chanFields (n : Nat) : List Field := [Reg.DMA_CH_STAT_BUSY n, Reg.DMA_CH_STAT_STOPPED n, Reg.DMA_CH_CNT_COUNT n]

theorem Block.fwBegin_eq {n bursts : Nat} {b : Block} (hh : b.on Reg.DMA_STAT_HALTED = false) : b.fwBegin n bursts
    = (b.updChan n fun c => { c with left := bursts, grantAt := b.tb.up }).chanBusy n true := by
  rw [Block.fwBegin, hh]
  rfl

theorem Block.chanBusy_regsBut (n : Nat) (on : Bool) (b : Block) :
    RegsBut [Reg.DMA_CH_STAT_BUSY n, Reg.DMA_CH_STAT_STOPPED n] b (b.chanBusy n on) :=
  (b.flag_regsBut _ _).trans_append (Block.flag_regsBut _ _ _)

theorem DMA_CH_STAT_BUSY_key_ne {n m : Nat} (h : m ≠ n) : (Reg.DMA_CH_STAT_BUSY m).key ≠ (Reg.DMA_CH_STAT_BUSY n).key
    ∧ (Reg.DMA_CH_STAT_BUSY m).key ≠ (Reg.DMA_CH_STAT_STOPPED n).key := by
  simp only [Field.key, Reg.DMA_CH_STAT_BUSY, Reg.DMA_CH_STAT_STOPPED]
  omega

/-- Channel `n` has begun: it is busy, and no other has work. -/
theorem Block.fwBegin_busy {n bursts : Nat} {b : Block} (hh : b.on Reg.DMA_STAT_HALTED = false) (h : b.bulkOnly n) :
    (b.fwBegin n bursts).on (Reg.DMA_CH_STAT_BUSY n) = true ∧ (b.fwBegin n bursts).bulkOnly n
    ∧ RegsBut [Reg.DMA_CH_STAT_BUSY n, Reg.DMA_CH_STAT_STOPPED n] b (b.fwBegin n bursts)
    ∧ Keeps [.regs, .dma] b (b.fwBegin n bursts) := by
  have hchan (m : Nat) (c : Block) : (c.chanBusy n true).chan m = c.chan m := rfl
  rw [Block.fwBegin_eq hh]
  refine ⟨Block.on_chanBusy_same _ _ _, h.of_others (fun m hm => (hchan m _).trans (Block.chan_updChan_ne _ b hm)) fun m hm => ?_,
    Block.chanBusy_regsBut _ _ _, ((b.updChan_keeps _ _).mono (by decide)).trans ((Block.chanBusy_keeps _ _ _).mono (by decide))⟩
  obtain ⟨hb, hs⟩ := DMA_CH_STAT_BUSY_key_ne hm
  exact congrArg (· != 0) (Block.chanBusy_regsBut n true _ _ (by simpa using ⟨hb, hs⟩))

/-- The operation of channel `n` ends: one that was busy and completes is counted (R438). -/
theorem Block.fwEnd_frame (n : Nat) (ok : Bool) (b : Block) :
    RegsBut (chanFields n) b (b.fwEnd n ok) ∧ Keeps [.regs, .dma] b (b.fwEnd n ok) := by
  unfold Block.fwEnd
  dsimp only
  generalize hc : b.updDma _ = c
  have hr : RegsBut (chanFields n) b c ∧ Keeps [.regs, .dma] b c := hc ▸ ⟨RegsBut.refl _ _, (b.updDma_keeps _).mono (by decide)⟩
  obtain ⟨hreg, hkeep⟩ := hr
  have hd := hkeep.trans (((c.updChan_keeps n fun _ => default).mono (by decide)).trans
    ((Block.chanBusy_keeps n false _).mono (by decide)))
  have hidle : RegsBut [Reg.DMA_CH_STAT_BUSY n, Reg.DMA_CH_STAT_STOPPED n] c ((c.updChan n fun _ => default).chanBusy n false) :=
    Block.chanBusy_regsBut n false _
  split
  · exact ⟨hreg, hkeep⟩
  · split
    · exact ⟨(hreg.trans_append (hidle.trans_append (Block.wr_regsBut _ _ _))).mono (by simp [chanFields]),
        hd.trans ((Block.wr_keeps _ _ _).mono (by decide))⟩
    · exact ⟨(hreg.trans_append hidle).mono (by simp [chanFields]), hd⟩

theorem DMA_CH_CNT_COUNT_key_ne (n : Nat) : (Reg.DMA_CH_STAT_BUSY n).key ≠ (Reg.DMA_CH_CNT_COUNT n).key
    ∧ (Reg.DMA_CH_CNT_COUNT n).key ≠ (Reg.DMA_CH_STAT_BUSY n).key
    ∧ (Reg.DMA_CH_CNT_COUNT n).key ≠ (Reg.DMA_CH_STAT_STOPPED n).key := by
  simp only [Field.key, Reg.DMA_CH_STAT_BUSY, Reg.DMA_CH_STAT_STOPPED, Reg.DMA_CH_CNT_COUNT]
  omega

theorem Block.fwEnd_idle (n : Nat) (ok : Bool) (b : Block) : (b.fwEnd n ok).on (Reg.DMA_CH_STAT_BUSY n) = false := by
  unfold Block.fwEnd
  dsimp only
  generalize b.updDma _ = c
  have hidle := Block.on_chanBusy_same n false (c.updChan n fun _ => default)
  split
  · next h => simpa using h
  · split
    · exact (congrArg (· != 0) (Block.rd_wr_ne _ _ _ _ (DMA_CH_CNT_COUNT_key_ne n).1)).trans hidle
    · exact hidle

theorem Block.fwEnd_counts {n : Nat} {b : Block} (hb : b.on (Reg.DMA_CH_STAT_BUSY n) = true) :
    (b.fwEnd n true).rd (Reg.DMA_CH_CNT_COUNT n) = (b.rd (Reg.DMA_CH_CNT_COUNT n) + 1) % 2 ^ 32 := by
  obtain ⟨-, hb', hs⟩ := DMA_CH_CNT_COUNT_key_ne n
  have hbusy (f : DmaSt → DmaSt) : (b.updDma f).on (Reg.DMA_CH_STAT_BUSY n) = true := hb
  unfold Block.fwEnd
  simp only [hbusy, Bool.not_true, Bool.false_eq_true, if_false, if_true]
  rw [Block.bump, Block.rd_wr_same, Block.chanBusy_regsBut n false _ _ (by simpa using ⟨hb', hs⟩)]
  rfl

/-- A whole operation of channel `n` of the firmware, while no other bulk channel has work: the channel is idle again and the
    operation counted. -/
theorem Block.fwOperation {n bursts : Nat} (hn : n < 16) {b : Block} (hh : b.on Reg.DMA_STAT_HALTED = false)
    (h : b.bulkOnly n) :
    let t := ((b.fwBegin n bursts).bulkShare n).fwEnd n true
    t.on (Reg.DMA_CH_STAT_BUSY n) = false ∧ t.rd (Reg.DMA_CH_CNT_COUNT n) = (b.rd (Reg.DMA_CH_CNT_COUNT n) + 1) % 2 ^ 32
      ∧ RegsBut (chanFields n) b t ∧ Keeps [.regs, .dma] b t := by
  intro t
  obtain ⟨hbusy, honly, hregs, hkeep⟩ := Block.fwBegin_busy (bursts := bursts) hh h
  have hshare := Block.bulkShare_firmware hn honly
  have hsame : ((b.fwBegin n bursts).bulkShare n).regs = (b.fwBegin n bursts).regs := hshare .regs (by decide)
  have hrd (f : Field) : ((b.fwBegin n bursts).bulkShare n).rd f = (b.fwBegin n bursts).rd f := congrArg (Bank.fld · f) hsame
  obtain ⟨hendr, hendk⟩ := Block.fwEnd_frame n true ((b.fwBegin n bursts).bulkShare n)
  obtain ⟨-, hb', hs⟩ := DMA_CH_CNT_COUNT_key_ne n
  refine ⟨Block.fwEnd_idle _ _ _, ?_, ?_, hkeep.trans ((hshare.mono (by decide)).trans hendk)⟩
  · rw [Block.fwEnd_counts (by rwa [Block.on, hrd]), hrd, hregs _ (by simpa using ⟨hb', hs⟩)]
  · exact (hregs.trans_append ((RegsBut.of_regs hsame).trans_append hendr)).mono (by simp [chanFields])

/-! ### The ring and the numbers (R349, R351) -/

/-- What the ring shows. -/
def ringFields : List Field := [Reg.EVT_OLDEST_NUM, Reg.EVT_UNACK_COUNT]

theorem Block.ringShow_regsBut (b : Block) : RegsBut ringFields b b.ringShow :=
  (b.wr_regsBut _ _).trans_append (Block.wr_regsBut _ _ _)

theorem Block.ringShow_unacked (b : Block) : b.ringShow.rd Reg.EVT_UNACK_COUNT
    = (b.evt.ring.filter fun r => unacked (b.rd Reg.EVT_ACKED_NUM) r.num).length % 2 ^ 32 := Block.rd_wr_same _ _ _

/-- A record is staged behind the others while there is room (R351). -/
theorem Block.stage_room {b : Block} (r : Rec) (h : b.evt.staged.length < stagingSize) : b.stage r
    = b.updEvt fun e => { e with staged := e.staged ++ [{ r with loss := e.loss }], loss := false } := by
  have hfull : ¬ stagingSize ≤ b.evt.staged.length := Nat.not_le.mpr h
  simp [Block.stage, makeRoom, h, hfull, Block.updEvt]

theorem Block.homeErased_keeps (h : Nat) (b : Block) : Keeps [.regs, .boot] b (b.homeErased h) :=
  ((b.updBoot_keeps _).mono (by decide)).trans ((Block.wr_keeps _ _ _).mono (by decide))

/-- The blocks of flash that are erased show in the wear register alone (R437). -/
theorem Block.homesErased_frame (hs : List Nat) (b : Block) :
    RegsBut [Reg.DMA_BG_WEAR_MAX_ERASE] b (b.eachOf hs fun h b => b.homeErased h)
    ∧ Keeps [.regs, .boot] b (b.eachOf hs fun h b => b.homeErased h) := by
  refine ⟨fun g hg => Block.eachOf_rd (fun h _ c => ?_) b, Block.eachOf_keeps _ _ (fun h _ c => c.homeErased_keeps h) b⟩
  exact Block.wr_regsBut Reg.DMA_BG_WEAR_MAX_ERASE _ _ g hg

/-- Committing moves the staged records to the ring (R351). -/
theorem Block.commitStaged_frame (b : Block) :
    b.commitStaged.evt = { b.evt with ring := ringAppend b.evt.ring b.evt.staged, staged := [] }
    ∧ (b.evt.staged = [] → RegsBut ringFields b b.commitStaged)
    ∧ RegsBut (Reg.DMA_BG_WEAR_MAX_ERASE :: ringFields) b b.commitStaged ∧ Keeps [.regs, .evt, .boot] b b.commitStaged := by
  obtain ⟨hregs, hkeep⟩ := b.homesErased_frame (ringErased b.evt.ring b.evt.staged)
  have hevt := hkeep .evt (by decide)
  unfold Block.commitStaged
  dsimp only
  refine ⟨?_, fun h0 => ?_, ?_, ?_⟩
  · have hshow := Block.ringShow_keeps ((b.eachOf (ringErased b.evt.ring b.evt.staged) fun h b => b.homeErased h).updEvt fun e =>
      { e with ring := ringAppend e.ring e.staged, staged := [] }) .evt (by decide)
    refine hshow.trans ?_
    rw [Block.updEvt_evt, hevt]
  · have hnone : ringErased b.evt.ring b.evt.staged = [] := by rw [h0]; rfl
    rw [hnone]
    exact Block.ringShow_regsBut _
  · exact hregs.trans_append (Block.ringShow_regsBut _)
  · exact (hkeep.mono (by decide)).trans (((Block.updEvt_keeps _ _).mono (by decide)).trans
      ((Block.ringShow_keeps _).mono (by decide)))

/-! ### Reading (R82, R355) -/

theorem Block.drawn_keeps (b : Block) : Keeps [.draws] b b.drawn := by
  intro p hp
  cases p
  case draws => exact absurd (List.mem_singleton_self _) hp
  all_goals rfl

/-- A flash page read without an injected failure takes a free value, and may be corrected (R355). -/
theorem Block.flashCheck_frame {b : Block} (hi : b.injects 4 0 = false) :
    (b.free % 2 = 0 → b.flashCheck none = b.drawn) ∧ Keeps (.draws :: raiseParts) b (b.flashCheck none) := by
  have hdrawn := b.drawn_keeps
  have he : b.flashCheck none = if b.free % 2 = 1 then b.drawn.raise { source := 5 } else b.drawn := by
    rw [Block.flashCheck, hi]
    rfl
  refine ⟨fun h0 => ?_, ?_⟩
  · rw [he, if_neg (by omega)]
  · rw [he]
    exact Keeps.ite (fun _ => (hdrawn.mono (by decide)).trans ((Block.keeps_of_still (Block.raise_still _ _)).mono (by decide)))
      fun _ => hdrawn.mono (by decide)

/-- The records that EVENT_READ answers (R82). -/
def Block.askedFor (b : Block) (first m : Nat) : List Rec :=
  (b.evt.log.filter fun r => if first = 0xFFFFFFFF then unacked (b.rd Reg.EVT_ACKED_NUM) r.num else notBefore r.num first).take m

theorem Block.eventRead_eq (first m : Nat) (b : Block) : b.eventRead first m
    = (if (b.askedFor first m).any fun r => b.evt.ring.contains r then b.flashCheck none else b,
       ok (be 4 (match b.askedFor first m with
          | r :: _ => r.num
          | [] => if first = 0xFFFFFFFF then b.rd Reg.EVT_NEXT_NUM else first)
         ++ be 2 (b.askedFor first m).length ++ zeros 2 ++ (b.askedFor first m).flatMap Rec.bytes)) := by
  have hasked : b.askedFor first m = (if first = 0xFFFFFFFF then b.evt.log.filter fun r => unacked (b.rd Reg.EVT_ACKED_NUM) r.num
      else b.evt.log.filter fun r => notBefore r.num first).take m := by
    unfold Block.askedFor
    split <;> rfl
  rw [hasked]
  rfl

theorem allOnes_iff (n : BitVec 32) : n = 0xFFFFFFFF ↔ n.toNat = 0xFFFFFFFF :=
  ⟨fun h => by rw [h]; rfl, fun h => BitVec.eq_of_toNat_eq h⟩

/-- An occurrence takes its number and is staged (R348, R349). -/
theorem Block.eventNumbering_stages {b : Block} {r : Rec} (hr : b.toNumber = some r) (hroom : b.evt.staged.length < stagingSize) :
    let num := b.rd Reg.EVT_NEXT_NUM
    let t := b.eventNumbering
    t.evt.held = b.evt.held.erase r
      ∧ t.evt.staged = b.evt.staged ++ [{ r with num := num, at_ := t.tb.up, loss := b.evt.loss }]
      ∧ t.rd Reg.EVT_NEXT_NUM = (num + 1) % 2 ^ 32 ∧ r.at_ + 2 * usPs ≤ t.tb.up
      ∧ RegsBut ([Reg.EVT_NEXT_NUM, Reg.EVT_OLDEST_NUM, Reg.EVT_UNACK_COUNT] ++ adjFields) b t
      ∧ Keeps [.regs, .tb, .evt] b t := by
  intro num t
  let u := b.untilUp (r.at_ + 2 * usPs)
  obtain ⟨hur, huk⟩ := b.advance_frame (cdiv (r.at_ + 2 * usPs - b.tb.up) 1250)
  have hevt : u.evt = b.evt := huk .evt (by decide)
  have hnum : u.rd Reg.EVT_NEXT_NUM = num := hur _ (by decide)
  let v := (u.updEvt fun e => { e with held := e.held.erase r, mark := markAbove e.mark ((num + 1) % 2 ^ 32) }).bump
    Reg.EVT_NEXT_NUM
  have hv : v.evt = { b.evt with held := b.evt.held.erase r, mark := markAbove b.evt.mark ((num + 1) % 2 ^ 32) } := by
    rw [← hevt]
    rfl
  have ht : t = (v.updEvt fun e => { e with
      staged := e.staged ++ [{ r with num := num, at_ := v.tb.up, loss := e.loss }], loss := false }).ringShow := by
    have hs := Block.stage_room (b := v) { r with num := num, at_ := v.tb.up } (by rw [hv]; exact hroom)
    show b.eventNumbering = _
    rw [← hs, Block.eventNumbering, hr]
    dsimp only
    rw [show (b.untilUp (r.at_ + 2 * usPs)).rd Reg.EVT_NEXT_NUM = num from hnum]
  generalize hw : (v.updEvt fun e => { e with
    staged := e.staged ++ [{ r with num := num, at_ := v.tb.up, loss := e.loss }], loss := false }) = w at ht
  have hwr : RegsBut [Reg.EVT_NEXT_NUM] u w := hw ▸ Block.wr_regsBut Reg.EVT_NEXT_NUM (u.rd Reg.EVT_NEXT_NUM + 1) u
  have hwk : Keeps [.regs, .evt] u w := hw ▸ (((u.updEvt_keeps _).mono (by decide)).trans
    ((Block.wr_keeps _ _ _).mono (by decide))).trans ((Block.updEvt_keeps _ _).mono (by decide))
  have hwn : w.rd Reg.EVT_NEXT_NUM = (num + 1) % 2 ^ 32 := by
    rw [← hw, ← hnum]
    exact Block.rd_wr_same Reg.EVT_NEXT_NUM _ _
  have hwe : w.evt = { b.evt with
      held := b.evt.held.erase r, mark := markAbove b.evt.mark ((num + 1) % 2 ^ 32)
      staged := b.evt.staged ++ [{ r with num := num, at_ := v.tb.up, loss := b.evt.loss }], loss := false } := by
    rw [← hw, Block.updEvt_evt, hv]
  have hk := w.ringShow_keeps
  have hte : t.evt = w.evt := by rw [ht]; exact hk .evt (by decide)
  have htb : t.tb = u.tb := by rw [ht]; exact (hk .tb (by decide)).trans (hwk .tb (by decide))
  refine ⟨by rw [hte, hwe], by rw [hte, hwe, htb]; rfl, ?_, ?_, ?_, ?_⟩
  · rw [ht, w.ringShow_regsBut _ (by decide), hwn]
  · rw [htb]
    exact b.le_untilUp _
  · rw [ht]
    exact (hur.trans_append (hwr.trans_append w.ringShow_regsBut)).mono (by decide)
  · rw [ht]
    exact (huk.mono (by decide)).trans ((hwk.mono (by decide)).trans (hk.mono (by decide)))

theorem EVT_INJk_key_ne (k : Nat) : (Reg.EVT_INJk_REMAIN k).key ≠ (Reg.EVT_INJk_INDEX k).key
    ∧ (Reg.EVT_INJk_REMAIN k).key ∉ endFields.map Field.key ∧ (Reg.EVT_INJk_INDEX k).key ∉ endFields.map Field.key := by
  refine ⟨?_, not_endField_of_addr ?_, not_endField_of_addr ?_⟩
  · simp only [Field.key, Reg.EVT_INJk_REMAIN, Reg.EVT_INJk_INDEX]
    omega
  · simp only [Reg.EVT_INJk_REMAIN]
    omega
  · simp only [Reg.EVT_INJk_INDEX]
    omega

/-- The acknowledgement of records not yet acknowledged (R82). -/
theorem Block.eventAck_eq {n : Nat} {b : Block} (hn : n < 2 ^ 32) (hu : unacked (b.rd Reg.EVT_ACKED_NUM) n = true) :
    b.eventAck n = ((b.wr Reg.EVT_ACKED_NUM n).ringShow,
      ok (be 4 ((b.evt.ring.filter fun r => unacked n r.num).length % 2 ^ 32))) := by
  have hacked : (b.wr Reg.EVT_ACKED_NUM n).rd Reg.EVT_ACKED_NUM = n := (Block.rd_wr_same _ _ _).trans (Nat.mod_eq_of_lt hn)
  rw [Block.eventAck, hu]
  simp only [if_true, Block.ringShow_unacked, hacked]
  rfl

/-- Settles O48: numbering, commit, reading, acknowledging and injecting, each by what it changes of the log. -/
theorem eventLog : Obligations.EventLog := by
  unfold Obligations.EventLog
  intro s rq first m k idx n
  have only := fun st d p => Block.finish_only s.blk st d p
  refine ⟨fun r h6 hr hroom => ?numbered, fun h => ?unnumbered, fun hc hh hb => ?committed, fun hh => ?halted,
    fun ht h1 h43 => ⟨fun hi r rs hasked => ?read, fun hasked => ?empty⟩, fun ht hu => ?acked,
    fun ht h1 hk h2 h3 hok => ?injected, fun ht h1 hk hst => ?denied⟩
  case numbered =>
    exact does_onBlk (f := (·.eventNumbering)) rfl (Block.eventNumbering_stages (by rw [Block.toNumber, if_pos h6, hr]) hroom)
  case unnumbered =>
    refine does_onBlk (f := (·.eventNumbering)) rfl ?_
    have hnone : s.blk.toNumber = none := by
      obtain h | h := h <;> simp [Block.toNumber, h, firstHeld]
    rw [Block.eventNumbering, hnone]
    exact ⟨RegsBut.refl _ _, Keeps.refl _ _⟩
  case committed =>
    refine does_onBlk (f := (·.eventCommit)) rfl ?_
    rw [Block.eventCommit, hc, hh]
    simp only [Bool.not_true, Bool.or_false, Bool.false_eq_true, if_false]
    by_cases h0 : s.blk.evt.staged = []
    · obtain ⟨hevt, hshown, hregs, hkeep⟩ := s.blk.commitStaged_frame
      rw [if_pos (by rw [h0]; rfl)]
      exact ⟨hevt, hshown, fun h => absurd h0 h, hregs.mono (by decide), hkeep.mono (by decide)⟩
    · rw [if_neg (by simpa using h0)]
      obtain ⟨hidle, hcount, hregs, hkeep⟩ := Block.fwOperation (n := 8) (bursts := cdiv (32 * s.blk.evt.staged.length) 256)
        (by decide) hh hb
      generalize (((s.blk.fwBegin 8 (cdiv (32 * s.blk.evt.staged.length) 256)).bulkShare 8).fwEnd 8 true) = c at *
      have hevt : c.evt = s.blk.evt := hkeep .evt (by decide)
      obtain ⟨hring, -, hshow, hk⟩ := c.commitStaged_frame
      refine ⟨by rw [hring, hevt], fun h => absurd h h0, fun _ => ⟨?_, ?_⟩, (hregs.trans_append hshow).mono (by decide),
        (hkeep.mono (by decide)).trans (hk.mono (by decide))⟩
      · rw [Block.on, hshow _ (by decide)]
        exact hidle
      · rw [hshow _ (by decide), hcount]
  case halted =>
    refine does_onBlk (f := (·.eventCommit)) rfl ?_
    rw [Block.eventCommit, hh, Bool.or_true]
    exact ⟨RegsBut.refl _ _, Keeps.refl _ _⟩
  case read =>
    have ha : s.blk.askedFor first.toNat m.toNat = r :: rs := by
      rw [← hasked]
      simp only [Block.askedFor, allOnes_iff]
    obtain ⟨hquiet, hframe⟩ := Block.flashCheck_frame hi
    have hf := s.blk.eventRead_eq first.toNat m.toNat
    rw [ha] at hf
    simp only [hasked]
    have hstay (h : s.blk.free % 2 = 0 ∨ ∀ q ∈ r :: rs, q ∉ s.blk.evt.ring) :
        RegsBut [] s.blk (if (r :: rs).any fun r => s.blk.evt.ring.contains r then s.blk.flashCheck none else s.blk)
        ∧ Keeps [.draws] s.blk (if (r :: rs).any fun r => s.blk.evt.ring.contains r then s.blk.flashCheck none else s.blk) := by
      split
      · next hany =>
        obtain ⟨q, hq, hin⟩ := List.any_eq_true.mp hany
        rw [hquiet (h.resolve_right fun hno => hno q hq (List.contains_iff_mem.mp hin))]
        exact ⟨RegsBut.refl _ _, s.blk.drawn_keeps⟩
      · exact ⟨RegsBut.refl _ _, Keeps.refl _ _⟩
    have hkeep : Keeps (.draws :: raiseParts) s.blk
        (if (r :: rs).any fun r => s.blk.evt.ring.contains r then s.blk.flashCheck none else s.blk) :=
      Keeps.ite (fun _ => hframe) fun _ => Keeps.refl _ _
    refine does_serve rfl ht (by decide) (decide_eq_true ⟨h1, h43⟩) rfl hf (congrArg JarvasSt.queue (hkeep .jv (by decide)))
      ⟨fun h => ⟨RegsBut.finish (hstay h).1, ((hstay h).2.mono (by decide)).finish (by decide)⟩, ?_⟩
    exact (hkeep.mono (by decide)).finish (by decide)
  case empty =>
    have ha : s.blk.askedFor first.toNat m.toNat = [] := by
      rw [← hasked]
      simp only [Block.askedFor, allOnes_iff]
    have hf := s.blk.eventRead_eq first.toNat m.toNat
    rw [ha] at hf
    simp only [List.any_nil, Bool.false_eq_true, if_false, List.length_nil, List.flatMap_nil, List.append_nil] at hf
    simp only [allOnes_iff]
    exact does_serve rfl ht (by decide) (decide_eq_true ⟨h1, h43⟩) rfl hf rfl (only _ _ _)
  case acked =>
    have hw := s.blk.wr_keeps Reg.EVT_ACKED_NUM first.toNat
    refine (does_serve rfl ht (by decide) rfl rfl (Block.eventAck_eq first.isLt hu) rfl
      (post := fun t => t.rd Reg.EVT_ACKED_NUM = first.toNat
        ∧ RegsBut ([Reg.EVT_ACKED_NUM, Reg.EVT_OLDEST_NUM, Reg.EVT_UNACK_COUNT] ++ endFields) s.blk t ∧ Keeps endParts s.blk t)
      ⟨?_, ?_, ?_⟩).imp fun t ⟨ha, hr, hrest⟩ => ⟨hr, ha, hrest⟩
    · rw [Block.finish_rd (by decide), Block.ringShow_regsBut _ _ (by decide), Block.rd_wr_same]
      exact Nat.mod_eq_of_lt first.isLt
    · exact RegsBut.finish ((s.blk.wr_regsBut _ _).trans_append (Block.ringShow_regsBut _))
    · exact (hw.trans (Block.ringShow_keeps _)).finish_end
  case injected =>
    obtain ⟨hne, hrem, hidx⟩ := EVT_INJk_key_ne k.toNat
    have hf : s.blk.inject k.toNat idx.toNat n.toNat = ((s.blk.wr (Reg.EVT_INJk_REMAIN k.toNat) n.toNat).wr
        (Reg.EVT_INJk_INDEX k.toNat) (if k.toNat = 2 ∨ k.toNat = 3 then idx.toNat else 0), ok []) := by
      have hbad : ¬ (4 < k.toNat ∨ k.toNat = 2 ∧ 191 < idx.toNat ∨ k.toNat = 3 ∧ 2 < idx.toNat) := by omega
      have hrun : ¬ ((k.toNat = 0 ∨ k.toNat = 1 ∨ k.toNat = 4) ∧ s.blk.rd Reg.SYS_CONV_STAT_STATE ≠ 0) := by
        simp only [List.mem_cons, List.not_mem_nil, or_false] at hok
        omega
      rw [Block.inject, if_neg hbad, if_neg hrun]
    refine does_serve rfl ht (by decide) (decide_eq_true h1) rfl hf rfl ⟨?_, ?_, ?_, ?_⟩
    · rw [Block.finish_rd hrem, Block.rd_wr_ne _ _ _ _ hne, Block.rd_wr_same]
      exact Nat.mod_eq_of_lt n.isLt
    · rw [Block.finish_rd hidx, Block.rd_wr_same]
      simp only [List.mem_cons, List.not_mem_nil, or_false]
      refine Nat.mod_eq_of_lt ?_
      show _ < 256
      split <;> omega
    · exact RegsBut.finish ((s.blk.wr_regsBut _ _).trans_append (Block.wr_regsBut _ _ _))
    · exact ((s.blk.wr_keeps _ _).trans (Block.wr_keeps _ _ _)).finish_end
  case denied =>
    simp only [List.mem_cons, List.not_mem_nil, or_false] at hk
    have hf : s.blk.inject k.toNat idx.toNat n.toNat = (s.blk, denied 1) := by
      rw [Block.inject, if_neg (by omega), if_pos ⟨hk, hst⟩]
    exact does_serve rfl ht (by decide) (decide_eq_true h1) rfl hf rfl (only _ _ _)

end Sys2Proof.Machine
end

section
/-! PROOFS. The power states (R85, R388 to R391, R396). -/

namespace Sys2Proof.Machine

/-! ### The lanes stand quiet in P2 (R205) -/

theorem Keeps.symm {l : List Part} {a b : Block} (h : Keeps l a b) : Keeps l b a := by
  intro p hp
  have := h p hp
  cases p <;> exact Eq.symm this

/-- What the state of a lane leaves alone: the block beside its registers and lanes, and the fields before the lanes' own. -/
def Block.besideLanes (b : Block) : Block × (Field → Nat) :=
  ({ b with regs := [], lanes := [] }, fun f => if f.key < 0x100000 * 8 then b.rd f else 0)

theorem Block.wr_besideLanes (f : Field) (v : Nat) (b : Block) (h : 0x100000 ≤ f.addr) :
    (b.wr f v).besideLanes = b.besideLanes := by
  have hrd (g : Field) : (if g.key < 0x100000 * 8 then (b.wr f v).rd g else 0) = if g.key < 0x100000 * 8 then b.rd g else 0 := by
    split
    · next hg => exact Block.rd_wr_ne _ _ _ _ fun hk => by rw [hk, Field.key] at hg; omega
    · rfl
  exact congrArg (({ b with regs := [], lanes := [] } : Block), ·) (funext hrd)

theorem Block.flag_besideLanes (f : Field) (p : Bool) (b : Block) (h : 0x100000 ≤ f.addr) :
    (b.flag f p).besideLanes = b.besideLanes := b.wr_besideLanes f _ h

theorem Block.count_besideLanes (f : Field) (n : Nat) (b : Block) (h : 0x100000 ≤ f.addr) :
    (b.count f n).besideLanes = b.besideLanes := b.wr_besideLanes f _ h

theorem Block.updLane_besideLanes (l : Nat) (f : Lane → Lane) (b : Block) : (b.updLane l f).besideLanes = b.besideLanes := rfl

theorem Block.besideLanes_ite (c : Prop) [Decidable c] (x y : Block) :
    (if c then x else y).besideLanes = if c then x.besideLanes else y.besideLanes := by split <;> rfl

theorem lane_addr (l : Nat) : ∀ f ∈ laneFields l, 0x100000 ≤ f.addr := by
  simp only [laneFields, List.forall_mem_cons, Reg.LINK_STAT_STATE, Reg.LINK_STAT_REJECT, Reg.LINK_STAT_MISS_RUN,
    Reg.LINK_STAT_BIT_LOCK, Reg.LINK_STAT_BLOCK_LOCK, Reg.LINK_STAT_FAR_LOCK, Reg.LINK_RETRAIN_CNT_COUNT,
    Reg.LINK_TEST_STAT_RUNNING]
  refine ⟨?_, ?_, ?_, ?_, ?_, ?_, ?_, ?_, nofun⟩ <;> omega

theorem Block.laneTo_besideLanes (l st : Nat) (b : Block) : (b.laneTo l st).besideLanes = b.besideLanes := by
  have h := lane_addr l
  simp only [laneFields, List.forall_mem_cons] at h
  simp only [Block.laneTo, Block.laneLeave, Block.updLane_besideLanes, Block.besideLanes_ite, Block.flag_besideLanes,
    Block.wr_besideLanes, Block.count_besideLanes, ite_self, h]

theorem Block.lanesQuiet_besideLanes (b : Block) : b.lanesQuiet.besideLanes = b.besideLanes := by
  unfold Block.lanesQuiet Block.each
  induction List.range 192 generalizing b with
  | nil => rfl
  | cons l r ih =>
    rw [List.foldl_cons, ih, Block.besideLanes_ite, Block.laneTo_besideLanes, ite_self]

/-- The lanes that stand quiet change nothing but their states. -/
theorem Block.lanesQuiet_frame (b : Block) : Keeps [.regs, .lanes] b b.lanesQuiet
    ∧ ∀ f : Field, f.key < 0x100000 * 8 → b.lanesQuiet.rd f = b.rd f := by
  have hv := b.lanesQuiet_besideLanes
  have bare (c : Block) : Keeps [.regs, .lanes] c { c with regs := [], lanes := [] } := by
    intro p hp
    cases p
    case regs | lanes => exact absurd (by decide) hp
    all_goals rfl
  have hrest : { b.lanesQuiet with regs := [], lanes := [] } = { b with regs := [], lanes := [] } := congrArg Prod.fst hv
  refine ⟨(bare b).trans (hrest ▸ (bare b.lanesQuiet).symm), fun f hf => ?_⟩
  have := congrFun (congrArg Prod.snd hv) f
  simpa only [Block.besideLanes, if_pos hf] using this

/-! ### Moves between the states (R388 to R390) -/

theorem Block.powerWanted_off {b : Block} (h : b.rd Reg.SYS_CONV_STAT_STATE = 0) :
    b.powerWanted = stateOfTol (b.rd Reg.SYS_PWR_TOL_TOL_US) := if_pos h

theorem Block.powerWanted_faulted {b : Block} (h : 5 ≤ b.rd Reg.SYS_CONV_STAT_STATE) :
    b.powerWanted = b.rd Reg.SYS_PWR_STAT_STATE := by
  rw [Block.powerWanted, if_neg (by omega), if_pos h]

theorem stateOfTol_light {tol : Nat} (h1 : 5 ≤ tol) (h2 : tol < 200) : stateOfTol tol = 1 := by
  rw [stateOfTol, if_neg (by omega), if_pos h2]

theorem stateOfTol_low {tol : Nat} (h1 : 200 ≤ tol) (h2 : tol < 2000000) :
    stateOfTol tol = if tol < 20000 then 2 else 3 := by
  rw [stateOfTol, if_neg (by omega), if_neg (by omega), if_pos h2]

theorem stateOfTol_deep {tol : Nat} (h : 2000000 ≤ tol) : stateOfTol tol = 4 := by
  rw [stateOfTol, if_neg (by omega), if_neg (by omega), if_neg (by omega), if_neg (by omega)]

/-- A tolerance that is not denied is stored, and the power state is judged (R389). -/
theorem Block.latencyTol_judged {tol : Nat} {b : Block} (h1 : b.rd Reg.SYS_CONV_STAT_STATE = 0 ∨ tol < 200)
    (h2 : tol < 2000000) : b.latencyTol tol =
      if (b.wr Reg.SYS_PWR_TOL_TOL_US tol).judgePower.pow.target.isSome then
        ((b.wr Reg.SYS_PWR_TOL_TOL_US tol).judgePower, .wait .power)
      else ((b.wr Reg.SYS_PWR_TOL_TOL_US tol).judgePower,
        ok (powerReply ((b.wr Reg.SYS_PWR_TOL_TOL_US tol).judgePower.rd Reg.SYS_PWR_STAT_STATE))) := by
  have hfar : ¬ (!(b.rd Reg.SYS_CONV_STAT_STATE == 0) && decide (200 ≤ tol)) = true := by
    simp only [Bool.and_eq_true, Bool.not_eq_true', beq_eq_false_iff_ne, decide_eq_true_eq]
    omega
  have hdeep : (stateOfTol tol == 4) = false := by
    unfold stateOfTol
    repeat' split
    all_goals rfl
  unfold Block.latencyTol
  rw [if_neg hfar, hdeep, Bool.and_false, Bool.false_and]
  rfl

/-- The state stands as it is: it is the one wanted, or a move is under way. -/
theorem Block.judgePower_stays {b : Block} (h : b.powerWanted = b.rd Reg.SYS_PWR_STAT_STATE) : b.judgePower = b :=
  if_pos (.inr h)

/-- P0 and P1 follow each other at once. -/
theorem Block.judgePower_light {b : Block} (ht : b.pow.target = none) (hne : b.powerWanted ≠ b.rd Reg.SYS_PWR_STAT_STATE)
    (hst : b.rd Reg.SYS_PWR_STAT_STATE < 2) (hw : b.powerWanted < 2) : b.judgePower = b.lightMove b.powerWanted := by
  simp only [Block.judgePower, ht, Option.isSome_none, Bool.false_eq_true, false_or, if_neg hne, if_pos (And.intro hst hw)]

/-- A move to a lower state begins, and waits for its end. -/
theorem Block.judgePower_low {b : Block} (ht : b.pow.target = none) (hst : b.rd Reg.SYS_PWR_STAT_STATE < 2)
    (hw : 2 ≤ b.powerWanted) : b.judgePower = (b.updPow fun p =>
      { p with target := some b.powerWanted, moveAt := b.tb.up }).flag Reg.SYS_PWR_STAT_MOVING true := by
  have hne : b.powerWanted ≠ b.rd Reg.SYS_PWR_STAT_STATE := by omega
  have hlow : ¬ (b.rd Reg.SYS_PWR_STAT_STATE < 2 ∧ b.powerWanted < 2) := by omega
  have hexit (c : Block) (hc : c.rd Reg.SYS_PWR_STAT_STATE = b.rd Reg.SYS_PWR_STAT_STATE) : c.exitBegins = c := by
    rw [Block.exitBegins, hc, if_neg (by omega), if_neg (by omega)]
  simp only [Block.judgePower, ht, Option.isSome_none, Bool.false_eq_true, false_or, if_neg hne, if_neg hlow]
  exact hexit _ (Block.rd_flag_ne Reg.SYS_PWR_STAT_MOVING _ _ _ (by decide))

section
variable {tol : Nat} {b : Block}

/-- A tolerance reads as it was stored, and what the state is judged by stands. -/
theorem Block.storeTol_rd (ht : tol < 2 ^ 32) (b : Block) :
    (b.wr Reg.SYS_PWR_TOL_TOL_US tol).rd Reg.SYS_PWR_TOL_TOL_US = tol
    ∧ (b.wr Reg.SYS_PWR_TOL_TOL_US tol).rd Reg.SYS_CONV_STAT_STATE = b.rd Reg.SYS_CONV_STAT_STATE
    ∧ (b.wr Reg.SYS_PWR_TOL_TOL_US tol).rd Reg.SYS_PWR_STAT_STATE = b.rd Reg.SYS_PWR_STAT_STATE :=
  ⟨(Block.rd_wr_same _ _ _).trans (Nat.mod_eq_of_lt ht), Block.rd_wr_ne _ _ _ _ (by decide), Block.rd_wr_ne _ _ _ _ (by decide)⟩

/-- From P0 to P1 at once (R388). -/
theorem Block.latencyTol_light (ht : b.pow.target = none) (hoff : b.rd Reg.SYS_CONV_STAT_STATE = 0)
    (hst : b.rd Reg.SYS_PWR_STAT_STATE = 0) (h1 : 5 ≤ tol) (h2 : tol < 200) : b.latencyTol tol
      = ((b.wr Reg.SYS_PWR_TOL_TOL_US tol).wr Reg.SYS_PWR_STAT_STATE 1, ok (powerReply 1)) := by
  obtain ⟨htol, hc, hs⟩ := b.storeTol_rd (tol := tol) (by omega)
  rw [Block.latencyTol_judged (.inl hoff) (by omega)]
  generalize hx : b.wr Reg.SYS_PWR_TOL_TOL_US tol = x at htol hc hs ⊢
  have hxt : x.pow.target = none := hx ▸ ht
  have hwant : x.powerWanted = 1 := by rw [Block.powerWanted_off (hc.trans hoff), htol, stateOfTol_light h1 h2]
  have hj : x.judgePower = x.wr Reg.SYS_PWR_STAT_STATE 1 := by
    rw [Block.judgePower_light hxt (by omega) (by omega) (by omega), hwant]
    exact if_neg (by omega)
  rw [hj, Block.rd_wr_same, show (x.wr Reg.SYS_PWR_STAT_STATE 1).pow.target = none from hxt]
  rfl

/-- From P1 to P0 at once: no time passes (R388, R395). -/
theorem Block.latencyTol_back (ht : b.pow.target = none) (hoff : b.rd Reg.SYS_CONV_STAT_STATE = 0)
    (hst : b.rd Reg.SYS_PWR_STAT_STATE = 1) (h1 : tol < 5) : b.latencyTol tol
      = (((b.wr Reg.SYS_PWR_TOL_TOL_US tol).wr Reg.SYS_PWR_STAT_STATE 0).wr Reg.SYS_PWR_EXIT_US 0, ok (powerReply 0)) := by
  obtain ⟨htol, hc, hs⟩ := b.storeTol_rd (tol := tol) (by omega)
  rw [Block.latencyTol_judged (.inl hoff) (by omega)]
  generalize hx : b.wr Reg.SYS_PWR_TOL_TOL_US tol = x at htol hc hs ⊢
  have hxt : x.pow.target = none := hx ▸ ht
  have hwant : x.powerWanted = 0 := by rw [Block.powerWanted_off (hc.trans hoff), htol, stateOfTol, if_pos h1]
  have hj : x.judgePower = (x.wr Reg.SYS_PWR_STAT_STATE 0).wr Reg.SYS_PWR_EXIT_US 0 := by
    rw [Block.judgePower_light hxt (by omega) (by omega) (by omega), hwant, Block.lightMove, if_pos ⟨hs.trans hst, rfl⟩,
      Block.exitShow, Nat.sub_self]
    rfl
  rw [hj, Block.rd_wr_ne _ _ _ _ (by decide), Block.rd_wr_same,
    show ((x.wr Reg.SYS_PWR_STAT_STATE 0).wr Reg.SYS_PWR_EXIT_US 0).pow.target = none from hxt]
  rfl

/-- While the converter is FAULTED or HALTED the tolerance is stored alone (R389). -/
theorem Block.latencyTol_stored (ht : b.pow.target = none) (hst : 5 ≤ b.rd Reg.SYS_CONV_STAT_STATE) (h1 : tol < 200) :
    b.latencyTol tol = (b.wr Reg.SYS_PWR_TOL_TOL_US tol, ok (powerReply (b.rd Reg.SYS_PWR_STAT_STATE))) := by
  obtain ⟨-, hc, hs⟩ := b.storeTol_rd (tol := tol) (by omega)
  rw [Block.latencyTol_judged (.inr h1) (by omega), Block.judgePower_stays (Block.powerWanted_faulted (by omega)), hs,
    show (b.wr Reg.SYS_PWR_TOL_TOL_US tol).pow.target = none from ht]
  rfl

/-- From P0 or P1 to a lower state: the move begins, and its end is waited for (R389, R390). -/
theorem Block.latencyTol_low (ht : b.pow.target = none) (hoff : b.rd Reg.SYS_CONV_STAT_STATE = 0)
    (hst : b.rd Reg.SYS_PWR_STAT_STATE < 2) (h1 : 200 ≤ tol) (h2 : tol < 2000000) : b.latencyTol tol
      = (((b.wr Reg.SYS_PWR_TOL_TOL_US tol).updPow fun p =>
        { p with target := some (if tol < 20000 then 2 else 3), moveAt := b.tb.up }).flag Reg.SYS_PWR_STAT_MOVING true,
        .wait .power) := by
  obtain ⟨htol, hc, hs⟩ := b.storeTol_rd (tol := tol) (by omega)
  have hwant : (b.wr Reg.SYS_PWR_TOL_TOL_US tol).powerWanted = if tol < 20000 then 2 else 3 := by
    rw [Block.powerWanted_off (hc.trans hoff), htol, stateOfTol_low h1 h2]
  rw [Block.latencyTol_judged (.inl hoff) (by omega),
    Block.judgePower_low (b := b.wr Reg.SYS_PWR_TOL_TOL_US tol) ht (by omega) (by rw [hwant]; split <;> omega), hwant]
  rfl

end

/-- A move that ends answers the LATENCY_TOL that waited for it (R389). -/
theorem Block.moveEnds_answers {e : Block} {q : QCmd} {r : List QCmd} {st : Nat} (hq : e.jv.queue = q :: r)
    (hw : q.wait = .power) :
    (e.moveEnds st).rd Reg.SYS_PWR_STAT_STATE = e.rd Reg.SYS_PWR_STAT_STATE
    ∧ (e.moveEnds st).on Reg.SYS_PWR_STAT_MOVING = false ∧ (e.moveEnds st).pow.target = none
    ∧ (e.moveEnds st).jv.queue = r ∧ Replied (e.moveEnds st) q.req q.op.toNat stOk 0 (powerReply st)
    ∧ Keeps [.regs, .jv, .pow, .out] e (e.moveEnds st) := by
  let f := (e.updPow fun p => { p with target := none }).flag Reg.SYS_PWR_STAT_MOVING false
  have hqf : f.jv.queue = q :: r := hq
  have hends : e.moveEnds st = f.finish stOk 0 (powerReply st) :=
    if_pos (show f.headWait = some .power by rw [Block.headWait, hqf, List.head?_cons, Option.map_some, hw])
  have hf : Keeps [.regs, .jv, .pow, .out] e f := ((e.updPow_keeps _).mono (by decide)).trans ((Block.wr_keeps _ _ _).mono (by decide))
  obtain ⟨hqueue, -, -, hrep⟩ := Block.finish_head (st := stOk) (d := 0) (p := powerReply st) hqf (by rw [hw]; nofun)
  rw [hends]
  refine ⟨?_, ?_, ?_, hqueue.trans (congrArg List.tail hqf), hrep, hf.finish (by decide)⟩
  · rw [Block.finish_rd (by decide), Block.rd_flag_ne _ _ _ _ (by decide), Block.updPow_rd]
  · rw [Block.on, Block.finish_rd (by decide)]
    exact Block.on_flag_same _ false _ Nat.one_pos
  · rw [Block.finish_pow]
    rfl

/-! ### The start out of P4 (R396) -/

theorem Block.eachOf_flag_keeps (fs : List Field) (p : Bool) (b : Block) : Keeps [.regs] b (b.eachOf fs fun f c => c.flag f p) :=
  Block.eachOf_keeps _ _ (fun _ _ c => c.wr_keeps _ _) b

/-- The cause of a start is recorded in the registers alone, and the start is counted (R420). -/
theorem Block.recordCause_frame {cause : Nat} (hc : cause < 12) (b : Block) : Keeps [.regs] b (b.recordCause cause)
    ∧ (b.recordCause cause).rd Reg.RST_COUNT_STARTS = satNat 16 (b.rd Reg.RST_COUNT_STARTS + 1) := by
  obtain ⟨-, -, hne⟩ := causeFields_spec hc
  refine ⟨((b.eachOf_flag_keeps _ _).trans (Block.wr_keeps _ _ _)).trans (Block.wr_keeps _ _ _), ?_⟩
  unfold Block.recordCause
  rw [Block.rd_count_sat, Block.rd_flag_ne _ _ _ _ hne.symm, Block.eachOf_rd]
  · rfl
  · have : ∀ f ∈ causeCleared, Reg.RST_COUNT_STARTS.key ≠ f.key := by decide
    exact fun f hf c => Block.rd_flag_ne f _ _ c (this f hf)

/-- Settles O50: a tolerance is stored and the state judged by it; a move ends with its reply. -/
theorem powerStates : Obligations.PowerStates := by
  unfold Obligations.PowerStates
  intro s rq tol st off
  have only := fun st d p => Block.finish_only s.blk st d p
  have hlt := tol.isLt
  have hstore : Keeps [.regs] s.blk (s.blk.wr Reg.SYS_PWR_TOL_TOL_US tol.toNat) := s.blk.wr_keeps _ _
  have hregs : RegsBut [Reg.SYS_PWR_TOL_TOL_US] s.blk (s.blk.wr Reg.SYS_PWR_TOL_TOL_US tol.toNat) := s.blk.wr_regsBut _ _
  obtain ⟨htol, -, hsame⟩ := s.blk.storeTol_rd hlt
  refine ⟨fun ht hoff h200 => ?far, fun ht hoff hdeep hkept => ?kept, fun ht hoff h0 htg h5 h200 => ?light,
    fun ht hoff h2 htg h200 hmax => ?low, fun q r h2 htg hq hw => ?done, fun htg => ?noMove, fun h4 => ?wake,
    fun ht h5 htg h200 => ?stored, fun ht hoff h1 htg h5 => ?back, fun h4 => ?asleep⟩
  case far =>
    have hf : s.blk.latencyTol tol.toNat = (s.blk, denied 1) := by
      have hne : (s.blk.rd Reg.SYS_CONV_STAT_STATE == 0) = false := by simpa using hoff
      rw [Block.latencyTol, hne, decide_eq_true h200]
      rfl
    exact does_serve rfl ht (by decide) rfl rfl hf rfl (only _ _ _)
  case kept =>
    have hf : s.blk.latencyTol tol.toNat = (s.blk, denied 2) := by
      have he : (s.blk.rd Reg.SYS_CONV_STAT_STATE == 0) = true := by simpa using hoff
      have hk : (s.blk.cst.armed.isSome || !s.blk.boot.staged.isEmpty) = true := by simpa using hkept
      rw [Block.latencyTol, he, stateOfTol_deep hdeep, hk]
      rfl
    exact does_serve rfl ht (by decide) rfl rfl hf rfl (only _ _ _)
  case light =>
    refine does_serve rfl ht (by decide) rfl rfl (Block.latencyTol_light htg hoff h0 h5 h200) rfl ⟨?_, ?_, ?_, ?_⟩
    · rw [Block.finish_rd (by decide), Block.rd_wr_same]
      rfl
    · rw [Block.finish_rd (by decide), Block.rd_wr_ne _ _ _ _ (by decide), htol]
    · exact (RegsBut.finish (hregs.trans_append (Block.wr_regsBut Reg.SYS_PWR_STAT_STATE 1 _))).mono (by decide)
    · exact (hstore.trans (Block.wr_keeps _ _ _)).finish_end
  case low =>
    refine does_serve_wait rfl ht (by decide) rfl (Block.latencyTol_low htg hoff h2 h200 hmax) rfl rfl ⟨rfl, ?_, ?_, ?_, ?_⟩
    · exact Block.on_flag_same Reg.SYS_PWR_STAT_MOVING true _ Nat.one_pos
    · rw [Block.waitFor_rd, Block.rd_flag_ne _ _ _ _ (by decide), Block.updPow_rd, hsame]
    · exact (hregs.trans_append (Block.flag_regsBut Reg.SYS_PWR_STAT_MOVING true _)).mono (by decide)
    · exact (((hstore.mono (by decide)).trans ((Block.updPow_keeps _ _).mono (by decide))).trans
        ((Block.wr_keeps _ _ _).mono (by decide))).trans ((Block.waitFor_keeps _ _).mono (by decide))
  case done =>
    refine does_onBlk (f := (·.moveDone)) rfl ?_
    obtain ⟨hquiet, hrd⟩ := (s.blk.wr Reg.SYS_PWR_STAT_STATE 2).lanesQuiet_frame
    have he : s.blk.moveDone = (s.blk.wr Reg.SYS_PWR_STAT_STATE 2).lanesQuiet.moveEnds 2 := by
      have hlow : s.blk.enterLow 2 = (s.blk.wr Reg.SYS_PWR_STAT_STATE 2).lanesQuiet := if_pos rfl
      rw [Block.moveDone, htg]
      dsimp only
      rw [if_neg (Nat.not_le.mpr h2), if_neg (by decide), hlow]
    have hk : Keeps [.regs, .lanes] s.blk (s.blk.wr Reg.SYS_PWR_STAT_STATE 2).lanesQuiet :=
      ((s.blk.wr_keeps _ _).mono (by decide)).trans hquiet
    have hqe := (congrArg JarvasSt.queue (hk.jv (by decide))).trans hq
    obtain ⟨hstate, hmoving, htarget, hqueue, hrep, hends⟩ := Block.moveEnds_answers (st := 2) hqe hw
    rw [he]
    refine ⟨?_, hmoving, htarget, hqueue, hrep, (hk.mono (by decide)).trans (hends.mono (by decide))⟩
    rw [hstate, hrd _ (by decide), Block.rd_wr_same]
    rfl
  case noMove =>
    refine does_onBlk (f := (·.moveDone)) rfl ?_
    rw [Block.moveDone, htg]
    exact ⟨RegsBut.refl _ _, Keeps.refl _ _⟩
  case wake =>
    refine does_onBlk (f := (·.wakeN)) rfl ?_
    rw [Block.wakeN, if_neg (by omega)]
    generalize hx : (s.blk.wr Reg.SYS_PWR_STAT_STATE 0).updPow _ = x
    have hk : Keeps [.regs, .pow] s.blk x :=
      hx ▸ ((s.blk.wr_keeps _ _).mono (by decide)).trans ((Block.updPow_keeps _ _).mono (by decide))
    have hrd (f : Field) (hf : f.key ≠ Reg.SYS_PWR_STAT_STATE.key) : x.rd f = s.blk.rd f := hx ▸ Block.rd_wr_ne _ f 0 _ hf
    obtain ⟨hcause, hstarts⟩ := Block.recordCause_frame (cause := 11) (by decide) x
    refine ⟨?_, Block.recordCause_on (k := 11) (by decide) (by decide) x, Block.recordCause_on (k := 0) (by decide) (by decide) x,
      by rw [hstarts, hrd _ (by decide)], ?_, hk.trans (hcause.mono (by decide))⟩
    · rw [Block.recordCause_rd (by decide) (by decide), ← hx, Block.updPow_rd, Block.rd_wr_same]
      rfl
    · exact (hcause .pow (by decide)).trans (hx ▸ rfl)
  case stored =>
    refine does_serve rfl ht (by decide) rfl rfl (Block.latencyTol_stored htg h5 h200) rfl ⟨?_, ?_, ?_⟩
    · rw [Block.finish_rd (by decide), htol]
    · exact RegsBut.finish hregs
    · exact hstore.finish_end
  case back =>
    refine does_serve rfl ht (by decide) rfl rfl (Block.latencyTol_back htg hoff h1 h5) rfl ⟨?_, ?_, ?_, ?_, ?_⟩
    · rw [Block.finish_rd (by decide), Block.rd_wr_ne _ _ _ _ (by decide), Block.rd_wr_same]
      rfl
    · rw [Block.finish_rd (by decide), Block.rd_wr_ne _ _ _ _ (by decide), Block.rd_wr_ne _ _ _ _ (by decide), htol]
    · rw [Block.finish_rd (by decide), Block.rd_wr_same]
      rfl
    · exact (RegsBut.finish ((hregs.trans_append (Block.wr_regsBut Reg.SYS_PWR_STAT_STATE 0 _)).trans_append
        (Block.wr_regsBut Reg.SYS_PWR_EXIT_US 0 _))).mono (by decide)
    · exact ((hstore.trans (Block.wr_keeps _ _ _)).trans (Block.wr_keeps _ _ _)).finish_end
  case asleep =>
    refine does_onBlk (f := (·.wakeN)) rfl ?_
    rw [Block.wakeN, if_pos h4]
    exact ⟨RegsBut.refl _ _, Keeps.refl _ _⟩

end Sys2Proof.Machine
end

section
/-! PROOFS. What the local power stage's own operations write (R252, R263, R343): the states of its legs, its gates, the
    chopper and the static switches, and nothing else of the registers. -/

namespace Sys2Proof.Machine

/-- The register fields that holding the stage writes. -/
def stageFields : List Field :=
  Reg.PWM_BRK_STAT_ON :: Reg.GATE_SS_STAT_CLOSED :: ((List.range 24).map Reg.PWM_LEG_STAT_STATE
    ++ (List.range 56).map Reg.GATE_CH_STAT_GATE_OFF)

theorem legState_mem {l : Nat} (h : l < 24) : Reg.PWM_LEG_STAT_STATE l ∈ stageFields := by
  simp only [stageFields, List.mem_cons, List.mem_append]
  exact .inr (.inr (.inl (List.mem_map_of_mem (List.mem_range.mpr h))))

theorem gateOff_mem {ch : Nat} (h : ch < 56) : Reg.GATE_CH_STAT_GATE_OFF ch ∈ stageFields := by
  simp only [stageFields, List.mem_cons, List.mem_append]
  exact .inr (.inr (.inr (List.mem_map_of_mem (List.mem_range.mpr h))))

theorem switchClosed_mem : Reg.GATE_SS_STAT_CLOSED ∈ stageFields := List.mem_cons_of_mem _ List.mem_cons_self

theorem brakeOn_mem : Reg.PWM_BRK_STAT_ON ∈ stageFields := List.mem_cons_self

/-- A field that is none of them. -/
theorem not_stageField {f : Field} (hb : f.key ≠ Reg.PWM_BRK_STAT_ON.key) (hc : f.key ≠ Reg.GATE_SS_STAT_CLOSED.key)
    (hl : ∀ l < 24, f.key ≠ (Reg.PWM_LEG_STAT_STATE l).key) (hg : ∀ ch < 56, f.key ≠ (Reg.GATE_CH_STAT_GATE_OFF ch).key) :
    f.key ∉ stageFields.map Field.key := by
  simp only [stageFields, List.map_cons, List.map_append, List.map_map, List.mem_cons, List.mem_append, List.mem_map,
    List.mem_range, Function.comp_apply, not_or, not_exists, not_and]
  exact ⟨hb, hc, fun l h => (hl l h).symm, fun ch h => (hg ch h).symm⟩

/-- What holding the stage leaves alone: the block beside its registers, the stage and the outputs, and the other fields. -/
def Block.besideStage (b : Block) : Block × (Field → Nat) :=
  ({ b with regs := [], lv := LvSt.reset, out := [] }, fun f => if f.key ∈ stageFields.map Field.key then 0 else b.rd f)

theorem Block.besideStage_ite (c : Prop) [Decidable c] (x y : Block) :
    (if c then x else y).besideStage = if c then x.besideStage else y.besideStage := by split <;> rfl

theorem Block.wr_besideStage {f : Field} (hf : f ∈ stageFields) (v : Nat) (b : Block) :
    (b.wr f v).besideStage = b.besideStage := by
  have hrd (g : Field) : (if g.key ∈ stageFields.map Field.key then 0 else (b.wr f v).rd g)
      = if g.key ∈ stageFields.map Field.key then 0 else b.rd g := by
    split
    · rfl
    · next hg => exact Block.rd_wr_ne _ _ _ _ fun hk => hg (hk ▸ List.mem_map_of_mem hf)
  exact congrArg (({ b with regs := [], lv := LvSt.reset, out := [] } : Block), ·) (funext hrd)

theorem Block.flag_besideStage {f : Field} (hf : f ∈ stageFields) (p : Bool) (b : Block) :
    (b.flag f p).besideStage = b.besideStage := b.wr_besideStage hf _

theorem Block.setBit_besideStage {f : Field} (hf : f ∈ stageFields) (i : Nat) (p : Bool) (b : Block) :
    (b.setBit f i p).besideStage = b.besideStage := b.wr_besideStage hf _

theorem Block.eachOf_besideStage {α : Type} {xs : List α} {f : α → Block → Block}
    (h : ∀ x ∈ xs, ∀ b, (f x b).besideStage = b.besideStage) (b : Block) : (b.eachOf xs f).besideStage = b.besideStage := by
  unfold Block.eachOf
  induction xs generalizing b with
  | nil => rfl
  | cons x r ih => exact (ih (fun y hy => h y (List.mem_cons_of_mem _ hy)) _).trans (h x List.mem_cons_self b)

theorem Block.emit_besideStage (o : Output) (b : Block) : (b.emit o).besideStage = b.besideStage := rfl

theorem Block.updLeg_besideStage (l : Nat) (f : Leg → Leg) (b : Block) : (b.updLeg l f).besideStage = b.besideStage := rfl

theorem Block.updPort_besideStage (p : Nat) (f : PortSt → PortSt) (b : Block) : (b.updPort p f).besideStage = b.besideStage := rfl

theorem Block.updLv_besideStage (f : LvSt → LvSt) (b : Block) : (b.updLv f).besideStage = b.besideStage := rfl

theorem Block.openSwitch_besideStage {p : Nat} (hp : p < 8) (soft : Bool) (b : Block) :
    (b.openSwitch p soft).besideStage = b.besideStage := by
  have hg : Reg.GATE_CH_STAT_GATE_OFF (48 + p) ∈ stageFields := gateOff_mem (by omega)
  simp only [Block.openSwitch, Block.besideStage_ite, Block.emit_besideStage, Block.flag_besideStage hg,
    Block.updPort_besideStage, Block.setBit_besideStage switchClosed_mem, ite_self]

theorem Block.brakeStop_besideStage (o : Output) (b : Block) : (b.brakeStop o).besideStage = b.besideStage := by
  simp only [Block.brakeStop, Block.besideStage_ite, Block.emit_besideStage, Block.updLv_besideStage,
    Block.flag_besideStage (gateOff_mem (ch := 41) (by decide)), Block.wr_besideStage (legState_mem (l := 20) (by decide)),
    Block.flag_besideStage brakeOn_mem, ite_self]

section
variable {l : Nat} (hl : l < 24)
include hl

theorem Block.settleLeg_besideStage (b : Block) : (b.settleLeg l).besideStage = b.besideStage := by
  have hlow : Reg.GATE_CH_STAT_GATE_OFF (2 * l + 1) ∈ stageFields := gateOff_mem (by omega)
  have hgate (up : Bool) : Reg.GATE_CH_STAT_GATE_OFF (if up = true then 2 * l else 2 * l + 1) ∈ stageFields :=
    gateOff_mem (by split <;> omega)
  unfold Block.settleLeg
  extract_lets c
  have hc : c.besideStage = b.besideStage := by
    unfold c
    split
    · simp only [Block.besideStage_ite, Block.updLeg_besideStage, Block.flag_besideStage (hgate _), ite_self]
    · rfl
  rw [← hc]
  split
  · simp only [Block.besideStage_ite, Block.emit_besideStage, Block.updLeg_besideStage, Block.flag_besideStage hlow,
      Block.wr_besideStage (legState_mem hl), ite_self]
  · rfl

/-- Switching a leg off (R252, R263) writes fields of the stage alone. -/
theorem Block.holdLeg_besideStage (soft : Bool) (b : Block) : (b.holdLeg l soft).besideStage = b.besideStage := by
  have hhigh : Reg.GATE_CH_STAT_GATE_OFF (2 * l) ∈ stageFields := gateOff_mem (by omega)
  have hlow : Reg.GATE_CH_STAT_GATE_OFF (2 * l + 1) ∈ stageFields := gateOff_mem (by omega)
  simp only [Block.holdLeg, Block.besideStage_ite, Block.emit_besideStage, Block.updLeg_besideStage,
    Block.flag_besideStage hhigh, Block.flag_besideStage hlow, Block.wr_besideStage (legState_mem hl),
    Block.brakeStop_besideStage, Block.settleLeg_besideStage hl, ite_self]

end

theorem Block.stopPort_besideStage {p : Nat} (hp : p < 8) (soft : Bool) (b : Block) :
    (b.stopPort p soft).besideStage = b.besideStage := by
  have hlegs (c : Block) : (b.eachOf ([2 * p, 2 * p + 1].filter c.portLeg) fun l x => x.holdLeg l soft).besideStage
      = b.besideStage := by
    refine Block.eachOf_besideStage (fun l h x => Block.holdLeg_besideStage ?_ soft x) b
    have := List.mem_of_mem_filter h
    simp only [List.mem_cons, List.not_mem_nil, or_false] at this
    omega
  simp only [Block.stopPort, Block.tryOpen, Block.besideStage_ite, Block.openSwitch_besideStage hp, Block.updPort_besideStage,
    ite_self, hlegs]

/-- The actions that a fault blocks the stage with (R343) write fields of the stage alone. -/
theorem Block.blockStage_besideStage (soft : Bool) (b : Block) : (b.blockStage soft).besideStage = b.besideStage := by
  unfold Block.blockStage
  dsimp only [Block.each]
  refine (Block.eachOf_besideStage (xs := List.range 8) (fun p h x => Block.stopPort_besideStage (List.mem_range.mp h) soft x)
    _).trans ?_
  exact Block.eachOf_besideStage (fun l h x =>
    Block.holdLeg_besideStage (List.mem_range.mp (List.mem_of_mem_filter h)) soft x) b

/-- What the view says of the registers and of the other components. -/
theorem Block.frame_of_besideStage {b x : Block} (h : x.besideStage = b.besideStage) :
    RegsBut stageFields b x ∧ Keeps [.regs, .lv, .out] b x := by
  have bare (c : Block) : Keeps [.regs, .lv, .out] c { c with regs := [], lv := LvSt.reset, out := [] } := by
    intro p hp
    cases p
    case regs | lv | out => exact absurd (by decide) hp
    all_goals rfl
  have hrest : { x with regs := [], lv := LvSt.reset, out := [] } = { b with regs := [], lv := LvSt.reset, out := [] } :=
    congrArg Prod.fst h
  refine ⟨fun f hf => ?_, (bare b).trans (hrest ▸ (bare x).symm)⟩
  have := congrFun (congrArg Prod.snd h) f
  simpa only [Block.besideStage, if_neg hf] using this

end Sys2Proof.Machine
end

section
/-! PROOFS. How fenced units come back, and FAULT_CLEAR (R83, R344, R352 to R354). -/

namespace Sys2Proof.Machine

/-! ### The diagnostics of a leg's group (R260, R263) -/

theorem groupOf_lt {l g : Nat} (hl : l < 24) (h : groupOf l = some g) : g < 12 := by
  unfold groupOf at h
  split_ifs at h <;> simp only [Option.some.injEq] at h <;> omega

theorem groupLegs_lt {g : Nat} (hg : g < 12) : ∀ l ∈ groupLegs g, l < 24 := by
  unfold groupLegs
  intro l hl
  split_ifs at hl <;> simp only [List.mem_cons, List.not_mem_nil, or_false] at hl <;> omega

theorem Block.updLv_keeps (f : LvSt → LvSt) (b : Block) : Keeps [.lv] b (b.updLv f) := by
  intro p hp
  cases p
  case lv => exact absurd (List.mem_singleton_self _) hp
  all_goals rfl

theorem Block.updDiag_keeps (g : Nat) (f : DiagSt → DiagSt) (b : Block) : Keeps [.lv] b (b.updDiag g f) := by
  intro p hp
  cases p
  case lv => exact absurd (List.mem_singleton_self _) hp
  all_goals rfl

/-- Diagnostics that begin, or run already: their group is busy, and of the registers only those of the stage and of the
    diagnostics have changed. -/
theorem Block.startDiag_busy {g : Nat} (hg : g < 12) (b : Block) : (b.startDiag g).bit Reg.PWM_DIAG_STAT_BUSY g = true
    ∧ RegsBut (stageFields ++ [Reg.PWM_DIAG_STAT_BUSY, Reg.PWM_DIAG_RESn_CLASS ((groupNodes g).headD 0)]) b (b.startDiag g)
    ∧ Keeps [.regs, .lv, .out] b (b.startDiag g) := by
  unfold Block.startDiag
  split
  · next h => exact ⟨h, RegsBut.refl _ b, Keeps.refl _ b⟩
  dsimp only
  generalize hx : (if g < 8 then (b.eachOf (groupLegs g) fun l b => b.holdLeg l false).openSwitch g false
    else b.eachOf (groupLegs g) fun l b => b.holdLeg l false) = x
  have hview : x.besideStage = b.besideStage := by
    have hlegs := Block.eachOf_besideStage (fun l h c => Block.holdLeg_besideStage (groupLegs_lt hg l h) false c) b
    rw [← hx, Block.besideStage_ite, hlegs]
    split
    · next h8 => rw [Block.openSwitch_besideStage h8, hlegs]
    · rfl
  obtain ⟨hregs, hkeep⟩ := Block.frame_of_besideStage hview
  have hne : Reg.PWM_DIAG_STAT_BUSY.key ≠ (Reg.PWM_DIAG_RESn_CLASS ((groupNodes g).headD 0)).key := by
    simp only [Field.key, Reg.PWM_DIAG_STAT_BUSY, Reg.PWM_DIAG_RESn_CLASS]
    omega
  refine ⟨?_, (hregs.trans_append ((x.wr_regsBut _ _).trans_append
    (Block.wr_regsBut (Reg.PWM_DIAG_RESn_CLASS ((groupNodes g).headD 0)) 1 _))), ?_⟩
  · exact (congrArg (·.testBit g) (Block.rd_wr_ne _ _ 1 _ hne)).trans (Block.bit_setBit_same _ true x hg)
  · exact (hkeep.trans (((x.wr_keeps _ _).trans (Block.wr_keeps _ _ _)).mono (by decide))).trans
      ((Block.updDiag_keeps _ _ _).mono (by decide))

/-! ### The record of FAULT_CLEAR (R83, log entry 65) -/

/-- The occurrence that the clear of a leg logs. -/
def legCleared (l : Nat) : Occ := { source := 13, unitType := 3, idx := l, code := 3 }

/-- An occurrence of class INFO that names a unit is a record, and a recurrence where the unit is fenced (R341, R345). -/
theorem Block.raise_info_unit {o : Occ} {k : Nat} {b : Block} (hd : b.detects o = true) (hc : b.classOf o = 0)
    (hk : unitKey o.unitType o.idx = some k) (h2 : o.unitType ≠ 2) : b.raise o
      = if (b.recov k).fenced then b.recurs o k 0 none else b.record o 0 false false := by
  simp [Block.raise, Block.raiseOwn, hd, hc, Block.raiseUnit, hk, h2, Block.markHalt, Block.classAct]

/-- A recurrence of a unit that is no cell touches no cell (R352). -/
theorem Block.recurs_late {k : Nat} (hk : 256 ≤ k) (o : Occ) (cls : Nat) (own : Option Nat) (b : Block) :
    b.recurs o k cls own = (b.record o cls true false).onRecurrence k := by
  have hlt : decide (k < 256) = false := decide_eq_false (by omega)
  simp only [Block.recurs, hlt, Bool.and_false, Bool.false_and, Bool.false_eq_true, if_false]

theorem Block.sayCleared_leg {l : Nat} {b : Block} (hd : b.cores = true) (hc : b.rd (Reg.EVT_SRCk_CLASS 13) = 0) :
    b.sayCleared 3 l = if (b.recov (256 + l)).fenced then (b.record (legCleared l) 0 true false).onRecurrence (256 + l)
      else b.record (legCleared l) 0 false false := by
  have hdet : b.detects (legCleared l) = true := by simp [Block.detects, hd]
  rw [← Block.recurs_late (by omega) (legCleared l) 0 none b]
  exact Block.raise_info_unit hdet hc rfl (show (3 : Nat) ≠ 2 by decide)

/-- The fields that a record of FAULT_CLEARED counts in. -/
def clearedFields : List Field := [Reg.EVT_SRCk_COUNT 13, Reg.EVT_SUPP_CNT_COUNT]

theorem Block.record_regsBut (o : Occ) (cls : Nat) (recurs lockout : Bool) (b : Block) :
    RegsBut [Reg.EVT_SRCk_COUNT o.source, Reg.EVT_SUPP_CNT_COUNT] b (b.record o cls recurs lockout) := by
  intro g hg
  simp only [List.map_cons, List.map_nil, List.mem_cons, List.not_mem_nil, or_false, not_or] at hg
  exact Block.record_rd o cls recurs lockout b g hg.1 hg.2

theorem Block.record_recov (o : Occ) (cls : Nat) (recurs lockout : Bool) (b : Block) (k : Nat) :
    (b.record o cls recurs lockout).recov k = b.recov k :=
  congrArg (fun v : CellsSt × SMap Recov × (Field → Nat) => SMap.look default v.2.1 k) (Block.record_cellView o cls recurs lockout b)

/-- What the record of a leg's FAULT_CLEAR leaves of the leg's own (R353). -/
theorem Block.sayCleared_leg_frame {l : Nat} {b : Block} (hd : b.cores = true) (hc : b.rd (Reg.EVT_SRCk_CLASS 13) = 0) :
    RegsBut clearedFields b (b.sayCleared 3 l) ∧ Keeps [.regs, .evt] b (b.sayCleared 3 l)
    ∧ ((b.sayCleared 3 l).recov (256 + l)).hist = (b.recov (256 + l)).hist
    ∧ ((b.sayCleared 3 l).recov (256 + l)).lockout = (b.recov (256 + l)).lockout := by
  have hrec (r : Bool) := Block.record_recov (legCleared l) 0 r false b (256 + l)
  have hregs (r : Bool) : RegsBut clearedFields b (b.record (legCleared l) 0 r false) := Block.record_regsBut (legCleared l) 0 r false b
  have hkeep (r : Bool) := Block.record_keeps (legCleared l) 0 r false b
  rw [Block.sayCleared_leg hd hc]
  split
  · have hk : (decide (256 + l < 256) && ((b.record (legCleared l) 0 true false).recov (256 + l)).returning) = false := by
      rw [decide_eq_false (by omega), Bool.false_and]
    rw [Block.onRecurrence, hk]
    simp only [Bool.false_eq_true, if_false, Block.recov_updRecov_same, hrec, and_true]
    exact ⟨hregs true, (hkeep true).trans ((Block.updRecov_keeps _ _ _).mono (by decide))⟩
  · rw [hrec]
    exact ⟨hregs false, hkeep false, rfl, rfl⟩

/-! ### FAULT_CLEAR of a leg (R83, R353) -/

/-- FENCED of a leg is none of the fields that its clear writes before the diagnostics begin. -/
theorem legFenced_not_mem (l : Nat) :
    (Reg.PWM_LEG_STAT_FENCED l).key ∉ (clearedFields ++ [Reg.PWM_LEG_STAT_LATCHED l, Reg.GATE_SHORT_LEGS]).map Field.key := by
  simp only [clearedFields, List.map_append, List.map_cons, List.map_nil, List.mem_append, List.mem_cons, List.not_mem_nil,
    or_false, Field.key, Reg.PWM_LEG_STAT_FENCED, Reg.PWM_LEG_STAT_LATCHED, Reg.EVT_SRCk_COUNT, Reg.EVT_SUPP_CNT_COUNT,
    Reg.GATE_SHORT_LEGS]
  omega

/-- LATCHED of a leg is none of the fields that its diagnostics write. -/
theorem legLatched_not_mem (l m : Nat) : (Reg.PWM_LEG_STAT_LATCHED l).key
    ∉ (stageFields ++ [Reg.PWM_DIAG_STAT_BUSY, Reg.PWM_DIAG_RESn_CLASS m]).map Field.key := by
  have hstage : (Reg.PWM_LEG_STAT_LATCHED l).key ∉ stageFields.map Field.key := by
    refine not_stageField ?_ ?_ (fun k _ => ?_) (fun ch _ => ?_) <;>
      simp only [Field.key, Reg.PWM_LEG_STAT_LATCHED, Reg.PWM_BRK_STAT_ON, Reg.GATE_SS_STAT_CLOSED, Reg.PWM_LEG_STAT_STATE,
        Reg.GATE_CH_STAT_GATE_OFF] <;> omega
  rw [List.map_append, List.mem_append, not_or]
  refine ⟨hstage, ?_⟩
  simp only [List.map_cons, List.map_nil, List.mem_cons, List.not_mem_nil, or_false, Field.key, Reg.PWM_LEG_STAT_LATCHED,
    Reg.PWM_DIAG_STAT_BUSY, Reg.PWM_DIAG_RESn_CLASS]
  omega

/-- The state of the converter is neither a field of the stage nor of its diagnostics. -/
theorem convState_not_mem (m : Nat) : Reg.SYS_CONV_STAT_STATE.key
    ∉ (stageFields ++ [Reg.PWM_DIAG_STAT_BUSY, Reg.PWM_DIAG_RESn_CLASS m]).map Field.key := by
  have hstage : Reg.SYS_CONV_STAT_STATE.key ∉ stageFields.map Field.key := by decide
  rw [List.map_append, List.mem_append, not_or]
  refine ⟨hstage, ?_⟩
  simp only [List.map_cons, List.map_nil, List.mem_cons, List.not_mem_nil, or_false, Field.key, Reg.SYS_CONV_STAT_STATE,
    Reg.PWM_DIAG_STAT_BUSY, Reg.PWM_DIAG_RESn_CLASS]
  omega

/-- A leg's own latches cleared: the record of FAULT_CLEARED, and no latch of the leg any more (R83). -/
def Block.legUnlatched (l : Nat) (b : Block) : Block :=
  (((((b.onFaultClear (256 + l)).sayCleared 3 l).flag (Reg.PWM_LEG_STAT_LATCHED l) false).setBit Reg.GATE_SHORT_LEGS l false).updLv
    fun v => { v with shorted := v.shorted.filter (· ≠ l) })

theorem Block.legUnlatched_frame {l : Nat} {b : Block} (hd : b.cores = true) (hc : b.rd (Reg.EVT_SRCk_CLASS 13) = 0) :
    (b.legUnlatched l).on (Reg.PWM_LEG_STAT_LATCHED l) = false
    ∧ ((b.legUnlatched l).recov (256 + l)).hist = [] ∧ ((b.legUnlatched l).recov (256 + l)).lockout = false
    ∧ RegsBut (clearedFields ++ [Reg.PWM_LEG_STAT_LATCHED l, Reg.GATE_SHORT_LEGS]) b (b.legUnlatched l)
    ∧ Keeps [.regs, .evt, .lv] b (b.legUnlatched l) := by
  have hclear : b.onFaultClear (256 + l) = b.updRecov (256 + l) fun r => { r with hist := [], lockout := false } :=
    if_neg (by omega)
  have hcore : (b.onFaultClear (256 + l)).cores = true := by rw [hclear]; exact hd
  have hclass : (b.onFaultClear (256 + l)).rd (Reg.EVT_SRCk_CLASS 13) = 0 := by rw [hclear]; exact hc
  have hrec : (b.onFaultClear (256 + l)).recov (256 + l) = { b.recov (256 + l) with hist := [], lockout := false } := by
    rw [hclear, Block.recov_updRecov_same]
  have hfirst : RegsBut [] b (b.onFaultClear (256 + l)) ∧ Keeps [.evt] b (b.onFaultClear (256 + l)) := by
    rw [hclear]
    exact ⟨RegsBut.refl _ _, b.updRecov_keeps _ _⟩
  obtain ⟨hregs, hkeep, hhist, hlock⟩ := Block.sayCleared_leg_frame (l := l) hcore hclass
  have hne : (Reg.PWM_LEG_STAT_LATCHED l).key ≠ Reg.GATE_SHORT_LEGS.key := by
    simp only [Field.key, Reg.PWM_LEG_STAT_LATCHED, Reg.GATE_SHORT_LEGS]
    omega
  unfold Block.legUnlatched
  generalize (b.onFaultClear (256 + l)).sayCleared 3 l = c at hregs hkeep hhist hlock ⊢
  refine ⟨?_, ?_, ?_, ?_, ?_⟩
  · exact (congrArg (· != 0) (Block.rd_setBit_ne _ _ _ _ _ hne)).trans (Block.on_flag_same _ false c Nat.one_pos)
  · exact hhist.trans (by rw [hrec])
  · exact hlock.trans (by rw [hrec])
  · exact hfirst.1.trans_append (hregs.trans_append ((c.wr_regsBut _ _).trans_append (Block.wr_regsBut Reg.GATE_SHORT_LEGS _ _)))
  · exact ((hfirst.2.mono (by decide)).trans (hkeep.mono (by decide))).trans (((c.wr_keeps _ _).mono (by decide)).trans
      (((Block.wr_keeps _ _ _).mono (by decide)).trans ((Block.updLv_keeps _ _).mono (by decide))))

/-- The leg's way back begins with the diagnostics of its group (R260, R353). -/
theorem Block.clearUnit_leg {l g : Nat} {b : Block} (hg : groupOf l = some g) (hf : b.on (Reg.PWM_LEG_STAT_FENCED l) = true)
    (hh : b.unitHalted 3 l = false) (hp : b.causePresent 3 l = false)
    (hfenced : (b.legUnlatched l).on (Reg.PWM_LEG_STAT_FENCED l) = true) : b.clearUnit (Block.sayCleared 3 l) 3 l
      = (((b.legUnlatched l).updRecov (256 + l) fun r => { r with returning := true, auto := false }).startDiag g, .count 1) := by
  have hheld : b.holdsFault 3 l = true := by simp [Block.holdsFault, hf]
  have hback : ((b.onFaultClear (256 + l)).sayCleared 3 l).clearFault 3 l (256 + l)
      = ((b.legUnlatched l).updRecov (256 + l) fun r => { r with returning := true, auto := false }).startDiag g := by
    show (if (b.legUnlatched l).on (Reg.PWM_LEG_STAT_FENCED l) then (b.legUnlatched l).beginReturn 3 l (256 + l) false
      else b.legUnlatched l) = _
    rw [hfenced, if_pos rfl, Block.beginReturn, Block.legReturn, hg]
  simp only [Block.clearUnit, unitKey, hheld, hh, hp, Bool.true_or, Bool.and_false, Bool.false_eq_true, if_false, if_true, hback]

theorem convState_unlatched (l : Nat) : Reg.SYS_CONV_STAT_STATE.key
    ∉ (clearedFields ++ [Reg.PWM_LEG_STAT_LATCHED l, Reg.GATE_SHORT_LEGS]).map Field.key := by
  simp only [clearedFields, List.map_append, List.map_cons, List.map_nil, List.mem_append, List.mem_cons, List.not_mem_nil,
    or_false, Field.key, Reg.PWM_LEG_STAT_LATCHED, Reg.EVT_SRCk_COUNT, Reg.EVT_SUPP_CNT_COUNT, Reg.GATE_SHORT_LEGS,
    Reg.SYS_CONV_STAT_STATE]
  omega

/-- FAULT_CLEAR of a unit that a slot, port or source is not, and that leaves the converter out of FAULTED (R83). -/
theorem Block.faultClear_count {l n : Nat} {b t : Block} (hl : l < 24) (hu : b.clearUnit (Block.sayCleared 3 l) 3 l = (t, .count n))
    (hst : t.rd Reg.SYS_CONV_STAT_STATE ≠ 5) : b.faultClear 3 l = (t, ok (be 1 3 ++ zeros 1 ++ be 2 l ++ be 4 n)) := by
  have h24 : ¬ clearable 3 ≤ l := Nat.not_le.mpr hl
  have hno : ¬ (t.rd Reg.SYS_CONV_STAT_STATE = 5 ∧ (!t.anyLatched) = true ∧ (!t.demandActive) = true) := fun h => hst h.1
  have h0 : ¬ (3 : Nat) = 0 := by decide
  have h1 : ¬ (3 : Nat) = 1 := by decide
  have h6 : ¬ (3 : Nat) = 6 := by decide
  rw [Block.faultClear, if_neg h0, if_neg h24]
  dsimp only
  rw [if_neg h1, if_neg h6, hu]
  dsimp only
  rw [if_neg h6, Block.faultCleared, if_neg hno]

/-- FAULT_CLEAR of a leg that is fenced, its cause gone: what it leaves (R83, R353, log entry 65). -/
theorem Block.faultClear_leg {l : Nat} {b : Block} (hl : l < 24) (h20 : l ≠ 20) (hf : b.on (Reg.PWM_LEG_STAT_FENCED l) = true)
    (hh : b.unitHalted 3 l = false) (hp : b.causePresent 3 l = false) (hst : b.rd Reg.SYS_CONV_STAT_STATE ≠ 5)
    (hd : b.cores = true) (hc : b.rd (Reg.EVT_SRCk_CLASS 13) = 0) :
    ∃ t, b.faultClear 3 l = (t, ok (be 1 3 ++ zeros 1 ++ be 2 l ++ be 4 1))
      ∧ (t.recov (256 + l)).returning = true ∧ (t.recov (256 + l)).hist = [] ∧ (t.recov (256 + l)).lockout = false
      ∧ t.on (Reg.PWM_LEG_STAT_LATCHED l) = false ∧ (∀ g, groupOf l = some g → t.bit Reg.PWM_DIAG_STAT_BUSY g = true)
      ∧ Keeps [.regs, .evt, .lv, .out] b t := by
  obtain ⟨g, hg⟩ : ∃ g, groupOf l = some g := by
    unfold groupOf
    split_ifs
    exacts [⟨_, rfl⟩, ⟨_, rfl⟩, ⟨_, rfl⟩]
  obtain ⟨hlatch, hhist, hlock, hregs, hkeep⟩ := Block.legUnlatched_frame (l := l) hd hc
  have hreturn := Block.clearUnit_leg hg hf hh hp (by rw [Block.on, hregs _ (legFenced_not_mem l)]; exact hf)
  generalize hx : ((b.legUnlatched l).updRecov (256 + l) fun r => { r with returning := true, auto := false }) = c at hreturn
  obtain ⟨hbusy, hdregs, hdkeep⟩ := c.startDiag_busy (groupOf_lt hl hg)
  have hrecov : (c.startDiag g).recov (256 + l) = { (b.legUnlatched l).recov (256 + l) with returning := true, auto := false } := by
    have hevt : (c.startDiag g).evt = c.evt := hdkeep .evt (by decide)
    rw [Block.recov, hevt, ← hx]
    exact Block.recov_updRecov_same _ _ _
  have hck : Keeps [.evt] (b.legUnlatched l) c := hx ▸ Block.updRecov_keeps _ _ _
  have hcr (f : Field) : c.rd f = (b.legUnlatched l).rd f := hx ▸ rfl
  refine ⟨c.startDiag g, Block.faultClear_count hl hreturn ?_, ?_, ?_, ?_, ?_, ?_, ?_⟩
  · rw [hdregs _ (convState_not_mem _), hcr, hregs _ (convState_unlatched l)]
    exact hst
  · rw [hrecov]
  · rw [hrecov, hhist]
  · rw [hrecov, hlock]
  · rw [Block.on, hdregs _ (legLatched_not_mem l _), hcr]
    exact hlatch
  · intro g' hg'
    obtain rfl := Option.some.inj (hg.symm.trans hg')
    exact hbusy
  · exact (hkeep.mono (by decide)).trans ((hck.mono (by decide)).trans (hdkeep.mono (by decide)))

/-! ### Automatic re-admission (R352, R354) -/

section
variable {b : Block} {ut i k : Nat}

/-- Nothing holds the re-admission of a unit off, but its cause or the converter. -/
def Block.readmits (b : Block) (ut i k : Nat) : Prop :=
  (b.recov k).fenced = true ∧ (b.recov k).lockout = false ∧ (b.recov k).manual = false ∧ (b.recov k).returning = false
    ∧ b.autoPolicy k = true ∧ (ut = 1 → b.holds = true) ∧ (ut = 4 → b.rd (Reg.PORT_STAT_STATE i) ≠ 8)

theorem Block.autoReadmit_eq (h : b.readmits ut i k) : b.autoReadmit ut i k =
    let u := b.untilUp (b.recov k).quietEnd
    if u.causePresent ut i then u.onRecurrence k
    else if 5 ≤ u.rd Reg.SYS_CONV_STAT_STATE ∨ (ut = 1 ∧ u.rd (Reg.LINK_STAT_STATE i) = 5) then u
    else u.beginReturn ut i k true := by
  obtain ⟨hf, hl, hm, hr, ha, h1, h4⟩ := h
  have hgo : (!(b.recov k).fenced || (b.recov k).lockout || (b.recov k).manual || (b.recov k).returning || !b.autoPolicy k
      || (ut == 1 && !b.holds) || (ut == 4 && b.rd (Reg.PORT_STAT_STATE i) == 8)) = false := by
    simp only [hf, hl, hm, hr, ha, Bool.not_true, Bool.false_or, Bool.or_eq_false_iff, Bool.and_eq_false_iff, beq_eq_false_iff_ne,
      Bool.not_eq_false']
    exact ⟨Decidable.or_iff_not_imp_left.mpr fun h => h1 (by simpa using h),
      Decidable.or_iff_not_imp_left.mpr fun h => h4 (by simpa using h)⟩
  rw [Block.autoReadmit]
  simp only [hgo, Bool.false_eq_true, if_false]

theorem not_adjField {f : Field} (hf : 0x40000 ≤ f.addr) : f.key ∉ adjFields.map Field.key := by
  simp only [adjFields, List.map_cons, List.map_nil, List.mem_cons, List.not_mem_nil, or_false, Field.key,
    Reg.TIME_ADJ_CNT_CNT, Reg.TIME_STAT_ADJ_BUSY]
  omega

/-- Time that passes changes no cause of a port's or a slot's fence (R354). -/
theorem Block.untilUp_cause (t i : Nat) (b : Block) : (b.untilUp t).causePresent 4 i = b.causePresent 4 i
    ∧ (b.untilUp t).causePresent 1 i = b.causePresent 1 i := by
  obtain ⟨hregs, hk⟩ := b.advance_frame (cdiv (t - b.tb.up) 1250)
  have hlanes : (b.untilUp t).lanes = b.lanes := hk .lanes (by decide)
  have htheta : (b.untilUp t).rd (Reg.PORT_THETA_THETA i) = b.rd (Reg.PORT_THETA_THETA i) :=
    hregs _ (not_adjField (by simp only [Reg.PORT_THETA_THETA]; omega))
  simp only [Block.causePresent, Block.lane, hlanes, htheta, and_self]

end

/-- What of a block decides a re-admission stands while time passes until the end of the quiet period. -/
theorem Block.untilUp_readmit (t : Nat) (b : Block) :
    (∀ k, (b.untilUp t).recov k = b.recov k) ∧ (b.untilUp t).rd Reg.SYS_CONV_STAT_STATE = b.rd Reg.SYS_CONV_STAT_STATE
    ∧ (∀ l, (b.untilUp t).rd (Reg.LINK_STAT_STATE l) = b.rd (Reg.LINK_STAT_STATE l))
    ∧ (b.untilUp t).rd Reg.EVT_RECOV_CFG_QUIET_S = b.rd Reg.EVT_RECOV_CFG_QUIET_S
    ∧ RegsBut adjFields b (b.untilUp t) ∧ Keeps [.regs, .tb] b (b.untilUp t) := by
  obtain ⟨hregs, hk⟩ := b.advance_frame (cdiv (t - b.tb.up) 1250)
  have hevt : (b.untilUp t).evt = b.evt := hk .evt (by decide)
  refine ⟨fun k => congrArg (fun e : EvtSt => SMap.look default e.recov k) hevt, hregs _ (by decide),
    fun l => hregs _ (not_adjField ?_), hregs _ (by decide), hregs, hk⟩
  simp only [Reg.LINK_STAT_STATE]
  omega

/-- The quiet period of a port ends: it begins its way back (R352). -/
theorem Block.autoReadmit_port {p : Nat} {b : Block} (h : b.readmits 4 p (512 + p)) (hc : b.causePresent 4 p = false)
    (hst : b.rd Reg.SYS_CONV_STAT_STATE < 5) : b.autoReadmit 4 p (512 + p)
      = (b.untilUp (b.recov (512 + p)).quietEnd).updRecov (512 + p) fun r => { r with returning := true, auto := true } := by
  obtain ⟨-, hconv, -⟩ := b.untilUp_readmit (b.recov (512 + p)).quietEnd
  have hstay : ¬ (5 ≤ (b.untilUp (b.recov (512 + p)).quietEnd).rd Reg.SYS_CONV_STAT_STATE ∨ (4 = 1
      ∧ (b.untilUp (b.recov (512 + p)).quietEnd).rd (Reg.LINK_STAT_STATE p) = 5)) := by omega
  rw [Block.autoReadmit_eq h]
  dsimp only
  rw [(b.untilUp_cause _ p).1, hc, if_neg (by decide), if_neg hstay]
  rfl

/-- The cause is present: the quiet period of the port begins anew (R354). -/
theorem Block.autoReadmit_recurs {p : Nat} {b : Block} (h : b.readmits 4 p (512 + p)) (hc : b.causePresent 4 p = true) :
    b.autoReadmit 4 p (512 + p) = (b.untilUp (b.recov (512 + p)).quietEnd).onRecurrence (512 + p) := by
  rw [Block.autoReadmit_eq h]
  dsimp only
  rw [(b.untilUp_cause _ p).1, hc, if_pos rfl]

/-- The quiet period of a slot ends: its cell is seated anew (R352). -/
theorem Block.autoReadmit_slot {n : Nat} {b : Block} (h : b.readmits 1 n n) (hc : b.causePresent 1 n = false)
    (hst : b.rd Reg.SYS_CONV_STAT_STATE < 5) (hl : b.rd (Reg.LINK_STAT_STATE n) ≠ 5) : b.autoReadmit 1 n n
      = ((b.untilUp (b.recov n).quietEnd).updRecov n fun r => { r with returning := true, auto := true }).updCell n
        fun c => { c with reseat := true } := by
  obtain ⟨-, hconv, hlink, -⟩ := b.untilUp_readmit (b.recov n).quietEnd
  have hstay : ¬ (5 ≤ (b.untilUp (b.recov n).quietEnd).rd Reg.SYS_CONV_STAT_STATE ∨ (1 = 1
      ∧ (b.untilUp (b.recov n).quietEnd).rd (Reg.LINK_STAT_STATE n) = 5)) := by
    rw [hlink]
    omega
  rw [Block.autoReadmit_eq h]
  dsimp only
  rw [(b.untilUp_cause _ n).2, hc, if_neg (by decide), if_neg hstay]
  rfl

/-! ### FAULT_CLEAR of a source (R83, R344) -/

theorem Block.faultClear_source {k : Nat} (hk : k < 256) (b : Block) : b.faultClear 6 k = match b.clearSource k with
    | (c, .count n) => (c.sayCleared 6 k).faultCleared 6 k n
    | (c, .refused d) => (c, denied d) := by
  have hlt : ¬ clearable 6 ≤ k := Nat.not_le.mpr hk
  rw [Block.faultClear, if_neg (by decide), if_neg hlt]
  rfl

/-- The occurrence that the clear of a source logs. -/
def sourceCleared (k : Nat) : Occ := { source := 13, unitType := 6, idx := k, code := 6 }

theorem Block.record_latchCls (o : Occ) (cls : Nat) (recurs lockout : Bool) (b : Block) :
    (b.record o cls recurs lockout).evt.latchCls = b.evt.latchCls := by
  unfold Block.record
  dsimp only
  split <;> rfl

/-- A latched source whose condition is gone, cleared and logged: what it leaves (R344, log entry 65). -/
theorem Block.faultClear_latched {k : Nat} {b : Block} (hk : k < 256) (h0 : SMap.look 0 b.evt.latchCls k ≠ 0)
    (h4 : SMap.look 0 b.evt.latchCls k ≠ 4) (hc : b.latchCause k = false) (hst : b.rd Reg.SYS_CONV_STAT_STATE ≠ 5)
    (hd : b.cores = true) (hcl : b.rd (Reg.EVT_SRCk_CLASS 13) = 0) :
    ∃ t, b.faultClear 6 k = (t, ok (be 1 6 ++ zeros 1 ++ be 2 k ++ be 4 1)) ∧ t.on (Reg.EVT_SRCk_LATCHED k) = false
      ∧ SMap.look 0 t.evt.latchCls k = 0 ∧ Logs (sourceCleared k) b t ∧ Keeps [.regs, .evt] b t := by
  let c := (b.flag (Reg.EVT_SRCk_LATCHED k) false).updEvt fun e => { e with latchCls := SMap.erase k e.latchCls }
  have hrd (f : Field) (hf : f.key ≠ (Reg.EVT_SRCk_LATCHED k).key) : c.rd f = b.rd f := Block.rd_flag_ne _ f false b hf
  have hclear : b.clearSource k = (c, .count 1) := by rw [Block.clearSource, if_neg h0, if_neg h4, hc]; rfl
  have hclass : c.classOf (sourceCleared k) = 0 := (hrd (Reg.EVT_SRCk_CLASS 13) (by
    simp only [Field.key, Reg.EVT_SRCk_CLASS, Reg.EVT_SRCk_LATCHED]
    omega)).trans hcl
  have hcore : c.cores = true := by
    have hreleased : c.rd Reg.RST_STAGE_RELEASED = b.rd Reg.RST_STAGE_RELEASED := hrd _ (by
      simp only [Field.key, Reg.RST_STAGE_RELEASED, Reg.EVT_SRCk_LATCHED]
      omega)
    rw [← hd, Block.cores, Block.cores, Block.released, Block.released, Block.bit, Block.bit, hreleased]
    rfl
  have hdet : c.detects (sourceCleared k) = true := by simp [Block.detects, hcore]
  have hsay : c.sayCleared 6 k = c.record (sourceCleared k) 0 false false := Block.raise_info (sourceCleared k) c hdet hclass rfl
  have hheld : c.heldOff (sourceCleared k) 0 = false := by
    have hfixed : evtFixed (sourceCleared k).source = true := show evtFixed 13 = true by decide
    simp [Block.heldOff, hfixed]
  obtain ⟨r, hr, hsource, hcls, hunit, hidx, hcode⟩ := Block.record_held (sourceCleared k) 0 false false c hheld
  have hconv : (c.record (sourceCleared k) 0 false false).rd Reg.SYS_CONV_STAT_STATE ≠ 5 := by
    rw [Block.record_rd _ _ _ _ _ _ (show Reg.SYS_CONV_STAT_STATE.key ≠ (Reg.EVT_SRCk_COUNT 13).key by decide) (by decide),
      hrd _ (by simp only [Field.key, Reg.SYS_CONV_STAT_STATE, Reg.EVT_SRCk_LATCHED]; omega)]
    exact hst
  refine ⟨c.record (sourceCleared k) 0 false false, ?_, ?_, ?_, ⟨r, hr, hsource, ?_, hunit, hidx, hcode⟩, ?_⟩
  · rw [Block.faultClear_source hk, hclear]
    dsimp only
    rw [hsay, Block.faultCleared, if_neg fun h => hconv h.1]
  · rw [Block.on, Block.record_rd _ _ _ _ _ _ (show (Reg.EVT_SRCk_LATCHED k).key ≠ (Reg.EVT_SRCk_COUNT 13).key by
        simp only [Field.key, Reg.EVT_SRCk_LATCHED, Reg.EVT_SRCk_COUNT]
        omega) (by
        simp only [Field.key, Reg.EVT_SRCk_LATCHED, Reg.EVT_SUPP_CNT_COUNT]
        omega)]
    exact Block.on_flag_same _ false b Nat.one_pos
  · rw [Block.record_latchCls]
    exact SMap.look_erase_same 0 k b.evt.latchCls
  · exact hcls.trans hcl.symm
  · exact (((b.wr_keeps _ _).mono (by decide)).trans ((Block.updEvt_keeps _ _).mono (by decide))).trans
      (Block.record_keeps _ _ _ _ _)

/-- Settles O49: the end of a quiet period and FAULT_CLEAR, each by the branch it takes. -/
theorem recovery : Obligations.Recovery := by
  unfold Obligations.Recovery
  intro s rq p slot l k unit idx quiet c
  have only := fun st d p => Block.finish_only s.blk st d p
  refine ⟨fun ⟨hf, hl, hm, hr, ha⟩ h8 hc h5 => ?port, fun ⟨hf, hl, hm, hr, ha⟩ h8 hc => ?present,
    fun ⟨hf, hl, hm, hr, ha⟩ hh hc h5 h5' => ?slot, fun h8 => ?latched, fun hf => ?leg,
    fun ht hi h0 h4 hc h5 hcl => ?source, fun ht hi h0 h => ?refused, fun ht hi h20 hf hh hp h5 hcl => ?cleared,
    fun ht h0 hx => ?bad⟩
  case port =>
    have hready : s.blk.readmits 4 p (512 + p) := ⟨hf, hl, hm, hr, ha, fun h => absurd h (by decide), fun _ => h8⟩
    obtain ⟨hrec, -, -, -, hur, huk⟩ := s.blk.untilUp_readmit (s.blk.recov (512 + p)).quietEnd
    refine does_onBlk (f := fun b => b.autoReadmit 4 p (512 + p)) rfl ?_
    rw [Block.autoReadmit_port hready hc h5, Block.recov_updRecov_same, hrec]
    exact ⟨rfl, rfl, hf, s.blk.le_untilUp _, hur, (huk.mono (by decide)).trans ((Block.updRecov_keeps _ _ _).mono (by decide))⟩
  case present =>
    have hready : s.blk.readmits 4 p (512 + p) := ⟨hf, hl, hm, hr, ha, fun h => absurd h (by decide), fun _ => h8⟩
    obtain ⟨hrec, -, -, hquiet, hur, huk⟩ := s.blk.untilUp_readmit (s.blk.recov (512 + p)).quietEnd
    refine does_onBlk (f := fun b => b.autoReadmit 4 p (512 + p)) rfl ?_
    have hk : ¬ (512 + p.val < 256) := by omega
    rw [Block.autoReadmit_recurs hready hc, Block.onRecurrence, decide_eq_false hk]
    simp only [Bool.false_and, Bool.false_eq_true, if_false, Block.recov_updRecov_same, hrec, hl, hm, Bool.or_self, Block.quietFrom,
      hquiet, true_and]
    exact ⟨rfl, hur, (huk.mono (by decide)).trans ((Block.updRecov_keeps _ _ _).mono (by decide))⟩
  case slot =>
    have hready : s.blk.readmits 1 slot slot := ⟨hf, hl, hm, hr, ha, fun _ => hh, fun h => absurd h (by decide)⟩
    obtain ⟨-, -, -, -, hur, huk⟩ := s.blk.untilUp_readmit (s.blk.recov slot).quietEnd
    refine does_onBlk (f := fun b => b.autoReadmit 1 slot slot) rfl ?_
    rw [Block.autoReadmit_slot hready hc h5 h5']
    have hauto : (((s.blk.untilUp (s.blk.recov slot).quietEnd).updRecov slot fun r =>
        { r with returning := true, auto := true }).recov slot).auto = true := by rw [Block.recov_updRecov_same]
    exact ⟨Block.updCell_reseat _ _, hauto, hur,
      ((huk.mono (by decide)).trans ((Block.updRecov_keeps _ _ _).mono (by decide))).trans
        ((Block.updCell_keeps _ _ _).mono (by decide))⟩
  case latched =>
    refine does_onBlk (f := fun b => b.autoReadmit 4 p (512 + p)) rfl ?_
    have he : s.blk.autoReadmit 4 p (512 + p) = s.blk := by
      rw [Block.autoReadmit, h8]
      exact if_pos (by simp)
    rw [he]
    exact ⟨RegsBut.refl _ _, Keeps.refl _ _⟩
  case leg =>
    refine does_onBlk (f := fun b => b.autoReadmit 3 l (256 + l)) rfl ?_
    have he : s.blk.autoReadmit 3 l (256 + l) = s.blk := by
      rw [Block.autoReadmit, hf]
      exact if_pos (by simp)
    rw [he]
    exact ⟨RegsBut.refl _ _, Keeps.refl _ _⟩
  case source =>
    obtain ⟨t, hf, hlatch, hcls, hlogs, hkeep⟩ := Block.faultClear_latched k.isLt h0 h4 hc h5 ht.1 hcl
    rw [← hi] at hf
    have hevt : (t.finish stOk 0 (be 1 6 ++ zeros 1 ++ be 2 idx.toNat ++ be 4 1)).evt = t.evt := Block.finish_evt
    rw [← hi]
    refine does_serve rfl ht (by decide) rfl rfl hf (congrArg JarvasSt.queue (hkeep .jv (by decide))) ⟨?_, ?_, ?_, ?_⟩
    · rw [Block.on, Block.finish_rd (not_endField_of_addr (by simp only [Reg.EVT_SRCk_LATCHED]; omega)), hi]
      exact hlatch
    · rw [hevt, hi]
      exact hcls
    · unfold Logs at hlogs ⊢
      rw [hevt, hi]
      exact hlogs
    · exact (hkeep.mono (by decide)).finish (by decide)
  case refused =>
    have hs : s.blk.clearSource idx.toNat = (s.blk, .refused (if c = 4 then 2 else 1)) := by
      rw [hi, Block.clearSource, if_neg h0]
      by_cases h4 : c = 4
      · rw [if_pos h4, if_pos h4]
      · rw [if_neg h4, if_neg h4, if_pos (h.resolve_left h4)]
    have hf : s.blk.faultClear 6 idx.toNat = (s.blk, denied (if c = 4 then 2 else 1)) := by
      rw [Block.faultClear_source (by omega), hs]
    exact does_serve rfl ht (by decide) rfl rfl hf rfl (only _ _ _)
  case cleared =>
    obtain ⟨t, hf, hret, hhist, hlock, hlatch, hbusy, hkeep⟩ := Block.faultClear_leg l.isLt h20 hf hh hp h5 ht.1 hcl
    rw [← hi] at hf
    have hrec (st d : Nat) (p : List Byte) : (t.finish st d p).recov (256 + l) = t.recov (256 + l) :=
      congrArg (fun e : EvtSt => SMap.look default e.recov (256 + l)) Block.finish_evt
    rw [← hi]
    refine does_serve rfl ht (by decide) rfl rfl hf (congrArg JarvasSt.queue (hkeep .jv (by decide)))
      ⟨?_, ?_, ?_, ?_, fun g hg => ?_, (hkeep.mono (by decide)).finish (by decide)⟩
    · rw [hi, hrec]
      exact hret
    · rw [hi, hrec]
      exact hhist
    · rw [hi, hrec]
      exact hlock
    · rw [hi, Block.on, Block.finish_rd (not_endField_of_addr (by simp only [Reg.PWM_LEG_STAT_LATCHED]; omega))]
      exact hlatch
    · rw [Block.bit, Block.finish_rd (by decide)]
      exact hbusy g (by rwa [← hi])
  case bad =>
    have hf : s.blk.faultClear unit.toNat idx.toNat = (s.blk, badAddress) := by
      rw [Block.faultClear, if_neg h0, if_pos hx]
    exact does_serve rfl ht (by decide) rfl rfl hf rfl (only _ _ _)

end Sys2Proof.Machine
end

section
/-! PROOFS. Images (R86 to R88, R412 to R421): what stands in flash and what is staged, and the commands on them. -/

namespace Sys2Proof.Machine

/-! ### What the operations on images write -/

/-- The register fields that show images, staged or in flash, and what an activation and an erase count or select. -/
def imageFields : List Field :=
  [Reg.DMA_BG_WEAR_MAX_ERASE, Reg.RST_BOOT_ACTIVE, Reg.RST_BOOT_OPT_COPY, Reg.RST_BOOT_CFG_HALF, Reg.SYS_MAQ_STAT_DIRTY_WORDS]
    ++ ((List.range 3).flatMap fun t => [Reg.NVM_STAGEt_BYTES t, Reg.NVM_STAGEt_VERIFIED t])
    ++ ((List.range 2).flatMap fun k => [Reg.NVM_SLOTk_STAT_PRESENT k, Reg.NVM_SLOTk_STAT_VALID k, Reg.NVM_SLOTk_STAT_KEY k,
      Reg.NVM_SLOTk_VER_VER k, Reg.NVM_SLOTk_LEN_LEN k])
    ++ (List.range 16).map Reg.NVM_DIG_CFGj_DIGEST

theorem RegsBut.trans {fs : List Field} {a b c : Block} (h : RegsBut fs a b) (h' : RegsBut fs b c) : RegsBut fs a c :=
  fun g hg => (h' g hg).trans (h g hg)

/-- A write of one of the fields. -/
theorem Block.wr_within {fs : List Field} {f : Field} (hf : f ∈ fs) (v : Nat) (b : Block) : RegsBut fs b (b.wr f v) :=
  (b.wr_regsBut f v).mono (by simpa using ⟨f, hf, rfl⟩)

theorem stage_mem : ∀ t < 3, Reg.NVM_STAGEt_BYTES t ∈ imageFields ∧ Reg.NVM_STAGEt_VERIFIED t ∈ imageFields := by decide

theorem slot_mem : ∀ k < 2, Reg.NVM_SLOTk_STAT_PRESENT k ∈ imageFields ∧ Reg.NVM_SLOTk_STAT_VALID k ∈ imageFields
    ∧ Reg.NVM_SLOTk_STAT_KEY k ∈ imageFields ∧ Reg.NVM_SLOTk_VER_VER k ∈ imageFields
    ∧ Reg.NVM_SLOTk_LEN_LEN k ∈ imageFields := by decide

theorem cfgDigest_mem : ∀ j < 16, Reg.NVM_DIG_CFGj_DIGEST j ∈ imageFields := by decide

theorem Block.stageShow_regsBut (b : Block) : RegsBut imageFields b b.stageShow := fun _ hg =>
  Block.eachOf_rd (fun t ht c =>
    have ⟨hb, hv⟩ := stage_mem t (List.mem_range.mp ht)
    ((Block.wr_within hb _ c).trans (Block.wr_within hv _ _)) _ hg) b

theorem Block.slotShow_regsBut {k : Nat} (hk : k < 2) (i : Option Img) (valid : Bool) (b : Block) :
    RegsBut imageFields b (b.slotShow k i valid) := by
  obtain ⟨hp, hv, hkey, hver, hlen⟩ := slot_mem k hk
  exact ((((Block.wr_within hp _ b).trans (Block.wr_within hv _ _)).trans (Block.wr_within hkey _ _)).trans
    (Block.wr_within hver _ _)).trans (Block.wr_within hlen _ _)

theorem Block.spareOf_lt (t : ImgType) (b : Block) : b.spareOf t < 2 := by
  cases t <;> exact Nat.lt_succ_of_le (Nat.sub_le _ _)

/-! ### What is staged, and what stands in flash -/

theorem Block.images_of_boot {b x : Block} (h : x.boot = b.boot) : x.images = b.images := by rw [Block.images, h]; rfl

theorem Block.stagedOf_of_boot {b x : Block} (h : x.boot = b.boot) (t : ImgType) : x.stagedOf t = b.stagedOf t := by
  rw [Block.stagedOf, h]
  rfl

theorem Block.setStaged_boot (t : ImgType) (i : Option Img) (b : Block) : (b.setStaged t i).boot = { b.boot with
    staged := match i with
      | some i => SMap.insert (imgNum t) i (SMap.erase (imgNum t) b.boot.staged)
      | none => SMap.erase (imgNum t) b.boot.staged } := (Block.stageShow_keeps _ .boot (by decide)).trans rfl

theorem Block.setStaged_stagedOf (t : ImgType) (i : Option Img) (b : Block) : (b.setStaged t i).stagedOf t = i := by
  rw [Block.stagedOf, Block.setStaged_boot]
  cases i with
  | none => exact congrArg (Option.map Prod.snd) (SMap.find?_erase (imgNum t) b.boot.staged)
  | some i => exact congrArg (Option.map Prod.snd) (SMap.find?_insert_same (imgNum t) i b.boot.staged)

theorem Block.setStaged_images (t : ImgType) (i : Option Img) (b : Block) : (b.setStaged t i).images = b.images := by
  rw [Block.images, Block.setStaged_boot]
  rfl

theorem Block.setStaged_frame (t : ImgType) (i : Option Img) (b : Block) :
    RegsBut imageFields b (b.setStaged t i) ∧ Keeps [.regs, .boot] b (b.setStaged t i) :=
  ⟨Block.stageShow_regsBut _,
    ((b.updBoot_keeps _).mono (by decide)).trans ((Block.stageShow_keeps _).mono (by decide))⟩

/-- A table of images with `x` where image type `t` is staged. -/
def Block.putSpare (b : Block) (t : ImgType) (x : Option Img) (m : SMap Img) : SMap Img :=
  x.elim (SMap.erase (b.spareOf t) m) fun i => SMap.insert (b.spareOf t) i (SMap.erase (b.spareOf t) m)

/-- The images in flash with `x` in the spare copy of type `t`. -/
def Block.imagesWith (b : Block) (t : ImgType) (x : Option Img) : SMap Img × SMap Img × SMap Img :=
  (if t = .firmware then b.putSpare t x b.boot.fw else b.boot.fw,
   if t = .option then b.putSpare t x b.boot.opt else b.boot.opt,
   if t = .maquette then b.putSpare t x b.boot.cfg else b.boot.cfg)

/-- The spare copy is gone (R421). -/
theorem Block.eraseSpare_frame (t : ImgType) (b : Block) : (b.eraseSpare t).images = b.imagesWith t none
    ∧ RegsBut imageFields b (b.eraseSpare t) ∧ Keeps [.regs, .boot] b (b.eraseSpare t) := by
  have hboot (f : BootSt → BootSt) : Keeps [.regs, .boot] b (b.updBoot f) := (b.updBoot_keeps f).mono (by decide)
  cases t with
  | firmware =>
    have hshow := Block.slotShow_keeps (b.spareOf .firmware) none false
      (b.updBoot fun x => { x with fw := SMap.erase (b.spareOf .firmware) x.fw })
    exact ⟨Block.images_of_boot (hshow .boot (by decide)), fun g hg => Block.slotShow_regsBut (b.spareOf_lt _) none false _ g hg,
      (hboot _).trans (hshow.mono (by decide))⟩
  | option => exact ⟨rfl, RegsBut.refl _ b, hboot _⟩
  | maquette => exact ⟨rfl, RegsBut.refl _ b, hboot _⟩

theorem Block.blockErased_frame (p : Nat) (b : Block) : (b.blockErased p).images = b.images
    ∧ RegsBut imageFields b (b.blockErased p) ∧ Keeps [.regs, .boot] b (b.blockErased p) :=
  ⟨rfl, fun g hg => Block.wr_within (by decide) _ _ g hg,
    ((b.updBoot_keeps _).mono (by decide)).trans ((Block.wr_keeps _ _ _).mono (by decide))⟩

/-! ### Channel 11 (R422, R432) -/

/-- An operation of channel `n` begins, unless the engine is halted. -/
theorem Block.fwBegin_frame (n bursts : Nat) (b : Block) :
    (b.on Reg.DMA_STAT_HALTED = false → (b.fwBegin n bursts).on (Reg.DMA_CH_STAT_BUSY n) = true)
    ∧ RegsBut [Reg.DMA_CH_STAT_BUSY n, Reg.DMA_CH_STAT_STOPPED n] b (b.fwBegin n bursts)
    ∧ Keeps [.regs, .dma] b (b.fwBegin n bursts) := by
  by_cases hh : b.on Reg.DMA_STAT_HALTED = true
  · rw [Block.fwBegin, if_pos hh]
    exact ⟨fun h => absurd hh (by simp [h]), RegsBut.refl _ b, Keeps.refl _ b⟩
  · rw [Block.fwBegin_eq (by simpa using hh)]
    exact ⟨fun _ => Block.on_chanBusy_same _ _ _, Block.chanBusy_regsBut n true _,
      ((b.updChan_keeps _ _).mono (by decide)).trans ((Block.chanBusy_keeps _ _ _).mono (by decide))⟩

/-- The rest of an operation of channel `n` of the firmware, while no other bulk channel has work. -/
theorem Block.fwRest_frame {n : Nat} (hn : n < 16) {b : Block} (h : b.bulkOnly n) (ok : Bool) :
    ((b.bulkShare n).fwEnd n ok).on (Reg.DMA_CH_STAT_BUSY n) = false ∧ RegsBut (chanFields n) b ((b.bulkShare n).fwEnd n ok)
    ∧ Keeps [.regs, .dma] b ((b.bulkShare n).fwEnd n ok) := by
  have hshare := Block.bulkShare_firmware hn h
  obtain ⟨hregs, hkeep⟩ := Block.fwEnd_frame n ok (b.bulkShare n)
  exact ⟨Block.fwEnd_idle _ _ _, (RegsBut.of_regs (hshare .regs (by decide))).trans_append hregs,
    (hshare.mono (by decide)).trans hkeep⟩

/-- A command that waits at the head of the queue ends with its reply. -/
theorem Block.finish_answers {e : Block} {q : QCmd} {r : List QCmd} {w : Wait} (st d : Nat) (p : List Byte)
    (hq : e.jv.queue = q :: r) (hw : q.wait = w) (ho : w ≠ .castOrphan) :
    (e.finish st d p).jv.queue = r ∧ Replied (e.finish st d p) q.req q.op.toNat st d p := by
  obtain ⟨hqueue, -, -, hrep⟩ := Block.finish_head (st := st) (d := d) (p := p) hq (hw ▸ ho)
  exact ⟨hqueue.trans (congrArg List.tail hq), hrep⟩

theorem Block.headWait_eq {b : Block} {q : QCmd} {r : List QCmd} {w : Wait} (hq : b.jv.queue = q :: r) (hw : q.wait = w) :
    b.headWait = some w := by rw [Block.headWait, hq, List.head?_cons, Option.map_some, hw]

/-! ### IMAGE_WRITE (R86) -/

theorem imgOf_imgNum (t : ImgType) : imgOf (BitVec.ofNat 8 (imgNum t)).toNat = some t := by cases t <;> rfl

/-- The spare copy made ready for data: erased as a whole where staging begins (R437). -/
def Block.clearSpare (t : ImgType) (fresh : Bool) (b : Block) : Block :=
  if fresh then (b.eraseSpare t).blockErased ((b.eraseSpare t).spareBlock t) else b.eraseSpare t

theorem Block.clearSpare_frame (t : ImgType) (fresh : Bool) (b : Block) : (b.clearSpare t fresh).images = b.imagesWith t none
    ∧ RegsBut imageFields b (b.clearSpare t fresh) ∧ Keeps [.regs, .boot] b (b.clearSpare t fresh) := by
  obtain ⟨himg, hregs, hkeep⟩ := b.eraseSpare_frame t
  obtain ⟨himg', hregs', hkeep'⟩ := (b.eraseSpare t).blockErased_frame ((b.eraseSpare t).spareBlock t)
  unfold Block.clearSpare
  split
  · exact ⟨himg'.trans himg, hregs.trans hregs', hkeep.trans hkeep'⟩
  · exact ⟨himg, hregs, hkeep⟩

/-- The bytes that are staged. -/
def Block.stagedBytes (b : Block) (t : ImgType) : List Byte := ((b.stagedOf t).map (·.bytes)).getD []

/-- The image with the bytes `bs` is staged, and channel 11 programs it. -/
def Block.stages (t : ImgType) (fresh : Bool) (bs : List Byte) (bursts : Nat) (b : Block) : Block :=
  ((b.clearSpare t fresh).setStaged t (some (rawImage bs))).fwBegin 11 bursts

theorem Block.stages_frame (t : ImgType) (fresh : Bool) (bs : List Byte) (bursts : Nat) (b : Block) :
    (b.stages t fresh bs bursts).stagedOf t = some (rawImage bs) ∧ (b.stages t fresh bs bursts).images = b.imagesWith t none
    ∧ (b.on Reg.DMA_STAT_HALTED = false → (b.stages t fresh bs bursts).on (Reg.DMA_CH_STAT_BUSY 11) = true)
    ∧ Keeps [.regs, .boot, .dma] b (b.stages t fresh bs bursts) := by
  obtain ⟨himg, hregs, hkeep⟩ := b.clearSpare_frame t fresh
  obtain ⟨hregs', hkeep'⟩ := (b.clearSpare t fresh).setStaged_frame t (some (rawImage bs))
  have hstaged := (b.clearSpare t fresh).setStaged_stagedOf t (some (rawImage bs))
  have himages := (b.clearSpare t fresh).setStaged_images t (some (rawImage bs))
  unfold Block.stages
  generalize (b.clearSpare t fresh).setStaged t (some (rawImage bs)) = x at *
  obtain ⟨hbusy, -, hbegin⟩ := Block.fwBegin_frame 11 bursts x
  have hboot : (x.fwBegin 11 bursts).boot = x.boot := hbegin .boot (by decide)
  refine ⟨(Block.stagedOf_of_boot hboot t).trans hstaged, (Block.images_of_boot hboot).trans (himages.trans himg), fun h => hbusy ?_,
    ((hkeep.trans hkeep').mono (by decide)).trans (hbegin.mono (by decide))⟩
  exact (congrArg (· != 0) (hregs.trans hregs' Reg.DMA_STAT_HALTED (by decide))).trans h

theorem Block.imageWrite_stages {t : ImgType} {off : Nat} {data : List Byte} {b : Block}
    (ho : off = 0 ∨ off = (b.stagedBytes t).length) (hl : off + data.length ≤ imgLimit t) :
    b.imageWrite (BitVec.ofNat 8 (imgNum t)).toNat off data
      = (b.stages t (decide (off = 0)) (if off = 0 then data else b.stagedBytes t ++ data) (cdiv data.length 256),
        .wait (.program t)) := by
  have hjoin : ¬ (off ≠ 0 ∧ off ≠ (b.stagedBytes t).length) := by omega
  unfold Block.imageWrite
  rw [imgOf_imgNum]
  refine (if_neg hjoin).trans ((if_neg (Nat.not_lt.mpr hl)).trans ?_)
  simp only [Block.stages, Block.clearSpare, decide_eq_true_eq]
  rfl

theorem Block.imageWrite_gap {t : ImgType} {off : Nat} {data : List Byte} {b : Block} (h0 : off ≠ 0)
    (ho : off ≠ (b.stagedBytes t).length) : b.imageWrite (BitVec.ofNat 8 (imgNum t)).toNat off data = (b, denied 1) := by
  unfold Block.imageWrite
  rw [imgOf_imgNum]
  exact if_pos ⟨h0, ho⟩

/-- IMAGE_WRITE at its turn whose data is staged waits for its programming. -/
theorem does_stages {s : State} {rq : Req} {t : ImgType} {off : Word} {data : List Byte} (ht : AtTurn s.blk rq 0x80)
    (hfit : imageDataFits data.length = true) (ho : off.toNat = 0 ∨ off.toNat = (s.blk.stagedBytes t).length)
    (hl : off.toNat + data.length ≤ imgLimit t) :
    Does (.imageWrite rq (BitVec.ofNat 8 (imgNum t)) off data) s fun u => Waits s.blk u (.program t)
      ∧ u.stagedOf t = some (rawImage (if off.toNat = 0 then data else s.blk.stagedBytes t ++ data))
      ∧ u.images = s.blk.imagesWith t none
      ∧ (s.blk.on Reg.DMA_STAT_HALTED = false → u.on (Reg.DMA_CH_STAT_BUSY 11) = true)
      ∧ Keeps [.regs, .jv, .boot, .dma] s.blk u := by
  obtain ⟨hstaged, himages, hbusy, hkeep⟩ := s.blk.stages_frame t (decide (off.toNat = 0))
    (if off.toNat = 0 then data else s.blk.stagedBytes t ++ data) (cdiv data.length 256)
  refine does_serve_wait (by rw [← hfit]; rfl) ht (by decide) rfl (Block.imageWrite_stages ho hl)
    (congrArg JarvasSt.queue (hkeep .jv (by decide))) (hkeep .out (by decide)) ⟨?_, ?_, hbusy, ?_⟩
  · exact (Block.stagedOf_of_boot Block.waitFor_boot t).trans hstaged
  · exact (Block.images_of_boot Block.waitFor_boot).trans himages
  · exact (hkeep.mono (by decide)).trans ((Block.waitFor_keeps _ _).mono (by decide))

theorem imgLimit_ge (t : ImgType) : 524288 ≤ imgLimit t := by cases t <;> decide

theorem imageDataFits_le {n : Nat} (h : imageDataFits n = true) : n ≤ 1392 := (of_decide_eq_true h).2.1

/-! ### IMAGE_VERIFY (R413, R422) -/

/-- The registers of images and keys as they read. -/
def Block.nvmView (b : Block) : Field → Nat := fun f => if 0x800000 * 8 ≤ f.key then b.rd f else 0

theorem Block.rd_of_nvmView {b x : Block} (h : x.nvmView = b.nvmView) {f : Field} (hf : 0x800000 * 8 ≤ f.key) :
    x.rd f = b.rd f := by simpa [Block.nvmView, hf] using congrFun h f

theorem RegsBut.nvmView {fs : List Field} {b x : Block} (h : RegsBut fs b x) (hf : ∀ f ∈ fs, f.key < 0x800000 * 8) :
    x.nvmView = b.nvmView := by
  funext g
  unfold Block.nvmView
  split
  · next hg =>
    refine h g fun hm => ?_
    obtain ⟨f, hm, hk⟩ := List.mem_map.mp hm
    exact absurd (hf f hm) (by omega)
  · rfl

theorem Block.nvmView_ite (c : Prop) [Decidable c] (x y : Block) :
    (if c then x else y).nvmView = if c then x.nvmView else y.nvmView := by split <;> rfl

theorem Block.wr_nvmView {f : Field} (hf : f.key < 0x800000 * 8) (v : Nat) (b : Block) : (b.wr f v).nvmView = b.nvmView :=
  (b.wr_regsBut f v).nvmView (by simpa using hf)

theorem Block.flag_nvmView {f : Field} (hf : f.key < 0x800000 * 8) (p : Bool) (b : Block) :
    (b.flag f p).nvmView = b.nvmView := b.wr_nvmView hf _

theorem Block.updEvt_nvmView (f : EvtSt → EvtSt) (b : Block) : (b.updEvt f).nvmView = b.nvmView := rfl

theorem Block.updSafe_nvmView (f : SafeSt → SafeSt) (b : Block) : (b.updSafe f).nvmView = b.nvmView := rfl

theorem Block.updPair_nvmView (f : PairSt → PairSt) (b : Block) : (b.updPair f).nvmView = b.nvmView := rfl

theorem Block.updConv_nvmView (f : ConvSt → ConvSt) (b : Block) : (b.updConv f).nvmView = b.nvmView := rfl

theorem Block.latch_nvmView {k : Nat} (hk : k < 256) (cls : Nat) (b : Block) : (b.latch k cls).nvmView = b.nvmView := by
  have hkey : (Reg.EVT_SRCk_LATCHED k).key < 0x800000 * 8 := by
    simp only [Field.key, Reg.EVT_SRCk_LATCHED]
    omega
  rw [Block.latch, Block.updEvt_nvmView, Block.flag_nvmView hkey]

theorem Block.blockAct_nvmView (source : Nat) (b : Block) : (b.blockAct source).nvmView = b.nvmView := by
  have hstage := (Block.frame_of_besideStage (b.blockStage_besideStage false)).1.nvmView (by decide)
  simp only [Block.blockAct, Block.nvmView_ite, Block.updPair_nvmView, Block.updEvt_nvmView, ite_self, hstage]

theorem Block.keepHalt_nvmView (source : Nat) (b : Block) : (b.keepHalt source).nvmView = b.nvmView := by
  unfold Block.keepHalt
  rw [Block.nvmView_ite, Block.flag_nvmView (by decide), Block.wr_nvmView (by decide), ite_self]

theorem Block.demandHalt_nvmView (partly : Bool) (b : Block) : (b.demandHalt partly).nvmView = b.nvmView := by
  have hcause (c : Block) : (c.demandCause 7).nvmView = c.nvmView := by
    rw [Block.demandCause, Block.nvmView_ite, Block.wr_nvmView (by decide), ite_self]
  have hremove (c : Block) : (c.remove partly).nvmView = c.nvmView := by
    simp only [Block.remove, Block.decideRemoval, Block.nvmView_ite, Block.updSafe_nvmView,
      Block.wr_nvmView (f := Reg.SAFE_STAT_STATE) (by decide), ite_self]
  rw [Block.demandHalt, Block.wr_nvmView (by decide), hremove, hcause, Block.count, Block.wr_nvmView (by decide)]

/-- The action of a class leaves the registers of images and keys alone (R341). -/
theorem Block.classAct_nvmView {k : Nat} (hk : k < 256) (cls : Nat) (b : Block) : (b.classAct k cls).nvmView = b.nvmView := by
  unfold Block.classAct
  split <;> simp only [Block.nvmView_ite, ite_self, Block.updConv_nvmView, Block.latch_nvmView hk, Block.blockAct_nvmView,
    Block.keepHalt_nvmView, Block.demandHalt_nvmView]

/-- An occurrence that names no unit leaves the registers of images and keys alone. -/
theorem Block.raise_nvmView {o : Occ} (ho : o.source < 256) (hu : unitKey o.unitType o.idx = none) (b : Block) :
    (b.raise o).nvmView = b.nvmView := by
  have hrecord (cls : Nat) : (b.record o cls false false).nvmView = b.nvmView :=
    (Block.record_regsBut o cls false false b).nvmView (by
    simp only [List.forall_mem_cons, Field.key, Reg.EVT_SRCk_COUNT, Reg.EVT_SUPP_CNT_COUNT]
    exact ⟨by omega, by omega, nofun⟩)
  rw [Block.raise, Block.raiseOwn, Block.nvmView_ite]
  dsimp only
  rw [Block.classAct_nvmView ho, Block.raiseUnit, hu]
  dsimp only
  rw [hrecord, ite_self]

/-- The checks of an image read the registers of the keys alone (R413). -/
theorem Block.imageCheck_congr {b x : Block} (h : x.nvmView = b.nvmView) (t : ImgType) (i : Img) :
    x.imageCheck t i = b.imageCheck t i := by
  have hprog : x.rd Reg.NVM_KEY_STAT_PROGRAMMED = b.rd Reg.NVM_KEY_STAT_PROGRAMMED := Block.rd_of_nvmView h (by decide)
  have hrev : x.rd Reg.NVM_KEY_STAT_REVOKED = b.rd Reg.NVM_KEY_STAT_REVOKED := Block.rd_of_nvmView h (by decide)
  have hdigest (k j : Nat) : x.rd (Reg.NVM_KEYk_Dj_DIGEST k j) = b.rd (Reg.NVM_KEYk_Dj_DIGEST k j) :=
    Block.rd_of_nvmView h (by simp only [Field.key, Reg.NVM_KEYk_Dj_DIGEST]; omega)
  have hprogrammed : x.programmed = b.programmed := funext fun k => congrArg (·.testBit k) hprog
  have hrevoked : x.revoked = b.revoked := funext fun k => congrArg (·.testBit k) hrev
  have hslot : x.slotDigest = b.slotDigest := funext fun k => congrArg digestOf (funext (hdigest k))
  unfold Block.imageCheck Block.keyOpsOk Block.firstClaim
  rw [hprog, hprogrammed, hrevoked, hslot]

/-- The staged image is read without an injected failure: what the read leaves (R355). -/
theorem Block.verifyRead_frame {b : Block} (hi : b.injects 4 0 = false) :
    b.verifyRead.nvmView = b.nvmView ∧ Keeps (.draws :: raiseParts) b b.verifyRead := by
  have he : b.verifyRead = b.flashCheck none := by
    simp only [Block.verifyRead, Block.flashReads, Block.flashRead, Block.flashCheck, hi, Bool.false_and, Bool.false_eq_true,
      if_false]
  rw [he]
  refine ⟨?_, (Block.flashCheck_frame hi).2⟩
  rw [Block.flashCheck, hi]
  have hraise := Block.raise_nvmView (o := { source := 5 }) (by decide) rfl b.drawn
  have hcorr : (b.flashCorr none).nvmView = b.nvmView := by
    rw [Block.flashCorr, Block.nvmView_ite, hraise]
    exact ite_self _
  exact hcorr

/-- The image is staged with what the checks have found, and its slot shows it. -/
def Block.judged (t : ImgType) (facts : Img) (ok : Bool) (b : Block) : Block :=
  let x := b.setStaged t (some { facts with verified := ok })
  if t == .firmware then x.slotShow (x.spareOf t) (if ok then some facts else none) ok else x

theorem Block.judged_frame (t : ImgType) (facts : Img) (ok : Bool) (b : Block) :
    (b.judged t facts ok).stagedOf t = some { facts with verified := ok } ∧ (b.judged t facts ok).images = b.images
    ∧ RegsBut imageFields b (b.judged t facts ok) ∧ Keeps [.regs, .boot] b (b.judged t facts ok) := by
  obtain ⟨hregs, hkeep⟩ := b.setStaged_frame t (some { facts with verified := ok })
  have hstaged := b.setStaged_stagedOf t (some { facts with verified := ok })
  have himages := b.setStaged_images t (some { facts with verified := ok })
  unfold Block.judged
  generalize b.setStaged t (some { facts with verified := ok }) = x at *
  dsimp only
  split
  · have hshow := x.slotShow_keeps (x.spareOf t) (if ok then some facts else none) ok
    have hboot := hshow .boot (by decide)
    exact ⟨(Block.stagedOf_of_boot hboot t).trans hstaged, (Block.images_of_boot hboot).trans himages,
      hregs.trans (Block.slotShow_regsBut (x.spareOf_lt t) _ _ _), hkeep.trans (hshow.mono (by decide))⟩
  · exact ⟨hstaged, himages, hregs, hkeep⟩

/-- What IMAGE_VERIFY answers for an image that verifies. -/
def verifyReply (t : ImgType) (facts : Img) : List Byte :=
  be 1 (imgNum t) ++ be 1 facts.key ++ zeros 2 ++ be 4 facts.size ++ be 64 facts.digest.toNat

/-- The verification ends with what the checks have found. -/
theorem Block.imageVerifyDone_eq {t : ImgType} {i : Img} {b : Block} (hw : b.headWait = some (.verify t))
    (hh : b.on Reg.DMA_STAT_HALTED = false) (hx : (b.bulkShare 11).verifyRead.headWait = some (.verify t))
    (hi : (b.bulkShare 11).verifyRead.stagedOf t = some i) :
    let facts := imageFacts t i.bytes
    let y := (b.bulkShare 11).verifyRead.fwEnd 11 true
    b.imageVerifyDone t = if y.imageCheck t facts ≠ 0
      then (y.judged t facts false).finish stSigFail (y.imageCheck t facts) []
      else (y.judged t facts true).finish stOk 0 (verifyReply t facts) := by
  have hgo : ¬ (b.headWait ≠ some (.verify t) ∨ b.on Reg.DMA_STAT_HALTED) := by simp [hw, hh]
  unfold Block.imageVerifyDone
  rw [if_neg hgo]
  dsimp only
  rw [hi, decide_eq_true hx]
  rfl

/-- What the read of a staged image and the end of channel 11's operation leave. -/
theorem Block.verifyEnds_frame {b : Block} (hi : b.injects 4 0 = false) (h : b.bulkOnly 11) :
    let x := (b.bulkShare 11).verifyRead
    let y := x.fwEnd 11 true
    Keeps (.dma :: .draws :: raiseParts) b x ∧ Keeps (.dma :: .draws :: raiseParts) b y ∧ y.nvmView = b.nvmView
      ∧ y.on (Reg.DMA_CH_STAT_BUSY 11) = false := by
  intro x y
  have hshare := Block.bulkShare_firmware (n := 11) (by decide) h
  have hregs : (b.bulkShare 11).regs = b.regs := hshare .regs (by decide)
  have hinj : (b.bulkShare 11).injects 4 0 = false := by
    rw [← hi, Block.injects, Block.injects, Block.rd, hregs]
    rfl
  obtain ⟨hview, hread⟩ := Block.verifyRead_frame hinj
  obtain ⟨hend, hkeep⟩ := Block.fwEnd_frame 11 true x
  have hx : Keeps (.dma :: .draws :: raiseParts) b x := (hshare.mono (by decide)).trans (hread.mono (by decide))
  exact ⟨hx, hx.trans (hkeep.mono (by decide)),
    (hend.nvmView (by decide)).trans (hview.trans ((RegsBut.of_regs hregs).nvmView nofun)), Block.fwEnd_idle _ _ _⟩

/-! ### Activation (R87, R415) -/

theorem Block.replaceMaq_frame (ws : List (Nat × Nat)) (b : Block) :
    RegsBut imageFields b (b.replaceMaq ws) ∧ Keeps [.regs, .cst] b (b.replaceMaq ws) :=
  ⟨fun g hg => Block.wr_within (by decide) _ _ g hg,
    ((b.updCst_keeps _).mono (by decide)).trans ((Block.wr_keeps _ _ _).mono (by decide))⟩

/-- The digest of the configuration image shows, unless the default is in force (R419, R421). -/
def Block.cfgDigestShown (d : Nat) (b : Block) : Block :=
  if b.on Reg.RST_CAUSE_CFG_DEFAULT then b else b.showDigest Reg.NVM_DIG_CFGj_DIGEST d

theorem Block.cfgDigestShown_frame (d : Nat) (b : Block) :
    RegsBut imageFields b (b.cfgDigestShown d) ∧ Keeps [.regs] b (b.cfgDigestShown d) := by
  unfold Block.cfgDigestShown
  split
  · exact ⟨RegsBut.refl _ b, Keeps.refl _ b⟩
  · exact ⟨fun g hg => Block.eachOf_rd (fun j hj c => Block.wr_within (cfgDigest_mem j (List.mem_range.mp hj)) _ c g hg) b,
      Block.eachOf_keeps _ _ (fun _ _ c => c.wr_keeps _ _) b⟩

theorem Block.activate_frame (t : ImgType) (i : Img) (b : Block) : (b.activate t i).images = b.imagesWith t (some i)
    ∧ RegsBut imageFields b (b.activate t i) ∧ Keeps [.regs, .boot, .cst] b (b.activate t i) := by
  have hselect (f : BootSt → BootSt) (g : Field) (v : Nat) (hg : g ∈ imageFields) :
      RegsBut imageFields b ((b.updBoot f).wr g v) ∧ Keeps [.regs, .boot, .cst] b ((b.updBoot f).wr g v) :=
    ⟨Block.wr_within hg v (b.updBoot f), ((b.updBoot_keeps f).mono (by decide)).trans ((Block.wr_keeps _ _ _).mono (by decide))⟩
  cases t with
  | firmware => exact ⟨rfl, hselect _ Reg.RST_BOOT_ACTIVE _ (by decide)⟩
  | option => exact ⟨rfl, hselect _ Reg.RST_BOOT_OPT_COPY _ (by decide)⟩
  | maquette =>
    unfold Block.activate
    dsimp only
    generalize hc : (b.updBoot _).wr Reg.RST_BOOT_CFG_HALF _ = c
    have himages : c.images = b.imagesWith .maquette (some i) := by
      rw [← hc]
      rfl
    obtain ⟨hregs, hkeep⟩ : RegsBut imageFields b c ∧ Keeps [.regs, .boot, .cst] b c :=
      hc ▸ hselect _ Reg.RST_BOOT_CFG_HALF _ (by decide)
    obtain ⟨hdr, hdk⟩ := c.cfgDigestShown_frame i.digest.toNat
    obtain ⟨hmr, hmk⟩ := (c.cfgDigestShown i.digest.toNat).replaceMaq_frame i.words
    exact ⟨(Block.images_of_boot ((hmk .boot (by decide)).trans (hdk .boot (by decide)))).trans himages,
      hregs.trans (hdr.trans hmr), hkeep.trans ((hdk.mono (by decide)).trans (hmk.mono (by decide)))⟩

/-- What stands in flash, and which copy is spare, while channel 11 works. -/
theorem Block.imagesWith_congr {b x : Block} (hb : x.boot = b.boot) (hr : RegsBut (chanFields 11) b x) (t : ImgType)
    (i : Option Img) : x.imagesWith t i = b.imagesWith t i := by
  have hspare : x.spareOf t = b.spareOf t := by
    cases t with
    | firmware => exact congrArg (1 - ·) (hr Reg.RST_BOOT_ACTIVE (by decide))
    | option => exact congrArg (1 - ·) (hr Reg.RST_BOOT_OPT_COPY (by decide))
    | maquette => exact congrArg (1 - ·) (hr Reg.RST_BOOT_CFG_HALF (by decide))
  simp only [Block.imagesWith, Block.putSpare, hspare, hb]

/-- What IMAGE_PROGRAM_DONE leaves of an activation: the staged image stands in the spare copy, and nothing is staged. -/
theorem Block.activates_frame {b y : Block} (hb : y.boot = b.boot) (hr : RegsBut (chanFields 11) b y) (t : ImgType) (i : Img) :
    ((y.activate t i).setStaged t none).stagedOf t = none
    ∧ ((y.activate t i).setStaged t none).images = b.imagesWith t (some i)
    ∧ RegsBut imageFields y ((y.activate t i).setStaged t none)
    ∧ Keeps [.regs, .boot, .cst] y ((y.activate t i).setStaged t none) := by
  obtain ⟨himages, hregs, hkeep⟩ := y.activate_frame t i
  obtain ⟨hregs', hkeep'⟩ := (y.activate t i).setStaged_frame t none
  exact ⟨Block.setStaged_stagedOf _ _ _,
    (Block.setStaged_images _ _ _).trans (himages.trans (Block.imagesWith_congr hb hr t (some i))),
    hregs.trans hregs', hkeep.trans (hkeep'.mono (by decide))⟩

theorem Block.imageActivate_of_staged {t : ImgType} {i : Img} {b : Block} (hi : b.stagedOf t = some i) (hv : i.verified = true) :
    b.imageActivate (BitVec.ofNat 8 (imgNum t)).toNat
      = if t == .maquette && b.cst.armed.isSome then (b, .done stLocked 0 []) else (b.fwBegin 11 1, .wait (.activate t)) := by
  unfold Block.imageActivate
  rw [imgOf_imgNum]
  dsimp only
  rw [hi]
  dsimp only
  rw [hv, if_neg (by decide)]

theorem Block.imageActivate_unverified {t : ImgType} {b : Block} (h : ∀ i, b.stagedOf t = some i → i.verified = false) :
    b.imageActivate (BitVec.ofNat 8 (imgNum t)).toNat = (b, denied 1) := by
  unfold Block.imageActivate
  rw [imgOf_imgNum]
  dsimp only
  split
  · rfl
  · next i hi => rw [h i hi, if_pos (by decide)]

theorem Block.imageVerify_staged {t : ImgType} {i : Img} {b : Block} (hi : b.stagedOf t = some i) :
    b.imageVerify (BitVec.ofNat 8 (imgNum t)).toNat = (b.fwBegin 11 (cdiv i.bytes.length 256), .wait (.verify t)) := by
  unfold Block.imageVerify
  rw [imgOf_imgNum]
  dsimp only
  rw [hi]

theorem Block.imageVerify_nothing {t : ImgType} {b : Block} (hi : b.stagedOf t = none) :
    b.imageVerify (BitVec.ofNat 8 (imgNum t)).toNat = (b, denied 1) := by
  unfold Block.imageVerify
  rw [imgOf_imgNum]
  dsimp only
  rw [hi]

/-- A command on images that begins an operation of channel 11 and waits for it. -/
theorem does_serve_channel {c : Instr} {s : State} {rq : Req} {op bursts : Nat} {touches : Bool} {f : Block → Block × Ans}
    {w : Wait} (hx : exec c s = s.onBlk (·.serve rq op true touches f)) (ht : AtTurn s.blk rq op) (hop : op < 256)
    (hr : (touches && s.blk.resyncing) = false) (hf : f s.blk = (s.blk.fwBegin 11 bursts, .wait w)) :
    Does c s fun t => Waits s.blk t w ∧ (s.blk.on Reg.DMA_STAT_HALTED = false → t.on (Reg.DMA_CH_STAT_BUSY 11) = true)
      ∧ RegsBut [Reg.DMA_CH_STAT_BUSY 11, Reg.DMA_CH_STAT_STOPPED 11] s.blk t ∧ Keeps [.regs, .jv, .dma] s.blk t := by
  obtain ⟨hbusy, hregs, hkeep⟩ := s.blk.fwBegin_frame 11 bursts
  exact does_serve_wait hx ht hop hr hf (congrArg JarvasSt.queue (hkeep .jv (by decide))) (hkeep .out (by decide))
    ⟨hbusy, hregs, (hkeep.mono (by decide)).trans ((Block.waitFor_keeps _ _).mono (by decide))⟩

/-- BUSY of channel 11 is none of the fields that show images, and no end of a command writes it. -/
theorem Block.idle_finish {y e : Block} {st d : Nat} {p : List Byte} (hr : RegsBut imageFields y e)
    (hy : y.on (Reg.DMA_CH_STAT_BUSY 11) = false) : (e.finish st d p).on (Reg.DMA_CH_STAT_BUSY 11) = false := by
  rw [Block.on, Block.finish_rd (by decide), hr _ (by decide)]
  exact hy

/-- Settles O54: every image command by the branch it takes, and every completion by what channel 11 leaves. -/
theorem imageCommands : Obligations.ImageCommands := by
  unfold Obligations.ImageCommands
  intro s rq ty off data nonce n old put spare busy ended alone channel
  have only := fun st d p => Block.finish_only s.blk st d p
  have hsync (h : s.blk.cst.resync = none) (touches : Bool) : (touches && s.blk.resyncing) = false := by
    simp [Block.resyncing, h]
  refine ⟨fun ht hfit => ?first, fun ht hfit ho h0 hl => ?joined, fun ht hfit h0 ho => ?gap,
    fun q r hq hw => ⟨fun ⟨hh, hb⟩ => ?programmed, fun hh => ?halted, ?timeout⟩, fun ht hs => ?verify, fun ht hs => ?nothing,
    fun q r i hq hw hs hi ⟨hh, hb⟩ => ?verified, fun i ht hs hv ha hr => ?activate, fun i ht hm hs hv ha hr => ?locked,
    fun q r i hq hw hs ⟨hh, hb⟩ => ?activated, fun ht hr hs => ?unverified, fun ht h16 h64 => ?attest⟩
  case first =>
    have hl : (0 : Word).toNat + data.length ≤ imgLimit ty := by
      have hdata := imageDataFits_le hfit
      have hlimit := imgLimit_ge ty
      have hzero : (0 : Word).toNat = 0 := rfl
      omega
    exact does_stages ht hfit (.inl rfl) hl
  case joined =>
    have hne : off.toNat ≠ 0 := by omega
    have := does_stages ht hfit (.inr ho) hl
    rwa [if_neg hne] at this
  case gap =>
    exact does_serve rfl ht (by decide) hfit rfl (Block.imageWrite_gap h0 ho) rfl (only _ _ _)
  case programmed =>
    refine does_onBlk (f := (·.imageProgramDone ty)) rfl ?_
    obtain ⟨hidle, hregs, hkeep⟩ := Block.fwRest_frame (n := 11) (by decide) hb true
    have hhead := Block.headWait_eq hq hw
    have hlen : ((s.blk.stagedOf ty).map (·.bytes.length)).getD 0 = old.length := by
      show _ = (((s.blk.stagedOf ty).map (·.bytes)).getD []).length
      cases s.blk.stagedOf ty <;> rfl
    rw [Block.imageProgramDone, hh, hhead, if_neg (by decide), if_neg (by simp), if_pos rfl, hlen]
    generalize ((s.blk.bulkShare 11).fwEnd 11 true) = y at *
    obtain ⟨hqueue, hrep⟩ := Block.finish_answers stOk 0 (be 1 (imgNum ty) ++ zeros 3 ++ be 4 old.length)
      ((congrArg JarvasSt.queue (hkeep .jv (by decide))).trans hq) hw nofun
    exact ⟨hqueue, hrep, Block.images_of_boot (Block.finish_boot.trans (hkeep .boot (by decide))),
      Block.idle_finish (RegsBut.refl _ y) hidle, (RegsBut.finish hregs).mono (by decide),
      (hkeep.mono (by decide)).finish (by decide)⟩
  case halted =>
    refine does_onBlk (f := (·.imageProgramDone ty)) rfl ?_
    rw [Block.imageProgramDone, if_pos hh]
    exact ⟨RegsBut.refl _ _, Keeps.refl _ _⟩
  case timeout =>
    refine does_onBlk (f := (·.imageWriteTimeout ty)) rfl ?_
    have hstaged := s.blk.setStaged_stagedOf ty none
    have himages := s.blk.setStaged_images ty none
    obtain ⟨-, hset⟩ := s.blk.setStaged_frame ty none
    obtain ⟨-, hend⟩ := Block.fwEnd_frame 11 false (s.blk.setStaged ty none)
    have hidle := Block.fwEnd_idle 11 false (s.blk.setStaged ty none)
    rw [Block.imageWriteTimeout, if_pos (Block.headWait_eq hq hw)]
    generalize s.blk.setStaged ty none = x at *
    generalize x.fwEnd 11 false = y at *
    have hkeep : Keeps [.regs, .boot, .dma] s.blk y := (hset.mono (by decide)).trans (hend.mono (by decide))
    have hboot : (y.finish stTimeout 0 []).boot = x.boot := Block.finish_boot.trans (hend .boot (by decide))
    obtain ⟨hqueue, hrep⟩ := Block.finish_answers stTimeout 0 []
      ((congrArg JarvasSt.queue (hkeep .jv (by decide))).trans hq) hw nofun
    exact ⟨hqueue, hrep, (Block.stagedOf_of_boot hboot ty).trans hstaged, (Block.images_of_boot hboot).trans himages,
      Block.idle_finish (RegsBut.refl _ y) hidle, (hkeep.mono (by decide)).finish (by decide)⟩
  case verify =>
    obtain ⟨i, hi⟩ := Option.ne_none_iff_exists'.mp hs
    exact does_serve_channel rfl ht (by decide) rfl (Block.imageVerify_staged hi)
  case nothing =>
    exact does_serve rfl ht (by decide) rfl rfl (Block.imageVerify_nothing hs) rfl (only _ _ _)
  case verified =>
    intro facts d
    refine does_onBlk (f := (·.imageVerifyDone ty)) rfl ?_
    obtain ⟨hx, hy, hview, hidle⟩ := Block.verifyEnds_frame hi hb
    have hdone := Block.imageVerifyDone_eq (i := i) (Block.headWait_eq hq hw) hh
      (Block.headWait_eq ((congrArg JarvasSt.queue (hx .jv (by decide))).trans hq) hw)
      ((Block.stagedOf_of_boot (hx .boot (by decide)) ty).trans hs)
    dsimp only at hdone
    rw [hdone, Block.imageCheck_congr hview]
    generalize (s.blk.bulkShare 11).verifyRead.fwEnd 11 true = y at *
    have hends (ok : Bool) (st d : Nat) (p : List Byte) : ((y.judged ty facts ok).finish st d p).jv.queue = r
        ∧ ((y.judged ty facts ok).finish st d p).images = s.blk.images ∧ ended ((y.judged ty facts ok).finish st d p)
        ∧ Keeps (.dma :: .boot :: .jv :: .draws :: raiseParts) s.blk ((y.judged ty facts ok).finish st d p)
        ∧ ((y.judged ty facts ok).finish st d p).stagedOf ty = some { facts with verified := ok }
        ∧ Replied ((y.judged ty facts ok).finish st d p) q.req q.op.toNat st d p := by
      obtain ⟨hstaged, himages, hregs, hkeep⟩ := y.judged_frame ty facts ok
      have hk : Keeps (.dma :: .boot :: .jv :: .draws :: raiseParts) s.blk (y.judged ty facts ok) :=
        (hy.mono (by decide)).trans (hkeep.mono (by decide))
      obtain ⟨hqueue, hrep⟩ := Block.finish_answers st d p
        ((congrArg JarvasSt.queue ((hkeep .jv (by decide)).trans (hy .jv (by decide)))).trans hq) hw nofun
      exact ⟨hqueue, (Block.images_of_boot Block.finish_boot).trans (himages.trans (Block.images_of_boot (hy .boot (by decide)))),
        Block.idle_finish hregs hidle, hk.finish (by decide), (Block.stagedOf_of_boot Block.finish_boot ty).trans hstaged, hrep⟩
    split
    · next hd =>
      obtain ⟨hqueue, himages, hended, hkeep, hstaged, hrep⟩ := hends false stSigFail d []
      exact ⟨hqueue, himages, hended, hkeep, .inr ⟨hd, congrArg (Option.map Img.verified) hstaged, hrep⟩⟩
    · next hd =>
      obtain ⟨hqueue, himages, hended, hkeep, hstaged, hrep⟩ := hends true stOk 0 (verifyReply ty facts)
      exact ⟨hqueue, himages, hended, hkeep, .inl ⟨not_not.mp hd, hstaged, hrep⟩⟩
  case activate =>
    have hf := Block.imageActivate_of_staged hs hv
    rw [ha, Option.isSome_none, Bool.and_false, if_neg (by decide)] at hf
    exact does_serve_channel rfl ht (by decide) (hsync hr _) hf
  case locked =>
    have hf := Block.imageActivate_of_staged hs hv
    rw [if_pos (by simp [hm, Option.isSome_iff_ne_none.mpr ha])] at hf
    exact does_serve rfl ht (by decide) rfl (hsync hr _) hf rfl (only _ _ _)
  case activated =>
    refine does_onBlk (f := (·.imageProgramDone ty)) rfl ?_
    obtain ⟨hidle, hregs, hkeep⟩ := Block.fwRest_frame (n := 11) (by decide) hb true
    have hhead := Block.headWait_eq hq hw
    rw [Block.imageProgramDone, hh, if_neg (by decide), if_pos hhead]
    generalize ((s.blk.bulkShare 11).fwEnd 11 true) = y at *
    have hboot : y.boot = s.blk.boot := hkeep .boot (by decide)
    obtain ⟨hstaged, himages, hre, hke⟩ := Block.activates_frame hboot hregs ty i
    dsimp only
    rw [(Block.stagedOf_of_boot hboot ty).trans hs]
    dsimp only
    generalize (y.activate ty i).setStaged ty none = e at *
    have hk : Keeps (.cst :: .boot :: .dma :: endParts) s.blk e := (hkeep.mono (by decide)).trans (hke.mono (by decide))
    obtain ⟨hqueue, hrep⟩ := Block.finish_answers stOk 0 (be 1 (imgNum ty) ++ zeros 3)
      ((congrArg JarvasSt.queue ((hke .jv (by decide)).trans (hkeep .jv (by decide)))).trans hq) hw nofun
    exact ⟨hqueue, Block.idle_finish hre hidle, hrep, (Block.stagedOf_of_boot Block.finish_boot ty).trans hstaged,
      (Block.images_of_boot Block.finish_boot).trans himages, hk.finish (by decide)⟩
  case unverified =>
    obtain ⟨hregs, hkeep⟩ := only stDenied 1 []
    exact does_serve rfl ht (by decide) rfl (hsync hr _) (Block.imageActivate_unverified hs) rfl
      ⟨Block.images_of_boot Block.finish_boot, hregs, hkeep⟩
  case attest =>
    exact does_serve rfl ht (by decide) (decide_eq_true ⟨h16, h64⟩) rfl rfl rfl (only _ _ _)

end Sys2Proof.Machine
end

section
/-! PROOFS. The rows of the converter: its transitions at a boundary, its timeouts, the grid tracker, the headroom, the untimed
    strokes and the lost sources of contexts (R116, R121 to R128, R141). -/

namespace Sys2Proof.Machine

/-! ### What an occurrence changes of the converter and of the contexts (R341) -/

theorem Keeps.andThen {l m : List Part} {a b c : Block} (h : Keeps l a b) (h' : Keeps m b c) (hm : m ⊆ l) : Keeps l a c :=
  h.trans (h'.mono hm)

theorem Block.updPair_keeps (f : PairSt → PairSt) (b : Block) : Keeps [.pair] b (b.updPair f) := by
  intro p hp
  cases p
  case pair => exact absurd (List.mem_singleton_self _) hp
  all_goals rfl

theorem Block.updCtx_keeps (c : Nat) (f : Ctx → Ctx) (b : Block) : Keeps [.ctxs] b (b.updCtx c f) := by
  intro p hp
  cases p
  case ctxs => exact absurd (List.mem_singleton_self _) hp
  all_goals rfl

theorem Block.ctx_updCtx_ne (b : Block) (i j : Nat) (f : Ctx → Ctx) (h : j ≠ i) : (b.updCtx i f).ctx j = b.ctx j :=
  SMap.look_store_ne _ _ _ _ _ h

/-- The components that the actions of an event's class change, the converter's requests aside. -/
def actParts : List Part := [.regs, .lv, .out, .evt, .pair, .safe]

theorem Block.latch_keeps (k cls : Nat) (b : Block) : Keeps actParts b (b.latch k cls) :=
  ((b.wr_keeps _ _).mono (by decide)).andThen (Block.updEvt_keeps _ _) (by decide)

theorem Block.blockAct_keeps (source : Nat) (b : Block) : Keeps actParts b (b.blockAct source) := by
  have hstage : Keeps actParts b (b.blockStage false) :=
    (Block.frame_of_besideStage (b.blockStage_besideStage false)).2.mono (by decide)
  unfold Block.blockAct
  dsimp only
  split
  · exact hstage.andThen (Block.updPair_keeps _ _) (by decide)
  split
  · exact hstage.andThen (Block.updEvt_keeps _ _) (by decide)
  · exact hstage

theorem Block.keepHalt_keeps (source : Nat) (b : Block) : Keeps [.regs] b (b.keepHalt source) :=
  Keeps.ite (fun _ => Keeps.refl _ b) fun _ => (b.wr_keeps _ _).trans (Block.wr_keeps _ _ _)

theorem Block.remove_keeps (partly : Bool) (b : Block) : Keeps [.regs, .safe] b (b.remove partly) := by
  have hramp : Keeps [.regs, .safe] b (b.updSafe fun s => { s with ramp := none }) := (b.updSafe_keeps _).mono (by decide)
  exact Keeps.ite (fun _ => hramp) fun _ =>
    (hramp.andThen (Block.wr_keeps _ _ _) (by decide)).andThen (Block.updSafe_keeps _ _) (by decide)

theorem Block.demandHalt_keeps (partly : Bool) (b : Block) : Keeps [.regs, .safe] b (b.demandHalt partly) := by
  have hcause (c : Block) : Keeps [.regs] c (c.demandCause 7) :=
    Keeps.ite (fun _ => c.wr_keeps _ _) fun _ => Keeps.refl _ c
  exact ((((b.wr_keeps _ _).mono (by decide)).andThen (hcause _) (by decide)).trans (Block.remove_keeps _ _)).andThen
    (Block.wr_keeps _ _ _) (by decide)

theorem Block.recurs_keeps (o : Occ) (k cls : Nat) (own : Option Nat) (b : Block) :
    Keeps [.regs, .evt, .cells] b (b.recurs o k cls own) := by
  have hagain (c : Block) : Keeps [.regs, .evt, .cells] c (c.onRecurrence k) :=
    (Keeps.ite (fun _ => (c.updCell_keeps _ _).mono (by decide)) fun _ => Keeps.refl _ c).andThen
      (Block.updRecov_keeps _ _ _) (by decide)
  have hheld (p : Bool) (c : Block) : Keeps [.regs, .evt, .cells] c (if p then c.holdFenced k else c) :=
    Keeps.ite (fun _ => (c.updRecov_keeps _ _).mono (by decide)) fun _ => Keeps.refl _ c
  have hrec := (((b.record_keeps o cls true false).mono (m := [.regs, .evt, .cells]) (by decide)).trans (hagain _)).trans
    (hheld ((b.recov k).returning && decide (k < 256) && !b.autoPolicy k) _)
  exact Keeps.ite (fun _ => hrec.andThen (Block.decideFence_keeps _ _ _) (by decide)) fun _ => hrec

/-- What no occurrence changes of the converter and of the contexts: all but the requests that wait for the boundary, and the
    contexts' lost sources. -/
def Block.marks (b : Block) : ConvSt × (Nat → Bool) := (b.conv.settled, fun c => (b.ctx c).lost)

theorem Keeps.marks {l : List Part} {b x : Block} (h : Keeps l b x) (hconv : Part.conv ∉ l) (hctxs : Part.ctxs ∉ l) :
    x.marks = b.marks := by
  have hc : x.conv = b.conv := h .conv hconv
  have hx : x.ctxs = b.ctxs := h .ctxs hctxs
  simp only [Block.marks, Block.ctx, hc, hx]

theorem Block.fenceCtx_marks (i : Nat) (b : Block) : (b.fenceCtx i).marks = b.marks := by
  refine congrArg (b.conv.settled, ·) (funext fun c => ?_)
  by_cases hc : c = i
  · subst hc
    exact (congrArg Ctx.lost (b.ctx_updCtx_same c _)).trans rfl
  · exact congrArg Ctx.lost (b.ctx_updCtx_ne i c _ hc)

theorem Block.classAct_marks (source cls : Nat) (b : Block) : (b.classAct source cls).marks = b.marks := by
  have hlatch (k : Nat) : Keeps actParts b (b.latch source k) := b.latch_keeps source k
  have hblock (k : Nat) : Keeps actParts b ((b.latch source k).blockAct source) := (hlatch k).trans (Block.blockAct_keeps _ _)
  have hhalt (p : Bool) : Keeps actParts b ((((b.latch source 4).blockAct source).keepHalt source).demandHalt p) :=
    ((hblock 4).andThen (Block.keepHalt_keeps _ _) (by decide)).andThen (Block.demandHalt_keeps _ _) (by decide)
  have hmarks {x : Block} (h : Keeps actParts b x) : x.marks = b.marks := h.marks (by decide) (by decide)
  have hasks {p : Prop} [Decidable p] {x : Block} {f : ConvSt → ConvSt} (hf : ∀ c, (f c).settled = c.settled)
      (h : Keeps actParts b x) : (if p then x.updConv f else x).marks = b.marks := by
    split
    · exact (congrArg (·, fun c => (x.ctx c).lost) (hf x.conv)).trans (hmarks h)
    · exact hmarks h
  unfold Block.classAct
  dsimp only
  split
  · exact hasks (fun _ => rfl) (hlatch 2)
  · exact hasks (fun _ => rfl) (hblock 3)
  · exact hasks (fun _ => rfl) (hhalt _)
  · rfl

/-- An occurrence whose unit's fence changes none of them changes none. -/
theorem Block.raise_marks {o : Occ} (hu : ∀ cause x, (Block.fenceUnit o.unitType o.idx cause x).marks = x.marks) (b : Block) :
    (b.raise o).marks = b.marks := by
  have hrecord (cls : Nat) (p q : Bool) (x : Block) : (x.record o cls p q).marks = x.marks :=
    (x.record_keeps o cls p q).marks (by decide) (by decide)
  have hunit (cls : Nat) : (b.raiseUnit o cls none).marks = b.marks := by
    unfold Block.raiseUnit
    split
    · exact hrecord _ _ _ _
    · next k _ =>
      have hhalt : (b.markHalt k cls).marks = b.marks :=
        (Keeps.ite (fun _ => b.updRecov_keeps k _) fun _ => Keeps.refl _ b).marks (by decide) (by decide)
      rw [← hhalt]
      dsimp only
      split
      · exact hrecord _ _ _ _
      split
      · exact (Block.recurs_keeps _ _ _ _ _).marks (by decide) (by decide)
      split
      · rw [hu, hrecord]
        exact (Block.onFence_keeps _ _ _).marks (by decide) (by decide)
      · exact hrecord _ _ _ _
  unfold Block.raise Block.raiseOwn
  split
  · exact (Block.classAct_marks _ _ _).trans (hunit _)
  · rfl

/-- A condition of the converter that is noted and raised: it is logged, and what is noted stands. -/
theorem Block.updConv_raise {o : Occ} {b : Block} (ho : o.unitType = 0) (hl : Loggable b o) (f : ConvSt → ConvSt) :
    Logs o b ((b.updConv f).raise o) ∧ ((b.updConv f).raise o).conv.settled = (f b.conv).settled
      ∧ Keeps raiseParts b ((b.updConv f).raise o) := by
  have hmarks := Block.raise_marks (o := o) (by rw [ho]; exact fun _ _ => rfl) (b.updConv f)
  exact ⟨Block.raise_logs o (b.updConv f) hl, congrArg Prod.fst hmarks,
    ((b.updConv_keeps f).mono (by decide)).trans (Block.keeps_of_still (Block.raise_still o _))⟩

/-- A context's source that is lost (R116): its loss is noted and logged, and its fence, if any, leaves the note. -/
theorem Block.updCtx_raise {c : Nat} {o : Occ} {b : Block} (ho : o.unitType = 5) (hl : Loggable b o) :
    let x := (b.updCtx c fun x => { x with lost := true }).raise o
    Logs o b x ∧ (x.ctx c).lost = true ∧ Keeps raiseParts b x := by
  have hmarks := Block.raise_marks (o := o) (by rw [ho]; exact fun _ => Block.fenceCtx_marks o.idx)
    (b.updCtx c fun x => { x with lost := true })
  have hlost := (congrFun (congrArg Prod.snd hmarks) c).trans (congrArg Ctx.lost (b.ctx_updCtx_same c _))
  exact ⟨Block.raise_logs o (b.updCtx c _) hl, hlost,
    ((b.updCtx_keeps c _).mono (by decide)).trans (Block.keeps_of_still (Block.raise_still o _))⟩

/-- A timeout of the converter (R126): the time comes, and its event is raised once. -/
theorem Block.until_timeout {o : Occ} {b : Block} {t : Nat} (ho : o.unitType = 0) (hl : Loggable (b.until t) o) :
    let x := ((b.until t).updConv fun c => { c with timeoutRaised := true }).raise o
    Logs o (b.until t) x ∧ x.conv.timeoutRaised = true ∧ Keeps (.tb :: raiseParts) b x := by
  obtain ⟨hlog, hconv, hkeep⟩ := Block.updConv_raise ho hl fun c => { c with timeoutRaised := true }
  exact ⟨hlog, congrArg ConvSt.timeoutRaised hconv, ((b.until_frame t).2.mono (by decide)).andThen hkeep (by decide)⟩

/-! ### Transitions at a boundary (R121, R122) -/

theorem Block.testStage_keeps (b : Block) : Keeps [.regs, .lv, .out] b b.testStage :=
  Block.eachOf_keeps (List.range 12) _ (fun _ hg x => Keeps.ite (fun _ => (x.startDiag_busy (List.mem_range.mp hg)).2.2)
    fun _ => Keeps.refl _ x) b

/-- A state below FAULTED entered from another than OFF: STATE, CAUSE and the time of the entry, and nothing else but the
    stage's test on entry to SYNC (R121, R124, R263). -/
theorem Block.convEnter_frame {new cause : Nat} {b : Block} (hnew : new < 5) (hold : b.rd Reg.SYS_CONV_STAT_STATE ≠ 0)
    (hne : new ≠ b.rd Reg.SYS_CONV_STAT_STATE) (hcause : cause < 2 ^ 8) :
    (b.convEnter new cause).rd Reg.SYS_CONV_STAT_STATE = new ∧ (b.convEnter new cause).rd Reg.SYS_CONV_STAT_CAUSE = cause
      ∧ (b.convEnter new cause).conv.entered = b.strk.b ∧ Keeps [.regs, .lv, .conv, .out] b (b.convEnter new cause) := by
  have hlt : ¬ 5 ≤ new := by omega
  unfold Block.convEnter
  simp only [if_neg hlt, if_neg hold, if_neg hne]
  generalize hx : (if new = 2 ∧ b.rd Reg.SYS_CONV_STAT_STATE ≠ 2 then b.testStage else b) = x
  have htest : Keeps [.regs, .lv, .out] b x := hx ▸ Keeps.ite (fun _ => b.testStage_keeps) fun _ => Keeps.refl _ b
  refine ⟨?_, ?_, congrArg StrokeSt.b (htest .strk (by decide)), ?_⟩
  · rw [Block.updConv_rd, Block.rd_flag_ne _ _ _ _ (by decide), Block.rd_wr_ne _ _ _ _ (by decide), Block.rd_wr_same]
    exact Nat.mod_eq_of_lt (by simp only [Reg.SYS_CONV_STAT_STATE]; omega)
  · rw [Block.updConv_rd, Block.rd_flag_ne _ _ _ _ (by decide), Block.rd_wr_same]
    exact Nat.mod_eq_of_lt hcause
  · have hwrites (p : Bool) := ((x.wr_keeps Reg.SYS_CONV_STAT_STATE new).trans
      (Block.wr_keeps Reg.SYS_CONV_STAT_CAUSE cause _)).trans (Block.wr_keeps Reg.SYS_CONV_STAT_SAFE_STOP (if p then 1 else 0) _)
    exact ((htest.mono (by decide)).andThen (hwrites _) (by decide)).andThen (Block.updConv_keeps _ _) (by decide)

/-- A timed boundary of the holder at which nothing of higher precedence waits (R122). -/
structure Block.Undisturbed (b : Block) : Prop where
  boundary : b.atBoundary = true
  settled : b.conv.settled = b.conv
  holds : b.holds = true
  timed : b.strk.untimed = false

theorem Block.Undisturbed.unwanted {b : Block} (h : b.Undisturbed) : b.conv.wantHalt = false ∧ b.conv.wantBlock = false
    ∧ b.conv.wantBlockSafe = false ∧ b.conv.wantStop = false ∧ b.conv.wantSafeStop = false ∧ b.conv.wantClear = false
    ∧ b.conv.wantStart = false ∧ b.conv.wantOrdStop = false := by
  rw [← h.settled]
  exact ⟨rfl, rfl, rfl, rfl, rfl, rfl, rfl, rfl⟩

/-- At such a boundary the condition of the state alone moves the converter, in STOPPING where no safe stop is in progress. -/
theorem Block.Undisturbed.convNext_of_one {b : Block} (h : b.Undisturbed) (h1 : b.rd Reg.SYS_CONV_STAT_STATE = 1) :
    b.convNext = if 64 ≤ b.conv.prechg then some (2, 2) else none := by
  simp [Block.convNext, h.unwanted, h.timed, h1]

theorem Block.Undisturbed.convNext_of_two {b : Block} (h : b.Undisturbed) (h2 : b.rd Reg.SYS_CONV_STAT_STATE = 2) :
    b.convNext = if 1024 ≤ b.conv.sync then some (3, 3) else none := by
  simp [Block.convNext, h.unwanted, h.timed, h2]

theorem Block.Undisturbed.convNext_of_four {b : Block} (h : b.Undisturbed) (h4 : b.rd Reg.SYS_CONV_STAT_STATE = 4)
    (hs : b.conv.safe = false) : b.convNext = if 2 ≤ b.conv.kZero then some (0, 5) else none := by
  simp [Block.convNext, h.unwanted, h.timed, h4, hs]

theorem Block.convDecide_enters {new cause : Nat} {b : Block} (hh : b.holds = true) (hn : b.convNext = some (new, cause)) :
    b.convDecide = b.convEnter new cause := by
  simp [Block.convDecide, hh, hn]

theorem Block.convDecide_stays {b : Block} (hn : b.convNext = none) : b.convDecide = b := by
  simp [Block.convDecide, hn]

theorem Block.Undisturbed.convCondition {frm : Nat} {b : Block} (h : b.Undisturbed)
    (hst : b.rd Reg.SYS_CONV_STAT_STATE = frm) : b.convCondition frm = b.convDecide := by
  simp [Block.convCondition, h.boundary, h.settled, hst]

/-- A condition whose state is not the converter's, or away from a boundary, changes nothing. -/
theorem Block.convCondition_still {frm : Nat} {b : Block}
    (h : b.atBoundary = false ∨ b.rd Reg.SYS_CONV_STAT_STATE ≠ frm) : b.convCondition frm = b := by
  obtain h | h := h <;> simp [Block.convCondition, h]

/-! ### The rows, by their branches (R116, R125, R126, R128, R141) -/

section
variable {b : Block}

theorem Block.prechargeTimeout_raises (h1 : b.rd Reg.SYS_CONV_STAT_STATE = 1) (hr : b.conv.timeoutRaised = false) :
    b.prechargeTimeout = ((b.until (b.conv.entered + b.rd Reg.SYS_CONV_TIMEOUT_PRECHG_MS * 1000000)).updConv
      fun c => { c with timeoutRaised := true }).raise { source := 130 } := by
  simp [Block.prechargeTimeout, h1, hr]

theorem Block.prechargeTimeout_still (h : b.rd Reg.SYS_CONV_STAT_STATE ≠ 1 ∨ b.conv.timeoutRaised = true) :
    b.prechargeTimeout = b := by
  obtain h | h := h <;> simp [Block.prechargeTimeout, h]

theorem Block.syncTimeout_raises (h2 : b.rd Reg.SYS_CONV_STAT_STATE = 2) (hr : b.conv.timeoutRaised = false) :
    b.syncTimeout = ((b.until (b.conv.entered + b.rd Reg.SYS_CONV_TIMEOUT_SYNC_MS * 1000000)).updConv
      fun c => { c with timeoutRaised := true }).raise { source := 131 } := by
  simp [Block.syncTimeout, h2, hr]

theorem Block.syncTimeout_still (h : b.rd Reg.SYS_CONV_STAT_STATE ≠ 2 ∨ b.conv.timeoutRaised = true) : b.syncTimeout = b := by
  obtain h | h := h <;> simp [Block.syncTimeout, h]

theorem Block.gridLost_raises (hn : 64 ≤ b.conv.trkBad) (hk : b.conv.locked = true)
    (hst : b.rd Reg.SYS_CONV_STAT_STATE ∈ [3, 4]) :
    b.gridLost = (b.updConv fun c => { c with locked := false }).raise { source := 132 } := by
  have hst' : b.rd Reg.SYS_CONV_STAT_STATE = 3 ∨ b.rd Reg.SYS_CONV_STAT_STATE = 4 := by simpa using hst
  simp [Block.gridLost, hn, hk, hst']

theorem Block.gridLost_unlocks (hn : 64 ≤ b.conv.trkBad) (hk : b.conv.locked = true)
    (hst : b.rd Reg.SYS_CONV_STAT_STATE ∉ [3, 4]) : b.gridLost = b.updConv fun c => { c with locked := false } := by
  have hst' : ¬ (b.rd Reg.SYS_CONV_STAT_STATE = 3 ∨ b.rd Reg.SYS_CONV_STAT_STATE = 4) := by simpa using hst
  simp [Block.gridLost, hn, hk, hst']

theorem Block.gridLost_still (h : b.conv.trkBad < 64 ∨ b.conv.locked = false) : b.gridLost = b := by
  obtain h | h := h <;> simp [Block.gridLost, h]

theorem Block.headroomChange_still (hs : b.conv.hrShort < 64) (ho : b.conv.hrOk < 64) : b.headroomChange = b := by
  rw [Block.headroomChange, if_neg (Nat.not_le.mpr hs), if_neg (Nat.not_le.mpr ho)]

theorem Block.timingLost_raises {n : Nat} (hr : b.running = true) (hn : b.rd Reg.SYS_CONV_STOP_UNTIMED_LIM < n)
    (ht : b.conv.timingLost = false) :
    b.timingLost n = (b.updConv fun c => { c with timingLost := true }).raise { source := 133 } := by
  simp [Block.timingLost, hr, hn, ht]

theorem Block.timingLost_still {n : Nat}
    (h : b.conv.timingLost = true ∨ b.running = false ∨ n ≤ b.rd Reg.SYS_CONV_STOP_UNTIMED_LIM) : b.timingLost n = b := by
  obtain h | h | h := h
  · simp [Block.timingLost, h]
  · simp [Block.timingLost, h]
  · simp [Block.timingLost, Nat.not_lt.mpr h]

theorem Block.ctxSourceLost_raises {c : Nat} (hn : b.rd Reg.ARM_STALE_LIM_LIMIT ≤ (b.ctx c).stale)
    (hl : (b.ctx c).lost = false) :
    b.ctxSourceLost c = (b.updCtx c fun x => { x with lost := true }).raise { source := 129, unitType := 5, idx := c } := by
  simp [Block.ctxSourceLost, hn, hl]

theorem Block.ctxSourceLost_still {c : Nat} (h : (b.ctx c).lost = true ∨ (b.ctx c).stale < b.rd Reg.ARM_STALE_LIM_LIMIT) :
    b.ctxSourceLost c = b := by
  obtain h | h := h <;> simp [Block.ctxSourceLost, h]

end

/-! ### The statement -/

/-- A command that leaves the block as it is changes nothing. -/
theorem does_nothing {c : Instr} {s : State} {f : Block → Block} (hx : exec c s = s.onBlk f) (hf : f s.blk = s.blk) :
    Does c s fun t => RegsBut [] s.blk t ∧ Keeps [] s.blk t :=
  does_onBlk hx (by rw [hf]; exact ⟨RegsBut.refl _ _, Keeps.refl _ _⟩)

/-- HEADROOM changes alone (R141). -/
theorem Block.headroom_flag (p : Bool) (b : Block) : (b.flag Reg.SYS_CONV_STAT_HEADROOM p).on Reg.SYS_CONV_STAT_HEADROOM = p
    ∧ RegsBut [Reg.SYS_CONV_STAT_HEADROOM] b (b.flag Reg.SYS_CONV_STAT_HEADROOM p)
    ∧ Keeps [.regs] b (b.flag Reg.SYS_CONV_STAT_HEADROOM p) :=
  ⟨Block.on_flag_same _ p b Nat.one_pos, b.flag_regsBut _ p, b.wr_keeps _ _⟩

/-- Settles O58: every row by the branch its condition takes; a transition enters its state, an event is noted and raised. -/
theorem converterRows : Obligations.ConverterRows := by
  unfold Obligations.ConverterRows
  intro s c st v there entered pre syn lost
  have quiet (hth : there) : s.blk.Undisturbed := by
    obtain ⟨hb, hset, hh, hu⟩ := hth
    exact ⟨hb, hset, hh, hu⟩
  have enters {i : Instr} {frm new cause : Nat} (hx : exec i s = s.onBlk (·.convCondition frm)) (hth : there) (hst : st = frm)
      (hn : s.blk.convNext = some (new, cause)) (hc : (new < 5 ∧ new ≠ frm) ∧ frm ≠ 0 ∧ cause < 2 ^ 8) :
      Does i s (entered new cause) := by
    obtain ⟨⟨hnew, hne⟩, h0, hcause⟩ := hc
    refine does_onBlk hx ?_
    rw [(quiet hth).convCondition hst, Block.convDecide_enters (quiet hth).holds hn]
    exact Block.convEnter_frame hnew (hst.trans_ne h0) (fun h => hne (h.trans hst)) hcause
  have stays {i : Instr} {frm : Nat} (hx : exec i s = s.onBlk (·.convCondition frm)) (hth : there) (hst : st = frm)
      (hn : s.blk.convNext = none) : Does i s fun t => RegsBut [] s.blk t ∧ Keeps [] s.blk t :=
    does_nothing hx (((quiet hth).convCondition hst).trans (Block.convDecide_stays hn))
  have still {i : Instr} {frm : Nat} (hx : exec i s = s.onBlk (·.convCondition frm))
      (h : s.blk.atBoundary = false ∨ st ≠ frm) : Does i s fun t => RegsBut [] s.blk t ∧ Keeps [] s.blk t :=
    does_nothing hx (Block.convCondition_still h)
  have short {n k : Nat} (h : k < n) : ¬ n ≤ k := Nat.not_le.mpr h
  refine ⟨fun hth h1 hn => ?precharged, fun hth h2 hn => ?synchronised, fun hth h4 hs hn => ?stopped, fun hb i hi => ?between,
    fun hth => ⟨fun h => still rfl (.inr h), fun h => still rfl (.inr h), fun h => still rfl (.inr h),
      fun h1 hn => ?precharging, fun h2 hn => ?synchronising, fun h4 hs hn => ?stopping, fun hs ho => ?headroomStays⟩,
    fun h => does_nothing rfl (Block.prechargeTimeout_still h), fun h => does_nothing rfl (Block.syncTimeout_still h),
    fun h1 hr hl => ?prechargeTimeout, fun h2 hr hl => ?syncTimeout, fun hn => ?lock, fun hn => does_nothing rfl (if_pos hn),
    fun hn hk hst hl => ?gridLost, fun hn hk hst => ?unlock, fun h => does_nothing rfl (Block.gridLost_still h),
    fun hb hn => ?headroom, fun hb hn ho => ?noHeadroom, fun hr hn ht hl => ?timingLost,
    fun h => does_nothing rfl (Block.timingLost_still h), fun hn ho hl => ?sourceLost,
    fun h => does_nothing rfl (Block.ctxSourceLost_still h)⟩
  case precharged => exact enters rfl hth h1 (((quiet hth).convNext_of_one h1).trans (if_pos hn)) (by decide)
  case synchronised => exact enters rfl hth h2 (((quiet hth).convNext_of_two h2).trans (if_pos hn)) (by decide)
  case stopped => exact enters rfl hth h4 (((quiet hth).convNext_of_four h4 hs).trans (if_pos hn)) (by decide)
  case between =>
    simp only [List.mem_cons, List.not_mem_nil, or_false] at hi
    obtain rfl | rfl | rfl | rfl := hi
    · exact still rfl (.inl hb)
    · exact still rfl (.inl hb)
    · exact still rfl (.inl hb)
    · exact does_nothing (f := (·.headroomRow)) rfl (if_neg (by simp [hb]))
  case precharging => exact stays rfl hth h1 (((quiet hth).convNext_of_one h1).trans (if_neg (short hn)))
  case synchronising => exact stays rfl hth h2 (((quiet hth).convNext_of_two h2).trans (if_neg (short hn)))
  case stopping => exact stays rfl hth h4 (((quiet hth).convNext_of_four h4 hs).trans (if_neg (short hn)))
  case headroomStays => exact does_nothing rfl ((if_pos (quiet hth).boundary).trans (Block.headroomChange_still hs ho))
  case prechargeTimeout =>
    refine does_onBlk (f := (·.prechargeTimeout)) rfl ?_
    rw [Block.prechargeTimeout_raises h1 hr]
    exact Block.until_timeout rfl hl
  case syncTimeout =>
    refine does_onBlk (f := (·.syncTimeout)) rfl ?_
    rw [Block.syncTimeout_raises h2 hr]
    exact Block.until_timeout rfl hl
  case lock =>
    refine does_onBlk (f := (·.gridLock)) rfl ?_
    rw [Block.gridLock, if_neg (Nat.not_lt.mpr hn)]
    exact ⟨rfl, RegsBut.of_regs rfl, Block.updConv_keeps _ _⟩
  case gridLost =>
    refine does_onBlk (f := (·.gridLost)) rfl ?_
    rw [Block.gridLost_raises hn hk hst]
    obtain ⟨hlog, hconv, hkeep⟩ := Block.updConv_raise rfl hl fun c => { c with locked := false }
    exact ⟨hlog, congrArg ConvSt.locked hconv, hkeep⟩
  case unlock =>
    refine does_onBlk (f := (·.gridLost)) rfl ?_
    rw [Block.gridLost_unlocks hn hk hst]
    exact ⟨rfl, RegsBut.of_regs rfl, Block.updConv_keeps _ _⟩
  case headroom =>
    refine does_onBlk (f := (·.headroomRow)) rfl ?_
    rw [Block.headroomRow, if_pos hb, Block.headroomChange, if_pos hn]
    exact s.blk.headroom_flag true
  case noHeadroom =>
    refine does_onBlk (f := (·.headroomRow)) rfl ?_
    rw [Block.headroomRow, if_pos hb, Block.headroomChange, if_neg (short hn), if_pos ho]
    exact s.blk.headroom_flag false
  case timingLost =>
    refine does_onBlk (f := fun b => b.timingLost (b.rd Reg.SYS_CONV_STAT_UNTIMED)) rfl ?_
    rw [Block.timingLost_raises hr hn ht]
    obtain ⟨hlog, hconv, hkeep⟩ := Block.updConv_raise rfl hl fun c => { c with timingLost := true }
    exact ⟨hlog, congrArg ConvSt.timingLost hconv, hkeep⟩
  case sourceLost =>
    refine does_onBlk (f := (·.ctxSourceLost c)) rfl ?_
    rw [Block.ctxSourceLost_raises hn ho]
    exact Block.updCtx_raise rfl hl

end Sys2Proof.Machine
end

section
/-! PROOFS. The pair link: frames received, their loss, and the end of the wait at start-up (R126, R144 to R151). -/

namespace Sys2Proof.Machine

/-! ### Frames received (R145, R147) -/

/-- A pair frame that is whole, of version 1, and checks (R147). -/
abbrev FrameGood (bs : List Byte) : Prop :=
  bs.length = 11076 ∧ field bs 0 1 = 1 ∧ crc32 (bs.take 11072) = field bs 11072 4

theorem Block.dropMark_keeps (k : Nat) (on : Bool) (b : Block) : Keeps [.evt] b (b.dropMark k on) := b.updEvt_keeps _

theorem Block.checked_of_calm {k i : Nat} {b : Block} (h : b.injects k i = false) : b.checked k i = b := by
  simp [Block.checked, h]

theorem Block.checked_frame (k i : Nat) (b : Block) :
    RegsBut [Reg.EVT_INJk_REMAIN k] b (b.checked k i) ∧ Keeps [.regs] b (b.checked k i) := by
  unfold Block.checked
  split
  · exact ⟨b.wr_regsBut _ _, b.wr_keeps _ _⟩
  · exact ⟨RegsBut.refl _ b, Keeps.refl _ b⟩

theorem Block.pairFrameRx_down {bs : List Byte} {b : Block} (hu : b.pairUp = false) : b.pairFrameRx bs = b := by
  simp [Block.pairFrameRx, hu]

/-- A frame that does not check costs an injected check at most. -/
theorem Block.pairFrameRx_bad {bs : List Byte} {b : Block} (hu : b.pairUp = true) (hg : ¬ FrameGood bs) :
    b.pairFrameRx bs = if b.injects 3 2 then (b.dropMark 4 true).checked 3 2 else b := by
  have hbad : (bs.length == 11076 && field bs 0 1 == 1 && crc32 (bs.take 11072) == field bs 11072 4) = false := by
    simpa [FrameGood] using hg
  cases hi : b.injects 3 2 <;> simp [Block.pairFrameRx, hu, hbad, hi, Block.checked_of_calm]

/-- A good frame waits for the boundary; during the wait at start-up it begins the stroke as well. -/
theorem Block.pairFrameRx_good {bs : List Byte} {b : Block} (hu : b.pairUp = true) (hi : b.injects 3 2 = false)
    (hg : FrameGood bs) : b.pairFrameRx bs =
      let c := b.dropMark 4 false
      let d := (c.pairBegin (field bs 8 8) (field bs 16 8) (field bs 16 8 + b.rd Reg.SYS_STROKE_NS_PERIOD)).learnGen
        (field bs 4 4)
      (if b.pair.waiting then if (field bs 1 1).testBit 0 then d else d.firstToken else c).updPair
        fun p => { p with frame := some bs } := by
  obtain ⟨hlen, hver, hcrc⟩ := hg
  have hc : (b.dropMark 4 false).checked 3 2 = b.dropMark 4 false := Block.checked_of_calm hi
  have hgood : (bs.length == 11076 && field bs 0 1 == 1 && crc32 (bs.take 11072) == field bs 11072 4) = true := by
    simp [hlen, hver, hcrc]
  simp only [Block.pairFrameRx, hu, hi, hgood, hc, Bool.not_true, Bool.not_false, Bool.and_true, Bool.false_eq_true, if_false,
    if_true]
  exact (apply_ite (fun x : Block => x.updPair fun p => { p with frame := some bs }) (b.pair.waiting = true) _ _).symm

theorem Block.updStrk_keeps (f : StrokeSt → StrokeSt) (b : Block) : Keeps [.strk] b (b.updStrk f) := by
  intro p hp
  cases p
  case strk => exact absurd (List.mem_singleton_self _) hp
  all_goals rfl

/-- The first tick changes the stroke's grid, the time of the start and the wait. -/
theorem Block.pairBegin_keeps (num at_ next : Nat) (b : Block) :
    Keeps [.strk, .boot, .pair] b (b.pairBegin num at_ next) :=
  (((b.updStrk_keeps _).mono (by decide)).andThen (Block.updBoot_keeps _ _) (by decide)).andThen (Block.updPair_keeps _ _)
    (by decide)

/-! ### A run of lost frames (R126) -/

theorem Block.pairLost_raises {b : Block} (he : b.on Reg.SYS_PAIR_CFG_EN = true) (hr : b.pair.lostRaised = false)
    (hm : b.rd Reg.SYS_PAIR_CFG_LOSS ≤ b.pair.missRun) : b.pairLost
      = (b.updPair fun p => { p with lostRaised := true }).raise { source := 135, injected := b.dropped 4 } := by
  simp [Block.pairLost, he, hr, hm]

theorem Block.pairLost_still {b : Block} (hr : b.pair.lostRaised = true) : b.pairLost = b := by
  simp [Block.pairLost, hr]

/-- The pair link's record but the request to release the token, the one thing of it that an occurrence changes (R150). -/
def Block.besideRelease (b : Block) : PairSt := { b.pair with release := false }

theorem Keeps.besideRelease {l : List Part} {b x : Block} (h : Keeps l b x) (hl : Part.pair ∉ l) :
    x.besideRelease = b.besideRelease :=
  congrArg (fun p : PairSt => { p with release := false }) (h .pair hl)

theorem Block.blockAct_besideRelease (source : Nat) (b : Block) : (b.blockAct source).besideRelease = b.besideRelease := by
  have hstage : (b.blockStage false).besideRelease = b.besideRelease :=
    (Block.frame_of_besideStage (b.blockStage_besideStage false)).2.besideRelease (by decide)
  unfold Block.blockAct
  generalize b.blockStage false = x at *
  dsimp only
  split
  · exact hstage
  split
  · exact hstage
  · exact hstage

theorem Block.classAct_besideRelease (source cls : Nat) (b : Block) :
    (b.classAct source cls).besideRelease = b.besideRelease := by
  have hasks {p : Prop} [Decidable p] {x : Block} {f : ConvSt → ConvSt} (h : x.besideRelease = b.besideRelease) :
      (if p then x.updConv f else x).besideRelease = b.besideRelease := by
    split <;> exact h
  have hblock (k : Nat) : ((b.latch source k).blockAct source).besideRelease = b.besideRelease :=
    Block.blockAct_besideRelease source _
  have hhalt (p : Bool) : ((((b.latch source 4).blockAct source).keepHalt source).demandHalt p).besideRelease
      = b.besideRelease :=
    (((Block.keepHalt_keeps source _).mono (by decide)).trans (Block.demandHalt_keeps p _)).besideRelease (by decide)
      |>.trans (hblock 4)
  unfold Block.classAct
  dsimp only
  split
  · exact hasks rfl
  · exact hasks (hblock 3)
  · exact hasks (hhalt _)
  · rfl

/-- An occurrence that names no unit leaves the pair link's record but for the request to release the token. -/
theorem Block.raise_besideRelease {o : Occ} (hk : unitKey o.unitType o.idx = none) (b : Block) :
    (b.raise o).besideRelease = b.besideRelease := by
  unfold Block.raise Block.raiseOwn
  split
  · rw [Block.classAct_besideRelease, Block.raiseUnit, hk]
    exact (b.record_keeps o _ _ _).besideRelease (by decide)
  · rfl

/-- A condition of the pair link that is noted and raised: it is logged, and what is noted stands. -/
theorem Block.updPair_raise {o : Occ} {b : Block} (hk : unitKey o.unitType o.idx = none) (hl : Loggable b o)
    (f : PairSt → PairSt) : Logs o b ((b.updPair f).raise o)
      ∧ ((b.updPair f).raise o).besideRelease = (b.updPair f).besideRelease ∧ Keeps raiseParts b ((b.updPair f).raise o) :=
  ⟨Block.raise_logs o (b.updPair f) hl, Block.raise_besideRelease hk _,
    ((b.updPair_keeps f).mono (by decide)).trans (Block.keeps_of_still (Block.raise_still o _))⟩

/-! ### Fallback, where nothing asks for it (R287, R288) -/

/-- The fields that the judgement of fallback writes. -/
def fallbackFields : List Field :=
  Reg.PORT_FB_STAT_PIN :: Reg.PORT_FB_STAT_ACTIVE :: (List.range 8).map Reg.PORT_STAT_FALLBACK

theorem fallbackFields_mem : ∀ p < 8, Reg.PORT_STAT_FALLBACK p ∈ fallbackFields := by decide

/-- Nothing asks for fallback, and no port is in it. -/
structure Block.FallbackIdle (b : Block) : Prop where
  host : b.on Reg.PORT_FB_STAT_HOST = false
  pin : (b.on Reg.PORT_FB_CFG_PIN_EN && b.lv.fbPin) = false
  ports : ∀ p : Fin 8, (b.port p).fallback = none

theorem Block.on_congr {b x : Block} {f : Field} (h : x.rd f = b.rd f) : x.on f = b.on f := by
  rw [Block.on, Block.on, h]

theorem Block.FallbackIdle.of_frame {fs : List Field} {l : List Part} {b x : Block} (h : b.FallbackIdle)
    (hr : RegsBut fs b x) (hk : Keeps l b x)
    (hf : Reg.PORT_FB_STAT_HOST.key ∉ fs.map Field.key ∧ Reg.PORT_FB_CFG_PIN_EN.key ∉ fs.map Field.key) (hl : Part.lv ∉ l) :
    x.FallbackIdle := by
  have hlv : x.lv = b.lv := hk .lv hl
  have hhost : x.on Reg.PORT_FB_STAT_HOST = b.on Reg.PORT_FB_STAT_HOST := Block.on_congr (hr _ hf.1)
  have hen : x.on Reg.PORT_FB_CFG_PIN_EN = b.on Reg.PORT_FB_CFG_PIN_EN := Block.on_congr (hr _ hf.2)
  exact ⟨hhost.trans h.host, by rw [hen, hlv, h.pin], fun p => by rw [Block.port, hlv]; exact h.ports p⟩

/-- Fallback that nothing asks for is judged inactive, and only the fields that show it are written. -/
theorem Block.FallbackIdle.judgeFallback {b : Block} (h : b.FallbackIdle) (hp : b.on Reg.PORT_FB_STAT_PIN = false) :
    RegsBut fallbackFields b b.judgeFallback ∧ Keeps [.regs] b b.judgeFallback := by
  have hoff : b.fbActive = false := by simp [Block.fbActive, h.host, hp]
  unfold Block.judgeFallback
  rw [hoff]
  refine List.foldlRecOn (motive := fun x => RegsBut fallbackFields b x ∧ Keeps [.regs] b x) _ _
    ⟨Block.wr_within (by decide) _ b, b.wr_keeps _ _⟩ fun x ⟨hr, hk⟩ p hmem => ?_
  have hlt := List.mem_range.mp hmem
  have hport : ((x.flag (Reg.PORT_STAT_FALLBACK p) false).port p).fallback = none := by
    rw [Block.port, Block.flag_lv, show x.lv = b.lv from hk .lv (by decide)]
    exact h.ports ⟨p, hlt⟩
  dsimp only
  rw [hport]
  exact ⟨hr.trans (Block.wr_within (fallbackFields_mem p hlt) _ x), hk.trans (x.wr_keeps _ _)⟩

theorem Block.FallbackIdle.fallbackAgain {b : Block} (h : b.FallbackIdle) :
    RegsBut fallbackFields b b.fallbackAgain ∧ Keeps [.regs] b b.fallbackAgain := by
  have hidle := h.of_frame (b.flag_regsBut Reg.PORT_FB_STAT_PIN false) (b.wr_keeps _ _) (by decide) (by decide)
  obtain ⟨hr, hk⟩ := hidle.judgeFallback (Block.on_flag_same _ _ b Nat.one_pos)
  rw [Block.fallbackAgain, h.pin]
  exact ⟨(Block.wr_within (by decide) _ b).trans hr, (b.wr_keeps _ _).trans hk⟩

/-! ### The first token (R145, R151) -/

/-- A field that the token's coming changes shows what it showed before. -/
theorem Block.shown_of_holdShown {b x : Block} {f : Field} (hf : f ∈ tokenFields)
    (hx : x.pair.before = b.holdShown.pair.before) : x.shown f = b.shown f := by
  rw [Block.shown, hx]
  simp only [tokenFields, List.mem_cons, List.not_mem_nil, or_false] at hf
  obtain rfl | rfl | rfl | rfl | rfl | rfl := hf <;> rfl

theorem Block.shown_congr {b x : Block} {f : Field} (hp : x.pair.before = b.pair.before) (hr : x.rd f = b.rd f) :
    x.shown f = b.shown f := by
  rw [Block.shown, Block.shown, hp, hr]

/-- The block with the first token, before fallback is judged anew. -/
def Block.tokenWritten (b : Block) : Block :=
  (((b.holdShown).flag Reg.SYS_PAIR_STAT_TOKEN true).wr Reg.SYS_PAIR_GEN_GEN 1).updPair fun p =>
    { p with gen := 1, heard := 1 }

theorem Block.firstToken_eq (b : Block) : b.firstToken = b.tokenWritten.fallbackAgain := rfl

theorem Block.tokenWritten_token (b : Block) : b.tokenWritten.on Reg.SYS_PAIR_STAT_TOKEN = true :=
  (Block.on_congr (Block.rd_wr_ne Reg.SYS_PAIR_GEN_GEN Reg.SYS_PAIR_STAT_TOKEN 1 _ (by decide))).trans
    (Block.on_flag_same Reg.SYS_PAIR_STAT_TOKEN true b.holdShown Nat.one_pos)

theorem Block.tokenWritten_gen (b : Block) : b.tokenWritten.rd Reg.SYS_PAIR_GEN_GEN = 1 :=
  Block.rd_wr_same Reg.SYS_PAIR_GEN_GEN 1 _

theorem Block.tokenWritten_regsBut (b : Block) :
    RegsBut [Reg.SYS_PAIR_STAT_TOKEN, Reg.SYS_PAIR_GEN_GEN] b b.tokenWritten :=
  (Block.flag_regsBut Reg.SYS_PAIR_STAT_TOKEN true b.holdShown).trans_append (Block.wr_regsBut Reg.SYS_PAIR_GEN_GEN 1 _)

theorem Block.tokenWritten_keeps (b : Block) : Keeps [.regs, .pair] b b.tokenWritten :=
  ((((b.updPair_keeps _).mono (by decide)).andThen (Block.wr_keeps _ _ _) (by decide)).andThen (Block.wr_keeps _ _ _)
    (by decide)).andThen (Block.updPair_keeps _ _) (by decide)

/-- The first token, where nothing asks for fallback: generation 1, and no part beside the registers and the pair changes. -/
theorem Block.FallbackIdle.firstToken {b : Block} (h : b.FallbackIdle) :
    b.firstToken.on Reg.SYS_PAIR_STAT_TOKEN = true ∧ b.firstToken.rd Reg.SYS_PAIR_GEN_GEN = 1
      ∧ b.firstToken.pair = { b.holdShown.pair with gen := 1, heard := 1 } ∧ Keeps [.regs, .pair] b b.firstToken := by
  obtain ⟨hr, hk⟩ := (h.of_frame b.tokenWritten_regsBut b.tokenWritten_keeps (by decide) (by decide)).fallbackAgain
  rw [Block.firstToken_eq]
  exact ⟨(Block.on_congr (hr _ (by decide))).trans b.tokenWritten_token, (hr _ (by decide)).trans b.tokenWritten_gen,
    hk .pair (by decide), b.tokenWritten_keeps.andThen hk (by decide)⟩

/-! ### The end of the wait (R145) -/

/-- Time that passes until an uptime changes the time base, and counts an adjustment of it down (R314). -/
theorem Block.untilUp_frame (t : Nat) (b : Block) :
    RegsBut adjFields b (b.untilUp t) ∧ Keeps [.regs, .tb] b (b.untilUp t) := b.advance_frame _

theorem Block.pairWaitTimeout_waiting {b : Block} (hw : b.pair.waiting = true) : b.pairWaitTimeout
    = ((b.untilUp (b.pair.waitFrom + b.pairWait)).pairBegin 0 0
        (b.untilUp (b.pair.waitFrom + b.pairWait)).firstBoundary).firstToken := by
  simp [Block.pairWaitTimeout, hw]

/-! ### The statement -/

/-- Settles O43: a frame by what it is and when it comes, a run of losses by whether it was raised, and the wait's end by
    the first tick and the first token. -/
theorem pairLink : Obligations.PairLink := by
  unfold Obligations.PairLink
  intro s bs good
  refine ⟨fun hu hi hg hw => ?waits, fun hu hg => ?bad, fun hu => does_nothing rfl (Block.pairFrameRx_down hu),
    fun hu hi hg hw ht => ?starts, fun he hr hm hl => ?lost, fun hr => does_nothing rfl (Block.pairLost_still hr),
    fun hw hh hpin hports => ?alone⟩
  case waits =>
    refine does_onBlk (f := (·.pairFrameRx bs)) rfl ?_
    rw [Block.pairFrameRx_good hu hi hg, hw]
    exact ⟨rfl, RegsBut.of_regs rfl,
      ((s.blk.dropMark_keeps 4 false).mono (by decide)).andThen (Block.updPair_keeps _ _) (by decide)⟩
  case bad =>
    refine does_onBlk (f := (·.pairFrameRx bs)) rfl ?_
    rw [Block.pairFrameRx_bad hu hg]
    split
    · obtain ⟨hr, hk⟩ := (s.blk.dropMark 4 true).checked_frame 3 2
      exact ⟨hr, ((s.blk.dropMark_keeps 4 true).mono (by decide)).andThen hk (by decide)⟩
    · exact ⟨RegsBut.refl _ _, Keeps.refl _ _⟩
  case starts =>
    refine does_onBlk (f := (·.pairFrameRx bs)) rfl ?_
    rw [Block.pairFrameRx_good hu hi hg, hw, ht]
    refine ⟨rfl, rfl, rfl, rfl, rfl, rfl, rfl, RegsBut.of_regs rfl, ?_⟩
    exact ((((s.blk.dropMark_keeps 4 false).mono (by decide)).andThen (Block.pairBegin_keeps _ _ _ _) (by decide)).andThen
      (Block.updPair_keeps _ _) (by decide)).andThen (Block.updPair_keeps _ _) (by decide)
  case lost =>
    refine does_onBlk (f := (·.pairLost)) rfl ?_
    rw [Block.pairLost_raises he hr hm]
    obtain ⟨hlog, hpair, hkeep⟩ := Block.updPair_raise (o := { source := 135, injected := s.blk.dropped 4 }) rfl hl
      fun p => { p with lostRaised := true }
    exact ⟨hlog, congrArg PairSt.lostRaised hpair, hkeep⟩
  case alone =>
    refine does_onBlk (f := (·.pairWaitTimeout)) rfl ?_
    rw [Block.pairWaitTimeout_waiting hw]
    have hup := s.blk.le_untilUp (s.blk.pair.waitFrom + s.blk.pairWait)
    obtain ⟨hr, hk⟩ := s.blk.untilUp_frame (s.blk.pair.waitFrom + s.blk.pairWait)
    generalize s.blk.untilUp (s.blk.pair.waitFrom + s.blk.pairWait) = u at *
    have hidle : s.blk.FallbackIdle := ⟨hh, hpin, hports⟩
    have hbegin := u.pairBegin_keeps 0 0 u.firstBoundary
    have hupair : u.pair = s.blk.pair := hk .pair (by decide)
    have hbefore : (u.pairBegin 0 0 u.firstBoundary).pair.before = s.blk.pair.before :=
      show u.pair.before = s.blk.pair.before by rw [hupair]
    obtain ⟨htoken, hgen, hpair, hk'⟩ := ((hidle.of_frame hr hk (by decide) (by decide)).of_frame
      (x := u.pairBegin 0 0 u.firstBoundary) (RegsBut.of_regs rfl) hbegin (by decide) (by decide)).firstToken
    have hstrk := hk' .strk (by decide)
    have htb := hk' .tb (by decide)
    have hshown {f : Field} (hf : f ∈ tokenFields) (ha : f.key ∉ adjFields.map Field.key) :
        (u.pairBegin 0 0 u.firstBoundary).firstToken.shown f = s.blk.shown f :=
      (Block.shown_of_holdShown hf (by rw [hpair])).trans (Block.shown_congr hbefore (hr f ha))
    exact ⟨congrArg StrokeSt.ticking hstrk, congrArg StrokeSt.num hstrk, congrArg PairSt.waiting hpair, htoken, hgen,
      congrArg PairSt.gen hpair, hshown (by decide) (by decide), hshown (by decide) (by decide),
      hup.trans_eq (congrArg TimeBase.up htb).symm,
      ((hk.mono (by decide)).andThen hbegin (by decide)).andThen hk' (by decide)⟩

end Sys2Proof.Machine
end

section
/-! PROOFS. The lanes (R179 to R205): where their registers lie, what the change of a lane's state writes, and what the
    occurrence of an event on a lane leaves of the lanes. -/

namespace Sys2Proof.Machine

/-! ### The registers of a lane (R206) -/

/-- Where the fields of lane `l` lie that its bring-up, its frames and its tests write. -/
@[simp] theorem lane_keys (l : Nat) : (Reg.LINK_STAT_STATE l).key = 0x2000 * l + 0x800000
    ∧ (Reg.LINK_STAT_LOS l).key = 0x2000 * l + 0x800003 ∧ (Reg.LINK_STAT_BIT_LOCK l).key = 0x2000 * l + 0x800004
    ∧ (Reg.LINK_STAT_BLOCK_LOCK l).key = 0x2000 * l + 0x800005 ∧ (Reg.LINK_STAT_FAR_LOCK l).key = 0x2000 * l + 0x800006
    ∧ (Reg.LINK_STAT_PORT l).key = 0x2000 * l + 0x800007 ∧ (Reg.LINK_STAT_REJECT l).key = 0x2000 * l + 0x800008
    ∧ (Reg.LINK_STAT_MISS_RUN l).key = 0x2000 * l + 0x800010 ∧ (Reg.LINK_DELAY_DELAY l).key = 0x2000 * l + 0x800280
    ∧ (Reg.LINK_DELAY_SPREAD l).key = 0x2000 * l + 0x80028C ∧ (Reg.LINK_DELAY_TURN l).key = 0x2000 * l + 0x800290
    ∧ (Reg.LINK_CRC_CNT_COUNT l).key = 0x2000 * l + 0x800400 ∧ (Reg.LINK_HDR_CNT_COUNT l).key = 0x2000 * l + 0x800440
    ∧ (Reg.LINK_RETRAIN_CNT_COUNT l).key = 0x2000 * l + 0x800460
    ∧ (Reg.LINK_TEST_STAT_RUNNING l).key = 0x2000 * l + 0x800520 ∧ (Reg.LINK_TEST_STAT_SYNC l).key = 0x2000 * l + 0x800521
    ∧ (Reg.LINK_TEST_STAT_SYNC_LOST l).key = 0x2000 * l + 0x800522 ∧ (Reg.LINK_TEST_STAT_DONE l).key = 0x2000 * l + 0x800523
    ∧ (Reg.LINK_TEST_STAT_PASS l).key = 0x2000 * l + 0x800524 ∧ (Reg.LINK_PRBS_ERR_COUNT l).key = 0x2000 * l + 0x800540
    ∧ (Reg.LINK_PRBS_FAR_COUNT l).key = 0x2000 * l + 0x800560 ∧ (Reg.LINK_PRBS_BITS_LO_BITS l).key = 0x2000 * l + 0x800580
    ∧ (Reg.LINK_PRBS_BITS_HI_BITS l).key = 0x2000 * l + 0x8005A0 := by
  simp only [Field.key, Reg.LINK_STAT_STATE, Reg.LINK_STAT_LOS, Reg.LINK_STAT_BIT_LOCK, Reg.LINK_STAT_BLOCK_LOCK,
    Reg.LINK_STAT_FAR_LOCK, Reg.LINK_STAT_PORT, Reg.LINK_STAT_REJECT, Reg.LINK_STAT_MISS_RUN, Reg.LINK_DELAY_DELAY,
    Reg.LINK_DELAY_SPREAD, Reg.LINK_DELAY_TURN, Reg.LINK_CRC_CNT_COUNT, Reg.LINK_HDR_CNT_COUNT, Reg.LINK_RETRAIN_CNT_COUNT,
    Reg.LINK_TEST_STAT_RUNNING, Reg.LINK_TEST_STAT_SYNC, Reg.LINK_TEST_STAT_SYNC_LOST, Reg.LINK_TEST_STAT_DONE,
    Reg.LINK_TEST_STAT_PASS, Reg.LINK_PRBS_ERR_COUNT, Reg.LINK_PRBS_FAR_COUNT, Reg.LINK_PRBS_BITS_LO_BITS,
    Reg.LINK_PRBS_BITS_HI_BITS]
  omega

/-- How wide the fields are whose value after a change is asked for. -/
@[simp] theorem lane_widths (l : Nat) : (Reg.LINK_STAT_STATE l).width = 3 ∧ (Reg.LINK_STAT_LOS l).width = 1
    ∧ (Reg.LINK_STAT_BIT_LOCK l).width = 1 ∧ (Reg.LINK_STAT_BLOCK_LOCK l).width = 1 ∧ (Reg.LINK_STAT_FAR_LOCK l).width = 1
    ∧ (Reg.LINK_STAT_REJECT l).width = 4 ∧ (Reg.LINK_DELAY_DELAY l).width = 12 ∧ (Reg.LINK_DELAY_SPREAD l).width = 4
    ∧ (Reg.LINK_CRC_CNT_COUNT l).width = 32 ∧ (Reg.LINK_HDR_CNT_COUNT l).width = 32
    ∧ (Reg.LINK_RETRAIN_CNT_COUNT l).width = 32 ∧ (Reg.LINK_TEST_STAT_RUNNING l).width = 1
    ∧ (Reg.LINK_TEST_STAT_SYNC l).width = 1 ∧ (Reg.LINK_TEST_STAT_SYNC_LOST l).width = 1
    ∧ (Reg.LINK_TEST_STAT_DONE l).width = 1 ∧ (Reg.LINK_PRBS_ERR_COUNT l).width = 32
    ∧ (Reg.LINK_PRBS_BITS_LO_BITS l).width = 32 ∧ (Reg.LINK_PRBS_BITS_HI_BITS l).width = 32 := by
  exact ⟨rfl, rfl, rfl, rfl, rfl, rfl, rfl, rfl, rfl, rfl, rfl, rfl, rfl, rfl, rfl, rfl, rfl, rfl⟩

/-- A field of the lanes' own registers. -/
abbrev Field.ofLanes (f : Field) : Prop := 0x100000 * 8 ≤ f.key ∧ f.key < 0x130000 * 8

/-- Fields elsewhere are no fields of the lanes. -/
theorem Field.ofLanes.not_mem {f : Field} (hf : f.ofLanes) {gs : List Field} (h : ∀ g ∈ gs, ¬ g.ofLanes) :
    f.key ∉ gs.map Field.key := by
  intro hm
  obtain ⟨g, hg, hk⟩ := List.mem_map.mp hm
  exact h g hg (by rwa [Field.ofLanes, hk])

theorem laneFields_ofLanes {l : Nat} (hl : l < 192) : ∀ f ∈ laneFields l, f.ofLanes := by
  simp only [laneFields, List.forall_mem_cons, Field.ofLanes, lane_keys, List.not_mem_nil, false_imp_iff, implies_true,
    and_true]
  omega

theorem Block.on_flag_ne (f g : Field) (p : Bool) (b : Block) (h : g.key ≠ f.key) : (b.flag f p).on g = b.on g :=
  Block.on_congr (Block.rd_flag_ne f g p b h)

/-! ### What only the lanes' own changes -/

/-- `c` is `b` but for the registers and the records of the lanes. -/
def OnLanes (b c : Block) : Prop := (∀ g : Field, ¬ g.ofLanes → c.rd g = b.rd g) ∧ Keeps [.regs, .lanes] b c

theorem OnLanes.refl (b : Block) : OnLanes b b := ⟨fun _ _ => rfl, Keeps.refl _ b⟩

theorem OnLanes.of_frame {fs : List Field} {l : List Part} {b c : Block} (hr : RegsBut fs b c) (hk : Keeps l b c)
    (hf : ∀ f ∈ fs, f.ofLanes) (hl : l ⊆ [.regs, .lanes]) : OnLanes b c := by
  refine ⟨fun g hg => hr g fun hm => hg ?_, hk.mono hl⟩
  obtain ⟨f, hfs, hfg⟩ := List.mem_map.mp hm
  rw [Field.ofLanes, ← hfg]
  exact hf f hfs

theorem OnLanes.trans {a b c : Block} (h : OnLanes a b) (h' : OnLanes b c) : OnLanes a c :=
  ⟨fun g hg => (h'.1 g hg).trans (h.1 g hg), h.2.trans h'.2⟩

theorem OnLanes.classOf {b c : Block} (h : OnLanes b c) (o : Occ) : c.classOf o = b.classOf o := by
  have hs : c.rd (Reg.EVT_SRCk_CLASS o.source) = b.rd (Reg.EVT_SRCk_CLASS o.source) := h.1 _ (by
    simp only [Field.ofLanes, Field.key, Reg.EVT_SRCk_CLASS]; omega)
  have hc : c.rd (Reg.CELL_FAULT_CLASS0_CLASS (o.code - 1)) = b.rd (Reg.CELL_FAULT_CLASS0_CLASS (o.code - 1)) := h.1 _ (by
    simp only [Field.ofLanes, Field.key, Reg.CELL_FAULT_CLASS0_CLASS]; omega)
  simp only [Block.classOf, hs, hc, h.1 Reg.CELL_FAULT_CLASS1_CLASS9 (by decide),
    h.1 Reg.CELL_FAULT_CLASS1_CLASS10 (by decide)]

theorem OnLanes.loggable {b c : Block} (h : OnLanes b c) {o : Occ} (hl : Loggable b o) : Loggable c o := by
  obtain ⟨hr, hk⟩ := h
  have hboot : c.boot = b.boot := hk .boot (by decide)
  have htb : c.tb = b.tb := hk .tb (by decide)
  have hevt : c.evt = b.evt := hk .evt (by decide)
  have hd : c.detects o = b.detects o := by
    simp only [Block.detects, Block.cores, Block.released, Block.bit, hboot, hr Reg.RST_STAGE_RELEASED (by decide)]
  have hh : c.heldOff o (c.classOf o) = b.heldOff o (b.classOf o) := by
    rw [OnLanes.classOf ⟨hr, hk⟩]
    simp only [Block.heldOff, htb, hevt, hr Reg.EVT_GCFG_HOLDOFF_MS (by decide)]
  exact ⟨hd.trans hl.1, hh.trans hl.2⟩

theorem OnLanes.populated {b c : Block} (h : OnLanes b c) (l : Nat) : c.populated l = b.populated l := by
  simp only [Block.populated, h.1 Reg.SYS_CONV_POP_NPOP (by decide)]

/-! ### Entry into a state (R182, R183) -/

/-- The record of a lane that enters state `st` at uptime `up` (R183, R200). -/
def Lane.enter (st up : Nat) (x : Lane) : Lane :=
  { x with
    entered := up, burstAt := none, burstPrev := none, burstOpen := false, answered := 0, quietMissed := false
    echoing := false, loops := [], ready := false, fast := false, strokes := 0, rpt := none, fresh := false, cap := none
    pattern := false, dark := false, syncAt := none, hostTest := x.hostTest && st == 5
    attempts := if st = 0 ∨ st = 4 ∨ st = 6 then 0 else x.attempts }

/-- The locks that a lane in state `st` does not show fall (R185). -/
def Block.locksFall (l st : Nat) (b : Block) : Block :=
  let b := if st = 0 ∨ st = 1 ∨ st = 5 ∨ st = 7 then
      (b.flag (Reg.LINK_STAT_BLOCK_LOCK l) false).flag (Reg.LINK_STAT_FAR_LOCK l) false
    else b
  if st = 0 then b.flag (Reg.LINK_STAT_BIT_LOCK l) false else b

/-- The registers of lane `l` as it enters state `st`. -/
def Block.laneRegs (l st : Nat) (b : Block) : Block := ((b.laneLeave l).wr (Reg.LINK_STAT_STATE l) st).locksFall l st

theorem Block.laneTo_eq (l st : Nat) (b : Block) :
    b.laneTo l st = (b.laneRegs l st).updLane l (Lane.enter st (b.laneRegs l st).tb.up) := rfl

theorem Block.locksFall_keeps (l st : Nat) (b : Block) : Keeps [.regs] b (b.locksFall l st) := by
  have blocks : Keeps [.regs] b (if st = 0 ∨ st = 1 ∨ st = 5 ∨ st = 7 then
      (b.flag (Reg.LINK_STAT_BLOCK_LOCK l) false).flag (Reg.LINK_STAT_FAR_LOCK l) false else b) :=
    Keeps.ite (fun _ => (b.wr_keeps _ _).trans (Block.wr_keeps _ _ _)) fun _ => Keeps.refl _ b
  exact Keeps.ite (fun _ => blocks.trans (Block.wr_keeps _ _ _)) fun _ => blocks

theorem Block.laneLeave_keeps (l : Nat) (b : Block) : Keeps [.regs] b (b.laneLeave l) :=
  ((Keeps.ite (fun _ => (b.wr_keeps _ _).trans (Block.wr_keeps _ _ _)) fun _ => Keeps.refl _ b).trans
    (Block.wr_keeps _ _ _)).trans (Block.wr_keeps _ _ _)

theorem Block.laneRegs_keeps (l st : Nat) (b : Block) : Keeps [.regs] b (b.laneRegs l st) :=
  ((b.laneLeave_keeps l).trans (Block.wr_keeps _ _ _)).trans (Block.locksFall_keeps l st _)

theorem Block.laneTo_keeps (l st : Nat) (b : Block) : Keeps [.regs, .lanes] b (b.laneTo l st) :=
  ((b.laneRegs_keeps l st).mono (by decide)).andThen (Block.updLane_keeps _ _ _) (by decide)

theorem Block.laneTo_lane (l st : Nat) (b : Block) : (b.laneTo l st).lane l = (b.lane l).enter st b.tb.up := by
  have htb : (b.laneRegs l st).tb = b.tb := b.laneRegs_keeps l st .tb (by decide)
  have hlanes : (b.laneRegs l st).lanes = b.lanes := b.laneRegs_keeps l st .lanes (by decide)
  rw [Block.laneTo_eq, Block.lane_updLane_same, htb, Block.lane, hlanes]
  rfl

theorem Block.locksFall_rd {l st : Nat} {g : Field} (hbit : g.key ≠ (Reg.LINK_STAT_BIT_LOCK l).key)
    (hblock : g.key ≠ (Reg.LINK_STAT_BLOCK_LOCK l).key) (hfar : g.key ≠ (Reg.LINK_STAT_FAR_LOCK l).key) (b : Block) :
    (b.locksFall l st).rd g = b.rd g := by
  unfold Block.locksFall
  split <;> split <;> simp only [Block.rd_flag_ne, hbit, hblock, hfar, ne_eq, not_false_eq_true]

theorem Block.laneLeave_rd {l : Nat} {g : Field} (hreject : g.key ≠ (Reg.LINK_STAT_REJECT l).key)
    (hmiss : g.key ≠ (Reg.LINK_STAT_MISS_RUN l).key) (hretrain : g.key ≠ (Reg.LINK_RETRAIN_CNT_COUNT l).key)
    (hrunning : g.key ≠ (Reg.LINK_TEST_STAT_RUNNING l).key) (b : Block) : (b.laneLeave l).rd g = b.rd g := by
  unfold Block.laneLeave
  split <;> simp only [Block.rd_flag_ne, Block.rd_wr_ne, Block.rd_count_ne, hreject, hmiss, hretrain, hrunning, ne_eq,
    not_false_eq_true]

theorem Block.laneTo_regsBut (l st : Nat) (b : Block) : RegsBut (laneFields l) b (b.laneTo l st) := by
  intro g hg
  simp only [laneFields, List.map_cons, List.map_nil, List.mem_cons, List.not_mem_nil, or_false, not_or] at hg
  obtain ⟨hstate, hreject, hmiss, hbit, hblock, hfar, hretrain, hrunning⟩ := hg
  rw [Block.laneTo_eq, Block.updLane_rd, Block.laneRegs, Block.locksFall_rd hbit hblock hfar, Block.rd_wr_ne _ _ _ _ hstate,
    Block.laneLeave_rd hreject hmiss hretrain hrunning]

theorem Block.laneTo_onLanes {l : Nat} (hl : l < 192) (st : Nat) (b : Block) : OnLanes b (b.laneTo l st) :=
  .of_frame (b.laneTo_regsBut l st) (b.laneTo_keeps l st) (laneFields_ofLanes hl) (by decide)

theorem Block.laneTo_tb (l st : Nat) (b : Block) : (b.laneTo l st).tb = b.tb := b.laneTo_keeps l st .tb (by decide)

theorem Block.laneTo_state {l st : Nat} (hst : st < 8) (b : Block) : (b.laneTo l st).rd (Reg.LINK_STAT_STATE l) = st := by
  rw [Block.laneTo_eq, Block.updLane_rd, Block.laneRegs, Block.locksFall_rd (by simp) (by simp) (by simp), Block.rd_wr_same]
  exact Nat.mod_eq_of_lt hst

/-- In DISABLED, DETECT, TEST and QUIET no blocks are received: neither lock on them shows (R185). -/
theorem Block.laneTo_noBlocks {l st : Nat} (hst : st = 0 ∨ st = 1 ∨ st = 5 ∨ st = 7) (b : Block) :
    (b.laneTo l st).on (Reg.LINK_STAT_BLOCK_LOCK l) = false ∧ (b.laneTo l st).on (Reg.LINK_STAT_FAR_LOCK l) = false := by
  simp only [Block.on, Block.laneTo_eq, Block.updLane_rd, Block.laneRegs, Block.locksFall, if_pos hst]
  split <;> simp [Block.rd_flag_ne, Block.rd_flag_same]

theorem Block.laneTo_bitLock {l st : Nat} (hst : st ≠ 0) (b : Block) :
    (b.laneTo l st).on (Reg.LINK_STAT_BIT_LOCK l) = b.on (Reg.LINK_STAT_BIT_LOCK l) := by
  simp only [Block.on, Block.laneTo_eq, Block.updLane_rd, Block.laneRegs, Block.locksFall, if_neg hst]
  split <;> simp [Block.rd_flag_ne, Block.rd_wr_ne, Block.laneLeave_rd]

/-- In TRAIN block lock stays as it was. -/
theorem Block.laneTo_train_blockLock (l : Nat) (b : Block) :
    (b.laneTo l 2).on (Reg.LINK_STAT_BLOCK_LOCK l) = b.on (Reg.LINK_STAT_BLOCK_LOCK l) := by
  simp [Block.on, Block.laneTo_eq, Block.laneRegs, Block.locksFall, Block.rd_wr_ne, Block.laneLeave_rd]

/-- An exit from ACTIVE is counted (R200). -/
theorem Block.laneTo_retrains {l : Nat} {b : Block} (h4 : b.rd (Reg.LINK_STAT_STATE l) = 4) (st : Nat) :
    (b.laneTo l st).rd (Reg.LINK_RETRAIN_CNT_COUNT l) = satNat 32 (b.rd (Reg.LINK_RETRAIN_CNT_COUNT l) + 1) := by
  rw [Block.laneTo_eq, Block.updLane_rd, Block.laneRegs, Block.locksFall_rd (by simp) (by simp) (by simp),
    Block.rd_wr_ne _ _ _ _ (by simp), Block.laneLeave, if_pos h4]
  simp [Block.rd_flag_ne, Block.rd_wr_ne, Block.rd_count_sat]

/-! ### The occurrence of an event on a lane (R201, R341) -/

theorem Block.rd_of_keeps {l : List Part} {b c : Block} (h : Keeps l b c) (hl : Part.regs ∉ l) (f : Field) :
    c.rd f = b.rd f := congrArg (Bank.fld · f) (h .regs hl)

/-- An occurrence on a lane writes no register of the lanes: its fence is a cell's. -/
theorem Block.raiseOwn_rd_lane {o : Occ} (ho : o.unitType = 2) {f : Field} (hf : f.ofLanes) (own : Option Nat) (b : Block) :
    (b.raiseOwn o own).rd f = b.rd f := by
  have early : beforeStage f := show f.key < 0x400000 * 8 by omega
  have hlock (k : Nat) : f.key ≠ (Reg.CELL_SLOT_STAT_LOCKOUT k).key := by
    have := hf.2
    simp only [Field.key, Reg.CELL_SLOT_STAT_LOCKOUT] at this ⊢
    omega
  have record (cls : Nat) (p q : Bool) (c : Block) : (c.record o cls p q).rd f = c.rd f :=
    Block.rd_of_cellView (c.record_cellView o cls p q) early
  have fence (n cause : Nat) (c : Block) : (c.decideFence n cause).rd f = c.rd f :=
    Block.rd_of_keeps (c.decideFence_keeps n cause) (by decide) f
  have ite (p : Prop) [Decidable p] (x y : Block) : (if p then x else y).rd f = if p then x.rd f else y.rd f :=
    apply_ite (·.rd f) p x y
  have onRecurrence (k : Nat) (c : Block) : (c.onRecurrence k).rd f = c.rd f := by
    simp only [Block.onRecurrence, Block.updRecov_rd, ite, Block.updCell_rd, ite_self]
  have recurs (k cls : Nat) (c : Block) : (c.recurs o k cls own).rd f = c.rd f := by
    simp only [Block.recurs, Block.holdFenced, ite, fence, Block.updRecov_rd, onRecurrence, record, ite_self]
  have onFence (k : Nat) (allows : Bool) (c : Block) : (c.onFence k allows).rd f = c.rd f := by
    simp only [Block.onFence, ite, Block.rd_flag_ne _ _ _ _ (hlock k), Block.updRecov_rd, ite_self]
  have mark (k cls : Nat) (c : Block) : (c.markHalt k cls).rd f = c.rd f := by
    simp only [Block.markHalt, ite, Block.updRecov_rd, ite_self]
  have hunit : unitKey o.unitType o.idx = some o.idx := by rw [ho]; rfl
  have hfence (cause : Nat) (c : Block) : c.fenceUnit o.unitType o.idx cause = c.decideFence o.idx cause := by rw [ho]; rfl
  simp only [Block.raiseOwn, ite, Block.rd_of_cellView (Block.classAct_cellView _ _ _) early, Block.raiseUnit, hunit, hfence,
    fence, record, recurs, onFence, mark, ite_self]

@[simp] theorem Block.raiseOwn_lane (o : Occ) (own : Option Nat) (b : Block) (l : Nat) : (b.raiseOwn o own).lane l = b.lane l :=
  congrArg (SMap.look default · l) (Block.keeps_of_still (Block.raiseOwn_still o own b) .lanes (by decide))

@[simp] theorem Block.raiseOwn_tb (o : Occ) (own : Option Nat) (b : Block) : (b.raiseOwn o own).tb = b.tb :=
  Block.keeps_of_still (Block.raiseOwn_still o own b) .tb (by decide)

/-- An occurrence that was loggable before the lane changed is logged after it. -/
theorem OnLanes.raiseOwn {b c : Block} (h : OnLanes b c) {o : Occ} (hl : Loggable b o) (own : Option Nat) :
    Logs o b (c.raiseOwn o own) ∧ Keeps (.lanes :: raiseParts) b (c.raiseOwn o own) := by
  obtain ⟨r, hheld, hsource, hcls, hrest⟩ := Block.raiseOwn_logs o own c (h.loggable hl)
  have hevt : c.evt = b.evt := h.2 .evt (by decide)
  exact ⟨⟨r, hevt ▸ hheld, hsource, hcls.trans (h.classOf o), hrest⟩,
    (h.2.mono (by decide)).andThen (Block.keeps_of_still (Block.raiseOwn_still o own c)) (by decide)⟩

/-! ### A lane is rejected, or leaves ACTIVE (R183, R187, R201) -/

/-- `t` is `b` with lane `l` in REJECTED from now on, for the cause, and the rejection logged. -/
def LaneRejected (l cause : Nat) (b t : Block) : Prop :=
  t.rd (Reg.LINK_STAT_STATE l) = 6 ∧ t.rd (Reg.LINK_STAT_REJECT l) = cause ∧ (t.lane l).entered = t.tb.up
    ∧ Logs { source := 98, unitType := 2, idx := l } b t ∧ Keeps (.lanes :: raiseParts) b t

theorem OnLanes.laneReject {l cause : Nat} {b c : Block} (h : OnLanes b c) (hl : l < 192) (hc : cause < 16)
    (hlog : Loggable b { source := 98, unitType := 2, idx := l }) : LaneRejected l cause b (c.laneReject l cause) := by
  have hwr : OnLanes (c.laneTo l 6) ((c.laneTo l 6).wr (Reg.LINK_STAT_REJECT l) cause) :=
    .of_frame (Block.wr_within (List.mem_cons_of_mem _ List.mem_cons_self) _ _) (Block.wr_keeps _ _ _)
      (laneFields_ofLanes hl) (by decide)
  have hrd {f : Field} (hf : f ∈ laneFields l) (x : Block) (i : Bool) :
      (x.raise { source := 98, unitType := 2, idx := l, injected := i }).rd f = x.rd f :=
    Block.raiseOwn_rd_lane rfl (laneFields_ofLanes hl f hf) none x
  obtain ⟨hlogs, hkeeps⟩ := ((h.trans (c.laneTo_onLanes hl 6)).trans hwr).raiseOwn
    (o := { source := 98, unitType := 2, idx := l, injected := cause == 4 && (c.lane l).inj }) hlog none
  unfold Block.laneReject
  refine ⟨?_, ?_, ?_, hlogs, hkeeps⟩
  · rw [hrd List.mem_cons_self, Block.rd_wr_ne _ _ _ _ (by simp), Block.laneTo_state (by decide)]
  · rw [hrd (List.mem_cons_of_mem _ List.mem_cons_self), Block.rd_wr_same]
    exact Nat.mod_eq_of_lt hc
  · rw [Block.raise, Block.raiseOwn_lane, Block.raiseOwn_tb, Block.wr_tb, Block.laneTo_tb]
    exact congrArg Lane.entered (c.laneTo_lane l 6)

/-- A populated lane that leaves ACTIVE while its reports are not lost is put in its next state, and LANE_DOWN is raised. -/
theorem Block.laneDown_populated {l : Nat} {b : Block} (hl : l < 192) (hp : b.populated l = true) (st : Nat) :
    b.laneDown l st false = (b.laneTo l st).raiseOwn
      { source := 96, unitType := 2, idx := l, injected := (b.lane l).inj } (b.laneFence l) := by
  have hp' := ((b.laneTo_onLanes hl st).populated l).trans hp
  simp [Block.laneDown, hp']

end Sys2Proof.Machine
end

section
/-! PROOFS. The signals of a lane (R183, R185): its light, its locks and its markers. -/

namespace Sys2Proof.Machine

/-! ### Light and block lock are lost (R183, R185) -/

/-- The light of lane `l` is lost, and with it every lock. -/
def Block.lightGone (l : Nat) (b : Block) : Block :=
  (((b.flag (Reg.LINK_STAT_LOS l) true).flag (Reg.LINK_STAT_BIT_LOCK l) false).flag (Reg.LINK_STAT_BLOCK_LOCK l) false).flag
    (Reg.LINK_STAT_FAR_LOCK l) false

/-- The fields that light writes. -/
def lightFields (l : Nat) : List Field :=
  [Reg.LINK_STAT_LOS l, Reg.LINK_STAT_BIT_LOCK l, Reg.LINK_STAT_BLOCK_LOCK l, Reg.LINK_STAT_FAR_LOCK l]

theorem Block.lightGone_keeps (l : Nat) (b : Block) : Keeps [.regs] b (b.lightGone l) :=
  (((b.wr_keeps _ _).trans (Block.wr_keeps _ _ _)).trans (Block.wr_keeps _ _ _)).trans (Block.wr_keeps _ _ _)

theorem Block.lightGone_regsBut (l : Nat) (b : Block) : RegsBut (lightFields l) b (b.lightGone l) :=
  (((b.flag_regsBut _ _).trans_append (Block.flag_regsBut _ _ _)).trans_append (Block.flag_regsBut _ _ _)).trans_append
    (Block.flag_regsBut _ _ _)

theorem Block.lightGone_shows (l : Nat) (b : Block) : (b.lightGone l).on (Reg.LINK_STAT_LOS l) = true
    ∧ (b.lightGone l).on (Reg.LINK_STAT_BIT_LOCK l) = false ∧ (b.lightGone l).on (Reg.LINK_STAT_BLOCK_LOCK l) = false
    ∧ (b.lightGone l).on (Reg.LINK_STAT_FAR_LOCK l) = false := by
  simp [Block.lightGone, Block.on, Block.rd_flag_ne, Block.rd_flag_same]

theorem Block.lightGone_state (l : Nat) (b : Block) :
    (b.lightGone l).rd (Reg.LINK_STAT_STATE l) = b.rd (Reg.LINK_STAT_STATE l) :=
  b.lightGone_regsBut l _ (by simp [lightFields])

/-- Block lock on lane `l` is lost: its invalid headers are counted (R185). -/
def Block.blocksGone (l : Nat) (b : Block) : Block :=
  ((b.count (Reg.LINK_HDR_CNT_COUNT l) 16).flag (Reg.LINK_STAT_BLOCK_LOCK l) false).flag (Reg.LINK_STAT_FAR_LOCK l) false

/-- The fields that the loss of block lock writes. -/
def blockLossFields (l : Nat) : List Field :=
  [Reg.LINK_HDR_CNT_COUNT l, Reg.LINK_STAT_BLOCK_LOCK l, Reg.LINK_STAT_FAR_LOCK l]

theorem Block.blocksGone_keeps (l : Nat) (b : Block) : Keeps [.regs] b (b.blocksGone l) :=
  ((b.wr_keeps _ _).trans (Block.wr_keeps _ _ _)).trans (Block.wr_keeps _ _ _)

theorem Block.blocksGone_regsBut (l : Nat) (b : Block) : RegsBut (blockLossFields l) b (b.blocksGone l) :=
  ((b.wr_regsBut _ _).trans_append (Block.flag_regsBut _ _ _)).trans_append (Block.flag_regsBut _ _ _)

theorem Block.blocksGone_shows (l : Nat) (b : Block) : (b.blocksGone l).on (Reg.LINK_STAT_BLOCK_LOCK l) = false
    ∧ (b.blocksGone l).on (Reg.LINK_STAT_FAR_LOCK l) = false
    ∧ (b.blocksGone l).rd (Reg.LINK_HDR_CNT_COUNT l) = satNat 32 (b.rd (Reg.LINK_HDR_CNT_COUNT l) + 16) := by
  simp [Block.blocksGone, Block.on, Block.rd_flag_ne, Block.rd_flag_same, Block.rd_count_sat]

theorem Block.blocksGone_los (l : Nat) (b : Block) :
    (b.blocksGone l).on (Reg.LINK_STAT_LOS l) = b.on (Reg.LINK_STAT_LOS l) :=
  Block.on_congr (b.blocksGone_regsBut l _ (by simp [blockLossFields]))

theorem signalFields_ofLanes {l : Nat} (hl : l < 192) : ∀ f ∈ lightFields l ++ blockLossFields l, f.ofLanes := by
  simp only [lightFields, blockLossFields, List.cons_append, List.nil_append, List.forall_mem_cons, Field.ofLanes, lane_keys,
    List.not_mem_nil, false_imp_iff, implies_true, and_true]
  omega

/-! ### The rows, by the lane's state -/

section
variable {l : Nat} {b : Block}

theorem Block.lightLoss_train (h : b.rd (Reg.LINK_STAT_STATE l) = 2) : b.lightLoss l = (b.lightGone l).laneTo l 1 := by
  have hs := (b.lightGone_state l).trans h
  unfold Block.lightGone at *
  simp only [Block.lightLoss, hs]

theorem Block.lightLoss_active (h : b.rd (Reg.LINK_STAT_STATE l) = 4) :
    b.lightLoss l = (b.lightGone l).laneDown l 1 false := by
  have hs := (b.lightGone_state l).trans h
  unfold Block.lightGone at *
  simp only [Block.lightLoss, hs]

theorem Block.lightLoss_other (h2 : b.rd (Reg.LINK_STAT_STATE l) ≠ 2) (h4 : b.rd (Reg.LINK_STAT_STATE l) ≠ 4) :
    b.lightLoss l = b.lightGone l := by
  have hs := b.lightGone_state l
  unfold Block.lightGone at *
  unfold Block.lightLoss
  dsimp only
  split
  · exact absurd (hs.symm.trans ‹_›) h2
  · exact absurd (hs.symm.trans ‹_›) h4
  · rfl

theorem Block.blockLockLoss_active (h : b.rd (Reg.LINK_STAT_STATE l) = 4) :
    b.blockLockLoss l = (b.blocksGone l).laneDown l (if b.on (Reg.LINK_STAT_LOS l) then 1 else 2) false := by
  have hlos := b.blocksGone_los l
  unfold Block.blocksGone at *
  simp [Block.blockLockLoss, blocksIn, h, hlos]

theorem Block.blockLockLoss_other (h : b.rd (Reg.LINK_STAT_STATE l) ∈ [2, 3, 6]) : b.blockLockLoss l = b.blocksGone l := by
  simp only [List.mem_cons, List.not_mem_nil, or_false] at h
  obtain h | h | h := h <;> simp [Block.blockLockLoss, blocksIn, h, Block.blocksGone]

/-- A populated lane leaves ACTIVE, its block lock fallen, and LANE_DOWN is logged (R183, R200). -/
theorem OnLanes.laneDown {c : Block} (h : OnLanes b c) (hl : l < 192) (hp : b.populated l = true)
    (hlog : Loggable b { source := 96, unitType := 2, idx := l }) (h4 : c.rd (Reg.LINK_STAT_STATE l) = 4)
    (hlock : c.on (Reg.LINK_STAT_BLOCK_LOCK l) = false) {st : Nat} (hst : st = 1 ∨ st = 2) :
    let t := c.laneDown l st false
    t.rd (Reg.LINK_STAT_STATE l) = st ∧ Logs { source := 96, unitType := 2, idx := l } b t
      ∧ (t.lane l).entered = c.tb.up ∧ (t.lane l).rpt = none ∧ t.on (Reg.LINK_STAT_BLOCK_LOCK l) = false
      ∧ t.rd (Reg.LINK_RETRAIN_CNT_COUNT l) = satNat 32 (c.rd (Reg.LINK_RETRAIN_CNT_COUNT l) + 1)
      ∧ Keeps (.lanes :: raiseParts) b t := by
  have hrd {f : Field} (hf : f ∈ laneFields l) (x : Block) (i : Bool) (own : Option Nat) :
      (x.raiseOwn { source := 96, unitType := 2, idx := l, injected := i } own).rd f = x.rd f :=
    Block.raiseOwn_rd_lane rfl (laneFields_ofLanes hl f hf) own x
  obtain ⟨hlogs, hkeeps⟩ := (h.trans (c.laneTo_onLanes hl st)).raiseOwn
    (o := { source := 96, unitType := 2, idx := l, injected := (c.lane l).inj }) hlog (c.laneFence l)
  dsimp only
  rw [Block.laneDown_populated hl ((h.populated l).trans hp)]
  refine ⟨?_, hlogs, ?_, ?_, ?_, ?_, hkeeps⟩
  · rw [hrd (by simp [laneFields]), Block.laneTo_state (by omega)]
  · rw [Block.raiseOwn_lane, Block.laneTo_lane]
    rfl
  · rw [Block.raiseOwn_lane, Block.laneTo_lane]
    rfl
  · rw [Block.on_congr (hrd (by simp [laneFields]) _ _ _)]
    obtain rfl | rfl := hst
    · exact (Block.laneTo_noBlocks (by decide) c).1
    · exact (Block.laneTo_train_blockLock l c).trans hlock
  · rw [hrd (by simp [laneFields]), Block.laneTo_retrains h4]

end

/-! ### The statement -/

/-- Settles O44: each row sets or clears its flags, and a lane that needed what is lost goes to its next state. -/
theorem laneSignals : Obligations.LaneSignals := by
  unfold Obligations.LaneSignals
  intro s l on
  extract_lets st locks down left
  have hl := l.isLt
  have hlocks (t : Block) (hbit : t.on (Reg.LINK_STAT_BIT_LOCK l) = false) (hblock : t.on (Reg.LINK_STAT_BLOCK_LOCK l) = false)
      (hfar : t.on (Reg.LINK_STAT_FAR_LOCK l) = false) : ∀ f ∈ locks, t.on f = false := by
    simp [locks, hbit, hblock, hfar]
  obtain ⟨hlos, hbit, hblock, hfar⟩ := s.blk.lightGone_shows l
  refine ⟨fun h => ?train, fun h2 h4 => ?dark, fun h hp hlog => ?active, ?returns, ?bits, fun h hlight => ?gain, fun h => ?loss,
    fun h => ?marker⟩
  case train =>
    refine does_onBlk (f := (·.lightLoss l)) rfl ?_
    rw [Block.lightLoss_train h]
    have hr := Block.laneTo_regsBut l 1 (s.blk.lightGone l)
    obtain ⟨hb, hf⟩ := Block.laneTo_noBlocks (l := l) (st := 1) (by decide) (s.blk.lightGone l)
    refine ⟨Block.laneTo_state (by decide) _, (Block.on_congr (hr _ (by simp [laneFields]))).trans hlos,
      hlocks _ ((Block.laneTo_bitLock (by decide) _).trans hbit) hb hf, ?_, ?_, ?_⟩
    · rw [Block.laneTo_lane]
      rfl
    · exact ((s.blk.lightGone_regsBut l).trans_append hr).mono (by simp [lightFields, laneFields])
    · exact ((s.blk.lightGone_keeps l).mono (by decide)).trans (Block.laneTo_keeps _ _ _)
  case dark =>
    refine does_onBlk (f := (·.lightLoss l)) rfl ?_
    rw [Block.lightLoss_other h2 h4]
    exact ⟨hlos, hlocks _ hbit hblock hfar, s.blk.lightGone_regsBut l, s.blk.lightGone_keeps l⟩
  case active =>
    constructor
    · refine does_onBlk (f := (·.lightLoss l)) rfl ?_
      rw [Block.lightLoss_active h]
      have hon : OnLanes s.blk (s.blk.lightGone l) := .of_frame (s.blk.lightGone_regsBut l) (s.blk.lightGone_keeps l)
        (fun f hf => signalFields_ofLanes hl f (List.mem_append_left _ hf)) (by decide)
      have hcount : (s.blk.lightGone l).rd (Reg.LINK_RETRAIN_CNT_COUNT l) = s.blk.rd (Reg.LINK_RETRAIN_CNT_COUNT l) :=
        s.blk.lightGone_regsBut l _ (by simp [lightFields])
      have := hon.laneDown hl hp hlog ((s.blk.lightGone_state l).trans h) hblock (.inl rfl)
      rwa [hcount] at this
    · refine does_onBlk (f := (·.blockLockLoss l)) rfl ?_
      rw [Block.blockLockLoss_active h]
      have hr := s.blk.blocksGone_regsBut l
      have hon : OnLanes s.blk (s.blk.blocksGone l) := .of_frame hr (s.blk.blocksGone_keeps l)
        (fun f hf => signalFields_ofLanes hl f (List.mem_append_right _ hf)) (by decide)
      have hstate : (s.blk.blocksGone l).rd (Reg.LINK_STAT_STATE l) = s.blk.rd (Reg.LINK_STAT_STATE l) :=
        hr _ (by simp [blockLossFields])
      have hcount : (s.blk.blocksGone l).rd (Reg.LINK_RETRAIN_CNT_COUNT l) = s.blk.rd (Reg.LINK_RETRAIN_CNT_COUNT l) :=
        hr _ (by simp [blockLossFields])
      have hst : (if s.blk.on (Reg.LINK_STAT_LOS l) then 1 else 2) = 1 ∨ (if s.blk.on (Reg.LINK_STAT_LOS l) then 1 else 2) = 2 := by
        split <;> simp
      have := hon.laneDown hl hp hlog (hstate.trans h) (s.blk.blocksGone_shows l).1 hst
      rwa [hcount] at this
  case returns =>
    exact does_onBlk (f := (·.lightReturn l)) rfl
      ⟨Block.on_flag_same _ _ _ Nat.one_pos, s.blk.flag_regsBut _ _, s.blk.wr_keeps _ _⟩
  case bits =>
    exact does_onBlk (f := (·.bitLockChange l on)) rfl
      ⟨Block.on_flag_same _ _ _ Nat.one_pos, s.blk.flag_regsBut _ _, s.blk.wr_keeps _ _⟩
  case gain =>
    refine does_onBlk (f := (·.blockLockGain l)) rfl ?_
    have hin : blocksIn (s.blk.rd (Reg.LINK_STAT_STATE l)) = true := by simpa [blocksIn, or_assoc, st] using h
    rw [Block.blockLockGain, hin, hlight]
    exact ⟨Block.on_flag_same _ _ _ Nat.one_pos, s.blk.flag_regsBut _ _, s.blk.wr_keeps _ _⟩
  case loss =>
    refine does_onBlk (f := (·.blockLockLoss l)) rfl ?_
    rw [Block.blockLockLoss_other h]
    obtain ⟨hb, hf, hcount⟩ := s.blk.blocksGone_shows l
    exact ⟨hb, hf, hcount, s.blk.blocksGone_regsBut l, s.blk.blocksGone_keeps l⟩
  case marker =>
    refine does_onBlk (f := (·.markerRx l on)) rfl ?_
    rw [Block.markerRx, if_pos h]
    exact ⟨Block.on_flag_same _ _ _ Nat.one_pos, s.blk.flag_regsBut _ _, s.blk.wr_keeps _ _⟩

end Sys2Proof.Machine
end

section
/-! PROOFS. The bring-up of a lane (R183 to R186, R205): bursts and their answers, training, echoes, and the timeouts. -/

namespace Sys2Proof.Machine

/-! ### Time passes for a lane -/

theorem RegsBut.swap {fs gs : List Field} {a b : Block} (h : RegsBut (fs ++ gs) a b) : RegsBut (gs ++ fs) a b :=
  h.mono (by
    simpa only [List.map_append] using
      List.append_subset.mpr ⟨List.subset_append_right _ _, List.subset_append_left _ _⟩)

@[simp] theorem Block.untilUp_lane (t : Nat) (b : Block) (l : Nat) : (b.untilUp t).lane l = b.lane l :=
  congrArg (SMap.look default · l) ((b.untilUp_frame t).2 .lanes (by decide))

theorem Block.untilUp_rd_lane {f : Field} (hf : f.ofLanes) (t : Nat) (b : Block) : (b.untilUp t).rd f = b.rd f :=
  (b.untilUp_frame t).1 f (hf.not_mem (by decide))

/-- A lane enters a state once an instant has come. -/
theorem Block.untilUp_laneTo (t l st : Nat) (b : Block) : RegsBut (laneFields l ++ adjFields) b ((b.untilUp t).laneTo l st)
    ∧ Keeps [.regs, .tb, .lanes] b ((b.untilUp t).laneTo l st) ∧ t ≤ ((b.untilUp t).laneTo l st).tb.up := by
  obtain ⟨hr, hk⟩ := b.untilUp_frame t
  refine ⟨(hr.trans_append (Block.laneTo_regsBut l st _)).swap,
    (hk.mono (by decide)).andThen (Block.laneTo_keeps _ _ _) (by decide), ?_⟩
  rw [Block.laneTo_tb]
  exact b.le_untilUp t

/-- What becomes of a lane once an instant has come leaves the rest as it was before. -/
theorem Keeps.untilUp {t : Nat} {b c : Block} (h : Keeps (.lanes :: raiseParts) (b.untilUp t) c) :
    Keeps (.tb :: .lanes :: raiseParts) b c :=
  ((b.untilUp_frame t).2.mono (by decide)).andThen h (by decide)

theorem LaneRejected.untilUp {l cause t : Nat} {b c : Block} (h : LaneRejected l cause (b.untilUp t) c) :
    t ≤ c.tb.up ∧ Keeps (.tb :: .lanes :: raiseParts) b c := by
  obtain ⟨-, -, -, -, hk⟩ := h
  have htb : c.tb = (b.untilUp t).tb := hk .tb (by decide)
  exact ⟨htb ▸ b.le_untilUp t, hk.untilUp⟩

/-! ### Bursts (R184, R205) -/

/-- How far two bursts of a lane are apart in DETECT and in QUIET, in ps. -/
def burstGap (st : Nat) : Nat := if st = 1 then 1024000000 else 64000000

/-- The instant of a lane's next burst has come. -/
def Block.burstDue (l : Nat) (b : Block) : Block :=
  match (b.lane l).burstAt with
  | some t => b.untilUp (t + burstGap (b.rd (Reg.LINK_STAT_STATE l)))
  | none => b

theorem Block.burstDue_frame (l : Nat) (b : Block) : RegsBut adjFields b (b.burstDue l) ∧ Keeps [.regs, .tb] b (b.burstDue l)
    ∧ ∀ t, (b.lane l).burstAt = some t → t + burstGap (b.rd (Reg.LINK_STAT_STATE l)) ≤ (b.burstDue l).tb.up := by
  unfold Block.burstDue
  split
  · next t ht =>
    obtain ⟨hr, hk⟩ := b.untilUp_frame (t + burstGap (b.rd (Reg.LINK_STAT_STATE l)))
    refine ⟨hr, hk, fun t' ht' => ?_⟩
    obtain rfl : t = t' := Option.some.inj (ht.symm.trans ht')
    exact b.le_untilUp _
  · next ht => exact ⟨RegsBut.refl _ b, Keeps.refl _ b, fun t ht' => absurd (ht.symm.trans ht') nofun⟩

/-- The record of a lane that sends a burst in state `st` at uptime `up`. -/
def Lane.bursts (st up : Nat) (x : Lane) : Lane :=
  { x with
    burstAt := some up, burstOpen := true, burstPrev := if st = 7 ∧ x.burstOpen then x.burstAt else none
    answered := if x.burstOpen then 0 else x.answered, quietMissed := x.quietMissed || (st == 7 && x.burstLost up) }

theorem Block.beaconBurstSend_eq {l : Nat} {b : Block}
    (h : b.rd (Reg.LINK_STAT_STATE l) = 1 ∨ b.rd (Reg.LINK_STAT_STATE l) = 7) :
    b.beaconBurstSend l = ((b.burstDue l).updLane l
      (Lane.bursts (b.rd (Reg.LINK_STAT_STATE l)) (b.burstDue l).tb.up)).emitLane (.beacon l) := by
  rw [Block.beaconBurstSend, if_neg (not_not.mpr h)]
  rfl

theorem Block.emitLane_eq {b : Block} (hc : b.boot.configured = true) (he : b.rd Reg.CLK_EARLY_DOMAINS = 0) (o : Output) :
    b.emitLane o = b.emit o := by
  simp [Block.emitLane, hc, he]

/-! ### Answers (R184, R205) -/

section
variable {l t : Nat} {b : Block}

/-- In QUIET the answer may be the older burst's. -/
theorem Block.beaconAnswerRx_older (hp : (b.lane l).burstPrev = some t) (h : b.tb.up ≤ t + answerPs) :
    b.beaconAnswerRx l = b.updLane l fun y => { y with burstPrev := none } := by
  simp [Block.beaconAnswerRx, hp, h]

/-- The answer to the last burst; the second in a row of a lane in DETECT with light leads to TRAIN. -/
theorem Block.beaconAnswerRx_newest (hp : (b.lane l).burstPrev = none) (ha : (b.lane l).burstAt = some t)
    (ho : (b.lane l).burstOpen = true) (h : b.tb.up ≤ t + answerPs)
    (hst : b.rd (Reg.LINK_STAT_STATE l) = 1 ∨ b.rd (Reg.LINK_STAT_STATE l) = 7) : b.beaconAnswerRx l
      = if b.rd (Reg.LINK_STAT_STATE l) = 1 ∧ 2 ≤ (b.lane l).answered + 1 ∧ b.rd (Reg.LINK_STAT_LOS l) = 0 then b.laneTo l 2
        else b.updLane l fun y => { y with burstOpen := false, answered := y.answered + 1 } := by
  have hlate : ¬ t + answerPs < b.tb.up := by omega
  have hburst : (b.rd (Reg.LINK_STAT_STATE l) == 1 || b.rd (Reg.LINK_STAT_STATE l) == 7) = true := by simpa using hst
  simp [Block.beaconAnswerRx, hp, ha, ho, hlate, hburst]

/-! ### Training and echoes (R185, R186) -/

/-- What was sent, newest first, stands before what was sent earlier. -/
def Block.emitAll (os : List Output) (b : Block) : Block := { b with out := os ++ b.out }

theorem Block.emitAll_keeps (os : List Output) (b : Block) : Keeps [.out] b (b.emitAll os) := by
  intro p hp
  cases p
  case out => exact absurd List.mem_cons_self hp
  all_goals rfl

/-- Sixteen echo requests. -/
theorem Block.each_echo (hc : b.boot.configured = true) (he : b.rd Reg.CLK_EARLY_DOMAINS = 0) (n : Nat) :
    b.each n (fun i b => b.emitLane (.echo l i)) = b.emitAll ((List.range n).reverse.map (.echo l)) := by
  induction n with
  | zero => rfl
  | succ n ih =>
    rw [Block.each, List.range_succ, List.foldl_append]
    show (b.each n fun i b => b.emitLane (.echo l i)).emitLane (.echo l n) = _
    rw [ih, Block.emitLane_eq (b := b.emitAll ((List.range n).reverse.map (.echo l))) hc he]
    simp [Block.emit, Block.emitAll]

/-- Lane `l` is in TRAIN, both ends locked, no echo under way and nothing complete. -/
def Block.trains (b : Block) (l : Nat) : Prop :=
  b.rd (Reg.LINK_STAT_STATE l) = 2 ∧ (b.lane l).echoing = false ∧ (b.lane l).ready = false
    ∧ b.on (Reg.LINK_STAT_BLOCK_LOCK l) = true ∧ b.on (Reg.LINK_STAT_FAR_LOCK l) = true

/-- The record of a lane whose echoes begin at uptime `up`. -/
def Lane.echoes (up : Nat) (y : Lane) : Lane := { y with echoing := true, echoAt := up, loops := [] }

theorem Block.trainLocked_eq (h : b.trains l) : b.trainLocked l
    = if (b.lane l).fast then b.updLane l fun y => { y with ready := true }
      else (b.updLane l (Lane.echoes b.tb.up)).each 16 fun n b => b.emitLane (.echo l n) := by
  obtain ⟨hs, he, hr, hb, hf⟩ := h
  simp only [Block.trainLocked, hs, he, hr, hb, hf]
  rfl

/-- How far the round trips lie apart, the last of which took `loop`. -/
def echoSpread (ls : List Nat) (loop : Nat) : Nat := ls.foldl max 0 - ls.foldl min loop

section
variable {loop : Nat} (hs : b.rd (Reg.LINK_STAT_STATE l) = 2) (he : (b.lane l).echoing = true) (hloop : loop ≤ 25600)
include hs he hloop

/-- The answer to the echo whose turn it is, within 2 µs. -/
theorem Block.echoRspRx_eq : b.echoRspRx l (b.lane l).loops.length loop =
      let ls := (b.lane l).loops ++ [loop]
      if ls.length < 16 then b.updLane l fun y => { y with loops := ls }
      else
        let c := b.wr (Reg.LINK_DELAY_SPREAD l) (min (echoSpread ls loop) 15)
        if 4 < echoSpread ls loop then c.laneReject l 5
        else (c.laneTo l 3).updLane l fun y => { y with loop := (rdiv ls.sum 16).toNat } := by
  rw [Block.echoRspRx, if_neg (by simp [hs, he, hloop])]
  rfl

theorem Block.echoRspRx_more (hn : (b.lane l).loops.length < 15) : b.echoRspRx l (b.lane l).loops.length loop
    = b.updLane l fun y => { y with loops := (b.lane l).loops ++ [loop] } := by
  have hlen : ((b.lane l).loops ++ [loop]).length < 16 := by
    rw [List.length_append, List.length_singleton]
    omega
  rw [Block.echoRspRx_eq hs he hloop]
  exact if_pos hlen

variable (hn : (b.lane l).loops.length = 15)
include hn

theorem Block.echoRspRx_held (hsp : echoSpread ((b.lane l).loops ++ [loop]) loop ≤ 4) : b.echoRspRx l 15 loop
    = (Block.laneTo l 3 (b.wr (Reg.LINK_DELAY_SPREAD l) (min (echoSpread ((b.lane l).loops ++ [loop]) loop) 15))).updLane l
        fun y => { y with loop := (rdiv ((b.lane l).loops ++ [loop]).sum 16).toNat } := by
  have hlen : ¬ ((b.lane l).loops ++ [loop]).length < 16 := by simp [hn]
  have heq := Block.echoRspRx_eq hs he hloop
  rw [hn] at heq
  exact (heq.trans (if_neg hlen)).trans (if_neg (Nat.not_lt.mpr hsp))

theorem Block.echoRspRx_spread (hsp : 4 < echoSpread ((b.lane l).loops ++ [loop]) loop) : b.echoRspRx l 15 loop
    = (b.wr (Reg.LINK_DELAY_SPREAD l) (min (echoSpread ((b.lane l).loops ++ [loop]) loop) 15)).laneReject l 5 := by
  have hlen : ¬ ((b.lane l).loops ++ [loop]).length < 16 := by simp [hn]
  have heq := Block.echoRspRx_eq hs he hloop
  rw [hn] at heq
  exact (heq.trans (if_neg hlen)).trans (if_pos hsp)

end

theorem Block.spreadWr_onLanes (hl : l < 192) (v : Nat) : OnLanes b (b.wr (Reg.LINK_DELAY_SPREAD l) v) := by
  refine .of_frame (b.wr_regsBut _ _) (b.wr_keeps _ _) (fun f hf => ?_) (by decide)
  rw [List.mem_singleton.mp hf]
  simp only [Field.ofLanes, lane_keys]
  omega

/-- The round trips held, the lane is in CAPEX. -/
theorem Block.heldLoop_frame (v n : Nat) (hv : v ≤ 4) :
    let t := (Block.laneTo l 3 (b.wr (Reg.LINK_DELAY_SPREAD l) (min v 15))).updLane l fun y => { y with loop := n }
    t.rd (Reg.LINK_STAT_STATE l) = 3 ∧ (t.lane l).loop = n ∧ t.rd (Reg.LINK_DELAY_SPREAD l) = v
      ∧ RegsBut (Reg.LINK_DELAY_SPREAD l :: laneFields l) b t ∧ Keeps [.regs, .lanes] b t := by
  have hr := Block.laneTo_regsBut l 3 (b.wr (Reg.LINK_DELAY_SPREAD l) (min v 15))
  refine ⟨Block.laneTo_state (by decide) _, congrArg Lane.loop (Block.lane_updLane_same _ _ _), ?_,
    (b.wr_regsBut _ _).trans_append hr, (((b.wr_keeps _ _).mono (by decide)).andThen (Block.laneTo_keeps _ _ _)
      (by decide)).andThen (Block.updLane_keeps _ _ _) (by decide)⟩
  have hwidth : (Reg.LINK_DELAY_SPREAD l).width = 4 := rfl
  rw [Block.updLane_rd, hr _ (by simp [laneFields]), Block.rd_wr_same, hwidth]
  omega

theorem Block.echoTimeout_eq (hs : b.rd (Reg.LINK_STAT_STATE l) = 2) (he : (b.lane l).echoing = true) :
    b.echoTimeout l = (b.untilUp ((b.lane l).echoAt + ((b.lane l).loops.length + 2) * usPs)).laneReject l 5 := by
  simp [Block.echoTimeout, hs, he]

/-! ### The end of an attempt (R183) -/

theorem Block.capexTimeout_eq (hs : b.rd (Reg.LINK_STAT_STATE l) = 3) (hr : (b.lane l).ready = false) : b.capexTimeout l =
      let u := b.untilUp ((b.lane l).entered + 10000000000)
      if 3 ≤ (b.lane l).attempts + 1 then u.laneReject l 4
      else (u.laneTo l 2).updLane l fun x => { x with attempts := (b.lane l).attempts + 1 } := by
  simp [Block.capexTimeout, hs, hr]

end

/-! ### The statement -/

/-- Settles O45: each row by the branch its condition takes, a state entered by what the entry writes, and a rejection by
    what it logs. -/
theorem laneBringUp : Obligations.LaneBringUp := by
  unfold Obligations.LaneBringUp
  intro s l loop st x rejected third stays
  have hl := l.isLt
  have upd (f : Lane → Lane) : (s.blk.updLane l f).lane l = f x ∧ RegsBut [] s.blk (s.blk.updLane l f)
      ∧ Keeps [.lanes] s.blk (s.blk.updLane l f) :=
    ⟨s.blk.lane_updLane_same l f, RegsBut.of_regs rfl, s.blk.updLane_keeps l f⟩
  refine ⟨fun hst hc he => ?burst, fun t1 hp h => ?older, fun t0 hst hp ha ho h => ?quiet,
    fun t0 hst hp ha ho h hlight => ⟨fun hn => ?second, fun hn => ?first⟩,
    fun hst he hr hb hf hc hclk => ⟨fun hx => ?fast, fun hx => ?echoes⟩, fun hst => ?timeout,
    fun hst he hloop => ?answer, ?silence, fun hst hr ha => ?again, ?third⟩
  case burst =>
    refine does_onBlk (f := (·.beaconBurstSend l)) rfl ?_
    have hst' : s.blk.rd (Reg.LINK_STAT_STATE l) = 1 ∨ s.blk.rd (Reg.LINK_STAT_STATE l) = 7 := by simpa using hst
    rw [Block.beaconBurstSend_eq hst']
    obtain ⟨hr, hk, hdue⟩ := s.blk.burstDue_frame l
    have hboot : (s.blk.burstDue l).boot = s.blk.boot := hk .boot (by decide)
    have hout : (s.blk.burstDue l).out = s.blk.out := hk .out (by decide)
    rw [Block.emitLane_eq (b := (s.blk.burstDue l).updLane l _) (by rw [Block.updLane_boot, hboot, hc])
      ((hr _ (by decide)).trans he)]
    have hlane := Block.lane_updLane_same (s.blk.burstDue l) l
      (Lane.bursts (s.blk.rd (Reg.LINK_STAT_STATE l)) (s.blk.burstDue l).tb.up)
    exact ⟨congrArg (Output.beacon l :: ·) hout, congrArg Lane.burstAt hlane, congrArg Lane.burstOpen hlane, hdue, hr,
      ((hk.mono (by decide)).andThen (Block.updLane_keeps _ _ _) (by decide)).andThen (Block.emit_keeps _ _) (by decide)⟩
  case older =>
    refine does_onBlk (f := (·.beaconAnswerRx l)) rfl ?_
    rw [Block.beaconAnswerRx_older hp h]
    exact upd _
  case quiet =>
    refine does_onBlk (f := (·.beaconAnswerRx l)) rfl ?_
    rw [Block.beaconAnswerRx_newest hp ha ho h (.inr hst), if_neg fun h' => absurd (hst.symm.trans h'.1) (by decide)]
    exact upd _
  case second =>
    refine does_onBlk (f := (·.beaconAnswerRx l)) rfl ?_
    have hlos : s.blk.rd (Reg.LINK_STAT_LOS l) = 0 := by simpa [Block.on] using hlight
    rw [Block.beaconAnswerRx_newest hp ha ho h (.inl hst), if_pos ⟨hst, Nat.succ_le_succ hn, hlos⟩]
    exact ⟨Block.laneTo_state (by decide) _, by rw [Block.laneTo_lane]; rfl, Block.laneTo_regsBut _ _ _,
      Block.laneTo_keeps _ _ _⟩
  case first =>
    refine does_onBlk (f := (·.beaconAnswerRx l)) rfl ?_
    have hfew : ¬ 2 ≤ (s.blk.lane l).answered + 1 := show ¬ 2 ≤ x.answered + 1 by omega
    rw [Block.beaconAnswerRx_newest hp ha ho h (.inl hst), if_neg fun h' => hfew h'.2.1]
    have := upd fun y => { y with burstOpen := false, answered := y.answered + 1 }
    rwa [hn] at this
  case fast =>
    refine does_onBlk (f := (·.trainLocked l)) rfl ?_
    rw [Block.trainLocked_eq ⟨hst, he, hr, hb, hf⟩, if_pos hx]
    exact upd _
  case echoes =>
    refine does_onBlk (f := (·.trainLocked l)) rfl ?_
    rw [Block.trainLocked_eq ⟨hst, he, hr, hb, hf⟩, if_neg (by simpa using hx),
      Block.each_echo (b := s.blk.updLane l (Lane.echoes s.blk.tb.up)) hc hclk]
    exact ⟨s.blk.lane_updLane_same l (Lane.echoes s.blk.tb.up), rfl, RegsBut.of_regs rfl,
      ((s.blk.updLane_keeps l _).mono (by decide)).andThen (Block.emitAll_keeps _ _) (by decide)⟩
  case timeout =>
    refine does_onBlk (f := (·.trainTimeout l)) rfl ?_
    rw [Block.trainTimeout, if_neg (not_not.mpr hst)]
    obtain ⟨hr, hk, hup⟩ := s.blk.untilUp_laneTo (x.entered + 5000000000) l 1
    exact ⟨Block.laneTo_state (by decide) _, hup, hr, hk⟩
  case answer =>
    intro ls spread
    refine ⟨fun hn => ?more, fun hn hsp => ?held, fun hn hsp hlog => ?spread⟩
    case more =>
      refine does_onBlk (f := (·.echoRspRx l x.loops.length loop.toNat)) ?_ ?_
      · show s.onBlk (·.echoRspRx l (BitVec.ofNat 8 x.loops.length).toNat loop.toNat) = _
        rw [BitVec.toNat_ofNat, Nat.mod_eq_of_lt (by omega)]
      · rw [Block.echoRspRx_more hst he hloop hn]
        exact upd _
    case held =>
      refine does_onBlk (f := (·.echoRspRx l 15 loop.toNat)) rfl ?_
      rw [Block.echoRspRx_held hst he hloop hn hsp]
      exact Block.heldLoop_frame _ _ hsp
    case spread =>
      refine does_onBlk (f := (·.echoRspRx l 15 loop.toNat)) rfl ?_
      rw [Block.echoRspRx_spread hst he hloop hn hsp]
      obtain ⟨hs6, hcause, hentered, hlogs, hk⟩ :=
        (Block.spreadWr_onLanes hl _).laneReject hl (cause := 5) (by decide) hlog
      exact ⟨⟨hs6, hcause, hentered⟩, hlogs, hk⟩
  case silence =>
    intro b hst he hlog
    refine does_onBlk (f := (·.echoTimeout l)) rfl ?_
    rw [Block.echoTimeout_eq hst he]
    have hrej := (OnLanes.refl b).laneReject hl (cause := 5) (by decide) hlog
    have huntil := hrej.untilUp
    obtain ⟨hs6, hcause, hentered, hlogs, -⟩ := hrej
    exact ⟨⟨hs6, hcause, hentered⟩, hlogs, huntil⟩
  case again =>
    refine does_onBlk (f := (·.capexTimeout l)) rfl ?_
    rw [Block.capexTimeout_eq hst hr]
    dsimp only
    rw [if_neg (show ¬ 3 ≤ x.attempts + 1 by omega)]
    obtain ⟨hregs, hk, hup⟩ := s.blk.untilUp_laneTo (x.entered + 10000000000) l 2
    exact ⟨Block.laneTo_state (by decide) _, congrArg Lane.attempts (Block.lane_updLane_same _ _ _), hup, hregs,
      hk.andThen (Block.updLane_keeps _ _ _) (by decide)⟩
  case third =>
    intro b hst hr ha hlog
    refine does_onBlk (f := (·.capexTimeout l)) rfl ?_
    rw [Block.capexTimeout_eq hst hr]
    dsimp only
    rw [if_pos (show 3 ≤ x.attempts + 1 by omega)]
    have hrej := (OnLanes.refl b).laneReject hl (cause := 4) (by decide) hlog
    have huntil := hrej.untilUp
    obtain ⟨hs6, hcause, hentered, hlogs, -⟩ := hrej
    exact ⟨⟨hs6, hcause, hentered⟩, hlogs, huntil⟩

end Sys2Proof.Machine
end

section
/-! PROOFS. The frames from the cells (R187, R192, R196): reports, and the exchange of capabilities. -/

namespace Sys2Proof.Machine

/-! ### Writes of the lanes' registers -/

section
variable {a b : Block}

theorem OnLanes.wr (h : OnLanes a b) {f : Field} (hf : f.ofLanes) (v : Nat) : OnLanes a (b.wr f v) :=
  h.trans (.of_frame (b.wr_regsBut f v) (b.wr_keeps f v) (fun _ hg => List.mem_singleton.mp hg ▸ hf) (by decide))

theorem OnLanes.updLane (h : OnLanes a b) (l : Nat) (f : Lane → Lane) : OnLanes a (b.updLane l f) :=
  h.trans ⟨fun _ _ => rfl, (b.updLane_keeps l f).mono (by decide)⟩

theorem OnLanes.eachOf {α : Type} {xs : List α} {f : α → Block → Block} (hf : ∀ x ∈ xs, ∀ c, OnLanes c (f x c))
    (h : OnLanes a b) : OnLanes a (b.eachOf xs f) :=
  h.trans ⟨fun _ hg => Block.eachOf_rd (fun x hx c => (hf x hx c).1 _ hg) b,
    Block.eachOf_keeps _ _ (fun x hx c => (hf x hx c).2) b⟩

end

/-! ### The bookkeeping of a frame (R185, R196) -/

/-- A frame of 96 bytes whose CRC and version are good, with no bad CRC injected on lane `l`. -/
def UplinkGood (b : Block) (l : Nat) (bs : List Byte) : Prop :=
  bs.length = 96 ∧ crc32 (bs.take 92) = field bs 92 4 ∧ field bs 0 1 = 1 ∧ b.injects 2 l = false

/-- The port that a good frame tells is shown. -/
def Block.portShown (l : Nat) (bs : List Byte) (b : Block) : Block := b.wr (Reg.LINK_STAT_PORT l) (field bs 2 1)

section
variable {b : Block} {l : Nat} {bs : List Byte}

theorem UplinkGood.uplinkGood (h : UplinkGood b l bs) : b.uplinkGood l bs = true := by
  obtain ⟨-, hcrc, -, hi⟩ := h
  simp [Block.uplinkGood, hcrc, hi]

theorem UplinkGood.uplinkCheck (h : UplinkGood b l bs) : b.uplinkCheck l bs = b.portShown l bs := by
  have hg := h.uplinkGood
  obtain ⟨-, -, -, hi⟩ := h
  simp only [Block.uplinkCheck, hg, Block.checked_of_calm hi, if_true, Block.portShown]

theorem blocksIn_iff {st : Nat} : blocksIn st = true ↔ st ∈ [2, 3, 4, 6] := by
  simp [blocksIn, or_assoc]

/-- The record of a lane whose bad frame nobody injected is as it was. -/
theorem Block.uplinkCheck_bad (hi : b.injects 2 l = false) (hc : crc32 (bs.take 92) ≠ field bs 92 4) :
    b.uplinkCheck l bs = (b.count (Reg.LINK_CRC_CNT_COUNT l) 1).updLane l id := by
  have hg : b.uplinkGood l bs = false := by simp [Block.uplinkGood, hc]
  have hid : (fun x : Lane => { x with inj := x.inj || false }) = id := funext fun x => by rw [Bool.or_false]; rfl
  simp only [Block.uplinkCheck, hg, hi, Block.checked_of_calm hi, Bool.false_eq_true, if_false, hid]

/-! ### Reports (R192) -/

/-- A good report is kept when it is of the stroke in progress and came in time. -/
theorem Block.reportFrameRx_good (h : UplinkGood b l bs) (hs : b.rd (Reg.LINK_STAT_STATE l) = 4) : b.reportFrameRx l bs
    = if field bs 1 1 = 1 ∧ field bs 4 8 = b.strk.num ∧ b.strk.phase = .begun
          ∧ b.tb.now.toNat ≤ (b.strk.b + 270) * 2 ^ 32 then
        (b.portShown l bs).updLane l fun x => { x with rpt := some (reportOf bs) }
      else b.portShown l bs := by
  have hg := h.uplinkGood
  have hport := h.uplinkCheck
  obtain ⟨hlen, -, hver, -⟩ := h
  rw [Block.reportFrameRx, hlen, hs, hg, hver, hport, if_neg (by decide)]
  refine if_congr ?_ rfl rfl
  simp only [Bool.true_and, Bool.and_true, Bool.and_eq_true, beq_iff_eq, decide_eq_true_eq, beq_self_eq_true, and_assoc]
  rfl

theorem Block.reportFrameRx_bad (hlen : bs.length = 96) (hs : b.rd (Reg.LINK_STAT_STATE l) ∈ [2, 3, 4, 6])
    (hi : b.injects 2 l = false) (hc : crc32 (bs.take 92) ≠ field bs 92 4) :
    b.reportFrameRx l bs = (b.count (Reg.LINK_CRC_CNT_COUNT l) 1).updLane l id := by
  simp [Block.reportFrameRx, hlen, blocksIn_iff.mpr hs, Block.uplinkCheck_bad hi hc, Block.uplinkGood, hc]

/-! ### Capabilities (R187) -/

theorem Block.capabilityFrameRx_bad (hlen : bs.length = 96) (hs : b.rd (Reg.LINK_STAT_STATE l) ∈ [2, 3, 4, 6])
    (hi : b.injects 2 l = false) (hc : crc32 (bs.take 92) ≠ field bs 92 4) :
    b.capabilityFrameRx l bs = (b.count (Reg.LINK_CRC_CNT_COUNT l) 1).updLane l id := by
  simp [Block.capabilityFrameRx, hlen, blocksIn_iff.mpr hs, Block.uplinkCheck_bad hi hc, Block.uplinkGood, hc]

/-- A good frame of a lane in CAPEX that waits for one is judged. -/
theorem Block.capabilityFrameRx_good (h : UplinkGood b l bs) (hs : b.rd (Reg.LINK_STAT_STATE l) = 3)
    (ht : field bs 1 1 = 2) (hr : (b.lane l).ready = false) :
    b.capabilityFrameRx l bs = (b.portShown l bs).capJudge l bs := by
  have hg := h.uplinkGood
  have hport := h.uplinkCheck
  obtain ⟨hlen, -, hver, -⟩ := h
  have hr' : ((b.portShown l bs).lane l).ready = false := hr
  simp only [Block.capabilityFrameRx, hlen, hs, hg, hver, hport, ht, hr']
  rfl

/-- The delay of a lane as a CAPABILITY frame gives it. -/
def Block.capDelay (b : Block) (l : Nat) (bs : List Byte) : Int := rdiv (((b.lane l).loop : Int) - field bs 28 2) 2

/-- What a judged frame shows of the lane's delay. -/
def Block.delayShown (l : Nat) (bs : List Byte) (b : Block) : Block :=
  (b.wr (Reg.LINK_DELAY_DELAY l) (clampI (b.capDelay l bs) 0 4095).toNat).wr (Reg.LINK_DELAY_TURN l) (field bs 28 2)

theorem Block.portShown_onLanes (hl : l < 192) : OnLanes b (b.portShown l bs) :=
  (OnLanes.refl b).wr (by simp only [Field.ofLanes, lane_keys]; omega) _

theorem Block.delayShown_onLanes (hl : l < 192) : OnLanes b (b.delayShown l bs) :=
  ((OnLanes.refl b).wr (by simp only [Field.ofLanes, lane_keys]; omega) _).wr
    (by simp only [Field.ofLanes, lane_keys]; omega) _

/-- The checks look at no register of the lanes. -/
theorem OnLanes.capCause {c : Block} (h : OnLanes b c) (delay : Int) : c.capCause bs delay = b.capCause bs delay := by
  obtain ⟨hr, -⟩ := h
  unfold Block.capCause Block.on
  rw [hr Reg.CHSL_DAB_PERIOD_PERIOD (by decide), hr Reg.CHSL_MINP_FLOOR_FLOOR (by decide),
    hr Reg.SYS_STROKE_CFG_UPDATE (by decide), hr Reg.SYS_PAIR_CFG_EN (by decide), hr Reg.SYS_PAIR_CFG_ROLE (by decide)]

theorem Block.capCause_lt {delay : Int} {c : Nat} (h : b.capCause bs delay = some c) : c < 16 := by
  unfold Block.capCause at h
  dsimp only at h
  repeat' split at h
  all_goals cases h
  all_goals decide

/-! ### The accepted frame is copied -/

/-- Where the fields lie that the accepted frame is copied into. -/
theorem cap_keys (l : Nat) : (Reg.LINK_CAP_ID_VENDOR l).key = 0x2000 * l + 0x800080
    ∧ (Reg.LINK_CAP_ID_TYPE l).key = 0x2000 * l + 0x800090 ∧ (Reg.LINK_CAP_FW_FW l).key = 0x2000 * l + 0x8000A0
    ∧ (Reg.LINK_CAP_SN_LO_SN l).key = 0x2000 * l + 0x8000C0 ∧ (Reg.LINK_CAP_SN_HI_SN l).key = 0x2000 * l + 0x8000E0
    ∧ (Reg.LINK_CAP_TIMING_DT l).key = 0x2000 * l + 0x800100 ∧ (Reg.LINK_CAP_TIMING_MINP l).key = 0x2000 * l + 0x800110
    ∧ (Reg.LINK_CAP_DAB_DAB_MIN l).key = 0x2000 * l + 0x800120 ∧ (Reg.LINK_CAP_DAB_DAB_MAX l).key = 0x2000 * l + 0x800130
    ∧ (Reg.LINK_CAP_FLAGS_FLAGS l).key = 0x2000 * l + 0x800140 := by
  simp only [Field.key, Reg.LINK_CAP_ID_VENDOR, Reg.LINK_CAP_ID_TYPE, Reg.LINK_CAP_FW_FW, Reg.LINK_CAP_SN_LO_SN,
    Reg.LINK_CAP_SN_HI_SN, Reg.LINK_CAP_TIMING_DT, Reg.LINK_CAP_TIMING_MINP, Reg.LINK_CAP_DAB_DAB_MIN,
    Reg.LINK_CAP_DAB_DAB_MAX, Reg.LINK_CAP_FLAGS_FLAGS]
  omega

theorem meas_keys (l q : Nat) : (Reg.LINK_CAP_MEASq_TYPE l q).key = 0x2000 * l + 0x20 * q + 0x800180
    ∧ (Reg.LINK_CAP_MEASq_EXP l q).key = 0x2000 * l + 0x20 * q + 0x800188
    ∧ (Reg.LINK_CAP_MEASq_MANT l q).key = 0x2000 * l + 0x20 * q + 0x800190 := by
  simp only [Field.key, Reg.LINK_CAP_MEASq_TYPE, Reg.LINK_CAP_MEASq_EXP, Reg.LINK_CAP_MEASq_MANT]
  omega

/-- The head of the accepted frame is copied. -/
def Block.takeCapHead (l : Nat) (bs : List Byte) (b : Block) : Block :=
  let b := ((b.wr (Reg.LINK_CAP_ID_VENDOR l) (field bs 4 2)).wr (Reg.LINK_CAP_ID_TYPE l) (field bs 6 2)).wr
    (Reg.LINK_CAP_FW_FW l) (field bs 8 4)
  let b := b.wr64 (Reg.LINK_CAP_SN_LO_SN l) (Reg.LINK_CAP_SN_HI_SN l) (field bs 12 8)
  let b := (b.wr (Reg.LINK_CAP_TIMING_DT l) (field bs 20 2)).wr (Reg.LINK_CAP_TIMING_MINP l) (field bs 22 2)
  let b := (b.wr (Reg.LINK_CAP_DAB_DAB_MIN l) (field bs 24 2)).wr (Reg.LINK_CAP_DAB_DAB_MAX l) (field bs 26 2)
  b.wr (Reg.LINK_CAP_FLAGS_FLAGS l) (field bs 64 4)

/-- One of its measurements is copied. -/
def takeMeas (l : Nat) (bs : List Byte) (q : Nat) (b : Block) : Block :=
  ((b.wr (Reg.LINK_CAP_MEASq_TYPE l q) (field bs (32 + 4 * q) 1)).wr (Reg.LINK_CAP_MEASq_EXP l q)
    (field bs (33 + 4 * q) 1)).wr (Reg.LINK_CAP_MEASq_MANT l q) (field bs (34 + 4 * q) 2)

theorem Block.takeCap_eq (l : Nat) (bs : List Byte) (b : Block) :
    b.takeCap l bs = (b.takeCapHead l bs).eachOf (List.range 8) (takeMeas l bs) := rfl

theorem takeMeas_onLanes (hl : l < 192) {q : Nat} (hq : q < 8) : OnLanes b (takeMeas l bs q b) := by
  obtain ⟨htype, hexp, hmant⟩ := meas_keys l q
  exact (((OnLanes.refl b).wr (by rw [Field.ofLanes, htype]; omega) _).wr (by rw [Field.ofLanes, hexp]; omega) _).wr
    (by rw [Field.ofLanes, hmant]; omega) _

theorem Block.takeCapHead_onLanes (hl : l < 192) : OnLanes b (b.takeCapHead l bs) := by
  obtain ⟨hvendor, htype, hfw, hlo, hhi, hdt, hminp, hmin, hmax, hflags⟩ := cap_keys l
  exact ((((((((((OnLanes.refl b).wr (by rw [Field.ofLanes, hvendor]; omega) _).wr (by rw [Field.ofLanes, htype]; omega) _).wr
    (by rw [Field.ofLanes, hfw]; omega) _).wr (by rw [Field.ofLanes, hlo]; omega) _).wr
    (by rw [Field.ofLanes, hhi]; omega) _).wr (by rw [Field.ofLanes, hdt]; omega) _).wr
    (by rw [Field.ofLanes, hminp]; omega) _).wr (by rw [Field.ofLanes, hmin]; omega) _).wr
    (by rw [Field.ofLanes, hmax]; omega) _).wr (by rw [Field.ofLanes, hflags]; omega) _

theorem Block.takeCap_onLanes (hl : l < 192) : OnLanes b (b.takeCap l bs) := by
  rw [Block.takeCap_eq]
  exact (Block.takeCapHead_onLanes hl).eachOf fun q hq _ => takeMeas_onLanes hl (List.mem_range.mp hq)

theorem Block.takeCap_lane : (b.takeCap l bs).lane l = b.lane l := by
  have hkeep : Keeps [.regs] (b.takeCapHead l bs) ((b.takeCapHead l bs).eachOf (List.range 8) (takeMeas l bs)) :=
    Block.eachOf_keeps _ _ (fun _ _ c => ((c.wr_keeps _ _).trans (Block.wr_keeps _ _ _)).trans (Block.wr_keeps _ _ _)) _
  exact congrArg (SMap.look default · l) (hkeep .lanes (by decide))

/-- The measurements leave the fields before them alone. -/
theorem Block.takeCap_rd_head {f : Field} (hf : f.key < 0x2000 * l + 0x800180) :
    (b.takeCap l bs).rd f = (b.takeCapHead l bs).rd f := by
  rw [Block.takeCap_eq]
  refine Block.eachOf_rd (fun q _ c => ?_) _
  obtain ⟨htype, hexp, hmant⟩ := meas_keys l q
  rw [takeMeas, Block.rd_wr_ne _ _ _ _ (by omega), Block.rd_wr_ne _ _ _ _ (by omega), Block.rd_wr_ne _ _ _ _ (by omega)]

theorem Block.takeCap_rd : (b.takeCap l bs).rd (Reg.LINK_CAP_ID_VENDOR l) = field bs 4 2 % 2 ^ 16
    ∧ (b.takeCap l bs).rd (Reg.LINK_CAP_ID_TYPE l) = field bs 6 2 % 2 ^ 16
    ∧ (b.takeCap l bs).rd (Reg.LINK_CAP_TIMING_DT l) = field bs 20 2 % 2 ^ 16
    ∧ (b.takeCap l bs).rd (Reg.LINK_CAP_TIMING_MINP l) = field bs 22 2 % 2 ^ 16 := by
  obtain ⟨hvendor, htype, hfw, hlo, hhi, hdt, hminp, hmin, hmax, hflags⟩ := cap_keys l
  have width : (Reg.LINK_CAP_ID_VENDOR l).width = 16 ∧ (Reg.LINK_CAP_ID_TYPE l).width = 16
      ∧ (Reg.LINK_CAP_TIMING_DT l).width = 16 ∧ (Reg.LINK_CAP_TIMING_MINP l).width = 16 := ⟨rfl, rfl, rfl, rfl⟩
  refine ⟨?_, ?_, ?_, ?_⟩ <;> rw [Block.takeCap_rd_head (by omega)] <;>
    simp [Block.takeCapHead, Block.wr64, Block.rd_wr_ne, Block.rd_wr_same, hvendor, htype, hfw, hlo, hhi, hdt, hminp, hmin,
      hmax, hflags, width]

/-! ### The judgement of a frame (R187) -/

/-- The serial number of a slot is none of the lanes' registers. -/
theorem OnLanes.serial {c : Block} (h : OnLanes b c) (k : Nat) :
    c.rd64 (Reg.CELL_SN_LO_SN k) (Reg.CELL_SN_HI_SN k) = b.rd64 (Reg.CELL_SN_LO_SN k) (Reg.CELL_SN_HI_SN k) := by
  obtain ⟨hr, -⟩ := h
  rw [Block.rd64, hr _ (by simp only [Field.ofLanes, Field.key, Reg.CELL_SN_LO_SN]; omega),
    hr _ (by simp only [Field.ofLanes, Field.key, Reg.CELL_SN_HI_SN]; omega)]
  rfl

/-- The record of a lane whose exchange is complete. -/
def Lane.exchanged (y : Lane) : Lane := { y with ready := true, attempts := 0 }

section
variable (hl : l < 192) (hres : (b.lane l).resultBy = none)
include hl hres

/-- Outside a test a frame is judged by the checks alone. -/
theorem Block.capJudge_eq : b.capJudge l bs = match b.capCause bs (b.capDelay l bs) with
    | some c => (b.delayShown l bs).laneReject l c
    | none =>
      if (b.lane l).cap = some bs then
        (((b.delayShown l bs).takeCap l bs).takeSerial l (field bs 12 8)).updLane l Lane.exchanged
      else (b.delayShown l bs).updLane l fun y => { y with cap := some bs } := by
  rw [← (Block.delayShown_onLanes (bs := bs) hl).capCause]
  simp only [Block.capJudge, hres]
  rfl

theorem Block.capJudge_refused {c : Nat} (hc : b.capCause bs (b.capDelay l bs) = some c) :
    b.capJudge l bs = (b.delayShown l bs).laneReject l c := by
  rw [Block.capJudge_eq hl hres, hc]

theorem Block.capJudge_first (hc : b.capCause bs (b.capDelay l bs) = none) (hcap : (b.lane l).cap ≠ some bs) :
    b.capJudge l bs = (b.delayShown l bs).updLane l fun y => { y with cap := some bs } := by
  rw [Block.capJudge_eq hl hres, hc]
  exact if_neg hcap

/-- A serial number that the slot knows already leaves its record alone. -/
theorem Block.capJudge_second (hc : b.capCause bs (b.capDelay l bs) = none) (hcap : (b.lane l).cap = some bs)
    (hsn : b.rd64 (Reg.CELL_SN_LO_SN l) (Reg.CELL_SN_HI_SN l) = field bs 12 8) :
    b.capJudge l bs = ((b.delayShown l bs).takeCap l bs).updLane l Lane.exchanged := by
  have hsn' := ((Block.delayShown_onLanes (b := b) (bs := bs) hl).trans (Block.takeCap_onLanes (bs := bs) hl)).serial l
  rw [Block.capJudge_eq hl hres, hc]
  exact (if_pos hcap).trans (congrArg (Block.updLane l Lane.exchanged) (if_pos (hsn'.trans hsn)))

end

theorem Block.delayShown_rd : (b.delayShown l bs).rd (Reg.LINK_DELAY_DELAY l)
    = (clampI (b.capDelay l bs) 0 4095).toNat := by
  have hlt : (clampI (b.capDelay l bs) 0 4095).toNat < 2 ^ 12 := by
    unfold clampI
    split
    · decide
    · split <;> omega
  rw [Block.delayShown, Block.rd_wr_ne _ _ _ _ (by simp), Block.rd_wr_same]
  exact Nat.mod_eq_of_lt hlt

theorem Block.delayShown_regsBut : RegsBut [Reg.LINK_DELAY_DELAY l, Reg.LINK_DELAY_TURN l] b (b.delayShown l bs) :=
  (b.wr_regsBut _ _).trans_append (Block.wr_regsBut _ _ _)

end

/-! ### The statement -/

/-- Settles O46: a report by whether it is kept, a bad frame by what is counted, and a CAPABILITY frame by what its checks
    answer and whether its like was received before. -/
theorem laneFrames : Obligations.LaneFrames := by
  unfold Obligations.LaneFrames
  intro s l bs st x good delay late
  have hl := l.isLt
  have hport : RegsBut [Reg.LINK_STAT_PORT l] s.blk (s.blk.portShown l bs) := s.blk.wr_regsBut _ _
  have hkeep : Keeps [.regs, .lanes] s.blk (s.blk.portShown l bs) := (s.blk.wr_keeps _ _).mono (by decide)
  refine ⟨fun hg hs ht hn hp hnow => ?kept, fun hg hs hlate => ?late, fun hlen hs hi hc => ?bad, fun hg hs ht hr hres => ?cap⟩
  case kept =>
    refine does_onBlk (f := (·.reportFrameRx l bs)) rfl ?_
    rw [Block.reportFrameRx_good hg hs, if_pos ⟨ht, hn, hp, hnow⟩]
    exact ⟨Block.lane_updLane_same (s.blk.portShown l bs) l fun y => { y with rpt := some (reportOf bs) }, hport,
      hkeep.andThen (Block.updLane_keeps _ _ _) (by decide)⟩
  case late =>
    refine does_onBlk (f := (·.reportFrameRx l bs)) rfl ?_
    rw [Block.reportFrameRx_good hg hs, if_neg fun ⟨_, _, hp, hnow⟩ => hlate.elim (· hp) (absurd hnow <| Nat.not_le.mpr ·)]
    exact ⟨rfl, hport, hkeep⟩
  case bad =>
    have counted : ((s.blk.count (Reg.LINK_CRC_CNT_COUNT l) 1).updLane l id).lane l = x
        ∧ ((s.blk.count (Reg.LINK_CRC_CNT_COUNT l) 1).updLane l id).rd (Reg.LINK_CRC_CNT_COUNT l)
          = satNat 32 (s.blk.rd (Reg.LINK_CRC_CNT_COUNT l) + 1)
        ∧ RegsBut [Reg.LINK_CRC_CNT_COUNT l] s.blk ((s.blk.count (Reg.LINK_CRC_CNT_COUNT l) 1).updLane l id)
        ∧ Keeps [.regs, .lanes] s.blk ((s.blk.count (Reg.LINK_CRC_CNT_COUNT l) 1).updLane l id) :=
      ⟨Block.lane_updLane_same _ _ _, Block.rd_count_sat _ _ _, s.blk.wr_regsBut _ _,
        ((s.blk.wr_keeps _ _).mono (by decide)).andThen (Block.updLane_keeps _ _ _) (by decide)⟩
    rintro c hm
    obtain rfl | rfl : c = .reportFrameRx l bs ∨ c = .capabilityFrameRx l bs := by simpa using hm
    · exact does_onBlk (f := (·.reportFrameRx l bs)) rfl (Block.reportFrameRx_bad hlen hs hi hc ▸ counted)
    · exact does_onBlk (f := (·.capabilityFrameRx l bs)) rfl (Block.capabilityFrameRx_bad hlen hs hi hc ▸ counted)
  case cap =>
    have hon : OnLanes s.blk (s.blk.portShown l bs) := Block.portShown_onLanes hl
    have hframe := Block.capabilityFrameRx_good hg hs ht hr
    have hcause : (s.blk.portShown l bs).capCause bs ((s.blk.portShown l bs).capDelay l bs) = s.blk.capCause bs delay :=
      hon.capCause _
    have hres' : ((s.blk.portShown l bs).lane l).resultBy = none := hres
    refine ⟨fun hnone hcap => ?first, fun hnone hcap hsn => ?second, fun c hc hlog => ?refused⟩
    case first =>
      refine does_onBlk (f := (·.capabilityFrameRx l bs)) rfl ?_
      have hcap' : ((s.blk.portShown l bs).lane l).cap ≠ some bs := hcap
      rw [hframe, Block.capJudge_first hl hres' (hcause.trans hnone) hcap']
      exact ⟨Block.lane_updLane_same ((s.blk.portShown l bs).delayShown l bs) l fun y => { y with cap := some bs },
        Block.delayShown_rd, hport.trans_append Block.delayShown_regsBut,
        ((hon.trans (Block.delayShown_onLanes hl)).updLane l _).2⟩
    case second =>
      refine does_onBlk (f := (·.capabilityFrameRx l bs)) rfl ?_
      have hcap' : ((s.blk.portShown l bs).lane l).cap = some bs := hcap
      rw [hframe, Block.capJudge_second hl hres' (hcause.trans hnone) hcap' ((hon.serial l).trans hsn)]
      obtain ⟨hvendor, htype, hdt, hminp⟩ :=
        Block.takeCap_rd (b := (s.blk.portShown l bs).delayShown l bs) (l := l) (bs := bs)
      exact ⟨(Block.lane_updLane_same _ _ _).trans (congrArg Lane.exchanged Block.takeCap_lane), hvendor, htype, hdt, hminp,
        (((hon.trans (Block.delayShown_onLanes hl)).trans (Block.takeCap_onLanes hl)).updLane l _).2⟩
    case refused =>
      refine does_onBlk (f := (·.capabilityFrameRx l bs)) rfl ?_
      rw [hframe, Block.capJudge_refused hl hres' (hcause.trans hc)]
      obtain ⟨hs6, hcause, hentered, hlogs, hk⟩ := (hon.trans (Block.delayShown_onLanes hl)).laneReject hl
        (Block.capCause_lt hc) hlog
      have htb := hk .tb (by decide)
      exact ⟨hs6, hcause, hlogs, hentered.trans (htb ▸ rfl), hk⟩

end Sys2Proof.Machine
end

section
/-! PROOFS. The tests of a lane (R203, R204): the checker's count of bits, the end of a test, its dark time and its
    result. -/

namespace Sys2Proof.Machine

/-! ### The registers of a test -/

theorem laneTest_ofLanes {l : Nat} (hl : l < 192) : (Reg.LINK_TEST_STAT_DONE l).ofLanes ∧ (Reg.LINK_TEST_STAT_PASS l).ofLanes
    ∧ (Reg.LINK_TEST_STAT_SYNC l).ofLanes ∧ (Reg.LINK_PRBS_ERR_COUNT l).ofLanes ∧ (Reg.LINK_PRBS_FAR_COUNT l).ofLanes
    ∧ (Reg.LINK_PRBS_BITS_LO_BITS l).ofLanes ∧ (Reg.LINK_PRBS_BITS_HI_BITS l).ofLanes := by
  simp only [Field.ofLanes, lane_keys]
  omega

/-- A 64-bit value in two registers reads as it was written. -/
theorem Block.rd64_wr64 {lo hi : Field} (hne : lo.key ≠ hi.key) (hlo : lo.width = 32) (hhi : hi.width = 32) (v : Nat)
    (b : Block) : (b.wr64 lo hi v).rd64 lo hi = v % 2 ^ 64 := by
  rw [Block.rd64, Block.wr64, Block.rd_wr_ne _ _ _ _ hne, Block.rd_wr_same, Block.rd_wr_same, hlo, hhi]
  omega

/-! ### The checker's count (R203) -/

section
variable (l t : Nat) (b : Block)

/-- The record of a lane whose checker is out of sync. -/
def Lane.unsynced (x : Lane) : Lane := { x with syncAt := none }

theorem Block.addBits_regsBut :
    RegsBut [Reg.LINK_PRBS_BITS_LO_BITS l, Reg.LINK_PRBS_BITS_HI_BITS l] b (b.addBits l t) := by
  unfold Block.addBits
  split
  · exact RegsBut.refl _ b
  · exact b.wr64_regsBut _ _ _

theorem Block.addBits_keeps : Keeps [.regs, .lanes] b (b.addBits l t) := by
  unfold Block.addBits
  split
  · exact Keeps.refl _ b
  · exact ((b.wr64_keeps _ _ _).mono (by decide)).andThen (Block.updLane_keeps _ _ _) (by decide)

theorem Block.addBits_lane : ((b.addBits l t).lane l).unsynced = (b.lane l).unsynced := by
  unfold Block.addBits
  split
  · rfl
  · rw [Block.lane_updLane_same]
    rfl

theorem Block.addBits_bits {t0 : Nat} (h : (b.lane l).syncAt = some t0) :
    (b.addBits l t).rd64 (Reg.LINK_PRBS_BITS_LO_BITS l) (Reg.LINK_PRBS_BITS_HI_BITS l)
      = (b.rd64 (Reg.LINK_PRBS_BITS_LO_BITS l) (Reg.LINK_PRBS_BITS_HI_BITS l) + (t - t0) / 80) % 2 ^ 64 := by
  rw [Block.addBits, h]
  exact Block.rd64_wr64 (by simp) rfl rfl _ b

theorem Block.syncStops_regsBut : RegsBut [Reg.LINK_PRBS_BITS_LO_BITS l, Reg.LINK_PRBS_BITS_HI_BITS l,
    Reg.LINK_TEST_STAT_SYNC l] b (b.syncStops l t) :=
  (b.addBits_regsBut l t).trans_append (Block.wr_regsBut _ _ _)

theorem Block.syncStops_keeps : Keeps [.regs, .lanes] b (b.syncStops l t) :=
  ((b.addBits_keeps l t).andThen (Block.updLane_keeps _ _ _) (by decide)).andThen (Block.wr_keeps _ _ _) (by decide)

theorem Block.syncStops_lane : (b.syncStops l t).lane l = (b.lane l).unsynced :=
  (Block.lane_updLane_same (b.addBits l t) l Lane.unsynced).trans (b.addBits_lane l t)

theorem Block.syncStops_sync : (b.syncStops l t).on (Reg.LINK_TEST_STAT_SYNC l) = false :=
  Block.on_flag_same _ _ _ Nat.one_pos

theorem Block.syncStops_bits {t0 : Nat} (h : (b.lane l).syncAt = some t0) :
    (b.syncStops l t).rd64 (Reg.LINK_PRBS_BITS_LO_BITS l) (Reg.LINK_PRBS_BITS_HI_BITS l)
      = (b.rd64 (Reg.LINK_PRBS_BITS_LO_BITS l) (Reg.LINK_PRBS_BITS_HI_BITS l) + (t - t0) / 80) % 2 ^ 64 := by
  rw [← b.addBits_bits l t h, Block.rd64, Block.syncStops, Block.rd_flag_ne _ _ _ _ (by simp),
    Block.rd_flag_ne _ _ _ _ (by simp)]
  rfl

theorem Block.syncStops_onLanes {l : Nat} (hl : l < 192) (t : Nat) (b : Block) : OnLanes b (b.syncStops l t) := by
  obtain ⟨-, -, hsync, -, -, hlo, hhi⟩ := laneTest_ofLanes hl
  exact .of_frame (b.syncStops_regsBut l t) (b.syncStops_keeps l t) (by simp only [List.forall_mem_cons]; exact
    ⟨hlo, hhi, hsync, nofun⟩) (by decide)

end

/-! ### The result (R203) -/

/-- The record of a lane whose test has its result. -/
def Lane.judged (x : Lane) : Lane := { x with resultBy := none }

/-- A test's result is shown. -/
def Block.resultShown (l : Nat) (pass : Bool) (b : Block) : Block :=
  ((b.flag (Reg.LINK_TEST_STAT_DONE l) true).flag (Reg.LINK_TEST_STAT_PASS l) pass).updLane l Lane.judged

section
variable {l : Nat} {b c : Block}

theorem Block.testResult_eq (pass inj : Bool) : b.testResult l pass inj = if pass then b.resultShown l pass
    else (b.resultShown l pass).raiseOwn { source := 100, unitType := 2, idx := l, injected := inj } none := rfl

theorem Block.resultShown_onLanes (hl : l < 192) (pass : Bool) : OnLanes b (b.resultShown l pass) := by
  obtain ⟨hdone, hpass, -⟩ := laneTest_ofLanes hl
  exact (((OnLanes.refl b).wr hdone _).wr hpass _).updLane l _

theorem Block.testResult_lane (pass inj : Bool) : (b.testResult l pass inj).lane l = (b.lane l).judged := by
  have hshown : (b.resultShown l pass).lane l = (b.lane l).judged := Block.lane_updLane_same _ _ _
  rw [Block.testResult_eq]
  split
  · exact hshown
  · rw [Block.raiseOwn_lane, hshown]

theorem Block.testResult_keeps (hl : l < 192) (pass inj : Bool) :
    Keeps (.lanes :: raiseParts) b (b.testResult l pass inj) := by
  have hshown : Keeps (.lanes :: raiseParts) b (b.resultShown l pass) := (Block.resultShown_onLanes hl pass).2.mono (by decide)
  exact Keeps.ite (fun _ => hshown) fun _ => hshown.andThen (Block.keeps_of_still (Block.raiseOwn_still _ none _)) (by decide)

/-- A test without a pass is logged. -/
theorem Block.testResult_logs (hl : l < 192) (hlog : Loggable b { source := 100, unitType := 2, idx := l }) (inj : Bool) :
    Logs { source := 100, unitType := 2, idx := l } b (b.testResult l false inj) :=
  ((Block.resultShown_onLanes hl false).raiseOwn (o := { source := 100, unitType := 2, idx := l, injected := inj }) hlog
    none).1

/-! ### The end of a test (R203, R204) -/

/-- The record of a lane whose transmitter goes dark at uptime `t`. -/
def Lane.goDark (t : Nat) (x : Lane) : Lane := { x with pattern := false, dark := true, darkAt := t, resultBy := some t }

/-- The checker stops and the transmitter goes dark. -/
def Block.goesDark (l t : Nat) (b : Block) : Block := (b.syncStops l t).updLane l (Lane.goDark t)

theorem Block.goesDark_onLanes (hl : l < 192) (t : Nat) : OnLanes b (b.goesDark l t) :=
  (Block.syncStops_onLanes hl t b).updLane l _

theorem Block.goesDark_lane (t : Nat) : (b.goesDark l t).lane l = (b.lane l).unsynced.goDark t :=
  (Block.lane_updLane_same _ _ _).trans (congrArg (Lane.goDark t) (b.syncStops_lane l t))

/-- The result of a populated lane's test comes in a frame of its cell. -/
theorem Block.testEnds_populated (hl : l < 192) (hp : b.populated l = true) (t : Nat) :
    b.testEnds l t false = b.goesDark l t := by
  have hp' : (b.goesDark l t).populated l = true := ((Block.goesDark_onLanes hl t).populated l).trans hp
  show (if !(b.goesDark l t).populated l then _ else b.goesDark l t) = _
  rw [hp']
  rfl

/-- A lane enabled for its test only is judged by the module's checker alone. -/
theorem Block.testEnds_unpopulated (hl : l < 192) (hp : b.populated l = false) (t : Nat) :
    (b.testEnds l t false).lane l = ((b.lane l).unsynced.goDark t).judged
    ∧ Keeps (.lanes :: raiseParts) b (b.testEnds l t false) := by
  have hp' : (b.goesDark l t).populated l = false := ((Block.goesDark_onLanes hl t).populated l).trans hp
  have heq : b.testEnds l t false = ((b.goesDark l t).wr (Reg.LINK_PRBS_FAR_COUNT l) 0xFFFFFFFF).testResult l
      ((b.goesDark l t).ownPass l) false := by
    show (if !(b.goesDark l t).populated l then _ else b.goesDark l t) = _
    rw [hp']
    rfl
  obtain ⟨-, -, -, -, hfar, -⟩ := laneTest_ofLanes hl
  rw [heq, Block.testResult_lane]
  exact ⟨congrArg Lane.judged (Block.goesDark_lane t),
    (((Block.goesDark_onLanes hl t).wr hfar _).2.mono (by decide)).andThen (Block.testResult_keeps hl _ _) (by decide)⟩

theorem Block.goesDark_rd {t : Nat} {f : Field} (hf : f.key ∉ [Reg.LINK_PRBS_BITS_LO_BITS l, Reg.LINK_PRBS_BITS_HI_BITS l,
    Reg.LINK_TEST_STAT_SYNC l].map Field.key) : (b.goesDark l t).rd f = b.rd f := b.syncStops_regsBut l t f hf

theorem Block.goesDark_sync (t : Nat) : (b.goesDark l t).on (Reg.LINK_TEST_STAT_SYNC l) = false := b.syncStops_sync l t

/-- TEST_END of a test with an end. -/
theorem Block.testEnd_eq (hp : (b.lane l).pattern = true) (hlen : (b.lane l).lenExp ≠ 0) (errs : Nat) :
    let fin := (b.lane l).patternAt + 80 * 2 ^ (b.lane l).lenExp
    b.testEnd l errs = ((b.untilUp fin).count (Reg.LINK_PRBS_ERR_COUNT l) errs).testEnds l fin false :=
  if_neg (by simp [hp, hlen])

theorem Block.testEnd_idle (h : (b.lane l).pattern = false ∨ (b.lane l).lenExp = 0) (errs : Nat) : b.testEnd l errs = b :=
  if_pos (by simpa using h)

/-- From when on a checker that gains sync compares. -/
def Block.syncFrom (b : Block) (l : Nat) : Nat :=
  if b.on (Reg.LINK_TEST_STAT_SYNC_LOST l) = false ∧ b.tb.up ≤ (b.lane l).patternAt + 2 * usPs then (b.lane l).patternAt
  else b.tb.up - 5120

/-- PRBS_SYNC_GAIN of a checker out of sync. -/
theorem Block.prbsSyncGain_eq (hp : (b.lane l).pattern = true) (hs : (b.lane l).syncAt = none) : b.prbsSyncGain l
    = (b.flag (Reg.LINK_TEST_STAT_SYNC l) true).updLane l fun y => { y with syncAt := some (b.syncFrom l) } := by
  simp only [Block.prbsSyncGain, hp, hs, Block.syncFrom, Bool.and_eq_true, Bool.not_eq_true', decide_eq_true_eq]
  rfl

/-- TEST_RESULT_TIMEOUT while a result is awaited. -/
theorem Block.testResultTimeout_eq {t0 : Nat} (h : (b.lane l).resultBy = some t0) : b.testResultTimeout l
    = (b.untilUp (t0 + b.rd Reg.CELL_TIMEOUT_LINK_MS * msPs)).testResult l false (b.lane l).inj := by
  rw [Block.testResultTimeout, h]

/-- PRBS_SYNC_LOSS of a checker in sync. -/
theorem Block.prbsSyncLoss_eq {t0 : Nat} (h : (b.lane l).syncAt = some t0) : b.prbsSyncLoss l
    = ((b.syncStops l b.tb.up).count (Reg.LINK_PRBS_ERR_COUNT l) 32).flag (Reg.LINK_TEST_STAT_SYNC_LOST l) true :=
  if_neg (by simp [h])

/-- The errors of a test are counted once its end has come. -/
theorem Block.errsCounted_onLanes (hl : l < 192) (t errs : Nat) :
    OnLanes (b.untilUp t) ((b.untilUp t).count (Reg.LINK_PRBS_ERR_COUNT l) errs) := by
  obtain ⟨-, -, -, herr, -⟩ := laneTest_ofLanes hl
  exact (OnLanes.refl _).wr herr _

theorem Block.untilUp_populated (t l : Nat) (b : Block) : (b.untilUp t).populated l = b.populated l := by
  simp only [Block.populated, (b.untilUp_frame t).1 Reg.SYS_CONV_POP_NPOP (by decide)]

/-! ### The end of the dark time (R204) -/

/-- The record of a lane that no host test enables any more. -/
def Lane.untested (x : Lane) : Lane := { x with hostTest := false }

/-- The dark time of a lane is over. -/
def Block.darkOver (l : Nat) (b : Block) : Block :=
  (b.untilUp ((b.lane l).darkAt + 20 * usPs)).updLane l Lane.untested

theorem Block.testDarkEnd_eq (h : (b.lane l).dark = true) : b.testDarkEnd l
    = if (b.darkOver l).laneEnabled l then (b.darkOver l).laneTo l 1 else ((b.darkOver l).laneTo l 0).powerEngines :=
  if_neg (by simp [h])

theorem Block.darkOver_frame : RegsBut adjFields b (b.darkOver l) ∧ Keeps [.regs, .tb, .lanes] b (b.darkOver l) := by
  obtain ⟨hr, hk⟩ := b.untilUp_frame ((b.lane l).darkAt + 20 * usPs)
  exact ⟨hr, (hk.mono (by decide)).andThen (Block.updLane_keeps _ _ _) (by decide)⟩

/-- After the test a lane is enabled as its slot is populated. -/
theorem Block.darkOver_laneEnabled (hup : b.lanesUp = true) :
    (b.darkOver l).laneEnabled l = (b.boot.configured && b.populated l) := by
  obtain ⟨hr, hk⟩ := b.darkOver_frame (l := l)
  have hboot : (b.darkOver l).boot = b.boot := hk .boot (by decide)
  have hlanes : (b.darkOver l).lanesUp = b.lanesUp := by
    simp only [Block.lanesUp, Block.on, hr Reg.SYS_PWR_STAT_STATE (by decide), hr Reg.SYS_PWR_STAT_MOVING (by decide)]
  have hpop : (b.darkOver l).populated l = b.populated l := by
    simp only [Block.populated, hr Reg.SYS_CONV_POP_NPOP (by decide)]
  have hhost : ((b.darkOver l).lane l).hostTest = false := congrArg Lane.hostTest (Block.lane_updLane_same _ _ _)
  rw [Block.laneEnabled, hlanes, hboot, hpop, hhost, hup, Bool.true_and, Bool.or_false]

/-- The lane enters its next state. -/
theorem Block.darkOver_laneTo (st : Nat) : RegsBut (laneFields l ++ adjFields) b ((b.darkOver l).laneTo l st)
    ∧ Keeps [.regs, .tb, .lanes] b ((b.darkOver l).laneTo l st) := by
  obtain ⟨hr, hk⟩ := b.darkOver_frame (l := l)
  exact ⟨(hr.trans_append (Block.laneTo_regsBut l st _)).swap, hk.andThen (Block.laneTo_keeps _ _ _) (by decide)⟩

/-- Which engines are powered shows in two registers. -/
theorem Block.powerEngines_regsBut : RegsBut [Reg.LINK_ENGINES_ON, Reg.CLK_STAT_LANE_LOCK] b b.powerEngines :=
  (b.wr_regsBut _ _).trans_append (Block.wr_regsBut _ _ _)

theorem Block.powerEngines_keeps : Keeps [.regs] b b.powerEngines := (b.wr_keeps _ _).trans (Block.wr_keeps _ _ _)

theorem Block.powerEngines_rd {f : Field} (hf : f.ofLanes) : b.powerEngines.rd f = b.rd f :=
  Block.powerEngines_regsBut f (hf.not_mem (by decide))

end

/-! ### The statement -/

/-- Settles O47: each command of a test by the branch its condition takes, the end of a test by whether its lane is
    populated, and the dark time by whether its lane stays enabled. -/
theorem laneTests : Obligations.LaneTests := by
  unfold Obligations.LaneTests
  intro s l errs x bits fin
  have hl := l.isLt
  refine ⟨fun hs hp hd => ?pattern, fun hp hsync => ?gain, fun t0 hsync => ?loss,
    fun hp hlen => ⟨fun hpop => ?populated, fun hpop => ?unpopulated⟩, fun h => ?idle,
    fun hd hup => ⟨fun hc hpop => ?enabled, fun hoff => ?disabled⟩, fun t0 ht0 => ?result⟩
  case pattern =>
    refine does_onBlk (f := (·.testPatternStart l)) rfl ?_
    obtain ⟨hr, hk⟩ := s.blk.untilUp_frame (x.entered + 337920)
    rw [Block.testPatternStart, if_neg (by simp [hs, show (s.blk.lane l).pattern = false from hp,
      show (s.blk.lane l).dark = false from hd])]
    refine ⟨(Block.lane_updLane_same _ _ _).trans ?_, s.blk.le_untilUp _, hr,
      (hk.mono (by decide)).andThen (Block.updLane_keeps _ _ _) (by decide)⟩
    rw [Block.untilUp_lane]
  case gain =>
    refine does_onBlk (f := (·.prbsSyncGain l)) rfl ?_
    rw [Block.prbsSyncGain_eq hp hsync]
    have hshown := Block.on_flag_same (Reg.LINK_TEST_STAT_SYNC l) true s.blk Nat.one_pos
    have hregs := s.blk.flag_regsBut (Reg.LINK_TEST_STAT_SYNC l) true
    exact ⟨hshown, Block.lane_updLane_same (s.blk.flag _ true) l fun y => { y with syncAt := some (s.blk.syncFrom l) }, hregs,
      ((s.blk.wr_keeps _ _).mono (by decide)).andThen (Block.updLane_keeps _ _ _) (by decide)⟩
  case loss =>
    refine does_onBlk (f := (·.prbsSyncLoss l)) rfl ?_
    rw [Block.prbsSyncLoss_eq (hsync)]
    have hr := s.blk.syncStops_regsBut l s.blk.tb.up
    refine ⟨?_, Block.on_flag_same _ _ _ Nat.one_pos, s.blk.syncStops_lane l _, ?_, ?_,
      ((s.blk.syncStops_keeps l _).andThen (Block.wr_keeps _ _ _) (by decide)).andThen (Block.wr_keeps _ _ _) (by decide)⟩
    · rw [Block.on_flag_ne _ _ _ _ (by simp), Block.on_congr (Block.rd_count_ne _ _ _ _ (by simp)), Block.syncStops_sync]
    · rw [Block.rd_flag_ne _ _ _ _ (by simp), Block.rd_count_sat, hr _ (by simp)]
      rfl
    · rw [← Block.syncStops_bits _ _ _ hsync]
      simp [Block.rd64, Block.rd_flag_ne, Block.rd_count_ne]
  case populated =>
    refine does_onBlk (f := (·.testEnd l errs.toNat)) rfl ?_
    have hon := Block.errsCounted_onLanes (b := s.blk) hl fin errs.toNat
    have hpop' := (hon.populated l).trans ((s.blk.untilUp_populated _ _).trans hpop)
    have hlane := Block.goesDark_lane (b := (s.blk.untilUp fin).count (Reg.LINK_PRBS_ERR_COUNT l) errs.toNat) (l := l) fin
    rw [Block.testEnd_eq hp hlen, Block.testEnds_populated hl hpop',
      hlane]
    obtain ⟨-, hdark⟩ := Block.goesDark_onLanes
      (b := (s.blk.untilUp fin).count (Reg.LINK_PRBS_ERR_COUNT l) errs.toNat) hl fin
    refine ⟨rfl, rfl, rfl, rfl, ?_, Block.goesDark_sync _, ?_, ?_⟩
    · rw [hdark .tb (by decide)]
      exact s.blk.le_untilUp fin
    · obtain ⟨-, -, -, herr, -⟩ := laneTest_ofLanes hl
      rw [Block.goesDark_rd (by simp), Block.rd_count_sat, Block.untilUp_rd_lane herr]
      rfl
    · exact (((s.blk.untilUp_frame fin).2.mono (by decide)).andThen hon.2 (by decide)).andThen hdark (by decide)
  case unpopulated =>
    refine does_onBlk (f := (·.testEnd l errs.toNat)) rfl ?_
    have hon := Block.errsCounted_onLanes (b := s.blk) hl fin errs.toNat
    have hpop' := (hon.populated l).trans ((s.blk.untilUp_populated _ _).trans hpop)
    obtain ⟨hlane, hk⟩ := Block.testEnds_unpopulated hl hpop' fin
    rw [Block.testEnd_eq hp hlen, hlane]
    exact ⟨rfl, rfl, rfl, rfl, ((hon.2.mono (by decide)).andThen hk (by decide)).untilUp⟩
  case idle =>
    refine does_onBlk (f := (·.testEnd l errs.toNat)) rfl ?_
    rw [Block.testEnd_idle h]
    exact ⟨RegsBut.refl _ _, Keeps.refl _ _⟩
  case enabled =>
    refine does_onBlk (f := (·.testDarkEnd l)) rfl ?_
    rw [Block.testDarkEnd_eq hd, if_pos (by rw [Block.darkOver_laneEnabled hup, hc, hpop]; rfl)]
    obtain ⟨hr, hk⟩ := Block.darkOver_laneTo (b := s.blk) (l := l) 1
    refine ⟨Block.laneTo_state (by decide) _, ?_, hr, hk⟩
    rw [Block.laneTo_tb]
    exact s.blk.le_untilUp _
  case disabled =>
    refine does_onBlk (f := (·.testDarkEnd l)) rfl ?_
    rw [Block.testDarkEnd_eq hd, if_neg (by rw [Block.darkOver_laneEnabled hup, hoff]; decide)]
    obtain ⟨hr, hk⟩ := Block.darkOver_laneTo (b := s.blk) (l := l) 0
    refine ⟨?_, ?_, ((hr.trans_append Block.powerEngines_regsBut).swap), hk.andThen Block.powerEngines_keeps (by decide)⟩
    · rw [Block.powerEngines_rd (laneFields_ofLanes hl _ List.mem_cons_self), Block.laneTo_state (by decide)]
    · show (((s.blk.darkOver l).laneTo l 0).lane l).hostTest = false
      rw [Block.laneTo_lane]
      exact Bool.and_false _
  case result =>
    intro b hlog
    refine does_onBlk (f := (·.testResultTimeout l)) rfl ?_
    rw [Block.testResultTimeout_eq ht0]
    exact ⟨Block.testResult_logs hl hlog _, congrArg Lane.resultBy (Block.testResult_lane _ _),
      (Block.testResult_keeps hl _ _).untilUp⟩

end Sys2Proof.Machine
end

section
/-! PROOFS. LINK_TEST_CTRL (R203, R204): what a write of the register comes to, and the start and the stop of a test. -/

namespace Sys2Proof.Machine

/-! ### The register (R206) -/

/-- The fields of LINK_TEST_CTRL. -/
def testCtrl (l : Nat) : List Field :=
  [Reg.LINK_TEST_CTRL_PATTERN l, Reg.LINK_TEST_CTRL_LEN l, Reg.LINK_TEST_CTRL_START l, Reg.LINK_TEST_CTRL_STOP l]

theorem writeFields_testCtrl : ∀ l : Fin 192, writeFields (Reg.LINK_TEST_CTRL_START l).addr = some (testCtrl l) := by
  decide +kernel

theorem testCtrl_plain (l : Nat) : ∀ f ∈ testCtrl l, f.isCr = false := by
  simp only [testCtrl, List.forall_mem_cons]
  exact ⟨rfl, rfl, rfl, rfl, nofun⟩

theorem testCtrl_keys (l : Nat) : ∀ f ∈ testCtrl l, 0x2000 * l + 0x800500 ≤ f.key ∧ f.key < 0x2000 * l + 0x800520 := by
  simp only [testCtrl, List.forall_mem_cons, Field.key, Reg.LINK_TEST_CTRL_PATTERN, Reg.LINK_TEST_CTRL_LEN,
    Reg.LINK_TEST_CTRL_START, Reg.LINK_TEST_CTRL_STOP]
  exact ⟨by omega, by omega, by omega, by omega, nofun⟩

theorem stop_addr (l : Nat) : (Reg.LINK_TEST_CTRL_STOP l).addr = (Reg.LINK_TEST_CTRL_START l).addr := rfl

theorem testCtrl_addr (l : Nat) : (Reg.LINK_TEST_CTRL_START l).addr = 0x1000A0 + 0x400 * l := rfl

/-- The rule of R204 is the one that looks at the register. -/
theorem Block.denyWrite_testCtrl {l : Nat} (hl : l < 192) (v : Nat) (b : Block) :
    b.denyWrite (Reg.LINK_TEST_CTRL_START l).addr v = b.denyTest l v := by
  have hlane : (0x1000A0 + 0x400 * l - 0x1000A0) / 0x400 = l := by omega
  rw [testCtrl_addr, Block.denyWrite, if_neg (by omega), if_neg (by omega), if_neg (by omega), if_neg (by omega),
    if_neg (by omega), if_neg (by omega), if_neg (by omega), if_pos (by omega), hlane]

theorem Block.writeAct_testCtrl {l : Nat} (hl : l < 192) (v : Nat) (held : Bool) (b : Block) :
    b.writeAct (Reg.LINK_TEST_CTRL_START l).addr v held = b.testControl l v := by
  have hlane : (0x1000A0 + 0x400 * l - 0x1000A0) / 0x400 = l := by omega
  rw [testCtrl_addr, Block.writeAct, if_neg (by omega), if_neg (by omega), if_neg (by omega), if_neg (by omega),
    if_neg (by omega), if_pos (by omega), hlane]

/-- PATTERN and LEN are written, and the test is started or stopped. -/
theorem Block.writeOne_testCtrl {l : Nat} (hl : l < 192) (v : Nat) (b : Block) :
    b.writeOne (Reg.LINK_TEST_CTRL_START l).addr v (testCtrl l) = (b.writeLive (testCtrl l) v).testControl l v := by
  have hmod : moduleChannel (Reg.LINK_TEST_CTRL_START l).addr = false := by
    rw [testCtrl_addr, moduleChannel]
    exact decide_eq_false (by omega)
  simp only [Block.writeOne, hmod, Block.writeMaq_plain (testCtrl_plain l), Block.writeAct_testCtrl hl, Bool.false_eq_true,
    if_false]

/-! ### The word that is written -/

section
variable {l : Nat} {b : Block}

/-- START and STOP of a word are the bits above those of PATTERN and LEN. -/
theorem start_bits {w : Nat} (hw : w < 2 ^ 16) : (w + 2 ^ 16).testBit 16 = true ∧ (w + 2 ^ 16).testBit 17 = false := by
  refine ⟨?_, Nat.testBit_lt_two_pow (by omega)⟩
  rw [Nat.add_comm, Nat.testBit_two_pow_add_eq, Nat.testBit_lt_two_pow hw]
  rfl

theorem stop_bits {w : Nat} (hw : w < 2 ^ 16) : (w + 2 ^ 17).testBit 16 = false ∧ (w + 2 ^ 17).testBit 17 = true := by
  rw [Nat.add_comm, Nat.testBit_two_pow_add_eq, Nat.testBit_two_pow_add_gt (by decide), Nat.testBit_lt_two_pow hw,
    Nat.testBit_lt_two_pow (hw.trans (by decide))]
  exact ⟨rfl, rfl⟩

theorem Block.testWord_lt (hp : b.rd (Reg.LINK_TEST_CTRL_PATTERN l) < 4) (hn : b.rd (Reg.LINK_TEST_CTRL_LEN l) < 64) :
    b.testWord l < 2 ^ 16 := by
  unfold Block.testWord
  omega

theorem Block.writeTest_rd {f : Field} (hf : f.key < 0x2000 * l + 0x800500) (v : Nat) :
    (b.writeLive (testCtrl l) v).rd f = b.rd f :=
  Block.writeLive_rd_ne (fun g hg => by have := (testCtrl_keys l g hg).1; omega) v b

theorem Block.writeTest_populated (v : Nat) : (b.writeLive (testCtrl l) v).populated l = b.populated l := by
  have hpop : Reg.SYS_CONV_POP_NPOP.key < 0x800000 := by decide
  simp only [Block.populated, Block.writeTest_rd (f := Reg.SYS_CONV_POP_NPOP) (l := l) (by omega)]

theorem Block.writeTest_lane (v : Nat) : (b.writeLive (testCtrl l) v).lane l = b.lane l :=
  congrArg (SMap.look default · l) (Block.writeLive_keeps (testCtrl l) v b .lanes (by decide))

/-- LEN takes the value it had. -/
theorem Block.writeLive_len {k : Fin 192} (hp : b.rd (Reg.LINK_TEST_CTRL_PATTERN k) < 4)
    (hn : b.rd (Reg.LINK_TEST_CTRL_LEN k) < 64) :
    (b.writeLive (testCtrl k) (b.testWord k + 2 ^ 16)).rd (Reg.LINK_TEST_CTRL_LEN k) = b.rd (Reg.LINK_TEST_CTRL_LEN k) := by
  rw [Block.writeLive_rd_written (writeFields_testCtrl k) (List.mem_cons_of_mem _ List.mem_cons_self) rfl]
  show (b.testWord k + 2 ^ 16) / 2 ^ 8 % 2 ^ 6 = _
  unfold Block.testWord
  omega

theorem Block.denyTest_start (v : Nat) (hv : v.testBit 16 = true) : b.denyTest l v = b.denyTest l (2 ^ 16) := by
  have hbit : (2 ^ 16).testBit 16 = true := by decide
  simp only [Block.denyTest, hv, hbit]

theorem Block.denyTest_stop (v : Nat) (hv : v.testBit 16 = false) : b.denyTest l v = 0 := if_pos (by simp [hv])

/-! ### The start of a test (R203, R204) -/

/-- The record of a lane whose test begins. -/
def Lane.tests (n : Nat) (x : Lane) : Lane := { x with lenExp := n, resultBy := none }

/-- The registers of a lane whose test begins. -/
def Block.testRegs (l : Nat) (b : Block) : Block :=
  let b := ((((b.flag (Reg.LINK_TEST_STAT_RUNNING l) true).flag (Reg.LINK_TEST_STAT_SYNC l) false).flag
    (Reg.LINK_TEST_STAT_SYNC_LOST l) false).flag (Reg.LINK_TEST_STAT_DONE l) false).flag (Reg.LINK_TEST_STAT_PASS l) false
  (b.wr (Reg.LINK_PRBS_ERR_COUNT l) 0).wr64 (Reg.LINK_PRBS_BITS_LO_BITS l) (Reg.LINK_PRBS_BITS_HI_BITS l) 0

theorem Block.testStart_eq (p n : Nat) : b.testStart l p n
    = (((b.laneTo l 5).testRegs l).updLane l (Lane.tests n)).emitLane (.testBlocks l p n) := rfl

theorem running_mem : Reg.LINK_TEST_STAT_RUNNING l ∈ laneFields l := by simp [laneFields]

theorem Block.testRegs_rd : (b.testRegs l).rd (Reg.LINK_STAT_STATE l) = b.rd (Reg.LINK_STAT_STATE l)
    ∧ (b.testRegs l).rd (Reg.LINK_TEST_STAT_RUNNING l) = 1 ∧ (b.testRegs l).rd (Reg.LINK_TEST_STAT_DONE l) = 0 := by
  refine ⟨?_, ?_, ?_⟩ <;>
    simp [Block.testRegs, Block.wr64, Block.rd_wr_ne, Block.rd_flag_ne, Block.rd_flag_same]

theorem Block.testStart_rd {f : Field} (p n : Nat) : (b.testStart l p n).rd f = ((b.laneTo l 5).testRegs l).rd f := by
  rw [Block.testStart_eq, Block.rd_of_keeps (Block.emitLane_keeps _ _) (by decide), Block.updLane_rd]

theorem Block.testStart_lenExp (p n : Nat) : ((b.testStart l p n).lane l).lenExp = n := by
  have hlanes : (b.testStart l p n).lanes = (((b.laneTo l 5).testRegs l).updLane l (Lane.tests n)).lanes :=
    Block.emitLane_keeps _ _ .lanes (by decide)
  rw [Block.lane, hlanes]
  exact congrArg Lane.lenExp (Block.lane_updLane_same ((b.laneTo l 5).testRegs l) l (Lane.tests n))

/-- The record of a lane that a host test enables. -/
def Lane.tested (x : Lane) : Lane := { x with hostTest := true }

theorem Block.testControl_start {v : Nat} (h16 : v.testBit 16 = true) (h17 : v.testBit 17 = false) : b.testControl l v
    = ((b.testStart l (b.rd (Reg.LINK_TEST_CTRL_PATTERN l)) (b.rd (Reg.LINK_TEST_CTRL_LEN l))).updLane l
        Lane.tested).powerEngines := by
  simp only [Block.testControl, h16, h17, if_true, Bool.false_and, Bool.false_eq_true, if_false]
  rfl

/-- The lane is in TEST, and its test runs. -/
theorem Block.testControl_started (hl : l < 192) {v : Nat} (h16 : v.testBit 16 = true) (h17 : v.testBit 17 = false) :
    (b.testControl l v).rd (Reg.LINK_STAT_STATE l) = 5 ∧ (b.testControl l v).rd (Reg.LINK_TEST_STAT_RUNNING l) = 1
    ∧ (b.testControl l v).rd (Reg.LINK_TEST_STAT_DONE l) = 0
    ∧ ((b.testControl l v).lane l).lenExp = b.rd (Reg.LINK_TEST_CTRL_LEN l)
    ∧ ((b.testControl l v).lane l).hostTest = true := by
  have rd {f : Field} (hf : f.ofLanes) : (b.testControl l v).rd f = ((b.laneTo l 5).testRegs l).rd f := by
    rw [Block.testControl_start h16 h17, Block.powerEngines_rd hf, Block.updLane_rd, Block.testStart_rd]
  have lane : (b.testControl l v).lane l = ((b.testStart l (b.rd (Reg.LINK_TEST_CTRL_PATTERN l))
      (b.rd (Reg.LINK_TEST_CTRL_LEN l))).lane l).tested := by
    rw [Block.testControl_start h16 h17]
    exact Block.lane_updLane_same _ _ _
  obtain ⟨hstate, hrunning, hdone⟩ := Block.testRegs_rd (b := b.laneTo l 5) (l := l)
  obtain ⟨hfdone, -⟩ := laneTest_ofLanes hl
  refine ⟨?_, ?_, ?_, ?_, ?_⟩
  · rw [rd (laneFields_ofLanes hl _ List.mem_cons_self), hstate, Block.laneTo_state (by decide)]
  · rw [rd (laneFields_ofLanes hl _ running_mem), hrunning]
  · rw [rd hfdone, hdone]
  · rw [lane]
    exact Block.testStart_lenExp _ _
  · rw [lane]
    rfl

/-! ### The stop of a test (R203, R204) -/

/-- The errors that a checker in sync has counted show. -/
def Block.stopCounted (l : Nat) (b : Block) : Block :=
  if (b.lane l).syncAt.isSome then (b.count (Reg.LINK_PRBS_ERR_COUNT l) b.free).drawn else b

theorem Block.stopCounted_regsBut : RegsBut [Reg.LINK_PRBS_ERR_COUNT l] b (b.stopCounted l) := by
  unfold Block.stopCounted
  split
  · exact b.wr_regsBut _ _
  · exact RegsBut.refl _ b

theorem Block.stopCounted_keeps : Keeps [.regs, .draws] b (b.stopCounted l) :=
  Keeps.ite (fun _ => ((b.wr_keeps _ _).mono (by decide)).andThen (Block.drawn_keeps _) (by decide)) fun _ => Keeps.refl _ b

/-- A lane in TEST whose test has no end is stopped. -/
theorem Block.testControl_stop {v : Nat} (h16 : v.testBit 16 = false) (h17 : v.testBit 17 = true)
    (hs : b.rd (Reg.LINK_STAT_STATE l) = 5) (hd : (b.lane l).dark = false) (hn : (b.lane l).lenExp = 0) :
    b.testControl l v = (b.stopCounted l).testEnds l b.tb.up false := by
  have htb : (b.stopCounted l).tb = b.tb := Block.stopCounted_keeps .tb (by decide)
  have hstop : b.testStop l = (b.stopCounted l).testEnds l (b.stopCounted l).tb.up false := rfl
  rw [← htb, ← hstop]
  simp [Block.testControl, h16, h17, hs, hd, hn]

/-- STOP written to a lane in TEST whose test has no end. -/
theorem Block.writeOne_stop (hl : l < 192) {v : Nat} (h16 : v.testBit 16 = false) (h17 : v.testBit 17 = true)
    (hs : b.rd (Reg.LINK_STAT_STATE l) = 5) (hd : (b.lane l).dark = false) (hn : (b.lane l).lenExp = 0) :
    b.writeOne (Reg.LINK_TEST_CTRL_START l).addr v (testCtrl l)
      = ((b.writeLive (testCtrl l) v).stopCounted l).testEnds l b.tb.up false := by
  have hstate : (b.writeLive (testCtrl l) v).rd (Reg.LINK_STAT_STATE l) = 5 := by
    rw [Block.writeTest_rd (by rw [(lane_keys l).1]; omega), hs]
  have htb : (b.writeLive (testCtrl l) v).tb = b.tb := Block.writeLive_keeps (testCtrl l) v b .tb (by decide)
  rw [Block.writeOne_testCtrl hl, Block.testControl_stop h16 h17 hstate (by rw [Block.writeTest_lane, hd])
    (by rw [Block.writeTest_lane, hn]), htb]

theorem Block.stopCounted_lane : (b.stopCounted l).lane l = b.lane l :=
  congrArg (SMap.look default · l) (Block.stopCounted_keeps .lanes (by decide))

theorem Block.stopCounted_populated : (b.stopCounted l).populated l = b.populated l := by
  have hne : Reg.SYS_CONV_POP_NPOP.key ∉ [Reg.LINK_PRBS_ERR_COUNT l].map Field.key := by
    have hpop : Reg.SYS_CONV_POP_NPOP.key < 0x100000 * 8 := by decide
    simp only [List.map_cons, List.map_nil, List.mem_singleton, lane_keys]
    omega
  simp only [Block.populated, Block.stopCounted_regsBut _ hne]

/-- A populated lane is dark and waits for its cell's result. -/
theorem Block.stopped_populated (hl : l < 192) (hp : b.populated l = true) (t : Nat) :
    ((b.stopCounted l).testEnds l t false).lane l = (b.lane l).unsynced.goDark t
    ∧ ((b.stopCounted l).testEnds l t false).on (Reg.LINK_TEST_STAT_SYNC l) = false
    ∧ Keeps [.regs, .draws, .lanes] b ((b.stopCounted l).testEnds l t false) := by
  rw [Block.testEnds_populated hl (Block.stopCounted_populated.trans hp), Block.goesDark_lane, Block.stopCounted_lane]
  exact ⟨rfl, Block.goesDark_sync _,
    (Block.stopCounted_keeps.mono (by decide)).andThen (Block.goesDark_onLanes hl t).2 (by decide)⟩

/-- Any other lane has its result. -/
theorem Block.stopped_unpopulated (hl : l < 192) (hp : b.populated l = false) (t : Nat) :
    ((b.stopCounted l).testEnds l t false).lane l = ((b.lane l).unsynced.goDark t).judged := by
  obtain ⟨hlane, -⟩ := Block.testEnds_unpopulated hl (Block.stopCounted_populated.trans hp) t
  rw [hlane, Block.stopCounted_lane]

end

/-! ### The commands -/

/-- A write that names some fields of a register is a write of the whole register. -/
theorem onBlk_servePart (rq : Req) (a : Nat) (f : Block → Nat) (s : State) :
    s.onBlk (·.servePart rq a f) = s.onBlk (·.serveWrite rq a (f s.blk)) := by
  unfold State.onBlk Block.servePart
  rfl

theorem exec_linkTestStart (rq : Req) (l : Fin 192) (s : State) : exec (.linkTestStart rq l) s
    = s.onBlk (·.serveWrite rq (Reg.LINK_TEST_CTRL_START l).addr (s.blk.testWord l + 2 ^ 16)) :=
  onBlk_servePart rq (Reg.LINK_TEST_CTRL_START l).addr (fun b => b.testWord l + 2 ^ 16) s

theorem exec_linkTestStop (rq : Req) (l : Fin 192) (s : State) : exec (.linkTestStop rq l) s
    = s.onBlk (·.serveWrite rq (Reg.LINK_TEST_CTRL_START l).addr (s.blk.testWord l + 2 ^ 17)) :=
  onBlk_servePart rq (Reg.LINK_TEST_CTRL_STOP l).addr (fun b => b.testWord l + 2 ^ 17) s

theorem not_endField_of_lanes {f : Field} (hf : f.ofLanes) : f.key ∉ endFields.map Field.key := hf.not_mem (by decide)

/-! ### The statement -/

/-- Settles O20: the write of LINK_TEST_CTRL is the start or the stop of the lane's test, unless R204 forbids it. -/
theorem linkTestCommands : Obligations.LinkTestCommands := by
  unfold Obligations.LinkTestCommands
  intro s rq l ht hp hn
  have hl := l.isLt
  have hword := Block.testWord_lt hp hn
  obtain ⟨start16, start17⟩ := start_bits hword
  obtain ⟨stop16, stop17⟩ := stop_bits hword
  have hfields := writeFields_testCtrl l
  have hmaq := writesMaq_eq_false hfields (testCtrl_plain l)
  have queue (v : Nat) : (s.blk.writeOne (Reg.LINK_TEST_CTRL_START l).addr v (testCtrl l)).jv.queue = s.blk.jv.queue := by
    rw [Block.writeOne_jv]
  have hdeny := (s.blk.denyWrite_testCtrl hl (s.blk.testWord l + 2 ^ 16)).trans (Block.denyTest_start _ start16)
  have hallow := (s.blk.denyWrite_testCtrl hl (s.blk.testWord l + 2 ^ 17)).trans (Block.denyTest_stop _ stop16)
  obtain ⟨hdoneReg, -, hsyncReg, -⟩ := laneTest_ofLanes hl
  have finish_lane (b : Block) (st d : Nat) (p : List Byte) : (b.finish st d p).lane l = b.lane l :=
    congrArg (SMap.look default · l) Block.finish_lanes
  refine ⟨fun hok => ?start, fun hno => ?denied, fun hs hd he hpop => ?stop, fun hs hd he hpop => ?alone⟩
  case start =>
    refine does_write (testCtrl l) (exec_linkTestStart rq l s) ht hfields hmaq (hdeny.trans hok) (queue _) ?_
    obtain ⟨hstate, hrunning, hdone, hlen, hhost⟩ := Block.testControl_started
      (b := s.blk.writeLive (testCtrl l) (s.blk.testWord l + 2 ^ 16)) hl start16 start17
    rw [Block.writeOne_testCtrl hl]
    simp only [Block.on, Block.finish_rd (not_endField_of_lanes (laneFields_ofLanes hl _ List.mem_cons_self)),
      Block.finish_rd (not_endField_of_lanes (laneFields_ofLanes hl _ running_mem)),
      Block.finish_rd (not_endField_of_lanes hdoneReg), finish_lane, hstate, hrunning, hdone, hlen, hhost,
      Block.writeLive_len hp hn]
    exact ⟨trivial, rfl, rfl, trivial, trivial⟩
  case denied => exact does_denied (exec_linkTestStart rq l s) ht hfields hmaq hdeny hno
  case stop =>
    rw [stop_addr]
    refine does_write (testCtrl l) (exec_linkTestStop rq l s) ht hfields hmaq hallow (queue _) ?_
    obtain ⟨hlane, hsync, hk⟩ := Block.stopped_populated hl
      ((Block.writeTest_populated (s.blk.testWord l + 2 ^ 17)).trans hpop) s.blk.tb.up
    rw [Block.writeOne_stop hl stop16 stop17 hs hd he, finish_lane, hlane, Block.on,
      Block.finish_rd (not_endField_of_lanes hsyncReg)]
    exact ⟨rfl, rfl, rfl, hsync,
      (((Block.writeLive_keeps _ _ _).mono (by decide)).andThen hk (by decide)).finish (by decide)⟩
  case alone =>
    rw [stop_addr]
    refine does_write (testCtrl l) (exec_linkTestStop rq l s) ht hfields hmaq hallow (queue _) ?_
    have hlane := Block.stopped_unpopulated hl
      ((Block.writeTest_populated (s.blk.testWord l + 2 ^ 17)).trans hpop) s.blk.tb.up
    rw [Block.writeOne_stop hl stop16 stop17 hs hd he, finish_lane, hlane]
    exact ⟨rfl, rfl⟩

end Sys2Proof.Machine
end

section
/-! PROOFS. The patina ledger (R229, R230): the rules of its commands, for the wear indices that the cores write and for a
    commit from its begin to its end, and where the statement on them fails. -/

namespace Sys2Proof.Machine

/-! ### The wear indices (R229) -/

/-- The fields that the wear indices are computed with. -/
def wearFields : List Field :=
  [Reg.CELL_PATINA_CFG_BETA, Reg.CELL_PATINA_CFG_DT_REF, Reg.CELL_PATINA_CFG_TM_REF, Reg.CELL_PATINA_CFG_TM_HALF]

theorem wearFields_key_ne (n : Nat) : ∀ g ∈ wearFields,
    g.key ≠ (Reg.CELL_WI_WI n).key ∧ g.key ≠ (Reg.CELL_LEG_WIr_WI n).key := by
  simp only [wearFields, List.forall_mem_cons, Field.key, Reg.CELL_PATINA_CFG_BETA, Reg.CELL_PATINA_CFG_DT_REF,
    Reg.CELL_PATINA_CFG_TM_REF, Reg.CELL_PATINA_CFG_TM_HALF, Reg.CELL_WI_WI, Reg.CELL_LEG_WIr_WI]
  refine ⟨?_, ?_, ?_, ?_, by simp⟩ <;> omega

/-- Every record has the same wear index in `c` as in `b`. -/
def Block.SameWear (b c : Block) : Prop := ∀ k, c.wearIndex k = b.wearIndex k

theorem Block.SameWear.wr {b c : Block} (h : b.SameWear c) {f : Field} (hf : ∀ g ∈ wearFields, g.key ≠ f.key) (v : Nat) :
    b.SameWear (c.wr f v) := by
  intro k
  simp only [wearFields, List.forall_mem_cons] at hf
  obtain ⟨hbeta, hdt, htm, hhalf, -⟩ := hf
  rw [← h k]
  simp only [Block.wearIndex, Block.wearOf, Block.rd_wr_ne _ _ _ _ hbeta, Block.rd_wr_ne _ _ _ _ hdt,
    Block.rd_wr_ne _ _ _ _ htm, Block.rd_wr_ne _ _ _ _ hhalf]
  rfl

theorem Block.wearIndex_lt (k : Nat) (b : Block) : b.wearIndex k < 2 ^ 32 := by
  unfold Block.wearIndex satNat
  dsimp only
  split <;> omega

/-- Indices written one after the other: none depends on those before it, and none is overwritten. -/
theorem Block.SameWear.indices {b c : Block} (hb : b.SameWear c) {reg : Nat → Field} {record : Nat → Nat}
    (hcfg : ∀ m, ∀ g ∈ wearFields, g.key ≠ (reg m).key) (hinj : ∀ m n, (reg m).key = (reg n).key → m = n)
    (hwidth : ∀ m, (reg m).width = 32) (count : Nat) {t : Block}
    (ht : t = c.each count fun m x => x.wr (reg m) (x.wearIndex (record m))) :
    b.SameWear t ∧ Keeps [.regs] c t ∧ ∀ n < count, t.rd (reg n) = b.wearIndex (record n) := by
  subst ht
  have hstep (m : Nat) (x : Block) (h : b.SameWear x) : b.SameWear (x.wr (reg m) (x.wearIndex (record m))) := h.wr (hcfg m) _
  have hsame (m : Nat) (x : Block) (h : b.SameWear x) :
      (x.wr (reg m) (x.wearIndex (record m))).rd (reg m) = b.wearIndex (record m) := by
    rw [Block.rd_wr_same, hwidth, h, Nat.mod_eq_of_lt (b.wearIndex_lt _)]
  refine ⟨?_, Block.eachOf_keeps _ _ (fun m _ x => x.wr_keeps _ _) c, fun n hn => ?_⟩
  · unfold Block.each
    generalize List.range count = xs
    induction xs generalizing c with
    | nil => exact hb
    | cons m xs ih => exact ih (hstep m c hb)
  · refine Block.eachOf_reaches (goal := fun x => x.rd (reg n) = b.wearIndex (record n)) (List.mem_range.mpr hn) hstep
      (hsame n) (fun m x h hg => ?_) hb
    by_cases hm : n = m
    · exact hm ▸ hsame n x h
    · exact (Block.rd_wr_ne _ _ _ _ fun hk => hm (hinj n m hk)).trans hg

/-- The cores compute every wear index (R229). -/
theorem does_wearIndexCompute {s : State} (hc : s.blk.cores = true) : Does .wearIndexCompute s fun t =>
    (∀ n < 192, t.rd (Reg.CELL_WI_WI n) = s.blk.wearIndex n)
    ∧ (∀ r < 26, t.rd (Reg.CELL_LEG_WIr_WI r) = s.blk.wearIndex (192 + r)) ∧ Keeps [.regs] s.blk t := by
  have hwi (m n : Nat) (h : (Reg.CELL_WI_WI m).key = (Reg.CELL_WI_WI n).key) : m = n := by
    simp only [Field.key, Reg.CELL_WI_WI] at h
    omega
  have hleg (m n : Nat) (h : (Reg.CELL_LEG_WIr_WI m).key = (Reg.CELL_LEG_WIr_WI n).key) : m = n := by
    simp only [Field.key, Reg.CELL_LEG_WIr_WI] at h
    omega
  obtain ⟨hw, hk, hslots⟩ := Block.SameWear.indices (b := s.blk) (c := s.blk) (record := id) (fun _ => rfl)
    (fun m g hg => (wearFields_key_ne m g hg).1) hwi (fun _ => rfl) 192 rfl
  obtain ⟨-, hk', hlegs⟩ := hw.indices (record := (192 + ·)) (fun m g hg => (wearFields_key_ne m g hg).2) hleg (fun _ => rfl)
    26 rfl
  refine does_onBlk (f := (·.wearIndexCompute)) rfl ?_
  rw [Block.wearIndexCompute, hc]
  refine ⟨fun n hn => (Block.eachOf_rd (fun r _ x => Block.rd_wr_ne _ _ _ _ ?_) _).trans (hslots n hn), hlegs, hk.trans hk'⟩
  simp only [Field.key, Reg.CELL_WI_WI, Reg.CELL_LEG_WIr_WI]
  omega

/-! ### A commit begins (R230, R422) -/

theorem Block.updCells_keeps (f : CellsSt → CellsSt) (b : Block) : Keeps [.cells] b (b.updCells f) := by
  intro p hp
  cases p
  case cells => exact absurd (List.mem_singleton_self _) hp
  all_goals rfl

/-- A commit begins, and channel 9 is busy with it (R230, R422). -/
theorem does_ledgerCommit {s : State} (hc : s.blk.cores = true) (hh : s.blk.on Reg.DMA_STAT_HALTED = false) :
    Does .ledgerCommit s fun t => t.cells = { s.blk.cells with committing := true }
      ∧ t.on (Reg.DMA_CH_STAT_BUSY 9) = true ∧ t.on (Reg.DMA_CH_STAT_STOPPED 9) = false
      ∧ RegsBut [Reg.DMA_CH_STAT_BUSY 9, Reg.DMA_CH_STAT_STOPPED 9] s.blk t ∧ Keeps [.regs, .cells, .dma] s.blk t := by
  refine does_onBlk (f := (·.ledgerBegin)) rfl ?_
  obtain ⟨hbusy, hr, hk⟩ := Block.fwBegin_frame 9 16384 (s.blk.updCells fun c => { c with committing := true })
  have hstop := Block.fwBegin_eq (n := 9) (bursts := 16384) (b := s.blk.updCells fun c => { c with committing := true }) hh
  unfold Block.ledgerBegin
  rw [hc]
  dsimp only [Bool.not_true, Bool.false_eq_true, if_false]
  generalize Block.fwBegin _ _ _ = c at *
  have hrun : (c.updDma fun d => { d with retried := d.retried.filter (· ≠ 9) }).on Reg.DMA_STAT_HALTED = false :=
    (congrArg (· != 0) (hr Reg.DMA_STAT_HALTED (by decide))).trans hh
  rw [if_neg (by simp), hrun, if_neg (by simp)]
  refine ⟨hk .cells (by decide), hbusy hh, ?_, hr,
    ((s.blk.updCells_keeps _).mono (by decide)).trans ((hk.mono (by decide)).trans ((Block.updDma_keeps _ _).mono (by decide)))⟩
  rw [Block.on, Block.updDma_rd, hstop]
  exact Block.on_flag_same _ false _ Nat.one_pos

/-! ### A commit ends (R230, R422) -/

/-- What COUNT of channel 9 reads when a commit has ended: one done counts while the channel was busy (R438). -/
def Block.countAfter (b : Block) (ok : Bool) : Nat :=
  if ok && b.on (Reg.DMA_CH_STAT_BUSY 9) then (b.rd (Reg.DMA_CH_CNT_COUNT 9) + 1) % 2 ^ 32 else b.rd (Reg.DMA_CH_CNT_COUNT 9)

theorem Block.countAfter_congr {b c : Block} (ok : Bool) (h : c.regs = b.regs) : c.countAfter ok = b.countAfter ok := by
  unfold Block.countAfter Block.on Block.rd
  rw [h]

theorem Block.fwEnd_count (ok : Bool) (b : Block) : (b.fwEnd 9 ok).rd (Reg.DMA_CH_CNT_COUNT 9) = b.countAfter ok := by
  cases hb : b.on (Reg.DMA_CH_STAT_BUSY 9) with
  | false =>
    have hbusy (f : DmaSt → DmaSt) : (b.updDma f).on (Reg.DMA_CH_STAT_BUSY 9) = false := hb
    simp [Block.fwEnd, Block.countAfter, hbusy, hb]
  | true =>
    cases ok with
    | true => rw [Block.fwEnd_counts hb, Block.countAfter, hb, Bool.and_self, if_pos rfl]
    | false =>
      have hbusy (f : DmaSt → DmaSt) : (b.updDma f).on (Reg.DMA_CH_STAT_BUSY 9) = true := hb
      have hidle (c : Block) : (c.chanBusy 9 false).rd (Reg.DMA_CH_CNT_COUNT 9) = c.rd (Reg.DMA_CH_CNT_COUNT 9) :=
        Block.chanBusy_regsBut 9 false c _ (by decide)
      simp [Block.fwEnd, Block.countAfter, hbusy, hidle, Block.updChan]

section
variable {b : Block}

/-- The commit is over on channel 9: what comes of it is not yet decided. -/
def Block.commitEnds (ok : Bool) (b : Block) : Block :=
  ((b.bulkShare 9).updCells fun c => { c with committing := false }).fwEnd 9 ok

theorem Block.bulkShare_cells (h : b.bulkOnly 9) : (b.bulkShare 9).cells = b.cells :=
  Block.bulkShare_firmware (by decide) h .cells (by decide)

theorem Block.ledgerCommitDone_fail (hc : b.cells.committing = true) (h : b.bulkOnly 9) :
    (b.bulkShare 9).ledgerCommitDone false = ((b.commitEnds false).flag Reg.CELL_LDG_STAT_FAIL true).raise { source := 11 } := by
  rw [Block.ledgerCommitDone, Block.bulkShare_cells h, hc]
  rfl

theorem Block.ledgerCommitDone_ok (hc : b.cells.committing = true) (h : b.bulkOnly 9) :
    (b.bulkShare 9).ledgerCommitDone true
      = (((b.commitEnds true).flag Reg.CELL_LDG_STAT_FAIL false).ledgerCommitted).updCells
          fun c => { c with committedAt := (b.commitEnds true).tb.up } := by
  rw [Block.ledgerCommitDone, Block.bulkShare_cells h, hc]
  rfl

theorem Block.commitEnds_frame (ok : Bool) (h : b.bulkOnly 9) :
    (b.commitEnds ok).cells = { b.cells with committing := false }
    ∧ (b.commitEnds ok).on (Reg.DMA_CH_STAT_BUSY 9) = false
    ∧ (b.commitEnds ok).rd (Reg.DMA_CH_CNT_COUNT 9) = b.countAfter ok
    ∧ RegsBut (chanFields 9) b (b.commitEnds ok) ∧ Keeps [.regs, .cells, .dma] b (b.commitEnds ok) := by
  have hshare := Block.bulkShare_firmware (by decide) h
  have hregs : (b.bulkShare 9).regs = b.regs := hshare .regs (by decide)
  obtain ⟨hr, hk⟩ := Block.fwEnd_frame 9 ok ((b.bulkShare 9).updCells fun c => { c with committing := false })
  refine ⟨?_, Block.fwEnd_idle _ _ _, ?_, fun g hg => (hr g hg).trans (RegsBut.of_regs hregs g (by simp)),
    (hshare.mono (by decide)).trans (((Block.updCells_keeps _ _).mono (by decide)).trans (hk.mono (by decide)))⟩
  · refine (hk .cells (by decide)).trans ?_
    rw [Block.updCells_cells, Block.bulkShare_cells h]
  · exact (Block.fwEnd_count _ _).trans (Block.countAfter_congr ok hregs)

/-- A write outside the ledger leaves the ledger's registers, and their order. -/
theorem Bank.ledger_setFld {f : Field} (hf : ledgerReg (f.key / 32 * 4) = false) (v : Nat) (m : Bank) :
    (Bank.setFld f v m).ledger = m.ledger := by
  have herase : Bank.ledger (SMap.erase f.key m) = m.ledger := by
    induction m with
    | nil => rfl
    | cons e r ih =>
      obtain ⟨k, w⟩ := e
      unfold SMap.erase
      split
      · next hk => subst hk; simpa [Bank.ledger, hf] using ih
      · simp only [Bank.ledger, List.filter_cons] at ih ⊢
        rw [ih]
  have hinsert (w : Nat) (x : Bank) : Bank.ledger (SMap.insert f.key w x) = x.ledger := by
    induction x with
    | nil => simp [SMap.insert, Bank.ledger, hf]
    | cons e r ih =>
      obtain ⟨k, u⟩ := e
      unfold SMap.insert
      split
      · simp [Bank.ledger, hf]
      · simp only [Bank.ledger, List.filter_cons] at ih ⊢
        rw [ih]
  unfold Bank.setFld SMap.store
  split
  · exact herase
  · exact (hinsert _ _).trans herase

theorem Block.homesErased_ledger (hs : List Nat) (b : Block) :
    (b.eachOf hs fun h b => b.homeErased h).regs.ledger = b.regs.ledger := by
  unfold Block.eachOf
  induction hs generalizing b with
  | nil => rfl
  | cons h hs ih => exact (ih _).trans (Bank.ledger_setFld (by decide) _ _)

/-- The ledger stands in flash as it is, and the blocks erased for it show in the wear register alone (R18, R437). -/
theorem Block.ledgerCommitted_frame (b : Block) :
    b.ledgerCommitted.cells = { b.cells with flash := b.cells.streams, flashRegs := b.ledgerCommitted.regs.ledger }
    ∧ RegsBut [Reg.DMA_BG_WEAR_MAX_ERASE] b b.ledgerCommitted ∧ Keeps [.regs, .cells, .boot] b b.ledgerCommitted := by
  obtain ⟨hr, hk⟩ := b.homesErased_frame ledgerBlocks
  have hcells := hk .cells (by decide)
  have hledger := b.homesErased_ledger ledgerBlocks
  unfold Block.ledgerCommitted
  generalize Block.eachOf _ _ b = c at *
  refine ⟨?_, hr, (hk.mono (by decide)).trans ((Block.updCells_keeps _ _).mono (by decide))⟩
  rw [Block.updCells_cells, Block.updCells_regs, hledger, show c.cells = b.cells from hcells]

/-- A commit that is done: flash holds the ledger as it stands, and FAIL is clear (R18, R230). -/
theorem does_ledgerCommitDone_ok {s : State} (hc : s.blk.cells.committing = true) (h : s.blk.bulkOnly 9) :
    Does (.ledgerCommitDone true) s fun t => t.on Reg.CELL_LDG_STAT_FAIL = false
      ∧ t.cells = { s.blk.cells with committing := false, flash := s.blk.cells.streams, flashRegs := t.regs.ledger
                                     committedAt := s.blk.tb.up }
      ∧ t.on (Reg.DMA_CH_STAT_BUSY 9) = false ∧ t.rd (Reg.DMA_CH_CNT_COUNT 9) = s.blk.countAfter true
      ∧ RegsBut (chanFields 9 ++ [Reg.CELL_LDG_STAT_FAIL, Reg.DMA_BG_WEAR_MAX_ERASE]) s.blk t
      ∧ Keeps [.regs, .cells, .dma, .boot] s.blk t := by
  refine does_onBlk (f := fun b => (b.bulkShare 9).ledgerCommitDone true) rfl ?_
  rw [Block.ledgerCommitDone_ok hc h]
  obtain ⟨hcells, hidle, hcount, hr, hk⟩ := Block.commitEnds_frame true h
  generalize s.blk.commitEnds true = c at *
  have htb : c.tb = s.blk.tb := hk .tb (by decide)
  obtain ⟨hflash, hwear, hk'⟩ := (c.flag Reg.CELL_LDG_STAT_FAIL false).ledgerCommitted_frame
  have hrest := (c.flag_regsBut Reg.CELL_LDG_STAT_FAIL false).trans_append hwear
  have hon := c.on_flag_same Reg.CELL_LDG_STAT_FAIL false Nat.one_pos
  have hx : Keeps [.regs, .cells, .dma, .boot] s.blk (c.flag Reg.CELL_LDG_STAT_FAIL false) :=
    (hk.mono (by decide)).andThen (c.wr_keeps Reg.CELL_LDG_STAT_FAIL _) (by decide)
  rw [Block.flag_cells, hcells] at hflash
  generalize Block.ledgerCommitted _ = d at *
  refine ⟨(congrArg (· != 0) (hwear Reg.CELL_LDG_STAT_FAIL (by decide))).trans hon, ?_,
    (congrArg (· != 0) (hrest (Reg.DMA_CH_STAT_BUSY 9) (by decide))).trans hidle,
    (hrest (Reg.DMA_CH_CNT_COUNT 9) (by decide)).trans hcount, hr.trans_append hrest,
    (hx.andThen hk' (by decide)).andThen (d.updCells_keeps _) (by decide)⟩
  rw [Block.updCells_cells, Block.updCells_regs, hflash, htb]

/-- The failure of a commit can be logged, as it could before channel 9 and FAIL showed it. -/
theorem Block.commitFailure_loggable {x : Block} (hr : RegsBut (chanFields 9 ++ [Reg.CELL_LDG_STAT_FAIL]) b x)
    (hk : Keeps [.regs, .cells, .dma] b x) (hcls : b.rd (Reg.EVT_SRCk_CLASS 11) = 0) (hl : Loggable b { source := 11 }) :
    x.classOf { source := 11 } = 0 ∧ x.detects { source := 11 } = true ∧ x.heldOff { source := 11 } 0 = false := by
  have hboot : x.boot = b.boot := hk .boot (by decide)
  have htb : x.tb = b.tb := hk .tb (by decide)
  have hevt : x.evt = b.evt := hk .evt (by decide)
  obtain ⟨hd, hh⟩ := hl
  rw [show b.classOf { source := 11 } = 0 from hcls] at hh
  refine ⟨(hr (Reg.EVT_SRCk_CLASS 11) (by decide)).trans hcls, ?_, ?_⟩
  · refine Eq.trans ?_ hd
    simp only [Block.detects, Block.cores, Block.released, Block.bit, hboot, hr Reg.RST_STAGE_RELEASED (by decide)]
  · refine Eq.trans ?_ hh
    simp only [Block.heldOff, htb, hevt, hr Reg.EVT_GCFG_HOLDOFF_MS (by decide)]

/-- A commit that fails: flash is as it was, FAIL is set and the failure is logged (R230). -/
theorem does_ledgerCommitDone_fail {s : State} (hc : s.blk.cells.committing = true) (h : s.blk.bulkOnly 9)
    (hcls : s.blk.rd (Reg.EVT_SRCk_CLASS 11) = 0) (hl : Loggable s.blk { source := 11 }) :
    Does (.ledgerCommitDone false) s fun t => t.on Reg.CELL_LDG_STAT_FAIL = true
      ∧ t.cells = { s.blk.cells with committing := false } ∧ Logs { source := 11 } s.blk t
      ∧ t.on (Reg.DMA_CH_STAT_BUSY 9) = false ∧ t.rd (Reg.DMA_CH_CNT_COUNT 9) = s.blk.countAfter false
      ∧ Keeps [.regs, .evt, .cells, .dma] s.blk t := by
  refine does_onBlk (f := fun b => (b.bulkShare 9).ledgerCommitDone false) rfl ?_
  rw [Block.ledgerCommitDone_fail hc h]
  obtain ⟨hcells, hidle, hcount, hr, hk⟩ := Block.commitEnds_frame false h
  generalize s.blk.commitEnds false = c at *
  have hfail := c.flag_regsBut Reg.CELL_LDG_STAT_FAIL true
  have hon := c.on_flag_same Reg.CELL_LDG_STAT_FAIL true Nat.one_pos
  have hx : Keeps [.regs, .cells, .dma] s.blk (c.flag Reg.CELL_LDG_STAT_FAIL true) :=
    hk.andThen (c.wr_keeps Reg.CELL_LDG_STAT_FAIL _) (by decide)
  have hcells' : (c.flag Reg.CELL_LDG_STAT_FAIL true).cells = _ := (c.flag_cells _ true).trans hcells
  obtain ⟨hcls', hd', hh'⟩ := Block.commitFailure_loggable (hr.trans_append hfail) hx hcls hl
  generalize c.flag Reg.CELL_LDG_STAT_FAIL true = x at *
  have hevt : x.evt = s.blk.evt := hx .evt (by decide)
  rw [Block.raise_info _ x hd' hcls' rfl]
  obtain ⟨r, hlog, hsource, hcls0, hunit⟩ := Block.record_held { source := 11 } 0 false false x hh'
  have hrec := x.record_regsBut { source := 11 } 0 false false
  have hrk := x.record_keeps { source := 11 } 0 false false
  have hrest := hfail.trans_append hrec
  refine ⟨(congrArg (· != 0) (hrec Reg.CELL_LDG_STAT_FAIL (by decide))).trans hon, (hrk .cells (by decide)).trans hcells',
    ⟨r, hevt ▸ hlog, hsource, hcls0.trans hcls.symm, hunit⟩,
    (congrArg (· != 0) (hrest (Reg.DMA_CH_STAT_BUSY 9) (by decide))).trans hidle,
    (hrest (Reg.DMA_CH_CNT_COUNT 9) (by decide)).trans hcount, (hx.mono (by decide)).andThen hrk (by decide)⟩

/-- With no commit in progress and no burst left on channel 9, the end of one changes nothing. -/
theorem does_ledgerCommitDone_idle {s : State} (ok : Bool) (hc : s.blk.cells.committing = false) (h : 9 ∉ s.blk.bulkReady) :
    Does (.ledgerCommitDone ok) s fun t => t = s.blk := by
  refine does_onBlk (f := fun b => (b.bulkShare 9).ledgerCommitDone ok) rfl ?_
  have hshare : s.blk.bulkShare 9 = s.blk := by simp [Block.bulkShare, h]
  rw [hshare, Block.ledgerCommitDone, hc]
  rfl

end

/-! ### The statement -/

/-- The block at reset, but that channel 9 has one burst to move: no operation of it is in progress. -/
def strayBurst : Block := { Block.reset with dma := { DmaSt.reset with chans := [(9, { (default : ChanSt) with left := 1 })] } }

theorem strayBurst_moves : strayBurst.cells.committing = false
    ∧ ((strayBurst.bulkShare 9).ledgerCommitDone true).dma ≠ strayBurst.dma := by
  decide +kernel

/-- Refutes O53: with no commit in progress LEDGER_COMMIT_DONE is said to change nothing, but it gives channel 9 the bursts
    it has left, whatever they are for.  In `strayBurst` one is left, and it is granted.  The clause holds where none is left
    (`does_ledgerCommitDone_idle`).  Of a commit that ends while channel 9 is not busy, or fails, COUNT is said to be cut to
    32 bits, but it is left as it is (`Block.countAfter`): that differs where the bank holds a COUNT too wide for its field.
    What else the statement says is proved above, as the rule of each command. -/
theorem not_patinaLedger : ¬ Obligations.PatinaLedger := by
  unfold Obligations.PatinaLedger
  intro h
  obtain ⟨hidle, hmoves⟩ := strayBurst_moves
  obtain ⟨-, -, -, -, hnone⟩ := h { pending := [], blk := strayBurst } 0 0 true
  obtain ⟨t, hexec, -, -, hkeeps⟩ := hnone hidle
  have ht : t.blk = (strayBurst.bulkShare 9).ledgerCommitDone true := congrArg State.blk (Host.Outcome.next.inj hexec).symm
  exact hmoves (ht ▸ hkeeps .dma (by decide))

end Sys2Proof.Machine
end

section
/-! PROOFS. The off-state diagnostics (R261, R262): a leg forced with both switches is fenced again as its group passes. -/

namespace Sys2Proof.Machine

/-- Both switches of L21 are forced on, both of its channels are powered, SHOOT_REQ is of class DEGRADE, and the last phase of
    the test of its group ends with a node that is NORMAL. -/
def bothForced : Block :=
  ((((((((Block.reset.wr Reg.PWM_DIAG_STAT_BUSY (2 ^ 9)).flag (Reg.PWM_LEG_FORCE_EN 21) true).flag
    (Reg.PWM_LEG_FORCE_UPPER 21) true).flag (Reg.PWM_LEG_FORCE_LOWER 21) true).flag (Reg.GATE_CH_STAT_POWERED 42) true).flag (Reg.GATE_CH_STAT_POWERED 43) true).wr
    (Reg.EVT_SRCk_CLASS 164) 1).updDiag 9 fun d => { d with node := 21, phase := 3, v0 := 20000, v1 := 20000, ok := true })

theorem bothForced_passes : bothForced.bit Reg.PWM_DIAG_STAT_BUSY 9 = true ∧ (bothForced.diag 9).phase = 3
    ∧ nextNode (bothForced.diag 9).node (groupNodes 9) = none ∧ (bothForced.diag 9).ok = true
    ∧ bothForced.nodeClass (bothForced.diag 9).node (bothForced.diag 9).v0 (bothForced.diag 9).v1 (bothForced.diag 9).v2 = 2 := by
  decide +kernel

theorem bothForced_owes : ((bothForced.diagPhaseEnd 9 0).diag 9).owed = true := by
  decide +kernel

/-- Refutes O32: of a group that has passed nothing is said to be owed.  But the force of a leg that is let through again acts
    at once (R252), and where both its switches are forced the interlock raises SHOOT_REQ (R251): with a class of DEGRADE or
    higher the leg is fenced, and its group owes a pass again (R286), as in `bothForced`. -/
theorem not_chopperAndDiagnostics : ¬ Obligations.ChopperAndDiagnostics := by
  unfold Obligations.ChopperAndDiagnostics
  rintro ⟨-, hdiag⟩
  obtain ⟨hbusy, hphase, hlast, hok, hclass⟩ := bothForced_passes
  obtain ⟨-, -, -, -, hpass, -⟩ := hdiag { pending := [], blk := bothForced } 9 0 hbusy
  obtain ⟨t, hexec, -, -, -, howed, -⟩ := hpass hphase hlast hok hclass
  have ht : t.blk = bothForced.diagPhaseEnd 9 0 := congrArg State.blk (Host.Outcome.next.inj hexec).symm
  exact absurd (bothForced_owes.symm.trans (ht ▸ howed)) (by decide)

end Sys2Proof.Machine
end

section
/-! PROOFS. A local leg (R239 to R252): where the registers of the stage lie, dead times and refresh pulses that are over, and
    the change of a leg's state. -/

namespace Sys2Proof.Machine

/-! ### Where the registers of the stage lie (R266, R272, R290) -/

/-- The fields of a leg's registers that its operations write or ask for. -/
theorem leg_keys (l : Nat) : (Reg.PWM_LEG_CFG_SRC l).key = 0x200 * l + 0x2000000
    ∧ (Reg.PWM_LEG_FORCE_EN l).key = 0x200 * l + 0x2000100 ∧ (Reg.PWM_LEG_FORCE_UPPER l).key = 0x200 * l + 0x2000101
    ∧ (Reg.PWM_LEG_FORCE_LOWER l).key = 0x200 * l + 0x2000102 ∧ (Reg.PWM_LEG_STAT_STATE l).key = 0x200 * l + 0x2000120
    ∧ (Reg.PWM_LEG_STAT_FENCED l).key = 0x200 * l + 0x2000122 ∧ (Reg.PWM_LEG_STAT_LATCHED l).key = 0x200 * l + 0x2000123
    ∧ (Reg.PWM_LEG_STAT_ANCHORED l).key = 0x200 * l + 0x2000124 ∧ (Reg.PWM_LEG_STAT_CAUSE l).key = 0x200 * l + 0x2000128
    ∧ (Reg.PWM_LEG_TON_TICK l).key = 0x200 * l + 0x2000140 ∧ (Reg.PWM_LEG_TOFF_TICK l).key = 0x200 * l + 0x2000160
    ∧ (Reg.PWM_LEG_CNT_SWALLOW l).key = 0x200 * l + 0x2000180 ∧ (Reg.PWM_LEG_CNT_STRETCH l).key = 0x200 * l + 0x2000190
    ∧ (Reg.PWM_LEG_ICNT_SHOOT l).key = 0x200 * l + 0x20001A0 ∧ (Reg.PWM_LEG_ICNT_REFRESH l).key = 0x200 * l + 0x20001B0 := by
  simp only [Field.key, Reg.PWM_LEG_CFG_SRC, Reg.PWM_LEG_FORCE_EN, Reg.PWM_LEG_FORCE_UPPER, Reg.PWM_LEG_FORCE_LOWER,
    Reg.PWM_LEG_STAT_STATE, Reg.PWM_LEG_STAT_FENCED, Reg.PWM_LEG_STAT_LATCHED, Reg.PWM_LEG_STAT_ANCHORED,
    Reg.PWM_LEG_STAT_CAUSE, Reg.PWM_LEG_TON_TICK, Reg.PWM_LEG_TOFF_TICK, Reg.PWM_LEG_CNT_SWALLOW, Reg.PWM_LEG_CNT_STRETCH,
    Reg.PWM_LEG_ICNT_SHOOT, Reg.PWM_LEG_ICNT_REFRESH]
  omega

/-- The fields of a channel's status. -/
theorem gate_keys (ch : Nat) : (Reg.GATE_CH_STAT_POWERED ch).key = 0x100 * ch + 0x2080040
    ∧ (Reg.GATE_CH_STAT_UVLO ch).key = 0x100 * ch + 0x2080041 ∧ (Reg.GATE_CH_STAT_GATE_OFF ch).key = 0x100 * ch + 0x2080042
    ∧ (Reg.GATE_CH_STAT_DESAT ch).key = 0x100 * ch + 0x2080043 := by
  simp only [Field.key, Reg.GATE_CH_STAT_POWERED, Reg.GATE_CH_STAT_UVLO, Reg.GATE_CH_STAT_GATE_OFF, Reg.GATE_CH_STAT_DESAT]
  omega

/-- The fields of the stage as a whole. -/
theorem stage_keys : Reg.PWM_STAT_MULTI.key = 0x2004000 ∧ Reg.PWM_TRIP_STAT_LEVEL.key = 0x2004A00
    ∧ Reg.PWM_TRIP_STAT_LATCH.key = 0x2004A10 ∧ Reg.PWM_BRK_STAT_ON.key = 0x2005040 ∧ Reg.PWM_BRK_STAT_ARMED.key = 0x2005041
    ∧ Reg.PWM_BRK_CNT_COUNT.key = 0x2005060 ∧ Reg.PWM_DIAG_STAT_BUSY.key = 0x2005840
    ∧ Reg.GATE_STAT_GATE24_OK.key = 0x2084800 ∧ Reg.GATE_STAT_STUCK.key = 0x2084804 ∧ Reg.GATE_SHORT_LEGS.key = 0x2084820
    ∧ Reg.GATE_SS_STAT_CLOSED.key = 0x2084840 := by
  decide

/-! ### Dead times and refresh pulses that are over (R243, R250) -/

/-- The state of a leg and its two gates. -/
def legGates (l : Nat) : List Field :=
  [Reg.PWM_LEG_STAT_STATE l, Reg.GATE_CH_STAT_GATE_OFF (2 * l), Reg.GATE_CH_STAT_GATE_OFF (2 * l + 1)]

/-- A field that is none of them. -/
theorem not_legGates {l : Nat} {f : Field} (h : f.key ≠ (Reg.PWM_LEG_STAT_STATE l).key)
    (hu : f.key ≠ (Reg.GATE_CH_STAT_GATE_OFF (2 * l)).key) (hl : f.key ≠ (Reg.GATE_CH_STAT_GATE_OFF (2 * l + 1)).key) :
    f.key ∉ (legGates l).map Field.key := by
  simp only [legGates, List.map_cons, List.map_nil, List.mem_cons, List.not_mem_nil, or_false, not_or]
  exact ⟨h, hu, hl⟩

theorem Block.updLeg_keeps (l : Nat) (f : Leg → Leg) (b : Block) : Keeps [.lv] b (b.updLeg l f) := by
  intro p hp
  cases p
  case lv => exact absurd (List.mem_singleton_self _) hp
  all_goals rfl

theorem Block.tickIn_of_tb {b c : Block} (h : c.tb = b.tb) (ns : Nat) : c.tickIn ns = b.tickIn ns := by
  rw [Block.tickIn, Block.tickIn, h]

/-- The record of a leg but for what waits at it. -/
def Leg.unsettled (x : Leg) : Leg := { x with dead := none, restAt := none }

/-- The turn-on that waits has happened. -/
def Leg.turnedOn (x : Leg) : Leg := { x with dead := none }

/-- The refresh pulse after which the leg rests is over. -/
def Leg.pulsed (x : Leg) : Leg := { x with restAt := none }

/-- The turn-on that waits for its dead time happens where that is over. -/
def Block.deadOver (l : Nat) (b : Block) : Block :=
  match (b.leg l).dead with
  | some (t, up) =>
    if t ≤ b.tickIn 0 then
      (b.flag (Reg.GATE_CH_STAT_GATE_OFF (if up then 2 * l else 2 * l + 1)) false).updLeg l Leg.turnedOn
    else b
  | none => b

/-- The leg's refresh pulse is over, after which it rests. -/
def Block.pulseOver (b : Block) (l : Nat) : Prop := ∃ t, (b.leg l).restAt = some t ∧ t ≤ b.tickIn 0

/-- The leg rests with both switches off. -/
def Block.rests (l : Nat) (b : Block) : Block :=
  (((b.wr (Reg.PWM_LEG_STAT_STATE l) 0).flag (Reg.GATE_CH_STAT_GATE_OFF (2 * l + 1))
    (b.on (Reg.GATE_CH_STAT_POWERED (2 * l + 1)))).updLeg l Leg.pulsed).emit (.rest l)

section
variable {b : Block} {l : Nat}

theorem gateOff_mem_legGates (l : Nat) (up : Bool) :
    (Reg.GATE_CH_STAT_GATE_OFF (if up then 2 * l else 2 * l + 1)).key ∈ (legGates l).map Field.key := by
  cases up <;> simp [legGates]

theorem legState_gateOff_ne (l : Nat) (up : Bool) :
    (Reg.PWM_LEG_STAT_STATE l).key ≠ (Reg.GATE_CH_STAT_GATE_OFF (if up then 2 * l else 2 * l + 1)).key := by
  have := leg_keys l
  have := gate_keys (2 * l)
  have := gate_keys (2 * l + 1)
  cases up <;> simp only [Bool.false_eq_true, if_true, if_false] <;> omega

theorem Block.deadOver_cases (l : Nat) (b : Block) : b.deadOver l = b
    ∨ ∃ up : Bool, b.deadOver l
      = (b.flag (Reg.GATE_CH_STAT_GATE_OFF (if up then 2 * l else 2 * l + 1)) false).updLeg l Leg.turnedOn := by
  unfold Block.deadOver
  split
  · next t up _ =>
    split
    · exact .inr ⟨up, rfl⟩
    · exact .inl rfl
  · exact .inl rfl

theorem Block.deadOver_frame (l : Nat) (b : Block) : RegsBut (legGates l) b (b.deadOver l)
    ∧ Keeps [.regs, .lv] b (b.deadOver l) ∧ ((b.deadOver l).leg l).turnedOn = (b.leg l).turnedOn
    ∧ (b.deadOver l).rd (Reg.PWM_LEG_STAT_STATE l) = b.rd (Reg.PWM_LEG_STAT_STATE l) := by
  rcases b.deadOver_cases l with h | ⟨up, h⟩ <;> rw [h]
  · exact ⟨RegsBut.refl _ b, Keeps.refl _ b, rfl, rfl⟩
  · refine ⟨fun g hg => ?_, ((b.wr_keeps _ _).mono (by decide)).andThen (Block.updLeg_keeps _ _ _) (by decide), ?_, ?_⟩
    · rw [Block.updLeg_rd, Block.rd_flag_ne _ g _ _ fun hk => hg (by rw [hk]; exact gateOff_mem_legGates l up)]
    · rw [Block.leg_updLeg_same]
      rfl
    · rw [Block.updLeg_rd, Block.rd_flag_ne _ _ _ _ (legState_gateOff_ne l up)]

theorem Block.settleLeg_eq (l : Nat) (b : Block) [Decidable ((b.deadOver l).pulseOver l)] : b.settleLeg l
    = if (b.deadOver l).pulseOver l then (b.deadOver l).rests l else b.deadOver l := by
  have hdef : b.settleLeg l = match ((b.deadOver l).leg l).restAt with
      | some t => if t ≤ (b.deadOver l).tickIn 0 then (b.deadOver l).rests l else b.deadOver l
      | none => b.deadOver l := rfl
  rw [hdef]
  cases hr : ((b.deadOver l).leg l).restAt <;> simp [Block.pulseOver, hr]

theorem Block.pulseOver_congr {c : Block} (hr : (c.leg l).restAt = (b.leg l).restAt) (ht : c.tb = b.tb) :
    c.pulseOver l ↔ b.pulseOver l := by
  rw [Block.pulseOver, hr, Block.tickIn_of_tb ht]
  rfl

theorem Block.deadOver_pulseOver : (b.deadOver l).pulseOver l ↔ b.pulseOver l := by
  obtain ⟨-, hk, hleg, -⟩ := b.deadOver_frame l
  exact Block.pulseOver_congr (congrArg Leg.restAt hleg :) (hk .tb (by decide))

/-- What a leg that rests leaves alone, and what it shows (R250). -/
theorem Block.rests_frame (l : Nat) (b : Block) : RegsBut (legGates l) b (b.rests l) ∧ Keeps [.regs, .lv, .out] b (b.rests l)
    ∧ (b.rests l).leg l = (b.leg l).pulsed ∧ (b.rests l).rd (Reg.PWM_LEG_STAT_STATE l) = 0
    ∧ (b.rests l).on (Reg.GATE_CH_STAT_GATE_OFF (2 * l + 1)) = b.on (Reg.GATE_CH_STAT_POWERED (2 * l + 1)) := by
  have hst : (Reg.PWM_LEG_STAT_STATE l).key ≠ (Reg.GATE_CH_STAT_GATE_OFF (2 * l + 1)).key := legState_gateOff_ne l false
  have hwr : RegsBut [Reg.PWM_LEG_STAT_STATE l, Reg.GATE_CH_STAT_GATE_OFF (2 * l + 1)] b (b.rests l) :=
    (b.wr_regsBut _ 0).trans_append (Block.flag_regsBut _ _ _)
  refine ⟨hwr.mono (by simp [legGates]), ?_, Block.leg_updLeg_same _ _ _, ?_, ?_⟩
  · exact ((((b.wr_keeps _ _).trans (Block.wr_keeps _ _ _)).mono (by decide)).andThen (Block.updLeg_keeps _ _ _)
      (by decide)).andThen (Block.emit_keeps _ _) (by decide)
  · rw [Block.rests, Block.emit_rd, Block.updLeg_rd, Block.rd_flag_ne _ _ _ _ hst, Block.rd_wr_same, Nat.zero_mod]
  · exact Block.on_flag_same _ _ _ Nat.one_pos

/-- What a settled leg leaves alone. -/
theorem Block.settleLeg_frame (l : Nat) (b : Block) : RegsBut (legGates l) b (b.settleLeg l)
    ∧ Keeps [.regs, .lv, .out] b (b.settleLeg l) ∧ ((b.settleLeg l).leg l).unsettled = (b.leg l).unsettled := by
  classical
  obtain ⟨hregs, hk, hleg, -⟩ := b.deadOver_frame l
  have hleg' : ((b.deadOver l).leg l).unsettled = (b.leg l).unsettled := congrArg Leg.pulsed hleg
  rw [Block.settleLeg_eq]
  split
  · obtain ⟨hregs', hk', hrest, -⟩ := (b.deadOver l).rests_frame l
    exact ⟨hregs.trans hregs', (hk.mono (by decide)).trans hk', (congrArg Leg.unsettled hrest).trans hleg'⟩
  · exact ⟨hregs, hk.mono (by decide), hleg'⟩

/-- A leg whose refresh pulse is not over keeps its state, and nothing is sent. -/
theorem Block.settleLeg_stays (h : ¬ b.pulseOver l) : (b.settleLeg l).out = b.out
    ∧ (b.settleLeg l).rd (Reg.PWM_LEG_STAT_STATE l) = b.rd (Reg.PWM_LEG_STAT_STATE l)
    ∧ ((b.settleLeg l).leg l).restAt = (b.leg l).restAt := by
  classical
  obtain ⟨-, hk, hleg, hst⟩ := b.deadOver_frame l
  rw [Block.settleLeg_eq, if_neg (fun hp => h (Block.deadOver_pulseOver.mp hp))]
  exact ⟨hk .out (by decide), hst, (congrArg Leg.restAt hleg :)⟩

/-- A leg whose refresh pulse is over rests with both switches off (R250). -/
theorem Block.settleLeg_rests (h : b.pulseOver l) : (b.settleLeg l).out = .rest l :: b.out
    ∧ (b.settleLeg l).rd (Reg.PWM_LEG_STAT_STATE l) = 0 ∧ ((b.settleLeg l).leg l).restAt = none
    ∧ (b.settleLeg l).on (Reg.GATE_CH_STAT_GATE_OFF (2 * l + 1)) = b.on (Reg.GATE_CH_STAT_POWERED (2 * l + 1)) := by
  classical
  obtain ⟨hregs, hk, -, -⟩ := b.deadOver_frame l
  obtain ⟨-, -, hrest, hst, hgate⟩ := (b.deadOver l).rests_frame l
  have hout : (b.deadOver l).out = b.out := hk .out (by decide)
  have hleg := leg_keys l
  have hup := gate_keys (2 * l)
  have hlow := gate_keys (2 * l + 1)
  rw [Block.settleLeg_eq, if_pos (Block.deadOver_pulseOver.mpr h)]
  exact ⟨(congrArg (Output.rest l :: ·) hout :), hst, (congrArg Leg.restAt hrest :),
    hgate.trans (Block.on_congr (hregs _ (not_legGates (by omega) (by omega) (by omega))))⟩

theorem Block.not_pulseOver (h : (b.leg l).restAt = none) : ¬ b.pulseOver l := by
  rintro ⟨t, ht, -⟩
  rw [h] at ht
  cases ht

/-- What a leg sends as it settles goes by its refresh pulse alone. -/
theorem Block.settleLeg_out_congr {c : Block} (ho : c.out = b.out) (hr : (c.leg l).restAt = (b.leg l).restAt) (ht : c.tb = b.tb) :
    (c.settleLeg l).out = (b.settleLeg l).out := by
  have hiff := Block.pulseOver_congr hr ht
  by_cases h : b.pulseOver l
  · rw [(Block.settleLeg_rests h).1, (Block.settleLeg_rests (hiff.mpr h)).1, ho]
  · rw [(Block.settleLeg_stays h).1, (Block.settleLeg_stays fun hc => h (hiff.mp hc)).1, ho]

/-! ### The change of a leg's state (R243) -/

/-- The record of a leg but for what an edge of it changes. -/
def Leg.plan (x : Leg) : Leg :=
  { x with lastEdge := none, lockSince := none, dead := none, restAt := none, upperSince := 0, lowerLast := 0 }

/-- The record of a leg whose state changes at `t`, the switch that turns on doing so at `on`; `lower`: the lower one conducted
    until now, at uptime `up`. -/
def Leg.turned (t on : Int) (upper lower : Bool) (up dt : Nat) (x : Leg) : Leg :=
  { x with lastEdge := some t, lockSince := none, dead := some (on, upper), restAt := none
           upperSince := if upper then up + 1000 * dt else x.upperSince
           lowerLast := if upper && lower then up else x.lowerLast }

/-- The state that a leg takes, and the switch that turns off. -/
def Block.stateTo (l : Nat) (upper : Bool) (b : Block) : Block :=
  (b.wr (Reg.PWM_LEG_STAT_STATE l) (if upper then 2 else 1)).flag (Reg.GATE_CH_STAT_GATE_OFF (if upper then 2 * l + 1 else 2 * l))
    (b.on (Reg.GATE_CH_STAT_POWERED (if upper then 2 * l + 1 else 2 * l)))

theorem Block.stateTo_frame (l : Nat) (upper : Bool) (b : Block) :
    (b.stateTo l upper).rd (Reg.PWM_LEG_STAT_STATE l) = (if upper then 2 else 1)
    ∧ RegsBut (legGates l) b (b.stateTo l upper) ∧ Keeps [.regs] b (b.stateTo l upper) := by
  have hne : (Reg.PWM_LEG_STAT_STATE l).key ≠ (Reg.GATE_CH_STAT_GATE_OFF (if upper then 2 * l + 1 else 2 * l)).key := by
    have := legState_gateOff_ne l (!upper)
    cases upper <;> exact this
  refine ⟨(Block.rd_flag_ne _ _ _ _ hne).trans ((Block.rd_wr_same _ _ _).trans ?_), ?_,
    (b.wr_keeps _ _).trans (Block.wr_keeps _ _ _)⟩
  · cases upper <;> rfl
  · refine ((b.wr_regsBut _ _).trans_append (Block.flag_regsBut _ _ _)).mono ?_
    cases upper <;> simp [legGates]

theorem Block.legTo_eq (l : Nat) (t : Int) (dt : Nat) (upper : Bool) (b : Block) : b.legTo l t dt upper =
    let c := b.settleLeg l
    let d := c.stateTo l upper
    let f := Leg.turned t (t + 64 * dt) upper (c.rd (Reg.PWM_LEG_STAT_STATE l) == 1) d.tb.up dt
    let e := (d.updLeg l f).settleLeg l
    (e.updLv fun v => { v with tripDone := v.tripDone.filter fun k => (e.tripOf k).leg != l }).emit
      (.edge l t (t + 64 * dt) upper) := rfl

/-- A leg takes a state (R243): what it shows and sends, and what it leaves alone. -/
theorem Block.legTo_frame (l : Nat) (t : Int) (dt : Nat) (upper : Bool) (b : Block) :
    (b.legTo l t dt upper).rd (Reg.PWM_LEG_STAT_STATE l) = (if upper then 2 else 1)
    ∧ (b.legTo l t dt upper).out = .edge l t (t + 64 * dt) upper :: (b.settleLeg l).out
    ∧ ((b.legTo l t dt upper).leg l).lastEdge = some t ∧ ((b.legTo l t dt upper).leg l).restAt = none
    ∧ ((b.legTo l t dt upper).leg l).plan = (b.leg l).plan
    ∧ RegsBut (legGates l) b (b.legTo l t dt upper) ∧ Keeps [.regs, .lv, .out] b (b.legTo l t dt upper) := by
  obtain ⟨hregs, hk, hleg⟩ := b.settleLeg_frame l
  rw [Block.legTo_eq]
  extract_lets c d f e
  obtain ⟨hst, hdregs, hdk⟩ := c.stateTo_frame l upper
  have hturn : (d.updLeg l f).leg l = f (c.leg l) :=
    (d.leg_updLeg_same l f).trans (congrArg (fun v : LvSt => f (SMap.look default v.legs l)) (hdk .lv (by decide)))
  have hrest : ((d.updLeg l f).leg l).restAt = none := congrArg Leg.restAt hturn
  obtain ⟨heregs, hek, heleg⟩ : RegsBut (legGates l) (d.updLeg l f) e ∧ Keeps [.regs, .lv, .out] (d.updLeg l f) e
    ∧ (e.leg l).unsettled = _ := (d.updLeg l f).settleLeg_frame l
  obtain ⟨heout, hest, herest⟩ : e.out = _ ∧ e.rd (Reg.PWM_LEG_STAT_STATE l) = _ ∧ (e.leg l).restAt = _ :=
    Block.settleLeg_stays (Block.not_pulseOver hrest)
  rw [hturn] at heleg
  clear_value e
  have hplan : (e.leg l).plan = (b.leg l).plan := by
    rw [show (e.leg l).plan = (e.leg l).unsettled.plan from rfl, heleg]
    exact (congrArg Leg.plan hleg : (c.leg l).unsettled.plan = (b.leg l).unsettled.plan)
  have hlast : (e.leg l).lastEdge = some t := by
    rw [show (e.leg l).lastEdge = (e.leg l).unsettled.lastEdge from rfl, heleg]
    rfl
  have hkeep := (((hk.andThen hdk (by decide)).andThen (Block.updLeg_keeps l f d) (by decide)).trans hek)
  exact ⟨hest.trans hst, congrArg (Output.edge l t (t + 64 * dt) upper :: ·) (heout.trans (hdk .out (by decide))), hlast,
    herest.trans hrest, hplan, (hregs.trans hdregs).trans heregs,
    (hkeep.andThen (Block.updLv_keeps _ _) (by decide)).andThen (Block.emit_keeps _ _) (by decide)⟩

end

end Sys2Proof.Machine
end

section
/-! PROOFS. The update point of a leg, its edges and its bootstrap refresh (R243, R244, R250, R258). -/

namespace Sys2Proof.Machine

section
variable {b : Block} {l : Nat}

/-! ### Update points (R239, R243) -/

theorem Block.judgeLeg_running (hr : b.mayRun l = true) (hs : (b.leg l).switching = true) : b.judgeLeg l = b := by
  have hforce : b.on (Reg.PWM_LEG_FORCE_EN l) = false := by
    have h := hr
    simp only [Block.mayRun, Bool.and_eq_true, Bool.not_eq_true'] at h
    exact h.1.2
  simp [Block.judgeLeg, hforce, hr, hs]

/-- The update point of a leg that switches: the trips are judged first (R258). -/
theorem Block.pwmUpdatePoint_running (hr : b.mayRun l = true) (hs : (b.leg l).switching = true) : b.pwmUpdatePoint l =
    let judged := (b.untilI (b.leg l).nextU).tripsJudge
    if (judged.leg l).switching then ((judged.legFields l).clampAct l).buildEdges l else judged := by
  simp [Block.pwmUpdatePoint, Block.judgeLeg_running hr hs, hr, hs]

/-- The clamp acts in count mode alone (R242). -/
theorem Block.clampAct_time (h : (b.leg l).count = false) : b.clampAct l = b := by
  simp [Block.clampAct, h]

/-- The boundary that a window's ticks count from. -/
def Leg.winGrid (x : Leg) : Int := if x.carrier then x.nextU else x.grid

/-- Where a window begins and ends, in ticks from there. -/
def Leg.winFrom (x : Leg) : Nat := if x.carrier then 0 else x.period / 2
def Leg.winTo (x : Leg) : Nat := if x.carrier && x.upd then x.period / 2 else x.period

/-- The compares of a window and its swallowed and stretched pulses are shown. -/
def Block.windowShown (l on off sw st : Nat) (b : Block) : Block :=
  (((b.wr (Reg.PWM_LEG_TON_TICK l) on).wr (Reg.PWM_LEG_TOFF_TICK l) off).count (Reg.PWM_LEG_CNT_SWALLOW l) sw).count
    (Reg.PWM_LEG_CNT_STRETCH l) st

theorem Block.windowShown_frame (l on off sw st : Nat) (b : Block) :
    (b.windowShown l on off sw st).rd (Reg.PWM_LEG_TON_TICK l) = on % 2 ^ 24
    ∧ (b.windowShown l on off sw st).rd (Reg.PWM_LEG_TOFF_TICK l) = off % 2 ^ 24
    ∧ Keeps [.regs] b (b.windowShown l on off sw st) := by
  have := leg_keys l
  refine ⟨?_, ?_, (((b.wr_keeps _ _).trans (Block.wr_keeps _ _ _)).trans (Block.wr_keeps _ _ _)).trans (Block.wr_keeps _ _ _)⟩
  · rw [Block.windowShown, Block.rd_count_ne _ _ _ _ (by omega), Block.rd_count_ne _ _ _ _ (by omega),
      Block.rd_wr_ne _ _ _ _ (by omega), Block.rd_wr_same]
    rfl
  · rw [Block.windowShown, Block.rd_count_ne _ _ _ _ (by omega), Block.rd_count_ne _ _ _ _ (by omega), Block.rd_wr_same]
    rfl

/-- The edges that a leg in state `g` issues in a window (R243, R244). -/
def Leg.issues (g : Bool) (on off : Nat) (x : Leg) : List (Int × Bool) :=
  (shortEdges 1 x.tmin x.stretch (x.last.map fun t => (t - x.winGrid) / 5) [] 0 0
    (dropRedundant g ([((x.winFrom : Int), pattern on off x.winFrom)]
      ++ (patternEdges on off x.winFrom x.winTo).filter fun e => decide (e.1 ≠ (x.winFrom : Int))))).1.map
    fun e => (x.winGrid + 5 * e.1, e.2)

/-- What the window's edges make of a leg's record. -/
def Leg.Windowed (on off : Nat) (x y : Leg) : Prop :=
  (∀ g, x.gen = some g → y.edges = x.join (x.issues g on off)) ∧ y.nextU = x.winGrid + 5 * (x.winTo : Int)
    ∧ y.carrier = decide (x.winTo = x.period) ∧ y.restAt = x.restAt

theorem Block.buildEdges_eq (l : Nat) (b : Block) :
    let on := (b.leg l).ticks (b.rd (Reg.PWM_LEG_CFG_SRC l) == 1) (b.leg l).cmpOn
    let off := (b.leg l).ticks (b.rd (Reg.PWM_LEG_CFG_SRC l) == 1) (b.leg l).cmpOff
    ∃ sw st f, (b.leg l).Windowed on off (f (b.leg l)) ∧ b.buildEdges l =
      let c := (b.windowShown l on off sw st).updLeg l f
      if (b.leg l).gen.isNone then c.legTo l (b.leg l).winGrid 0 false else c := by
  dsimp only
  refine ⟨_, _, _, ?_, rfl⟩
  refine ⟨fun g hg => ?_, rfl, rfl, rfl⟩
  simp only [hg]
  rfl

/-- What an edge leaves of a leg's record. -/
theorem Leg.of_plan {x y : Leg} (h : x.plan = y.plan) : x.edges = y.edges ∧ x.nextU = y.nextU :=
  ⟨(congrArg Leg.edges h :), (congrArg Leg.nextU h :)⟩

/-- The compares shown and the count of refreshes are no field that an edge writes. -/
theorem window_not_legGates (l : Nat) : (Reg.PWM_LEG_TON_TICK l).key ∉ (legGates l).map Field.key
    ∧ (Reg.PWM_LEG_TOFF_TICK l).key ∉ (legGates l).map Field.key
    ∧ (Reg.PWM_LEG_ICNT_REFRESH l).key ∉ (legGates l).map Field.key := by
  have hl := leg_keys l
  have hup := gate_keys (2 * l)
  have hlow := gate_keys (2 * l + 1)
  refine ⟨not_legGates ?_ ?_ ?_, not_legGates ?_ ?_ ?_, not_legGates ?_ ?_ ?_⟩ <;> omega

/-- The first window of a leg that was held, before its lower switch turns on. -/
theorem Block.windowed_frame (l on off sw st : Nat) (f : Leg → Leg) (b : Block) :
    let t := (b.windowShown l on off sw st).updLeg l f
    t.rd (Reg.PWM_LEG_TON_TICK l) = on % 2 ^ 24 ∧ t.rd (Reg.PWM_LEG_TOFF_TICK l) = off % 2 ^ 24
    ∧ t.leg l = f (b.leg l) ∧ Keeps [.regs, .lv] b t := by
  obtain ⟨hon, hoff, hk⟩ := b.windowShown_frame l on off sw st
  have hlv : (b.windowShown l on off sw st).lv = b.lv := hk .lv (by decide)
  refine ⟨hon, hoff, (Block.leg_updLeg_same _ _ _).trans ?_,
    (hk.mono (by decide)).andThen (Block.updLeg_keeps _ _ _) (by decide)⟩
  rw [Block.leg, Block.leg, hlv]

/-- The window of a leg that has had one (R243). -/
theorem Block.buildEdges_later {g : Bool} (hg : (b.leg l).gen = some g) :
    let x := b.leg l
    let on := x.ticks (b.rd (Reg.PWM_LEG_CFG_SRC l) == 1) x.cmpOn
    let off := x.ticks (b.rd (Reg.PWM_LEG_CFG_SRC l) == 1) x.cmpOff
    let t := b.buildEdges l
    t.rd (Reg.PWM_LEG_TON_TICK l) = on % 2 ^ 24 ∧ t.rd (Reg.PWM_LEG_TOFF_TICK l) = off % 2 ^ 24
    ∧ (t.leg l).edges = x.join (x.issues g on off) ∧ (t.leg l).nextU = x.winGrid + 5 * (x.winTo : Int)
    ∧ (t.leg l).carrier = decide (x.winTo = x.period) ∧ Keeps [.regs, .lv] b t := by
  intro x on off
  obtain ⟨sw, st, f, ⟨hedges, hnext, hcar, -⟩, heq⟩ := b.buildEdges_eq l
  obtain ⟨hon, hoff, hleg, hk⟩ := b.windowed_frame l on off sw st f
  rw [heq, hg, Option.isNone_some]
  simp only [Bool.false_eq_true, if_false]
  rw [← hleg] at hedges hnext hcar
  exact ⟨hon, hoff, hedges g hg, hnext, hcar, hk⟩

/-- The first window of a leg that was held: the lower switch turns on at its boundary, without dead time (R243). -/
theorem Block.buildEdges_first (hg : (b.leg l).gen = none) :
    let x := b.leg l
    let on := x.ticks (b.rd (Reg.PWM_LEG_CFG_SRC l) == 1) x.cmpOn
    let off := x.ticks (b.rd (Reg.PWM_LEG_CFG_SRC l) == 1) x.cmpOff
    let t := b.buildEdges l
    t.rd (Reg.PWM_LEG_TON_TICK l) = on % 2 ^ 24 ∧ t.rd (Reg.PWM_LEG_TOFF_TICK l) = off % 2 ^ 24
    ∧ t.rd (Reg.PWM_LEG_STAT_STATE l) = 1 ∧ t.out = .edge l x.winGrid x.winGrid false :: (b.settleLeg l).out
    ∧ (t.leg l).nextU = x.winGrid + 5 * (x.winTo : Int) ∧ Keeps [.regs, .lv, .out] b t := by
  intro x on off
  obtain ⟨sw, st, f, ⟨-, hnext, -, hrest⟩, heq⟩ := b.buildEdges_eq l
  obtain ⟨hon, hoff, hleg, hk⟩ := b.windowed_frame l on off sw st f
  rw [heq, hg, Option.isNone_none]
  simp only [if_true]
  generalize (b.windowShown l on off sw st).updLeg l f = c at hon hoff hleg hk
  rw [← hleg] at hnext hrest
  obtain ⟨hst, hout, -, -, hplan, hregs, hk'⟩ := c.legTo_frame l x.winGrid 0 false
  obtain ⟨hton, htoff, -⟩ := window_not_legGates l
  have hsame := Block.settleLeg_out_congr (hk .out (by decide)) hrest (hk .tb (by decide))
  refine ⟨(hregs _ hton).trans hon, (hregs _ htoff).trans hoff, hst, ?_, (Leg.of_plan hplan).2.trans hnext,
    (hk.mono (by decide)).trans hk'⟩
  rw [hout, hsame, Nat.cast_zero, mul_zero, add_zero]

/-! ### Edges (R243) -/

/-- The next edge of a leg happens, where no trip turns it off before. -/
theorem Block.legEdge_taken {t : Int} {upper : Bool} {rest : List (Int × Bool)} (h : (b.leg l).edges = (t, upper) :: rest)
    (hj : (((b.untilI t).tripsJudge).leg l).edges = (t, upper) :: rest) : b.legEdge l =
    let c := (b.untilI t).tripsJudge
    (c.updLeg l fun x => { x with edges := rest }).legTo l t (c.leg l).dt upper := by
  simp [Block.legEdge, h, hj]

theorem Block.legEdge_none (h : (b.leg l).edges = []) : b.legEdge l = b := by
  simp [Block.legEdge, h]

/-- The record of a leg whose edges are `es`, with the remainder of its record as it was, takes a state. -/
theorem Block.legTo_edges (l : Nat) (t : Int) (dt : Nat) (upper : Bool) (es : List (Int × Bool)) (b : Block) :
    let c := (b.updLeg l fun x => { x with edges := es }).legTo l t dt upper
    (c.leg l).edges = es ∧ (c.leg l).lastEdge = some t ∧ c.rd (Reg.PWM_LEG_STAT_STATE l) = (if upper then 2 else 1)
    ∧ c.out = .edge l t (t + 64 * dt) upper :: (b.settleLeg l).out ∧ RegsBut (legGates l) b c
    ∧ Keeps [.regs, .lv, .out] b c := by
  have hleg := b.leg_updLeg_same l fun x => { x with edges := es }
  have hk := Block.updLeg_keeps l (fun x => { x with edges := es }) b
  have hrd := fun g : Field => b.updLeg_rd l (fun x => { x with edges := es }) g
  generalize b.updLeg l (fun x => { x with edges := es }) = d at hleg hk hrd
  obtain ⟨hst, hout, hlast, -, hplan, hregs, hk'⟩ := d.legTo_frame l t dt upper
  have hsame := Block.settleLeg_out_congr (hk .out (by decide)) (congrArg Leg.restAt hleg :) (hk .tb (by decide))
  exact ⟨(Leg.of_plan hplan).1.trans (congrArg Leg.edges hleg), hlast, hst, hsame ▸ hout,
    fun g hg => (hregs g hg).trans (hrd g), (hk.mono (by decide)).trans hk'⟩

/-! ### Bootstrap refresh (R250) -/

/-- A refresh pulse that ends at `e`, after which the leg goes on (`back`: with upper). -/
def Leg.pulsedTo (e : Int) (back : Bool) (x : Leg) : Leg := { x with edges := refreshEdges e back x.edges, refreshEnd := some e }

theorem Leg.pulsedTo_restAt (e : Int) (back : Bool) (x : Leg) : (x.pulsedTo e back).restAt = x.restAt := rfl

/-- A refresh pulse from uptime `up` that ends at `e`, after which the leg rests. -/
def Leg.pulsedAtRest (e : Int) (up : Nat) (x : Leg) : Leg :=
  { x with refreshEnd := some e, restAt := some e, lowerLast := up + 1000 * x.pulse }

/-- A refresh pulse is counted, and the lower switch turns on for it after the dead time `dt`. -/
def Block.pulse (l dt : Nat) (b : Block) : Block := (b.count (Reg.PWM_LEG_ICNT_REFRESH l) 1).legTo l (b.tickIn 0) dt false

theorem Block.pulse_frame (l dt : Nat) (b : Block) :
    let t := b.tickIn 0
    let c := b.pulse l dt
    c.out = .edge l t (t + 64 * dt) false :: (b.settleLeg l).out ∧ (c.leg l).edges = (b.leg l).edges
    ∧ c.rd (Reg.PWM_LEG_ICNT_REFRESH l) = satNat 16 (b.rd (Reg.PWM_LEG_ICNT_REFRESH l) + 1)
    ∧ c.rd (Reg.PWM_LEG_STAT_STATE l) = 1 ∧ (c.leg l).restAt = none ∧ Keeps [.regs, .lv, .out] b c := by
  dsimp only
  generalize ht : b.tickIn 0 = t
  rw [Block.pulse, ht]
  have hcnt : (b.count (Reg.PWM_LEG_ICNT_REFRESH l) 1).rd (Reg.PWM_LEG_ICNT_REFRESH l)
      = satNat 16 (b.rd (Reg.PWM_LEG_ICNT_REFRESH l) + 1) := Block.rd_count_sat _ _ _
  have hk : Keeps [.regs] b (b.count (Reg.PWM_LEG_ICNT_REFRESH l) 1) := Block.wr_keeps _ _ _
  generalize b.count (Reg.PWM_LEG_ICNT_REFRESH l) 1 = d at hcnt hk
  have hleg : d.leg l = b.leg l := congrArg (fun v : LvSt => SMap.look default v.legs l) (hk .lv (by decide))
  obtain ⟨hst, hout, -, hrest, hplan, hregs, hk'⟩ := d.legTo_frame l t dt false
  have hsame := Block.settleLeg_out_congr (hk .out (by decide)) (congrArg Leg.restAt hleg) (hk .tb (by decide))
  obtain ⟨-, -, hcount⟩ := window_not_legGates l
  exact ⟨hsame ▸ hout, (Leg.of_plan hplan).1.trans (congrArg Leg.edges hleg), (hregs _ hcount).trans hcnt, hst, hrest,
    (hk.mono (by decide)).trans hk'⟩

/-- The refresh of a leg whose upper switch is on, where no trip has turned it off. -/
def Block.refreshUpper (l : Nat) (x : Leg) (b : Block) : Block :=
  if b.rd (Reg.PWM_LEG_STAT_STATE l) ≠ 2 then b
  else
    let e := b.tickIn 0 + 5 * (nsTicks (x.dt + x.pulse) : Nat)
    (b.pulse l x.dt).updLeg l (Leg.pulsedTo e (b.onBeyond l e))

/-- The refresh of a leg that rests, where no trip has turned it off. -/
def Block.refreshResting (l : Nat) (x : Leg) (b : Block) : Block :=
  if !b.resting l then b
  else (b.pulse l 0).updLeg l (Leg.pulsedAtRest (b.tickIn 0 + 5 * (nsTicks x.pulse : Nat)) (b.pulse l 0).tb.up)

theorem Block.bootstrapRefresh_eq (l : Nat) (b : Block) : b.bootstrapRefresh l =
    let c := b.settleLeg l
    let x := c.leg l
    if (c.rd (Reg.PWM_LEG_CFG_SRC l) = 1 ∨ c.rd (Reg.PWM_LEG_CFG_SRC l) = 2 ∨ c.rd (Reg.PWM_LEG_CFG_SRC l) = 3)
        ∧ c.rd (Reg.PWM_LEG_STAT_STATE l) = 2 then (c.untilUp (x.upperSince + x.tmax * usPs)).tripsJudge.refreshUpper l x
    else if c.resting l then (c.untilUp (x.lowerLast + x.intv * usPs)).tripsJudge.refreshResting l x
    else c := rfl

theorem Block.bootstrapRefresh_upper (hsrc : (b.settleLeg l).rd (Reg.PWM_LEG_CFG_SRC l) ∈ [1, 2, 3])
    (hst : (b.settleLeg l).rd (Reg.PWM_LEG_STAT_STATE l) = 2) : b.bootstrapRefresh l =
    let x := (b.settleLeg l).leg l
    ((b.settleLeg l).untilUp (x.upperSince + x.tmax * usPs)).tripsJudge.refreshUpper l x := by
  simp only [List.mem_cons, List.not_mem_nil, or_false] at hsrc
  rw [Block.bootstrapRefresh_eq, if_pos ⟨hsrc, hst⟩]

theorem Block.bootstrapRefresh_resting (hr : (b.settleLeg l).resting l = true) : b.bootstrapRefresh l =
    let x := (b.settleLeg l).leg l
    ((b.settleLeg l).untilUp (x.lowerLast + x.intv * usPs)).tripsJudge.refreshResting l x := by
  have hst : (b.settleLeg l).rd (Reg.PWM_LEG_STAT_STATE l) = 0 := by
    simp only [Block.resting, Bool.and_eq_true, beq_iff_eq] at hr
    exact hr.1.1
  rw [Block.bootstrapRefresh_eq, if_neg (by rw [hst]; omega), if_pos hr]

/-- The pulse after upper: an edge to lower, with the edges issued until its end moved (R250). -/
theorem Block.refreshUpper_frame {x : Leg} (h : b.rd (Reg.PWM_LEG_STAT_STATE l) = 2) :
    let now := b.tickIn 0
    let fin := now + 5 * (nsTicks (x.dt + x.pulse) : Nat)
    let t := b.refreshUpper l x
    t.out = .edge l now (now + 64 * x.dt) false :: (b.settleLeg l).out
    ∧ (t.leg l).edges = refreshEdges fin (b.onBeyond l fin) (b.leg l).edges ∧ (t.leg l).refreshEnd = some fin
    ∧ t.rd (Reg.PWM_LEG_ICNT_REFRESH l) = satNat 16 (b.rd (Reg.PWM_LEG_ICNT_REFRESH l) + 1)
    ∧ t.rd (Reg.PWM_LEG_STAT_STATE l) = 1 ∧ (t.leg l).restAt = none ∧ Keeps [.regs, .lv, .out] b t := by
  dsimp only
  obtain ⟨hout, hedges, hcount, hstate, hrest, hk⟩ := b.pulse_frame l x.dt
  rw [Block.refreshUpper, if_neg (not_not.mpr h)]
  generalize b.tickIn 0 + 5 * (nsTicks (x.dt + x.pulse) : Nat) = e
  have hleg := (b.pulse l x.dt).leg_updLeg_same l (Leg.pulsedTo e (b.onBeyond l e))
  refine ⟨hout, (congrArg Leg.edges hleg).trans ?_, (congrArg Leg.refreshEnd hleg :), (Block.updLeg_rd _ _ _ _).trans hcount,
    (Block.updLeg_rd _ _ _ _).trans hstate, (congrArg Leg.restAt hleg).trans ((Leg.pulsedTo_restAt _ _ _).trans hrest),
    hk.andThen (Block.updLeg_keeps _ _ _) (by decide)⟩
  exact congrArg (refreshEdges e (b.onBeyond l e)) hedges

/-- The pulse of a leg that rests: the lower switch at once, and it rests again at the end (R250). -/
theorem Block.refreshResting_frame {x : Leg} (h : b.resting l = true) :
    let now := b.tickIn 0
    let fin := now + 5 * (nsTicks x.pulse : Nat)
    let t := b.refreshResting l x
    t.out = .edge l now now false :: (b.settleLeg l).out ∧ (t.leg l).refreshEnd = some fin ∧ (t.leg l).restAt = some fin
    ∧ t.rd (Reg.PWM_LEG_ICNT_REFRESH l) = satNat 16 (b.rd (Reg.PWM_LEG_ICNT_REFRESH l) + 1)
    ∧ t.rd (Reg.PWM_LEG_STAT_STATE l) = 1 ∧ Keeps [.regs, .lv, .out] b t := by
  dsimp only
  obtain ⟨hout, -, hcount, hstate, -, hk⟩ := b.pulse_frame l 0
  rw [Nat.cast_zero, mul_zero, add_zero] at hout
  rw [Block.refreshResting, if_neg (by simp [h])]
  generalize b.tickIn 0 + 5 * (nsTicks x.pulse : Nat) = e
  have hleg := (b.pulse l 0).leg_updLeg_same l (Leg.pulsedAtRest e (b.pulse l 0).tb.up)
  exact ⟨hout, (congrArg Leg.refreshEnd hleg :), (congrArg Leg.restAt hleg :), (Block.updLeg_rd _ _ _ _).trans hcount,
    (Block.updLeg_rd _ _ _ _).trans hstate, hk.andThen (Block.updLeg_keeps _ _ _) (by decide)⟩

/-! ### The statement -/

/-- Settles O28: each of the three commands is one change of the leg's state (`Block.legTo_frame`), after the trips are judged. -/
theorem legWindowsEdgesAndRefresh : Obligations.LegWindowsEdgesAndRefresh := by
  unfold Obligations.LegWindowsEdgesAndRefresh
  intro s l
  refine ⟨fun hr hs => ⟨fun hoff => ?_, fun hon htime => ⟨fun g hg => ?_, fun hg => ?_⟩⟩,
    fun t upper rest hedges hj => ?_, fun hnone => ?_, fun hsrc hst => ⟨fun hne => ?_, fun hup => ?_⟩,
    fun hrest => ⟨fun hne => ?_, fun hr => ?_⟩, fun fin hfin hover => ?_⟩
  case refine_1 =>
    refine does_onBlk rfl ?_
    simp [Block.pwmUpdatePoint_running hr hs, hoff]
  case refine_2 =>
    refine does_onBlk rfl ?_
    simp only [Block.pwmUpdatePoint_running hr hs, hon, if_true, Block.clampAct_time htime]
    generalize Block.legFields l _ = c at hg htime ⊢
    exact Block.buildEdges_later hg
  case refine_3 =>
    refine does_onBlk rfl ?_
    simp only [Block.pwmUpdatePoint_running hr hs, hon, if_true, Block.clampAct_time htime]
    generalize Block.legFields l _ = c at hg htime ⊢
    exact Block.buildEdges_first hg
  case refine_4 =>
    refine does_onBlk rfl ?_
    simp only [Block.legEdge_taken hedges hj]
    exact Block.legTo_edges l t _ upper rest _
  case refine_5 =>
    refine does_onBlk rfl ?_
    simp only [Block.legEdge_none hnone]
    exact ⟨RegsBut.refl _ _, Keeps.refl _ _⟩
  case refine_6 =>
    refine does_onBlk rfl ?_
    simp only [Block.bootstrapRefresh_upper hsrc hst]
    exact if_pos hne
  case refine_7 =>
    refine does_onBlk rfl ?_
    simp only [Block.bootstrapRefresh_upper hsrc hst]
    exact Block.refreshUpper_frame hup
  case refine_8 =>
    refine does_onBlk rfl ?_
    simp only [Block.bootstrapRefresh_resting hrest]
    exact if_pos (by simp [hne])
  case refine_9 =>
    refine does_onBlk rfl ?_
    simp only [Block.bootstrapRefresh_resting hrest]
    exact Block.refreshResting_frame hr
  case refine_10 =>
    obtain ⟨hout, hst, hrest, hgate⟩ := Block.settleLeg_rests ⟨fin, hfin, hover⟩
    exact ⟨hst, hout, hrest, hgate⟩

end

end Sys2Proof.Machine
end

section
/-! PROOFS. What the local stage's own operations leave of an occurrence's record (R346), and what an occurrence leaves of the
    stage (R341): the block of the stage, its trips, its stuck gates, and the legs that are off. -/

namespace Sys2Proof.Machine

/-! ### The registers of the stage (R272, R290) -/

/-- A field of the local power stage: its legs, channels, diagnostics and ports. -/
def Field.ofStage (f : Field) : Prop := 0x400000 * 8 ≤ f.key ∧ f.key < 0x430000 * 8

theorem port_keys (p : Nat) : (Reg.PORT_STAT_STATE p).key = 0x100 * p + 0x2100000
    ∧ (Reg.PORT_STAT_RETRIES p).key = 0x100 * p + 0x2100006 ∧ (Reg.PORT_STAT_CAUSE p).key = 0x100 * p + 0x2100008 := by
  simp only [Field.key, Reg.PORT_STAT_STATE, Reg.PORT_STAT_RETRIES, Reg.PORT_STAT_CAUSE]
  omega

/-- The fields that a port's state and fault write. -/
def portFields (p : Nat) : List Field := [Reg.PORT_STAT_STATE p, Reg.PORT_STAT_RETRIES p, Reg.PORT_STAT_CAUSE p]

theorem portFields_ofStage {p : Nat} (hp : p < 8) : ∀ f ∈ portFields p, f.ofStage := by
  have := port_keys p
  simp only [portFields, List.forall_mem_cons, Field.ofStage, List.not_mem_nil, false_imp_iff, implies_true, and_true]
  omega

theorem stageFields_ofStage : ∀ f ∈ stageFields, f.ofStage := by
  have hstage := stage_keys
  intro f hf
  simp only [stageFields, List.mem_cons, List.mem_append, List.mem_map, List.mem_range] at hf
  unfold Field.ofStage
  obtain rfl | rfl | ⟨l, hl, rfl⟩ | ⟨ch, hch, rfl⟩ := hf
  · omega
  · omega
  · have := leg_keys l
    omega
  · have := gate_keys ch
    omega

/-! ### What the stage leaves of an occurrence's record (R346, R350) -/

/-- `c` is `b` but for the registers of the stage, its record, the outputs and the recovery records. -/
def OnStage (b c : Block) : Prop := (∀ g : Field, ¬ g.ofStage → c.rd g = b.rd g)
  ∧ (c.evt.held = b.evt.held ∧ c.evt.logged = b.evt.logged) ∧ Keeps [.regs, .lv, .out, .evt] b c

section
variable {a b c : Block}

theorem OnStage.refl (b : Block) : OnStage b b := ⟨fun _ _ => rfl, ⟨rfl, rfl⟩, Keeps.refl _ b⟩

theorem OnStage.trans (h : OnStage a b) (h' : OnStage b c) : OnStage a c :=
  ⟨fun g hg => (h'.1 g hg).trans (h.1 g hg), ⟨h'.2.1.1.trans h.2.1.1, h'.2.1.2.trans h.2.1.2⟩, h.2.2.trans h'.2.2⟩

theorem OnStage.ite {p : Prop} [Decidable p] {x y : Block} (hx : p → OnStage b x) (hy : ¬ p → OnStage b y) :
    OnStage b (if p then x else y) := by
  split
  · exact hx ‹_›
  · exact hy ‹_›

theorem OnStage.eachOf {α : Type} {xs : List α} {f : α → Block → Block} (h : ∀ x ∈ xs, ∀ b, OnStage b (f x b))
    (b : Block) : OnStage b (b.eachOf xs f) := by
  unfold Block.eachOf
  induction xs generalizing b with
  | nil => exact .refl b
  | cons x r ih => exact (h x List.mem_cons_self b).trans (ih (fun y hy => h y (List.mem_cons_of_mem _ hy)) _)

theorem OnStage.of_frame {fs : List Field} {l : List Part} (hr : RegsBut fs b c) (hk : Keeps l b c) (hf : ∀ f ∈ fs, f.ofStage)
    (hl : l ⊆ [.regs, .lv, .out]) : OnStage b c := by
  have hevt : c.evt = b.evt := hk .evt fun hm => absurd (hl hm) (by decide)
  refine ⟨fun g hg => hr g fun hm => hg ?_, by rw [hevt]; exact ⟨rfl, rfl⟩, hk.mono (List.Subset.trans hl (by decide))⟩
  obtain ⟨f, hfs, hfg⟩ := List.mem_map.mp hm
  rw [Field.ofStage, ← hfg]
  exact hf f hfs

theorem OnStage.wr {f : Field} (hf : f.ofStage) (v : Nat) (b : Block) : OnStage b (b.wr f v) :=
  .of_frame (b.wr_regsBut f v) (b.wr_keeps f v) (List.forall_mem_singleton.mpr hf) (by decide)

theorem OnStage.updLv (f : LvSt → LvSt) (b : Block) : OnStage b (b.updLv f) :=
  .of_frame (fs := []) (fun _ _ => rfl) (b.updLv_keeps f) nofun (by decide)

theorem OnStage.updRecov (k : Nat) (f : Recov → Recov) (b : Block) : OnStage b (b.updRecov k f) :=
  ⟨fun _ _ => rfl, ⟨rfl, rfl⟩, (b.updRecov_keeps k f).mono (by decide)⟩

theorem OnStage.of_besideStage (h : c.besideStage = b.besideStage) : OnStage b c :=
  .of_frame (Block.frame_of_besideStage h).1 (Block.frame_of_besideStage h).2 stageFields_ofStage (by decide)

theorem OnStage.updPort (p : Nat) (f : PortSt → PortSt) (b : Block) : OnStage b (b.updPort p f) :=
  .of_besideStage (Block.updPort_besideStage p f b)

theorem OnStage.keeps (h : OnStage b c) : Keeps raiseParts b c := h.2.2.mono (by decide)

theorem OnStage.tb (h : OnStage b c) : c.tb = b.tb := h.2.2 .tb (by decide)

section
variable (h : OnStage b c) {o : Occ} (ho : o.source < 256) (hcell : o.source ≠ 101)
include h ho hcell

theorem OnStage.classOf : c.classOf o = b.classOf o := by
  have hs : c.rd (Reg.EVT_SRCk_CLASS o.source) = b.rd (Reg.EVT_SRCk_CLASS o.source) := h.1 _ (by
    simp only [Field.ofStage, Field.key, Reg.EVT_SRCk_CLASS]; omega)
  rw [Block.classOf, if_neg hcell, hs, Block.classOf, if_neg hcell]

theorem OnStage.loggable (hl : Loggable b o) : Loggable c o := by
  have hclass := h.classOf ho hcell
  obtain ⟨hr, ⟨-, hlogged⟩, hk⟩ := h
  have hboot : c.boot = b.boot := hk .boot (by decide)
  have htb : c.tb = b.tb := hk .tb (by decide)
  have hreleased : c.rd Reg.RST_STAGE_RELEASED = b.rd Reg.RST_STAGE_RELEASED := hr _ (by unfold Field.ofStage; decide)
  have hholdoff : c.rd Reg.EVT_GCFG_HOLDOFF_MS = b.rd Reg.EVT_GCFG_HOLDOFF_MS := hr _ (by unfold Field.ofStage; decide)
  have hd : c.detects o = b.detects o := by
    simp only [Block.detects, Block.cores, Block.released, Block.bit, hboot, hreleased]
  have hh : c.heldOff o (c.classOf o) = b.heldOff o (b.classOf o) := by
    rw [hclass]
    simp only [Block.heldOff, htb, hlogged, hholdoff]
  exact ⟨hd.trans hl.1, hh.trans hl.2⟩

theorem OnStage.logs {t : Block} (hl : Logs o c t) : Logs o b t := by
  obtain ⟨r, hheld, hsource, hcls, hrest⟩ := hl
  exact ⟨r, h.2.1.1 ▸ hheld, hsource, (h.classOf ho hcell) ▸ hcls, hrest⟩

/-- An occurrence after a change of the stage alone is logged as before it. -/
theorem OnStage.raiseOwn_logs (own : Option Nat) (hl : Loggable b o) : Logs o b (c.raiseOwn o own)
    ∧ Keeps raiseParts b (c.raiseOwn o own) :=
  ⟨h.logs ho hcell (Block.raiseOwn_logs o own c (h.loggable ho hcell hl)),
    h.keeps.trans (Block.keeps_of_still (Block.raiseOwn_still o own c))⟩

theorem OnStage.raise_logs (hl : Loggable b o) : Logs o b (c.raise o) ∧ Keeps raiseParts b (c.raise o) :=
  h.raiseOwn_logs ho hcell none hl

end

/-! ### The stage's operations -/

theorem Block.holdLeg_onStage {l : Nat} (hl : l < 24) (soft : Bool) (b : Block) : OnStage b (b.holdLeg l soft) :=
  .of_besideStage (Block.holdLeg_besideStage hl soft b)

theorem Block.openSwitch_onStage {p : Nat} (hp : p < 8) (soft : Bool) (b : Block) : OnStage b (b.openSwitch p soft) :=
  .of_besideStage (Block.openSwitch_besideStage hp soft b)

theorem Block.stopPort_onStage {p : Nat} (hp : p < 8) (soft : Bool) (b : Block) : OnStage b (b.stopPort p soft) :=
  .of_besideStage (Block.stopPort_besideStage hp soft b)

theorem Block.portState_onStage {p : Nat} (hp : p < 8) (st : Nat) (b : Block) : OnStage b (b.portState p st) := by
  obtain ⟨hstate, hretries, -⟩ : (Reg.PORT_STAT_STATE p).ofStage ∧ (Reg.PORT_STAT_RETRIES p).ofStage ∧ _ := by
    simpa [portFields] using portFields_ofStage hp
  have hentered (f : PortSt → PortSt) : OnStage b ((b.wr (Reg.PORT_STAT_STATE p) st).updPort p f) :=
    (OnStage.wr hstate st b).trans (OnStage.updPort p f _)
  exact OnStage.ite (fun _ => (hentered _).trans (OnStage.wr hretries _ _)) fun _ => hentered _

theorem Block.portToWait_onStage {p : Nat} (hp : p < 8) (soft : Bool) (b : Block) : OnStage b (b.portToWait p soft) := by
  have hcause : (Reg.PORT_STAT_CAUSE p).ofStage := portFields_ofStage hp _ (by simp [portFields])
  have hstop := b.stopPort_onStage hp soft
  refine OnStage.ite (fun _ => .refl b) fun _ => ?_
  have hfault : OnStage b (if b.rd (Reg.PORT_STAT_STATE p) = 7 then
      (((b.stopPort p soft).wr (Reg.PORT_STAT_CAUSE p) 0).updRecov (512 + p) fun r =>
        { r with fenced := false, manual := false, lockout := false, returning := false, auto := false })
      else b.stopPort p soft) :=
    OnStage.ite (fun _ => (hstop.trans (OnStage.wr hcause _ _)).trans (OnStage.updRecov _ _ _)) fun _ => hstop
  exact OnStage.ite (fun _ => hfault) fun _ => hfault.trans (Block.portState_onStage hp _ _)

theorem Block.latchPort_onStage {p : Nat} (hp : p < 8) (cause : Nat) (soft : Bool) (b : Block) :
    OnStage b (b.latchPort p cause soft) := by
  have hcause : (Reg.PORT_STAT_CAUSE p).ofStage := portFields_ofStage hp _ (by simp [portFields])
  have hstop := b.stopPort_onStage hp soft
  have hheld : OnStage b (if ((b.stopPort p soft).recov (512 + p)).fenced then (b.stopPort p soft).holdFenced (512 + p)
      else b.stopPort p soft) := OnStage.ite (fun _ => hstop.trans (OnStage.updRecov _ _ _)) fun _ => hstop
  exact (hheld.trans (Block.portState_onStage hp _ _)).trans (OnStage.wr hcause _ _)

theorem Block.latchLeg_onStage {l : Nat} (hl : l < 24) (b : Block) : OnStage b (b.latchLeg l) := by
  have hstage := stage_keys
  have hkeys := leg_keys l
  have hshort : Reg.GATE_SHORT_LEGS.ofStage := by
    unfold Field.ofStage
    omega
  have hlatched : (Reg.PWM_LEG_STAT_LATCHED l).ofStage := by
    unfold Field.ofStage
    omega
  have hport : OnStage b (if l < 16 then b.portToWait (l / 2) true else b) :=
    OnStage.ite (fun h => b.portToWait_onStage (by omega) true) fun _ => .refl b
  exact ((hport.trans (Block.holdLeg_onStage hl true _)).trans (OnStage.wr hshort _ _)).trans (OnStage.wr hlatched _ _)

end

end Sys2Proof.Machine
end

section
/-! PROOFS. What an occurrence leaves of the local stage (R257, R258, R341, R343): its block, the trips that have acted, the
    gates that are stuck, the last short, and the legs and static switches that are off. -/

namespace Sys2Proof.Machine

/-! ### The relation -/

/-- What stands of `b` in `c`: MULTI, the latched trips and the stuck gates are the same, and so is the last short; a leg keeps
    its state or is off; and a port with a stuck gate does not wait to open its static switch, if it did not before. -/
structure Stands (b c : Block) : Prop where
  kept : ∀ f ∈ [Reg.PWM_STAT_MULTI, Reg.PWM_TRIP_STAT_LATCH, Reg.GATE_STAT_STUCK], c.rd f = b.rd f
  short : c.lv.lastShort = b.lv.lastShort
  off : ∀ m < 24, c.rd (Reg.PWM_LEG_STAT_STATE m) = 0 ∨ c.rd (Reg.PWM_LEG_STAT_STATE m) = b.rd (Reg.PWM_LEG_STAT_STATE m)
  shut : ∀ p, b.bit Reg.GATE_STAT_STUCK p = true → (b.port p).opening = false → (c.port p).opening = false

/-- A field whose value does not matter to it. -/
def Field.loose (f : Field) : Prop :=
  (∀ g ∈ [Reg.PWM_STAT_MULTI, Reg.PWM_TRIP_STAT_LATCH, Reg.GATE_STAT_STUCK], g.key ≠ f.key)
    ∧ ∀ m < 24, (Reg.PWM_LEG_STAT_STATE m).key ≠ f.key

section
variable {a b c : Block} {f : Field}

theorem Field.loose_of_keys (h : ∀ m < 24, f.key ≠ 0x2004000 ∧ f.key ≠ 0x2004A10 ∧ f.key ≠ 0x2084804
    ∧ f.key ≠ 0x200 * m + 0x2000120) : f.loose := by
  obtain ⟨hmulti, -, hlatch, -, -, -, -, -, hstuck, -⟩ := stage_keys
  refine ⟨fun g hg => ?_, fun m hm => ?_⟩
  · have := h 0 (by decide)
    simp only [List.mem_cons, List.not_mem_nil, or_false] at hg
    obtain rfl | rfl | rfl := hg <;> omega
  · have := h m hm
    have := leg_keys m
    omega

/-- Fields outside the stage are such fields. -/
theorem Field.loose_of_not_ofStage (h : ¬ f.ofStage) : f.loose := by
  unfold Field.ofStage at h
  exact Field.loose_of_keys fun m hm => by omega

theorem Stands.refl (b : Block) : Stands b b := ⟨fun _ _ => rfl, rfl, fun _ _ => .inr rfl, fun _ _ h => h⟩

theorem Stands.trans (h : Stands a b) (h' : Stands b c) : Stands a c := by
  refine ⟨fun f hf => (h'.kept f hf).trans (h.kept f hf), h'.short.trans h.short, fun m hm => ?_, fun p hp ho => ?_⟩
  · rcases h'.off m hm with hz | hs
    · exact .inl hz
    · rw [hs]
      exact h.off m hm
  · have hstuck : b.rd Reg.GATE_STAT_STUCK = a.rd Reg.GATE_STAT_STUCK := h.kept _ (by simp)
    exact h'.shut p (by rwa [Block.bit, hstuck]) (h.shut p hp ho)

theorem Stands.ite {p : Prop} [Decidable p] {x y : Block} (hx : p → Stands b x) (hy : ¬ p → Stands b y) :
    Stands b (if p then x else y) := by
  split
  · exact hx ‹_›
  · exact hy ‹_›

theorem Stands.eachOf {α : Type} {xs : List α} {f : α → Block → Block} (h : ∀ x ∈ xs, ∀ b, Stands b (f x b))
    (b : Block) : Stands b (b.eachOf xs f) := by
  unfold Block.eachOf
  induction xs generalizing b with
  | nil => exact .refl b
  | cons x r ih => exact (h x List.mem_cons_self b).trans (ih (fun y hy => h y (List.mem_cons_of_mem _ hy)) _)

/-- Loose fields and other components. -/
theorem Stands.of_loose {fs : List Field} {l : List Part} (hr : RegsBut fs b c) (hk : Keeps l b c) (hf : ∀ f ∈ fs, f.loose)
    (hl : Part.lv ∉ l) : Stands b c := by
  have hlv : c.lv = b.lv := hk .lv hl
  have hnot {g : Field} (h : ∀ f ∈ fs, g.key ≠ f.key) : c.rd g = b.rd g := hr g fun hm => by
    obtain ⟨f, hfs, hfg⟩ := List.mem_map.mp hm
    exact h f hfs hfg.symm
  refine ⟨fun g hg => hnot fun f hfs => (hf f hfs).1 g hg, by rw [hlv], fun m hm => .inr (hnot fun f hfs => (hf f hfs).2 m hm),
    fun p _ ho => ?_⟩
  rwa [Block.port, hlv]

theorem Stands.of_keeps {l : List Part} (hk : Keeps l b c) (hregs : Part.regs ∉ l) (hlv : Part.lv ∉ l) : Stands b c :=
  .of_loose (fs := []) (fun _ _ => congrArg (Bank.fld · _) (hk .regs hregs)) hk nofun hlv

theorem Stands.wr (hf : f.loose) (v : Nat) (b : Block) : Stands b (b.wr f v) :=
  .of_loose (b.wr_regsBut f v) (b.wr_keeps f v) (List.forall_mem_singleton.mpr hf) (by decide)

/-- A leg that goes off. -/
theorem Stands.legOff (l : Nat) (b : Block) : Stands b (b.wr (Reg.PWM_LEG_STAT_STATE l) 0) := by
  have hstage := stage_keys
  have hkey := leg_keys l
  have hlv : (b.wr (Reg.PWM_LEG_STAT_STATE l) 0).lv = b.lv := b.wr_keeps _ _ .lv (by decide)
  refine ⟨fun g hg => Block.rd_wr_ne _ _ _ _ ?_, by rw [hlv], fun m _ => ?_, fun p _ ho => by rwa [Block.port, hlv]⟩
  · simp only [List.mem_cons, List.not_mem_nil, or_false] at hg
    obtain rfl | rfl | rfl := hg <;> omega
  · by_cases hm : m = l
    · rw [hm, Block.rd_wr_same, Nat.zero_mod]
      exact .inl rfl
    · have hkey' := leg_keys m
      exact .inr (Block.rd_wr_ne _ _ _ _ (by omega))

/-- A change of the stage's record that leaves the last short and the ports alone. -/
theorem Stands.updLv {g : LvSt → LvSt} (hs : (g b.lv).lastShort = b.lv.lastShort) (hp : (g b.lv).ports = b.lv.ports) :
    Stands b (b.updLv g) :=
  ⟨fun _ _ => rfl, hs, fun _ _ => .inr rfl, fun p _ ho => (congrArg (fun m => (SMap.look default m p).opening) hp).trans ho⟩

theorem Stands.updLeg (l : Nat) (g : Leg → Leg) (b : Block) : Stands b (b.updLeg l g) :=
  Stands.updLv (g := fun v => { v with legs := SMap.store default l (g (b.leg l)) v.legs }) rfl rfl

theorem Stands.updDiag (d : Nat) (g : DiagSt → DiagSt) (b : Block) : Stands b (b.updDiag d g) :=
  Stands.updLv (g := fun v => { v with diags := SMap.store default d (g (b.diag d)) v.diags }) rfl rfl

theorem Stands.updPort {p : Nat} {g : PortSt → PortSt}
    (h : b.bit Reg.GATE_STAT_STUCK p = true → (b.port p).opening = false → (g (b.port p)).opening = false) :
    Stands b (b.updPort p g) := by
  refine ⟨fun _ _ => rfl, rfl, fun _ _ => .inr rfl, fun q hq ho => ?_⟩
  by_cases hqp : q = p
  · subst hqp
    rw [Block.port_updPort_same]
    exact h hq ho
  · exact (congrArg PortSt.opening (SMap.look_store_ne _ _ _ _ _ hqp)).trans ho

theorem Stands.emit (o : Output) (b : Block) : Stands b (b.emit o) := .of_keeps (b.emit_keeps o) (by decide) (by decide)

theorem Stands.updRecov (k : Nat) (g : Recov → Recov) (b : Block) : Stands b (b.updRecov k g) :=
  .of_keeps (b.updRecov_keeps k g) (by decide) (by decide)

theorem Stands.updEvt (g : EvtSt → EvtSt) (b : Block) : Stands b (b.updEvt g) :=
  .of_keeps (b.updEvt_keeps g) (by decide) (by decide)

end

/-! ### The stage's own operations -/

section
variable {l p : Nat}

theorem gateOff_loose (ch : Nat) : (Reg.GATE_CH_STAT_GATE_OFF ch).loose := by
  have := gate_keys ch
  exact Field.loose_of_keys fun m hm => by omega

theorem brakeOn_loose : Reg.PWM_BRK_STAT_ON.loose := by
  have := stage_keys
  exact Field.loose_of_keys fun m hm => by omega

theorem closed_loose : Reg.GATE_SS_STAT_CLOSED.loose := by
  have := stage_keys
  exact Field.loose_of_keys fun m hm => by omega

theorem legFence_loose (l : Nat) : (Reg.PWM_LEG_STAT_FENCED l).loose ∧ (Reg.PWM_LEG_STAT_CAUSE l).loose := by
  have := leg_keys l
  exact ⟨Field.loose_of_keys fun m hm => by omega,
    Field.loose_of_keys fun m hm => by omega⟩

theorem port_loose (p : Nat) :
    (Reg.PORT_STAT_STATE p).loose ∧ (Reg.PORT_STAT_RETRIES p).loose ∧ (Reg.PORT_STAT_CAUSE p).loose := by
  have := port_keys p
  exact ⟨Field.loose_of_keys fun m hm => by omega,
    Field.loose_of_keys fun m hm => by omega,
    Field.loose_of_keys fun m hm => by omega⟩

theorem Block.settleLeg_stands (l : Nat) (b : Block) : Stands b (b.settleLeg l) := by
  classical
  have hdead : Stands b (b.deadOver l) := by
    rcases b.deadOver_cases l with h | ⟨up, h⟩ <;> rw [h]
    · exact .refl b
    · exact (Stands.wr (gateOff_loose _) _ b).trans (Stands.updLeg _ _ _)
  rw [Block.settleLeg_eq]
  exact Stands.ite (fun _ => hdead.trans ((((Stands.legOff l _).trans (Stands.wr (gateOff_loose _) _ _)).trans
    (Stands.updLeg _ _ _)).trans (Stands.emit _ _))) fun _ => hdead

theorem Block.brakeStop_stands (o : Output) (b : Block) : Stands b (b.brakeStop o) :=
  Stands.ite (fun _ => ((((Stands.wr brakeOn_loose _ b).trans (Stands.legOff 20 _)).trans
    (Stands.wr (gateOff_loose _) _ _)).trans (Stands.updLv rfl rfl)).trans (Stands.emit _ _)) fun _ => .refl b

/-- The record of a leg that is held (R259). -/
def Leg.held (x : Leg) : Leg :=
  { x with switching := false, formed := none, edges := [], last := none, gen := none, lockSince := none, dead := none
           refreshEnd := none, restAt := none }

/-- A leg is held, before its switches turn off. -/
def Block.dropLeg (l : Nat) (b : Block) : Block := ((b.settleLeg l).updLeg l Leg.held).wr (Reg.PWM_LEG_STAT_STATE l) 0

theorem Block.holdLeg_eq (l : Nat) (soft : Bool) (b : Block) : b.holdLeg l soft =
    let st := (b.settleLeg l).rd (Reg.PWM_LEG_STAT_STATE l)
    let c := (b.dropLeg l).emit (.legOff l soft)
    if l == 20 && (b.settleLeg l).on Reg.PWM_BRK_STAT_ON then (b.dropLeg l).brakeStop (.legOff 20 soft)
    else if st = 0 ∨ st = 3 then b.dropLeg l
    else if l < 16 then c
    else (c.flag (Reg.GATE_CH_STAT_GATE_OFF (2 * l)) (c.on (Reg.GATE_CH_STAT_POWERED (2 * l)))).flag
      (Reg.GATE_CH_STAT_GATE_OFF (2 * l + 1)) (c.on (Reg.GATE_CH_STAT_POWERED (2 * l + 1))) := rfl

/-- As its switches turn off, the leg stays held. -/
theorem Block.dropLeg_stands (l : Nat) (soft : Bool) (b : Block) : Stands (b.dropLeg l) (b.holdLeg l soft) := by
  rw [Block.holdLeg_eq]
  extract_lets st c
  have hc : Stands (b.dropLeg l) c := Stands.emit _ _
  exact Stands.ite (fun _ => Block.brakeStop_stands _ _) fun _ => Stands.ite (fun _ => .refl _) fun _ =>
    Stands.ite (fun _ => hc) fun _ => (hc.trans (Stands.wr (gateOff_loose _) _ _)).trans (Stands.wr (gateOff_loose _) _ _)

theorem Block.holdLeg_stands (l : Nat) (soft : Bool) (b : Block) : Stands b (b.holdLeg l soft) :=
  (((b.settleLeg_stands l).trans (Stands.updLeg _ _ _)).trans (Stands.legOff l _)).trans (b.dropLeg_stands l soft)

theorem Stands.stays_off {m : Nat} {b c : Block} (h : Stands b c) (hm : m < 24) (hz : b.rd (Reg.PWM_LEG_STAT_STATE m) = 0) :
    c.rd (Reg.PWM_LEG_STAT_STATE m) = 0 := by
  rcases h.off m hm with hc | hc
  · exact hc
  · exact hc.trans hz

/-- A leg that is held is off. -/
theorem Block.holdLeg_off (hl : l < 24) (soft : Bool) (b : Block) : (b.holdLeg l soft).rd (Reg.PWM_LEG_STAT_STATE l) = 0 := by
  refine (b.dropLeg_stands l soft).stays_off hl ?_
  rw [Block.dropLeg, Block.rd_wr_same, Nat.zero_mod]

theorem Block.openSwitch_stands (p : Nat) (soft : Bool) (b : Block) : Stands b (b.openSwitch p soft) := by
  unfold Block.openSwitch
  extract_lets was c d
  have hc : Stands b c := (Stands.wr closed_loose _ b).trans (Stands.updPort fun _ _ => rfl)
  have hd : Stands b d := hc.trans (Stands.wr (gateOff_loose (48 + p)) _ c)
  exact Stands.ite (fun _ => hd.trans (Stands.emit _ _)) fun _ => hd

theorem Block.stopPort_stands (p : Nat) (soft : Bool) (b : Block) : Stands b (b.stopPort p soft) := by
  unfold Block.stopPort
  extract_lets c closed d
  have hc : Stands b c := Stands.eachOf (fun l _ x => x.holdLeg_stands l soft) b
  have hd : Stands c d := Stands.updPort fun hstuck _ => by simp [hstuck]
  exact (hc.trans hd).trans (Stands.ite (fun _ => d.openSwitch_stands p true) fun _ => .refl d)

theorem Block.portState_stands (p st : Nat) (b : Block) : Stands b (b.portState p st) := by
  obtain ⟨hstate, hretries, -⟩ := port_loose p
  unfold Block.portState
  extract_lets c
  have hc : Stands b c := (Stands.wr hstate st b).trans (Stands.updPort fun _ ho => ho)
  exact Stands.ite (fun _ => hc.trans (Stands.wr hretries _ _)) fun _ => hc

theorem Block.portToWait_stands (p : Nat) (soft : Bool) (b : Block) : Stands b (b.portToWait p soft) := by
  obtain ⟨-, -, hcause⟩ := port_loose p
  unfold Block.portToWait
  extract_lets st c d
  have hc : Stands b c := b.stopPort_stands p soft
  have hd : Stands b d :=
    Stands.ite (fun _ => (hc.trans (Stands.wr hcause _ c)).trans (Stands.updRecov _ _ _)) fun _ => hc
  exact Stands.ite (fun _ => .refl b) fun _ => Stands.ite (fun _ => hd) fun _ => hd.trans (d.portState_stands p 1)

theorem Block.fencePort_stands (p cause : Nat) (b : Block) : Stands b (b.fencePort p cause) := by
  obtain ⟨-, -, hcause⟩ := port_loose p
  exact Stands.ite (fun _ => .refl b) fun _ => (((Stands.updDiag p _ b).trans (Block.stopPort_stands p false _)).trans
    (Block.portState_stands p 7 _)).trans (Stands.wr hcause _ _)

/-- A leg that is held is marked as fenced where it was not. -/
theorem Block.legFenced_stands (l cause : Nat) (soft : Bool) (b : Block) :
    Stands b (if (b.holdLeg l soft).on (Reg.PWM_LEG_STAT_FENCED l) then b.holdLeg l soft
      else ((b.holdLeg l soft).flag (Reg.PWM_LEG_STAT_FENCED l) true).wr (Reg.PWM_LEG_STAT_CAUSE l) cause) := by
  obtain ⟨hfenced, hcause⟩ := legFence_loose l
  have hheld := b.holdLeg_stands l soft
  exact Stands.ite (fun _ => hheld) fun _ => (hheld.trans (Stands.wr hfenced _ _)).trans (Stands.wr hcause _ _)

theorem Block.fenceLeg_stands (l cause : Nat) (soft : Bool) (b : Block) : Stands b (b.fenceLeg l cause soft) := by
  unfold Block.fenceLeg
  extract_lets c d e
  have hd : Stands b d := b.legFenced_stands l cause soft
  have he : Stands b e := by
    refine hd.trans ?_
    unfold e
    split
    · exact Stands.updDiag _ _ d
    · exact .refl d
  exact Stands.ite (fun _ => he.trans (e.portToWait_stands _ soft)) fun _ => Stands.ite
    (fun _ => he.trans (Stands.eachOf (fun m _ x => x.legFenced_stands m 7 soft) e)) fun _ => he

theorem Block.blockStage_stands (soft : Bool) (b : Block) : Stands b (b.blockStage soft) :=
  (Stands.eachOf (fun l _ x => x.holdLeg_stands l soft) b).trans
    (Stands.eachOf (xs := List.range 8) (fun p _ x => x.stopPort_stands p soft) _)

/-! ### The occurrence (R341 to R346) -/

theorem Field.loose_of_late {f : Field} (h : 0x430000 * 8 ≤ f.key) : f.loose :=
  Field.loose_of_not_ofStage fun hf => absurd hf.2 (by omega)

theorem lockout_loose {k : Nat} (hk : k < 256) : (Reg.CELL_SLOT_STAT_LOCKOUT k).loose :=
  Field.loose_of_not_ofStage fun hf => by
    simp only [Field.ofStage, Field.key, Reg.CELL_SLOT_STAT_LOCKOUT] at hf
    omega

theorem source_loose (k : Nat) : (Reg.EVT_SRCk_COUNT k).loose ∧ (Reg.EVT_SRCk_LATCHED k).loose := by
  refine ⟨Field.loose_of_late ?_, Field.loose_of_late ?_⟩ <;>
    simp only [Field.key, Reg.EVT_SRCk_COUNT, Reg.EVT_SRCk_LATCHED] <;> omega

/-- The fields of the event log and of the safety monitor that an action writes. -/
theorem action_loose : ∀ f ∈ [Reg.EVT_SUPP_CNT_COUNT, Reg.EVT_HALT_HALTED, Reg.EVT_HALT_SOURCE, Reg.SAFE_STAT_STATE,
    Reg.SAFE_STAT_CAUSE, Reg.SAFE_DEMAND_CNT_COUNT], f.loose := by
  have hlate : ∀ f ∈ [Reg.EVT_SUPP_CNT_COUNT, Reg.EVT_HALT_HALTED, Reg.EVT_HALT_SOURCE, Reg.SAFE_STAT_STATE,
    Reg.SAFE_STAT_CAUSE, Reg.SAFE_DEMAND_CNT_COUNT], 0x430000 * 8 ≤ f.key := by decide
  exact fun f hf => Field.loose_of_late (hlate f hf)

theorem Block.record_stands (o : Occ) (cls : Nat) (recurs lockout : Bool) (b : Block) :
    Stands b (b.record o cls recurs lockout) :=
  .of_loose (b.record_regsBut o cls recurs lockout) (b.record_keeps o cls recurs lockout)
    (List.forall_mem_cons.mpr ⟨(source_loose _).1, List.forall_mem_singleton.mpr (action_loose _ (by simp))⟩) (by decide)

theorem Block.onFence_stands (k : Nat) (allows : Bool) (b : Block) : Stands b (b.onFence k allows) := by
  unfold Block.onFence
  extract_lets lock manual q c
  have hc : Stands b c := Stands.updRecov _ _ b
  split
  · next hk => exact hc.trans (Stands.wr (lockout_loose hk) _ c)
  · exact hc

theorem Block.onRecurrence_stands (k : Nat) (b : Block) : Stands b (b.onRecurrence k) := by
  unfold Block.onRecurrence
  extract_lets q c
  have hc : Stands b c := Stands.ite (fun _ => .of_keeps (b.updCell_keeps _ _) (by decide) (by decide)) fun _ => .refl b
  exact hc.trans (Stands.updRecov _ _ c)

theorem Block.recurs_stands (o : Occ) (k cls : Nat) (own : Option Nat) (b : Block) : Stands b (b.recurs o k cls own) := by
  unfold Block.recurs
  extract_lets back hold c d
  have hc : Stands b c := (b.record_stands o cls true false).trans (Block.onRecurrence_stands k _)
  have hd : Stands b d := Stands.ite (fun _ => hc.trans (Stands.updRecov _ _ c)) fun _ => hc
  exact Stands.ite (fun _ => hd.trans (.of_keeps (d.decideFence_keeps _ _) (by decide) (by decide))) fun _ => hd

theorem Block.fenceUnit_stands (ut i cause : Nat) (b : Block) : Stands b (b.fenceUnit ut i cause) := by
  have hcell : Stands b (b.decideFence i cause) := .of_keeps (b.decideFence_keeps _ _) (by decide) (by decide)
  unfold Block.fenceUnit
  split
  · exact hcell
  · exact hcell
  · exact b.fenceLeg_stands i cause false
  · exact b.fencePort_stands i cause
  · exact .of_keeps (b.updCtx_keeps _ _) (by decide) (by decide)
  · exact .refl b

theorem Block.raiseUnit_stands (o : Occ) (cls : Nat) (own : Option Nat) (b : Block) : Stands b (b.raiseUnit o cls own) := by
  unfold Block.raiseUnit
  split
  · exact b.record_stands _ _ _ _
  · next k _ =>
    extract_lets c
    have hc : Stands b c := Stands.ite (fun _ => Stands.updRecov _ _ b) fun _ => .refl b
    exact Stands.ite (fun _ => hc.trans (c.record_stands _ _ _ _)) fun _ =>
      Stands.ite (fun _ => hc.trans (c.recurs_stands _ _ _ _)) fun _ =>
      Stands.ite (fun _ => ((hc.trans (c.onFence_stands _ _)).trans (Block.record_stands _ _ _ _ _)).trans
        (Block.fenceUnit_stands _ _ _ _)) fun _ => hc.trans (c.record_stands _ _ _ _)

theorem Block.latch_stands (k cls : Nat) (b : Block) : Stands b (b.latch k cls) :=
  (Stands.wr (source_loose k).2 _ b).trans (Stands.updEvt _ _)

theorem Block.blockAct_stands (source : Nat) (b : Block) : Stands b (b.blockAct source) := by
  have hstage := b.blockStage_stands false
  unfold Block.blockAct
  dsimp only
  split
  · exact hstage.trans (.of_keeps (Block.updPair_keeps _ _) (by decide) (by decide))
  split
  · exact hstage.trans (Stands.updEvt _ _)
  · exact hstage

theorem Block.keepHalt_stands (source : Nat) (b : Block) : Stands b (b.keepHalt source) := by
  have hsource : Reg.EVT_HALT_SOURCE.loose := action_loose _ (by simp)
  have hhalted : Reg.EVT_HALT_HALTED.loose := action_loose _ (by simp)
  exact Stands.ite (fun _ => .refl b) fun _ => (Stands.wr hsource source b).trans (Stands.wr hhalted _ _)

theorem Block.remove_stands (partly : Bool) (b : Block) : Stands b (b.remove partly) := by
  unfold Block.remove
  extract_lets st c
  have hc : Stands b c := .of_keeps (b.updSafe_keeps _) (by decide) (by decide)
  exact Stands.ite (fun _ => hc) fun _ => (hc.trans (Stands.wr (f := Reg.SAFE_STAT_STATE) (action_loose _ (by simp)) _ c)).trans
    (.of_keeps (Block.updSafe_keeps _ _) (by decide) (by decide))

theorem Block.demandHalt_stands (partly : Bool) (b : Block) : Stands b (b.demandHalt partly) := by
  have hcause (c : Block) : Stands c (c.demandCause 7) :=
    Stands.ite (fun _ => Stands.wr (action_loose _ (by simp)) 7 c) fun _ => .refl c
  exact (((Stands.wr (f := Reg.SAFE_DEMAND_CNT_COUNT) (action_loose _ (by simp)) _ b).trans (hcause _)).trans
    (Block.remove_stands partly _)).trans (Stands.wr (f := Reg.SAFE_STAT_STATE) (action_loose _ (by simp)) 3 _)

theorem Block.classAct_stands (source cls : Nat) (b : Block) : Stands b (b.classAct source cls) := by
  have hasks {p : Prop} [Decidable p] {c : Block} (f : ConvSt → ConvSt) (h : Stands b c) :
      Stands b (if p then c.updConv f else c) :=
    Stands.ite (fun _ => h.trans (.of_keeps (c.updConv_keeps f) (by decide) (by decide))) fun _ => h
  have hblock (k : Nat) := (b.latch_stands source k).trans (Block.blockAct_stands source _)
  unfold Block.classAct
  dsimp only
  split
  · exact hasks _ (b.latch_stands source 2)
  · exact hasks _ (hblock 3)
  · exact hasks _ (((hblock 4).trans (Block.keepHalt_stands _ _)).trans (Block.demandHalt_stands _ _))
  · exact .refl b

theorem Block.raiseOwn_stands (o : Occ) (own : Option Nat) (b : Block) : Stands b (b.raiseOwn o own) :=
  Stands.ite (fun _ => (b.raiseUnit_stands o _ own).trans (Block.classAct_stands _ _ _)) fun _ => .refl b

end

end Sys2Proof.Machine
end

section
/-! PROOFS. What fences a leg by its own rule: shorts, trips and undervoltage (R253 to R258, R267). -/

namespace Sys2Proof.Machine

/-! ### The fence of a leg by its own rule (R341, R343) -/

section
variable {b : Block} {l : Nat}

theorem Block.recov_of_cellView {x : Block} (h : x.cellView = b.cellView) (k : Nat) : x.recov k = b.recov k :=
  congrArg (fun v : CellsSt × SMap Recov × (Field → Nat) => SMap.look default v.2.1 k) h

theorem Block.portToWait_recov {k p : Nat} (h : k ≠ 512 + p) (soft : Bool) (b : Block) :
    (b.portToWait p soft).recov k = b.recov k := by
  have hstop : (b.stopPort p soft).recov k = b.recov k := Block.recov_of_cellView (b.stopPort_cellView p soft) k
  have hwr (f : Field) (v : Nat) (c : Block) : (c.wr f v).recov k = c.recov k := rfl
  have hport (c : Block) : (c.portState p 1).recov k = c.recov k := rfl
  unfold Block.portToWait
  dsimp only
  split
  · rfl
  split <;> split <;> simp only [hport, Block.recov_updRecov_ne _ _ _ _ h, hwr, hstop]

/-- The fence of a leg leaves the recovery records of all units but its port. -/
theorem Block.fenceLeg_recov {k : Nat} (h : k < 512) (cause : Nat) (soft : Bool) (b : Block) :
    (b.fenceLeg l cause soft).recov k = b.recov k := by
  have hheld (m c : Nat) (x : Block) : (if (x.holdLeg m soft).on (Reg.PWM_LEG_STAT_FENCED m) then x.holdLeg m soft
      else ((x.holdLeg m soft).flag (Reg.PWM_LEG_STAT_FENCED m) true).wr (Reg.PWM_LEG_STAT_CAUSE m) c).recov k = x.recov k := by
    have hhold : (x.holdLeg m soft).recov k = x.recov k := Block.recov_of_cellView (x.holdLeg_cellView m soft) k
    split <;> exact hhold
  have hothers (xs : List Nat) (x : Block) : (x.eachOf xs fun m y =>
      if (y.holdLeg m soft).on (Reg.PWM_LEG_STAT_FENCED m) then y.holdLeg m soft
      else ((y.holdLeg m soft).flag (Reg.PWM_LEG_STAT_FENCED m) true).wr (Reg.PWM_LEG_STAT_CAUSE m) 7).recov k = x.recov k := by
    unfold Block.eachOf
    induction xs generalizing x with
    | nil => rfl
    | cons m r ih => exact (ih _).trans (hheld m 7 x)
  unfold Block.fenceLeg
  extract_lets c d e
  have hd : d.recov k = b.recov k := hheld l cause b
  have he : e.recov k = b.recov k := by
    unfold e
    split <;> exact hd
  split
  · exact (Block.portToWait_recov (by omega) soft e).trans he
  split
  · exact (hothers _ e).trans he
  · exact he

theorem Block.recurs_leg_fenced (o : Occ) (cls : Nat) (own : Option Nat) (h : (b.recov (256 + l)).fenced = true) :
    ((b.recurs o (256 + l) cls own).recov (256 + l)).fenced = true := by
  rw [Block.recurs_late (by omega), Block.onRecurrence]
  have hlt : ¬ 256 + l < 256 := by omega
  simp only [hlt, decide_false, Bool.false_and, Bool.false_eq_true, if_false, Block.recov_updRecov_same, Block.record_recov]
  exact h

/-- A leg's own rule fences it, whatever the class of the event (R343). -/
theorem Block.raiseOwn_fencesLeg {o : Occ} (hd : b.detects o = true) (ht : o.unitType = 3) (hi : o.idx = l) (hl : l < 256)
    (cause : Nat) : ((b.raiseOwn o (some cause)).recov (256 + l)).fenced = true := by
  have hunit (cls : Nat) : ((b.raiseUnit o cls (some cause)).recov (256 + l)).fenced = true := by
    unfold Block.raiseUnit
    simp only [ht, hi, unitKey]
    generalize b.markHalt (256 + l) cls = c
    split
    · next h => exact absurd h (by simp)
    split
    · next h => exact Block.recurs_leg_fenced o cls _ h
    · rw [if_pos (by simp [Block.fenceable])]
      show ((Block.fenceLeg l _ false _).recov (256 + l)).fenced = true
      rw [Block.fenceLeg_recov (by omega), Block.record_recov, Block.onFence, if_neg (by omega), Block.recov_updRecov_same]
  unfold Block.raiseOwn
  rw [if_pos hd]
  dsimp only
  rw [Block.recov_of_cellView (Block.classAct_cellView _ _ _)]
  exact hunit _

/-! ### Shorts (R253 to R257) -/

theorem Block.latchLeg_stands (l : Nat) (b : Block) : Stands b (b.latchLeg l) := by
  have hstage := stage_keys
  have hkeys := leg_keys l
  have hshort : Reg.GATE_SHORT_LEGS.loose := Field.loose_of_keys fun m hm => by omega
  have hlatched : (Reg.PWM_LEG_STAT_LATCHED l).loose := Field.loose_of_keys fun m hm => by omega
  exact (((Stands.ite (fun _ => b.portToWait_stands _ true) fun _ => .refl b).trans (Block.holdLeg_stands l true _)).trans
    (Stands.wr hshort _ _)).trans (Stands.wr hlatched _ _)

/-- The first short of a leg: it is latched, logged and fenced, and the short counts (R255, R257). -/
theorem Block.legShort_first {c : Block} (hl : l < 24) (hc : OnStage b c) (hs : c.lv.lastShort = none) (cause code : Nat)
    (hlog : Loggable b { source := 160, unitType := 3, idx := l, code := code }) :
    ((c.legShort l cause code).recov (256 + l)).fenced = true
      ∧ Logs { source := 160, unitType := 3, idx := l, code := code } b (c.legShort l cause code)
      ∧ (c.legShort l cause code).lv.lastShort = some (l, b.tb.up) ∧ Keeps raiseParts b (c.legShort l cause code) := by
  unfold Block.legShort
  extract_lets d
  have hd : OnStage b d := (hc.trans (c.latchLeg_onStage hl)).trans (OnStage.updLv _ _)
  have hds : d.lv.lastShort = none := (c.latchLeg_stands l).short.trans hs
  have hsource : 160 < 256 ∧ 160 ≠ 101 := by decide
  obtain ⟨hlogs, hkeeps⟩ := hd.raiseOwn_logs hsource.1 hsource.2 (some cause) hlog
  have hl256 : l < 256 := by omega
  have hfenced := Block.raiseOwn_fencesLeg (hd.loggable hsource.1 hsource.2 hlog).1 rfl rfl hl256 cause
  have hnone := (d.raiseOwn_stands { source := 160, unitType := 3, idx := l, code := code } (some cause)).short.trans hds
  generalize d.raiseOwn { source := 160, unitType := 3, idx := l, code := code } (some cause) = e at *
  have htb : e.tb = b.tb := hkeeps .tb (by decide)
  have hcount : e.countShort l = e.updLv fun v => { v with lastShort := some (l, e.tb.up) } := by
    simp only [Block.countShort, hnone, Bool.false_and, Bool.false_eq_true, if_false]
  rw [hcount]
  exact ⟨hfenced, hlogs, by rw [← htb]; rfl, hkeeps.andThen (Block.updLv_keeps _ _) (by decide)⟩

/-! ### Trip inputs (R258) -/

section
variable {k : Nat} {level : Bool}

/-- The fields of a trip input (R272). -/
def tripFields (k : Nat) : List Field := [Reg.PWM_TRIPk_LEG k, Reg.PWM_TRIPk_ACTION k, Reg.PWM_TRIPk_POL k, Reg.PWM_TRIPk_BLANK k]

theorem tripFields_keys {k : Nat} (hk : k < 16) : ∀ f ∈ tripFields k,
    f.key ∉ [Reg.PWM_TRIP_STAT_LEVEL, Reg.PWM_TRIP_STAT_LATCH].map Field.key := by
  obtain ⟨-, hlevel, hlatch, -⟩ := stage_keys
  intro f hf
  simp only [tripFields, List.map_cons, List.map_nil, List.mem_cons, List.not_mem_nil, or_false, hlevel, hlatch] at hf ⊢
  obtain rfl | rfl | rfl | rfl := hf <;>
    simp only [Field.key, Reg.PWM_TRIPk_LEG, Reg.PWM_TRIPk_ACTION, Reg.PWM_TRIPk_POL, Reg.PWM_TRIPk_BLANK] <;> omega

/-- A change of what the trip inputs show, and of which have acted, is no change of their fields. -/
theorem Block.tripOf_congr {c : Block} (hk : k < 16) (hregs : RegsBut [Reg.PWM_TRIP_STAT_LEVEL, Reg.PWM_TRIP_STAT_LATCH] b c)
    (htb : c.tb = b.tb) (hcst : c.cst = b.cst) (hlegs : c.lv.legs = b.lv.legs) (hformer : c.lv.former = b.lv.former) :
    c.tripOf k = b.tripOf k := by
  have hrd {j : Nat} (hj : j < 16) (f : Field) (hf : f ∈ tripFields j) : c.rd f = b.rd f := hregs f (tripFields_keys hj f hf)
  have hcfg (j : Nat) (hj : j < 16) : c.tripCfg j = b.tripCfg j := by
    simp only [Block.tripCfg, Block.on, hrd hj (Reg.PWM_TRIPk_LEG j) (by simp [tripFields]),
      hrd hj (Reg.PWM_TRIPk_ACTION j) (by simp [tripFields]), hrd hj (Reg.PWM_TRIPk_POL j) (by simp [tripFields]),
      hrd hj (Reg.PWM_TRIPk_BLANK j) (by simp [tripFields])]
  have htrips (l : Nat) : (c.legCfg l).trips = (b.legCfg l).trips :=
    List.map_congr_left fun j hj => hcfg j (List.mem_range.mp hj)
  have hat (l : Nat) (t : Int) : (c.cfgAt l t).trips = (b.cfgAt l t).trips := by
    simp only [Block.cfgAt, hcst, hformer, List.getD_eq_getElem?_getD]
    split
    · cases b.lv.former[l]? with
      | none => exact htrips l
      | some x => rfl
    · exact htrips l
  have hforce (l : Nat) : (c.legInForce l).trips = (b.legInForce l).trips := by
    have hleg : c.leg l = b.leg l := congrArg (SMap.look default · l) hlegs
    rw [Block.legInForce, Block.legInForce, hleg, Block.tickIn_of_tb htb]
    by_cases h : (b.leg l).switching = true
    · rw [if_pos h, if_pos h]
    · rw [if_neg h, if_neg h]
      exact hat l _
  rw [Block.tripOf, hrd hk (Reg.PWM_TRIPk_LEG k) (by simp [tripFields]), hforce, hcfg k hk]
  rfl

/-- The level at a trip pin is known. -/
def Block.pinned (k : Nat) (level : Bool) (b : Block) : Block :=
  b.updLv fun v => { v with tripPins := (k, level) :: v.tripPins.filter (·.1 ≠ k) }

/-- The level of a trip pin is shown. -/
def Block.tripShown (k : Nat) (level on : Bool) (b : Block) : Block := (b.pinned k level).setBit Reg.PWM_TRIP_STAT_LEVEL k on

/-- Is the trip input blanked, after an edge of its leg (R258)? -/
def Block.tripBlanked (b : Block) (c : TripCfg) : Bool :=
  match (b.leg c.leg).lastEdge with
  | some t => decide (b.tickIn 0 - t < (c.blank * 25 * 64 : Nat))
  | none => false

theorem Block.tripBlanked_eq_false {c : TripCfg}
    (h : ∀ e, (b.leg c.leg).lastEdge = some e → (c.blank * 25 * 64 : Nat) ≤ b.tickIn 0 - e) : b.tripBlanked c = false := by
  unfold Block.tripBlanked
  split
  · next t ht => exact decide_eq_false (not_lt.mpr (h t ht))
  · rfl

theorem Block.tripBlanked_eq_true {c : TripCfg}
    (h : ¬ ∀ e, (b.leg c.leg).lastEdge = some e → (c.blank * 25 * 64 : Nat) ≤ b.tickIn 0 - e) : b.tripBlanked c = true := by
  simp only [not_forall, not_le] at h
  obtain ⟨e, he, hlt⟩ := h
  rw [Block.tripBlanked, he]
  exact decide_eq_true hlt

theorem Block.tripInput_eq (k : Nat) (level : Bool) (b : Block) : b.tripInput k level =
    let c := b.tripOf k
    let x := b.tripShown k level (level == c.pol)
    if !(level == c.pol) then x.updLv fun v => { v with tripDone := v.tripDone.filter (· ≠ k) }
    else if (c.action = 1 ∨ c.action = 2) ∧ !b.tripBlanked c ∧ !b.lv.tripDone.contains k then x.tripAct k else x := by
  have hlook : (b.pinned k level).lv.tripPins.lookup k = some level := List.lookup_cons_self
  show (b.pinned k level).tripJudge k = _
  rw [Block.tripJudge, hlook]
  rfl

/-- A level that is not active is shown, and the input may act again. -/
theorem Block.tripInput_inactive (h : level ≠ (b.tripOf k).pol) : b.tripInput k level
    = (b.tripShown k level false).updLv fun v => { v with tripDone := v.tripDone.filter (· ≠ k) } := by
  have hne : (level == (b.tripOf k).pol) = false := beq_eq_false_iff_ne.mpr h
  simp only [Block.tripInput_eq, hne, Bool.not_false, if_true]

/-- A level that is blanked is shown. -/
theorem Block.tripInput_blanked (h : level = (b.tripOf k).pol) (hblank : b.tripBlanked (b.tripOf k) = true) :
    b.tripInput k level = b.tripShown k level true := by
  have he : (level == (b.tripOf k).pol) = true := beq_iff_eq.mpr h
  simp [Block.tripInput_eq, he, hblank]

/-- A level that is active, not blanked and has not acted yet, acts. -/
theorem Block.tripInput_acts (h : level = (b.tripOf k).pol) (hblank : b.tripBlanked (b.tripOf k) = false)
    (hact : (b.tripOf k).action = 1 ∨ (b.tripOf k).action = 2) (hdone : k ∉ b.lv.tripDone) :
    b.tripInput k level = (b.tripShown k level true).tripAct k := by
  have he : (level == (b.tripOf k).pol) = true := beq_iff_eq.mpr h
  simp [Block.tripInput_eq, he, hblank, hact, hdone]

/-- The level of a trip input as it is shown (R258). -/
theorem Block.tripShown_frame (hk : k < 16) (level on : Bool) (b : Block) :
    let x := b.tripShown k level on
    x.bit Reg.PWM_TRIP_STAT_LEVEL k = on ∧ x.lv.tripPins.lookup k = some level ∧ RegsBut [Reg.PWM_TRIP_STAT_LEVEL] b x
      ∧ Keeps [.regs, .lv] b x ∧ OnStage b x ∧ x.tripOf k = b.tripOf k := by
  intro x
  have hregs : RegsBut [Reg.PWM_TRIP_STAT_LEVEL] b x := (b.pinned k level).wr_regsBut _ _
  have hkeeps : Keeps [.regs, .lv] b x :=
    ((b.updLv_keeps _).mono (by decide)).andThen (Block.wr_keeps _ _ _) (by decide)
  have hlevel : Reg.PWM_TRIP_STAT_LEVEL.ofStage := by
    have := stage_keys
    unfold Field.ofStage
    omega
  refine ⟨Block.bit_setBit_same _ on _ hk, List.lookup_cons_self, hregs, hkeeps,
    .of_frame hregs hkeeps (List.forall_mem_singleton.mpr hlevel) (by decide), ?_⟩
  exact Block.tripOf_congr hk (hregs.mono (by simp)) (hkeeps .tb (by decide)) (hkeeps .cst (by decide)) rfl rfl

/-- A trip is latched, and has acted. -/
def Block.tripNoted (k : Nat) (b : Block) : Block :=
  (b.setBit Reg.PWM_TRIP_STAT_LATCH k true).updLv fun v => { v with tripDone := k :: v.tripDone }

theorem Block.tripNoted_onStage (k : Nat) (b : Block) : OnStage b (b.tripNoted k) := by
  have hlatch : Reg.PWM_TRIP_STAT_LATCH.ofStage := by
    have := stage_keys
    unfold Field.ofStage
    omega
  exact (OnStage.wr hlatch _ b).trans (OnStage.updLv _ _)

theorem Block.tripAct_leg (h : (b.tripOf k).action = 1) : b.tripAct k
    = ((b.tripNoted k).latchLeg (b.tripOf k).leg).raiseOwn { source := 166, unitType := 3, idx := (b.tripOf k).leg } (some 3) :=
  if_pos h

theorem Block.tripAct_stage (h : (b.tripOf k).action = 2) : ∃ own,
    b.tripAct k = (b.tripNoted k).multiBlock.raiseOwn { source := 166, unitType := 3, idx := (b.tripOf k).leg } own :=
  ⟨_, if_neg (by rw [h]; decide)⟩

/-- A trip of action 1 fences its leg (R258). -/
theorem Block.tripAct_fences {c : Block} (hc : OnStage b c) (hact : (c.tripOf k).action = 1) (hleg : (c.tripOf k).leg = l)
    (hl : l < 24) (hlog : Loggable b { source := 166, unitType := 3, idx := l }) :
    ((c.tripAct k).recov (256 + l)).fenced = true ∧ Logs { source := 166, unitType := 3, idx := l } b (c.tripAct k)
      ∧ Keeps raiseParts b (c.tripAct k) := by
  have hsource : 166 < 256 ∧ 166 ≠ 101 := by decide
  have hl256 : l < 256 := by omega
  have hd : OnStage b ((c.tripNoted k).latchLeg l) := (hc.trans (c.tripNoted_onStage k)).trans (Block.latchLeg_onStage hl _)
  rw [Block.tripAct_leg hact, hleg]
  exact ⟨Block.raiseOwn_fencesLeg (hd.loggable hsource.1 hsource.2 hlog).1 rfl rfl hl256 3,
    hd.raiseOwn_logs hsource.1 hsource.2 (some 3) hlog⟩

/-! ### The block of the stage (R257) -/

theorem Block.eachOf_establishes {α : Type} {xs : List α} {f : α → Block → Block} {P : Block → Prop} {x : α}
    (hx : x ∈ xs) (hset : ∀ b, P (f x b)) (hkeep : ∀ y b, P b → P (f y b)) (b : Block) : P (b.eachOf xs f) := by
  have hrest (ys : List α) (c : Block) (hc : P c) : P (c.eachOf ys f) := by
    unfold Block.eachOf
    induction ys generalizing c with
    | nil => exact hc
    | cons y r ih => exact ih _ (hkeep y c hc)
  unfold Block.eachOf
  induction xs generalizing b with
  | nil => exact absurd hx List.not_mem_nil
  | cons y r ih =>
    rcases List.mem_cons.mp hx with rfl | hr
    · exact hrest r _ (hset b)
    · exact ih hr _

/-- Where the stage is blocked, every leg but L20 is off. -/
theorem Block.blockStage_off (hl : l < 24) (h20 : l ≠ 20) (soft : Bool) (b : Block) :
    (b.blockStage soft).rd (Reg.PWM_LEG_STAT_STATE l) = 0 := by
  have hmem : l ∈ (List.range 24).filter (· ≠ 20) := List.mem_filter.mpr ⟨List.mem_range.mpr hl, by simpa using h20⟩
  refine (Stands.eachOf (xs := List.range 8) (fun p _ x => x.stopPort_stands p soft) _).stays_off hl ?_
  exact Block.eachOf_establishes (P := fun c => c.rd (Reg.PWM_LEG_STAT_STATE l) = 0) hmem (fun x => x.holdLeg_off hl soft)
    (fun m x hx => (x.holdLeg_stands m soft).stays_off hl hx) b

theorem Block.multiBlock_blocks (b : Block) : b.multiBlock.on Reg.PWM_STAT_MULTI = true
    ∧ b.multiBlock.rd Reg.PWM_TRIP_STAT_LATCH = b.rd Reg.PWM_TRIP_STAT_LATCH
    ∧ (∀ m < 24, m ≠ 20 → b.multiBlock.rd (Reg.PWM_LEG_STAT_STATE m) = 0) ∧ Keeps raiseParts b b.multiBlock := by
  obtain ⟨hmulti, -, hlatch, -⟩ := stage_keys
  have hstage : Reg.PWM_STAT_MULTI.ofStage := by
    unfold Field.ofStage
    omega
  unfold Block.multiBlock
  extract_lets c d
  have hc : c.on Reg.PWM_STAT_MULTI = true ∧ c.rd Reg.PWM_TRIP_STAT_LATCH = b.rd Reg.PWM_TRIP_STAT_LATCH
      ∧ (∀ m < 24, m ≠ 20 → c.rd (Reg.PWM_LEG_STAT_STATE m) = 0) := by
    refine ⟨Block.on_flag_same _ _ _ Nat.one_pos, ?_, fun m hm h20 => ?_⟩
    · exact (Block.rd_flag_ne _ _ _ _ (by omega)).trans ((b.blockStage_stands true).kept _ (by simp))
    · have := leg_keys m
      exact (Block.rd_flag_ne _ _ _ _ (by omega)).trans (b.blockStage_off hm h20 true)
  have hon : OnStage b c := (OnStage.of_besideStage (b.blockStage_besideStage true)).trans (OnStage.wr hstage _ _)
  have hports : OnStage c d :=
    OnStage.eachOf (xs := List.range 8) (fun p hp x => x.portToWait_onStage (List.mem_range.mp hp) true) c
  have hraise := (Stands.eachOf (xs := List.range 8) (fun p _ x => x.portToWait_stands p true) c).trans
    (d.raiseOwn_stands { source := 162 } none)
  obtain ⟨hon', hlatch', hoff⟩ := hc
  exact ⟨(Block.on_congr (hraise.kept _ (by simp))).trans hon', (hraise.kept _ (by simp)).trans hlatch',
    fun m hm h20 => hraise.stays_off hm (hoff m hm h20),
    (hon.trans hports).keeps.trans (Block.keeps_of_still (Block.raise_still _ d))⟩

/-- A trip of action 2 blocks the stage (R258). -/
theorem Block.tripAct_blocks {c : Block} (hc : OnStage b c) (hk : k < 16) (hact : (c.tripOf k).action = 2) :
    (c.tripAct k).on Reg.PWM_STAT_MULTI = true ∧ (c.tripAct k).bit Reg.PWM_TRIP_STAT_LATCH k = true
      ∧ (∀ m < 24, m ≠ 20 → (c.tripAct k).rd (Reg.PWM_LEG_STAT_STATE m) = 0) ∧ Keeps raiseParts b (c.tripAct k) := by
  obtain ⟨own, h⟩ := Block.tripAct_stage hact
  obtain ⟨hmulti, hlatch, hoff, hkeeps⟩ := (c.tripNoted k).multiBlock_blocks
  have hnoted : (c.tripNoted k).bit Reg.PWM_TRIP_STAT_LATCH k = true := Block.bit_setBit_same _ true c hk
  have hraise := (c.tripNoted k).multiBlock.raiseOwn_stands { source := 166, unitType := 3, idx := (c.tripOf k).leg } own
  rw [h]
  refine ⟨(Block.on_congr (hraise.kept _ (by simp))).trans hmulti, ?_, fun m hm h20 => hraise.stays_off hm (hoff m hm h20),
    ((hc.trans (c.tripNoted_onStage k)).keeps.trans hkeeps).trans (Block.keeps_of_still (Block.raiseOwn_still _ _ _))⟩
  rw [Block.bit, hraise.kept _ (by simp), hlatch]
  exact hnoted

/-! ### Undervoltage (R267) -/

/-- The leg that a channel's supply fences: its own, or the first one of the port whose static switch it drives. -/
def uvloLeg (ch : Nat) : Nat := if ch < 48 then ch / 2 else 2 * (ch - 48)

theorem Block.gateUvlo_fences {ch : Nat} (hch : ch < 56) (hp : b.on (Reg.GATE_CH_STAT_POWERED ch) = true)
    (hu : b.on (Reg.GATE_CH_STAT_UVLO ch) = false) :
    ((b.gateUvlo ch true).recov (256 + uvloLeg ch)).fenced = true ∧ Keeps raiseParts b (b.gateUvlo ch true) := by
  have hkeys := gate_keys ch
  have hl : uvloLeg ch < 24 := by
    unfold uvloLeg
    split <;> omega
  have huvlo : (Reg.GATE_CH_STAT_UVLO ch).ofStage := by
    unfold Field.ofStage
    omega
  unfold Block.gateUvlo
  extract_lets was powered c l d
  have hc : OnStage b c := OnStage.wr huvlo _ b
  have hd : OnStage b (d.holdLeg l true) :=
    (OnStage.ite (fun _ => hc) fun _ => hc.trans (c.openSwitch_onStage (by omega) true)).trans (Block.holdLeg_onStage hl true _)
  rw [if_pos (by simp [was, powered, hp, hu])]
  have hl256 : l < 256 := Nat.lt_trans hl (by decide)
  exact ⟨Block.raiseOwn_fencesLeg rfl rfl rfl hl256 6, hd.keeps.trans (Block.keeps_of_still (Block.raiseOwn_still _ _ _))⟩

/-- A supply that is back changes one status bit. -/
theorem Block.gateUvlo_back (ch : Nat) (b : Block) : b.gateUvlo ch false = b.flag (Reg.GATE_CH_STAT_UVLO ch) false := rfl

end

end

/-! ### The statement -/

/-- Settles O30: each protection latches or blocks the stage and then raises its event, whose own rule fences the leg
    (`Block.raiseOwn_fencesLeg`) and leaves the stage as it is (`Block.raiseOwn_stands`). -/
theorem legProtection : Obligations.LegProtection := by
  unfold Obligations.LegProtection
  intro s l upper level k ch
  have hl := l.isLt
  have hk := k.isLt
  refine ⟨fun hen hfirst hlog => ?_, fun hen => ?_, fun hen => ?_, fun hen hfirst hlog => ?_,
    fun hpol hleg hclear hact hdone hlog => ?_, fun hpol hleg hclear hact hdone => ?_, fun hpol hleg hblank => ?_,
    fun hpol => ?_, fun hp hu => ?_, ?_⟩
  case refine_1 =>
    have hdesat (c : Nat) (hc : c < 56) : (Reg.GATE_CH_STAT_DESAT c).ofStage := by
      have := gate_keys c
      unfold Field.ofStage
      omega
    refine does_onBlk rfl ?_
    dsimp only [Block.desatDetect]
    rw [if_pos hen]
    exact Block.legShort_first hl (OnStage.wr (hdesat _ (by split <;> omega)) _ s.blk) hfirst _ _ hlog
  case refine_2 =>
    exact does_nothing rfl (if_neg (by simp [hen]))
  case refine_3 =>
    exact does_nothing rfl (if_neg (by simp [hen]))
  case refine_4 =>
    refine does_onBlk rfl ?_
    dsimp only [Block.fastCurrentTrip]
    rw [if_pos hen]
    exact Block.legShort_first hl (OnStage.refl s.blk) hfirst _ _ hlog
  case refine_5 =>
    obtain ⟨-, -, -, -, hon, htrip⟩ := s.blk.tripShown_frame hk level true
    refine does_onBlk rfl ?_
    rw [Block.tripInput_acts hpol (Block.tripBlanked_eq_false (hleg ▸ hclear)) (.inl hact) hdone]
    exact Block.tripAct_fences hon (htrip ▸ hact) (htrip ▸ hleg) hl hlog
  case refine_6 =>
    obtain ⟨-, -, -, -, hon, htrip⟩ := s.blk.tripShown_frame hk level true
    refine does_onBlk rfl ?_
    rw [Block.tripInput_acts hpol (Block.tripBlanked_eq_false (hleg ▸ hclear)) (.inr hact) hdone]
    obtain ⟨hmulti, hlatch, hoff, hkeeps⟩ := Block.tripAct_blocks hon hk (htrip ▸ hact)
    exact ⟨hmulti, hlatch, fun m => hoff m m.isLt, hkeeps⟩
  case refine_7 =>
    obtain ⟨hlevel, hpin, hregs, hkeeps, -⟩ := s.blk.tripShown_frame hk level true
    refine does_onBlk rfl ?_
    rw [Block.tripInput_blanked hpol (Block.tripBlanked_eq_true (hleg ▸ hblank))]
    exact ⟨hlevel, hpin, hregs, hkeeps⟩
  case refine_8 =>
    obtain ⟨hlevel, hpin, hregs, hkeeps, -⟩ := s.blk.tripShown_frame hk level false
    refine does_onBlk rfl ?_
    rw [Block.tripInput_inactive hpol]
    refine ⟨hlevel, fun hm => ?_, hpin, hregs, hkeeps.andThen (Block.updLv_keeps _ _) (by decide)⟩
    exact absurd rfl (of_decide_eq_true (List.mem_filter.mp hm).2)
  case refine_9 =>
    exact does_onBlk rfl (Block.gateUvlo_fences ch.isLt hp hu)
  case refine_10 =>
    refine does_onBlk rfl ?_
    rw [Block.gateUvlo_back]
    exact ⟨Block.on_flag_same _ _ _ Nat.one_pos, Block.flag_regsBut _ _ _, Block.wr_keeps _ _ _⟩

end Sys2Proof.Machine
end

section
/-! PROOFS. A leg that is held (R252, R259): what it shows, and what it leaves alone. -/

namespace Sys2Proof.Machine

/-- The fields that the holding of a leg writes: its own, and those of the chopper. -/
def heldFields (l : Nat) : List Field :=
  legGates l ++ [Reg.PWM_BRK_STAT_ON, Reg.PWM_LEG_STAT_STATE 20, Reg.GATE_CH_STAT_GATE_OFF 41]

section
variable {b : Block} {l : Nat}

theorem Block.brakeStop_frame (o : Output) (b : Block) :
    RegsBut [Reg.PWM_BRK_STAT_ON, Reg.PWM_LEG_STAT_STATE 20, Reg.GATE_CH_STAT_GATE_OFF 41] b (b.brakeStop o)
      ∧ Keeps [.regs, .lv, .out] b (b.brakeStop o) ∧ (b.brakeStop o).lv.legs = b.lv.legs := by
  unfold Block.brakeStop
  split
  · refine ⟨((b.wr_regsBut Reg.PWM_BRK_STAT_ON _).trans_append (Block.wr_regsBut (Reg.PWM_LEG_STAT_STATE 20) 0 _)).trans_append
      (Block.wr_regsBut (Reg.GATE_CH_STAT_GATE_OFF 41) _ _), fun q hq => ?_, rfl⟩
    cases q
    case regs | lv | out => exact absurd (by decide) hq
    all_goals rfl
  · exact ⟨RegsBut.refl _ b, Keeps.refl _ b, rfl⟩

theorem Leg.held_of_unsettled {x y : Leg} (h : x.unsettled = y.unsettled) : x.held = y.held := (congrArg Leg.held h :)

theorem Block.dropLeg_frame (l : Nat) (b : Block) : RegsBut (legGates l) b (b.dropLeg l)
    ∧ Keeps [.regs, .lv, .out] b (b.dropLeg l) ∧ (b.dropLeg l).leg l = (b.leg l).held := by
  obtain ⟨hregs, hk, hleg⟩ := b.settleLeg_frame l
  have hstate : RegsBut (legGates l) ((b.settleLeg l).updLeg l Leg.held) (b.dropLeg l) :=
    (Block.wr_regsBut (Reg.PWM_LEG_STAT_STATE l) 0 _).mono (by simp [legGates])
  exact ⟨hregs.trans hstate, (hk.andThen (Block.updLeg_keeps _ _ _) (by decide)).andThen (Block.wr_keeps _ _ _) (by decide),
    (Block.leg_updLeg_same _ _ _).trans (Leg.held_of_unsettled hleg)⟩

/-- What the holding of a leg leaves alone (R259). -/
theorem Block.holdLeg_frame (l : Nat) (soft : Bool) (b : Block) : RegsBut (heldFields l) b (b.holdLeg l soft)
    ∧ Keeps [.regs, .lv, .out] b (b.holdLeg l soft) ∧ (b.holdLeg l soft).leg l = (b.leg l).held := by
  obtain ⟨hregs, hk, hleg⟩ := b.dropLeg_frame l
  have hown : RegsBut (heldFields l) b (b.dropLeg l) := hregs.mono (by simp [heldFields])
  rw [Block.holdLeg_eq]
  extract_lets st c
  have hc : RegsBut (heldFields l) b c := hown
  have hkc : Keeps [.regs, .lv, .out] b c := hk.andThen (Block.emit_keeps _ _) (by decide)
  split
  · obtain ⟨hbrake, hkbrake, hlegs⟩ := (b.dropLeg l).brakeStop_frame (.legOff 20 soft)
    exact ⟨hown.trans (hbrake.mono (by simp [heldFields])), hk.trans hkbrake,
      (congrArg (SMap.look default · l) hlegs :).trans hleg⟩
  split
  · exact ⟨hown, hk, hleg⟩
  split
  · exact ⟨hc, hkc, hleg⟩
  · have hgate {f : Field} (hf : f ∈ legGates l) (p : Bool) (x : Block) : RegsBut (heldFields l) x (x.flag f p) :=
      (x.flag_regsBut f p).mono (by simpa [heldFields] using .inl ⟨f, hf, rfl⟩)
    exact ⟨(hc.trans (hgate (by simp [legGates]) _ _)).trans (hgate (by simp [legGates]) _ _),
      (hkc.andThen (Block.wr_keeps _ _ _) (by decide)).andThen (Block.wr_keeps _ _ _) (by decide), hleg⟩

end

end Sys2Proof.Machine
end

section
/-! PROOFS. Stuck gates, static switches and the gate supply (R248, R255, R257, R275, R279, R452). -/

namespace Sys2Proof.Machine

section
variable {b : Block} {p : Nat}

/-! ### Gates that do not turn off (R257) -/

theorem Block.gateStuck_eq (h : (b.port p).opening = true) : b.gateStuck p =
    let c := b.untilUp ((b.port p).heldAt + 2 * usPs)
    ((c.setBit Reg.GATE_STAT_STUCK p true).updPort p fun x => { x with opening := false }).raise
      { source := 163, unitType := 4, idx := p } := if_pos h

/-- A gate that is stuck is logged, and its static switch stays closed, whatever the class of the event. -/
theorem Block.stuck_raised (hp : p < 8) (hlog : Loggable b { source := 163, unitType := 4, idx := p }) :
    let t := ((b.setBit Reg.GATE_STAT_STUCK p true).updPort p fun x => { x with opening := false }).raise
      { source := 163, unitType := 4, idx := p }
    Logs { source := 163, unitType := 4, idx := p } b t ∧ t.bit Reg.GATE_STAT_STUCK p = true ∧ (t.port p).opening = false
      ∧ Keeps raiseParts b t := by
  have hsource : 163 < 256 ∧ 163 ≠ 101 := by decide
  have hstuck : Reg.GATE_STAT_STUCK.ofStage := by
    have := stage_keys
    unfold Field.ofStage
    omega
  dsimp only
  generalize hx : ((b.setBit Reg.GATE_STAT_STUCK p true).updPort p fun x => { x with opening := false }) = x
  have hon : OnStage b x := hx ▸ (OnStage.wr hstuck _ b).trans (OnStage.updPort _ _ _)
  have hbit : x.bit Reg.GATE_STAT_STUCK p = true := hx ▸ Block.bit_setBit_same _ true b hp
  have hopen : (x.port p).opening = false := by
    rw [← hx, Block.port_updPort_same]
  have hraise := x.raiseOwn_stands { source := 163, unitType := 4, idx := p } none
  obtain ⟨hlogs, hkeeps⟩ := hon.raise_logs hsource.1 hsource.2 hlog
  refine ⟨hlogs, ?_, hraise.shut p hbit hopen, hkeeps⟩
  exact (congrArg (Nat.testBit · p) (hraise.kept _ (by simp))).trans hbit

/-! ### Gates that are confirmed off (R279) -/

/-- Each channel's gate is off where it is powered. -/
def Block.gatesRead (xs : List Nat) (b : Block) : Block :=
  b.eachOf xs fun ch b => b.flag (Reg.GATE_CH_STAT_GATE_OFF ch) (b.on (Reg.GATE_CH_STAT_POWERED ch))

theorem Block.gatesRead_rd {g : Field} (h : ∀ ch, g.key ≠ (Reg.GATE_CH_STAT_GATE_OFF ch).key) (xs : List Nat) (b : Block) :
    (b.gatesRead xs).rd g = b.rd g := by
  unfold Block.gatesRead Block.eachOf
  induction xs generalizing b with
  | nil => rfl
  | cons ch r ih => exact (ih _).trans (Block.rd_flag_ne _ _ _ _ (h ch))

theorem powered_ne_gateOff (j ch : Nat) : (Reg.GATE_CH_STAT_POWERED j).key ≠ (Reg.GATE_CH_STAT_GATE_OFF ch).key := by
  have := gate_keys j
  have := gate_keys ch
  omega

theorem Block.gatesRead_on {xs : List Nat} {ch : Nat} (h : ch ∈ xs) (b : Block) :
    (b.gatesRead xs).on (Reg.GATE_CH_STAT_GATE_OFF ch) = b.on (Reg.GATE_CH_STAT_POWERED ch) := by
  have hpow (j : Nat) (q : Bool) (c : Block) : (c.flag (Reg.GATE_CH_STAT_GATE_OFF j) q).on (Reg.GATE_CH_STAT_POWERED ch)
      = c.on (Reg.GATE_CH_STAT_POWERED ch) := Block.on_flag_ne _ _ _ _ (powered_ne_gateOff ch j)
  have hset (c : Block) : (c.flag (Reg.GATE_CH_STAT_GATE_OFF ch) (c.on (Reg.GATE_CH_STAT_POWERED ch))).on
      (Reg.GATE_CH_STAT_GATE_OFF ch) = c.on (Reg.GATE_CH_STAT_POWERED ch) := Block.on_flag_same _ _ _ Nat.one_pos
  have hread : (b.gatesRead xs).on (Reg.GATE_CH_STAT_GATE_OFF ch) = (b.gatesRead xs).on (Reg.GATE_CH_STAT_POWERED ch) := by
    refine Block.eachOf_establishes
      (P := fun c => c.on (Reg.GATE_CH_STAT_GATE_OFF ch) = c.on (Reg.GATE_CH_STAT_POWERED ch)) h (fun c => ?_)
      (fun j c hc => ?_) b
    · rw [hset, hpow]
    · rw [hpow]
      by_cases hj : j = ch
      · rw [hj, hset]
      · have hkeys := gate_keys j
        have hkeys' := gate_keys ch
        rw [Block.on_flag_ne _ _ _ _ (by omega)]
        exact hc
  exact hread.trans (Block.on_congr (Block.gatesRead_rd (powered_ne_gateOff ch) xs b))

theorem Block.gatesRead_keeps (xs : List Nat) (b : Block) : Keeps [.regs] b (b.gatesRead xs) :=
  Block.eachOf_keeps xs _ (fun _ _ c => c.wr_keeps _ _) b

/-- The channels of a port's legs. -/
def portGates (p : Nat) : List Nat := [4 * p, 4 * p + 1, 4 * p + 2, 4 * p + 3]

theorem mem_portGates (p : Nat) (i : Fin 4) : 4 * p + i ∈ portGates p := by
  simp only [portGates, List.mem_cons, List.not_mem_nil, or_false]
  omega

theorem Block.gateOffConfirmed_eq (p : Nat) (b : Block) : b.gateOffConfirmed p =
    let c := b.gatesRead (portGates p)
    if (c.port p).opening && c.gatesOff p then c.openSwitch p true else c := rfl

/-- The record of a port whose static switch is open. -/
def PortSt.shut (x : PortSt) : PortSt := { x with opening := false, closing := false }

/-- The static switch of a port is off. -/
def Block.switchOff (p : Nat) (b : Block) : Block :=
  let c := (b.setBit Reg.GATE_SS_STAT_CLOSED p false).updPort p PortSt.shut
  c.flag (Reg.GATE_CH_STAT_GATE_OFF (48 + p)) (c.on (Reg.GATE_CH_STAT_POWERED (48 + p)))

theorem Block.openSwitch_eq (p : Nat) (soft : Bool) (b : Block) : b.openSwitch p soft =
    if b.bit Reg.GATE_SS_STAT_CLOSED p || (b.port p).closing then (b.switchOff p).emit (.staticSwitch p false soft)
    else b.switchOff p := rfl

/-- The fields of a port's static switch. -/
def switchFields (p : Nat) : List Field := [Reg.GATE_SS_STAT_CLOSED, Reg.GATE_CH_STAT_GATE_OFF (48 + p)]

theorem Block.switchOff_frame (hp : p < 8) (b : Block) : (b.switchOff p).bit Reg.GATE_SS_STAT_CLOSED p = false
    ∧ (b.switchOff p).port p = (b.port p).shut ∧ RegsBut (switchFields p) b (b.switchOff p)
    ∧ Keeps [.regs, .lv] b (b.switchOff p) := by
  have hstage := stage_keys
  have hkeys := gate_keys (48 + p)
  unfold Block.switchOff
  extract_lets c
  have hc : c.bit Reg.GATE_SS_STAT_CLOSED p = false := Block.bit_setBit_same Reg.GATE_SS_STAT_CLOSED false b hp
  have hregs : RegsBut [Reg.GATE_SS_STAT_CLOSED] b c := b.wr_regsBut Reg.GATE_SS_STAT_CLOSED _
  refine ⟨?_, Block.port_updPort_same _ p _, hregs.trans_append (Block.wr_regsBut _ _ c), fun q hq => ?_⟩
  · exact (congrArg (Nat.testBit · p) (Block.rd_flag_ne _ _ _ _ (by omega))).trans hc
  · cases q
    case regs | lv => exact absurd (by decide) hq
    all_goals rfl

/-- A static switch that opens (R249). -/
theorem Block.openSwitch_frame (hp : p < 8) (soft : Bool) (b : Block) :
    (b.openSwitch p soft).bit Reg.GATE_SS_STAT_CLOSED p = false ∧ (b.openSwitch p soft).port p = (b.port p).shut
    ∧ (b.bit Reg.GATE_SS_STAT_CLOSED p = true → (b.openSwitch p soft).out = .staticSwitch p false soft :: b.out)
    ∧ RegsBut (switchFields p) b (b.openSwitch p soft) ∧ Keeps [.regs, .lv, .out] b (b.openSwitch p soft) := by
  obtain ⟨hclosed, hport, hregs, hk⟩ := b.switchOff_frame hp
  have hout : (b.switchOff p).out = b.out := hk .out (by decide)
  rw [Block.openSwitch_eq]
  split
  · exact ⟨hclosed, hport, fun _ => congrArg (Output.staticSwitch p false soft :: ·) hout, hregs,
      (hk.mono (by decide)).andThen (Block.emit_keeps _ _) (by decide)⟩
  · next h => exact ⟨hclosed, hport, fun hc => absurd (by simp [hc]) h, hregs, hk.mono (by decide)⟩

/-- A static switch that waits opens once its port's gates are off. -/
theorem Block.gateOffConfirmed_opens (hp : p < 8) (hc : b.bit Reg.GATE_SS_STAT_CLOSED p = true) (ho : (b.port p).opening = true)
    (hpow : ∀ i : Fin 4, b.on (Reg.GATE_CH_STAT_POWERED (4 * p + i)) = true) :
    let t := b.gateOffConfirmed p
    (∀ i : Fin 4, t.on (Reg.GATE_CH_STAT_GATE_OFF (4 * p + i)) = true) ∧ t.bit Reg.GATE_SS_STAT_CLOSED p = false
      ∧ (t.port p).opening = false ∧ t.out = .staticSwitch p false true :: b.out ∧ Keeps [.regs, .lv, .out] b t := by
  have hoff (i : Fin 4) : (b.gatesRead (portGates p)).on (Reg.GATE_CH_STAT_GATE_OFF (4 * p + i)) = true :=
    (Block.gatesRead_on (mem_portGates p i) b).trans (hpow i)
  have hk := b.gatesRead_keeps (portGates p)
  have hclosed : (b.gatesRead (portGates p)).bit Reg.GATE_SS_STAT_CLOSED p = true := by
    have hstage := stage_keys
    refine (congrArg (Nat.testBit · p) (Block.gatesRead_rd (fun ch => ?_) _ b)).trans hc
    have := gate_keys ch
    omega
  have hlv : (b.gatesRead (portGates p)).lv = b.lv := hk .lv (by decide)
  have hout : (b.gatesRead (portGates p)).out = b.out := hk .out (by decide)
  have hgates : (b.gatesRead (portGates p)).gatesOff p = true := by
    have := hoff 0
    have := hoff 1
    have := hoff 2
    have := hoff 3
    simp_all [Block.gatesOff]
  have hopening : ((b.gatesRead (portGates p)).port p).opening = true := by rw [Block.port, hlv]; exact ho
  dsimp only
  rw [Block.gateOffConfirmed_eq]
  generalize b.gatesRead (portGates p) = c at *
  dsimp only
  rw [if_pos (by simp [hopening, hgates])]
  obtain ⟨hshut, hport, hsent, hregs, hk'⟩ := c.openSwitch_frame hp true
  refine ⟨fun i => ?_, hshut, congrArg PortSt.opening hport, hout ▸ hsent hclosed, (hk.mono (by decide)).trans hk'⟩
  refine (Block.on_congr (hregs _ ?_)).trans (hoff i)
  have hstage := stage_keys
  have hkeys := gate_keys (48 + p)
  have hkeys' := gate_keys (4 * p + i)
  simp only [switchFields, List.map_cons, List.map_nil, List.mem_cons, List.not_mem_nil, or_false, not_or]
  omega

/-- With no static switch that waits, the gates are read. -/
theorem Block.gateOffConfirmed_reads (ho : (b.port p).opening = false) : b.gateOffConfirmed p = b.gatesRead (portGates p) := by
  have hlv : (b.gatesRead (portGates p)).lv = b.lv := b.gatesRead_keeps _ .lv (by decide)
  have hopening : ((b.gatesRead (portGates p)).port p).opening = false := by rw [Block.port, hlv]; exact ho
  rw [Block.gateOffConfirmed_eq]
  exact if_neg (by simp [hopening])

/-! ### A static switch that is shorted (R255, R275) -/

theorem closed_not_heldFields (l : Nat) : Reg.GATE_SS_STAT_CLOSED.key ∉ (heldFields l).map Field.key := by
  have hstage := stage_keys
  have hl := leg_keys l
  have h20 := leg_keys 20
  have hup := gate_keys (2 * l)
  have hlow := gate_keys (2 * l + 1)
  have h41 := gate_keys 41
  simp only [heldFields, legGates, List.map_append, List.map_cons, List.map_nil, List.mem_append, List.mem_cons, List.not_mem_nil,
    or_false, not_or]
  omega

/-- A static switch that is open stays so as its port stops. -/
theorem Block.stopPort_switch (hp : p < 8) (soft : Bool) (h : b.bit Reg.GATE_SS_STAT_CLOSED p = false) :
    (b.stopPort p soft).bit Reg.GATE_SS_STAT_CLOSED p = false := by
  have hlegs (xs : List Nat) (c : Block) : (c.eachOf xs fun l x => x.holdLeg l soft).rd Reg.GATE_SS_STAT_CLOSED
      = c.rd Reg.GATE_SS_STAT_CLOSED := by
    unfold Block.eachOf
    induction xs generalizing c with
    | nil => rfl
    | cons l r ih => exact (ih _).trans ((c.holdLeg_frame l soft).1 _ (closed_not_heldFields l))
  unfold Block.stopPort
  extract_lets c closed d
  have hd : d.bit Reg.GATE_SS_STAT_CLOSED p = false := (congrArg (Nat.testBit · p) (hlegs _ b)).trans h
  unfold Block.tryOpen
  split
  · exact (d.openSwitch_frame hp true).1
  · exact hd

theorem Block.updPort_keeps (p : Nat) (f : PortSt → PortSt) (b : Block) : Keeps [.lv] b (b.updPort p f) := by
  intro q hq
  cases q
  case lv => exact absurd (List.mem_singleton_self _) hq
  all_goals rfl

theorem Block.portState_frame (p st : Nat) (b : Block) : (b.portState p st).rd (Reg.PORT_STAT_STATE p) = st % 2 ^ 4
    ∧ RegsBut (portFields p) b (b.portState p st) ∧ Keeps [.regs, .lv] b (b.portState p st) := by
  have hkeys := port_keys p
  have hwr {f : Field} (hf : f ∈ portFields p) (v : Nat) (x : Block) : RegsBut (portFields p) x (x.wr f v) :=
    (x.wr_regsBut f v).mono (by simpa using ⟨f, hf, rfl⟩)
  unfold Block.portState
  extract_lets c
  have hc : RegsBut (portFields p) b c := hwr (by simp [portFields]) st b
  have hk : Keeps [.regs, .lv] b c := ((b.wr_keeps _ _).mono (by decide)).andThen (Block.updPort_keeps _ _ _) (by decide)
  have hst : c.rd (Reg.PORT_STAT_STATE p) = st % 2 ^ 4 := (Block.updPort_rd _ _ _ _).trans (Block.rd_wr_same _ _ _)
  split
  · exact ⟨(Block.rd_wr_ne _ _ _ _ (by omega)).trans hst, hc.trans (hwr (by simp [portFields]) 0 c),
      hk.andThen (Block.wr_keeps _ _ _) (by decide)⟩
  · exact ⟨hst, hc, hk⟩

/-- What a port that is latched shows (R275). -/
theorem Block.latchPort_shows (hp : p < 8) (cause : Nat) (soft : Bool) (h : b.bit Reg.GATE_SS_STAT_CLOSED p = false) :
    (b.latchPort p cause soft).rd (Reg.PORT_STAT_STATE p) = 8
      ∧ (b.latchPort p cause soft).rd (Reg.PORT_STAT_CAUSE p) = cause % 2 ^ 4
      ∧ (b.latchPort p cause soft).bit Reg.GATE_SS_STAT_CLOSED p = false
      ∧ RegsBut (stageFields ++ portFields p) b (b.latchPort p cause soft)
      ∧ Keeps [.regs, .evt, .lv, .out] b (b.latchPort p cause soft) := by
  have hkeys := port_keys p
  have hstage := stage_keys
  unfold Block.latchPort
  extract_lets c d
  have hstop : c.bit Reg.GATE_SS_STAT_CLOSED p = false := b.stopPort_switch hp soft h
  obtain ⟨hregs, hk⟩ : RegsBut stageFields b c ∧ Keeps [.regs, .lv, .out] b c :=
    Block.frame_of_besideStage (b.stopPort_besideStage hp soft)
  clear_value c
  obtain ⟨hdregs, hdk, hdclosed⟩ : RegsBut (stageFields ++ portFields p) b d ∧ Keeps [.regs, .evt, .lv, .out] b d
      ∧ d.bit Reg.GATE_SS_STAT_CLOSED p = false := by
    have hc : RegsBut (stageFields ++ portFields p) b c := hregs.mono (by simp)
    have hkc : Keeps [.regs, .evt, .lv, .out] b c := hk.mono (by decide)
    unfold d
    split
    · exact ⟨hc, hkc.andThen (Block.updRecov_keeps _ _ _) (by decide), hstop⟩
    · exact ⟨hc, hkc, hstop⟩
  clear_value d
  obtain ⟨hst, hportregs, hportk⟩ := d.portState_frame p 8
  have hcause : RegsBut (portFields p) (d.portState p 8) ((d.portState p 8).wr (Reg.PORT_STAT_CAUSE p) cause) :=
    (Block.wr_regsBut _ _ _).mono (by simp [portFields])
  have hafter := hportregs.trans hcause
  refine ⟨(Block.rd_wr_ne _ _ _ _ (by omega)).trans hst, Block.rd_wr_same _ _ _, ?_, hdregs.trans (hafter.mono (by simp)),
    (hdk.andThen hportk (by decide)).andThen (Block.wr_keeps _ _ _) (by decide)⟩
  refine (congrArg (Nat.testBit · p) (hafter _ ?_)).trans hdclosed
  simp only [portFields, List.map_cons, List.map_nil, List.mem_cons, List.not_mem_nil, or_false, not_or]
  omega

/-- A static switch's short, before it is raised: the switch is open, and the port is latched. -/
def Block.shortLatched (p : Nat) (b : Block) : Block :=
  ((b.flag (Reg.GATE_CH_STAT_DESAT (48 + p)) true).openSwitch p true).latchPort p 2 false

theorem Block.staticShort_eq (h : (b.legInForce (2 * p)).desatSs = true) : b.staticShort p =
    let c := (b.shortLatched p).raise { source := 161, unitType := 4, idx := p }
    if b.rd (Reg.PORT_STAT_STATE p) == 8 then c else c.raise { source := 193, unitType := 4, idx := p } :=
  if_neg (by simp [h])

theorem Block.shortLatched_onStage (hp : p < 8) (b : Block) : OnStage b (b.shortLatched p) := by
  have hdesat : (Reg.GATE_CH_STAT_DESAT (48 + p)).ofStage := by
    have := gate_keys (48 + p)
    unfold Field.ofStage
    omega
  exact ((OnStage.wr hdesat _ b).trans (Block.openSwitch_onStage hp true _)).trans (Block.latchPort_onStage hp 2 false _)

theorem Block.shortLatched_shows (hp : p < 8) (b : Block) : (b.shortLatched p).rd (Reg.PORT_STAT_STATE p) = 8
    ∧ (b.shortLatched p).rd (Reg.PORT_STAT_CAUSE p) = 2 ∧ (b.shortLatched p).bit Reg.GATE_SS_STAT_CLOSED p = false
    ∧ (b.shortLatched p).on (Reg.GATE_CH_STAT_DESAT (48 + p)) = true
    ∧ Keeps [.regs, .evt, .lv, .out] b (b.shortLatched p) := by
  have hstage := stage_keys
  have hkeys := gate_keys (48 + p)
  have hport := port_keys p
  obtain ⟨hclosed, -, -, hregs, hk⟩ := (b.flag (Reg.GATE_CH_STAT_DESAT (48 + p)) true).openSwitch_frame hp true
  obtain ⟨hstate, hcause, hshut, hregs', hk'⟩ := Block.latchPort_shows hp 2 false hclosed
  refine ⟨hstate, hcause, hshut, ?_, (((b.wr_keeps _ _).mono (by decide)).andThen hk (by decide)).trans hk'⟩
  refine (Block.on_congr ((hregs' _ ?_).trans (hregs _ ?_))).trans (Block.on_flag_same _ _ _ Nat.one_pos)
  · rw [List.map_append, List.mem_append, not_or]
    refine ⟨not_stageField (by omega) (by omega) (fun l _ => ?_) (fun ch _ => ?_), ?_⟩
    · have := leg_keys l
      omega
    · have := gate_keys ch
      omega
    · simp only [portFields, List.map_cons, List.map_nil, List.mem_cons, List.not_mem_nil, or_false, not_or]
      omega
  · simp only [switchFields, List.map_cons, List.map_nil, List.mem_cons, List.not_mem_nil, or_false, not_or]
    omega

/-- An occurrence of class INFO that names a port is counted and recorded (R341, R345). -/
theorem Block.raise_info_port {o : Occ} (hd : b.detects o = true) (hc : b.classOf o = 0) (ht : o.unitType = 4) :
    RegsBut [Reg.EVT_SRCk_COUNT o.source, Reg.EVT_SUPP_CNT_COUNT] b (b.raise o) ∧ Keeps [.regs, .evt] b (b.raise o) := by
  have hkey : unitKey o.unitType o.idx = some (512 + o.idx) := by rw [ht]; rfl
  have hagain (c : Block) : RegsBut [] c (c.onRecurrence (512 + o.idx)) ∧ Keeps [.evt] c (c.onRecurrence (512 + o.idx)) := by
    simp only [Block.onRecurrence, decide_eq_false (show ¬ 512 + o.idx < 256 by omega), Bool.false_and, Bool.false_eq_true,
      if_false]
    exact ⟨fun _ _ => rfl, Block.updRecov_keeps _ _ _⟩
  rw [Block.raise_info_unit hd hc hkey (by rw [ht]; decide)]
  split
  · obtain ⟨hregs, hk⟩ := hagain (b.record o 0 true false)
    rw [Block.recurs_late (by omega)]
    exact ⟨(b.record_regsBut o 0 true false).trans (hregs.mono (by simp)),
      (b.record_keeps o 0 true false).andThen hk (by decide)⟩
  · exact ⟨b.record_regsBut _ _ _ _, b.record_keeps _ _ _ _⟩

/-- Where its events are of class INFO, a static switch's short leaves its port latched. -/
theorem Block.staticShort_latches (hp : p < 8) (h161 : b.rd (Reg.EVT_SRCk_CLASS 161) = 0)
    (h193 : b.rd (Reg.EVT_SRCk_CLASS 193) = 0) :
    let t := ((b.shortLatched p).raise { source := 161, unitType := 4, idx := p }).raise
      { source := 193, unitType := 4, idx := p }
    t.rd (Reg.PORT_STAT_STATE p) = 8 ∧ t.rd (Reg.PORT_STAT_CAUSE p) = 2 ∧ t.bit Reg.GATE_SS_STAT_CLOSED p = false
      ∧ t.on (Reg.GATE_CH_STAT_DESAT (48 + p)) = true ∧ Keeps [.regs, .evt, .lv, .out] b t := by
  have hport := port_keys p
  have hstage := stage_keys
  have hkeys := gate_keys (48 + p)
  obtain ⟨hstate, hcause, hclosed, hdesat, hk⟩ := b.shortLatched_shows hp
  have hon := b.shortLatched_onStage hp
  generalize b.shortLatched p = x at *
  have hlate (k : Nat) : ¬ (Reg.EVT_SRCk_CLASS k).ofStage := by
    simp only [Field.ofStage, Field.key, Reg.EVT_SRCk_CLASS]
    omega
  obtain ⟨hr, hrk⟩ := Block.raise_info_port (o := { source := 161, unitType := 4, idx := p }) rfl
    ((hon.1 _ (hlate 161)).trans h161) rfl
  generalize x.raise { source := 161, unitType := 4, idx := p } = y at *
  have hother : (Reg.EVT_SRCk_CLASS 193).key ∉ [Reg.EVT_SRCk_COUNT 161, Reg.EVT_SUPP_CNT_COUNT].map Field.key := by decide
  have hclass : y.rd (Reg.EVT_SRCk_CLASS 193) = 0 := (hr _ hother).trans ((hon.1 _ (hlate 193)).trans h193)
  obtain ⟨hr', hrk'⟩ := Block.raise_info_port (o := { source := 193, unitType := 4, idx := p }) rfl hclass rfl
  generalize y.raise { source := 193, unitType := 4, idx := p } = t at *
  have hkept {g : Field} (hg : g.key < 0x430000 * 8) : t.rd g = x.rd g := by
    have hnot (k : Nat) : g.key ∉ [Reg.EVT_SRCk_COUNT k, Reg.EVT_SUPP_CNT_COUNT].map Field.key := by
      simp only [List.map_cons, List.map_nil, List.mem_cons, List.not_mem_nil, or_false, not_or, Field.key, Reg.EVT_SRCk_COUNT,
        Reg.EVT_SUPP_CNT_COUNT] at hg ⊢
      omega
    exact (hr' g (hnot 193)).trans (hr g (hnot 161))
  exact ⟨(hkept (by omega)).trans hstate, (hkept (by omega)).trans hcause,
    (congrArg (Nat.testBit · p) (hkept (by omega))).trans hclosed, (Block.on_congr (hkept (by omega))).trans hdesat,
    (hk.andThen hrk (by decide)).andThen hrk' (by decide)⟩

/-! ### The gate supply (R248, R452) -/

/-- The fields that the powering of the channels writes. -/
def powerFields : List Field :=
  Reg.PWM_BRK_STAT_ARMED :: (stageFields ++ (List.range 56).map Reg.GATE_CH_STAT_POWERED)

/-- A field that is none of them. -/
theorem not_powerField {f : Field} (h : ∀ j, f.key ≠ 0x2005040 ∧ f.key ≠ 0x2005041 ∧ f.key ≠ 0x2084840
    ∧ f.key ≠ 0x200 * j + 0x2000120 ∧ f.key ≠ 0x100 * j + 0x2080042 ∧ f.key ≠ 0x100 * j + 0x2080040) :
    f.key ∉ powerFields.map Field.key := by
  have hchosen := stage_keys
  have h0 := h 0
  have hstage : f.key ∉ stageFields.map Field.key := by
    refine not_stageField (by omega) (by omega) (fun l _ => ?_) fun ch _ => ?_
    · have := h l
      have := leg_keys l
      omega
    · have := h ch
      have := gate_keys ch
      omega
  simp only [powerFields, List.map_cons, List.map_append, List.map_map, List.mem_cons, List.mem_append, List.mem_map,
    List.mem_range, Function.comp_apply, not_or, not_exists, not_and]
  refine ⟨by omega, fun g hg hk => hstage (List.mem_map.mpr ⟨g, hg, hk⟩), fun ch _ hk => ?_⟩
  have := h ch
  have := gate_keys ch
  omega

/-- What the power of a channel goes by, beside the channel's own field. -/
theorem Block.channelPower_congr {c : Block} {ch : Nat} (hr : RegsBut powerFields b c) (hboot : c.boot = b.boot)
    (hch : c.on (Reg.GATE_CH_STAT_POWERED ch) = b.on (Reg.GATE_CH_STAT_POWERED ch)) :
    c.channelPower ch = b.channelPower ch := by
  have hout {f : Field} (h : f.key < 0x2000000) : c.rd f = b.rd f :=
    hr f (not_powerField fun j => by omega)
  have hsrc (l : Nat) : c.rd (Reg.PWM_LEG_CFG_SRC l) = b.rd (Reg.PWM_LEG_CFG_SRC l) := by
    have := leg_keys l
    exact hr _ (not_powerField fun j => by omega)
  have huvlo : c.rd (Reg.GATE_CH_STAT_UVLO ch) = b.rd (Reg.GATE_CH_STAT_UVLO ch) := by
    have := gate_keys ch
    exact hr _ (not_powerField fun j => by omega)
  have hsupply {f : Field} (h : f.key ∈ [0x2084800, 0x2084801, 0x2084802, 0x200503F]) : c.rd f = b.rd f := by
    simp only [List.mem_cons, List.not_mem_nil, or_false] at h
    exact hr f (not_powerField fun j => by omega)
  simp only [Block.on] at hch
  simp only [Block.channelPower, Block.brakeArmed, Block.portLeg, Block.released, Block.bit, Block.on, hboot, hsrc, huvlo, hch,
    hsupply (f := Reg.GATE_STAT_SUPPLY_A) (by decide), hsupply (f := Reg.GATE_STAT_SUPPLY_B) (by decide),
    hsupply (f := Reg.GATE_STAT_GATE24_OK) (by decide), hsupply (f := Reg.PWM_BRK_OPT_RST_EN) (by decide),
    hout (f := Reg.RST_STAGE_RELEASED) (by decide), hout (f := Reg.CLK_EARLY_DOMAINS) (by decide),
    hout (f := Reg.SYS_PWR_STAT_STATE) (by decide)]

/-- The fields that a channel's power writes. -/
def channelFields (ch : Nat) : List Field :=
  [Reg.GATE_CH_STAT_POWERED ch, Reg.GATE_CH_STAT_GATE_OFF ch, Reg.GATE_SS_STAT_CLOSED]

/-- A channel is powered or not, as R248 has it now. -/
def Block.powerChannel (ch : Nat) (b : Block) : Block :=
  if b.channelPower ch = b.on (Reg.GATE_CH_STAT_POWERED ch) then b
  else
    let c := (b.flag (Reg.GATE_CH_STAT_POWERED ch) (b.channelPower ch)).flag (Reg.GATE_CH_STAT_GATE_OFF ch)
      (b.channelPower ch && !(ch == 41 && b.on Reg.PWM_BRK_STAT_ON))
    if !b.channelPower ch && decide (48 ≤ ch) then c.openSwitch (ch - 48) false else c

theorem Block.powerChannel_frame {ch : Nat} (hch : ch < 56) (b : Block) :
    (b.powerChannel ch).on (Reg.GATE_CH_STAT_POWERED ch) = b.channelPower ch
      ∧ RegsBut (channelFields ch) b (b.powerChannel ch) ∧ Keeps [.regs, .lv, .out] b (b.powerChannel ch) := by
  unfold Block.powerChannel
  split
  · next h => exact ⟨h.symm, RegsBut.refl _ b, Keeps.refl _ b⟩
  extract_lets c
  have hregs : RegsBut (channelFields ch) b c :=
    ((b.flag_regsBut _ _).trans_append (Block.flag_regsBut _ _ _)).mono (by simp [channelFields])
  have hk : Keeps [.regs] b c := (b.wr_keeps _ _).trans (Block.wr_keeps _ _ _)
  have hpow : c.on (Reg.GATE_CH_STAT_POWERED ch) = b.channelPower ch :=
    (Block.on_flag_ne _ _ _ _ (powered_ne_gateOff ch ch)).trans (Block.on_flag_same _ _ _ Nat.one_pos)
  split
  · next h =>
    have h48 : 48 ≤ ch := by
      simp only [Bool.and_eq_true, decide_eq_true_eq] at h
      exact h.2
    have hstage := stage_keys
    have hkeys := gate_keys ch
    have hsame : 48 + (ch - 48) = ch := by omega
    obtain ⟨-, -, -, hswitch, hkswitch⟩ := c.openSwitch_frame (p := ch - 48) (by omega) false
    refine ⟨(Block.on_congr (hswitch _ ?_)).trans hpow,
      hregs.trans (hswitch.mono (by simp [switchFields, channelFields, hsame])), (hk.mono (by decide)).trans hkswitch⟩
    simp only [switchFields, hsame, List.map_cons, List.map_nil, List.mem_cons, List.not_mem_nil, or_false, not_or]
    omega
  · exact ⟨hpow, hregs, hk.mono (by decide)⟩

/-- The fields that the power of all channels writes. -/
def loopFields : List Field := (List.range 56).flatMap channelFields

theorem loopFields_subset : loopFields ⊆ powerFields := by
  intro f hf
  obtain ⟨ch, hch, hf⟩ := List.mem_flatMap.mp hf
  have hch56 := List.mem_range.mp hch
  simp only [channelFields, List.mem_cons, List.not_mem_nil, or_false] at hf
  simp only [powerFields, List.mem_cons, List.mem_append]
  obtain rfl | rfl | rfl := hf
  · exact .inr (.inr (List.mem_map_of_mem hch))
  · exact .inr (.inl (gateOff_mem hch56))
  · exact .inr (.inl switchClosed_mem)

/-- Every channel goes by what it was as the powering began. -/
theorem Block.each_powerChannel (b : Block) {n : Nat} (hn : n ≤ 56) :
    (∀ ch < 56, (b.each n Block.powerChannel).on (Reg.GATE_CH_STAT_POWERED ch)
      = if ch < n then b.channelPower ch else b.on (Reg.GATE_CH_STAT_POWERED ch))
    ∧ RegsBut loopFields b (b.each n Block.powerChannel) ∧ Keeps [.regs, .lv, .out] b (b.each n Block.powerChannel) := by
  induction n with
  | zero => exact ⟨fun ch _ => rfl, RegsBut.refl _ b, Keeps.refl _ b⟩
  | succ n ih =>
    obtain ⟨hpow, hregs, hk⟩ := ih (by omega)
    have hsucc : b.each (n + 1) Block.powerChannel = (b.each n Block.powerChannel).powerChannel n := by
      simp only [Block.each, List.range_succ, List.foldl_append, List.foldl_cons, List.foldl_nil]
    rw [hsucc]
    generalize b.each n Block.powerChannel = c at *
    obtain ⟨hset, hregs', hk'⟩ := c.powerChannel_frame (ch := n) (by omega)
    have hmem : channelFields n ⊆ loopFields := fun f hf =>
      List.mem_flatMap.mpr ⟨n, List.mem_range.mpr (by omega), hf⟩
    refine ⟨fun ch hch => ?_, hregs.trans (hregs'.mono (List.map_subset _ hmem)), hk.trans hk'⟩
    by_cases hcn : ch = n
    · have hsame : c.channelPower ch = b.channelPower ch :=
        Block.channelPower_congr (hregs.mono (List.map_subset _ loopFields_subset)) (hk .boot (by decide))
          ((hpow ch hch).trans (if_neg (by omega)))
      rw [if_pos (by omega), ← hsame, hcn]
      exact hset
    · have hstage := stage_keys
      have hkeys := gate_keys ch
      have hkeys' := gate_keys n
      have hsame : (c.powerChannel n).on (Reg.GATE_CH_STAT_POWERED ch) = c.on (Reg.GATE_CH_STAT_POWERED ch) := by
        refine Block.on_congr (hregs' _ ?_)
        simp only [channelFields, List.map_cons, List.map_nil, List.mem_cons, List.not_mem_nil, or_false, not_or]
        omega
      rw [hsame, hpow ch hch]
      by_cases hlt : ch < n
      · rw [if_pos hlt, if_pos (by omega)]
      · rw [if_neg hlt, if_neg (by omega)]

theorem not_loopField {f : Field} (hpow : ∀ ch, f.key ≠ (Reg.GATE_CH_STAT_POWERED ch).key)
    (hgate : ∀ ch, f.key ≠ (Reg.GATE_CH_STAT_GATE_OFF ch).key) (hclosed : f.key ≠ Reg.GATE_SS_STAT_CLOSED.key) :
    f.key ∉ loopFields.map Field.key := by
  intro hm
  obtain ⟨g, hg, hk⟩ := List.mem_map.mp hm
  obtain ⟨ch, -, hg⟩ := List.mem_flatMap.mp hg
  simp only [channelFields, List.mem_cons, List.not_mem_nil, or_false] at hg
  obtain rfl | rfl | rfl := hg
  · exact hpow ch hk.symm
  · exact hgate ch hk.symm
  · exact hclosed hk.symm

/-- The chopper's path is armed, or its switch is off (R264, R452). -/
def Block.brakeSupplied (b : Block) : Block :=
  let armed := b.brakeArmed && b.on Reg.GATE_STAT_GATE24_OK
  let c := b.flag Reg.PWM_BRK_STAT_ARMED armed
  if armed then c else c.brakeStop (.brake false)

theorem Block.powerChannels_eq (b : Block) : b.powerChannels = b.brakeSupplied.each 56 Block.powerChannel := rfl

/-- The fields of the chopper. -/
def brakeFields : List Field :=
  [Reg.PWM_BRK_STAT_ARMED, Reg.PWM_BRK_STAT_ON, Reg.PWM_LEG_STAT_STATE 20, Reg.GATE_CH_STAT_GATE_OFF 41]

theorem brakeFields_subset : brakeFields ⊆ powerFields := by
  have hstage {f : Field} (h : f ∈ stageFields) : f ∈ powerFields := List.mem_cons_of_mem _ (List.mem_append_left _ h)
  simp only [brakeFields, List.cons_subset, List.nil_subset, and_true]
  exact ⟨List.mem_cons_self, hstage brakeOn_mem, hstage (legState_mem (by decide)), hstage (gateOff_mem (by decide))⟩

theorem Block.brakeStop_off (o : Output) (b : Block) : (b.brakeStop o).on Reg.PWM_BRK_STAT_ON = false := by
  have hstage := stage_keys
  have h20 := leg_keys 20
  have h41 := gate_keys 41
  unfold Block.brakeStop
  split
  · refine (Block.on_flag_ne _ _ _ _ (by omega)).trans ?_
    exact (Block.on_congr (Block.rd_wr_ne _ _ _ _ (by omega))).trans (Block.on_flag_same _ _ _ Nat.one_pos)
  · next h => exact Bool.not_eq_true _ ▸ h

theorem Block.brakeSupplied_frame (b : Block) :
    b.brakeSupplied.on Reg.PWM_BRK_STAT_ARMED = (b.brakeArmed && b.on Reg.GATE_STAT_GATE24_OK)
      ∧ ((b.brakeArmed && b.on Reg.GATE_STAT_GATE24_OK) = false → b.brakeSupplied.on Reg.PWM_BRK_STAT_ON = false)
      ∧ RegsBut brakeFields b b.brakeSupplied ∧ Keeps [.regs, .lv, .out] b b.brakeSupplied := by
  have hstage := stage_keys
  have h20 := leg_keys 20
  have h41 := gate_keys 41
  unfold Block.brakeSupplied
  extract_lets armed c
  have hc : c.on Reg.PWM_BRK_STAT_ARMED = armed := Block.on_flag_same _ _ _ Nat.one_pos
  have hregs : RegsBut brakeFields b c := (b.flag_regsBut _ _).mono (by simp [brakeFields])
  have hk : Keeps [.regs, .lv, .out] b c := (b.wr_keeps _ _).mono (by decide)
  split
  · next h => exact ⟨hc, fun hf => absurd (h.symm.trans hf) (by decide), hregs, hk⟩
  · obtain ⟨hstop, hkstop, -⟩ := c.brakeStop_frame (.brake false)
    refine ⟨(Block.on_congr (hstop _ ?_)).trans hc, fun _ => c.brakeStop_off _,
      hregs.trans (hstop.mono (by simp [brakeFields])), hk.trans hkstop⟩
    simp only [List.map_cons, List.map_nil, List.mem_cons, List.not_mem_nil, or_false, not_or]
    omega

/-- Without the gate supply a channel stays powered where it was so, and the brake path does not. -/
theorem Block.channelPower_unsupplied {ch : Nat} (h : b.on Reg.GATE_STAT_GATE24_OK = false) (hp : b.channelPower ch = true) :
    ch ≠ 40 ∧ ch ≠ 41 ∧ b.on (Reg.GATE_CH_STAT_POWERED ch) = true := by
  simp only [Block.channelPower, h, Bool.false_or, Bool.and_eq_true, bne_iff_ne] at hp
  exact ⟨hp.1.1.1.1, hp.1.1.1.2, hp.1.1.2⟩

/-- What the powering of the channels shows (R248, R264, R452). -/
theorem Block.powerChannels_frame (b : Block) :
    b.powerChannels.on Reg.PWM_BRK_STAT_ARMED = (b.brakeArmed && b.on Reg.GATE_STAT_GATE24_OK)
      ∧ ((b.brakeArmed && b.on Reg.GATE_STAT_GATE24_OK) = false → b.powerChannels.on Reg.PWM_BRK_STAT_ON = false)
      ∧ (∀ ch < 56, b.powerChannels.on (Reg.GATE_CH_STAT_POWERED ch) = b.channelPower ch)
      ∧ RegsBut powerFields b b.powerChannels ∧ Keeps [.regs, .lv, .out] b b.powerChannels := by
  have hstage := stage_keys
  obtain ⟨harmed, hoff, hregs, hk⟩ := b.brakeSupplied_frame
  obtain ⟨hpow, hloop, hkloop⟩ := b.brakeSupplied.each_powerChannel (n := 56) le_rfl
  have hall : RegsBut powerFields b b.brakeSupplied := hregs.mono (List.map_subset _ brakeFields_subset)
  rw [Block.powerChannels_eq]
  refine ⟨(Block.on_congr (hloop _ ?_)).trans harmed, fun h => (Block.on_congr (hloop _ ?_)).trans (hoff h), fun ch hch => ?_,
    hall.trans (hloop.mono (List.map_subset _ loopFields_subset)), hk.trans hkloop⟩
  · exact not_loopField (fun ch => by have := gate_keys ch; omega) (fun ch => by have := gate_keys ch; omega) (by omega)
  · exact not_loopField (fun ch => by have := gate_keys ch; omega) (fun ch => by have := gate_keys ch; omega) (by omega)
  · have hkeys := gate_keys ch
    have h20 := leg_keys 20
    have h41 := gate_keys 41
    rw [hpow ch hch, if_pos hch]
    refine Block.channelPower_congr hall (hk .boot (by decide)) (Block.on_congr (hregs _ ?_))
    simp only [brakeFields, List.map_cons, List.map_nil, List.mem_cons, List.not_mem_nil, or_false, not_or]
    omega

/-- What a change of the gate supply shows. -/
theorem Block.gate24Change_frame (ok : Bool) (b : Block) :
    let t := b.gate24Change ok
    t.on Reg.GATE_STAT_GATE24_OK = ok ∧ t.on Reg.PWM_BRK_STAT_ARMED = (ok && b.brakeArmed)
      ∧ ((ok && b.brakeArmed) = false → t.on Reg.PWM_BRK_STAT_ON = false)
      ∧ (∀ ch : Fin 56, t.on (Reg.GATE_CH_STAT_POWERED ch) = (b.flag Reg.GATE_STAT_GATE24_OK ok).channelPower ch)
      ∧ (ok = false → t.on (Reg.GATE_CH_STAT_POWERED 40) = false ∧ t.on (Reg.GATE_CH_STAT_POWERED 41) = false
        ∧ ∀ ch : Fin 56, b.on (Reg.GATE_CH_STAT_POWERED ch) = false → t.on (Reg.GATE_CH_STAT_POWERED ch) = false)
      ∧ Keeps [.regs, .tb, .lv, .out] b t := by
  obtain ⟨harmed, hoff, hpow, hregs, hk⟩ := (b.flag Reg.GATE_STAT_GATE24_OK ok).powerChannels_frame
  have hok : (b.flag Reg.GATE_STAT_GATE24_OK ok).on Reg.GATE_STAT_GATE24_OK = ok := Block.on_flag_same _ _ _ Nat.one_pos
  have hbrake : (b.flag Reg.GATE_STAT_GATE24_OK ok).brakeArmed = b.brakeArmed := by
    have hsrc : (b.flag Reg.GATE_STAT_GATE24_OK ok).rd (Reg.PWM_LEG_CFG_SRC 20) = b.rd (Reg.PWM_LEG_CFG_SRC 20) :=
      Block.rd_flag_ne _ _ _ _ (by decide)
    have hopt : (b.flag Reg.GATE_STAT_GATE24_OK ok).on Reg.PWM_BRK_OPT_RST_EN = b.on Reg.PWM_BRK_OPT_RST_EN :=
      Block.on_flag_ne _ _ _ _ (by decide)
    rw [Block.brakeArmed, hsrc, hopt]
    rfl
  have hgate : Reg.GATE_STAT_GATE24_OK.key ∉ powerFields.map Field.key := by
    have hstage := stage_keys
    exact not_powerField fun j => by omega
  have hnone (h : ok = false) (ch : Nat) (hch : ch < 56)
      (hp : ch = 40 ∨ ch = 41 ∨ b.on (Reg.GATE_CH_STAT_POWERED ch) = false) :
      (b.gate24Change ok).on (Reg.GATE_CH_STAT_POWERED ch) = false := by
    refine (hpow ch hch).trans (Bool.eq_false_iff.mpr fun ht => ?_)
    obtain ⟨h40, h41, hwas⟩ := Block.channelPower_unsupplied (hok.trans h) ht
    have hkeys := gate_keys ch
    have hstage := stage_keys
    have hsame := Block.on_flag_ne Reg.GATE_STAT_GATE24_OK (Reg.GATE_CH_STAT_POWERED ch) ok b (by omega)
    rcases hp with h | h | h
    · exact h40 h
    · exact h41 h
    · exact absurd (h.symm.trans (hsame.symm.trans hwas)) (by decide)
  rw [hbrake, hok, Bool.and_comm] at harmed hoff
  exact ⟨(Block.on_congr (hregs _ hgate)).trans hok, harmed, hoff, fun ch => hpow ch ch.isLt,
    fun h => ⟨hnone h 40 (by decide) (.inl rfl), hnone h 41 (by decide) (.inr (.inl rfl)),
      fun ch hch => hnone h ch ch.isLt (.inr (.inr hch))⟩,
    ((b.wr_keeps _ _).mono (by decide)).andThen hk (by decide)⟩

end

/-! ### The statement -/

/-- Settles O31: what is raised leaves the stage as it is (`Block.raiseOwn_stands`), and each channel's power goes by what
    stood as the gate supply changed (`Block.each_powerChannel`). -/
theorem switchesAndGateSupply : Obligations.SwitchesAndGateSupply := by
  unfold Obligations.SwitchesAndGateSupply
  intro s p ok
  have hp := p.isLt
  refine ⟨fun ho hlog => ?_, fun hc ho hpow => ?_, fun ho => ?_, fun hen => ?_, fun hen hst hlog => ?_,
    fun hen hst h161 h193 => ?_, ?_⟩
  case refine_1 =>
    refine does_onBlk rfl ?_
    rw [Block.gateStuck_eq ho]
    obtain ⟨hlogs, hbit, hopen, hk⟩ := Block.stuck_raised hp hlog
    have htb := hk .tb (by decide)
    exact ⟨hlogs, hbit, hopen, (Block.le_untilUp _ _).trans_eq (congrArg TimeBase.up htb.symm),
      ((s.blk.untilUp_frame _).2.mono (by decide)).andThen hk (by decide)⟩
  case refine_2 =>
    exact does_onBlk rfl (Block.gateOffConfirmed_opens hp hc ho hpow)
  case refine_3 =>
    refine does_onBlk rfl ?_
    rw [Block.gateOffConfirmed_reads ho]
    exact ⟨fun i => Block.gatesRead_on (mem_portGates p i) _, Block.gatesRead_keeps _ _⟩
  case refine_4 =>
    exact does_nothing rfl (if_pos (by simp [hen]))
  case refine_5 =>
    have hsource : 161 < 256 ∧ 161 ≠ 101 := by decide
    refine does_onBlk rfl ?_
    rw [Block.staticShort_eq hen, if_pos (beq_iff_eq.mpr hst)]
    exact (s.blk.shortLatched_onStage hp).raise_logs hsource.1 hsource.2 hlog
  case refine_6 =>
    refine does_onBlk rfl ?_
    rw [Block.staticShort_eq hen, if_neg (by simpa using hst)]
    exact Block.staticShort_latches hp h161 h193
  case refine_7 =>
    refine does_onBlk rfl ?_
    exact Block.gate24Change_frame ok s.blk

end Sys2Proof.Machine
end

section
/-! PROOFS. The shoot-through interlock and a leg's force (R251, R252). -/

namespace Sys2Proof.Machine

section
variable {b : Block} {l : Nat}

/-! ### The chopper of a forced L20 (R252, R264) -/

theorem Block.forceBrake_frame (l : Nat) (b : Block) :
    RegsBut [Reg.PWM_BRK_STAT_ON, Reg.PWM_BRK_CNT_COUNT] b (b.forceBrake l) ∧ Keeps [.regs, .lv] b (b.forceBrake l)
      ∧ (b.forceBrake l).lv.legs = b.lv.legs := by
  unfold Block.forceBrake
  extract_lets on c
  have hc : RegsBut [Reg.PWM_BRK_STAT_ON, Reg.PWM_BRK_CNT_COUNT] b c := (b.flag_regsBut Reg.PWM_BRK_STAT_ON on).mono (by simp)
  have hk : Keeps [.regs, .lv] b c := ((b.wr_keeps _ _).mono (by decide)).andThen (Block.updLv_keeps _ _) (by decide)
  split
  · exact ⟨RegsBut.refl _ b, Keeps.refl _ b, rfl⟩
  split
  · exact ⟨hc.trans ((c.wr_regsBut Reg.PWM_BRK_CNT_COUNT _).mono (by simp)), hk.andThen (Block.wr_keeps _ _ _) (by decide),
      rfl⟩
  · exact ⟨hc, hk, rfl⟩

/-- Where the lower switch of L20 is not forced on, the chopper is off. -/
theorem Block.forceBrake_off (h : b.rd (Reg.PWM_LEG_STAT_STATE l) ≠ 1) :
    (b.forceBrake l).on Reg.PWM_BRK_STAT_ON = (decide (l ≠ 20) && b.on Reg.PWM_BRK_STAT_ON)
      ∧ RegsBut [Reg.PWM_BRK_STAT_ON] b (b.forceBrake l) := by
  unfold Block.forceBrake
  by_cases hl : l = 20
  · subst hl
    have hoff : (b.rd (Reg.PWM_LEG_STAT_STATE 20) == 1) = false := beq_eq_false_iff_ne.mpr h
    simp only [hoff, Bool.and_false, ne_eq, not_true_eq_false, false_or, decide_false, Bool.false_and, Bool.false_eq_true,
      if_false]
    split
    · next hon => exact ⟨hon.symm, RegsBut.refl _ b⟩
    · exact ⟨Block.on_flag_same Reg.PWM_BRK_STAT_ON false b Nat.one_pos, b.flag_regsBut Reg.PWM_BRK_STAT_ON false⟩
  · rw [if_pos (.inl hl), decide_eq_true hl]
    exact ⟨rfl, RegsBut.refl _ b⟩

/-- Where the lower switch of L20 is forced on, the chopper is on. -/
theorem Block.forceBrake_on (hen : b.on (Reg.PWM_LEG_FORCE_EN 20) = true) (h : b.rd (Reg.PWM_LEG_STAT_STATE 20) = 1) :
    (b.forceBrake 20).on Reg.PWM_BRK_STAT_ON = true := by
  have hon : (b.on (Reg.PWM_LEG_FORCE_EN 20) && b.rd (Reg.PWM_LEG_STAT_STATE 20) == 1) = true := by simp [hen, h]
  unfold Block.forceBrake
  simp only [hon, ne_eq, not_true_eq_false, false_or, if_true]
  split
  · next hwas => exact hwas.symm
  · exact (Block.on_congr (Block.rd_count_ne _ _ _ _ (by decide))).trans
      (Block.on_flag_same Reg.PWM_BRK_STAT_ON true b Nat.one_pos)

/-! ### The interlock (R251) -/

/-- The record of a leg that the interlock holds off, from uptime `up` or before. -/
def Leg.locked (up : Nat) (x : Leg) : Leg :=
  { x with shot := true, dead := none, restAt := none, lockSince := some (x.lockSince.getD up) }

/-- Both gates of a leg are off, where they are powered. -/
def Block.gatesOut (l : Nat) (b : Block) : Block :=
  (b.flag (Reg.GATE_CH_STAT_GATE_OFF (2 * l)) (b.on (Reg.GATE_CH_STAT_POWERED (2 * l)))).flag
    (Reg.GATE_CH_STAT_GATE_OFF (2 * l + 1)) (b.on (Reg.GATE_CH_STAT_POWERED (2 * l + 1)))

/-- Both outputs of a leg are held off, and the interlock counts. -/
def Block.bothOff (l : Nat) (b : Block) : Block :=
  let c := ((b.wr (Reg.PWM_LEG_STAT_STATE l) 3).count (Reg.PWM_LEG_ICNT_SHOOT l) 1).gatesOut l
  if b.rd (Reg.PWM_LEG_STAT_STATE l) = 1 ∨ b.rd (Reg.PWM_LEG_STAT_STATE l) = 2 then c.emit (.legOff l false) else c

/-- The interlock acts, before it is raised. -/
def Block.interlocked (l : Nat) (b : Block) : Block :=
  ((b.bothOff l).forceBrake l).updLeg l (Leg.locked (b.bothOff l).tb.up)

theorem Block.interlockAct_eq (l : Nat) (b : Block) : b.interlockAct l =
    if (b.leg l).shot then b.interlocked l else (b.interlocked l).raise { source := 164, unitType := 3, idx := l } := rfl

theorem Block.gatesOut_frame (l : Nat) (b : Block) :
    (b.gatesOut l).on (Reg.GATE_CH_STAT_GATE_OFF (2 * l)) = b.on (Reg.GATE_CH_STAT_POWERED (2 * l))
    ∧ (b.gatesOut l).on (Reg.GATE_CH_STAT_GATE_OFF (2 * l + 1)) = b.on (Reg.GATE_CH_STAT_POWERED (2 * l + 1))
    ∧ RegsBut [Reg.GATE_CH_STAT_GATE_OFF (2 * l), Reg.GATE_CH_STAT_GATE_OFF (2 * l + 1)] b (b.gatesOut l)
    ∧ Keeps [.regs] b (b.gatesOut l) := by
  have hup := gate_keys (2 * l)
  have hlow := gate_keys (2 * l + 1)
  exact ⟨(Block.on_flag_ne _ _ _ _ (by omega)).trans (Block.on_flag_same _ _ _ Nat.one_pos),
    Block.on_flag_same _ _ _ Nat.one_pos, (b.flag_regsBut _ _).trans_append (Block.flag_regsBut _ _ _),
    (b.wr_keeps _ _).trans (Block.wr_keeps _ _ _)⟩

theorem Block.bothOff_frame (l : Nat) (b : Block) : (b.bothOff l).rd (Reg.PWM_LEG_STAT_STATE l) = 3
    ∧ (b.bothOff l).rd (Reg.PWM_LEG_ICNT_SHOOT l) = satNat 16 (b.rd (Reg.PWM_LEG_ICNT_SHOOT l) + 1)
    ∧ (b.bothOff l).on (Reg.GATE_CH_STAT_GATE_OFF (2 * l)) = b.on (Reg.GATE_CH_STAT_POWERED (2 * l))
    ∧ (b.bothOff l).on (Reg.GATE_CH_STAT_GATE_OFF (2 * l + 1)) = b.on (Reg.GATE_CH_STAT_POWERED (2 * l + 1))
    ∧ (b.bothOff l).out = (if b.rd (Reg.PWM_LEG_STAT_STATE l) = 1 ∨ b.rd (Reg.PWM_LEG_STAT_STATE l) = 2
        then [.legOff l false] else []) ++ b.out
    ∧ RegsBut (Reg.PWM_LEG_ICNT_SHOOT l :: legGates l) b (b.bothOff l) ∧ Keeps [.regs, .out] b (b.bothOff l) := by
  have hkeys := leg_keys l
  have hup := gate_keys (2 * l)
  have hlow := gate_keys (2 * l + 1)
  generalize hcnt : (b.wr (Reg.PWM_LEG_STAT_STATE l) 3).count (Reg.PWM_LEG_ICNT_SHOOT l) 1 = c
  have hcregs : RegsBut [Reg.PWM_LEG_STAT_STATE l, Reg.PWM_LEG_ICNT_SHOOT l] b c :=
    hcnt ▸ (b.wr_regsBut _ 3).trans_append (Block.wr_regsBut _ _ _)
  have hck : Keeps [.regs] b c := hcnt ▸ (b.wr_keeps _ _).trans (Block.wr_keeps _ _ _)
  have hcst : c.rd (Reg.PWM_LEG_STAT_STATE l) = 3 := by
    rw [← hcnt, Block.rd_count_ne _ _ _ _ (by omega), Block.rd_wr_same]
    rfl
  have hcshot : c.rd (Reg.PWM_LEG_ICNT_SHOOT l) = satNat 16 (b.rd (Reg.PWM_LEG_ICNT_SHOOT l) + 1) := by
    rw [← hcnt, Block.rd_count_sat, Block.rd_wr_ne _ _ _ _ (by omega)]
    rfl
  have hpow (i : Nat) : c.on (Reg.GATE_CH_STAT_POWERED i) = b.on (Reg.GATE_CH_STAT_POWERED i) := by
    have hi := gate_keys i
    refine Block.on_congr (hcregs _ ?_)
    simp only [List.map_cons, List.map_nil, List.mem_cons, List.not_mem_nil, or_false, not_or]
    omega
  obtain ⟨hgup, hglow, hgregs, hgk⟩ := c.gatesOut_frame l
  have hkept {f : Field} (h : f.key = 0x200 * l + 0x2000120 ∨ f.key = 0x200 * l + 0x20001A0) :
      (c.gatesOut l).rd f = c.rd f := by
    refine hgregs _ ?_
    simp only [List.map_cons, List.map_nil, List.mem_cons, List.not_mem_nil, or_false, not_or]
    omega
  have hregs : RegsBut (Reg.PWM_LEG_ICNT_SHOOT l :: legGates l) b (c.gatesOut l) :=
    (hcregs.mono (by simp [legGates])).trans (hgregs.mono (by simp [legGates]))
  have hout : (c.gatesOut l).out = b.out := (hck.trans hgk) .out (by decide)
  rw [Block.bothOff, hcnt]
  generalize c.gatesOut l = d at *
  split
  · exact ⟨(hkept (by omega)).trans hcst, (hkept (by omega)).trans hcshot, hgup.trans (hpow _), hglow.trans (hpow _),
      congrArg (Output.legOff l false :: ·) hout, hregs,
      ((hck.trans hgk).mono (by decide)).andThen (Block.emit_keeps _ _) (by decide)⟩
  · exact ⟨(hkept (by omega)).trans hcst, (hkept (by omega)).trans hcshot, hgup.trans (hpow _), hglow.trans (hpow _),
      hout, hregs, (hck.trans hgk).mono (by decide)⟩

/-- What the interlock shows and leaves alone, before it is raised. -/
theorem Block.interlocked_frame (l : Nat) (b : Block) : (b.interlocked l).rd (Reg.PWM_LEG_STAT_STATE l) = 3
    ∧ (b.interlocked l).rd (Reg.PWM_LEG_ICNT_SHOOT l) = satNat 16 (b.rd (Reg.PWM_LEG_ICNT_SHOOT l) + 1)
    ∧ (b.interlocked l).leg l = (b.leg l).locked b.tb.up
    ∧ (b.interlocked l).on (Reg.GATE_CH_STAT_GATE_OFF (2 * l)) = b.on (Reg.GATE_CH_STAT_POWERED (2 * l))
    ∧ (b.interlocked l).on (Reg.GATE_CH_STAT_GATE_OFF (2 * l + 1)) = b.on (Reg.GATE_CH_STAT_POWERED (2 * l + 1))
    ∧ (b.interlocked l).on Reg.PWM_BRK_STAT_ON = (decide (l ≠ 20) && b.on Reg.PWM_BRK_STAT_ON)
    ∧ (b.interlocked l).out = (if b.rd (Reg.PWM_LEG_STAT_STATE l) = 1 ∨ b.rd (Reg.PWM_LEG_STAT_STATE l) = 2
        then [.legOff l false] else []) ++ b.out
    ∧ RegsBut (Reg.PWM_LEG_ICNT_SHOOT l :: Reg.PWM_BRK_STAT_ON :: legGates l) b (b.interlocked l)
    ∧ Keeps [.regs, .lv, .out] b (b.interlocked l) := by
  have hstage := stage_keys
  have hkeys := leg_keys l
  have hup := gate_keys (2 * l)
  have hlow := gate_keys (2 * l + 1)
  obtain ⟨hst, hshot, hgup, hglow, hout, hregs, hk⟩ := b.bothOff_frame l
  unfold Block.interlocked
  generalize b.bothOff l = c at *
  obtain ⟨hbrake, hbregs⟩ := Block.forceBrake_off (b := c) (l := l) (by omega)
  obtain ⟨-, hbk, hblegs⟩ := c.forceBrake_frame l
  have hlegs : (c.forceBrake l).leg l = b.leg l :=
    congrArg (SMap.look default · l) (hblegs.trans (congrArg LvSt.legs (hk .lv (by decide))))
  have htb : c.tb = b.tb := hk .tb (by decide)
  have hkept {f : Field} (h : f.key ≠ 0x2005040) : ((c.forceBrake l).updLeg l (Leg.locked c.tb.up)).rd f = c.rd f := by
    refine (Block.updLeg_rd _ _ _ _).trans (hbregs _ ?_)
    simp only [List.map_cons, List.map_nil, List.mem_cons, List.not_mem_nil, or_false]
    omega
  have hwas : c.on Reg.PWM_BRK_STAT_ON = b.on Reg.PWM_BRK_STAT_ON := by
    refine Block.on_congr (hregs _ ?_)
    simp only [legGates, List.map_cons, List.map_nil, List.mem_cons, List.not_mem_nil, or_false, not_or]
    omega
  refine ⟨(hkept (by omega)).trans hst, (hkept (by omega)).trans hshot, ?_, (Block.on_congr (hkept (by omega))).trans hgup,
    (Block.on_congr (hkept (by omega))).trans hglow, hwas ▸ hbrake, ?_, ?_, ?_⟩
  · rw [Block.leg_updLeg_same, hlegs, htb]
  · exact (hbk .out (by decide) : (c.forceBrake l).out = c.out).trans hout
  · exact (hregs.mono (by simp)).trans (hbregs.mono (by simp))
  · exact ((hk.mono (by decide)).andThen hbk (by decide)).andThen (Block.updLeg_keeps _ _ _) (by decide)

theorem Block.interlocked_onStage (hl : l < 24) (b : Block) : OnStage b (b.interlocked l) := by
  have hstage := stage_keys
  have hkeys := leg_keys l
  have hup := gate_keys (2 * l)
  have hlow := gate_keys (2 * l + 1)
  obtain ⟨-, -, -, -, -, -, -, hregs, hk⟩ := b.interlocked_frame l
  refine .of_frame hregs hk ?_ (by decide)
  simp only [legGates, List.forall_mem_cons, Field.ofStage, List.not_mem_nil, false_imp_iff, implies_true, and_true]
  omega

/-! ### The fence of a leg (R251, R259) -/

theorem Block.portToWait_frame {p : Nat} (hp : p < 8) (soft : Bool) (b : Block) :
    RegsBut (stageFields ++ portFields p) b (b.portToWait p soft) ∧ Keeps [.regs, .evt, .lv, .out] b (b.portToWait p soft) := by
  unfold Block.portToWait
  extract_lets st c d
  obtain ⟨hcregs, hck⟩ : RegsBut stageFields b c ∧ Keeps [.regs, .lv, .out] b c :=
    Block.frame_of_besideStage (b.stopPort_besideStage hp soft)
  have hstop : RegsBut (stageFields ++ portFields p) b c := hcregs.mono (by simp)
  clear_value c
  obtain ⟨hdregs, hdk⟩ : RegsBut (stageFields ++ portFields p) b d ∧ Keeps [.regs, .evt, .lv, .out] b d := by
    unfold d
    split
    · have hcause : RegsBut (stageFields ++ portFields p) c (c.wr (Reg.PORT_STAT_CAUSE p) 0) :=
        (c.wr_regsBut _ 0).mono (by simp [portFields])
      exact ⟨hstop.trans hcause, ((hck.mono (by decide)).andThen (Block.wr_keeps _ _ _) (by decide)).andThen
        (Block.updRecov_keeps _ _ _) (by decide)⟩
    · exact ⟨hstop, hck.mono (by decide)⟩
  clear_value d
  obtain ⟨-, hportregs, hportk⟩ := d.portState_frame p 1
  split
  · exact ⟨RegsBut.refl _ b, Keeps.refl _ b⟩
  split
  · exact ⟨hdregs, hdk⟩
  · exact ⟨hdregs.trans (hportregs.mono (by simp)), hdk.andThen hportk (by decide)⟩

/-- A leg is held, and marked as fenced where it was not. -/
def Block.markFenced (l cause : Nat) (soft : Bool) (b : Block) : Block :=
  if (b.holdLeg l soft).on (Reg.PWM_LEG_STAT_FENCED l) then b.holdLeg l soft
  else ((b.holdLeg l soft).flag (Reg.PWM_LEG_STAT_FENCED l) true).wr (Reg.PWM_LEG_STAT_CAUSE l) cause

/-- The two fields that say of a leg that it is fenced. -/
def fenceMarks (l : Nat) : List Field := [Reg.PWM_LEG_STAT_FENCED l, Reg.PWM_LEG_STAT_CAUSE l]

theorem Block.markFenced_frame (l cause : Nat) (soft : Bool) (b : Block) :
    RegsBut (heldFields l ++ fenceMarks l) b (b.markFenced l cause soft)
      ∧ Keeps [.regs, .lv, .out] b (b.markFenced l cause soft) := by
  obtain ⟨hregs, hk, -⟩ := b.holdLeg_frame l soft
  unfold Block.markFenced
  split
  · exact ⟨hregs.mono (by simp), hk⟩
  · exact ⟨hregs.trans_append ((Block.flag_regsBut _ _ _).trans_append (Block.wr_regsBut _ _ _)),
      (hk.andThen (Block.wr_keeps _ _ _) (by decide)).andThen (Block.wr_keeps _ _ _) (by decide)⟩

theorem fenceMarks_keys {f : Field} (h : f ∈ fenceMarks l) :
    f.key = 0x200 * l + 0x2000122 ∨ f.key = 0x200 * l + 0x2000128 := by
  have hl := leg_keys l
  simp only [fenceMarks, List.mem_cons, List.not_mem_nil, or_false] at h
  obtain rfl | rfl := h <;> omega

/-- The holding of a leg, and the marking of another, leave the marks of a leg. -/
theorem fenceMarks_other {m : Nat} (h : m ≠ l) {f : Field} (hf : f ∈ fenceMarks l) :
    f.key ∉ (heldFields m ++ fenceMarks m).map Field.key := by
  have hstage := stage_keys
  have hm := leg_keys m
  have h20 := leg_keys 20
  have hup := gate_keys (2 * m)
  have hlow := gate_keys (2 * m + 1)
  have h41 := gate_keys 41
  have hkey := fenceMarks_keys hf
  simp only [fenceMarks, heldFields, legGates, List.map_append, List.map_cons, List.map_nil, List.mem_append, List.mem_cons,
    List.not_mem_nil, or_false, not_or]
  omega

theorem fenceMarks_held (m : Nat) {f : Field} (hf : f ∈ fenceMarks l) : f.key ∉ (heldFields m).map Field.key := by
  have hstage := stage_keys
  have hm := leg_keys m
  have h20 := leg_keys 20
  have hup := gate_keys (2 * m)
  have hlow := gate_keys (2 * m + 1)
  have h41 := gate_keys 41
  have hkey := fenceMarks_keys hf
  simp only [heldFields, legGates, List.map_append, List.map_cons, List.map_nil, List.mem_append, List.mem_cons,
    List.not_mem_nil, or_false, not_or]
  omega

/-- So does a port that stops. -/
theorem fenceMarks_port (p : Nat) {f : Field} (hf : f ∈ fenceMarks l) :
    f.key ∉ (stageFields ++ portFields p).map Field.key := by
  have hstage := stage_keys
  have hp := port_keys p
  have hkey := fenceMarks_keys hf
  rw [List.map_append, List.mem_append, not_or]
  refine ⟨not_stageField (by omega) (by omega) (fun m _ => ?_) (fun ch _ => ?_), ?_⟩
  · have := leg_keys m
    omega
  · have := gate_keys ch
    omega
  · simp only [portFields, List.map_cons, List.map_nil, List.mem_cons, List.not_mem_nil, or_false, not_or]
    omega

/-- A leg that is fenced for the first time shows the cause (R259, R268). -/
theorem Block.fenceLeg_marks (hl : l < 24) (cause : Nat) (soft : Bool) (h : b.on (Reg.PWM_LEG_STAT_FENCED l) = false) :
    (b.fenceLeg l cause soft).on (Reg.PWM_LEG_STAT_FENCED l) = true
      ∧ (b.fenceLeg l cause soft).rd (Reg.PWM_LEG_STAT_CAUSE l) = cause % 2 ^ 4
      ∧ Keeps [.regs, .evt, .lv, .out] b (b.fenceLeg l cause soft) := by
  have hkeys := leg_keys l
  have hfm : Reg.PWM_LEG_STAT_FENCED l ∈ fenceMarks l := List.mem_cons_self
  have hcm : Reg.PWM_LEG_STAT_CAUSE l ∈ fenceMarks l := List.mem_cons_of_mem _ List.mem_cons_self
  have hafter {c d : Block} (hd : d.on (Reg.PWM_LEG_STAT_FENCED l) = true ∧ d.rd (Reg.PWM_LEG_STAT_CAUSE l) = cause % 2 ^ 4)
      (hr : ∀ f ∈ fenceMarks l, c.rd f = d.rd f) :
      c.on (Reg.PWM_LEG_STAT_FENCED l) = true ∧ c.rd (Reg.PWM_LEG_STAT_CAUSE l) = cause % 2 ^ 4 :=
    ⟨(Block.on_congr (hr _ hfm)).trans hd.1, (hr _ hcm).trans hd.2⟩
  unfold Block.fenceLeg
  extract_lets c d e
  obtain ⟨hd, hdk⟩ : (d.on (Reg.PWM_LEG_STAT_FENCED l) = true ∧ d.rd (Reg.PWM_LEG_STAT_CAUSE l) = cause % 2 ^ 4)
      ∧ Keeps [.regs, .lv, .out] b d := by
    obtain ⟨hcregs, hck, -⟩ : RegsBut (heldFields l) b c ∧ Keeps [.regs, .lv, .out] b c ∧ _ := b.holdLeg_frame l soft
    have hc : c.on (Reg.PWM_LEG_STAT_FENCED l) = false := (Block.on_congr (hcregs _ (fenceMarks_held l hfm))).trans h
    have hmark : d = (c.flag (Reg.PWM_LEG_STAT_FENCED l) true).wr (Reg.PWM_LEG_STAT_CAUSE l) cause := if_neg (by simp [hc])
    rw [hmark]
    exact ⟨⟨(Block.on_congr (Block.rd_wr_ne _ _ _ _ (by omega))).trans (Block.on_flag_same _ _ _ Nat.one_pos),
      Block.rd_wr_same _ _ _⟩, (hck.andThen (Block.wr_keeps _ _ _) (by decide)).andThen (Block.wr_keeps _ _ _) (by decide)⟩
  clear_value d
  obtain ⟨he, hek⟩ : (∀ f, e.rd f = d.rd f) ∧ Keeps [.regs, .lv, .out] b e := by
    unfold e
    split
    · exact ⟨fun _ => rfl, hdk.andThen (Block.updDiag_keeps _ _ _) (by decide)⟩
    · exact ⟨fun _ => rfl, hdk⟩
  clear_value e
  have hmarks := hafter hd fun f _ => he f
  split
  · obtain ⟨hport, hportk⟩ := e.portToWait_frame (p := l / 2) (by omega) soft
    obtain ⟨hfenced, hcause⟩ := hafter hmarks fun f hf => hport f (fenceMarks_port _ hf)
    exact ⟨hfenced, hcause, (hek.mono (by decide)).trans hportk⟩
  split
  · have hothers : ∀ xs : List Nat, (∀ m ∈ xs, m ≠ l) → ∀ x : Block, ∀ f ∈ fenceMarks l,
        (x.eachOf xs (Block.markFenced · 7 soft)).rd f = x.rd f := by
      intro xs hxs x f hf
      exact Block.eachOf_rd (fun m hm y => (y.markFenced_frame m 7 soft).1 f (fenceMarks_other (hxs m hm) hf)) x
    have hne : ∀ m ∈ [16, 17, 18, 19].filter (· ≠ l), m ≠ l := fun m hm => of_decide_eq_true (List.mem_filter.mp hm).2
    obtain ⟨hfenced, hcause⟩ := hafter hmarks (hothers _ hne e)
    exact ⟨hfenced, hcause,
      (hek.trans (Block.eachOf_keeps _ _ (fun m _ x => (x.markFenced_frame m 7 soft).2) e)).mono (by decide)⟩
  · exact ⟨hmarks.1, hmarks.2, hek.mono (by decide)⟩

/-- An interlock that acts on for three periods of the leg fences it with cause 4 (R251). -/
theorem Block.interlockPersist_fences {since : Nat} (hl : l < 24) (hs : (b.leg l).lockSince = some since)
    (hr : (b.recov (256 + l)).fenced = false) (hf : b.on (Reg.PWM_LEG_STAT_FENCED l) = false) :
    let due := since + 3 * (b.legInForce l).period * 78125 / 1000
    let t := b.interlockPersist l
    (t.recov (256 + l)).fenced = true ∧ t.on (Reg.PWM_LEG_STAT_FENCED l) = true ∧ t.rd (Reg.PWM_LEG_STAT_CAUSE l) = 4
      ∧ t.tb = (b.untilUp due).tb ∧ due ≤ t.tb.up ∧ Keeps [.regs, .tb, .evt, .lv, .out] b t := by
  intro due t
  obtain ⟨hregs, hk⟩ := b.untilUp_frame due
  have hdue := Block.le_untilUp due b
  have ht : t = (b.untilUp due).fenceQuiet 3 l 4 := by
    show b.interlockPersist l = _
    rw [Block.interlockPersist, hs]
  have hrec : ((b.untilUp due).recov (256 + l)).fenced = false :=
    (congrArg (fun v : EvtSt => (SMap.look default v.recov (256 + l)).fenced) (hk .evt (by decide))).trans hr
  have hunf : (b.untilUp due).on (Reg.PWM_LEG_STAT_FENCED l) = false := by
    refine (Block.on_congr (hregs _ ?_)).trans hf
    have hkeys := leg_keys l
    simp only [adjFields, List.map_cons, List.map_nil, List.mem_cons, List.not_mem_nil, or_false, not_or, hkeys]
    simp only [Field.key, Reg.TIME_ADJ_CNT_CNT, Reg.TIME_STAT_ADJ_BUSY]
    omega
  generalize b.untilUp due = c at *
  have hfence : t = (c.onFence (256 + l) true).fenceLeg l 4 false := by
    rw [ht]
    exact if_neg (by simp [hrec])
  have hon : c.onFence (256 + l) true = c.updRecov (256 + l) _ := if_neg (by omega)
  obtain ⟨hfenced, hcause, hkf⟩ := Block.fenceLeg_marks (b := c.onFence (256 + l) true) hl 4 false (hon ▸ hunf)
  have hkall : Keeps [.regs, .evt, .lv, .out] c t :=
    hfence ▸ ((c.onFence_keeps _ _).mono (by decide)).trans hkf
  have htb : t.tb = c.tb := hkall .tb (by decide)
  refine ⟨?_, hfence ▸ hfenced, hfence ▸ hcause, htb, htb ▸ hdue, (hk.mono (by decide)).andThen hkall (by decide)⟩
  rw [hfence, Block.fenceLeg_recov (by omega), hon, Block.recov_updRecov_same]

/-! ### What a force does (R252) -/

/-- The fields that a force on a leg, or its end, may write beside its own register. -/
def forcedFields (l : Nat) : List Field :=
  heldFields l ++ [Reg.PWM_LEG_ICNT_SHOOT l, Reg.PWM_LEG_STAT_ANCHORED l, Reg.PWM_BRK_CNT_COUNT]

/-- A change that a force on leg `l`, or its end, may come to. -/
def ForceStep (l : Nat) (b c : Block) : Prop :=
  RegsBut (forcedFields l) b c ∧ Keeps [.regs, .lv, .out] b c ∧ (c.leg l).forced = (b.leg l).forced

theorem ForceStep.refl (l : Nat) (b : Block) : ForceStep l b b := ⟨RegsBut.refl _ b, Keeps.refl _ b, rfl⟩

theorem ForceStep.trans {b c d : Block} (h : ForceStep l b c) (h' : ForceStep l c d) : ForceStep l b d :=
  ⟨h.1.trans h'.1, h.2.1.trans h'.2.1, h'.2.2.trans h.2.2⟩

theorem Block.holdLeg_forceStep (soft : Bool) (b : Block) : ForceStep l b (b.holdLeg l soft) := by
  obtain ⟨hregs, hk, hleg⟩ := b.holdLeg_frame l soft
  exact ⟨hregs.mono (by simp [forcedFields]), hk, (congrArg Leg.forced hleg :)⟩

theorem Block.forceBrake_forceStep (b : Block) : ForceStep l b (b.forceBrake l) := by
  obtain ⟨hregs, hk, hlegs⟩ := b.forceBrake_frame l
  exact ⟨hregs.mono (by simp [forcedFields, heldFields, legGates]), hk.mono (by decide),
    congrArg (fun m => (SMap.look default m l).forced) hlegs⟩

theorem Block.interlocked_forceStep (b : Block) : ForceStep l b (b.interlocked l) := by
  obtain ⟨-, -, hleg, -, -, -, -, hregs, hk⟩ := b.interlocked_frame l
  exact ⟨hregs.mono (by simp [forcedFields, heldFields, legGates]), hk, (congrArg Leg.forced hleg :)⟩

theorem Leg.forced_of_plan {x y : Leg} (h : x.plan = y.plan) : x.forced = y.forced := (congrArg Leg.forced h :)

theorem Block.legTo_forceStep (t : Int) (dt : Nat) (upper : Bool) (b : Block) : ForceStep l b (b.legTo l t dt upper) := by
  obtain ⟨-, -, -, -, hplan, hregs, hk⟩ := b.legTo_frame l t dt upper
  exact ⟨hregs.mono (by simp [forcedFields, heldFields, legGates]), hk, Leg.forced_of_plan hplan⟩

/-- A change of the leg's record that leaves its force alone. -/
theorem ForceStep.updLeg {f : Leg → Leg} (h : (f (b.leg l)).forced = (b.leg l).forced) : ForceStep l b (b.updLeg l f) :=
  ⟨fun _ _ => Block.updLeg_rd _ _ _ _, (b.updLeg_keeps l f).mono (by decide),
    (congrArg Leg.forced (Block.leg_updLeg_same _ _ _)).trans h⟩

theorem Block.takeCfg_forceStep (c : LegCfg) (b : Block) : ForceStep l b (b.takeCfg l c) := ForceStep.updLeg rfl

/-- A leg that leaves held has its state still. -/
theorem Block.leaveHeld_forceStep (b : Block) : ForceStep l b (b.leaveHeld l)
    ∧ (b.leaveHeld l).rd (Reg.PWM_LEG_STAT_STATE l) = b.rd (Reg.PWM_LEG_STAT_STATE l) := by
  have hkeys := leg_keys l
  unfold Block.leaveHeld
  extract_lets new c u
  have hcfg := b.takeCfg_forceStep (l := l) c
  have hstate : (b.takeCfg l c).rd (Reg.PWM_LEG_STAT_STATE l) = b.rd (Reg.PWM_LEG_STAT_STATE l) := Block.updLeg_rd _ _ _ _
  generalize b.takeCfg l c = d at *
  have hflag (x : Block) : ForceStep l x (x.flag (Reg.PWM_LEG_STAT_ANCHORED l) true) :=
    ⟨(x.flag_regsBut _ _).mono (by simp [forcedFields]), (x.wr_keeps _ _).mono (by decide), rfl⟩
  refine ⟨(hcfg.trans (ForceStep.updLeg rfl)).trans (hflag _), ?_⟩
  rw [Block.rd_flag_ne _ _ _ _ (by omega), Block.updLeg_rd, hstate]

/-- A leg that is judged and off stays off. -/
theorem Block.judgeLeg_off (hl : l < 24) (h : b.rd (Reg.PWM_LEG_STAT_STATE l) = 0) : ForceStep l b (b.judgeLeg l)
    ∧ (b.judgeLeg l).rd (Reg.PWM_LEG_STAT_STATE l) = 0 := by
  have hheld : ForceStep l b (b.holdLeg l false) ∧ (b.holdLeg l false).rd (Reg.PWM_LEG_STAT_STATE l) = 0 :=
    ⟨b.holdLeg_forceStep false, b.holdLeg_off hl false⟩
  have hsame : ForceStep l b b ∧ b.rd (Reg.PWM_LEG_STAT_STATE l) = 0 := ⟨.refl l b, h⟩
  obtain ⟨hstep, hst⟩ := b.leaveHeld_forceStep (l := l)
  unfold Block.judgeLeg
  split
  · split
    · exact hsame
    · exact hheld
  split
  · split
    · exact hsame
    · exact ⟨hstep, hst.trans h⟩
  split
  · exact hheld
  · exact hsame

/-- The end of a force holds the leg (R252). -/
theorem Block.forceLeg_released (hl : l < 24) (hen : b.on (Reg.PWM_LEG_FORCE_EN l) = false) (hf : (b.leg l).forced = true) :
    RegsBut (forcedFields l) b (b.forceLeg l) ∧ Keeps [.regs, .lv, .out] b (b.forceLeg l)
      ∧ ((b.forceLeg l).leg l).forced = false ∧ (b.forceLeg l).rd (Reg.PWM_LEG_STAT_STATE l) = 0 := by
  unfold Block.forceLeg
  rw [if_pos (by simp [hen]), if_pos hf]
  generalize hc : (b.updLeg l fun x => { x with forced := false }) = c
  have hfree : (c.leg l).forced = false := by
    rw [← hc, Block.leg_updLeg_same]
  have hregs : RegsBut (forcedFields l) b c := hc ▸ fun _ _ => Block.updLeg_rd _ _ _ _
  have hk : Keeps [.regs, .lv, .out] b c := hc ▸ (b.updLeg_keeps _ _).mono (by decide)
  obtain ⟨hhregs, hhk, hhf⟩ := c.holdLeg_forceStep (l := l) false
  have hoff := c.holdLeg_off hl false
  dsimp only
  generalize c.holdLeg l false = d at *
  split
  · exact ⟨hregs.trans hhregs, hk.trans hhk, hhf.trans hfree, hoff⟩
  · obtain ⟨⟨hjregs, hjk, hjf⟩, hj⟩ := Block.judgeLeg_off hl hoff
    exact ⟨(hregs.trans hhregs).trans hjregs, (hk.trans hhk).trans hjk, (hjf.trans hhf).trans hfree, hj⟩

/-! ### What a force that is let through comes to (R251, R252) -/

theorem state_not_brake (l : Nat) :
    (Reg.PWM_LEG_STAT_STATE l).key ∉ [Reg.PWM_BRK_STAT_ON, Reg.PWM_BRK_CNT_COUNT].map Field.key := by
  have hstage := stage_keys
  have hkeys := leg_keys l
  simp only [List.map_cons, List.map_nil, List.mem_cons, List.not_mem_nil, or_false, not_or]
  omega

theorem Block.forceApply_upper (hu : b.on (Reg.PWM_LEG_FORCE_UPPER l) = true) (hlo : b.on (Reg.PWM_LEG_FORCE_LOWER l) = false) :
    ForceStep l b (b.forceApply l) ∧ (b.forceApply l).rd (Reg.PWM_LEG_STAT_STATE l) = 2 := by
  have hkeys := leg_keys l
  unfold Block.forceApply
  simp only [hu, hlo, Bool.and_false, Bool.false_eq_true, if_false, if_true]
  split
  · next h => exact ⟨.refl l b, h⟩
  · refine ⟨(b.legTo_forceStep _ _ _).trans (Block.forceBrake_forceStep _), ?_⟩
    exact ((Block.forceBrake_frame l _).1 _ (state_not_brake l)).trans (b.legTo_frame l _ _ _).1

theorem Block.forceApply_lower (hu : b.on (Reg.PWM_LEG_FORCE_UPPER l) = false) (hlo : b.on (Reg.PWM_LEG_FORCE_LOWER l) = true)
    (hen : b.on (Reg.PWM_LEG_FORCE_EN l) = true) :
    ForceStep l b (b.forceApply l) ∧ (b.forceApply l).rd (Reg.PWM_LEG_STAT_STATE l) = 1
      ∧ (l = 20 → b.rd (Reg.PWM_LEG_STAT_STATE l) ≠ 1 → (b.forceApply l).on Reg.PWM_BRK_STAT_ON = true) := by
  have hkeys := leg_keys l
  have hup := gate_keys (2 * l)
  have hlow := gate_keys (2 * l + 1)
  unfold Block.forceApply
  simp only [hu, hlo, Bool.and_true, Bool.false_eq_true, if_false, if_true]
  split
  · next h => exact ⟨.refl l b, h, fun _ hne => absurd h hne⟩
  · obtain ⟨hst, -, -, -, -, hregs, -⟩ := b.legTo_frame l (b.tickIn 0)
      (if b.rd (Reg.PWM_LEG_STAT_STATE l) = 3 then (b.leg l).dt else 0) false
    have hstep := b.legTo_forceStep (l := l) (b.tickIn 0)
      (if b.rd (Reg.PWM_LEG_STAT_STATE l) = 3 then (b.leg l).dt else 0) false
    generalize b.legTo l _ _ false = c at *
    refine ⟨hstep.trans c.forceBrake_forceStep, ((c.forceBrake_frame l).1 _ (state_not_brake l)).trans hst, fun h20 _ => ?_⟩
    subst h20
    exact Block.forceBrake_on ((Block.on_congr (hregs _ (not_legGates (by omega) (by omega) (by omega)))).trans hen) hst

theorem Block.forceApply_none (hl : l < 24) (hu : b.on (Reg.PWM_LEG_FORCE_UPPER l) = false)
    (hlo : b.on (Reg.PWM_LEG_FORCE_LOWER l) = false) :
    ForceStep l b (b.forceApply l) ∧ (b.forceApply l).rd (Reg.PWM_LEG_STAT_STATE l) = 0 := by
  have heq : b.forceApply l = b.holdLeg l false := by simp [Block.forceApply, hu, hlo]
  rw [heq]
  exact ⟨b.holdLeg_forceStep false, b.holdLeg_off hl false⟩

/-- Both switches are asked for: the interlock acts, where it does not already. -/
theorem Block.forceApply_both (hu : b.on (Reg.PWM_LEG_FORCE_UPPER l) = true) (hlo : b.on (Reg.PWM_LEG_FORCE_LOWER l) = true)
    (hs : (b.leg l).shot = true) : ForceStep l b (b.forceApply l) ∧ (b.forceApply l).rd (Reg.PWM_LEG_STAT_STATE l) = 3
      ∧ (b.forceApply l).rd (Reg.PWM_LEG_ICNT_SHOOT l) = (if b.rd (Reg.PWM_LEG_STAT_STATE l) = 3
          then b.rd (Reg.PWM_LEG_ICNT_SHOOT l) else satNat 16 (b.rd (Reg.PWM_LEG_ICNT_SHOOT l) + 1)) := by
  have heq : b.forceApply l = if b.rd (Reg.PWM_LEG_STAT_STATE l) = 3 then b else b.interlocked l := by
    simp [Block.forceApply, hu, hlo, Block.interlockAct_eq, hs]
  obtain ⟨hst, hshot, -⟩ := b.interlocked_frame l
  rw [heq]
  by_cases h : b.rd (Reg.PWM_LEG_STAT_STATE l) = 3
  · rw [if_pos h, if_pos h]
    exact ⟨.refl l b, h, rfl⟩
  · rw [if_neg h, if_neg h]
    exact ⟨b.interlocked_forceStep, hst, hshot⟩

/-! ### Which forces are let through (R252) -/

/-- The fields that let a force through, beside the token. -/
def Block.forceThrough (b : Block) (l : Nat) : Prop :=
  b.on (Reg.GATE_CH_STAT_POWERED (2 * l)) = true ∧ b.on (Reg.GATE_CH_STAT_POWERED (2 * l + 1)) = true
    ∧ b.on (Reg.PWM_LEG_STAT_FENCED l) = false ∧ (b.on Reg.PWM_STAT_MULTI = false ∨ l = 20)
    ∧ ∀ g, groupOf l = some g → b.bit Reg.PWM_DIAG_STAT_BUSY g = false

theorem Block.mayForce_iff (hh : b.holds = true) : b.mayForce l = true ↔ b.forceThrough l := by
  unfold Block.mayForce Block.forceThrough
  cases groupOf l <;> simp [hh, and_assoc]

/-- The fields of PWM_LEG_FORCE. -/
def forceRegs (l : Nat) : List Field := [Reg.PWM_LEG_FORCE_EN l, Reg.PWM_LEG_FORCE_UPPER l, Reg.PWM_LEG_FORCE_LOWER l]

theorem forceRegs_keys {f : Field} (h : f ∈ forceRegs l) :
    0x200 * l + 0x2000100 ≤ f.key ∧ f.key ≤ 0x200 * l + 0x2000102 := by
  have hl := leg_keys l
  simp only [forceRegs, List.mem_cons, List.not_mem_nil, or_false] at h
  obtain rfl | rfl | rfl := h <;> omega

theorem not_forceRegs {f : Field} (h : f.key < 0x200 * l + 0x2000100 ∨ 0x200 * l + 0x2000102 < f.key) :
    f.key ∉ (forceRegs l).map Field.key := by
  intro hm
  obtain ⟨g, hg, hk⟩ := List.mem_map.mp hm
  have := forceRegs_keys hg
  omega

/-- A write of PWM_LEG_FORCE does not change what lets it through. -/
theorem Block.forceThrough_congr {c : Block} (h : RegsBut (forceRegs l) b c) :
    c.forceThrough l ↔ b.forceThrough l := by
  have hstage := stage_keys
  have hkeys := leg_keys l
  have hgate (ch : Nat) : c.on (Reg.GATE_CH_STAT_POWERED ch) = b.on (Reg.GATE_CH_STAT_POWERED ch) := by
    have := gate_keys ch
    exact Block.on_congr (h _ (not_forceRegs (by omega)))
  have hfenced := Block.on_congr (h (Reg.PWM_LEG_STAT_FENCED l) (not_forceRegs (by omega)))
  have hmulti := Block.on_congr (h Reg.PWM_STAT_MULTI (not_forceRegs (by omega)))
  have hbusy (g : Nat) : c.bit Reg.PWM_DIAG_STAT_BUSY g = b.bit Reg.PWM_DIAG_STAT_BUSY g :=
    congrArg (Nat.testBit · g) (h _ (not_forceRegs (by omega)))
  simp only [Block.forceThrough, hgate, hfenced, hmulti, hbusy]

theorem Block.holds_forceRegs {c : Block} (h : RegsBut (forceRegs l) b c) : c.holds = b.holds := by
  have hen : Reg.SYS_PAIR_CFG_EN.key < 0x2000000 := by decide
  have htok : Reg.SYS_PAIR_STAT_TOKEN.key < 0x2000000 := by decide
  exact Block.holds_of_rd (h _ (not_forceRegs (by omega))) (h _ (not_forceRegs (by omega)))

/-- With no level known at a trip pin, no trip is judged. -/
theorem Block.tripsJudge_none (h : b.lv.tripPins = []) : b.tripsJudge = b := by
  have hjudge (k : Nat) : b.tripJudge k = b := by
    rw [Block.tripJudge, h]
    rfl
  unfold Block.tripsJudge Block.each
  generalize List.range 16 = ks
  induction ks with
  | nil => rfl
  | cons k r ih => exact (congrArg (fun c => r.foldl (fun b k => b.tripJudge k) c) (hjudge k)).trans ih

/-- The leg takes its fields, and is forced. -/
def Block.forceTaken (l : Nat) (b : Block) : Block :=
  (b.takeCfg l (b.cfgAt l (b.tickIn 0))).updLeg l fun x => { x with forced := true }

theorem Block.forceTaken_frame (l : Nat) (b : Block) : RegsBut [] b (b.forceTaken l) ∧ Keeps [.lv] b (b.forceTaken l)
    ∧ ((b.forceTaken l).leg l).forced = true ∧ ((b.forceTaken l).leg l).shot = (b.leg l).shot := by
  refine ⟨fun _ _ => rfl, (b.updLeg_keeps _ _).trans (Block.updLeg_keeps _ _ _), ?_, ?_⟩
  · rw [Block.forceTaken, Block.leg_updLeg_same]
  · rw [Block.forceTaken, Block.leg_updLeg_same, Block.takeCfg, Block.leg_updLeg_same]

theorem Block.forceLeg_on (hen : b.on (Reg.PWM_LEG_FORCE_EN l) = true) (hp : b.lv.tripPins = []) : b.forceLeg l =
    if (b.forceTaken l).mayForce l then (b.forceTaken l).forceApply l else b.forceTaken l := by
  have hjudge : (b.forceTaken l).tripsJudge = b.forceTaken l := Block.tripsJudge_none hp
  unfold Block.forceLeg
  rw [if_neg (by simp [hen])]
  show (let c := (b.forceTaken l).tripsJudge
    if c.mayForce l then c.forceApply l else c) = _
  rw [hjudge]

/-! ### The write of PWM_LEG_FORCE (R72, R252, R268) -/

theorem writeFields_force : ∀ l : Fin 24, writeFields (Reg.PWM_LEG_FORCE_EN l).addr = some (forceRegs l) := by
  decide +kernel

theorem forceRegs_plain (l : Nat) : ∀ f ∈ forceRegs l, f.isCr = false := by
  simp only [forceRegs, List.forall_mem_cons]
  exact ⟨rfl, rfl, rfl, nofun⟩

theorem force_addr (l : Nat) : (Reg.PWM_LEG_FORCE_EN l).addr = 0x400020 + 0x40 * l := rfl

/-- The rule of R252 is the one that looks at the register. -/
theorem Block.denyWrite_force (hl : l < 24) (v : Nat) (b : Block) : b.denyWrite (Reg.PWM_LEG_FORCE_EN l).addr v =
    if !v.testBit 0 then 0 else if !(b.rd Reg.SYS_CONV_STAT_STATE == 0) then 1 else if !b.holds then 2 else 0 := by
  rw [force_addr, Block.denyWrite, if_neg (by omega), if_neg (by omega), if_neg (by omega), if_neg (by omega),
    if_neg (by omega), if_neg (by omega), if_neg (by omega), if_neg (by omega), if_pos (by omega)]

theorem Block.writeAct_force (hl : l < 24) (v : Nat) (held : Bool) (b : Block) :
    b.writeAct (Reg.PWM_LEG_FORCE_EN l).addr v held = b.forceLeg l := by
  have hleg : (0x400020 + 0x40 * l - 0x400020) / 0x40 = l := by omega
  rw [force_addr, Block.writeAct, if_neg (by omega), if_neg (by omega), if_neg (by omega), if_neg (by omega), if_neg (by omega),
    if_neg (by omega), if_neg (by omega), if_pos (by omega), hleg]

/-- The fields are written, and the force applies or ends. -/
theorem Block.writeOne_force (hl : l < 24) (v : Nat) (b : Block) :
    b.writeOne (Reg.PWM_LEG_FORCE_EN l).addr v (forceRegs l) = (b.writeLive (forceRegs l) v).forceLeg l := by
  have hmod : moduleChannel (Reg.PWM_LEG_FORCE_EN l).addr = false := by
    rw [force_addr, moduleChannel]
    exact decide_eq_false (by omega)
  simp only [Block.writeOne, hmod, Block.writeMaq_plain (forceRegs_plain l), Block.writeAct_force hl, Bool.false_eq_true,
    if_false]

/-- The fields of PWM_LEG_FORCE take the bits of the word. -/
theorem Block.writeForce_on (l : Fin 24) (v : Nat) (b : Block) :
    (b.writeLive (forceRegs l) v).on (Reg.PWM_LEG_FORCE_EN l) = v.testBit 0
    ∧ (b.writeLive (forceRegs l) v).on (Reg.PWM_LEG_FORCE_UPPER l) = v.testBit 1
    ∧ (b.writeLive (forceRegs l) v).on (Reg.PWM_LEG_FORCE_LOWER l) = v.testBit 2
    ∧ RegsBut (forceRegs l) b (b.writeLive (forceRegs l) v) ∧ Keeps [.regs] b (b.writeLive (forceRegs l) v) := by
  have hbit {f : Field} (hf : f ∈ forceRegs l) (hrw : f.acc = .rw) (hw : f.width = 1) :
      (b.writeLive (forceRegs l) v).on f = v.testBit f.lo := by
    rw [Block.on, Block.writeLive_rd_written (writeFields_force l) hf hrw, hw, Nat.testBit_eq_decide_div_mod_eq]
    rcases Nat.mod_two_eq_zero_or_one (v / 2 ^ f.lo) with h | h <;> simp [h]
  have hregs : RegsBut (forceRegs l) b (b.writeLive (forceRegs l) v) := fun g hg =>
    Block.writeLive_rd_ne (fun f hf hk => hg (List.mem_map.mpr ⟨f, hf, hk.symm⟩)) v b
  exact ⟨hbit (by simp [forceRegs]) rfl rfl, hbit (by simp [forceRegs]) rfl rfl, hbit (by simp [forceRegs]) rfl rfl, hregs,
    Block.writeLive_keeps _ _ _⟩

section
variable {s : State} {rq : Req} {n : Fin 24} {v : Word}

theorem does_force_denied {d : Nat} (ht : AtTurn s.blk rq 0x11)
    (hd : s.blk.denyWrite (Reg.PWM_LEG_FORCE_EN n).addr v.toNat = d) (h0 : d ≠ 0) :
    Does (.pwmLegForceWrite rq n v) s fun t => Answered s.blk t rq 0x11 stDenied d [] ∧ RegsBut endFields s.blk t
      ∧ Keeps endParts s.blk t :=
  does_denied rfl ht (writeFields_force n) (writesMaq_eq_false (writeFields_force n) (forceRegs_plain n)) hd h0

/-- A write of PWM_LEG_FORCE that is taken: the reply changes its own fields alone. -/
theorem does_force {post : Block → Prop} (ht : AtTurn s.blk rq 0x11)
    (hd : s.blk.denyWrite (Reg.PWM_LEG_FORCE_EN n).addr v.toNat = 0)
    (hpost : ∀ t : Block, let x := (s.blk.writeLive (forceRegs n) v.toNat).forceLeg n
      RegsBut endFields x t → t.lv = x.lv → Keeps endParts x t → post t) :
    Does (.pwmLegForceWrite rq n v) s fun t =>
      Answered s.blk t rq 0x11 stOk 0 (be 4 (Reg.PWM_LEG_FORCE_EN n).addr) ∧ post t := by
  refine does_write (forceRegs n) rfl ht (writeFields_force n)
    (writesMaq_eq_false (writeFields_force n) (forceRegs_plain n)) hd (congrArg JarvasSt.queue (Block.writeOne_jv _ _ _ _)) ?_
  rw [Block.writeOne_force n.isLt]
  exact hpost _ (fun g hg => Block.finish_rd hg) Block.finish_lv Block.finish_keeps

theorem not_endField {f : Field} (h : 0x2000000 ≤ f.key) : f.key ∉ endFields.map Field.key := by
  have hlast : Reg.SYS_SEQ_LAST_SEQ.key < 0x2000000 := by decide
  have hvalid : Reg.SYS_CMD_STAT_SEQ_VALID.key < 0x2000000 := by decide
  have hrestarted : Reg.SYS_CMD_STAT_RESTARTED.key < 0x2000000 := by decide
  simp only [endFields, List.map_cons, List.map_nil, List.mem_cons, List.not_mem_nil, or_false, not_or]
  omega

theorem forceEn_not_forced (l : Nat) : (Reg.PWM_LEG_FORCE_EN l).key ∉ (forcedFields l).map Field.key := by
  have hstage := stage_keys
  have hl := leg_keys l
  have h20 := leg_keys 20
  have hup := gate_keys (2 * l)
  have hlow := gate_keys (2 * l + 1)
  have h41 := gate_keys 41
  have hanchored : (Reg.PWM_LEG_STAT_ANCHORED l).key = 0x200 * l + 0x2000124 := hl.2.2.2.2.2.2.2.1
  have hcount : Reg.PWM_BRK_CNT_COUNT.key = 0x2005060 := by decide
  simp only [forcedFields, heldFields, legGates, List.map_append, List.map_cons, List.map_nil, List.mem_append, List.mem_cons,
    List.not_mem_nil, or_false, not_or]
  omega

/-- A write of PWM_LEG_FORCE that is taken, by what it comes to. -/
theorem does_force_taken {on : Bool} {x : Block} {post : Block → Prop} (ht : AtTurn s.blk rq 0x11)
    (hd : s.blk.denyWrite (Reg.PWM_LEG_FORCE_EN n).addr v.toNat = 0) (hon : v.toNat.testBit 0 = on)
    (hx : (s.blk.writeLive (forceRegs n) v.toNat).forceLeg n = x)
    (hregs : RegsBut (forcedFields n) (s.blk.writeLive (forceRegs n) v.toNat) x)
    (hk : Keeps [.regs, .lv, .out] (s.blk.writeLive (forceRegs n) v.toNat) x) (hf : (x.leg n).forced = on)
    (hpost : ∀ t : Block, (∀ g : Field, 0x2000000 ≤ g.key → t.rd g = x.rd g) → RegsBut endFields x t →
      Keeps (.lv :: endParts) s.blk t → post t) :
    Does (.pwmLegForceWrite rq n v) s fun t => (Answered s.blk t rq 0x11 stOk 0 (be 4 (Reg.PWM_LEG_FORCE_EN n).addr)
      ∧ t.on (Reg.PWM_LEG_FORCE_EN n) = on ∧ (t.leg n).forced = on) ∧ post t := by
  have hkeys := leg_keys n
  obtain ⟨hen, -, -, -, hwk⟩ := s.blk.writeForce_on n v.toNat
  have hdone := does_force (rq := rq) (v := v) (post := fun t =>
    (t.on (Reg.PWM_LEG_FORCE_EN n) = on ∧ (t.leg n).forced = on) ∧ post t) ht hd fun t hrd hlv hkt => by
      rw [hx] at hrd hlv hkt
      have hen' : t.on (Reg.PWM_LEG_FORCE_EN n) = on :=
        (Block.on_congr ((hrd _ (not_endField (by omega))).trans (hregs _ (forceEn_not_forced n)))).trans (hen.trans hon)
      have hforced : (t.leg n).forced = on := (congrArg (fun w : LvSt => (SMap.look default w.legs n).forced) hlv).trans hf
      exact ⟨⟨hen', hforced⟩, hpost t (fun g hg => hrd g (not_endField hg)) hrd
        (((hwk.mono (by decide)).andThen hk (by decide)).andThen hkt (by decide))⟩
  exact hdone.imp fun t ⟨ha, hmarks, hp⟩ => ⟨⟨ha, hmarks⟩, hp⟩

/-- The block whose leg is about to follow its force: the word is written, and the leg is forced. -/
theorem Block.forceTaken_written (hv : v.toNat.testBit 0 = true) (hp : b.lv.tripPins = []) (hh : b.holds = true) :
    let c := b.writeLive (forceRegs n) v.toNat
    let d := c.forceTaken n
    c.forceLeg n = (if d.mayForce n then d.forceApply n else d) ∧ (d.mayForce n = true ↔ b.forceThrough n)
      ∧ RegsBut (forceRegs n) b d ∧ RegsBut (forcedFields n) c d ∧ Keeps [.regs, .lv, .out] c d ∧ (d.leg n).forced = true
      ∧ (d.leg n).shot = (b.leg n).shot ∧ d.on (Reg.PWM_LEG_FORCE_EN n) = true
      ∧ d.on (Reg.PWM_LEG_FORCE_UPPER n) = v.toNat.testBit 1 ∧ d.on (Reg.PWM_LEG_FORCE_LOWER n) = v.toNat.testBit 2 := by
  obtain ⟨hen, hup, hlo, hregs, hwk⟩ := b.writeForce_on n v.toNat
  have hlv : (b.writeLive (forceRegs n) v.toNat).lv = b.lv := hwk .lv (by decide)
  dsimp only
  generalize b.writeLive (forceRegs n) v.toNat = c at *
  obtain ⟨hdregs, hdk, hforced, hshot⟩ := c.forceTaken_frame n
  have hleg := Block.forceLeg_on (b := c) (l := n) (hen.trans hv) (hlv ▸ hp)
  generalize c.forceTaken n = d at *
  have hd : RegsBut (forceRegs n) b d := hregs.trans (hdregs.mono (by simp))
  have hrd (g : Field) : d.rd g = c.rd g := hdregs g (by simp)
  refine ⟨hleg, (Block.mayForce_iff ((Block.holds_forceRegs hd).trans hh)).trans (Block.forceThrough_congr hd), hd,
    hdregs.mono (by simp), hdk.mono (by decide), hforced, hshot.trans ?_, ?_, ?_, ?_⟩
  · rw [Block.leg, Block.leg, hlv]
  · exact (Block.on_congr (hrd _)).trans (hen.trans hv)
  · exact (Block.on_congr (hrd _)).trans hup
  · exact (Block.on_congr (hrd _)).trans hlo

end

end

/-! ### The statement -/

/-- Settles O29: the interlock before it is raised (`Block.interlocked_frame`), the fence of a leg (`Block.fenceLeg_marks`), and
    for a force its write (`does_force_taken`) with each case of `Block.forceApply`. -/
theorem interlockAndForce : Obligations.InterlockAndForce := by
  unfold Obligations.InterlockAndForce
  refine ⟨fun s l => ⟨fun hs => ?_, fun hs hlog => ?_, fun since hs hr hf => ?_⟩, fun s rq l v ht => ?_⟩
  case refine_1 =>
    refine does_onBlk rfl ?_
    rw [Block.interlockAct_eq, if_pos hs]
    obtain ⟨hst, hshot, hleg, hup, hlow, hbrake, hout, hregs, hk⟩ := s.blk.interlocked_frame l
    exact ⟨hst, hshot, (congrArg Leg.lockSince hleg :), (congrArg Leg.dead hleg :), (congrArg Leg.restAt hleg :), hup, hlow,
      hbrake, hout, hregs.mono (by simp [legGates]), hk⟩
  case refine_2 =>
    have hsource : 164 < 256 ∧ 164 ≠ 101 := by decide
    refine does_onBlk rfl ?_
    rw [Block.interlockAct_eq, if_neg (by simp [hs])]
    exact (s.blk.interlocked_onStage l.isLt).raise_logs hsource.1 hsource.2 hlog
  case refine_3 =>
    exact does_onBlk rfl (Block.interlockPersist_fences l.isLt hs hr hf)
  have hdeny := Block.denyWrite_force l.isLt v.toNat s.blk
  have hkeys := leg_keys l
  have hstage := stage_keys
  refine ⟨fun hv hoff => ?_, fun hv hoff hh => ?_, fun hv hoff hh hp => ?_, fun hv hf => ?_, fun hv hf => ?_⟩
  case refine_1 =>
    exact does_force_denied ht (by simpa [hv, hoff] using hdeny) (by decide)
  case refine_2 =>
    exact does_force_denied ht (by simpa [hv, hoff, hh] using hdeny) (by decide)
  case refine_3 =>
    have hd0 : s.blk.denyWrite (Reg.PWM_LEG_FORCE_EN l).addr v.toNat = 0 := by simpa [hv, hoff, hh] using hdeny
    obtain ⟨hleg, hmay, hwas, hregs, hk, hforced, hshot, hen, hup, hlo⟩ := Block.forceTaken_written (n := l) hv hp hh
    generalize (s.blk.writeLive (forceRegs l) v.toNat).forceTaken l = d at *
    have hstate : d.rd (Reg.PWM_LEG_STAT_STATE l) = s.blk.rd (Reg.PWM_LEG_STAT_STATE l) := hwas _ (not_forceRegs (by omega))
    have hshots : d.rd (Reg.PWM_LEG_ICNT_SHOOT l) = s.blk.rd (Reg.PWM_LEG_ICNT_SHOOT l) := hwas _ (not_forceRegs (by omega))
    have htaken {x : Block} {post : Block → Prop} (hx : (s.blk.writeLive (forceRegs l) v.toNat).forceLeg l = x)
        (hstep : ForceStep l d x) (hpost : ∀ t : Block, (∀ g : Field, 0x2000000 ≤ g.key → t.rd g = x.rd g) →
          RegsBut endFields x t → Keeps (.lv :: endParts) s.blk t → post t) :=
      does_force_taken ht hd0 rfl hx (hregs.trans hstep.1) (hk.trans hstep.2.1) ((hstep.2.2.trans hforced).trans hv.symm) hpost
    have happly (hthru : s.blk.forceThrough l) := hleg.trans (if_pos (hmay.mpr hthru))
    refine ⟨fun hthru h1 h2 => ?_, fun hthru h1 h2 => ?_, fun hthru h1 h2 => ?_, fun hthru h1 h2 hs => ?_, fun hthru => ?_⟩
    · obtain ⟨hstep, hst⟩ := Block.forceApply_upper (hup.trans h1) (hlo.trans h2)
      exact htaken (happly hthru) hstep fun t hrd _ hkt => ⟨(hrd _ (by omega)).trans hst, hkt⟩
    · obtain ⟨hstep, hst, hbrake⟩ := Block.forceApply_lower (hup.trans h1) (hlo.trans h2) hen
      exact htaken (happly hthru) hstep fun t hrd _ hkt => ⟨(hrd _ (by omega)).trans hst, fun h20 hne =>
        (Block.on_congr (hrd _ (by omega))).trans (hbrake h20 (hstate ▸ hne)), hkt⟩
    · obtain ⟨hstep, hst⟩ := Block.forceApply_none l.isLt (hup.trans h1) (hlo.trans h2)
      exact htaken (happly hthru) hstep fun t hrd _ hkt => ⟨(hrd _ (by omega)).trans hst, hkt⟩
    · obtain ⟨hstep, hst, hcount⟩ := Block.forceApply_both (hup.trans h1) (hlo.trans h2) (hshot.trans hs)
      rw [hstate, hshots] at hcount
      exact htaken (happly hthru) hstep fun t hrd _ hkt => ⟨(hrd _ (by omega)).trans hst,
        fun hne => (hrd _ (by omega)).trans (hcount.trans (if_neg hne)),
        fun h3 => (hrd _ (by omega)).trans (hcount.trans (if_pos h3)), hkt⟩
    · have hsame := hleg.trans (if_neg fun hm => hthru (hmay.mp hm))
      exact htaken hsame (.refl l d) fun t hrd hend hkt => ⟨(hrd _ (by omega)).trans hstate, hwas.trans_append hend, hkt⟩
  case refine_4 =>
    obtain ⟨hen, -, -, hregs, hk⟩ := s.blk.writeForce_on l v.toNat
    have hlv : (s.blk.writeLive (forceRegs l) v.toNat).lv = s.blk.lv := hk .lv (by decide)
    obtain ⟨hfregs, hfk, hfree, hst⟩ := Block.forceLeg_released l.isLt (hen.trans hv)
      ((congrArg (fun w : LvSt => (SMap.look default w.legs l).forced) hlv).trans hf)
    exact does_force_taken ht (by simpa [hv] using hdeny) rfl rfl hfregs hfk (hfree.trans hv.symm)
      fun t hrd _ hkt => ⟨(hrd _ (by omega)).trans hst, hkt⟩
  case refine_5 =>
    obtain ⟨hen, -, -, hregs, hk⟩ := s.blk.writeForce_on l v.toNat
    have hlv : (s.blk.writeLive (forceRegs l) v.toNat).lv = s.blk.lv := hk .lv (by decide)
    have hfree : ((s.blk.writeLive (forceRegs l) v.toNat).leg l).forced = false :=
      (congrArg (fun w : LvSt => (SMap.look default w.legs l).forced) hlv).trans hf
    have hsame : (s.blk.writeLive (forceRegs l) v.toNat).forceLeg l = s.blk.writeLive (forceRegs l) v.toNat := by
      simp [Block.forceLeg, hen.trans hv, hfree]
    have hdone := does_force (rq := rq) (n := l) (v := v) (post := fun t => (t.on (Reg.PWM_LEG_FORCE_EN l) = v.toNat.testBit 0
      ∧ (t.leg l).forced = v.toNat.testBit 0) ∧ RegsBut (forceRegs l ++ endFields) s.blk t ∧ Keeps endParts s.blk t) ht
      (by simpa [hv] using hdeny) fun t hrd htlv hkt => by
        rw [hsame] at hrd htlv hkt
        exact ⟨⟨(Block.on_congr (hrd _ (not_endField (by omega)))).trans hen,
          ((congrArg (fun w : LvSt => (SMap.look default w.legs l).forced) htlv).trans hfree).trans hv.symm⟩,
          hregs.trans_append hrd, (hk.mono (by decide)).trans hkt⟩
    exact hdone.imp fun t ⟨ha, hmarks, hframe⟩ => ⟨⟨ha, hmarks⟩, hframe⟩

end Sys2Proof.Machine
end
